-- ==== Sys2Proof/Word.lean ====
section
/-! DEFINITION. Words and bytes, and the sparse maps that hold large arrays of state as plain data: a list of
(key, value) pairs with strictly rising keys and no pair equal to what an unlisted key reads as. -/

namespace Sys2Proof

/-- R12: every register is 32 bits wide. -/
abbrev Word := BitVec 32

/-- One byte of a memory or of a frame. -/
abbrev Byte := BitVec 8

/-- A map held as plain data: (key, value) pairs, keys strictly rising. What an unlisted key reads as is the default
function that every operation below takes. -/
abbrev Sparse (α : Type) := List (Nat × α)

/-- The value at a key, with the default of the map for a key that is not listed. -/
def Sparse.get {α : Type} (dflt : Nat → α) : Sparse α → Nat → α
  | [], k => dflt k
  | (k', v) :: t, k => if k = k' then v else Sparse.get dflt t k

/-- The map with one pair put in its place by key. -/
def Sparse.put {α : Type} : Sparse α → Nat → α → Sparse α
  | [], k, v => [(k, v)]
  | (k', v') :: t, k, v =>
    if k < k' then (k, v) :: (k', v') :: t
    else if k = k' then (k, v) :: t
    else (k', v') :: Sparse.put t k v

/-- The map without the pairs of a key (a canonical map has one at most). -/
def Sparse.erase {α : Type} : Sparse α → Nat → Sparse α
  | [], _ => []
  | (k', v') :: t, k => if k = k' then Sparse.erase t k else (k', v') :: Sparse.erase t k

/-- Write one key. Writing what an unlisted key reads as removes the pair, so equal maps are equal lists. -/
def Sparse.set {α : Type} [DecidableEq α] (dflt : Nat → α) (m : Sparse α) (k : Nat) (v : α) : Sparse α :=
  if v = dflt k then Sparse.erase m k else Sparse.put m k v

/-- Change every listed value by a function that leaves defaults alone; pairs that become the default go. -/
def Sparse.mapVals {α : Type} [DecidableEq α] (dflt : Nat → α) (f : α → α) : Sparse α → Sparse α
  | [] => []
  | (k, v) :: t =>
    if f v = dflt k then Sparse.mapVals dflt f t else (k, f v) :: Sparse.mapVals dflt f t

/-- Change every listed value by a function of its key too; pairs that become the default go. -/
def Sparse.mapWith {α : Type} [DecidableEq α] (dflt : Nat → α) (f : Nat → α → α) : Sparse α → Sparse α
  | [] => []
  | (k, v) :: t =>
    if f k v = dflt k then Sparse.mapWith dflt f t else (k, f k v) :: Sparse.mapWith dflt f t

/-- Every listed key lies above a bound, in rising order, and no listed value is the default of its key. -/
def Sparse.wfFrom {α : Type} [DecidableEq α] (dflt : Nat → α) : Nat → Sparse α → Bool
  | _, [] => true
  | lo, (k, v) :: t => decide (lo ≤ k) && decide (v ≠ dflt k) && Sparse.wfFrom dflt (k + 1) t

/-- The canonical form of a sparse map. -/
def Sparse.wf {α : Type} [DecidableEq α] (dflt : Nat → α) (m : Sparse α) : Bool :=
  Sparse.wfFrom dflt 0 m

end Sys2Proof
end

