-- ==== Sys2Proof/Syntax.lean ====
section
/-! DEFINITION. The commands of the block: one constructor for each row of spec/opcode_table.json, with the operands
the outside world supplies: the command port and the word written, the index of the resource an event befalls, and
what the physical world shows (a conversion's codes, a received frame, a temperature). Everything else comes from the
state. -/

namespace Sys2Proof

/-- R498: the four command ports. -/
inductive CmdPort where
  | pcie | smp | inband | jtag
  deriving DecidableEq, Repr

/-- The two controllers, R409. -/
inductive Ctl where
  | a | b
  deriving DecidableEq, Repr

/-- What the receiver of a detector saw in a burst window (R232, R632): the ingress port whose burst light reached it,
if a start delimiter came; the symbol errors of each codeword; the bits of the decoded content that differ from what was
sent, where the decoder corrected wrongly. -/
structure RxObs where
  light : Option (Fin 512)
  errs : List Nat
  flips : List Nat
  deriving DecidableEq, Repr

/-- A frame as the MAC of a port completes it (R259): the bytes from the first byte after the SFD through the FCS, the
verdict on its FCS, whether loss of link cut it short, how many ticks ago the time-stamp point of R274 came and how many
1/64 ns after its tick, the bundle member lane that carried it, and the codewords that the PCS corrected and could not correct
since the frame before (R257). -/
structure RxFrame where
  bytes : List Byte
  fcsGood : Bool
  aborted : Bool
  age : Nat
  sub : Fin 80
  member : Fin 8
  corrected : Nat
  uncorrected : Nat
  deriving DecidableEq, Repr

/-- What one read of a segment or table unit showed (R330, R331). -/
inductive EccResult where
  | clean | corrected | uncorrectable
  deriving DecidableEq, Repr

/-- What the patrol scrub reads (R336): a segment by its ID (R326) or a 64-byte unit of the table region. -/
inductive ScrubTarget where
  | segment (id : BitVec 32)
  | table (unit : BitVec 26)
  deriving DecidableEq, Repr

/-- A reading of the segment store that was not clean: the segment ID and what was shown. -/
structure SegRead where
  seg : BitVec 32
  res : EccResult
  deriving DecidableEq, Repr

/-- The averages of one ADC unit at inputs 106 and 104, as sums of 4,096 conversion codes (R164). -/
structure AdcMeas where
  unit : Fin 100
  sum106 : Nat
  sum104 : Nat
  deriving DecidableEq, Repr

/-- A fault report as a detecting block sends it (R436, R437, R443): block code, source index and class 0 to 3. The
device time of detection travels with the report in the state. -/
structure FaultRep where
  block : Fin 16
  src : BitVec 12
  cls : Fin 4
  deriving DecidableEq, Repr

/-- The three thresholds of a thermal zone (R462). -/
inductive Threshold where
  | warning | throttle | shutdown
  deriving DecidableEq, Repr

/-- The clocks whose SEC_LO read latches (R382). -/
inductive TimClock where
  | device | a | b
  deriving DecidableEq, Repr

/-- A debug access over JTAG (R514): a class 0 register read, or a class 5 access to controller memory. -/
inductive JtagAccess where
  | read (addr : BitVec 28)
  | memory (addr : Word)
  deriving DecidableEq, Repr

/-- The conversions of one tap reading (R146): the codes of the averaged ones, their OVR flags, and the OVR flags of the
three invalid conversions before them. A reading in repair averages only the first (R159). -/
structure TapCodes where
  c0 : BitVec 14
  c1 : BitVec 14
  c2 : BitVec 14
  c3 : BitVec 14
  ovr : BitVec 4
  pre : BitVec 3
  deriving DecidableEq, Repr

/-- The residual of a preamble and what a cold lock measured, at one receiver (R226, R228): r in 1/64 UI, and the
sampling phase, word offset and gain that a cold lock writes; none where it does not lock. -/
structure PreambleObs where
  det : Fin 512
  residual : Int
  cold : Option (BitVec 6 × BitVec 6 × BitVec 8)
  deriving DecidableEq, Repr

/-- Three conversions of one ADC unit at its reference inputs 104 to 106 (R159). -/
structure RefCodes where
  unit : Fin 100
  r0 : Word
  r1 : Word
  r2 : Word
  deriving DecidableEq, Repr

/-- Samples of the tap that the pair lent to a Loupe unit reads (Table: Loupe sources, KIND 0), oldest first. -/
structure TapSamples where
  unit : Fin 8
  samples : List (BitVec 16)
  deriving DecidableEq, Repr

/-- The commands. -/
inductive Instr where
  | loopSampleBoundary
  | tapCapture
  | tapReading (t : Fin 10304) (codes : TapCodes)
  | elementIteration (c : Ctl) (e : Fin 4608)
  | selectorIteration (c : Ctl) (l : Fin 48)
  | overrun (c : Ctl) (p : Fin 52)
  | spareEngineTakeover (c : Ctl) (l : Fin 48)
  | acqTimeout (c : Ctl) (e : Fin 5120)
  | coeffBankWrite (p : CmdPort) (l : Fin 48) (b : Fin 2) (w : Fin 32) (v : Word)
  | swapReq (p : CmdPort) (v : Word)
  | swapCancel (p : CmdPort) (v : Word)
  | coeffBankSwap
  | targetWrite (p : CmdPort) (e : Fin 5120) (v : Word)
  | excitationWrite (p : CmdPort) (v : Word)
  | modeRequest (p : CmdPort) (v : Word)
  | slewStep (e : Fin 5120)
  | complianceSet (e : Fin 5120)
  | openloadSet (e : Fin 5120)
  | openloadClear (e : Fin 5120)
  | rangeRequest (p : CmdPort) (v : Word)
  | rangeSwitch (e : Fin 5120)
  | rangeRampBack (e : Fin 5120)
  | rangeChangeEnd (e : Fin 5120)
  | sliceCorrection (u : Fin 100) (i : Fin 4) (offset gain skew : Int)
  | directResult (u : Fin 100) (code : BitVec 14) (ovrs : Nat)
  | auConfigWrite (p : CmdPort) (u : Fin 100) (v : Word)
  | auConfigApply (u : Fin 100)
  | adcDataRead (p : CmdPort) (u : Fin 100)
  | auFailed (r : RefCodes)
  | slotBoundary (k : Fin 4)
  | receiverPhaseLoad
  | preambleEnd (o : PreambleObs)
  | guardEnd
  | matrixRoute
  | finalListDelivery (reads : List (Fin 16 × SegRead))
  | rotationReroute
  | parkRequest (p : CmdPort) (v : Word)
  | parkEffect (e : Fin 4608)
  | emitterFailed (n : Fin 32) (i : Fin 17)
  | spareTakeover (n : Fin 32)
  | spareRelease (n : Fin 32)
  | forceSpare (p : CmdPort) (n : Fin 32) (v : Word)
  | lightReturn (k : Fin 512)
  | permRead (p : CmdPort) (v : Word)
  | calInterpolation
  | startFull (p : CmdPort) (v : Word)
  | fullCalibrationStep (adc : List AdcMeas)
  | fullCalibrationDone
  | trialCapture (taps : List (Fin 10304)) (codes : List TapCodes) (adc : List AdcMeas)
  | stageResultApply
  | calStore (p : CmdPort) (v : Word)
  | storeComplete
  | calDelete (p : CmdPort) (v : Word)
  | setRead (p : CmdPort) (v : Word)
  | prismStart
  | templateWrite (p : CmdPort) (c : Fin 2) (t : Fin 8) (w : Fin 64) (v : Word)
  | calLenWrite (p : CmdPort) (c : Fin 2) (v : Word)
  | changeReq (p : CmdPort) (v : Word)
  | changeCancel (p : CmdPort) (v : Word)
  | calendarTakeover
  | notice (i j : Fin 512)
  | burstVerdict (j : Fin 512) (o : RxObs)
  | ack (i j : Fin 512)
  | nack (i j : Fin 512)
  | ackTimeout (i j : Fin 512)
  | retransmitRead (i j : Fin 512) (reads : List SegRead)
  | gapRequest (i j : Fin 512)
  | gapTimeout (i j : Fin 512)
  | gap (i j : Fin 512)
  | chipletLoss (c : Fin 16)
  | snapshotReq (p : CmdPort) (v : Word)
  | snapshotLatch
  | phaseRead (p : CmdPort) (v : Word)
  | frameReceived (k : Fin 512) (f : RxFrame)
  | pauseExpiry (k : Fin 512) (prio : Fin 8)
  | commandReply (k : Fin 512)
  | linkUp (k : Fin 512)
  | trainingRetry (k : Fin 512)
  | linkDown (k : Fin 512) (cutFrame : Bool)
  | retrain (p : CmdPort) (k : Fin 512) (v : Word)
  | linkFaultReceived (k : Fin 512) (localFault : Bool)
  | laneRemap (p : CmdPort) (c : Fin 16) (v : Word) (cutFrame : Bool)
  | remapSwitch (c : Fin 16)
  | pfcFrameSend (k : Fin 512)
  | pfcRefresh (k : Fin 512)
  | frameTransmitStart (k : Fin 512) (sub : Fin 80) (member : Fin 8) (reads : List SegRead)
  | frameSent (k : Fin 512)
  | parseDispatch (c : Fin 16) (e : Fin 256) (port : Fin 32)
  | parsePassEnd (c : Fin 16) (e : Fin 256)
  | lookup (c : Fin 16) (eccFail : List Nat)
  | bankSwapReq (p : CmdPort) (c : Fin 16) (v : Word)
  | ruleBankSwap (c : Fin 16)
  | tbwWrite (p : CmdPort) (c : Fin 16) (off : BitVec 25) (v : Word)
  | traceArm (p : CmdPort) (c : Fin 16) (v : Word)
  | ucodeSwap (c : Fin 16)
  | refill (p : CmdPort) (c : Fin 16) (v : Word)
  | meterWrite (p : CmdPort) (c : Fin 16) (v : Word)
  | meterRead (p : CmdPort) (c : Fin 16) (v : Word)
  | meterProfileWrite (p : CmdPort) (c : Fin 16) (m : Fin 1024) (v : Word)
  | meterProfileHold (p : CmdPort) (c : Fin 16) (m : Fin 1024) (w : Fin 4) (v : Word)
  | scrubRead (c : Fin 16) (t : ScrubTarget) (r : EccResult)
  | pchReplace (p : CmdPort) (c : Fin 16) (v : Word)
  | pchCopyDone (c : Fin 16) (poisoned : List (BitVec 32))
  | zeroizationDone (failed : BitVec 16)
  | creditWithdraw (c : Fin 16) (j : Fin 512) (k : Fin 8)
  | creditRelease (c : Fin 16) (j : Fin 512) (k : Fin 8)
  | shaperCfgWrite (p : CmdPort) (k : Fin 512) (sh : Fin 9) (v : Word)
  | shaperHoldWrite (p : CmdPort) (k : Fin 512) (sh : Fin 9) (burst : Bool) (v : Word)
  | gateListWrite (p : CmdPort) (k : Fin 512) (a : Fin 2) (e : Option (Fin 256)) (v : Word)
  | gateReq (p : CmdPort) (k : Fin 512) (v : Word)
  | gateCancel (p : CmdPort) (k : Fin 512) (v : Word)
  | gateEnWrite (p : CmdPort) (k : Fin 512) (v : Word)
  | gateTakeover (k : Fin 512)
  | gateEntryAdvance (k : Fin 512)
  | adjWrite (p : CmdPort) (x : Fin 2) (v : Word)
  | tsLoad (p : CmdPort) (x : Fin 2) (v : Word)
  | tsStep (p : CmdPort) (x : Fin 2) (v : Word)
  | selWrite (p : CmdPort) (v : Word)
  | slewDone
  | timeReadLatch (p : CmdPort) (k : TimClock)
  | fifoRead (p : CmdPort)
  | loupeArm (p : CmdPort) (u : Fin 8) (v : Word)
  | loupeStop (p : CmdPort) (u : Fin 8) (v : Word)
  | loupeForce (p : CmdPort) (u : Fin 8) (v : Word)
  | rdPtrWrite (p : CmdPort) (u : Fin 8) (v : Word)
  | settleDone (u : Fin 8)
  | prefillDone (f : TapSamples)
  | triggerPoint (u : Fin 8) (before : List (BitVec 16)) (code : BitVec 14) (ovr bad : Bool) (later : List (BitVec 16))
  | recordWritten (u : Fin 8) (samples : List (BitVec 16))
  | holdoffEnd (u : Fin 8) (samples : List (BitVec 16))
  | lendLimit (u : Fin 8) (samples : List (BitVec 16))
  | trigAssert (u : Fin 8)
  | trigRelease (u : Fin 8)
  | trigSense (n : Fin 4) (k : Fin 4)
  | arbitration
  | switchoverStart
  | switchoverGapEnd
  | controllerLoss (c : Ctl)
  | redSwitch (p : CmdPort) (v : Word)
  | redIsolate (p : CmdPort) (v : Word)
  | redSleep (p : CmdPort) (v : Word)
  | redReturn (p : CmdPort) (v : Word)
  | redTest (p : CmdPort) (v : Word)
  | copyReceived (resent : Nat)
  | copyLate (missing : Bool)
  | suspectClear
  | bulkDone (resent : Nat)
  | deltaDone
  | shadowDone
  | standbyEngineTest (pass : Bool)
  | controllerScrub (c : Ctl) (corrected : Nat) (uncorrectable : Bool)
  | selftestDone (c : Ctl) (pass : Bool)
  | controllerBistDone (passA passB : Bool)
  | faultReport (r : FaultRep)
  | safeStateEntry
  | faultClear (p : CmdPort) (v : Word)
  | safeStateExit
  | sensorReading (z : Fin 76) (k : Fin 2) (deg : Int) (frac : Fin 16)
  | thresholdAssert (z : Fin 76) (t : Threshold)
  | thresholdRelease (z : Fin 76) (t : Threshold)
  | emitterThrottleStep (z : Fin 76)
  | throttleOffPhase (c : Fin 16) (off : Bool)
  | nvmWindowOpen
  | thermalRecordWrite
  | stageOpen (p : CmdPort) (v : Word)
  | stageWrite (p : CmdPort) (off : BitVec 25) (data : List Byte)
  | stageDone (p : CmdPort) (v : Word)
  | imageVerifyDone
  | discard (p : CmdPort) (v : Word)
  | commit (p : CmdPort) (v : Word)
  | commitDone
  | restructure (p : CmdPort) (v : Word)
  | drainEnd
  | applyEnd
  | restructureSwitch
  | drainLimitExpiry
  | abandon (p : CmdPort) (v : Word)
  | overlay (p : CmdPort) (v : Word)
  | registerWrite (p : CmdPort) (addr : BitVec 28) (v : Word)
  | counterLowRead (p : CmdPort) (addr : BitVec 28)
  | malformedAccess (isWrite : Bool)
  | pcieReset
  | abevoRead (frame : List Byte)
  | abevoWrite (frame : List Byte)
  | abevoMailbox (frame : List Byte)
  | abevoPoll (frame : List Byte)
  | boundaryScanInstruction (bypassOrId : Bool)
  | jtagDebugAccess (a : JtagAccess)
  | mbNop (p : CmdPort)
  | repairClear (p : CmdPort) (kind : Word) (index : Word)
  | repairRead (p : CmdPort) (kind : Word) (n : Word)
  | debugRead (p : CmdPort) (addr : Word) (words : Word)
  | keyProvision (p : CmdPort) (hash : List Word) (slot : Word)
  | keyRevoke (p : CmdPort) (slot : Word)
  | svnRaise (p : CmdPort) (v : Word)
  | imageKeySet (p : CmdPort) (key : List Word)
  | zeroize (p : CmdPort)
  | retire (p : CmdPort) (magic : Word)
  | auditRead (p : CmdPort) (seq : Word)
  | fuseOperationDone
  | zeroizePin (samples : Nat)
  | auditRecordWrite
  | vinRise
  | aonUp
  | pllLockHeld (straps : BitVec 4)
  | domainPowerGood (d : Fin 64)
  | domainPowerTimeout (d : Fin 64)
  | dramTrainingDone (repaired : List (Fin 16 × BitVec 32))
  | laserLowPowerEnd (dim : List (Fin 544))
  | laserNominal (adc : List AdcMeas)
  | lockLimit (e : Fin 5120)
  | glbRelease (p : CmdPort) (v : Word)
  | quiesce (p : CmdPort) (v : Word)
  | quiesceDone (abandoned : Bool)
  | resume (p : CmdPort) (v : Word)
  | deviceRestart (p : CmdPort) (v : Word)
  | domainRestart (p : CmdPort) (v : Word)
  | domainRestartFailed
  | domainPowerLoss (d : Fin 64)
  | vinOutOfRange
  | vinCollapse
  | holdupExpiry
  | pwrEnFall
  | pwrEnRise
  | pllUnlock
  | pllRelock
  | crossingTransfer (x : BitVec 11) (pulses : Nat)
  | timescaleTick
  | linkFaultEnd (k : Fin 512) (localFault : Bool)
  | autoNegotiationDone (k : Fin 512)
  deriving DecidableEq, Repr

end Sys2Proof
end

