-- ==== Sys2Proof/Machine/RegMap.lean ====
section
/-! DEFINITION. The register map: the blocks and their bases (R600), and for every register that a write can reach its
masks by access type (R13) and its reset value, typed from the register tables of the chapters. A register that is
only RO has no row: its value is stored by the block that owns it, or composed where it is read. -/

namespace Sys2Proof.Machine

/-- R600, Table: Block bases. The blocks of a port chiplet carry its number. -/
inductive Blk where
  | glb | cmd | flt | thm | clk | tim | acq | red | cal | cnv | lpe | cel | lin | mtx | slt | brt
  | lan (c : Nat) | prs (c : Nat) | mtr (c : Nat) | buf (c : Nat) | que (c : Nat) | tbw (c : Nat)
  deriving DecidableEq, Repr

/-- A register, or an array of registers: first offset, stride and count within its block, the bits of each access
type (R13), and the reset value. -/
structure RegRow where
  off : Nat
  stride : Nat
  count : Nat
  rw : Word
  rwl : Word
  w1c : Word
  w1s : Word
  reset : Word
  deriving DecidableEq, Repr

/-- The base of a block. -/
def Blk.base : Blk → Nat
  | .glb => 0x0
  | .cmd => 0x100000
  | .flt => 0x200000
  | .thm => 0x300000
  | .clk => 0x400000
  | .tim => 0x500000
  | .acq => 0x600000
  | .red => 0x700000
  | .cal => 0x800000
  | .cnv => 0x900000
  | .lpe => 0xa00000
  | .cel => 0xb00000
  | .lin => 0x2000000
  | .mtx => 0xc00000
  | .slt => 0xd00000
  | .brt => 0xe00000
  | .lan c => 0x1000000 + c * 0x100000 + 0x0
  | .prs c => 0x1000000 + c * 0x100000 + 0x20000
  | .mtr c => 0x1000000 + c * 0x100000 + 0x40000
  | .buf c => 0x1000000 + c * 0x100000 + 0x60000
  | .que c => 0x1000000 + c * 0x100000 + 0x80000
  | .tbw c => 0x1000000 + c * 0x100000 + 0xa0000

/-- The block that an offset of BAR0 lies in, with the offset within it; none outside the blocks (R15). -/
def locate (a : Nat) : Option (Blk × Nat) :=
  if a < 0x1000000 then
    let o := a % 0x100000
    match a / 0x100000 with
    | 0 => some (.glb, o)
    | 1 => some (.cmd, o)
    | 2 => some (.flt, o)
    | 3 => some (.thm, o)
    | 4 => some (.clk, o)
    | 5 => some (.tim, o)
    | 6 => some (.acq, o)
    | 7 => some (.red, o)
    | 8 => some (.cal, o)
    | 9 => some (.cnv, o)
    | 10 => some (.lpe, o)
    | 11 => some (.cel, o)
    | 12 => some (.mtx, o)
    | 13 => some (.slt, o)
    | 14 => some (.brt, o)
    | _ => none
  else if a < 0x2000000 then
    let c := (a - 0x1000000) / 0x100000
    let o := a % 0x20000
    match a % 0x100000 / 0x20000 with
    | 0 => some (.lan c, o)
    | 1 => some (.prs c, o)
    | 2 => some (.mtr c, o)
    | 3 => some (.buf c, o)
    | 4 => some (.que c, o)
    | 5 => some (.tbw c, o)
    | _ => none
  else if a < 0x2280000 then some (.lin, a - 0x2000000)
  else none

/-- The offset of a register within its window, where a block repeats a window per port, timescale or unit. The rows
below give the offsets of the first window. -/
def windowOff : Blk → Nat → Nat
  | .lan _, o => if o < 0x8000 then o % 0x400 else o
  | .que _, o => if 0x1000 ≤ o ∧ o < 0x5000 then 0x1000 + o % 0x200 else o
  | .tim, o => if 0x100 ≤ o ∧ o < 0x180 then 0x100 + o % 0x40 else o
  | .acq, o => if 0x10000 ≤ o ∧ o < 0x18000 then 0x10000 + o % 0x1000 else o
  | _, o => o

/-- The registers of GLB: CTRL, RESTART, START_CFG, DOMAIN_CTRL, IMG_CTRL, IMG_CFG. -/
def rowsGlb : List RegRow := [
    ⟨0x8, 0x4, 1, 0x11, 0x0, 0x300, 0xe, 0x10⟩,
    ⟨0xc, 0x4, 1, 0x0, 0x0, 0x2, 0x1, 0x0⟩,
    ⟨0x10, 0x4, 1, 0xffff, 0x0, 0x0, 0x0, 0xbb8⟩,
    ⟨0x20, 0x4, 1, 0x3f, 0x0, 0x1f00, 0x80000000, 0x0⟩,
    ⟨0x100, 0x4, 1, 0x0, 0x0, 0x0, 0x7f, 0x0⟩,
    ⟨0x104, 0x4, 1, 0x1ffff, 0x0, 0x0, 0x0, 0x103e8⟩]

/-- The registers of CMD: CTRL, MB_CTRL, IRQ_PENDING, MB_DATA, MSIX. -/
def rowsCmd : List RegRow := [
    ⟨0x0, 0x4, 1, 0x3, 0x0, 0x0, 0x0, 0x3⟩,
    ⟨0x40, 0x4, 1, 0x7fff, 0x0, 0x300000, 0x80000000, 0x0⟩,
    ⟨0x50, 0x4, 1, 0x0, 0x0, 0xffffffff, 0x0, 0x0⟩,
    ⟨0x100, 0x4, 64, 0xffffffff, 0x0, 0x0, 0x0, 0x0⟩,
    ⟨0x8000, 0x4, 128, 0xffffffff, 0x0, 0x0, 0x0, 0x0⟩]

/-- The registers of FLT: CTRL, CLEAR, BLOCK_CFG. -/
def rowsFlt : List RegRow := [
    ⟨0x0, 0x4, 1, 0x1b, 0x0, 0x0, 0x0, 0x1f⟩,
    ⟨0x8, 0x4, 1, 0x0, 0x0, 0x2, 0x1, 0x0⟩,
    ⟨0x100, 0x4, 16, 0x1ffffff, 0x0, 0x0, 0x0, 0x0⟩]

/-- The registers of THM: CTRL. -/
def rowsThm : List RegRow := [
    ⟨0x0, 0x4, 1, 0xfff03, 0x0, 0x0, 0x0, 0x46407⟩]

/-- The registers of CLK: CTRL, STATUS, PLAN, LANE_GATE. -/
def rowsClk : List RegRow := [
    ⟨0x0, 0x4, 1, 0x3, 0x0, 0x0, 0x0, 0x1⟩,
    ⟨0x4, 0x4, 1, 0x0, 0x0, 0x18, 0x0, 0x0⟩,
    ⟨0x8, 0x4, 1, 0x0, 0xf, 0x0, 0x0, 0x4⟩,
    ⟨0xc, 0x4, 1, 0x0, 0xffffffff, 0x0, 0x0, 0x0⟩]

/-- The registers of TIM: CTRL, STATUS, ADJ, LOAD_SEC_LO, LOAD_SEC_HI, LOAD_NS, STEP_NS, CMD, CAPTURE, CAP_PORTS. -/
def rowsTim : List RegRow := [
    ⟨0x0, 0x4, 1, 0x3f1, 0x0, 0x0, 0x0, 0x1a0⟩,
    ⟨0x4, 0x4, 1, 0x0, 0x0, 0x8000000, 0x0, 0x0⟩,
    ⟨0x110, 0x4, 1, 0xffffffff, 0x0, 0x0, 0x0, 0x0⟩,
    ⟨0x114, 0x4, 1, 0xffffffff, 0x0, 0x0, 0x0, 0x0⟩,
    ⟨0x118, 0x4, 1, 0xffff, 0x0, 0x0, 0x0, 0x0⟩,
    ⟨0x11c, 0x4, 1, 0x3fffffff, 0x0, 0x0, 0x0, 0x0⟩,
    ⟨0x120, 0x4, 1, 0xffffffff, 0x0, 0x0, 0x0, 0x0⟩,
    ⟨0x124, 0x4, 1, 0x0, 0x0, 0x100, 0x3, 0x0⟩,
    ⟨0x128, 0x4, 1, 0x1ff, 0x0, 0x0, 0x0, 0x0⟩,
    ⟨0x300, 0x4, 16, 0xffffffff, 0x0, 0x0, 0x0, 0x0⟩]

/-- The registers of ACQ: TRIG, U_CTRL, U_STATUS, U_KIND, U_SRC, U_PRE, U_POST, U_HOLDOFF, U_DEC, U_LEND, U_RD_PTR, U_COND, U_LEVEL, U_MW_START, U_MW_END, U_BAND, U_LIM_EN, U_MASK_N, U_LIMIT_LO, U_LIMIT_HI. -/
def rowsAcq : List RegRow := [
    ⟨0x10, 0x4, 4, 0xffff, 0x0, 0x0, 0x0, 0x0⟩,
    ⟨0x10000, 0x4, 1, 0xff0, 0x0, 0x0, 0x7, 0x840⟩,
    ⟨0x10004, 0x4, 1, 0x0, 0x0, 0x1fc00, 0x0, 0x0⟩,
    ⟨0x10008, 0x4, 1, 0x3f, 0x0, 0x0, 0x0, 0x0⟩,
    ⟨0x1000c, 0x4, 1, 0x3fff1fff, 0x0, 0x0, 0x0, 0x0⟩,
    ⟨0x10010, 0x4, 1, 0x7fffff, 0x0, 0x0, 0x0, 0x40⟩,
    ⟨0x10014, 0x4, 1, 0x7fffff, 0x0, 0x0, 0x0, 0x400⟩,
    ⟨0x10018, 0x4, 1, 0xffffffff, 0x0, 0x0, 0x0, 0x0⟩,
    ⟨0x1001c, 0x4, 1, 0x1f, 0x0, 0x0, 0x0, 0x10⟩,
    ⟨0x10020, 0x4, 1, 0xffff, 0x0, 0x0, 0x0, 0xfa⟩,
    ⟨0x10024, 0x4, 1, 0x3fffff, 0x0, 0x0, 0x0, 0x0⟩,
    ⟨0x10030, 0x8, 4, 0xff07, 0x0, 0x0, 0x0, 0x0⟩,
    ⟨0x10034, 0x8, 4, 0xffffffff, 0x0, 0x0, 0x0, 0x0⟩,
    ⟨0x10060, 0x4, 1, 0xffffffff, 0x0, 0x0, 0x0, 0x0⟩,
    ⟨0x10064, 0x4, 1, 0xffffffff, 0x0, 0x0, 0x0, 0x3ff⟩,
    ⟨0x10068, 0x4, 1, 0xffff, 0x0, 0x0, 0x0, 0x10⟩,
    ⟨0x1006c, 0x4, 1, 0x7f7f, 0x0, 0x0, 0x0, 0x0⟩,
    ⟨0x10070, 0x4, 1, 0x7f7f, 0x0, 0x0, 0x0, 0x0⟩,
    ⟨0x10080, 0x8, 7, 0xffffffff, 0x0, 0x0, 0x0, 0x0⟩,
    ⟨0x10084, 0x8, 7, 0xffffffff, 0x0, 0x0, 0x0, 0x0⟩]

/-- The registers of ACQ, continued: U_UPPER_OFF, U_UPPER_VAL, U_LOWER_OFF, U_LOWER_VAL. -/
def rowsAcq2 : List RegRow := [
    ⟨0x10100, 0x8, 64, 0xffffffff, 0x0, 0x0, 0x0, 0x0⟩,
    ⟨0x10104, 0x8, 64, 0xffff, 0x0, 0x0, 0x0, 0x0⟩,
    ⟨0x10300, 0x8, 64, 0xffffffff, 0x0, 0x0, 0x0, 0x0⟩,
    ⟨0x10304, 0x8, 64, 0xffff, 0x0, 0x0, 0x0, 0x0⟩]

/-- All registers of ACQ. -/
def rowsAcqAll : List RegRow := rowsAcq ++ rowsAcq2

/-- The registers of RED: CTRL, CMD. -/
def rowsRed : List RegRow := [
    ⟨0x0, 0x4, 1, 0xff0f, 0x0, 0x0, 0x0, 0xe⟩,
    ⟨0x4, 0x4, 1, 0x100, 0x0, 0x30000, 0x1f, 0x0⟩]

/-- The registers of CAL: CTRL, CMD, SET_READ. -/
def rowsCal : List RegRow := [
    ⟨0x0, 0x4, 1, 0xff0f, 0x0, 0x0, 0x0, 0x509⟩,
    ⟨0x4, 0x4, 1, 0x78, 0x0, 0xf00, 0x7, 0x0⟩,
    ⟨0x100, 0x4, 1, 0x1ffff, 0x0, 0x0, 0x80000000, 0x0⟩]

/-- The registers of CNV: CTRL, SLEW_LO, SLEW_HI, RANGE_REQ, AU_CFG, AU_STATUS. -/
def rowsCnv : List RegRow := [
    ⟨0x0, 0x4, 1, 0x7, 0x0, 0x0, 0x0, 0x6⟩,
    ⟨0x10, 0x4, 1, 0xfffffff, 0x0, 0x0, 0x0, 0x101000⟩,
    ⟨0x14, 0x4, 1, 0xfffffff, 0x0, 0x0, 0x0, 0x100400⟩,
    ⟨0x20, 0x4, 1, 0x11fff, 0x0, 0x70000000, 0x80000000, 0x0⟩,
    ⟨0x800, 0x4, 100, 0x7fff, 0x0, 0x0, 0x0, 0x0⟩,
    ⟨0xa00, 0x4, 100, 0x0, 0x0, 0x180, 0x0, 0x0⟩]

/-- The registers of LPE: CTRL, SWAP_AT, SWAP_CTRL, EXC, MODE_REQ. -/
def rowsLpe : List RegRow := [
    ⟨0x0, 0x4, 1, 0x3, 0x0, 0x0, 0x0, 0x2⟩,
    ⟨0x20, 0x4, 2, 0xffffffff, 0x0, 0x0, 0x0, 0x0⟩,
    ⟨0x28, 0x4, 1, 0x0, 0x0, 0xf00, 0x3, 0x0⟩,
    ⟨0x30, 0x4, 1, 0x3f, 0x0, 0x0, 0x0, 0x28⟩,
    ⟨0x70, 0x4, 1, 0x31fff, 0x0, 0x40000000, 0x80000000, 0x0⟩]

/-- The registers of CEL: TARGET. -/
def rowsCel : List RegRow := [
    ⟨0x4, 0x40, 5120, 0xffffffff, 0x0, 0x0, 0x0, 0x0⟩]

/-- The registers of MTX: CTRL, PARK_REQ, PERM_READ, LB_STATUS, LB_CFG. -/
def rowsMtx : List RegRow := [
    ⟨0x0, 0x4, 1, 0x7, 0x0, 0x0, 0x0, 0x4⟩,
    ⟨0x10, 0x4, 1, 0x0, 0x0, 0x0, 0x0, 0x0⟩,
    ⟨0x40, 0x4, 1, 0x0, 0x0, 0x0, 0x0, 0x0⟩,
    ⟨0x800, 0x4, 32, 0x0, 0x0, 0x800000, 0x0, 0x0⟩,
    ⟨0x880, 0x4, 32, 0xf00, 0x3, 0x0, 0x10, 0x0⟩]

/-- The registers of SLT: CTRL, CHANGE_AT_SEC_LO, CHANGE_AT_SEC_HI, CHANGE_AT_NS, CHANGE_CTRL, CAL_LEN, TPL. -/
def rowsSlt : List RegRow := [
    ⟨0x0, 0x4, 1, 0xf, 0x0, 0x0, 0x0, 0x5⟩,
    ⟨0x20, 0x4, 1, 0xffffffff, 0x0, 0x0, 0x0, 0x0⟩,
    ⟨0x24, 0x4, 1, 0xffff, 0x0, 0x0, 0x0, 0x0⟩,
    ⟨0x28, 0x4, 1, 0x3fffffff, 0x0, 0x0, 0x0, 0x0⟩,
    ⟨0x2c, 0x4, 1, 0x0, 0x0, 0x3f00, 0x3, 0x0⟩,
    ⟨0x30, 0x4, 2, 0xf, 0x0, 0x0, 0x0, 0x1⟩,
    ⟨0x10000, 0x4, 1024, 0xffffffff, 0x0, 0x0, 0x0, 0x22222222⟩]

/-- The registers of BRT: CTRL, CFG, SNAP_CTRL, PHASE_SEL. -/
def rowsBrt : List RegRow := [
    ⟨0x0, 0x4, 1, 0x7, 0x0, 0x0, 0x0, 0x6⟩,
    ⟨0x8, 0x4, 1, 0x3ff, 0x0, 0x0, 0x0, 0x88⟩,
    ⟨0x10, 0x4, 1, 0x0, 0x0, 0x6, 0x1, 0x0⟩,
    ⟨0x100, 0x4, 1, 0x3ffff, 0x0, 0x0, 0x80000000, 0x0⟩]

/-- The registers of LAN: PORT_CTRL, PORT_CFG, PFC_MAP, PLX_RX, PLX_TX, PLX_SKEW, REMAP_REQ. -/
def rowsLan : List RegRow := [
    ⟨0x0, 0x4, 1, 0x1f, 0xfc0, 0x0, 0x20, 0x81c⟩,
    ⟨0x4, 0x4, 1, 0xffff3fff, 0x0, 0x0, 0x0, 0xffff2800⟩,
    ⟨0x8, 0x4, 1, 0xffffff, 0x0, 0x0, 0x0, 0xfac688⟩,
    ⟨0x10, 0x4, 1, 0xffff, 0x0, 0x0, 0x0, 0x0⟩,
    ⟨0x14, 0x4, 1, 0xffff, 0x0, 0x0, 0x0, 0x0⟩,
    ⟨0x20, 0x4, 8, 0xffff, 0x0, 0x0, 0x0, 0x0⟩,
    ⟨0x8000, 0x4, 1, 0x1f1f, 0x0, 0x70000000, 0x80000000, 0x0⟩]

/-- The registers of PRS: CTRL, BANK_CTRL, SWAP_AT, BANK_HDR, IND_BASE, EXC_ACTION, EXC_RESULT0, EXC_RESULT1, HASH_MASK_LO, HASH_MASK_HI, HASH_CFG, HASH_INIT, TOEPLITZ_KEY, TRACE_SEL, GROUP_CFG. -/
def rowsPrs : List RegRow := [
    ⟨0x0, 0x4, 1, 0x7, 0x0, 0x0, 0x0, 0x1⟩,
    ⟨0x10, 0x4, 1, 0x2, 0x0, 0x1f00, 0x1, 0x2⟩,
    ⟨0x18, 0x4, 2, 0xffffffff, 0x0, 0x0, 0x0, 0x0⟩,
    ⟨0x30, 0x4, 2, 0x0, 0x3ffffff, 0x0, 0x0, 0x0⟩,
    ⟨0x38, 0x4, 1, 0x0, 0x3ffffff, 0x0, 0x0, 0x0⟩,
    ⟨0x100, 0x8, 6, 0x3, 0x0, 0x0, 0x0, 0x0⟩,
    ⟨0x180, 0x8, 6, 0xffffffff, 0x0, 0x0, 0x0, 0x0⟩,
    ⟨0x184, 0x8, 6, 0xffffffff, 0x0, 0x0, 0x0, 0x0⟩,
    ⟨0x200, 0x10, 16, 0xffffffff, 0x0, 0x0, 0x0, 0x0⟩,
    ⟨0x204, 0x10, 16, 0xffffffff, 0x0, 0x0, 0x0, 0x0⟩,
    ⟨0x208, 0x10, 16, 0x3, 0x0, 0x0, 0x0, 0x2⟩,
    ⟨0x20c, 0x10, 16, 0xffffffff, 0x0, 0x0, 0x0, 0xffffffff⟩,
    ⟨0x300, 0x4, 11, 0xffffffff, 0x0, 0x0, 0x0, 0x0⟩,
    ⟨0x340, 0x4, 1, 0x1f, 0x0, 0x0, 0x80000000, 0x0⟩,
    ⟨0x1000, 0x4, 1024, 0x1f, 0x0, 0x0, 0x0, 0x0⟩]

/-- The registers of MTR: CTRL, ECN_KB, METER_SEL, METER_DATA, ADM_MIN, ADM_MAX, ADM_ALPHA, ADM_MARK, ADM_MAP, PROFILE0, PROFILE1, PROFILE2, PROFILE3, PROFILE4. -/
def rowsMtr : List RegRow := [
    ⟨0x0, 0x4, 1, 0x3, 0x0, 0x0, 0x0, 0x2⟩,
    ⟨0x4, 0x4, 1, 0x0, 0x3f, 0x0, 0x0, 0x8⟩,
    ⟨0x10, 0x4, 1, 0x3ffff, 0x0, 0x0, 0xe0000000, 0x0⟩,
    ⟨0x20, 0x4, 1, 0x3ff, 0x0, 0x0, 0x0, 0x0⟩,
    ⟨0x100, 0x10, 64, 0x1fffffff, 0x0, 0x0, 0x0, 0x40⟩,
    ⟨0x104, 0x10, 64, 0x1fffffff, 0x0, 0x0, 0x0, 0x400000⟩,
    ⟨0x108, 0x10, 64, 0x3fff, 0x0, 0x0, 0x0, 0x468⟩,
    ⟨0x10c, 0x10, 64, 0x1fffffff, 0x0, 0x0, 0x0, 0x10000⟩,
    ⟨0x1000, 0x4, 1024, 0x0, 0x3f3f3f3f, 0x0, 0x0, 0x0⟩,
    ⟨0x10000, 0x20, 1024, 0xff1fff, 0x0, 0x0, 0x0, 0x0⟩,
    ⟨0x10004, 0x20, 1024, 0xffffffff, 0x0, 0x0, 0x0, 0x0⟩,
    ⟨0x10008, 0x20, 1024, 0xffffffff, 0x0, 0x0, 0x0, 0x0⟩,
    ⟨0x1000c, 0x20, 1024, 0xffffff, 0x0, 0x0, 0x0, 0x0⟩,
    ⟨0x10010, 0x20, 1024, 0xffffff, 0x0, 0x0, 0x0, 0x0⟩]

/-- The registers of BUF: CTRL, HEADROOM, EH_OOO, PCH_CE_LIMIT, PCH_REPLACE. -/
def rowsBuf : List RegRow := [
    ⟨0x0, 0x4, 1, 0xff07, 0x0, 0x0, 0x0, 0x807⟩,
    ⟨0x8, 0x4, 1, 0x1fffffff, 0x0, 0x0, 0x0, 0x1000000⟩,
    ⟨0xc, 0x4, 1, 0x1ffffff, 0x0, 0x0, 0x0, 0x200000⟩,
    ⟨0x10, 0x4, 1, 0xffff, 0x0, 0x0, 0x0, 0x1000⟩,
    ⟨0x200, 0x4, 1, 0x1f, 0x0, 0x60000000, 0x80000000, 0x0⟩]

/-- The registers of QUE: CTRL, CREDIT_CFG, STRICT, FG, QUANTUM, WINDOW, PSH_CFG, PSH_RATE, PSH_BURST, CSH_CFG, CSH_RATE, CSH_BURST, GATE_CTRL, GATE_LEN, GATE_AT_SEC_LO, GATE_AT_SEC_HI, GATE_AT_NS, GATE_LIST. -/
def rowsQue : List RegRow := [
    ⟨0x0, 0x4, 1, 0x3, 0x0, 0x0, 0x0, 0x1⟩,
    ⟨0x4, 0x4, 1, 0xff07ff, 0x0, 0x0, 0x0, 0x4000a0⟩,
    ⟨0x1000, 0x4, 1, 0xff, 0x0, 0x0, 0x0, 0x0⟩,
    ⟨0x1004, 0x4, 1, 0xffffff, 0x0, 0x0, 0x0, 0x140800⟩,
    ⟨0x1010, 0x4, 8, 0xffff, 0x0, 0x0, 0x0, 0x1000⟩,
    ⟨0x1040, 0x4, 8, 0x1ffff, 0x0, 0x0, 0x0, 0x2000⟩,
    ⟨0x1080, 0x4, 1, 0xff03, 0x0, 0x0, 0x0, 0x0⟩,
    ⟨0x1084, 0x4, 1, 0xffffffff, 0x0, 0x0, 0x0, 0x0⟩,
    ⟨0x1088, 0x4, 1, 0xffffff, 0x0, 0x0, 0x0, 0x0⟩,
    ⟨0x1090, 0x10, 8, 0xff03, 0x0, 0x0, 0x0, 0x0⟩,
    ⟨0x1094, 0x10, 8, 0xffffffff, 0x0, 0x0, 0x0, 0x0⟩,
    ⟨0x1098, 0x10, 8, 0xffffff, 0x0, 0x0, 0x0, 0x0⟩,
    ⟨0x1180, 0x4, 1, 0x1, 0x0, 0xf00, 0x6, 0x0⟩,
    ⟨0x1184, 0x4, 2, 0x1ff, 0x0, 0x0, 0x0, 0x1⟩,
    ⟨0x1190, 0x4, 1, 0xffffffff, 0x0, 0x0, 0x0, 0x0⟩,
    ⟨0x1194, 0x4, 1, 0xffff, 0x0, 0x0, 0x0, 0x0⟩,
    ⟨0x1198, 0x4, 1, 0x3fffffff, 0x0, 0x0, 0x0, 0x0⟩,
    ⟨0x10000, 0x4, 16384, 0xffffffff, 0x0, 0x0, 0x0, 0x3e8ff⟩]

/-- The registers of TBW: BASE. -/
def rowsTbw : List RegRow := [
    ⟨0x0, 0x4, 1, 0x3ffffff, 0x0, 0x0, 0x0, 0x0⟩]

/-- The rows of a block. -/
def rowsOf : Blk → List RegRow
  | .glb => rowsGlb
  | .cmd => rowsCmd
  | .flt => rowsFlt
  | .thm => rowsThm
  | .clk => rowsClk
  | .tim => rowsTim
  | .acq => rowsAcqAll
  | .red => rowsRed
  | .cal => rowsCal
  | .cnv => rowsCnv
  | .lpe => rowsLpe
  | .cel => rowsCel
  | .lin => []
  | .mtx => rowsMtx
  | .slt => rowsSlt
  | .brt => rowsBrt
  | .lan _ => rowsLan
  | .prs _ => rowsPrs
  | .mtr _ => rowsMtr
  | .buf _ => rowsBuf
  | .que _ => rowsQue
  | .tbw _ => rowsTbw

/-- R79, R121: the writable bits of word w of a coefficient bank, and its reset value. -/
def coeffWord (w : Nat) : Word × Word :=
  match w with
  | 0 => (0xffffffff, 0x20000000)
  | 1 => (0xffffffff, 0x400000)
  | 2 => (0xf, 0x4)
  | 3 => (0x1f, 0x12)
  | 4 => (0x1f, 0x6)
  | 5 => (0xffffffff, 0x15)
  | 6 => (0xff, 0x21)
  | 7 => (0xfffff, 0x686)
  | 8 => (0xffffff, 0x40000)
  | 9 => (0xffffffff, 0x1000000)
  | 10 => (0x3fff, 0x4)
  | 16 => (0xffffffff, 0x10000000)
  | 17 => (0xffff, 0x343)
  | 18 => (0xff, 0x20)
  | 19 => (0xffffffff, 0xa0000)
  | 20 => (0xff, 0x45)
  | 21 => (0xffffffff, 0x20c49c)
  | 22 => (0xffffffff, 0x3fdf3b64)
  | 23 => (0xf3f, 0x830)
  | 24 => (0xffffff, 0x1000)
  | 25 => (0xffff, 0x61a8)
  | 26 => (0xffffffff, 0x400000)
  | 27 => (0xffffffff, 0x10000)
  | 28 => (0xffffffff, 0x1000)
  | 29 => (0xffffffff, 0x147ae14)
  | 30 => (0xffffffff, 0xa3d70a)
  | 31 => (0xf, 0x3)
  | _ => (0, 0)

/-- The row of a register, if any write can reach it. -/
def findRow (b : Blk) (o : Nat) : Option RegRow :=
  match b with
  | .lpe =>
    if 0x10000 ≤ o ∧ o < 0x13000 then
      let cw := coeffWord (o % 0x80 / 4)
      some ⟨o, 4, 1, cw.1, 0, 0, 0, cw.2⟩
    else rowsLpe.find? fun r => r.off ≤ o ∧ (o - r.off) % r.stride = 0 ∧ (o - r.off) / r.stride < r.count
  | _ =>
    let w := windowOff b o
    (rowsOf b).find? fun r => r.off ≤ w ∧ (w - r.off) % r.stride = 0 ∧ (w - r.off) / r.stride < r.count

/-! ### Addresses -/

abbrev Reg.GLB_CTRL : Nat := 0x8
abbrev Reg.GLB_RESTART : Nat := 0xc
abbrev Reg.GLB_START_CFG : Nat := 0x10
abbrev Reg.GLB_DOMAIN_CTRL : Nat := 0x20
abbrev Reg.GLB_IMG_CTRL : Nat := 0x100
abbrev Reg.GLB_IMG_CFG : Nat := 0x104
abbrev Reg.CMD_CTRL : Nat := 0x100000
abbrev Reg.CMD_MB_CTRL : Nat := 0x100040
abbrev Reg.CMD_IRQ_PENDING : Nat := 0x100050
abbrev Reg.CMD_MB_DATA : Nat := 0x100100
abbrev Reg.CMD_MSIX : Nat := 0x108000
abbrev Reg.FLT_CTRL : Nat := 0x200000
abbrev Reg.FLT_CLEAR : Nat := 0x200008
abbrev Reg.FLT_BLOCK_CFG : Nat := 0x200100
abbrev Reg.THM_CTRL : Nat := 0x300000
abbrev Reg.CLK_CTRL : Nat := 0x400000
abbrev Reg.CLK_STATUS : Nat := 0x400004
abbrev Reg.CLK_PLAN : Nat := 0x400008
abbrev Reg.CLK_LANE_GATE : Nat := 0x40000c
abbrev Reg.TIM_CTRL : Nat := 0x500000
abbrev Reg.TIM_STATUS : Nat := 0x500004
abbrev Reg.TIM_ADJ : Nat := 0x500110
abbrev Reg.TIM_LOAD_SEC_LO : Nat := 0x500114
abbrev Reg.TIM_LOAD_SEC_HI : Nat := 0x500118
abbrev Reg.TIM_LOAD_NS : Nat := 0x50011c
abbrev Reg.TIM_STEP_NS : Nat := 0x500120
abbrev Reg.TIM_CMD : Nat := 0x500124
abbrev Reg.TIM_CAPTURE : Nat := 0x500128
abbrev Reg.TIM_CAP_PORTS : Nat := 0x500300
abbrev Reg.ACQ_TRIG : Nat := 0x600010
abbrev Reg.ACQ_U_CTRL : Nat := 0x610000
abbrev Reg.ACQ_U_STATUS : Nat := 0x610004
abbrev Reg.ACQ_U_KIND : Nat := 0x610008
abbrev Reg.ACQ_U_SRC : Nat := 0x61000c
abbrev Reg.ACQ_U_PRE : Nat := 0x610010
abbrev Reg.ACQ_U_POST : Nat := 0x610014
abbrev Reg.ACQ_U_HOLDOFF : Nat := 0x610018
abbrev Reg.ACQ_U_DEC : Nat := 0x61001c
abbrev Reg.ACQ_U_LEND : Nat := 0x610020
abbrev Reg.ACQ_U_RD_PTR : Nat := 0x610024
abbrev Reg.ACQ_U_COND : Nat := 0x610030
abbrev Reg.ACQ_U_LEVEL : Nat := 0x610034
abbrev Reg.ACQ_U_MW_START : Nat := 0x610060
abbrev Reg.ACQ_U_MW_END : Nat := 0x610064
abbrev Reg.ACQ_U_BAND : Nat := 0x610068
abbrev Reg.ACQ_U_LIM_EN : Nat := 0x61006c
abbrev Reg.ACQ_U_MASK_N : Nat := 0x610070
abbrev Reg.ACQ_U_LIMIT_LO : Nat := 0x610080
abbrev Reg.ACQ_U_LIMIT_HI : Nat := 0x610084
abbrev Reg.ACQ_U_UPPER_OFF : Nat := 0x610100
abbrev Reg.ACQ_U_UPPER_VAL : Nat := 0x610104
abbrev Reg.ACQ_U_LOWER_OFF : Nat := 0x610300
abbrev Reg.ACQ_U_LOWER_VAL : Nat := 0x610304
abbrev Reg.RED_CTRL : Nat := 0x700000
abbrev Reg.RED_CMD : Nat := 0x700004
abbrev Reg.CAL_CTRL : Nat := 0x800000
abbrev Reg.CAL_CMD : Nat := 0x800004
abbrev Reg.CAL_SET_READ : Nat := 0x800100
abbrev Reg.CNV_CTRL : Nat := 0x900000
abbrev Reg.CNV_SLEW_LO : Nat := 0x900010
abbrev Reg.CNV_SLEW_HI : Nat := 0x900014
abbrev Reg.CNV_RANGE_REQ : Nat := 0x900020
abbrev Reg.CNV_AU_CFG : Nat := 0x900800
abbrev Reg.CNV_AU_STATUS : Nat := 0x900a00
abbrev Reg.LPE_CTRL : Nat := 0xa00000
abbrev Reg.LPE_SWAP_AT : Nat := 0xa00020
abbrev Reg.LPE_SWAP_CTRL : Nat := 0xa00028
abbrev Reg.LPE_EXC : Nat := 0xa00030
abbrev Reg.LPE_MODE_REQ : Nat := 0xa00070
abbrev Reg.CEL_TARGET : Nat := 0xb00004
abbrev Reg.MTX_CTRL : Nat := 0xc00000
abbrev Reg.MTX_PARK_REQ : Nat := 0xc00010
abbrev Reg.MTX_PERM_READ : Nat := 0xc00040
abbrev Reg.MTX_LB_STATUS : Nat := 0xc00800
abbrev Reg.MTX_LB_CFG : Nat := 0xc00880
abbrev Reg.SLT_CTRL : Nat := 0xd00000
abbrev Reg.SLT_CHANGE_AT_SEC_LO : Nat := 0xd00020
abbrev Reg.SLT_CHANGE_AT_SEC_HI : Nat := 0xd00024
abbrev Reg.SLT_CHANGE_AT_NS : Nat := 0xd00028
abbrev Reg.SLT_CHANGE_CTRL : Nat := 0xd0002c
abbrev Reg.SLT_CAL_LEN : Nat := 0xd00030
abbrev Reg.SLT_TPL : Nat := 0xd10000
abbrev Reg.BRT_CTRL : Nat := 0xe00000
abbrev Reg.BRT_CFG : Nat := 0xe00008
abbrev Reg.BRT_SNAP_CTRL : Nat := 0xe00010
abbrev Reg.BRT_PHASE_SEL : Nat := 0xe00100

/-! Offsets within the window of a port, or within the block of a chiplet. -/

abbrev Reg.LAN_PORT_CTRL : Nat := 0x0
abbrev Reg.LAN_PORT_CFG : Nat := 0x4
abbrev Reg.LAN_PFC_MAP : Nat := 0x8
abbrev Reg.LAN_PLX_RX : Nat := 0x10
abbrev Reg.LAN_PLX_TX : Nat := 0x14
abbrev Reg.LAN_PLX_SKEW : Nat := 0x20
abbrev Reg.LAN_REMAP_REQ : Nat := 0x8000
abbrev Reg.PRS_CTRL : Nat := 0x0
abbrev Reg.PRS_BANK_CTRL : Nat := 0x10
abbrev Reg.PRS_SWAP_AT : Nat := 0x18
abbrev Reg.PRS_BANK_HDR : Nat := 0x30
abbrev Reg.PRS_IND_BASE : Nat := 0x38
abbrev Reg.PRS_EXC_ACTION : Nat := 0x100
abbrev Reg.PRS_EXC_RESULT0 : Nat := 0x180
abbrev Reg.PRS_EXC_RESULT1 : Nat := 0x184
abbrev Reg.PRS_HASH_MASK_LO : Nat := 0x200
abbrev Reg.PRS_HASH_MASK_HI : Nat := 0x204
abbrev Reg.PRS_HASH_CFG : Nat := 0x208
abbrev Reg.PRS_HASH_INIT : Nat := 0x20c
abbrev Reg.PRS_TOEPLITZ_KEY : Nat := 0x300
abbrev Reg.PRS_TRACE_SEL : Nat := 0x340
abbrev Reg.PRS_GROUP_CFG : Nat := 0x1000
abbrev Reg.MTR_CTRL : Nat := 0x0
abbrev Reg.MTR_ECN_KB : Nat := 0x4
abbrev Reg.MTR_METER_SEL : Nat := 0x10
abbrev Reg.MTR_METER_DATA : Nat := 0x20
abbrev Reg.MTR_ADM_MIN : Nat := 0x100
abbrev Reg.MTR_ADM_MAX : Nat := 0x104
abbrev Reg.MTR_ADM_ALPHA : Nat := 0x108
abbrev Reg.MTR_ADM_MARK : Nat := 0x10c
abbrev Reg.MTR_ADM_MAP : Nat := 0x1000
abbrev Reg.MTR_PROFILE0 : Nat := 0x10000
abbrev Reg.MTR_PROFILE1 : Nat := 0x10004
abbrev Reg.MTR_PROFILE2 : Nat := 0x10008
abbrev Reg.MTR_PROFILE3 : Nat := 0x1000c
abbrev Reg.MTR_PROFILE4 : Nat := 0x10010
abbrev Reg.BUF_CTRL : Nat := 0x0
abbrev Reg.BUF_HEADROOM : Nat := 0x8
abbrev Reg.BUF_EH_OOO : Nat := 0xc
abbrev Reg.BUF_PCH_CE_LIMIT : Nat := 0x10
abbrev Reg.BUF_PCH_REPLACE : Nat := 0x200
abbrev Reg.QUE_CTRL : Nat := 0x0
abbrev Reg.QUE_CREDIT_CFG : Nat := 0x4
abbrev Reg.QUE_STRICT : Nat := 0x0
abbrev Reg.QUE_FG : Nat := 0x4
abbrev Reg.QUE_QUANTUM : Nat := 0x10
abbrev Reg.QUE_WINDOW : Nat := 0x40
abbrev Reg.QUE_PSH_CFG : Nat := 0x80
abbrev Reg.QUE_PSH_RATE : Nat := 0x84
abbrev Reg.QUE_PSH_BURST : Nat := 0x88
abbrev Reg.QUE_CSH_CFG : Nat := 0x90
abbrev Reg.QUE_CSH_RATE : Nat := 0x94
abbrev Reg.QUE_CSH_BURST : Nat := 0x98
abbrev Reg.QUE_GATE_CTRL : Nat := 0x180
abbrev Reg.QUE_GATE_LEN : Nat := 0x184
abbrev Reg.QUE_GATE_AT_SEC_LO : Nat := 0x190
abbrev Reg.QUE_GATE_AT_SEC_HI : Nat := 0x194
abbrev Reg.QUE_GATE_AT_NS : Nat := 0x198
abbrev Reg.QUE_GATE_LIST : Nat := 0x10000
abbrev Reg.TBW_BASE : Nat := 0x0

/-- The register at offset o of the port window of port k in LAN. -/
def lanReg (k o : Nat) : Nat := 0x1000000 + k / 32 * 0x100000 + k % 32 * 0x400 + o

/-- The register at offset o of the port window of port k in QUE. -/
def quePort (k o : Nat) : Nat := 0x1081000 + k / 32 * 0x100000 + k % 32 * 0x200 + o

/-- The registers at offset o of the blocks of chiplet c. -/
def lanChip (c o : Nat) : Nat := 0x1000000 + c * 0x100000 + o
def prsReg (c o : Nat) : Nat := 0x1020000 + c * 0x100000 + o
def mtrReg (c o : Nat) : Nat := 0x1040000 + c * 0x100000 + o
def bufReg (c o : Nat) : Nat := 0x1060000 + c * 0x100000 + o
def queReg (c o : Nat) : Nat := 0x1080000 + c * 0x100000 + o
def tbwReg (c : Nat) : Nat := 0x10A0000 + c * 0x100000

/-- Word w of bank b of logical engine l (R79). -/
def coeffReg (l b w : Nat) : Nat := 0xA10000 + 0x100 * l + 0x80 * b + 4 * w

/-- The register at offset o of the window of Loupe unit u. -/
def acqReg (u o : Nat) : Nat := 0x610000 + 0x1000 * u + o

/-- The register at offset o of the window of timescale x. -/
def timReg (x o : Nat) : Nat := 0x500100 + 0x40 * x + o

end Sys2Proof.Machine
end

