-- ==== Sys2Proof/Config.lean ====
section
/-! DEFINITION. What the spec leaves open or fixes outside the block: the sections of a structure image whose body
layout is Rowigon's (R482), the cryptographic functions that the spec names by their standards (R478, R479, R529), and
the free values. Every function here is opaque: no proof can see a value of it. -/

namespace Sys2Proof

/-! ### The sections of a structure image as the device takes them (R474, R477) -/

/-- One port of a PORTS section: enable, bundle code, LR class, CFH mode, CMD_PORT, and its physical lane. -/
structure PortEntry where
  enable : Bool := false
  bundle : BitVec 2 := 0
  lr : Bool := true
  cfhMode : BitVec 2 := 0
  cmdPort : Bool := false
  lane : Fin 32 := 0
  deriving DecidableEq, Repr, Inhabited

/-- A REPAIR_OVERLAY section (R33, R161, R265, R332). -/
structure OverlaySection where
  parkAdd : List Nat
  parkClear : List Nat
  adcClear : List Nat
  laneClear : List Nat
  pageClear : List Nat
  deriving DecidableEq, Repr, Inhabited

/-- A QUEUES section: the values of PRS_BANK_HDR, PRS_IND_BASE, MTR_ECN_KB and MTR_ADM_MAP. -/
structure QueuesSection where
  hdr0 : Word
  hdr1 : Word
  indBase : Word
  ecnKb : Word
  admMap : List Word
  deriving DecidableEq, Repr, Inhabited

/-- An ENGINES section (R52, R147): the elements of each logical engine in list order, matrix elements then selectors,
and the taps of each ADC unit in conversion order. -/
structure EnginesSection where
  lists : List (List Nat)
  schedule : List (List Nat)
  deriving DecidableEq, Repr, Inhabited

/-- A CONTROLLER section: the preferred controller (true for CTL-B) and the power-up order of the domains. -/
structure ControllerSection where
  preferB : Bool
  order : List (Fin 64)
  deriving DecidableEq, Repr, Inhabited

/-- A section of an image: type, instance, version, whether its body is encrypted, and its body as decrypted. -/
structure Section where
  type : Nat
  inst : Nat
  version : Nat
  enc : Bool
  offset : Nat
  body : List Byte
  deriving DecidableEq, Repr, Inhabited

/-- An image that passed verification: what later commands need of its header, and its sections. -/
structure Image where
  seq : Word
  build : Word
  svn : BitVec 16
  keySlot : Fin 4
  overlay : Bool
  sections : List Section
  deriving DecidableEq, Repr, Inhabited

/-! ### Parser microcode (Table: Microcode operations) -/

/-- A field that a microcode instruction reads: from the key at a key bit, or from the packet at a bit offset from the
cursor; its width in bits. -/
structure USrc where
  fromKey : Bool
  off : Nat
  width : Nat
  deriving DecidableEq, Repr, Inhabited

/-- A microcode instruction. ADVANCE has a constant and, with a field, a scale; m is its M bit. BRANCH jumps on equal,
not equal, less or greater (0 to 3). -/
inductive UInstr where
  | extract (off len kb : Nat)
  | advance (src : Option USrc) (scale const : Nat) (m : Bool)
  | branch (src : USrc) (mask const : Nat) (cond : Fin 4) (target : Nat)
  | switch (src : USrc) (targets : List Nat)
  | chklen (kind : Nat) (off const : Nat)
  | setkey (kb : Nat) (v : Byte)
  | done
  | reserved
  deriving DecidableEq, Repr, Inhabited

/-- The instructions of a microcode section; the bit layout is Rowigon's (assumption 9). -/
opaque Config.decodeUcode : List Byte → List UInstr

/-! ### Section bodies whose layout is Rowigon's (R482); assumption 8 -/

opaque Config.decodePorts : List Byte → List PortEntry
opaque Config.decodeTenants : List Byte → List (Fin 8)
opaque Config.decodeOverlay : List Byte → OverlaySection
opaque Config.decodeQueues : List Byte → QueuesSection
opaque Config.decodeEngines : List Byte → EnginesSection
/-- CLK_PLAN and CLK_LANE_GATE. -/
opaque Config.decodeClocks : List Byte → Word × Word
/-- The six authorization rows. -/
opaque Config.decodeAuth : List Byte → List (BitVec 4)
opaque Config.decodeController : List Byte → ControllerSection
/-- R480 step 7: the lengths of the bodies whose layout is Rowigon's. -/
opaque Config.bodyLengthGood : Nat → Nat → Bool

/-! ### Cryptographic functions named by their standards; assumption 7 -/

/-- SHA-384 of a public key X‖Y, as 12 words with the first byte in bits 7:0 of word 0 (R480 step 2). -/
opaque Config.sha384 : List Byte → List Word
/-- ECDSA over P-384 of the SHA-384 digest: message, public key, signature (R478). -/
opaque Config.ecdsaGood : List Byte → List Byte → List Byte → Bool
/-- AES-256-GCM: key, IV, additional data, body, tag; none when the tag does not match (R479). -/
opaque Config.gcmOpen : List Word → List Byte → List Byte → List Byte → List Byte → Option (List Byte)
/-- The first 4 bytes of the AES-256 encryption of an all-zero block (R529). -/
opaque Config.keyCheck : List Word → Word

/-! ### Free values; assumption 15 -/

/-- A value that the spec leaves open, by the number that the state gives it. -/
opaque Config.freeWord : Nat → Word
/-- R112: the targets that the fault handler moves after a repair, as (element, new target). -/
opaque Config.retarget : Nat → List (Nat × Word)
/-- A quotient by zero of a calibration, by its numerator. -/
opaque Config.overZero : Int → Int
/-- Whether an inexact quotient is rounded up where the spec names no rounding: numerator, denominator. -/
opaque Config.roundUp : Int → Int → Bool
/-- What a debug access to controller memory returns (R514, R515). -/
opaque Config.debugWord : Nat → Word → Word

end Sys2Proof
end

