-- ==== Sys2Proof/Machine/State.lean ====
section
/-! DEFINITION. The state of the machine as plain data: every register, record, queue, buffer, counter and mode that
the spec gives the device, and the queue of the commands that wait. Large arrays are sparse maps (Word.lean); an
unlisted key reads as the default of its kind. -/

namespace Sys2Proof.Machine

/-! ### Stops -/

/-- The faults of the machine. No rule of the spec stops the block, so no meaning answers with a fault; the one
constructor is held for a command that no rule lets exist, and is safe. -/
inductive Fault where
  /-- Raised by no meaning. Safe: it would only stop a run. -/
  | impossible
  deriving DecidableEq, Repr

/-- The refusals of the machine. -/
inductive Refusal where
  /-- Raised by an arm of exec whose meaning is not written. Safe: it only stops a run. -/
  | notModelled (mnemonic : String)
  deriving DecidableEq, Repr

/-! ### Time (12_time_and_synchronization.md) -/

/-- A timescale or device time: 48-bit seconds, 30-bit nanoseconds, 32-bit fraction in units of 2^-32 ns. -/
structure Clock where
  sec : BitVec 48 := 0
  ns : BitVec 30 := 0
  frac : BitVec 32 := 0
  deriving DecidableEq, Repr, Inhabited

/-- R371, Table: Device time states. -/
inductive DtState where
  | follow | locked | slewing
  deriving DecidableEq, Repr, Inhabited

/-- An entry of the capture FIFO, Table: Capture FIFO entry. -/
structure CapEntry where
  data0 : Word
  data1 : Word
  data2 : Word
  /-- The port, and the port time-stamp in 1/64 ns of device time, by which entries of one port are ordered (R378). -/
  port : Nat := 0
  ts : Int := 0
  deriving DecidableEq, Repr, Inhabited

/-- A LOAD or a STEP of a timescale that waits for its tick (R368). -/
inductive TimCmd where
  | load (sec : BitVec 48) (ns : BitVec 30)
  | step (ns : BitVec 32)
  deriving DecidableEq, Repr, Inhabited

/-- Device time and both timescales at a tick. -/
structure TimeMark where
  dt : Clock := {}
  a : Clock := {}
  b : Clock := {}
  deriving DecidableEq, Repr, Inhabited

/-- The time unit. -/
structure TimSt where
  /-- Timescale A. -/
  a : Clock := {}
  /-- Timescale B. -/
  b : Clock := {}
  /-- Device time. -/
  dt : Clock := {}
  /-- R371. -/
  mode : DtState := .follow
  /-- R368: the accepted LOADs and STEPs of A and of B that wait for the tick, in the order of acceptance. -/
  todoA : List TimCmd := []
  todoB : List TimCmd := []
  /-- R382: what SEC_HI, NS and FRAC of each clock return, latched by a read of its SEC_LO. -/
  latchDt : Clock := {}
  latchA : Clock := {}
  latchB : Clock := {}
  /-- R379: the capture FIFO, oldest first. -/
  fifo : List CapEntry := []
  /-- The words latched by the last read of TIM_FIFO_DATA0. -/
  data1 : Word := 0
  data2 : Word := 0
  /-- The number of 800 MHz ticks since the time unit came up (R366). -/
  ticks : Nat := 0
  /-- The increment that the latest tick added to each clock, in 2^-32 ns (R623). -/
  incDt : Nat := 0
  /-- The root-clock cycles from the latest tick to the latest boundary or trigger that was given by its phase (R623). -/
  phase : Fin 4 := 0
  /-- The clocks at the ticks before, newest first, for time-stamps of frames in reception (R274, R377). -/
  hist : List TimeMark := []
  deriving DecidableEq, Repr, Inhabited

/-! ### Command ports (18) and security (19) -/

/-- A record of the audit log, Table: Audit record, less its computed CRC word. -/
structure AuditRec where
  code : BitVec 8
  port : BitVec 2
  cls : BitVec 3
  repeats : BitVec 16
  seq : Word
  sec : Word
  ns : BitVec 30
  target : Word
  detail : Word
  deriving DecidableEq, Repr, Inhabited

/-- The latest executed SMP request and its response (R511, R512). -/
structure SmpSt where
  /-- SEQ of the latest executed request; none before the first. -/
  seq : Option (BitVec 16) := none
  /-- Its response frame, as bytes; while it executes, a frame with status PENDING. -/
  resp : List Byte := []
  /-- R511, R512: the frame that a POLL returns, and the frame driven after the latest POLL. -/
  answer : List Byte := []
  driven : List Byte := []
  /-- The request is still executing: its response is not yet complete. -/
  busy : Bool := false
  deriving DecidableEq, Repr, Inhabited

/-- Who waits for the completion of a mailbox command (R515, R531). -/
inductive MbOwner where
  | pcie | smp
  deriving DecidableEq, Repr, Inhabited

/-- The command-port logic. -/
structure CmdSt where
  /-- R500, R502: the rows in force, one 4-bit port mask per class. -/
  rows : Vector (BitVec 4) 6 := #v[0b1011, 0, 0b0011, 0b0010, 0, 0b1000]
  /-- The rows as the applied image writes them, and whether R501 amended them. -/
  imageRows : Vector (BitVec 4) 6 := Vector.replicate 6 0
  forced : Vector Bool 6 := Vector.replicate 6 false
  /-- CMD_STATUS.AUTH_SRC. -/
  authSrc : BitVec 2 := 0
  /-- The SMP port. -/
  smp : SmpSt := {}
  /-- What the latest read of each port returned (PCIE, SMP, INBAND, JTAG): the completion it saw. -/
  rdData : Vector Word 4 := Vector.replicate 4 0
  /-- MSI-X messages sent, per vector (R507). -/
  msiSent : Sparse Nat := []
  /-- The MSI-X pending-bit array, one bit per vector (R507). -/
  msiPend : BitVec 32 := 0
  deriving DecidableEq, Repr, Inhabited

/-- R522. -/
inductive Lifecycle where
  | standard | hardened | retired
  deriving DecidableEq, Repr, Inhabited

/-- An OTP key hash slot (R524, R532): 384-bit hash as 12 words. -/
structure KeySlot where
  hash : Vector Word 12 := Vector.replicate 12 0
  programmed : Bool := false
  revoked : Bool := false
  partly : Bool := false
  deriving DecidableEq, Repr, Inhabited

/-- The fuse operation in progress (R531). -/
inductive FuseOp where
  | provision (slot : Fin 4) (hash : Vector Word 12)
  | revoke (slot : Fin 4)
  | svn (v : BitVec 8)
  | imageKey (key : Vector Word 8)
  | retire
  deriving DecidableEq, Repr

/-- The image key fuses (R529, R523, R532). -/
inductive KeyFuse where
  | absent | present (key : Vector Word 8) | destroyed
  deriving DecidableEq, Repr, Inhabited

/-- The trigger of a zeroization, as the audit record codes it (0x25). -/
inductive ZeroCause where
  | command | pin | retire
  deriving DecidableEq, Repr, Inhabited

/-- The security functions. -/
structure SecSt where
  lifecycle : Lifecycle := .standard
  variantH : Bool := false
  slots : Vector KeySlot 4 := Vector.replicate 4 {}
  /-- R527: the fused floor. -/
  minSvn : BitVec 8 := 0
  imageKey : KeyFuse := .absent
  /-- R530: the volatile key register that only the decryption engine reads. -/
  volKey : Option (Vector Word 8) := none
  /-- R531: the fuse operation in progress, with the port whose mailbox carries it. -/
  fuse : Option (FuseOp × MbOwner) := none
  /-- R533: the policy in force. -/
  requireEnc : Bool := false
  zpinEn : Bool := true
  coalesce : Bool := true
  /-- R536, R337: a zeroization is in progress; R538: one is held until training. -/
  zeroizing : Option ZeroCause := none
  zeroHeld : Option ZeroCause := none
  /-- R523: a RETIRE's fuse steps wait for its zeroization. -/
  retirePending : Option MbOwner := none
  /-- R530: a zeroization cleared the volatile key register, which stays cleared until the next start-up. -/
  keyShut : Bool := false
  /-- R532: the fuse fields left partly programmed, as FUSE_PARTIAL numbers them. -/
  partialAt : BitVec 7 := 0
  /-- R540: the always-on SRAM, oldest first, and the NVM ring, oldest first. -/
  sram : List AuditRec := []
  ring : List AuditRec := []
  /-- R539: the SEQ that the next record takes. -/
  nextSeq : Word := 0
  /-- R540: records lost and overwritten, and records lost since the last AUDIT_LOST record. -/
  lost : Word := 0
  overwritten : Word := 0
  lostNew : Nat := 0
  deriving DecidableEq, Repr

/-! ### Faults (15) -/

/-- A fault report on its way to the collector (R443). -/
structure SentFault where
  code : BitVec 16
  cls : Fin 4
  sec : BitVec 48
  ns : BitVec 30
  deriving DecidableEq, Repr, Inhabited

/-- A merged entry of a record (R442). -/
structure FltEntry where
  code : BitVec 16
  cls : Fin 4
  promoted : Bool
  persist : Bool
  tsNs : Word
  deriving DecidableEq, Repr, Inhabited

/-- A fault record, Table: FLT_RECORD. -/
structure FltRecord where
  code : BitVec 16 := 0
  cls : Fin 4 := 0
  reaction : BitVec 2 := 0
  isOpen : Bool := false
  safe : Bool := false
  mergeOvf : Bool := false
  clearedByRestart : Bool := false
  promoted : Bool := false
  persist : Bool := false
  seq : Word := 0
  detSec : Word := 0
  detNs : BitVec 30 := 0
  count : BitVec 16 := 0
  entries : List FltEntry := []
  clrSec : Word := 0
  clrNs : BitVec 30 := 0
  deriving DecidableEq, Repr, Inhabited

/-- A counting window (R438, R440): its source, its opening in ns of device time, its count, and the N and W in force
when it opened. -/
structure FltWindow where
  code : BitVec 16
  start : Nat
  count : Nat
  n : Nat
  w : Nat
  deriving DecidableEq, Repr, Inhabited

/-- The fault collector and the hardware safe state. -/
structure FltSt where
  /-- R443: reports sent and not yet collected, in order of detection. -/
  sent : List SentFault := []
  /-- R449: S fault signals sent and not yet received, as fault codes. -/
  signals : List (BitVec 16) := []
  /-- R444: the ring of 256 records, by index. -/
  ring : Sparse FltRecord := []
  /-- Ring index of the open record; of the open or last record; records opened since VIN. -/
  openRec : Option (Fin 256) := none
  lastIdx : Fin 256 := 0
  nextSeq : Word := 0
  windows : List FltWindow := []
  /-- R439: promoted sources whose record is not yet cleared. -/
  promoted : List (BitVec 16) := []
  /-- R449: the hardware safe state is in force. -/
  safe : Bool := false
  /-- R454: the record that forced it has closed; it ends at the next slot boundary. -/
  safeEnding : Bool := false
  /-- R454: outputs stay held until the next sample boundary. -/
  outHeld : Bool := false
  /-- R444: records that await the NVM fault log, and the log, oldest first. -/
  nvmWait : List FltRecord := []
  nvmLog : List FltRecord := []
  /-- R440: N of the windows of CHIP kind 1, which a write of FLT_BLOCK_CFG[8] sets with that of kind 0. -/
  chipN1 : Nat := 64
  /-- R578: VIN has stayed in range for 10 ms (cause test of SYS 4). -/
  vinGood : Bool := true
  deriving DecidableEq, Repr, Inhabited

/-! ### Thermal supervision (16) -/

/-- One sensor (R459, R460): whether it has taken a reading since reset, its raw code, which is its reading in 1/16 °C
(assumption 84), for how many readings in succession the code has not changed, and why it is broken (0 none, 1 range, 2 stuck,
3 disagreement). -/
structure Sensor where
  seen : Bool := false
  reading : Int := 0
  same : Nat := 0
  cause : BitVec 2 := 0
  deriving DecidableEq, Repr, Inhabited

/-- How many readings of each sensor of a zone in succession a condition on the zone's temperature has lasted (R463, R469). A
sensor takes a reading every 100 µs (R459), so n + 1 readings of one sensor span n times 100 µs. -/
structure Dwell where
  n0 : Nat := 0
  n1 : Nat := 0
  deriving DecidableEq, Repr, Inhabited

/-- The dwells of a threshold: at or above it, and at or below its release point. -/
structure ThrDwell where
  up : Dwell := {}
  down : Dwell := {}
  deriving DecidableEq, Repr, Inhabited

/-- One zone. -/
structure Zone where
  s0 : Sensor := {}
  s1 : Sensor := {}
  /-- R463: the dwells of the warning, throttle and shut-down thresholds. -/
  warnD : ThrDwell := {}
  throttleD : ThrDwell := {}
  shutdownD : ThrDwell := {}
  /-- R469: the dwell within 3 to 92 °C. -/
  windowD : Dwell := {}
  warn : Bool := false
  throttle : Bool := false
  shutdown : Bool := false
  /-- R465: the emitter step in dB that the zone demands. -/
  db : Fin 4 := 0
  deriving DecidableEq, Repr, Inhabited

/-- A thermal event record (R471): kind 0 shut-down, 1 broken sensor, 2 refused restart, with its zone and time. -/
structure ThermalRec where
  kind : Fin 3
  zone : Nat
  sec : BitVec 48
  ns : BitVec 30
  deriving DecidableEq, Repr, Inhabited

/-- Thermal supervision. -/
structure ThmSt where
  zones : Sparse Zone := []
  /-- R469. -/
  nvmOk : Bool := false
  /-- R464: bit c: chiplet c is in the off phase of its duty cycle. -/
  offPhase : BitVec 16 := 0
  /-- R471: records held in SRAM, and the NVM thermal log, oldest first. -/
  events : List ThermalRec := []
  nvmLog : List ThermalRec := []
  lost : Word := 0
  /-- R467: a photonic or laser shut-down is latched; a time unit or always-on shut-down is in force. -/
  picLatched : Bool := false
  coreLatched : Bool := false
  deriving DecidableEq, Repr, Inhabited

/-! ### Structure image (17) -/

/-- R484, GLB_IMG_STATUS.STAGE. -/
inductive StageSt where
  | empty | opened | verifying | full | overlay | failed
  deriving DecidableEq, Repr, Inhabited

/-- R493. -/
inductive RsPhase where
  | none | drain | apply | switching
  deriving DecidableEq, Repr, Inhabited

/-- An image slot of the NVM (R484, R486): its bytes, whether its header is valid, and whether it passed at the last
start-up. -/
structure ImgSlot where
  bytes : Sparse Byte := []
  len : Nat := 0
  valid : Bool := false
  passed : Bool := false
  deriving DecidableEq, Repr, Inhabited

/-- What the device verifies at present (R480, R487). -/
inductive VerifyWhat where
  | slot (s : Fin 2) | staged
  deriving DecidableEq, Repr, Inhabited

/-- The image logic. -/
structure ImgSt where
  stage : StageSt := .empty
  owner : Option CmdPort := none
  buf : Sparse Byte := []
  stageLen : Nat := 0
  slot0 : ImgSlot := {}
  slot1 : ImgSlot := {}
  /-- R487: what is being verified, the first slot tried, and whether a slot booted. -/
  verifying : Option VerifyWhat := none
  firstTried : Option (Fin 2) := none
  /-- R486: the slot that counts as booted from; a delivered image runs and no commit has completed. -/
  bootSlot : Fin 2 := 0
  delivered : Bool := false
  fallback : Bool := false
  /-- R476. -/
  locked : Bool := false
  /-- R486. -/
  commitBusy : Bool := false
  commitWait : Bool := false
  /-- R493: the phase and the state of acceptance. -/
  phase : RsPhase := .none
  authForced : Bool := false
  err : BitVec 4 := 0
  faultSection : BitVec 5 := 0
  faultOffset : BitVec 24 := 0
  /-- The image in force, and the staged image as verified. -/
  inForce : Option Image := none
  staged : Option Image := none
  /-- What the sections in force fix (R474). -/
  ports : List PortEntry := []
  tenants : List (Fin 8) := []
  engines : EnginesSection := default
  /-- R494: the engine lists of a restructure, which serve from the next sample boundary. -/
  nextEngines : Option EnginesSection := none
  controller : ControllerSection := default
  deriving DecidableEq, Repr

/-! ### Global state, domains, clocks, power (20, 21, 22) -/

/-- R556. -/
inductive GState where
  | off | aon | boot | structured | calibrating | locking | service | quiesced | restructure | halted
  deriving DecidableEq, Repr, Inhabited

/-- VIN as the always-on domain judges it (R577, R578, R580). -/
inductive VinLevel where
  | absent | rising | good | outOfRange | collapsed
  deriving DecidableEq, Repr, Inhabited

/-- A device restart under way (R560). -/
inductive RestartSt where
  | none | waiting
  deriving DecidableEq, Repr, Inhabited

/-- The global state machine and what belongs to it. -/
structure GlbSt where
  state : GState := .aon
  prev : GState := .off
  haltCause : BitVec 4 := 0
  calReturn : Bool := false
  /-- The start-up step under way, 1 to 11; 12 once SERVICE is reached. -/
  step : Nat := 2
  /-- R549: domains still to be switched on, in order, and the one waiting for power-good. -/
  powerOrder : List (Fin 64) := []
  /-- R581: bit d: domain d reports power-good. -/
  pg : BitVec 64 := 0x8000000000000000
  /-- R563: the domain restart under way. -/
  domRestart : Option (Fin 64) := none
  restart : RestartSt := .none
  /-- R557: the state a drain returns to; none while no QUIESCE or RESTRUCTURE drains. -/
  quiescing : Bool := false
  rsReturn : GState := .service
  vin : VinLevel := .good
  pwrEn : Bool := true
  /-- Present level of ZEROIZE_N. -/
  zeroizeN : Bool := true
  straps : BitVec 4 := 0
  /-- The ms and us counts since always-on power-good are taken from the tick count at that instant. -/
  startTime : Word := 0
  stepTime : Vector Word 12 := Vector.replicate 12 0
  /-- R590. -/
  pllLock : Bool := false
  refclkOk : Bool := false
  holdover : Bool := false
  deriving DecidableEq, Repr

/-- A handshake crossing (R593 to R595): the delta in flight, the holding register, and the pulse count last delivered. -/
structure Crossing where
  flight : Option Int := none
  hold : Option Int := none
  pulses : Fin 16 := 0
  deriving DecidableEq, Repr, Inhabited

/-! ### Element loops (02, 03) -/

/-- An S-format word (R91): value m × 2^(e − 26). -/
structure SNum where
  e : Nat := 0
  m : Int := 0
  deriving DecidableEq, Repr, Inhabited

/-- R92. -/
inductive LoopMode where
  | off | acquisition | service | hold
  deriving DecidableEq, Repr, Inhabited

/-- The profile generator of an element (R113): p in Q32.16, v and a in Q16.16 pu. -/
structure Profile where
  p : Int := 0
  v : Int := 0
  a : Int := 0
  deriving DecidableEq, Repr, Inhabited

/-- The estimator and sign sums (R62, R67), the estimate k of the last iteration (R64) and the probe (R66, R70). -/
structure Estimator where
  sxxBar : SNum := {}
  sxyBar : SNum := {}
  sxxCross : SNum := {}
  sxyCross : SNum := {}
  signBar : SNum := {}
  signCross : SNum := {}
  snorm : SNum := {}
  k : Int := 1073741824
  /-- The sample in which the latest probe was issued, and the bank it was issued under. -/
  probe : Option (Nat × Fin 2) := none
  /-- The element was STALE or changed heater range since the probe was issued. -/
  spoiled : Bool := false
  deriving DecidableEq, Repr, Inhabited

/-- Acquisition and hand-over (R96 to R110). The notch holds w1, w2 and ACQ_N with 16 fractional bits (R99). -/
structure Acquisition where
  theta : BitVec 32 := 0
  /-- The phase before the latest advance, and the sample of that advance: which phase the output of the sample before
  the last had applied (R98). -/
  thetaPrev : BitVec 32 := 0
  thetaAt : Option Nat := none
  rm : Int := 0
  g : Int := 0
  off : Int := 0
  z1 : Int := 0
  z2 : Int := 0
  w1 : Int := 0
  w2 : Int := 0
  acqN : Int := 0
  samples : Nat := 0
  lockRun : Nat := 0
  refusals : Nat := 0
  rampLeft : Nat := 0
  b0 : Int := 0
  hAcq : Int := 0
  /-- R104: the last sample applied DITH 0, so the next is a hand-over attempt. -/
  attempt : Bool := false
  /-- R110: a host request for SERVICE waits. -/
  hostReq : Bool := false
  deriving DecidableEq, Repr, Inhabited

/-- Plausibility supervision (R115 to R120). -/
structure Plausibility where
  resSum : Int := 0
  resSplit : Int := 0
  history : BitVec 16 := 0
  clearRun : Nat := 0
  sumOob : Bool := false
  splitOob : Bool := false
  verdict : Bool := false
  /-- The element was evaluated in the sample of its last iteration (R117, R415). -/
  evaluated : Bool := false
  implausible : Bool := false
  deriving DecidableEq, Repr, Inhabited

/-- One controller's record of an element and its engine-internal state (R53, R89). -/
structure Elem where
  mode : LoopMode := .off
  prof : Profile := {}
  heater : BitVec 24 := 0
  levBar : BitVec 14 := 0
  levCross : BitVec 14 := 0
  intBar : Int := 0
  intCross : Int := 0
  est : Estimator := {}
  acq : Acquisition := {}
  pl : Plausibility := {}
  /-- R85, and the STALE that an invalid reading sets. -/
  overrun : Bool := false
  stale : Bool := false
  /-- R75: the previous output was clamped at 0xFF_FFFF, or at 0. -/
  clampHi : Bool := false
  clampLo : Bool := false
  /-- The sample in which the element was last begun (R85), and that of its last completed iteration. -/
  begun : Option Nat := none
  lastIter : Option Nat := none
  /-- The sample from which a mode change of R118 is due. -/
  modeDue : Option LoopMode := none
  /-- R386: loop error, heater output and estimate of the last completed iteration. -/
  lastErr : Int := 0
  deriving DecidableEq, Repr, Inhabited

/-- The role of a physical engine, LPE_ENGINE.ROLE. -/
inductive EngRole where
  | off | active | spare | faulty
  deriving DecidableEq, Repr, Inhabited

/-- A physical engine: the logical engine it serves, its role, and its overrun samples of the last 64 (R86). -/
structure Engine where
  logical : Nat
  role : EngRole
  ovr : List Nat
  /-- The sample in which it was declared faulty: it serves to the end of that sample (R85, R87). -/
  lastServed : Option Nat := none
  deriving DecidableEq, Repr, Inhabited

/-- The loops of one controller (R53, R627). -/
structure CtlLoops where
  elems : Sparse Elem := []
  engines : Sparse Engine := []
  /-- R57: how many selector iterations each logical engine has begun. -/
  selPtr : Sparse Nat := []
  /-- The sample in which each logical engine last ran its selector iteration (R57). -/
  selRun : Sparse Nat := []
  handoverRefused : Nat := 0
  implausibleEvents : Nat := 0
  overruns : Nat := 0
  probeDiscards : Nat := 0
  engFaults : Nat := 0
  deriving DecidableEq, Repr, Inhabited

/-- A tap reading with its tag (R146, R151): value on the scale 0 to 65,532. -/
structure TapReading where
  value : Nat
  valid : Bool
  reason : Fin 8
  /-- The partner of the tap's unit converted it (R159). -/
  byPartner : Bool := false
  deriving DecidableEq, Repr, Inhabited

/-- A capture (R54): the sample it belongs to, whether the excitation was applied (R61), the state selects at the
capture instant (R55), and the readings that have come in. -/
structure Capture where
  sample : Nat
  exc : Bool
  sel : BitVec 5120
  readings : Sparse TapReading
  deriving DecidableEq, Repr, Inhabited

/-- What the two controllers' loops share. -/
structure LoopShared where
  /-- The loops run (from the entry to LOCKING, R59), and the loop sample number (LPE_SAMPLE). -/
  running : Bool := false
  sample : Nat := 0
  /-- The first sample has not begun yet. -/
  first : Bool := true
  /-- Sample boundaries since the time unit came up (R180). -/
  bnd : Nat := 0
  /-- The device time at the start of this loop sample, in 2^-32 ns (R385). -/
  t0 : Nat := 0
  /-- R81. -/
  activeBank : Fin 2 := 0
  swapAt : Option Nat := none
  /-- R90: targets in force, and targets written since the last boundary. -/
  target : Sparse Word := []
  targetPend : List (Nat × Word) := []
  /-- R60, R61: the excitation in force. -/
  depth : BitVec 5 := 8
  excOn : Bool := true
  /-- R59: the LFSR of each emitter. -/
  lfsr : Sparse (BitVec 23) := []
  /-- R124: the pending request. -/
  modeReq : Option (Fin 5120 × LoopMode) := none
  /-- The capture used by the iterations of this sample, and the capture taken in this sample (R55). -/
  capPrev : Option Capture := none
  capCur : Option Capture := none
  /-- The state of each element at the last capture (Table: Element record CTRL word, CAP_STATE). -/
  capState : BitVec 5120 := 0
  /-- R177: elements STALE for calibration until the boundary of the sample given. -/
  calStale : Sparse Nat := []
  deriving DecidableEq, Repr, Inhabited

/-! ### Drive-and-sense die (04) -/

/-- R136. -/
inductive RangePhase where
  | idle | down | hold | up
  deriving DecidableEq, Repr, Inhabited

/-- The channel of one element: heater driver with its two limiters (R131), level DACs and flags. -/
structure Chan where
  latest : BitVec 24 := 0
  out : BitVec 24 := 0
  count : Nat := 255
  latestSb : BitVec 24 := 0
  outSb : BitVec 24 := 0
  countSb : Nat := 255
  /-- R130: a step held until the end of the guard. -/
  deferred : Bool := false
  deferredSb : Bool := false
  range1 : Bool := false
  phase : RangePhase := .idle
  /-- R137: sample boundaries until STALE of a range change clears. -/
  staleLeft : Nat := 0
  compliance : Bool := false
  /-- R132: the headroom detector reported in this sample. -/
  headroom : Bool := false
  openload : Bool := false
  unwritten : Bool := true
  /-- Level DAC codes applied, and where the guards move them (R139). -/
  levBar : BitVec 14 := 0
  levCross : BitVec 14 := 0
  tgtBar : BitVec 14 := 0
  tgtCross : BitVec 14 := 0
  /-- The level codes of the other controller, with which they are compared (R413). -/
  sbBar : BitVec 14 := 0
  sbCross : BitVec 14 := 0
  deriving DecidableEq, Repr, Inhabited

/-- The drive-and-sense die's channels. -/
structure DrvSt where
  chans : Sparse Chan := []
  /-- The state selects in force: bit e is 1 for CROSS. -/
  sel : BitVec 5120 := 0
  /-- R135: the pending range request: element, and range 1 wanted. -/
  rangeReq : Option (Fin 5120 × Bool) := none
  /-- t = 0 to t = 64 ns of a guard (R27). -/
  inGuard : Bool := false
  /-- The heater quadrants switched off for good by a photonic shut-down (R142). -/
  picOff : Bool := false
  deriving DecidableEq, Repr, Inhabited

/-- The mode of an ADC unit, CNV_AU_CFG.MODE. -/
structure AuCfg where
  direct : Bool := false
  lp : Bool := false
  gain : Fin 4 := 0
  filt : Fin 8 := 0
  input : BitVec 7 := 0
  deriving DecidableEq, Repr, Inhabited

/-- An ADC unit. -/
structure AdcUnit where
  cfg : AuCfg := {}
  /-- R157: a configuration that waits for the end of the conversion window. -/
  waiting : Option AuCfg := none
  failed : Bool := false
  /-- Lent to a Loupe unit (R158), from the sample boundary on. -/
  lent : Bool := false
  /-- R153. -/
  recovery : Fin 3 := 0
  /-- R152: invalid conversions left, and their cause as the tag names it. -/
  settle : Nat := 0
  settleWhy : Fin 8 := 0
  /-- R157: it returned to loop duty and converts from the next capture. -/
  loopNext : Bool := false
  /-- R154: bit i: slice i's corrections are within range; the corrections of the slices, as the events gave them. -/
  sliceOk : BitVec 4 := 0xF
  slices : Vector (Int × Int × Int) 4 := Vector.replicate 4 (0, 0, 0)
  /-- R154: the conversions in direct duty since each slice's latest correction. -/
  convs : Vector Nat 4 := Vector.replicate 4 0
  /-- R155, R156: the held direct-mode result. -/
  data : BitVec 31 := 0
  isNew : Bool := false
  deriving DecidableEq, Repr, Inhabited

/-- The ADC units, and the repair plan of the next capture (R159): units whose partner converts for them. -/
structure AdcSt where
  units : Sparse AdcUnit := []
  /-- Units failed since the last capture: their remaining readings of it are NOT_READ, and repair starts at the
  next capture. -/
  fresh : List (Fin 100) := []
  /-- R159: units that had not finished the window of the sample before when the capture of this sample was taken. -/
  late : List Nat := []
  /-- R161: the failed units that the repair map in NVM holds. -/
  map : List Nat := []
  deriving DecidableEq, Repr, Inhabited

/-! ### The matrix (01) -/

/-- A traffic pair: ingress and egress port. -/
abbrev Pair := Nat × Nat

/-- The result of routing a slot (R29): the pairs routed, the completion pairs that the states connect, the element
states (bit e is 1 for CROSS, elements 0 to 4,607), the S17 setting being part of them, and the pairs left out. -/
structure Routed where
  pairs : List Pair
  completion : List Pair
  states : BitVec 4608
  left : List Pair
  deriving DecidableEq, Repr, Inhabited

/-- An emitter (R43, R44, R48). -/
structure Emitter where
  /-- It has come up (R551) and has not failed since. -/
  up : Bool := false
  failed : Bool := false
  /-- On at all, and its output in dB below nominal. -/
  on : Bool := false
  dB : Nat := 0
  deriving DecidableEq, Repr, Inhabited

/-- A laser bank. -/
structure Bank where
  spareUsed : Bool := false
  spareFor : Fin 16 := 0
  /-- A takeover for a position, or a release, waits for the next guard. -/
  takeover : Option (Fin 16) := none
  release : Bool := false
  /-- The bank's laser group domain has no power, or did not come up (R549, R562): all its modulators are dark. -/
  unlit : Bool := false
  /-- Bit i: MOD(16n + i) has no light. -/
  dark : BitVec 16 := 0
  deriving DecidableEq, Repr, Inhabited

/-- The matrix. -/
structure MtxSt where
  /-- R32: factory parks and field parks of the repair map; field parks in effect; overlay entries in force. -/
  factory : List Nat := []
  field : List Nat := []
  overlayAdd : List Nat := []
  overlayClear : List Nat := []
  /-- R33: the merged parked set in force. -/
  parked : BitVec 4608 := 0
  /-- R35: field parks recorded and not yet in effect, with the slot from which they act. -/
  pending : List (Nat × Nat) := []
  overlayRefused : Nat := 0
  /-- R31: the parked set for which the rotation routes are stored. -/
  rotationFor : Option (BitVec 4608) := none
  rotation : List (List Pair × Routed) := []
  emitters : Sparse Emitter := []
  /-- R44: for each emitter whose tap read below half of its reference in the latest samples, how many in succession. -/
  low : Sparse Nat := []
  banks : Sparse Bank := []
  /-- R448: isolated ports; R630: ports whose light has returned, each with the slot of the first cycle boundary after. -/
  isolated : List Nat := []
  rejoin : List (Nat × Nat) := []
  deriving DecidableEq, Repr, Inhabited

/-! ### Diopter (05) -/

/-- A set area of the NVM (R183), with its ADC entries, responsivities, emitter references and element entries. An
element entry is its 72 words. Word 63 of the header and the word at 0x0_B380 are stored as they were written. -/
structure CalSet where
  valid : Bool := false
  factory : Bool := false
  headCrc : Word := 0
  bodyCrc : Word := 0
  tag : Int := 0
  seq : Nat := 0
  time : Word := 0
  skipped : Nat := 0
  au : Sparse (Word × Word × Word) := []
  resp : Sparse Word := []
  emit : Sparse Word := []
  entries : Sparse (List Word) := []
  deriving DecidableEq, Repr, Inhabited

/-- What is in use for one element (R165, R181, R182): the interpolated LIN in range-0 code units and as the range in
force has it, CAL_OFFSET, the interpolated level codes, and the interpolated LC. -/
structure CalElem where
  lin : List Nat := []
  linUse : List Nat := []
  /-- R182: a new LIN waits for the end of a range change. -/
  linPend : Bool := false
  offset : Int := 0
  levBar : Int := 0
  levCross : Int := 0
  lc : Nat := 0x3DD3BE4A
  lcAdj : Int := 0
  deriving DecidableEq, Repr, Inhabited

/-- The calibration of an ADC unit (R164). -/
structure AuCal where
  gain : Word := 0x40000000
  offset : Word := 0
  ref104 : Word := 0
  deriving DecidableEq, Repr, Inhabited

/-- One trial's results: trial number and measurements. -/
structure TrialRec where
  trial : Nat
  results : List (Nat × Int × Word)
  deriving DecidableEq, Repr, Inhabited

/-- Diopter. -/
structure CalSt where
  sets : Vector CalSet 9 := Vector.replicate 9 {}
  elems : Sparse CalElem := []
  aus : Sparse AuCal := []
  resp : Sparse Word := []
  emitRef : Sparse Word := []
  /-- R180, R181. -/
  temp : Int := 0
  weight : Nat := 0
  loArea : Fin 9 := 0
  hiArea : Fin 9 := 0
  clamped : Bool := false
  /-- R182: CAL_TEMP or the sets changed, and the new values wait for the next sample boundary. -/
  dirty : Bool := false
  /-- R169: 0 outside full calibration; step 1 to 7. -/
  step : Fin 8 := 0
  fullBusy : Bool := false
  /-- R174: the stage under trial (18 for selectors), its trial, repetitions of that trial (R176), and results. -/
  stage : Nat := 0
  trial : Nat := 0
  reps : Nat := 0
  trials : List TrialRec := []
  /-- R177: the stage is named (its elements are STALE). -/
  named : Bool := false
  /-- R178: stages whose results wait for the guard after their elements' STALE ends, with the sample it ends at. -/
  applyAt : Option Nat := none
  /-- R185, R186: the store in progress: target area and contents; waiting for the NVM window. -/
  storing : Option (Fin 9 × CalSet) := none
  storeWait : Bool := false
  /-- The set that the store replaces, whether it is one from service, and a set of a full calibration whose store
  waits for the one in progress. -/
  storeOld : Option (Fin 9) := none
  storeService : Bool := false
  storeNext : Option CalSet := none
  /-- R180: CAL_TEMP at the end of step 5; the elements skipped in the latest full calibration or pass. -/
  fullTag : Int := 0
  skip : List Nat := []
  /-- R169: the stage (18 the selectors), the part and the point that the step under way of a full calibration measures,
  and that its work is done. -/
  fStage : Nat := 0
  part : Nat := 0
  point : Nat := 0
  stepDone : Bool := false
  /-- The sample boundary from which the outputs of the point are in force, 0 while they are still to be set. -/
  since : Nat := 0
  /-- By element what the part under way has measured, newest first: the ratios of R172 and R173, the values of R166. -/
  meas : Sparse (List Int) := []
  /-- R176: the values in use before the full calibration under way. -/
  prev : Sparse CalElem := []
  setData : List Word := []
  deriving DecidableEq, Repr, Inhabited

/-! ### Redundancy (14) -/

/-- R410. -/
inductive CtlState where
  | isolated | testing | syncing | standby | active
  deriving DecidableEq, Repr, Inhabited

/-- Table: Switch-over triggers. -/
inductive SwCause where
  | arbitration | loss | activeFault | host
  deriving DecidableEq, Repr, Inhabited

/-- A health report (R431, Table: RED_HEALTH). -/
structure HealthRep where
  engine : Fin 52 := 0
  paused : Bool := false
  failed : Bool := false
  runs : Nat := 0
  corrected : Nat := 0
  uncorr : Nat := 0
  clean : Nat := 0
  late : Nat := 0
  sample : Nat := 0
  deriving DecidableEq, Repr, Inhabited

/-- What the arbiter holds of one controller. -/
structure CtlRed where
  state : CtlState := .isolated
  suspect : Bool := false
  asleep : Bool := false
  /-- R429: the engine under self-test next, whether the test pauses, whether an engine failed, and runs. -/
  bistEngine : Fin 52 := 0
  bistPaused : Bool := false
  bistFailed : Bool := false
  bistRuns : Nat := 0
  scrubCorrected : Nat := 0
  scrubUncorr : Nat := 0
  /-- R431: the report published at the last 256th boundary, which RED_HEALTH shows. -/
  rep : HealthRep := {}
  /-- A command that follows a SWITCH away from this controller (R418): ISOLATE, or SLEEP. -/
  follow : Option Bool := none
  deriving DecidableEq, Repr, Inhabited

/-- The arbiter and the Mirror link. -/
structure RedSt where
  a : CtlRed := {}
  b : CtlRed := {}
  /-- R413, R415: the elements with a mismatch in this sample, and in the sample before. -/
  mism : List Nat := []
  mismPrev : List Nat := []
  mismRun : Nat := 0
  /-- R415: the elements of M while the arbitration sample runs, and its number. -/
  arbM : Option (List Nat) := none
  arbAt : Nat := 0
  lastMismatch : Word := 0
  lastSwitch : Word := 0
  /-- R418, R420: a switch-over waits: its cause and the sample boundary S; the sample at which the gap ends. -/
  pendingSw : Option (SwCause × Nat) := none
  gapEnd : Option Nat := none
  /-- R427, R426, R417. -/
  cleanRun : Nat := 0
  lateAt : List Nat := []
  lateRun : Nat := 0
  suspectMism : Nat := 0
  /-- The sample under way has a divergence or a late copy (R427). -/
  dirty : Bool := false
  /-- R425: the state copy in flight (0 none, 1 in flight, 2 late), and whether it differs from the standby's state. -/
  copyOut : Fin 3 := 0
  copyDiff : Bool := false
  /-- R429: an engine test is due in this period of 256 samples. -/
  bistDue : Bool := false
  /-- SHADOW began in this sample, in which the copy still applies. -/
  fresh : Bool := false
  /-- R432, R433: phase 1 to 3 (0 none), copies applied, restarts. -/
  syncPhase : Fin 4 := 0
  copies : Nat := 0
  restarts : Nat := 0
  deriving DecidableEq, Repr, Inhabited


/-! ### Loupe (13) -/

/-- R394. -/
inductive LoupeState where
  | idle | settle | prefill | armed | post | holdoff
  deriving DecidableEq, Repr, Inhabited

/-- The trigger point of the record in progress (R393, R398): conditions met, the lowest, LATE, TRIG_OFFSET, TRIG_SUB, and
the device time in 2^-32 ns. -/
structure LoupeTrig where
  mask : BitVec 5 := 0
  cause : Nat := 0
  late : Bool := false
  offset : Nat := 0
  sub : Nat := 0
  time : Nat := 0
  deriving DecidableEq, Repr, Inhabited

/-- An event that an event condition of a unit waits to place (R391, R392): the condition, the event time, the instant from which
a sample meets it (later than the event time where the event came too late), and LATE. -/
structure LoupeEv where
  cond : Nat
  time : Nat
  start : Nat
  late : Bool
  deriving DecidableEq, Repr, Inhabited

/-- The conditions met at the newest source sample of an ARMED unit, its instant in 2^-32 ns of device time and in root-clock
cycles, TRIG_OFFSET in cycles, and LATE (R393). -/
structure LoupeHit where
  mask : BitVec 5 := 0
  time : Nat := 0
  root : Nat := 0
  offset : Nat := 0
  late : Bool := false
  deriving DecidableEq, Repr, Inhabited

/-- A Loupe unit. -/
structure Loupe where
  st : LoupeState := .idle
  stopCause : Nat := 0
  /-- DEC_LOG2 in force, that of the next record, and the calm count (R401). -/
  dec : Nat := 0
  decNext : Nat := 0
  calm : Nat := 0
  /-- R397: WR_PTR, OCCUPANCY and the record memory. -/
  wr : Nat := 0
  occ : Nat := 0
  mem : Sparse (BitVec 16) := []
  /-- SEQ of the next record, and the records lost since the last. -/
  seq : Nat := 0
  lostNew : Nat := 0
  /-- R387, R388: a lending waits for the boundary; the first unit of the pair lent, and the loop samples so far. -/
  lendWait : Bool := false
  lent : Option Nat := none
  lentFor : Nat := 0
  /-- The tick at which lending began (R387). -/
  lendTick : Nat := 0
  trig : LoupeTrig := {}
  /-- The recorded samples (sample, INVALID or not iterated), the source samples of the group under way (value, OVR, INVALID or
  not iterated), the primed detectors (rising 2c, falling 2c + 1), the last value, and what the newest sample met. -/
  buf : List (BitVec 16 × Bool) := []
  acc : List (Int × Bool × Bool) := []
  prime : BitVec 8 := 0
  lastV : Int := 0
  hit : LoupeHit := {}
  trigIndex : Nat := 0
  /-- R392: FORCE is accepted, and events that no sample has met yet. -/
  force : Bool := false
  evs : List LoupeEv := []
  /-- R395: the occurrences ignored in this hold-off. -/
  ignored : Nat := 0
  /-- R406: the root-clock cycles at which assertions of the TRIG line are to begin, and at which the latest began. -/
  outWait : List Nat := []
  driving : Option Nat := none
  deriving DecidableEq, Repr, Inhabited

/-- The Loupe units, and the compensated time of each TRIG line's latest event in 2^-32 ns (R407). -/
structure AcqSt where
  units : Sparse Loupe := []
  trigTime : Sparse Nat := []
  deriving DecidableEq, Repr, Inhabited

/-! ### Packets -/

/-- What a received CFH gave (R269, R291): class, hint, hint valid, seed, and the request for a time-stamp. -/
structure CfhInfo where
  cls : Nat
  hint : Nat
  hintValid : Bool
  seed : Word
  tsReq : Bool
  deriving DecidableEq, Repr, Inhabited

/-- A packet in the device. Its bytes are those buffered: from the CFH where one is kept, else from the destination
address, through the FCS. -/
structure Pkt where
  bytes : List Byte
  /-- The port whose MAC received it, and its RX time-stamp in 1/64 ns of device time (R274). -/
  rxPort : Nat
  rx : Int := 0
  cfh : Option CfhInfo := none
  cfhKept : Bool := false
  /-- The flags of entries 0 and 1 raised so far, and forwarded (R288). -/
  fParse : Bool := false
  fLen : Bool := false
  /-- 0 first pass, 1 recirculated (R297); the context and the key. -/
  pass : Nat := 0
  ctx : Nat := 0
  key : List Byte := []
  /-- The pinned rule bank and microcode bank. -/
  bank : Option (Fin 2) := none
  ucode : Option (Fin 2) := none
  /-- The result of an exception entry that a pass ended with, held until the packet's turn comes (R289, R302). -/
  exc : Option (Word × Word) := none
  /-- After admission: ingress port of attribution, egress port, class, flow group, colour, CE, segments. -/
  ing : Nat := 0
  eg : Nat := 0
  cls : Nat := 0
  fg : Nat := 0
  colour : Nat := 0
  ce : Bool := false
  segs : List (BitVec 32) := []
  /-- R345; segments put into bursts so far; its EOP has transferred (R234). -/
  credited : Bool := false
  sent : Nat := 0
  moved : Bool := false
  /-- A gap holds one of its segments (R241). -/
  gone : Bool := false
  deriving DecidableEq, Repr, Inhabited

/-- A segment as a burst carries it: its packet, its place in the packet, SOP and EOP, and its segment ID. -/
structure SegRef where
  pkt : Nat
  idx : Nat
  sop : Bool
  eop : Bool
  cls : Nat
  seg : BitVec 32
  deriving DecidableEq, Repr, Inhabited

/-! ### Prism (06) -/

/-- A repair request (R206): its pair, SEQ, the slot it was raised in, the last slot that R207 allows it, the slot at whose
start it was registered last, and whether its burst was settled while it stood in the work for a slot. -/
structure RepReq where
  i : Nat
  j : Nat
  seq : Nat
  raised : Nat
  bound : Nat
  registered : Nat := 0
  settled : Bool := false
  deriving DecidableEq, Repr, Inhabited

/-- A carried pair (R208): the slot it was first left out of, and the slots it was left out of in succession. -/
structure Carry where
  i : Nat
  j : Nat
  first : Nat
  outs : Nat
  deriving DecidableEq, Repr, Inhabited

/-- The work for one slot (Table: Pipeline for slot n): its type (0 to 3), the repair pairs placed, the other traffic
pairs, whether it was handed over, its routing, whether it took carried pairs, the carry list before it was routed,
whether its final list was delivered, and what each pair staged then: pair, segments, and flow-group pointers after. -/
structure Work where
  slot : Nat
  kind : Nat
  reps : List RepReq := []
  pairs : List Pair := []
  handed : Bool := false
  routed : Option Routed := none
  carryIn : Bool := false
  before : List Carry := []
  delivered : Bool := false
  staged : List (Pair × List SegRef × Sparse Nat) := []
  deriving DecidableEq, Repr, Inhabited

/-- What a slot in force carries: number, type run (0 to 4), traffic pairs of the final list, which of them are repair
pairs, completion pairs, split and carry marks, and whether it is held. -/
structure FinalSlot where
  slot : Nat := 0
  kind : Nat := 0
  pairs : List Pair := []
  reps : List RepReq := []
  completion : List Pair := []
  split : Bool := false
  carryIn : Bool := false
  held : Bool := false
  deriving DecidableEq, Repr, Inhabited

/-- A permutation hold (R214, R421): the slot P that is held, and the slot G that ends it; none in the safe state. -/
structure Hold where
  p : FinalSlot
  g : Option Nat
  deriving DecidableEq, Repr, Inhabited

/-- The Prism engine and the slot in force. -/
structure SltSt where
  /-- The pipeline runs from slot B − 3, and Prism from slot B (R190). -/
  start : Option Nat := none
  running : Bool := false
  /-- SLT_SLOT while the pipeline runs, and the type that the calendar gives it. -/
  slot : Nat := 0
  calType : Nat := 0
  /-- R189: root cycles added to the margin of this slot's guard, and ALIGN_LOST. -/
  adj : Int := 0
  alignLost : Bool := false
  activeArea : Fin 2 := 0
  /-- The slot with which the active calendar took over (R193), and the boundary of a pending change. -/
  calStart : Nat := 0
  change : Option Nat := none
  rotQ : Nat := 0
  gptr : Sparse Nat := []
  aptr : Sparse Nat := []
  /-- Registered repair requests, and those raised in this slot (R206). -/
  reps : List RepReq := []
  newReps : List RepReq := []
  carry : List Carry := []
  work : List Work := []
  cur : FinalSlot := {}
  /-- The final slots of the three slots before, newest first. -/
  past : List FinalSlot := []
  hold : Option Hold := none
  log : Sparse Word := []
  tplT : Nat := 0
  tplI : Nat := 0
  /-- R175: the claimed slot of a Diopter trial; what MTX_PERM_RESULT holds. -/
  claims : List Nat := []
  permResult : Word := 0
  deriving DecidableEq, Repr, Inhabited

/-! ### Burst transport (07) -/

/-- What has become of a burst at its ingress (R233 to R236). -/
inductive BurstSt where
  | sent | acked | failed | gapAsked
  deriving DecidableEq, Repr, Inhabited

/-- A burst that its ingress holds: SEQ, EPOCH, the slot of the latest transmission, its segments and its failures. -/
structure IBurst where
  seq : Nat
  epoch : Nat
  slot : Nat
  segs : List SegRef
  st : BurstSt := .sent
  fails : Nat := 0
  deriving DecidableEq, Repr, Inhabited

/-- The ingress side of a pair. -/
structure IngPair where
  nextSeq : Nat := 0
  bursts : List IBurst := []
  /-- A packet that spans into the next burst (R222), and the round-robin pointer of each class (R353). -/
  span : Option Nat := none
  rr : Sparse Nat := []
  deriving DecidableEq, Repr, Inhabited

/-- A burst accepted and not yet released: SEQ, slot sent, segments with egress-hold IDs, boundary passed. -/
structure EBurst where
  seq : Nat
  slot : Nat
  segs : List SegRef
  passed : Bool := false
  deriving DecidableEq, Repr, Inhabited

/-- The cause of a gap (R241). -/
inductive GapCause where
  | timeout | retx | dram
  deriving DecidableEq, Repr, Inhabited

/-- The egress side of a pair. -/
structure EgrPair where
  e : Nat := 0
  held : List EBurst := []
  /-- NOTICEs of bursts expected: SEQ, EPOCH, SEGS. -/
  notices : List (Nat × Nat × Nat) := []
  /-- R240: the SEQs learned and not passed by E, each with the gap clock at that time; SEQs whose gap waits for a
  release; the causes that the ingress gave; SEQs that gaps have covered. -/
  learned : List (Nat × Nat) := []
  gapDue : List Nat := []
  causes : List (Nat × GapCause) := []
  gapped : List Nat := []
  /-- The partial packet open at E, and segments dropped up to the next SOP (R241). -/
  part : List SegRef := []
  dropping : Bool := false
  deriving DecidableEq, Repr, Inhabited

/-- Side-band messages (R231, Table: Credit messages). -/
inductive Msg where
  | notice (i j epoch seq segs : Nat)
  | ack (i j seq : Nat)
  | nack (i j seq code : Nat)
  | gapReq (i j seq : Nat) (c : GapCause)
  | gap (i j : Nat) (seqs : List (Nat × GapCause))
  | release (c j k n : Nat)
  deriving DecidableEq, Repr, Inhabited

/-- A phase-cache entry (R225): sampling phase in 1/1024 UI without the common offset, word offset, gain, VALID. -/
structure PhaseEntry where
  phase : Int := 0
  uiOff : BitVec 6 := 0
  gain : BitVec 8 := 0
  valid : Bool := false
  deriving DecidableEq, Repr, Inhabited

/-- A receiver (R225 to R230): its entries, its common offset in 1/1024 UI, the source that it loaded in its latest slot, and
what its preamble showed: nothing yet, in tolerance, out of tolerance, no VALID entry; and what the slot before had shown, whose
burst may still await its verdict (R233). -/
structure Rx where
  entries : Sparse PhaseEntry := []
  offset : Int := 0
  loaded : Option Nat := none
  lock : Fin 4 := 0
  slot : Nat := 0
  was : Fin 4 := 0
  wasSlot : Nat := 0
  deriving DecidableEq, Repr, Inhabited

/-- A burst framed for a slot, or sent: its pair, EPOCH and SEQ, its segments, the content of its codewords (R217), and whether
its verdict has been given (R233). -/
structure Flight where
  i : Nat
  j : Nat
  slot : Nat
  epoch : Nat
  seq : Nat
  segs : List SegRef
  retx : Bool
  words : List Word := []
  judged : Bool := false
  deriving DecidableEq, Repr, Inhabited

/-- The ledger of a chiplet (R244), modulo 2^64. -/
structure Ledger where
  admitted : BitVec 64 := 0
  delivered : BitVec 64 := 0
  resident : BitVec 64 := 0
  xferIn : BitVec 64 := 0
  xferOut : BitVec 64 := 0
  disc : Vector (BitVec 64) 32 := Vector.replicate 32 0
  deriving DecidableEq, Repr, Inhabited

/-- The credit counters of a chiplet (R349), modulo 2^64. -/
structure Credits where
  issued : BitVec 64 := 0
  consumed : BitVec 64 := 0
  withdrawn : BitVec 64 := 0
  outstanding : BitVec 64 := 0
  granted : BitVec 64 := 0
  deriving DecidableEq, Repr, Inhabited

/-- Burst transport. -/
structure BrtSt where
  ing : Sparse IngPair := []
  egr : Sparse EgrPair := []
  /-- R243: restructures, and restarts of each chiplet's packet-core domain; they make the EPOCH of every pair. -/
  epochAll : Nat := 0
  epochChip : Vector Nat 16 := Vector.replicate 16 0
  mesh : List Msg := []
  /-- R242: root ticks of 1.25 ns that gap timers have run up to a tick; they run while HELD is 0. -/
  gapClock : Nat := 0
  gapSince : Nat := 0
  rx : Sparse Rx := []
  /-- Bursts framed for the slot whose guard runs, bursts sent in this slot and the one before, and preamble-only
  transmissions. -/
  staged : List Flight := []
  flights : List Flight := []
  preambles : List Pair := []
  /-- Ledger and credit counters of each chiplet, their mirrors (R248), and the SNAP words (R250). -/
  led : Vector Ledger 16 := Vector.replicate 16 {}
  mirror : Vector Ledger 16 := Vector.replicate 16 {}
  snap : Vector Ledger 16 := Vector.replicate 16 {}
  cred : Vector Credits 16 := Vector.replicate 16 {}
  credMirror : Vector Credits 16 := Vector.replicate 16 {}
  credSnap : Vector Credits 16 := Vector.replicate 16 {}
  mirrored : BitVec 16 := 0
  /-- The slot of the last boundary mirrored. -/
  mirrorSlot : Nat := 0
  /-- A snapshot request: the device time of acceptance in units of 2^-32 ns. -/
  snapReq : Option Nat := none
  snapSlot : Nat := 0
  phaseData : Word := 0
  deriving DecidableEq, Repr, Inhabited

/-! ### Ports (08) and egress ports (11) -/

/-- A frame in transmission: its packet, whether the frame was aborted, and its shaped bytes. -/
structure TxFrame where
  pkt : Nat
  segs : List SegRef
  queue : Nat
  deriving DecidableEq, Repr, Inhabited

/-- A shaper (R356 to R358): the values in force, its tokens in Q24.8 bytes, and the tick up to which it has earned. -/
structure Shaper where
  en : Bool := false
  debtClamp : Bool := false
  overhead : Int := 0
  rate : Nat := 0
  burst : Nat := 0
  tokens : Int := 0
  tick : Nat := 0
  deriving DecidableEq, Repr, Inhabited

/-- The gates of a port (R359 to R363): in force, operational area, entry in force and the device time in ns at which
it began, the time of a pending change, and the frames that have counted a wait. -/
structure Gates where
  on : Bool := false
  oper : Fin 2 := 0
  entry : Nat := 0
  since : Nat := 0
  pending : Option Nat := none
  waited : List Nat := []
  deriving DecidableEq, Repr, Inhabited

/-- A port: its link, flow control, receive path and egress. -/
structure Port where
  /-- Its required phase-cache entries have been VALID since its lane domain started (R230, R562). -/
  ready : Bool := false
  linkUp : Bool := false
  train : Fin 4 := 0
  rxLf : Bool := false
  rxRf : Bool := false
  txLf : Bool := false
  /-- Priorities that the last PFC frame sent showed asserted. -/
  pfcSent : BitVec 8 := 0
  /-- R268: for each paused priority, the quanta named. -/
  paused : Sparse Nat := []
  /-- The electrical lane (none: its own number), and a lane that training waits for. -/
  lane : Option (Fin 32) := none
  /-- Packets waiting for a first pass, oldest first (R281). -/
  inbuf : List Nat := []
  tx : Option TxFrame := none
  /-- Replies owed, in arrival order: TAG and bytes (R271, R513). -/
  replies : List (List Byte) := []
  /-- The last frame sent, as bytes. -/
  lastFrame : List Byte := []
  shapers : Sparse Shaper := []
  gates : Gates := {}
  /-- Parallax words that were overwritten lately: the tick of the write, the offset, the word before (R274). -/
  plxLog : List (Nat × Nat × Word) := []
  /-- DWRR deficits by class, DRR deficits by queue, and the classes and queues last served (R355). -/
  clsDef : Sparse Int := []
  qDef : Sparse Int := []
  clsLast : Nat := 7
  qLast : Sparse Nat := []
  deriving DecidableEq, Repr, Inhabited

/-! ### Port chiplets (08 to 11) -/


/-- A loaded bank header (R292). -/
structure BankHdr where
  valid : Bool := false
  nodeBase : Nat := 0
  root : Nat := 0
  ruleBase : Nat := 0
  ruleCount : Nat := 0
  def0 : Word := 0
  def1 : Word := 0
  deriving DecidableEq, Repr, Inhabited

/-- A meter profile in force (R308, R316). -/
structure MeterProf where
  w0 : Word := 0
  cir : Nat := 0
  eir : Nat := 0
  cbs : Nat := 0
  ebs : Nat := 0
  deriving DecidableEq, Repr, Inhabited

/-- A meter: its profile, tokens in Q24.8 bytes, the packet-clock cycle up to which it has earned, and that of its last
event. -/
structure Meter where
  prof : Nat := 0
  tok1 : Nat := 0
  tok2 : Nat := 0
  cycle : Nat := 0
  last : Nat := 0
  /-- R313: the changes that its next event applies, oldest first: the instant, the profile before and that after. -/
  pend : List (Nat × MeterProf × MeterProf) := []
  deriving DecidableEq, Repr, Inhabited

/-- One region of a stack (R324 to R327): for each channel the next index never used and the indices returned; the
channel used last; the segments in use. -/
structure Region where
  next : Sparse Nat := []
  ret : Sparse (List Nat) := []
  last : Nat := 31
  used : List (BitVec 32) := []
  /-- The VOQ index (R11) of each packet-region segment in use (R317). -/
  voq : List (BitVec 32 × Nat) := []
  deriving DecidableEq, Repr, Inhabited

/-- A retired page (R332): region, channel and INDEX[23:3]; recorded in the repair map, or until start-up only. -/
structure Page where
  region : Fin 2
  channel : Nat
  index : Nat
  recorded : Bool
  /-- Retired past a full repair map: until the next start-up only. -/
  past : Bool := false
  deriving DecidableEq, Repr, Inhabited

/-- A pseudo-channel replacement in progress (R334): the logical channel and the spare. -/
structure PchMove where
  channel : Fin 32
  spare : Nat
  deriving DecidableEq, Repr, Inhabited

/-- A port chiplet. -/
structure Chip where
  /-- Parse engines, packets waiting for a second pass, packets whose lookup waits. -/
  engines : Sparse (Option Nat) := []
  recirc : List Nat := []
  lookups : List Nat := []
  active : Fin 2 := 0
  hdr0 : BankHdr := {}
  hdr1 : BankHdr := {}
  epoch : BitVec 8 := 0
  /-- A swap pending: at a slot, or none for at once. -/
  swap : Option (Option Nat) := none
  pinned : Vector Nat 2 := #v[0, 0]
  ucActive : Fin 2 := 0
  uc0 : List UInstr := []
  uc1 : List UInstr := []
  ucPinned : Vector Nat 2 := #v[0, 0]
  ucSwap : Option Nat := none
  /-- PRS_TRACE_SEL.ARM, and the trace words. -/
  trace : Bool := false
  trace0 : Word := 0
  trace1 : Word := 0
  /-- The node cache: bank, address, pinned; most recently used first (R295). -/
  cache : List (Fin 2 × Nat × Bool) := []
  /-- The table region, by byte (assumption 5). -/
  tbl : Sparse Byte := []
  profs : Sparse MeterProf := []
  meters : Sparse (Option Meter) := []
  meter0 : Meter := {}
  meterData : Vector Word 4 := #v[0, 0, 0, 0]
  noSeg : Bool := true
  /-- The stack is trained and its free lists exist (R333). -/
  stackUp : Bool := false
  packet : Region := {}
  hold : Region := {}
  pages : List Page := []
  poisoned : List (BitVec 32) := []
  tblPoisoned : List Nat := []
  /-- R334: the device times in ns of each channel's corrected reads within the last second. -/
  ceTimes : Sparse (List Nat) := []
  pchMap : Sparse Nat := []
  spares : List Nat := [32, 33]
  move : Option PchMove := none
  /-- R334: the channels whose automatic trigger came while a replacement ran. -/
  waitPch : List Nat := []
  retireFull : Bool := false
  zeroBusy : Bool := false
  zeroDone : Bool := false
  zeroIncomplete : Bool := false
  /-- Packets resident in the VOQs, in admission order (R339). -/
  voq : List Nat := []
  /-- Credit balances by 8j + k, slots idle, fgptr and lptr (R345, R346). -/
  bal : Sparse Nat := []
  idle : Sparse Nat := []
  /-- The balances that had a packet to apply to in this slot, or came with its start (R346). -/
  busy : List Nat := []
  fgptr : Sparse Nat := []
  lptr : Sparse Nat := []
  /-- As egress, by 8j + k: OCC, the chiplet last granted; by 4096c + 8j + k the granted segments that chiplet c has
  neither sent nor released. -/
  occ : Sparse Nat := []
  lastGrant : Sparse Nat := []
  grantOut : Sparse Nat := []
  reserved : Nat := 0
  /-- NEED received in the slot before, by 4096c + 8j + k, and the grants of this slot: chiplet, 8j + k, segments. -/
  need : List Nat := []
  grants : List (Nat × Nat × Nat) := []
  /-- Egress queues by 128p + 16·class + flow group: packet and segments (R340). -/
  queues : Sparse (List (Nat × List SegRef)) := []
  /-- A lane remap in progress (R264): port and new lane; the map has switched. -/
  remap : Option (Fin 32 × Fin 32 × Bool) := none
  /-- Lanes marked failed in the repair map. -/
  laneFailed : BitVec 32 := 0
  /-- The domain was lost, and its loss recognised (R248). -/
  lost : Bool := false
  deriving DecidableEq, Repr, Inhabited

/-! ### The state -/

/-- The state of the machine. -/
structure State where
  /-- The commands that wait, first in, first out. -/
  pending : List Instr := []
  /-- The number of the next free value (assumption 15). -/
  freeCtr : Nat := 0
  /-- The 32-bit words of BAR0 that have their home here, by byte offset (R12, R600). -/
  regs : Sparse Word := []
  /-- The counters, by the offset of their (low) word (R601, R603). -/
  ctrs : Sparse (BitVec 64) := []
  /-- R601: the high-word latches, by 64 × block + port. -/
  highLatch : Sparse Word := []
  cmd : CmdSt := {}
  sec : SecSt := {}
  flt : FltSt := {}
  thm : ThmSt := {}
  glb : GlbSt := {}
  img : ImgSt := {}
  tim : TimSt := {}
  loopA : CtlLoops := {}
  loopB : CtlLoops := {}
  loopS : LoopShared := {}
  drv : DrvSt := {}
  adc : AdcSt := {}
  mtx : MtxSt := {}
  cal : CalSt := {}
  red : RedSt := {}
  acq : AcqSt := {}
  slt : SltSt := {}
  brt : BrtSt := {}
  /-- The packets in the device by number, and the number of the next. -/
  pkts : Sparse (Option Pkt) := []
  nextPkt : Nat := 0
  ports : Sparse Port := []
  chips : Vector Chip 16 := Vector.replicate 16 {}
  /-- R593: the crossings, by identifier. -/
  xing : Sparse Crossing := []
  deriving DecidableEq, Repr

/-- The machine right after reset: the spec's reset values, and the values that the assumption log names (1, 4, 17). -/
def State.reset : State := {}

end Sys2Proof.Machine
end

