-- ==== Sys2Proof/Machine/Ops.lean ====
section
/-! DEFINITION. The operations that all families share: bit fields, the register file and the counters, time, power
domains, interrupts, the audit log, rejections, fault reports and free values. -/

namespace Sys2Proof.Machine

open Sys2Proof

/-! ### Bit fields -/

/-- Bits hi down to lo of a word, as a number (R12). -/
def fld (w : Word) (hi lo : Nat) : Nat := w.toNat / 2 ^ lo % 2 ^ (hi - lo + 1)

/-- Bit i of a word. -/
def bit (w : Word) (i : Nat) : Bool := w.getLsbD i

/-- A Bool as a number. -/
def b2n (b : Bool) : Nat := if b then 1 else 0

/-- The word with bits hi down to lo replaced by a number, taken modulo the width of the field. -/
def setFld (w : Word) (hi lo : Nat) (v : Nat) : Word :=
  let m : Nat := (2 ^ (hi - lo + 1) - 1) * 2 ^ lo
  (w &&& ~~~(BitVec.ofNat 32 m)) ||| BitVec.ofNat 32 (v % 2 ^ (hi - lo + 1) * 2 ^ lo)

/-- The word with one bit replaced. -/
def setBit (w : Word) (i : Nat) (b : Bool) : Word := setFld w i i (b2n b)

/-- A word read as a signed number. -/
def sgn (w : Word) : Int := w.toInt

/-- The two's-complement word of a number. -/
def toWord (i : Int) : Word := BitVec.ofInt 32 i

/-- A number limited to a range. -/
def clampI (lo hi x : Int) : Int := max lo (min hi x)

/-- R625: a number written outside its range is used at the nearer end. -/
def clampN (lo hi x : Nat) : Nat := max lo (min hi x)

/-- An arithmetic right shift. -/
def shr (x : Int) (n : Nat) : Int := x / (2 ^ n : Int)

/-- Division by 2^n rounded to nearest, ties toward plus infinity. -/
def shrNear (x : Int) (n : Nat) : Int := (x + 2 ^ n / 2) / (2 ^ n : Int)

/-- A quotient rounded to nearest, ties away from zero. -/
def divNear (a b : Int) : Int :=
  if b = 0 then 0
  else
    let q := (2 * a.natAbs + b.natAbs) / (2 * b.natAbs)
    if (a < 0) ≠ (b < 0) then -(q : Int) else (q : Int)

/-- The integer square root, rounded down. -/
def isqrt (n : Nat) : Nat := Nat.sqrt n

/-- Four little-endian bytes as a word. -/
def wordOfBytes (b0 b1 b2 b3 : Byte) : Word :=
  BitVec.ofNat 32 (b0.toNat + b1.toNat * 256 + b2.toNat * 65536 + b3.toNat * 16777216)

/-- Byte i (0 the least significant) of a word. -/
def byteOf (w : Word) (i : Nat) : Byte := BitVec.ofNat 8 (w.toNat / 256 ^ i)

/-- A word as four little-endian bytes. -/
def bytesOf (w : Word) : List Byte := [byteOf w 0, byteOf w 1, byteOf w 2, byteOf w 3]

/-- The little-endian number in a list of bytes. -/
def leNat : List Byte → Nat
  | [] => 0
  | b :: t => b.toNat + 256 * leNat t

/-- The big-endian number in a list of bytes. -/
def beNat (l : List Byte) : Nat := l.foldl (fun a b => a * 256 + b.toNat) 0

/-- A number as n little-endian bytes. -/
def toLe (n : Nat) : Nat → List Byte
  | 0 => []
  | k + 1 => BitVec.ofNat 8 n :: toLe (n / 256) k

/-! ### CRC-32C (R510, R539, R183, R425) -/

/-- One bit of the reflected CRC-32C, polynomial 0x1EDC6F41. -/
def crcBit (c : BitVec 32) : BitVec 32 :=
  if c.getLsbD 0 then (c >>> 1) ^^^ 0x82F63B78 else c >>> 1

/-- Eight bits of the reflected CRC. -/
def crcByte (c : BitVec 32) (b : Byte) : BitVec 32 :=
  let c := c ^^^ b.setWidth 32
  crcBit (crcBit (crcBit (crcBit (crcBit (crcBit (crcBit (crcBit c)))))))

/-- CRC-32C of a list of bytes. -/
def crc32c (l : List Byte) : Word := ~~~ (l.foldl crcByte 0xFFFFFFFF)

/-- The CRC-32C of words, each in little-endian bytes. -/
def crcWords (l : List Word) : Word := crc32c (l.flatMap bytesOf)

/-- A word from (lowest bit, value) pairs of fields. -/
def pack (l : List (Nat × Nat)) : Word := BitVec.ofNat 32 (l.foldl (fun a x => a + x.2 * 2 ^ x.1) 0)

/-! ### The register file -/

/-- The reset value of the word at an offset of BAR0: that of its register's row, and the three arrays whose reset
varies along the array: FLT_BLOCK_CFG (R440), SLT_TPL (Table: Default calendar), the MSI-X vector control words. -/
def resetWord (a : Nat) : Word :=
  match locate a with
  | none => 0
  | some (.flt, o) =>
    if 0x100 ≤ o ∧ o < 0x140 then
      match (o - 0x100) / 4 with
      | 0 | 1 => BitVec.ofNat 32 (3 + 1000 * 256)
      | 3 => BitVec.ofNat 32 (16 + 100 * 256)
      | 6 => BitVec.ofNat 32 (2 + 60000 * 256)
      | 8 => BitVec.ofNat 32 (16 + 1000 * 256)
      | 10 => BitVec.ofNat 32 (8 + 60000 * 256)
      | _ => 0x101
    else match findRow .flt o with
      | some r => r.reset
      | none => 0
  | some (.slt, o) =>
    if 0x10000 ≤ o ∧ o < 0x10100 then
      if (o - 0x10000) / 4 % 8 = 4 then 0x21232122 else 0x21222122
    else match findRow .slt o with
      | some r => r.reset
      | none => 0
  | some (.cmd, o) =>
    if 0x8000 ≤ o ∧ o < 0x8200 then (if o % 16 = 12 then 1 else 0)
    else match findRow .cmd o with
      | some r => r.reset
      | none => 0
  | some (b, o) =>
    match findRow b o with
    | some r => r.reset
    | none => 0

/-- The stored word at an offset. -/
def State.rd (s : State) (a : Nat) : Word := Sparse.get resetWord s.regs a

/-- Store a word. -/
def State.wr (s : State) (a : Nat) (v : Word) : State := { s with regs := Sparse.set resetWord s.regs a v }

/-- Set or clear bit i of a stored word. -/
def State.wrBit (s : State) (a i : Nat) (b : Bool) : State := s.wr a (setBit (s.rd a) i b)

/-- Bit i of a stored word. -/
def State.rdBit (s : State) (a i : Nat) : Bool := bit (s.rd a) i

/-- A field of a stored word. -/
def State.rdFld (s : State) (a hi lo : Nat) : Nat := fld (s.rd a) hi lo

/-! ### Counters (R596, R601, R603) -/

/-- The value of the counter whose (low) word stands at an offset. -/
def State.ctr (s : State) (a : Nat) : BitVec 64 := Sparse.get (fun _ => 0) s.ctrs a

/-- Add to a counter. It wraps modulo 2^64; a 32-bit counter shows its low word, which wraps modulo 2^32. -/
def State.bump (s : State) (a : Nat) (n : Nat) : State :=
  { s with ctrs := Sparse.set (fun _ => 0) s.ctrs a (s.ctr a + BitVec.ofNat 64 n) }

/-! ### Free values (assumption 15) -/

/-- A value that the spec leaves open; each is drawn once. -/
def State.free (s : State) : Word × State := (Config.freeWord s.freeCtr, { s with freeCtr := s.freeCtr + 1 })

/-! ### Time (R366, R380) -/

/-- The number of units of 2^-32 ns in a second. -/
def unitsPerSec : Nat := 1000000000 * 4294967296

/-- A clock as a number of units of 2^-32 ns. -/
def Clock.units (c : Clock) : Nat := c.sec.toNat * unitsPerSec + c.ns.toNat * 4294967296 + c.frac.toNat

/-- The clock that shows a number of units; the seconds wrap from 2^48 − 1 to 0 (R366). -/
def Clock.ofUnits (u : Nat) : Clock :=
  { sec := BitVec.ofNat 48 (u / unitsPerSec), ns := BitVec.ofNat 30 (u % unitsPerSec / 4294967296),
    frac := BitVec.ofNat 32 u }

/-- The modulus of a clock. -/
def clockMod : Nat := 2 ^ 48 * unitsPerSec

/-- A clock moved by a signed number of units. -/
def Clock.add (c : Clock) (d : Int) : Clock := Clock.ofUnits (((c.units : Int) + d) % (clockMod : Int)).toNat

/-- Device time in whole nanoseconds. -/
def State.nowNs (s : State) : Nat := s.tim.dt.sec.toNat * 1000000000 + s.tim.dt.ns.toNat

/-- R380: the 32-bit nanosecond field of a clock. -/
def Clock.ns32 (c : Clock) : Word := BitVec.ofNat 32 (c.sec.toNat * 1000000000 + c.ns.toNat)

/-! ### Power domains (R581) -/

/-- A domain reports power-good. -/
def State.domOn (s : State) (d : Nat) : Bool := s.glb.pg.getLsbD d

/-- Set or clear a domain's power-good. -/
def State.setDom (s : State) (d : Nat) (on : Bool) : State :=
  let m : BitVec 64 := BitVec.ofNat 64 (2 ^ d)
  { s with glb := { s.glb with pg := if on then s.glb.pg ||| m else s.glb.pg &&& ~~~m } }

/-- The lane domain of a port: 2n + h for the ports 32n + 16h to 32n + 16h + 15. -/
def laneDomain (k : Nat) : Nat := k / 16

/-- The packet-core domain of chiplet c. -/
def coreDomain (c : Nat) : Nat := 32 + c

/-- A chiplet's packet logic has power. -/
def State.chipOn (s : State) (c : Nat) : Bool := s.domOn (coreDomain c)

/-- The domain rule of a block (R518; assumption 14): an access is executed while a domain of its block is on. -/
def State.blkOn (s : State) : Blk → Bool
  | .glb | .cmd | .flt | .thm => s.domOn 63
  | .clk | .tim => s.domOn 62
  | .acq | .red | .cal | .lpe | .cel | .lin | .mtx | .slt | .brt => s.domOn 48 || s.domOn 49
  | .cnv => s.domOn 50 || s.domOn 51 || s.domOn 52 || s.domOn 53
  | .lan c | .prs c | .mtr c | .buf c | .que c | .tbw c => s.chipOn c

/-! ### Interrupts (R507) -/

/-- The MSI-X mask bit of a vector. -/
def State.msiMasked (s : State) (v : Nat) : Bool := s.rdBit (0x108000 + 16 * v + 12) 0

/-- Send a message on a vector, or hold it in the pending-bit array while the vector is masked. -/
def State.msiSend (s : State) (v : Nat) : State :=
  if s.msiMasked v then { s with cmd := { s.cmd with msiPend := s.cmd.msiPend ||| BitVec.ofNat 32 (2 ^ v) } }
  else { s with cmd := { s.cmd with
    msiSent := Sparse.set (fun _ => 0) s.cmd.msiSent v (Sparse.get (fun _ => 0) s.cmd.msiSent v + 1) } }

/-- R507: an enabled event of a block sets its vector's pending bit, and sends one message when the bit was clear. -/
def State.irq (s : State) (v : Nat) : State :=
  let p := s.rd Reg.CMD_IRQ_PENDING
  if bit p v then s else (s.wr Reg.CMD_IRQ_PENDING (setBit p v true)).msiSend v

/-- An event whose enable bit stands at bit i of the register at a. -/
def State.irqIf (s : State) (a i v : Nat) : State := if s.rdBit a i then s.irq v else s

/-! ### The audit log (R519, R539 to R541) -/

/-- The number of a command port (R498). -/
def portNum : CmdPort → Nat
  | .pcie => 0
  | .smp => 1
  | .inband => 2
  | .jtag => 3

/-- Put a record into the always-on SRAM, or lose it when 64 are held (R540). -/
def State.auditPut (s : State) (code port cls : Nat) (target detail : Word) : State :=
  if 64 ≤ s.sec.sram.length then
    { s with sec := { s.sec with lost := s.sec.lost + 1, lostNew := s.sec.lostNew + 1 } }
  else
    let r : AuditRec :=
      { code := BitVec.ofNat 8 code, port := BitVec.ofNat 2 port, cls := BitVec.ofNat 3 cls, repeats := 0,
        seq := s.sec.nextSeq, sec := s.tim.dt.sec.setWidth 32, ns := s.tim.dt.ns, target := target, detail := detail }
    { s with sec := { s.sec with sram := s.sec.sram ++ [r], nextSeq := s.sec.nextSeq + 1 } }

/-- R541: the event repeats the latest record within 1 s of its time. -/
def auditSame (r : AuditRec) (code port cls : Nat) (target : Word) (now : Clock) : Bool :=
  r.code = BitVec.ofNat 8 code && r.port = BitVec.ofNat 2 port && r.cls = BitVec.ofNat 3 cls && r.target = target &&
  decide ((now.sec.toNat % 2 ^ 32 * 1000000000 + now.ns.toNat : Int) -
    (r.sec.toNat * 1000000000 + r.ns.toNat : Int) ≤ 1000000000)

/-- One more repetition, saturating (Table: Audit record). -/
def AuditRec.again (r : AuditRec) : AuditRec :=
  { r with repeats := if r.repeats = 0xFFFF then r.repeats else r.repeats + 1 }

/-- Audit an event: a repetition of the latest record under R541, or a new record, preceded by an AUDIT_LOST record
when records were lost since the last one (R540). -/
def State.audit (s : State) (code port cls : Nat) (target detail : Word) : State :=
  let again : Option State :=
    if s.sec.coalesce && decide (code < 0x10) then
      match s.sec.sram.getLast?, s.sec.ring.getLast? with
      | some r, _ =>
        if auditSame r code port cls target s.tim.dt then
          some { s with sec := { s.sec with sram := s.sec.sram.dropLast ++ [r.again] } }
        else none
      | none, some r =>
        if auditSame r code port cls target s.tim.dt then
          some { s with sec := { s.sec with ring := s.sec.ring.dropLast ++ [r.again] } }
        else none
      | none, none => none
    else none
  match again with
  | some s' => s'
  | none =>
    if s.sec.lostNew = 0 ∨ 64 ≤ s.sec.sram.length then s.auditPut code port cls target detail
    else
      let s1 := s.auditPut 0x28 0 0 0 (BitVec.ofNat 32 s.sec.lostNew)
      ({ s1 with sec := { s1.sec with lostNew := 0 } }).auditPut code port cls target detail

/-! ### Authorization (R499 to R502) -/

/-- R500: the row of a class has the bit of a port. In lifecycle RETIRED only class 0 reads act, and of class 3 AUDIT_READ,
the one operation that is not refused there (R522, R542). -/
def State.allowed (s : State) (p : CmdPort) (cls : Nat) : Bool :=
  (s.cmd.rows.toList.getD cls 0).getLsbD (portNum p) &&
  (decide (s.sec.lifecycle ≠ .retired) || decide (cls = 0 ∨ cls = 3))

/-- A rejection: counted on its port, written to CMD_LAST_REJECT and audited (R500), with the interrupt of
CMD_CTRL.REJECT_IRQ_EN. -/
def State.reject (s : State) (p : CmdPort) (cls ev : Nat) (target : Word) : State :=
  let s := s.bump (0x100080 + 4 * portNum p) 1
  let s := s.wr 0x100060 (BitVec.ofNat 32 (ev + portNum p * 256 + cls * 1024))
  let s := s.wr 0x100064 target
  let s := s.audit ev (portNum p) cls target 0
  s.irqIf Reg.CMD_CTRL 0 3

/-! ### Fault reports (R436, R443, R449) -/

/-- R605, Table: Fault block codes. -/
abbrev fbElem0 : Nat := 0
abbrev fbElem1 : Nat := 1
abbrev fbEmit : Nat := 2
abbrev fbMtx : Nat := 3
abbrev fbEng : Nat := 4
abbrev fbAdc : Nat := 5
abbrev fbCal : Nat := 6
abbrev fbPort : Nat := 7
abbrev fbChip : Nat := 8
abbrev fbCtl : Nat := 9
abbrev fbThm : Nat := 10
abbrev fbPwr : Nat := 11
abbrev fbSys : Nat := 12

/-- R436: a fault code. -/
def faultCode (blk src : Nat) : BitVec 16 := BitVec.ofNat 16 (blk * 4096 + src)

/-- The code of a fault whose source is an element. -/
def elemCode (e : Nat) : BitVec 16 := if e < 4096 then faultCode fbElem0 e else faultCode fbElem1 (e - 4096)

/-- A block raises a fault: its report leaves for the collector with the device time of its detection (R443), and a
class S fault signals the safe state everywhere (R449). A class C fault only counts (R437). -/
def State.raise (s : State) (code : BitVec 16) (cls : Fin 4) : State :=
  if cls = 0 then s.bump 0x200020 1
  else
    { s with flt := { s.flt with
      sent := s.flt.sent ++ [{ code := code, cls := cls, sec := s.tim.dt.sec, ns := s.tim.dt.ns }]
      signals := if cls = 3 then s.flt.signals ++ [code] else s.flt.signals } }

/-- R437: n corrected occurrences (class C) count in FLT_CLASS_COUNT[0] and reach no record. -/
def State.countCorrected (s : State) (n : Nat) : State := s.bump 0x200020 n

/-! ### Controllers (R409) -/

/-- The loops of a controller. -/
def State.loops (s : State) : Ctl → CtlLoops
  | .a => s.loopA
  | .b => s.loopB

/-- Replace the loops of a controller. -/
def State.setLoops (s : State) (c : Ctl) (l : CtlLoops) : State :=
  match c with
  | .a => { s with loopA := l }
  | .b => { s with loopB := l }

/-- What the arbiter holds of a controller. -/
def State.ctlRed (s : State) : Ctl → CtlRed
  | .a => s.red.a
  | .b => s.red.b

/-- Replace what the arbiter holds of a controller. -/
def State.setCtlRed (s : State) (c : Ctl) (r : CtlRed) : State :=
  match c with
  | .a => { s with red := { s.red with a := r } }
  | .b => { s with red := { s.red with b := r } }

/-- The other controller. -/
def otherCtl : Ctl → Ctl
  | .a => .b
  | .b => .a

/-- The number of a controller: 0 CTL-A, 1 CTL-B. -/
def ctlNum : Ctl → Nat
  | .a => 0
  | .b => 1

/-- The active controller; none when neither is ACTIVE. -/
def State.active? (s : State) : Option Ctl :=
  if s.red.a.state = .active then some .a
  else if s.red.b.state = .active then some .b
  else none

/-- The controller whose values reads return (R90): the active one, and CTL-A while none is. -/
def State.actCtl (s : State) : Ctl := s.active?.getD .a

/-- ACTIVE or STANDBY. -/
def CtlState.upright : CtlState → Bool
  | .active | .standby => true
  | _ => false

/-- The controllers that run the loops: ACTIVE, STANDBY and, in SHADOW, SYNCING (R410, R432), with power (R562). -/
def State.ctlRuns (s : State) (c : Ctl) : Bool :=
  s.domOn (48 + ctlNum c) &&
  match (s.ctlRed c).state with
  | .active | .standby => true
  | .syncing => s.red.syncPhase = 3
  | _ => false

/-- A lasting fault of a controller (Table: Fault sources, CTL). -/
def State.raiseCtl (s : State) (c : Ctl) (cls : Fin 4) : State := s.raise (faultCode fbCtl (ctlNum c)) cls

/-- Device interrupt on a change of GLB_STATE, and the change itself (R556). -/
def State.setGState (s : State) (g : GState) : State :=
  let s := { s with glb := { s.glb with prev := s.glb.state, state := g } }
  s.irqIf Reg.GLB_CTRL 4 2

/-- The element index of a matrix element lies below 4,608. -/
def isMatrix (e : Nat) : Bool := decide (e < 4608)

/-- The emitter number of emitter i of bank n. -/
def emitterIdx (n i : Nat) : Nat := 17 * n + i

/-- A matrix element is in the merged parked set in force (R32). -/
def State.isParked (s : State) (e : Nat) : Bool := s.mtx.parked.getLsbD e && isMatrix e

/-- The channel of an element. -/
def State.chan (s : State) (e : Nat) : Chan := Sparse.get (fun _ => {}) s.drv.chans e

/-- Replace the channel of an element. -/
def State.setChan (s : State) (e : Nat) (c : Chan) : State :=
  { s with drv := { s.drv with chans := Sparse.set (fun _ => {}) s.drv.chans e c } }

/-- The record of an element in a controller. -/
def State.elem (s : State) (c : Ctl) (e : Nat) : Elem := Sparse.get (fun _ => {}) (s.loops c).elems e

/-- Replace the record of an element in a controller. -/
def State.setElem (s : State) (c : Ctl) (e : Nat) (x : Elem) : State :=
  let l := s.loops c
  s.setLoops c { l with elems := Sparse.set (fun _ => {}) l.elems e x }

/-- Change the record of an element in both controllers. -/
def State.modElem (s : State) (e : Nat) (f : Elem → Elem) : State :=
  (s.setElem .a e (f (s.elem .a e))).setElem .b e (f ((s.setElem .a e (f (s.elem .a e))).elem .b e))

/-- The calibration in use of an element. -/
def State.calElem (s : State) (e : Nat) : CalElem := Sparse.get (fun _ => {}) s.cal.elems e

/-- Replace the calibration in use of an element. -/
def State.setCalElem (s : State) (e : Nat) (c : CalElem) : State :=
  { s with cal := { s.cal with elems := Sparse.set (fun _ => {}) s.cal.elems e c } }

/-- An ADC unit. -/
def State.au (s : State) (u : Nat) : AdcUnit := Sparse.get (fun _ => {}) s.adc.units u

/-- Replace an ADC unit. -/
def State.setAu (s : State) (u : Nat) (x : AdcUnit) : State :=
  { s with adc := { s.adc with units := Sparse.set (fun _ => {}) s.adc.units u x } }

/-- An emitter. -/
def State.emitter (s : State) (n i : Nat) : Emitter := Sparse.get (fun _ => {}) s.mtx.emitters (emitterIdx n i)

/-- Replace an emitter. -/
def State.setEmitter (s : State) (n i : Nat) (x : Emitter) : State :=
  { s with mtx := { s.mtx with emitters := Sparse.set (fun _ => {}) s.mtx.emitters (emitterIdx n i) x } }

/-- A laser bank. -/
def State.bank (s : State) (n : Nat) : Bank := Sparse.get (fun _ => {}) s.mtx.banks n

/-- Replace a laser bank. -/
def State.setBank (s : State) (n : Nat) (x : Bank) : State :=
  { s with mtx := { s.mtx with banks := Sparse.set (fun _ => {}) s.mtx.banks n x } }

end Sys2Proof.Machine
end

