-- ==== Sys2Proof/Machine/Access.lean ====
section
/-! DEFINITION. An access to a register as a command port makes it: authorization (R500), the rule of a domain that is
off (R518), and the write of a word by the access types of its fields (R13 to R15, R476). What a request bit then
starts belongs to the family of its register. -/

namespace Sys2Proof.Machine

open Sys2Proof

/-- What became of an access (Table: Command status). -/
inductive AccRes where
  | done | denied | domainOff
  deriving DecidableEq, Repr

/-- The block of an offset has power (R518). An offset in no block is executed: it reads 0 and ignores writes (R15). A
Loupe window belongs to its own controller (R383). -/
def State.addrOn (s : State) (a : Nat) : Bool :=
  match locate a with
  | some (.acq, o) => if 0x14000 ≤ o then s.domOn 49 else if 0x10000 ≤ o then s.domOn 48 else s.blkOn .acq
  | some (b, _) => s.blkOn b
  | none => true

/-- Judge an access of class cls to an offset: rejected (R500), to a block that is off (R518), or executed. In AON SMP
answers every request with DOMAIN_OFF (R547). -/
def State.judge (s : State) (p : CmdPort) (a cls : Nat) : AccRes × State :=
  if p = .smp ∧ s.glb.state = .aon then (.domainOff, s)
  else if !s.allowed p cls then (.denied, s.reject p cls 0x01 (BitVec.ofNat 32 a))
  else if !s.addrOn a then (.domainOff, s.bump 0x100094 1)
  else (.done, s)

/-- A write whose effect is act, after the judgement of its access. -/
def State.access (s : State) (p : CmdPort) (a cls : Nat) (act : State → State) : State :=
  let j := s.judge p a cls
  if j.1 = .done then act j.2 else j.2

/-- What a read returned to its port. -/
def State.setRd (s : State) (p : CmdPort) (w : Word) : State :=
  { s with cmd := { s.cmd with rdData :=
    match p with
    | .pcie => s.cmd.rdData.set 0 w
    | .smp => s.cmd.rdData.set 1 w
    | .inband => s.cmd.rdData.set 2 w
    | .jtag => s.cmd.rdData.set 3 w } }

/-- A read whose effect is act, after the judgement of its access; one that is not executed returns 0 (R500, R518). -/
def State.accessRead (s : State) (p : CmdPort) (a : Nat) (act : State → State) : State :=
  let j := s.judge p a 0
  if j.1 = .done then act j.2 else j.2.setRd p 0

/-- The word after a write, by access types: RW and open RWL bits take the value, W1C bits clear where it is 1 (R13).
The W1S bits are left to the family of the register. -/
def RegRow.next (r : RegRow) (locked : Bool) (old v : Word) : Word :=
  let w := if locked then r.rw else r.rw ||| r.rwl
  ((old &&& ~~~w) ||| (v &&& w)) &&& ~~~(v &&& r.w1c)

/-- The write would change a locked RWL field (R476). -/
def RegRow.discards (r : RegRow) (locked : Bool) (old v : Word) : Bool :=
  locked && decide ((old ^^^ v) &&& r.rwl ≠ 0)

/-- Write a word by the access types of its register's fields (R13); a discarded change of a locked RWL field is
counted and audited (R476). An offset without writable fields ignores the write (R15). -/
def State.plainWrite (s : State) (p : CmdPort) (a : Nat) (v : Word) : State :=
  match locate a with
  | none => s
  | some (b, o) =>
    match findRow b o with
    | none => s
    | some r =>
      let old := s.rd a
      let s1 := s.wr a (r.next s.img.locked old v)
      if r.discards s.img.locked old v then (s1.bump 0x134 1).audit 0x02 (portNum p) 1 (BitVec.ofNat 32 a) 0
      else s1

/-- A word with a request bit set: what a command that names the request writes (assumption 20). -/
def withBit (v : Word) (i : Nat) : Word := setBit v i true

end Sys2Proof.Machine
end

