-- ==== Sys2Proof/Machine/Events.lean ====
section
/-! DEFINITION. Time at root-clock resolution (R623), and the device events that Loupe units trigger on (R391): an event waits in
every unit that takes samples for the first sample at or after its time (R392). -/

namespace Sys2Proof.Machine

open Sys2Proof

/-! ### Root-clock resolution (R623) -/

/-- Device time at a root-clock phase k after the latest tick: k quarters of the tick's increment. -/
def State.dtAt (s : State) (k : Nat) : Nat := s.tim.dt.units + s.tim.incDt * k / 4

/-- Device time at the root-clock phase that the latest boundary or trigger named. -/
def State.rootNow (s : State) : Nat := s.dtAt s.tim.phase.val

/-- The root-clock cycles since the time unit came up: four to a tick. -/
def State.rootCycle (s : State) : Nat := 4 * s.tim.ticks + s.tim.phase.val

/-- A boundary or trigger falls at a root-clock phase. -/
def State.atPhase (s : State) (k : Fin 4) : State := { s with tim := { s.tim with phase := k } }

/-! ### The units and their event conditions -/

/-- A Loupe unit. -/
def State.loupe (s : State) (u : Nat) : Loupe := Sparse.get (fun _ => {}) s.acq.units u

/-- Replace a Loupe unit. -/
def State.setLoupe (s : State) (u : Nat) (x : Loupe) : State :=
  { s with acq := { s.acq with units := Sparse.set (fun _ => {}) s.acq.units u x } }

/-- The controller of a unit (R383). -/
def loupeCtl (u : Nat) : Ctl := if u < 4 then .a else .b

/-- Condition c of a unit is enabled. -/
def State.condOn (s : State) (u c : Nat) : Bool := s.rdBit (acqReg u (0x30 + 8 * c)) 0

/-- Condition c of a unit is an event condition. -/
def State.condEvent (s : State) (u c : Nat) : Bool := s.rdFld (acqReg u (0x30 + 8 * c)) 2 1 = 3

/-- The event conditions of a unit that name an event. -/
def State.condsFor (s : State) (u code : Nat) : List Nat :=
  (List.range 4).filter fun c =>
    s.condOn u c && s.condEvent u c && decide (s.rdFld (acqReg u (0x30 + 8 * c)) 15 8 = code)

/-- KIND of a unit; 3 is taken as 2. -/
def State.loupeKind (s : State) (u : Nat) : Nat := min 2 (s.rdFld (acqReg u 8) 1 0)

/-- The sample interval of a kind of source in 2^-32 ns (Table: Loupe sources): 6.25 ns, 20 µs, 2,560 ns. -/
def sampleStep (kind : Nat) : Nat :=
  if kind = 0 then 26843545600 else if kind = 1 then 85899345920000 else 10995116277760

/-- A unit takes samples. -/
def Loupe.sampling (x : Loupe) : Bool := decide (x.st ≠ .idle ∧ x.st ≠ .settle)

/-- An event of a time waits in a unit for its sample. One that comes later than 64 samples after its time is met at the oldest
sample still held, and is LATE (R392). -/
def State.eventAt (s : State) (code t u : Nat) : State :=
  let x := s.loupe u
  let back := 64 * sampleStep (s.loupeKind u)
  let late := decide (t + back < s.rootNow)
  let evs := (s.condsFor u code).map fun c =>
    { cond := c, time := t, start := if late then s.rootNow - back else t, late := late : LoupeEv }
  if x.sampling && !evs.isEmpty then s.setLoupe u { x with evs := x.evs ++ evs } else s

/-- An event of the device at a device time (R391). -/
def State.eventAtTime (s : State) (code t : Nat) : State := (List.range 8).foldl (fun s u => s.eventAt code t u) s

/-- An event of the device now. -/
def State.event (s : State) (code : Nat) : State := s.eventAtTime code s.rootNow

/-- ELEMENT of a unit (R625). -/
def State.loupeElem (s : State) (u : Nat) : Nat := clampN 0 5119 (s.rdFld (acqReg u 0xC) 12 0)

/-- An event of an element in a controller, with the time of the start of this loop sample: it reaches the units of that
controller whose ELEMENT it is. -/
def State.elemEvent (s : State) (c : Ctl) (code e : Nat) : State :=
  (List.range 8).foldl (fun s u =>
    if loupeCtl u = c ∧ s.loupeElem u = e then s.eventAt code s.loopS.t0 u else s) s

/-- R391, event 0x42: the units whose ELEMENT changed MODE between two states, at the loop sample boundary of the change. -/
def State.modeWatch (old new : State) : State :=
  (List.range 8).foldl (fun s u =>
    let e := new.loupeElem u
    if (old.elem (loupeCtl u) e).mode = (new.elem (loupeCtl u) e).mode then s else s.eventAt 0x42 new.loopS.t0 u) new

end Sys2Proof.Machine
end

