-- ==== Sys2Proof/Machine/LoopLaw.lean ====
section
/-! DEFINITION. The arithmetic of the element loops as pure functions of one element's record: S-format words (R91),
coefficient banks as they are used (R79, R121, R625), the estimator (R62 to R70), the service law (R72 to R78), the
profile generator (R113, R114), acquisition (R96 to R103), hand-over (R104 to R110) and plausibility (R115 to R118). -/

namespace Sys2Proof.Machine

open Sys2Proof

/-- A quotient whose rounding the spec does not name: exact where it is exact, else one of its two neighbours
(assumption 15). -/
def roundQ (a b : Int) : Int :=
  if b = 0 then 0 else if a % b = 0 then a / b else a / b + (if Config.roundUp a b then 1 else 0)

/-! ### S-format (R91) -/

/-- The S-format word of num / 2^sh: the least exponent at which the floored mantissa fits, else the saturated word. -/
def SNum.normFrom (num : Int) (sh : Nat) (e : Nat) : Nat → SNum
  | 0 => if num < 0 then ⟨63, -33554432⟩ else ⟨63, 33554431⟩
  | f + 1 =>
    let m : Int := num * 2 ^ 26 / 2 ^ (sh + e)
    if -33554432 ≤ m ∧ m ≤ 33554431 then ⟨e, m⟩ else SNum.normFrom num sh (e + 1) f

/-- The S-format word of num / 2^sh. -/
def SNum.norm (num : Int) (sh : Nat) : SNum := SNum.normFrom num sh 0 64

/-- The value times 2^26. -/
def SNum.val26 (x : SNum) : Int := x.m * 2 ^ x.e

/-- (1 − 2^−l)·x + add / 2^addSh, renormalised (R62, R67). The sum is formed exactly and floored once (DESIGN CHOICE,
assumption 112). -/
def SNum.forget (x : SNum) (l : Nat) (add : Int) (addSh : Nat) : SNum :=
  SNum.norm (x.val26 * (2 ^ l - 1) * 2 ^ addSh + add * 2 ^ (26 + l)) (26 + l + addSh)

/-- The word of an S-format number. -/
def SNum.word (x : SNum) : Word := BitVec.ofNat 32 (x.e % 64 * 67108864) ||| (BitVec.ofInt 26 x.m).setWidth 32

/-! ### Trigonometry in fixed point -/

/-- One in the working format, 2^100. -/
def fxOne : Int := 2 ^ 100

/-- π in the working format. -/
def fxPi : Int := 3982441812995697363688351113952

/-- The Taylor sum of the cosine: the terms from k on, with the present term. -/
def fxCosFrom (x2 : Int) (term : Int) (k : Nat) : Nat → Int
  | 0 => 0
  | f + 1 => term + fxCosFrom x2 (-(term * x2 / fxOne) / ((2 * k + 1) * (2 * k + 2) : Int)) (k + 1) f

/-- The cosine of an angle in the working format. -/
def fxCos (x : Int) : Int := fxCosFrom (x * x / fxOne) fxOne 0 30

/-- A number of the working format in Q2.30, rounded to nearest. -/
def fxQ30 (x : Int) : Int := shrNear x 70

/-- R96: sin θ in Q2.30, read at the angle of θ[31:22]; the quarter-wave symmetry of the table is that of the sine. The
entries are the sine rounded to nearest (DESIGN CHOICE, assumption 113). -/
def sinQ30 (theta : BitVec 32) : Int :=
  let i : Int := (theta.toNat / 4194304 : Nat)
  fxQ30 (fxCos (2 * fxPi * (i - 256) / 1024))

/-! ### Coefficient banks as they are used -/

/-- The coefficients of a bank, with the "taken as" and range rules applied. -/
structure Coeffs where
  kp : Int
  ki : Int
  kshift : Nat
  lambda : Nat
  signShift : Nat
  deadband : Nat
  probePu : Nat
  errClamp : Nat
  intLimit : Nat
  klv : Int
  lvStep : Nat
  dithInc : Nat
  dithAmp : Nat
  notchQ : Nat
  kes : Int
  hp : Nat
  lp : Nat
  xmin : Nat
  lockR : Int
  lockCount : Nat
  refuseMax : Nat
  handoverLimit : Nat
  acqTimeout : Nat
  vmax : Nat
  amax : Nat
  jmax : Nat
  bandSum : Nat
  bandSplit : Nat
  plShift : Nat
  deriving DecidableEq, Repr

/-- A zero written to a field described as non-zero is used as 1 (R625). -/
def nz (n : Nat) : Nat := if n = 0 then 1 else n

/-- The coefficients of bank b of logical engine l. -/
def State.coeffs (s : State) (l b : Nat) : Coeffs :=
  let w (i : Nat) : Word := s.rd (coeffReg l b i)
  let ls := fld (w 3) 4 0
  { kp := sgn (w 0), ki := sgn (w 1), kshift := fld (w 2) 3 0,
    lambda := if 8 ≤ ls ∧ ls ≤ 24 then ls else 18,
    signShift := clampN 2 16 (fld (w 4) 4 0), deadband := (w 5).toNat,
    probePu := clampN 1 255 (fld (w 6) 7 0), errClamp := fld (w 7) 19 0, intLimit := fld (w 8) 23 0,
    klv := if w 9 = 0 then 1 else sgn (w 9), lvStep := fld (w 10) 13 0,
    dithInc := clampN 0x051EB851 0x3D70A3D7 (w 16).toNat, dithAmp := fld (w 17) 15 0,
    notchQ := max 0x10 (fld (w 18) 7 0), kes := sgn (w 19), hp := fld (w 20) 3 0, lp := fld (w 20) 7 4,
    xmin := (w 21).toNat, lockR := sgn (w 22), lockCount := clampN 1 63 (fld (w 23) 5 0),
    refuseMax := clampN 1 15 (fld (w 23) 11 8), handoverLimit := fld (w 24) 23 0, acqTimeout := fld (w 25) 15 0,
    vmax := (w 26).toNat, amax := (w 27).toNat, jmax := nz (w 28).toNat, bandSum := (w 29).toNat,
    bandSplit := (w 30).toNat, plShift := fld (w 31) 3 0 }

/-- R67: Bp = round((PROBE_PU·π / 2^19)² / 2) in Q2.30, which is PROBE_PU²·π² / 512. -/
def Coeffs.bp (k : Coeffs) : Int :=
  shrNear (k.probePu * k.probePu * (fxPi * fxPi / fxOne)) 109

/-- The four notch coefficients of R99 in Q2.30: g, 2 cos ω0, 2ρ cos ω0, ρ². -/
def Coeffs.notch (k : Coeffs) : Int × Int × Int × Int :=
  let w0 : Int := 2 * fxPi * k.dithInc / 2 ^ 32
  let rho : Int := fxOne - w0 * 16 / (2 * k.notchQ : Int)
  let c := fxCos w0
  let rc := rho * c / fxOne
  let rr := rho * rho / fxOne
  let g := (fxOne - 2 * rc + rr) * fxOne / (2 * fxOne - 2 * c)
  (fxQ30 g, fxQ30 (2 * c), fxQ30 (2 * rc), fxQ30 rr)

/-! ### Readings -/

/-- An element's reading (R149): the two input powers, the two output powers, the state captured, whether the
excitation was applied at the capture, and whether all its tap readings are valid. -/
structure Reading where
  valid : Bool
  cross : Bool
  exc : Bool
  p1 : Int
  p2 : Int
  a : Int
  b : Int
  deriving DecidableEq, Repr

/-- A signed 16-bit value in tap units (R63); a difference beyond it saturates (DESIGN CHOICE, assumption 109). -/
def sat16 (x : Int) : Int := clampI (-32768) 32767 x

/-- x of R62. -/
def Reading.x (r : Reading) : Int := sat16 (r.p1 - r.p2)

/-- y of R62. -/
def Reading.y (r : Reading) : Int := sat16 (if r.cross then r.b - r.a else r.a - r.b)

/-! ### Estimator and sign probe -/

/-- R64: k = clamp(SXY / SXX, −1, +1) in Q2.30, rounded toward zero; +1 while SXX is 0. -/
def kOf (sxx sxy : SNum) : Int :=
  if sxx.m = 0 then 1073741824
  else clampI (-1073741824) 1073741824 ((sxy.val26 * 1073741824).tdiv sxx.val26)

/-- The sums SXX and SXY of a state. -/
def Estimator.sxx (e : Estimator) (cross : Bool) : SNum := if cross then e.sxxCross else e.sxxBar
def Estimator.sxy (e : Estimator) (cross : Bool) : SNum := if cross then e.sxyCross else e.sxyBar
def Estimator.sign (e : Estimator) (cross : Bool) : SNum := if cross then e.signCross else e.signBar

/-- The present estimate of a state. -/
def Estimator.kNow (e : Estimator) (cross : Bool) : Int := kOf (e.sxx cross) (e.sxy cross)

/-- R62: the sums of the state captured, unless the reading was captured without excitation (R61). -/
def Estimator.update (e : Estimator) (k : Coeffs) (r : Reading) : Estimator :=
  if r.exc then
    let sx := (e.sxx r.cross).forget k.lambda (r.x * r.x) 0
    let sy := (e.sxy r.cross).forget k.lambda (r.x * r.y) 0
    if r.cross then { e with sxxCross := sx, sxyCross := sy } else { e with sxxBar := sx, sxyBar := sy }
  else e

/-- R67: the sign sum of the state and SNORM, from a probed reading. -/
def Estimator.probeUpdate (e : Estimator) (k : Coeffs) (r : Reading) : Estimator :=
  if r.exc then
    let d : Int := r.x * (r.y * 1073741824 - e.kNow r.cross * r.x) + r.x * r.x * k.bp
    let sg := (e.sign r.cross).forget k.signShift d 30
    let e := { e with snorm := e.snorm.forget k.signShift (r.x * r.x) 0 }
    if r.cross then { e with signCross := sg } else { e with signBar := sg }
  else e

/-- R68: the sign of a state. -/
def Estimator.signOf (e : Estimator) (k : Coeffs) (cross : Bool) : Int :=
  if e.snorm.m = 0 then 0
  else
    let sg := (e.sign cross).val26 * 1073741824
    let th := (k.deadband : Int) * e.snorm.val26
    if th ≤ sg then 1 else if sg ≤ -th then -1 else 0

/-- R64, R65: the error magnitude in pu. -/
def magOf (c : Coeffs) (k : Int) : Int :=
  if k < 0 then c.errClamp
  else min (isqrt ((1073741824 - k) / 2).toNat * 0x28BE60DC / 67108864 : Nat) c.errClamp

/-! ### Feed-forward and profile -/

/-- R73: the feed-forward at a set-point of 0 to 2^20 − 1 pu. -/
def ffOf (lin : List Nat) (sp : Nat) : Int :=
  let i := sp / 16384
  let f : Int := (sp % 16384 : Nat)
  let a : Int := (lin.getD i 0 : Nat)
  let b : Int := (lin.getD (i + 1) 0 : Nat)
  a + shr ((b - a) * f) 14

/-- A set-point limited to 0 to 2^20 − 1 pu (R72, R100). -/
def spClamp (x : Int) : Nat := (clampI 0 1048575 x).toNat

/-- The integer part of the position (R113). -/
def Profile.setpoint (p : Profile) : Int := shr p.p 16

/-- The sign of a number. -/
def sgnI (x : Int) : Int := if 0 < x then 1 else if x < 0 then -1 else 0

/-- R113, R114: one step of the profile generator toward an effective target in pu. The quotient of lag is floored
(DESIGN CHOICE, assumption 115). -/
def Profile.stepTo (p : Profile) (k : Coeffs) (eff : Int) : Profile :=
  let d : Int := eff * 65536 - p.p
  if d = 0 ∧ p.v = 0 ∧ p.a = 0 then p
  else
    let s := sgnI d
    let lag : Nat := p.v.natAbs * k.amax / k.jmax
    let vd : Int := s * min k.vmax (isqrt (2 * k.amax * (d.natAbs - lag)))
    let aStar := clampI (-(k.amax : Int)) k.amax (vd - p.v)
    let a := p.a + clampI (-(k.jmax : Int)) k.jmax (aStar - p.a)
    let v := clampI (-(k.vmax : Int)) k.vmax (p.v + a)
    if s * (d - v) ≤ 0 then { p := eff * 65536, v := 0, a := 0 } else { p := p.p + v, v := v, a := a }

/-- R111: the effective target. -/
def effTarget (target : Word) (offset : Int) : Int := clampI 0 1048575 (sgn target + offset)

/-! ### The service law -/

/-- A number in 48 bits of two's complement (R76: intermediate values are 48 bits wide); one beyond them wraps (DESIGN
CHOICE, assumption 110). -/
def wrap48 (x : Int) : Int := (BitVec.ofInt 48 x).toInt

/-- What the die and the calibration hold of an element, as its iteration needs it. -/
structure Ctx where
  k : Coeffs
  bank : Fin 2
  n : Nat
  j : Nat
  lin : List Nat
  lc : Nat
  eff : Int
  compliance : Bool
  deriving DecidableEq, Repr

/-- R66: the element is probed in sample n. -/
def Ctx.probeDue (c : Ctx) : Bool := decide (((c.n : Int) - c.j) % 64 = 0)

/-- R77: a state-split transfer is due in sample n. -/
def Ctx.splitDue (c : Ctx) : Bool := decide (((c.n : Int) - c.j - 32) % 64 = 0)

/-- R66: the reading iterated now is the one that sees the probe: no other iteration stood between. -/
def Elem.probed (e : Elem) (n : Nat) : Bool :=
  match e.est.probe with
  | some (n0, _) =>
    decide (n0 + 2 ≤ n) && (e.lastIter = some n0 || (e.lastIter = some (n0 + 1) && decide (n = n0 + 2)))
  | none => false

/-- The limits of the integrators. -/
def intClamp (k : Coeffs) (x : Int) : Int := clampI (-(k.intLimit * 256 : Nat)) (k.intLimit * 256 : Nat) x

/-- R74, R75: the integrator of the captured state. -/
def Elem.integrate (e : Elem) (c : Ctx) (cross : Bool) (err : Int) : Elem :=
  if (e.clampHi && decide (0 < err)) || (e.clampLo && decide (err < 0)) || (c.compliance && decide (0 < err)) then e
  else
    let t := shrNear (c.k.ki * err * 2 ^ c.k.kshift) 22
    if cross then { e with intCross := intClamp c.k (e.intCross + t) }
    else { e with intBar := intClamp c.k (e.intBar + t) }

/-- R77: the state-split transfer. -/
def Elem.split (e : Elem) (k : Coeffs) : Elem :=
  let d := e.intBar - e.intCross
  let dl := clampI (-(k.lvStep : Int)) k.lvStep (divNear (k.klv * d) (2 ^ 38))
  let h := ((dl * 2 ^ 38).tdiv k.klv).tdiv 2
  { e with
    levBar := BitVec.ofInt 14 (clampI 0 16383 (e.levBar.toNat + dl))
    levCross := BitVec.ofInt 14 (clampI 0 16383 (e.levCross.toNat - dl))
    intBar := e.intBar - h
    intCross := e.intCross + h }

/-- R76, R108: the heater output of the service law for an error, with the ramp term. -/
def Elem.serviceOut (e : Elem) (c : Ctx) (err : Int) : Elem :=
  let probe : Int := if c.probeDue then c.k.probePu else 0
  let sp := spClamp (e.prof.setpoint + probe)
  let kp := shr (wrap48 (c.k.kp * err * 2 ^ c.k.kshift)) 22
  let ramp : Int := shr (e.acq.b0 * e.acq.rampLeft) 5
  let u := wrap48 (ffOf c.lin sp * 256 + kp + shr (e.intBar + e.intCross) 1 + ramp)
  let h := shr (u + 128) 8
  { e with
    heater := BitVec.ofInt 24 (clampI 0 16777215 h)
    clampHi := decide (16777215 < h)
    clampLo := decide (h < 0)
    lastErr := err
    acq := { e.acq with rampLeft := e.acq.rampLeft - 1 }
    est := { e.est with
      probe := if c.probeDue then some (c.n, c.bank) else e.est.probe
      spoiled := if c.probeDue then false else e.est.spoiled } }

/-! ### Plausibility (R115 to R118) -/

/-- R115 to R117: one evaluated sample. The Bool says that IMPLAUSIBLE is set now. -/
def Elem.plausible (e : Elem) (c : Ctx) (r : Reading) : Elem × Bool :=
  let sum := r.p1 + r.p2
  if sum ≤ 0 then ({ e with pl := { e.pl with evaluated := false } }, false)
  else
    let k := e.est.kNow r.cross
    let rs := roundQ ((r.a + r.b) * 1073741824 - (c.lc : Int) * sum) sum
    let resSum := e.pl.resSum + shr (rs - e.pl.resSum) c.k.plShift
    let sk := if r.cross then -k else k
    let rd := roundQ (2 * r.a * 1152921504606846976 -
      (c.lc : Int) * (r.p1 * (1073741824 + sk) + r.p2 * (1073741824 - sk))) (2 * sum * 1073741824)
    let srv := e.mode = .service
    let resSplit := if srv then e.pl.resSplit + shr (rd - e.pl.resSplit) c.k.plShift else e.pl.resSplit
    let so := decide (c.k.bandSum < resSum.natAbs)
    let po := srv && (decide (c.k.bandSplit < resSplit.natAbs) || decide (k < 0))
    let oob := so || po
    let hist : BitVec 16 := (e.pl.history <<< 1) ||| (if oob then 1 else 0)
    let run := if oob then 0 else min 16 (e.pl.clearRun + 1)
    let cnt := ((List.range 16).filter fun i => hist.getLsbD i).length
    let set := decide (12 ≤ cnt) && !e.pl.implausible
    let imp := if 12 ≤ cnt then true else if run = 16 then false else e.pl.implausible
    ({ e with pl :=
        { resSum := resSum, resSplit := resSplit, history := hist, clearRun := run, sumOob := so, splitOob := po,
          verdict := !oob, evaluated := true, implausible := imp } }, set)

/-! ### Acquisition (R96 to R103) and hand-over (R104 to R110) -/

/-- R98: θ of sample n − 2, the phase in the output that the reading of sample n saw. -/
def Acquisition.seenTheta (q : Acquisition) (n : Nat) : BitVec 32 :=
  if q.thetaAt.map (fun m => m + 1) = some n then q.thetaPrev else q.theta

/-- R98: r, RM, G and ACQ_OFF, and LOCK_RUN (R102), for a reading of sample n that passes the |x| test. A tie in the step
of ACQ_OFF rounds toward plus infinity (DESIGN CHOICE, assumption 114). -/
def Acquisition.seek (q : Acquisition) (k : Coeffs) (n : Nat) (r : Reading) : Acquisition :=
  if r.x ≠ 0 ∧ shr ((k.xmin : Int) * (r.p1 + r.p2)) 30 ≤ r.x.natAbs then
    let ratio := clampI (-1073741824) 1073741824 (roundQ (r.y * 1073741824) r.x)
    let rm := q.rm + shr (ratio - q.rm) k.hp
    let g := q.g + shr (shr ((ratio - rm) * sinQ30 (q.seenTheta n)) 30 - q.g) k.lp
    let off := q.off + shrNear (k.kes * g) 30
    { q with rm := rm, g := g, off := off, lockRun := if k.lockR ≤ rm then min 63 (q.lockRun + 1) else 0 }
  else q

/-- R99: one output of the notch. -/
def Acquisition.notch (q : Acquisition) (k : Coeffs) : Acquisition :=
  let c := k.notch
  let y := c.1 * (q.off * 1073741824 - c.2.1 * q.z1 + q.z2 * 1073741824) +
    (c.2.2.1 * q.w1 - c.2.2.2 * q.w2) * 16384
  let o := shrNear y 44
  { q with acqN := o, z2 := q.z1, z1 := q.off, w2 := q.w1, w1 := o }

/-- ACQ_N as an integer number of pu (R99). -/
def Acquisition.nPu (q : Acquisition) : Int := shrNear q.acqN 16

/-- One acquisition iteration, after the profile step: R98 to R102, the dither of R96, R104 and R105. -/
def Elem.acquire (e : Elem) (c : Ctx) (r : Reading) : Elem :=
  let q := (e.acq.seek c.k c.n r).notch c.k
  let q := { q with samples := min 65535 (q.samples + 1) }
  let sum := q.theta.toNat + c.k.dithInc
  let theta : BitVec 32 := BitVec.ofNat 32 sum
  let wrap := decide (2 ^ 32 ≤ sum) && decide (c.k.lockCount ≤ q.lockRun)
  let dith : Int := if wrap then 0 else shrNear (c.k.dithAmp * sinQ30 theta) 30
  let sp := spClamp (e.prof.setpoint + q.nPu + dith)
  let h := clampI 0 16777215 (ffOf c.lin sp)
  { e with
    est := if e.probed c.n then { e.est with probe := none } else e.est.update c.k r
    heater := BitVec.ofInt 24 h
    clampHi := false
    clampLo := false
    lastErr := q.nPu + dith
    acq := { q with theta := theta, thetaPrev := q.theta, thetaAt := some c.n, attempt := wrap,
                    hAcq := if wrap then h else q.hAcq } }

/-- R626: what is set to 0 when an element enters ACQUISITION. A host request for SERVICE made before ends with the
acquisition that it was made in (R110). -/
def Elem.enterAcq (e : Elem) : Elem :=
  { e with
    mode := .acquisition
    modeDue := none
    acq := { e.acq with off := 0, rm := 0, g := 0, z1 := 0, z2 := 0, w1 := 0, w2 := 0, acqN := 0, lockRun := 0,
                        samples := 0, rampLeft := 0, attempt := false, hostReq := false } }

/-- The outcome of an iteration beside the record: probed readings discarded, a refused hand-over, whether its refusal
raises the fault of R107, and whether IMPLAUSIBLE set (R118). -/
structure IterOut where
  discards : Nat := 0
  refused : Bool := false
  refuseFault : Bool := false
  implausible : Bool := false
  deriving DecidableEq, Repr

/-- The service iteration, after the profile step (R62 to R78, and the iteration listed there). -/
def Elem.serve (e : Elem) (c : Ctx) (r : Reading) : Elem × Nat :=
  let probed := e.probed c.n
  let e1 : Elem × Int × Nat :=
    if probed then
      let good := !e.est.spoiled && (match e.est.probe with | some (_, b) => b = c.bank | none => false)
      let e' := { e with est := { (if good then e.est.probeUpdate c.k r else e.est) with probe := none } }
      (e', 0, if good then 0 else 1)
    else
      let est := e.est.update c.k r
      let e' := { e with est := est }
      let err := est.signOf c.k r.cross * magOf c.k (est.kNow r.cross)
      (e'.integrate c r.cross err, err, 0)
  let e2 := e1.1.serviceOut c e1.2.1
  let e3 := if c.splitDue && !probed then e2.split c.k else e2
  ({ e3 with est := { e3.est with k := e3.est.kNow r.cross } }, e1.2.2)

/-- R106 to R108, R110: a hand-over attempt with the acquisition output hAcq, after the profile step. -/
def Elem.handover (e : Elem) (c : Ctx) (r : Reading) (hAcq : Int) : Elem × IterOut :=
  let d := (hAcq - ffOf c.lin (spClamp e.prof.setpoint)) * 256
  let p := intClamp c.k d
  let b0 := d - p
  if c.k.handoverLimit * 256 < b0.natAbs then
    let n := e.acq.refusals + 1
    let e' := { e with acq := { e.acq with refusals := min 15 n, attempt := false, hostReq := false } }
    (e'.acquire c r, { refused := true, refuseFault := decide (min 15 n = c.k.refuseMax) })
  else
    let e' : Elem :=
      { e with
        mode := .service
        intBar := p
        intCross := p
        est := { e.est with signBar := {}, signCross := {}, snorm := {}, probe := none }
        acq := { e.acq with b0 := b0, rampLeft := 32, refusals := 0, samples := 0, lockRun := 0, attempt := false,
                            hostReq := false } }
    let x := e'.serve c r
    (x.1, { discards := x.2 })

/-- One iteration on a reading that is present (R76, R94 to R110, R113, R117). An iteration on an invalid reading counts as
completed for R85's OVERRUN, one held by STALE does not (DESIGN CHOICE, assumption 111). -/
def Elem.iterate (e : Elem) (c : Ctx) (r : Reading) : Elem × IterOut :=
  let e := { e with begun := some c.n }
  match e.mode with
  | .off | .hold => ({ e with overrun := false, lastIter := some c.n, pl := { e.pl with evaluated := false } }, {})
  | .acquisition | .service =>
    if !r.valid then
      let d := if e.probed c.n then 1 else 0
      ({ e with
          stale := true
          overrun := false
          est := { e.est with spoiled := true, probe := if e.probed c.n then none else e.est.probe }
          acq := { e.acq with attempt := false }
          pl := { e.pl with evaluated := false } }, { discards := d })
    else
      let hHost := ffOf c.lin (spClamp (e.prof.setpoint + e.acq.nPu))
      let e1 := { e with stale := false, prof := e.prof.stepTo c.k c.eff }
      let x : Elem × IterOut :=
        if e.mode = .service then
          let y := e1.serve c r
          (y.1, { discards := y.2 })
        else if e.acq.hostReq then e1.handover c r (clampI 0 16777215 hHost)
        else if e.acq.attempt then e1.handover c r e.acq.hAcq
        else (e1.acquire c r, {})
      let z := x.1.plausible c r
      let e2 := { z.1 with overrun := false, lastIter := some c.n }
      let e3 := if z.2 && e2.mode = .service then { e2 with modeDue := some .acquisition } else e2
      (e3, { x.2 with implausible := z.2 })

end Sys2Proof.Machine
end

