-- ==== Sys2Proof/Machine/Topology.lean ====
section
/-! DEFINITION. The wiring of the photonic die: stage links (R22), upstream taps (R23), tap numbers (R24), and the
assignment of elements to logical engines (R52). -/

namespace Sys2Proof.Machine

open Sys2Proof

/-- R22: the low b bits of a line rotated right by one place. -/
def rotr (b x : Nat) : Nat :=
  let m := x % 2 ^ b
  x - m + (m / 2 + m % 2 * 2 ^ (b - 1))

/-- R22: the low b bits of a line rotated left by one place. -/
def rotl (b x : Nat) : Nat :=
  let m := x % 2 ^ b
  x - m + (m * 2 % 2 ^ b + m / 2 ^ (b - 1))

/-- Table: Stage links: where output line x of stage s enters stage s + 1. -/
def stageLink (s x : Nat) : Nat :=
  if s ≤ 7 then rotr (9 - s) x else if s ≤ 15 then rotl (s - 6) x else rotl 9 x

/-- The output line of stage s that enters stage s + 1 on line y. -/
def stageBack (s y : Nat) : Nat :=
  if s ≤ 7 then rotl (9 - s) y else if s ≤ 15 then rotr (s - 6) y else rotr 9 y

/-- R22: the detector of output line y of stage S17. -/
def detectorOf (y : Nat) : Nat := rotr 9 y

/-- R23: the upstream tap of input line y of stage s: for s ≥ 1 tap A or B of the element that drives the line, for S0
the modulator input tap. -/
def upstreamTap (s y : Nat) : Nat :=
  if s = 0 then 9760 + y else 512 * (s - 1) + stageBack (s - 1) y

/-- R24: the emitter tap of emitter i of bank n. -/
def emitterTap (n i : Nat) : Nat := 9216 + 17 * n + i

/-- R24: the modulator input tap of MODk. -/
def modTap (k : Nat) : Nat := 9760 + k

/-- R24: the dump tap of bank n. -/
def dumpTap (n : Nat) : Nat := 10272 + n

/-- R143: the unit that converts a tap. -/
def tapUnit (t : Nat) : Nat := t % 100

/-- The partner of an ADC unit. -/
def partner (u : Nat) : Nat := if u % 2 = 0 then u + 1 else u - 1

/-- The taps that an element's reading needs (R23, R149, R622). -/
def elemTaps (e : Nat) : List Nat :=
  if e < 4608 then
    let s := e / 256
    let r := e % 256
    [2 * e, 2 * e + 1, upstreamTap s (2 * r), upstreamTap s (2 * r + 1)]
  else
    let n := (e - 4608) / 16
    let i := (e - 4608) % 16
    let chain := (List.range (17 - i)).map fun d => emitterTap n (i + d)
    let mods := (List.range (16 - i)).map fun d => modTap (16 * n + i + d)
    chain ++ mods ++ (if i = 0 then [dumpTap n] else [])

/-- R52: the logical engine and list position of an element, under the lists of the image or the default assignment. -/
def State.engineOf (s : State) (e : Nat) : Nat × Nat :=
  match s.img.engines.lists with
  | [] => if e < 4608 then (e / 96, e % 96) else ((e - 4608) % 48, 96 + (e - 4608) / 48)
  | ls =>
    match ls.findIdx? (fun l => l.contains e) with
    | some l => (l, (ls.getD l []).findIdx (fun x => x = e))
    | none => (0, 0)

/-- The matrix elements of a logical engine in list order. -/
def State.matrixList (s : State) (l : Nat) : List Nat :=
  match s.img.engines.lists with
  | [] => (List.range 96).map fun i => 96 * l + i
  | ls => (ls.getD l []).filter fun e => decide (e < 4608)

/-- The selector elements of a logical engine in list order. -/
def State.selectorList (s : State) (l : Nat) : List Nat :=
  match s.img.engines.lists with
  | [] => (List.range (if l < 32 then 11 else 10)).map fun i => 4608 + l + 48 * i
  | ls => (ls.getD l []).filter fun e => decide (4608 ≤ e)

/-- R126: the heater quadrant of an element. -/
def quadrantOf (e : Nat) : Nat := if e < 4608 then e % 256 / 64 else (e - 4608) / 128

end Sys2Proof.Machine
end

