-- ==== Sys2Proof/Machine/Loops.lean ====
section
/-! DEFINITION. The commands of the element loops (02_element_loops.md, 03_loop_modes_and_supervision.md): captures
and readings, iterations, overruns and spare engines, coefficient banks, targets, excitation and mode requests. -/

namespace Sys2Proof.Machine

open Sys2Proof

/-! ### Engines (R53, R85 to R88) -/

/-- What an engine that nothing has changed is: engines 0 to 47 active on their own number, 48 to 51 spare. -/
def engDflt (p : Nat) : Engine := { logical := p, role := if p < 48 then .active else .spare, ovr := [] }

/-- Physical engine p of a controller. -/
def State.engine (s : State) (c : Ctl) (p : Nat) : Engine := Sparse.get engDflt (s.loops c).engines p

/-- Replace a physical engine. -/
def State.setEngine (s : State) (c : Ctl) (p : Nat) (x : Engine) : State :=
  let l := s.loops c
  s.setLoops c { l with engines := Sparse.set engDflt l.engines p x }

/-- An engine that serves in this sample: an active one, or one declared faulty in it, which serves to its end (R85,
R87). -/
def State.serves (s : State) (c : Ctl) (p : Nat) : Bool :=
  let x := s.engine c p
  decide (x.role = .active) || (decide (x.role = .faulty) && decide (x.lastServed = some s.loopS.sample))

/-- The physical engine that serves a logical engine (R53). -/
def State.servedBy (s : State) (c : Ctl) (l : Nat) : Option Nat :=
  (List.range 52).find? fun p => s.serves c p && decide ((s.engine c p).logical = l)

/-- The logical engines that no engine serves from the next sample on. -/
def State.unserved (s : State) (c : Ctl) : List Nat :=
  (List.range 48).filter fun l =>
    (List.range 52).all fun p => decide (¬((s.engine c p).role = .active ∧ (s.engine c p).logical = l))

/-- The free spare engines of a controller, lowest first (R87). -/
def State.freeSpares (s : State) (c : Ctl) : List Nat :=
  (List.range 52).filter fun p => decide ((s.engine c p).role = .spare)

/-! ### Readings (R23, R63, R149, R622) -/

/-- 10^(−0.5), the modulator loss of 5.0 dB (R23), times 2^60. -/
def modLoss60 : Int := 364585791794594742

/-- The calibration of an ADC unit in use (R164). -/
def State.auCal (s : State) (u : Nat) : AuCal := Sparse.get (fun _ => {}) s.cal.aus u

/-- The relative responsivity of a tap in use, unsigned Q2.30 (R166). -/
def State.tapResp (s : State) (t : Nat) : Int := ((Sparse.get (fun _ => 0x40000000) s.cal.resp t).toNat : Int)

/-- R63: the value of a tap reading in tap units, corrected by gain and offset of the unit that converted it (R164)
and by the tap's responsivity, and scaled by num / 2^60. -/
def State.tapValue (s : State) (t : Nat) (r : TapReading) (num : Int) : Int :=
  let u := if r.byPartner then partner (tapUnit t) else tapUnit t
  let c := s.auCal u
  roundQ (((c.gain.toNat : Int) * r.value + sgn c.offset * 2 ^ 28) * num) (s.tapResp t * 2 ^ 60)

/-- LC in use: interpolated plus LC_ADJ (R182). -/
def CalElem.lcUse (c : CalElem) : Nat := ((c.lc : Int) + c.lcAdj).toNat

/-- The reading that a capture holds of a tap; NOT_READ where there is none. -/
def Capture.tap (cap : Capture) (t : Nat) : TapReading :=
  Sparse.get (fun _ => { value := 0, valid := false, reason := 6 }) cap.readings t

/-- The reading of a tap has come in. -/
def Capture.has (cap : Capture) (t : Nat) : Bool := cap.readings.any fun p => decide (p.1 = t)

/-- R622: the carry into SEL(n,i), i = 15 − d. -/
def State.selCarry (s : State) (cap : Capture) (n : Nat) : Nat → Int
  | 0 => s.tapValue (emitterTap n 16) (cap.tap (emitterTap n 16)) (2 ^ 60)
  | d + 1 =>
    let j := 15 - d
    let p1 := s.tapValue (emitterTap n j) (cap.tap (emitterTap n j)) (2 ^ 60)
    let a := s.tapValue (modTap (16 * n + j)) (cap.tap (modTap (16 * n + j))) (2 ^ 60)
    let lc : Int := ((s.calElem (4608 + 16 * n + j)).lcUse : Nat)
    max 0 (roundQ (lc * (p1 + s.selCarry cap n d)) (2 ^ 30) - a)

/-- The four powers of an element's reading: P1, P2, A, B (R23, R622). -/
def State.powers (s : State) (cap : Capture) (e : Nat) : Int × Int × Int × Int :=
  let v (t : Nat) : Int := s.tapValue t (cap.tap t) (2 ^ 60)
  if e < 4608 then
    let st := e / 256
    let r := e % 256
    let up (y : Nat) : Int :=
      let t := upstreamTap st y
      s.tapValue t (cap.tap t) (if st = 0 then modLoss60 else 2 ^ 60)
    (up (2 * r), up (2 * r + 1), v (2 * e), v (2 * e + 1))
  else
    let n := (e - 4608) / 16
    let i := (e - 4608) % 16
    let p1 := v (emitterTap n i)
    let p2 := s.selCarry cap n (15 - i)
    let a := v (modTap (16 * n + i))
    let lc : Int := ((s.calElem e).lcUse : Nat)
    let b := if i = 0 then v (dumpTap n) else max 0 (roundQ (lc * (p1 + p2)) (2 ^ 30) - a)
    (p1, p2, a, b)

/-- The reading of an element from a capture (R149). -/
def State.readingOf (s : State) (cap : Capture) (e : Nat) : Reading :=
  let p := s.powers cap e
  { valid := (elemTaps e).all fun t => (cap.tap t).valid, cross := cap.sel.getLsbD e, exc := cap.exc,
    p1 := p.1, p2 := p.2.1, a := p.2.2.1, b := p.2.2.2 }

/-- A reading that is not there (R149). -/
def noReading : Reading := { valid := false, cross := false, exc := false, p1 := 0, p2 := 0, a := 0, b := 0 }

/-- The reading that the iterations of this sample use (R55): none while it is still to come (R56); an invalid reading
where the sample before had no capture. -/
def State.reading (s : State) (e : Nat) : Option Reading :=
  match s.loopS.capPrev with
  | none => some noReading
  | some cap => if (elemTaps e).all fun t => cap.has t then some (s.readingOf cap e) else none

/-! ### Iterations -/

/-- The controllers treat the element as STALE: a heater range change (R137), a calibration stage (R177), the gap of a
switch-over (R420), the hardware safe state (R142), or no engine (R88). -/
def State.heldStale (s : State) (c : Ctl) (e : Nat) : Bool :=
  let ch := s.chan e
  decide (ch.phase ≠ .idle) || decide (0 < ch.staleLeft) ||
  decide (s.loopS.sample < Sparse.get (fun _ => 0) s.loopS.calStale e) ||
  s.red.gapEnd.isSome || s.flt.safe || s.flt.outHeld || (s.servedBy c (s.engineOf e).1).isNone

/-- What the iteration of an element in this sample uses of the rest of the state. -/
def State.ctx (s : State) (e : Nat) : Ctx :=
  let lp := s.engineOf e
  let ce := s.calElem e
  { k := s.coeffs lp.1 s.loopS.activeBank, bank := s.loopS.activeBank, n := s.loopS.sample, j := lp.2,
    lin := ce.linUse, lc := ce.lcUse,
    eff := effTarget (Sparse.get (fun _ => 0) s.loopS.target e) ce.offset, compliance := (s.chan e).compliance }

/-- An element that is STALE keeps its state (R95); a probe that waits for its reading is spoiled, and a probed reading
that falls in this sample is discarded (R70). A hand-over attempt that falls in this sample is not made (R105). -/
def Elem.held (e : Elem) (n : Nat) : Elem × IterOut :=
  let pr := e.probed n
  ({ e with
      begun := some n
      est := { e.est with spoiled := true, probe := if pr then none else e.est.probe }
      acq := { e.acq with attempt := false }
      pl := { e.pl with evaluated := false } }, { discards := if pr then 1 else 0 })

/-- Count the outcome of an iteration in its controller, and raise the transient faults of R107 and R118 when it is the
active one (R627). -/
def State.applyOut (s : State) (c : Ctl) (e : Nat) (o : IterOut) : State :=
  let l := s.loops c
  let s1 := s.setLoops c { l with
    probeDiscards := l.probeDiscards + o.discards
    handoverRefused := l.handoverRefused + b2n o.refused
    implausibleEvents := l.implausibleEvents + b2n o.implausible }
  let act := decide (s.active? = some c)
  let s2 := if o.refuseFault && act then s1.raise (elemCode e) 1 else s1
  let s3 := if o.implausible && act then s2.raise (elemCode e) 1 else s2
  if o.implausible then s3.elemEvent c 0x40 e else s3

/-- R110: the request of LPE_MODE_REQ ends when the active controller has made its attempt. -/
def State.endHostReq (s : State) (c : Ctl) (e : Nat) (before after : Elem) : State :=
  if before.acq.hostReq && !after.acq.hostReq && decide (s.active? = some c) &&
     decide (s.loopS.modeReq.map (fun q => (q.1.val, q.2)) = some (e, LoopMode.service)) then
    { s with loopS := { s.loopS with modeReq := none } }
  else s

/-- One iteration of an element in a controller on a reading. -/
def State.runIteration (s : State) (c : Ctl) (e : Nat) (r : Reading) : State :=
  let x := s.elem c e
  let o := if s.heldStale c e then x.held s.loopS.sample else x.iterate (s.ctx e) r
  let s1 := ((s.setElem c e o.1).applyOut c e o.2).endHostReq c e x o.1
  if o.1.mode = x.mode then s1 else s1.elemEvent c 0x42 e

/-- The matrix elements of a logical engine's list from the first that a controller has not begun in this sample (R53,
R85). -/
def State.unreached (s : State) (c : Ctl) (l : Nat) : List Nat :=
  (s.matrixList l).dropWhile fun e => decide ((s.elem c e).begun = some s.loopS.sample)

/-- ELEMENT_ITERATION is due: the loops run in the controller and the element is the next of its engine's list (R53); an
engine waits for the readings of its next element (R56). -/
def State.iterationDue (s : State) (c : Ctl) (e : Nat) : Bool :=
  s.loopS.running && !s.loopS.first && s.ctlRuns c && decide ((s.unreached c (s.engineOf e).1).head? = some e)

/-- ELEMENT_ITERATION (R76): one matrix element, once its readings are present (R56). -/
def State.elementIteration (s : State) (c : Ctl) (e : Nat) : State :=
  if s.iterationDue c e then
    match s.reading e with
    | none => s
    | some r => s.runIteration c e r
  else s

/-- The selector whose turn it is in a logical engine (R57). -/
def State.nextSelector (s : State) (c : Ctl) (l : Nat) : Option Nat :=
  let ls := s.selectorList l
  if ls.isEmpty then none else ls[Sparse.get (fun _ => 0) (s.loops c).selPtr l % ls.length]?

/-- SELECTOR_ITERATION (R57): the next selector of the list, in the tail of the sample. A reading that is not present
then is invalid (R149). -/
def State.selectorIteration (s : State) (c : Ctl) (l : Nat) : State :=
  if s.loopS.running && !s.loopS.first && s.ctlRuns c &&
     decide (Sparse.get (fun _ => 0) (s.loops c).selRun l < s.loopS.sample + 1) then
    match s.nextSelector c l with
    | none => s
    | some e =>
      let x := s.loops c
      let s1 := s.setLoops c { x with
        selPtr := Sparse.set (fun _ => 0) x.selPtr l (Sparse.get (fun _ => 0) x.selPtr l + 1)
        selRun := Sparse.set (fun _ => 0) x.selRun l (s.loopS.sample + 1) }
      s1.runIteration c e ((s1.reading e).getD noReading)
  else s

/-! ### Captures and readings (R54, R55, R145 to R153, R159) -/

/-- R145: the code of a conversion with OVR set: all ones above the range, 0 below it. -/
def ovrCode (c : BitVec 14) : Nat := if c.toNat < 0x2000 then 0 else 0x3FFF

/-- The latest capture: that of this sample, or else that of the sample before. -/
def LoopShared.latest (l : LoopShared) : Option Capture :=
  match l.capCur with
  | some c => some c
  | none => l.capPrev

/-- Put a reading into the latest capture. -/
def LoopShared.putReading (l : LoopShared) (t : Nat) (r : TapReading) : LoopShared :=
  match l.capCur with
  | some c => { l with capCur := some { c with readings := Sparse.put c.readings t r } }
  | none =>
    match l.capPrev with
    | some c => { l with capPrev := some { c with readings := Sparse.put c.readings t r } }
    | none => l

/-- The units that may convert a tap: its own, and its partner. -/
inductive TapBy where
  | own | partner | nobody
  deriving DecidableEq, Repr

/-- Who converts a tap of the latest capture (R147, R155, R158, R159, R161). A surviving unit in direct mode goes on with
it, and the taps of both read NOT_READ (DESIGN CHOICE, assumption 117). -/
def State.convertedBy (s : State) (u : Nat) : TapBy :=
  let a := s.au u
  let b := s.au (partner u)
  if a.failed then
    if b.failed || b.lent || b.cfg.direct || b.loopNext || s.adc.fresh.any (fun x => decide (x.val = u)) then .nobody
    else .partner
  else if a.lent || a.cfg.direct || a.loopNext then .nobody
  else .own

/-- A unit converts for its failed partner, so both read with AVG 1 (R159); not before the capture after the failure. -/
def State.inRepair (s : State) (u : Nat) : Bool :=
  ((s.au u).failed || (s.au (partner u)).failed) && !((s.au u).failed && (s.au (partner u)).failed) &&
  s.adc.fresh.all fun x => decide (x.val ≠ u ∧ x.val ≠ partner u)

/-- The taps of a unit (R143). -/
def unitTaps (u : Nat) : List Nat := (List.range 104).map (fun i => 100 * i + u) |>.filter fun t => decide (t < 10304)

/-- R148: the lowest list position of a matrix element whose reading uses a tap; past every position for a tap that only
selectors read. -/
def State.tapPos (s : State) (t : Nat) : Nat :=
  if t < 9216 then
    let own := (s.engineOf (t / 2)).2
    let st := t / 512
    if st < 17 then min own (s.engineOf (256 * (st + 1) + stageLink st (t % 512) / 2)).2 else own
  else if 9760 ≤ t ∧ t < 10272 then (s.engineOf ((t - 9760) / 2)).2
  else 5120

/-- The place of a tap in the order of R147, R148 and R159: that of the image's schedule, or of the default one. Where a
unit converts for its partner, taps of equal place alternate (DEDUCED, assumption 121). -/
def State.tapKey (s : State) (t : Nat) : Nat :=
  match s.img.engines.schedule with
  | [] => s.tapPos t * 16384 + t
  | ls => 2 * (ls.getD (tapUnit t) []).findIdx (fun x => x = t) + tapUnit t % 2

/-- The taps that a unit converts in a window: its own, and those of a failed partner (R159). -/
def State.windowTaps (s : State) (u : Nat) : List Nat :=
  (if s.convertedBy u = .own then unitTaps u else []) ++
  (if s.convertedBy (partner u) = .partner then unitTaps (partner u) else [])

/-- The taps of its window that a unit has not read yet. -/
def State.windowLeft (s : State) (u : Nat) : List Nat :=
  match s.loopS.latest with
  | none => []
  | some cap => (s.windowTaps u).filter fun t => !cap.has t

/-- A conversion window of a unit is in progress. -/
def State.converting (s : State) (u : Nat) : Bool := !(s.windowLeft u).isEmpty

/-- The next tap that a unit converts is this one (R147). -/
def State.tapNext (s : State) (u t : Nat) : Bool := (s.windowLeft u).all fun x => decide (s.tapKey t ≤ s.tapKey x)

/-- TAP_CAPTURE: every tap is captured at one instant, with the states and the excitation of that instant; while Prism
runs in no CALIBRATION slot and in no guard (R54). The failures of the last window are repaired from this capture on
(R159). A sample has at most one capture. -/
def State.tapCapture (s : State) : State :=
  if (s.loopS.running || decide (s.glb.state = .calibrating)) && s.loopS.capCur.isNone &&
     (!s.slt.running || (decide (s.slt.cur.kind ≠ 3) && !s.drv.inGuard)) then
    { s with
      loopS := { s.loopS with
        capCur := some { sample := s.loopS.sample, exc := s.loopS.excOn, sel := s.drv.sel, readings := [] }
        capState := s.drv.sel }
      adc := { s.adc with
        fresh := []
        late := (List.range 100).filter s.converting
        units := Sparse.mapVals (fun _ => {}) (fun a => { a with loopNext := false }) s.adc.units } }
  else s

/-- R153: one reading of a unit: the count of readings that still carry RECOVERY. -/
def AdcUnit.afterReading (a : AdcUnit) (ovr : Bool) : AdcUnit :=
  { a with recovery := if ovr then 2 else a.recovery - (if a.recovery = 0 then 0 else 1) }

/-- The tag and value of a reading that a unit makes (R146, R151, R153). The conversions that a reading contains are the
averaged ones (DEDUCED, assumption 122). -/
def makeReading (repair byPartner : Bool) (recovery : Fin 3) (k : TapCodes) : TapReading :=
  let code (i : Nat) (c : BitVec 14) : Nat := if k.ovr.getLsbD i then ovrCode c else c.toNat
  let sum := if repair then 4 * code 0 k.c0 else code 0 k.c0 + code 1 k.c1 + code 2 k.c2 + code 3 k.c3
  let ovr := if repair then k.ovr.getLsbD 0 else decide (k.ovr ≠ 0)
  let reason : Fin 8 := if ovr then 7 else if recovery ≠ 0 then 4 else if repair then 5 else 0
  { value := sum, valid := decide (reason = 0 ∨ reason = 5), reason := reason, byPartner := byPartner }

/-- The conversions of a reading with OVR set, the three before the averaged ones among them (R146, R150). -/
def ovrCount (repair : Bool) (k : TapCodes) : Nat :=
  ((List.range 3).filter fun i => k.pre.getLsbD i).length +
  (if repair then b2n (k.ovr.getLsbD 0) else ((List.range 4).filter fun i => k.ovr.getLsbD i).length)

/-- A reading that no unit made. -/
def notRead : TapReading := { value := 0, valid := false, reason := 6 }

/-- One tap converted once: its reading, and what it does to its unit and to the counters (R146, R150, R153, R159). -/
def State.convertTap (s : State) (t : Nat) (k : TapCodes) : TapReading × State :=
  let u := tapUnit t
  let conv (q : Nat) (byPartner : Bool) : TapReading × State :=
    let a := s.au q
    let rp := byPartner || s.inRepair u
    let r := makeReading rp byPartner a.recovery k
    let s1 := (s.setAu q (a.afterReading (decide (r.reason = 7)))).bump 0x900048 (ovrCount rp k)
    (r, if r.valid then s1 else s1.bump 0x900050 1)
  match s.convertedBy u with
  | .nobody => (notRead, s.bump 0x900050 1)
  | .own => conv u false
  | .partner => conv (partner u) true

/-- The unit that converts a tap. -/
def State.convUnit (s : State) (t : Nat) : Nat :=
  if s.convertedBy (tapUnit t) = .partner then partner (tapUnit t) else tapUnit t

/-- TAP_READING: the next tap of a unit's window completes its conversions, and its reading goes, tagged, to both
controllers (R147). A tap that no unit converts is marked NOT_READ. -/
def State.tapReading (s : State) (t : Nat) (k : TapCodes) : State :=
  match s.loopS.latest with
  | none => s
  | some cap =>
    if cap.has t || !(decide (s.convertedBy (tapUnit t) = .nobody) || s.tapNext (s.convUnit t) t) then s
    else
      let r := s.convertTap t k
      { r.2 with loopS := r.2.loopS.putReading t r.1 }

/-! ### Overrun and spare engines (R85 to R88) -/

/-- Flag unreached elements: their outputs hold, and a hand-over attempt of this sample is not made (R104). A reading that
is not present by then is invalid (R149). -/
def State.markOverrun (s : State) (c : Ctl) (es : List Nat) : State :=
  es.foldl (fun s e =>
    let x := s.elem c e
    let gone := (s.reading e).isNone
    (s.setElem c e { x with overrun := true, begun := some s.loopS.sample, stale := x.stale || gone
                            acq := { x.acq with attempt := false }
                            est := { x.est with spoiled := x.est.spoiled || gone }
                            pl := { x.pl with evaluated := false } }).elemEvent c 0x41 e) s

/-- R88: the elements of a logical engine without an engine are STALE. -/
def State.markStale (s : State) (c : Ctl) (es : List Nat) : State :=
  es.foldl (fun s e => s.setElem c e { s.elem c e with stale := true }) s

/-- R86, R88: an engine is declared faulty. An active one serves to the end of the sample; with fewer free spares than
logical engines that need one, the elements are STALE and the controller's fault is raised. -/
def State.engineFaulty (s : State) (c : Ctl) (p : Nat) : State :=
  let x := s.engine c p
  let s1 := s.setEngine c p { x with
    role := .faulty, lastServed := if x.role = .active then some s.loopS.sample else none }
  let l := s1.loops c
  let s2 := ((s1.setLoops c { l with engFaults := l.engFaults + 1 }).irqIf Reg.LPE_CTRL 1 6).raise
    (faultCode fbEng (64 * ctlNum c + p)) 2
  if x.role = .active ∧ (s2.freeSpares c).length < (s2.unserved c).length then
    (s2.markStale c (s2.matrixList x.logical ++ s2.selectorList x.logical)).raiseCtl c 2
  else s2

/-- OVERRUN: at cycle 15,936 an engine leaves what it has not begun unreached (R85), and is faulty after 3 overrun
samples within 64 (R86). -/
def State.overrun (s : State) (c : Ctl) (p : Nat) : State :=
  let x := s.engine c p
  if s.loopS.running && !s.loopS.first && s.ctlRuns c && decide (x.role = .active) then
    let es := s.unreached c x.logical
    if es.isEmpty then s
    else
      let s1 := s.markOverrun c es
      let l := s1.loops c
      let s2 := (s1.setLoops c { l with overruns := l.overruns + es.length }).irqIf Reg.LPE_CTRL 0 6
      let w := s.loopS.sample :: x.ovr.filter fun m => decide (s.loopS.sample < m + 64)
      let s3 := s2.setEngine c p { x with ovr := w }
      if 3 ≤ w.length then s3.engineFaulty c p else s3
  else s

/-- R112: after a repair the fault handler may move targets; which elements and where to, the spec leaves open (DESIGN
CHOICE, assumption 118). -/
def State.moveTargets (s : State) : State :=
  { s with
    freeCtr := s.freeCtr + 1
    loopS := { s.loopS with targetPend := s.loopS.targetPend ++
      (Config.retarget s.freeCtr).filter fun x => decide (x.1 < 5120) } }

/-- SPARE_ENGINE_TAKEOVER: from the sample after, the lowest-numbered free spare serves the logical engine of a faulty
engine (R87). -/
def State.spareEngineTakeover (s : State) (c : Ctl) (l : Nat) : State :=
  let faulty := (List.range 52).any fun p => decide ((s.engine c p).role = .faulty ∧ (s.engine c p).logical = l)
  match (s.servedBy c l), (s.freeSpares c).head? with
  | none, some q =>
    if faulty then (s.setEngine c q { logical := l, role := .active, ovr := [] }).moveTargets else s
  | _, _ => s

/-- R87: at a sample boundary the free spares take over from the engines declared faulty. -/
def State.spareEngines (s : State) : State :=
  [Ctl.a, Ctl.b].foldl (fun s c => (s.loops c).engines.foldl (fun s x =>
    if x.2.role = .faulty then s.spareEngineTakeover c x.2.logical else s) s) s

/-- R70: a probe that waits for its reading is spoiled where its element is STALE in the sample that ends. -/
def State.spoilProbes (s : State) : State :=
  let f (c : Ctl) (l : CtlLoops) : CtlLoops :=
    { l with elems := Sparse.mapWith (fun _ => {}) (fun e x =>
        if x.est.probe.isSome && s.heldStale c e then { x with est := { x.est with spoiled := true } } else x) l.elems }
  { s with loopA := f .a s.loopA, loopB := f .b s.loopB }

/-- ACQ_TIMEOUT (R103): the restart of an acquisition that has reached ACQ_TIMEOUT samples. -/
def State.acqTimeout (s : State) (c : Ctl) (e : Nat) : State :=
  let x := s.elem c e
  let lp := s.engineOf e
  if x.mode = .acquisition ∧ x.acq.samples ≠ 0 ∧ (s.coeffs lp.1 s.loopS.activeBank).acqTimeout ≤ x.acq.samples then
    let s1 := s.setElem c e x.enterAcq
    if s.active? = some c then s1.raise (elemCode e) 1 else s1
  else s

/-! ### Coefficient banks (R79 to R84) -/

/-- R80: a bank that host software may not write now. -/
def State.bankClosed (s : State) (b : Nat) : Bool :=
  decide (b = s.loopS.activeBank.val) || s.loopS.swapAt.isSome

/-- A write to word w of bank b of logical engine l (R79, R80). -/
def State.writeCoeff (s : State) (p : CmdPort) (l b w : Nat) (v : Word) : State :=
  if s.bankClosed b then s.wrBit Reg.LPE_SWAP_CTRL 11 true
  else s.plainWrite p (coeffReg l b w) v

/-- LPE_SWAP_AT. -/
def State.swapAtReg (s : State) : Nat :=
  (s.rd Reg.LPE_SWAP_AT).toNat + 4294967296 * (s.rd (Reg.LPE_SWAP_AT + 4)).toNat

/-- A CANCEL of the pending swap (R83). -/
def State.swapCancelBit (s : State) : State :=
  match s.loopS.swapAt with
  | some _ => { s with loopS := { s.loopS with swapAt := none } }.wrBit Reg.LPE_SWAP_CTRL 10 true
  | none => s

/-- The refusal bits of a REQ of a swap (R82). -/
def State.swapRefusals (s : State) : List Nat :=
  (if s.loopS.swapAt.isSome then [8] else []) ++ (if s.swapAtReg ≤ s.loopS.sample + 1 then [9] else [])

/-- A REQ of a swap (R82); a refused one sets every refusal bit that applies (R628). -/
def State.swapReqBit (s : State) : State :=
  match s.swapRefusals with
  | [] => { s with loopS := { s.loopS with swapAt := some s.swapAtReg } }
  | bs => bs.foldl (fun t b => t.wrBit Reg.LPE_SWAP_CTRL b true) s

/-- A write of LPE_SWAP_CTRL: the CANCEL acts first (R628). -/
def State.writeSwapCtrl (s : State) (p : CmdPort) (v : Word) : State :=
  let s1 := s.plainWrite p Reg.LPE_SWAP_CTRL v
  let s2 := if bit v 1 then s1.swapCancelBit else s1
  if bit v 0 then s2.swapReqBit else s2

/-- COEFF_BANK_SWAP (R81): at the start of the named sample the idle bank becomes active in every logical engine of
both controllers. -/
def State.coeffBankSwap (s : State) : State :=
  match s.loopS.swapAt with
  | some n =>
    if n ≤ s.loopS.sample then
      { s with loopS := { s.loopS with activeBank := 1 - s.loopS.activeBank, swapAt := none } }.event 0x22
    else s
  | none => s

/-! ### Targets, excitation, mode requests -/

/-- TARGET of an element: the record word, and the change for the next sample boundary (R90). -/
def State.writeTarget (s : State) (p : CmdPort) (e : Nat) (v : Word) : State :=
  let s1 := s.plainWrite p (Reg.CEL_TARGET + 0x40 * e) v
  { s1 with loopS := { s1.loopS with targetPend := s1.loopS.targetPend ++ [(e, v)] } }

/-- The mode that a two-bit code names (R92). -/
def modeOf : Nat → LoopMode
  | 1 => .acquisition
  | 2 => .service
  | 3 => .hold
  | _ => .off

/-- The code of a mode. -/
def modeCode : LoopMode → Nat
  | .off => 0
  | .acquisition => 1
  | .service => 2
  | .hold => 3

/-- A write of LPE_MODE_REQ (R124). -/
def State.writeModeReq (s : State) (p : CmdPort) (v : Word) : State :=
  let s1 := s.plainWrite p Reg.LPE_MODE_REQ v
  if bit v 31 then
    let e := fld v 12 0
    let m := modeOf (fld v 17 16)
    if h : e < 5120 then
      if s1.loopS.modeReq.isSome || decide (m = .off) || s1.isParked e then s1.wrBit Reg.LPE_MODE_REQ 30 true
      else { s1 with loopS := { s1.loopS with modeReq := some (⟨e, h⟩, m) } }
    else s1.wrBit Reg.LPE_MODE_REQ 30 true
  else s1

/-- The request of LPE_MODE_REQ acts on the record of one controller at a sample boundary (R93, R94, R110). -/
def Elem.request (x : Elem) (m : LoopMode) : Elem :=
  match m with
  | .acquisition => x.enterAcq
  | .service =>
    match x.mode with
    | .acquisition => { x with acq := { x.acq with hostReq := true } }
    | .hold => { x with mode := .service, modeDue := none }
    | _ => x
  | .hold => { x with mode := .hold, modeDue := none, acq := { x.acq with hostReq := false } }
  | .off => x

/-- The pending request at a sample boundary. It ends here unless it is a hand-over attempt that waits (R110), or the
element's loops have not started. One for an element parked since it was accepted is ignored (R124). -/
def State.applyModeReq (s : State) : State :=
  match s.loopS.modeReq with
  | none => s
  | some (e, m) =>
    let x := s.elem s.actCtl e.val
    if x.mode = .off then s
    else if s.isParked e.val then
      { s with loopS := { s.loopS with modeReq := none } }.wrBit Reg.LPE_MODE_REQ 30 true
    else
      let s1 := s.modElem e.val fun y => y.request m
      if m = .service ∧ x.mode = .acquisition then s1
      else { s1 with loopS := { s1.loopS with modeReq := none } }

/-- A mode change that an iteration or a park has made due (R118, R35, R119). -/
def Elem.due (x : Elem) : Elem :=
  match x.modeDue with
  | some .acquisition => x.enterAcq
  | some m => { x with mode := m, modeDue := none, acq := { x.acq with hostReq := false } }
  | none => x

/-- The mode changes that are due, in both controllers. -/
def State.applyModeDue (s : State) : State :=
  let f (l : CtlLoops) : CtlLoops := { l with elems := Sparse.mapVals (fun _ => {}) Elem.due l.elems }
  { s with loopA := f s.loopA, loopB := f s.loopB }

/-! ### The commands -/

/-- TAP_CAPTURE (R54). -/
def execTapCapture (s : State) : Host.Outcome State Fault Refusal := .next s.tapCapture
/-- TAP_READING (R147). -/
def execTapReading (t : Fin 10304) (k : TapCodes) (s : State) : Host.Outcome State Fault Refusal :=
  .next (s.tapReading t.val k)
/-- ELEMENT_ITERATION (R76). -/
def execElementIteration (c : Ctl) (e : Fin 4608) (s : State) : Host.Outcome State Fault Refusal :=
  .next (s.elementIteration c e.val)
/-- SELECTOR_ITERATION (R57). -/
def execSelectorIteration (c : Ctl) (l : Fin 48) (s : State) : Host.Outcome State Fault Refusal :=
  .next (s.selectorIteration c l.val)
/-- OVERRUN (R85). -/
def execOverrun (c : Ctl) (p : Fin 52) (s : State) : Host.Outcome State Fault Refusal := .next (s.overrun c p.val)
/-- SPARE_ENGINE_TAKEOVER (R87). -/
def execSpareEngineTakeover (c : Ctl) (l : Fin 48) (s : State) : Host.Outcome State Fault Refusal :=
  .next (s.spareEngineTakeover c l.val)
/-- ACQ_TIMEOUT (R103). -/
def execAcqTimeout (c : Ctl) (e : Fin 5120) (s : State) : Host.Outcome State Fault Refusal :=
  .next (s.acqTimeout c e.val)
/-- COEFF_BANK_WRITE (R80). -/
def execCoeffBankWrite (p : CmdPort) (l : Fin 48) (b : Fin 2) (w : Fin 32) (v : Word) (s : State) :
    Host.Outcome State Fault Refusal :=
  .next (s.access p (coeffReg l b w) 1 fun s => s.writeCoeff p l b w v)
/-- SWAP_REQ: LPE_SWAP_CTRL.REQ (R82). -/
def execSwapReq (p : CmdPort) (v : Word) (s : State) : Host.Outcome State Fault Refusal :=
  .next (s.access p Reg.LPE_SWAP_CTRL 1 fun s => s.writeSwapCtrl p (withBit v 0))
/-- SWAP_CANCEL: LPE_SWAP_CTRL.CANCEL (R83). -/
def execSwapCancel (p : CmdPort) (v : Word) (s : State) : Host.Outcome State Fault Refusal :=
  .next (s.access p Reg.LPE_SWAP_CTRL 1 fun s => s.writeSwapCtrl p (withBit v 1))
/-- COEFF_BANK_SWAP (R81). -/
def execCoeffBankSwap (s : State) : Host.Outcome State Fault Refusal := .next s.coeffBankSwap
/-- TARGET_WRITE (R90). -/
def execTargetWrite (p : CmdPort) (e : Fin 5120) (v : Word) (s : State) : Host.Outcome State Fault Refusal :=
  .next (s.access p (Reg.CEL_TARGET + 0x40 * e) 1 fun s => s.writeTarget p e v)
/-- EXCITATION_WRITE (R60, R61): LPE_EXC, in force from the next sample boundary. -/
def execExcitationWrite (p : CmdPort) (v : Word) (s : State) : Host.Outcome State Fault Refusal :=
  .next (s.access p Reg.LPE_EXC 1 fun s => s.plainWrite p Reg.LPE_EXC v)
/-- MODE_REQUEST: LPE_MODE_REQ.GO (R124). -/
def execModeRequest (p : CmdPort) (v : Word) (s : State) : Host.Outcome State Fault Refusal :=
  .next (s.access p Reg.LPE_MODE_REQ 1 fun s => s.writeModeReq p (withBit v 31))

end Sys2Proof.Machine
end

