-- ==== Sys2Proof/Machine/Drive.lean ====
section
/-! DEFINITION. The drive-and-sense die (04_drive_and_sense.md): slew limiters and their comparison, compliance and
open load, heater range changes, and the ADC units outside loop duty. -/

namespace Sys2Proof.Machine

open Sys2Proof

/-! ### Comparison (R413, R414) -/

/-- R413: the outputs of two controllers are compared: one is ACTIVE, the other STANDBY, or SYNCING in SHADOW (R432). -/
def State.comparing (s : State) : Bool :=
  match s.active? with
  | none => false
  | some c =>
    let o := s.ctlRed (otherCtl c)
    decide (o.state = .standby) || (decide (o.state = .syncing) && decide (s.red.syncPhase = 3))

/-- R413: record a mismatch of an element; kind 0 heater, 1 level code, 2 select. The first of a sample is shown in
RED_LAST_MISMATCH and counts the sample. -/
def State.mismatch (s : State) (e kind : Nat) : State :=
  let r := s.red
  if r.mism.isEmpty then
    let w : Word := BitVec.ofNat 32 (e % 8192 + kind * 8192 + s.loopS.sample % 65536 * 65536)
    (({ s with red := { r with mism := [e], lastMismatch := w, dirty := true } }).bump 0x700020 1).irqIf
      Reg.RED_CTRL 0 4
  else if r.mism.contains e then s
  else { s with red := { r with mism := r.mism ++ [e] } }

/-- The channel of an element with the level codes of both controllers as they are latched (R139, R413). -/
def State.aim (s : State) (e : Nat) : Chan :=
  let x := s.elem s.actCtl e
  let y := if s.comparing then s.elem (otherCtl s.actCtl) e else x
  { s.chan e with tgtBar := x.levBar, tgtCross := x.levCross, sbBar := y.levBar, sbCross := y.levCross }

/-- The drive-and-sense die takes no new code: a gap, the safe state, a photonic shut-down, or no active controller (R420,
R449, R454, R467). -/
def State.codesHeld (s : State) : Bool :=
  s.red.gapEnd.isSome || s.flt.safe || s.flt.outHeld || s.drv.picOff || s.active?.isNone

/-- Move the level DACs to their codes at once (R140). -/
def Chan.jump (c : Chan) : Chan := { c with levBar := c.tgtBar, levCross := c.tgtCross }

/-! ### The slew limiters (R129 to R131) -/

/-- STEP and RATE of a range (R129; 0 is taken as 1). -/
def State.slew (s : State) (range1 : Bool) : Nat × Nat :=
  let w := s.rd (if range1 then Reg.CNV_SLEW_HI else Reg.CNV_SLEW_LO)
  (nz (fld w 19 0), nz (fld w 27 20))

/-- R129: a step of at most STEP codes toward a code. -/
def slewMove (out goal : BitVec 24) (step : Nat) : BitVec 24 :=
  if out.toNat ≤ goal.toNat then BitVec.ofNat 24 (min goal.toNat (out.toNat + step))
  else BitVec.ofNat 24 (max goal.toNat (out.toNat - step))

/-- R129: the count of a limiter after a step to out: at rest the count stays at RATE, whatever RATE is then, which 255
stands for. -/
def slewCount (out goal : BitVec 24) : Nat := if out = goal then 255 else 0

/-- One tick of a limiter: output, count and deferred step after it (R129, R130). -/
def slewTick (out goal : BitVec 24) (count : Nat) (guard : Bool) (step rate : Nat) : BitVec 24 × Nat × Bool :=
  if out = goal then (out, 255, false)
  else if rate ≤ count + 1 then
    if guard then (out, 0, true) else (slewMove out goal step, slewCount (slewMove out goal step) goal, false)
  else (out, count + 1, false)

/-- The code that a channel's limiter moves toward (R129, R136). -/
def Chan.goal (c : Chan) (latest : BitVec 24) : BitVec 24 :=
  match c.phase with
  | .down | .hold => 0
  | .idle | .up => latest

/-- SLEW_STEP: one limiter tick of a channel on the codes of both controllers, and the comparison of the two (R131,
R413, R414; assumption 13). -/
def State.slewStep (s : State) (e : Nat) : State :=
  let c := s.chan e
  let sr := s.slew c.range1
  let a := slewTick c.out (c.goal c.latest) c.count s.drv.inGuard sr.1 sr.2
  let b := slewTick c.outSb (c.goal c.latestSb) c.countSb s.drv.inGuard sr.1 sr.2
  let s1 := s.setChan e { c with out := a.1, count := a.2.1, deferred := c.deferred || a.2.2,
                                 outSb := b.1, countSb := b.2.1, deferredSb := c.deferredSb || b.2.2 }
  if s.comparing && decide (s.rdFld Reg.RED_CTRL 15 8 < ((a.1.toNat : Int) - b.1.toNat).natAbs) then s1.mismatch e 0
  else s1

/-- R27, R130: at t = 64 ns of a guard the steps that were held are taken. -/
def Chan.release (c : Chan) (lo hi : Nat × Nat) : Chan :=
  let st := if c.range1 then hi.1 else lo.1
  let a := slewMove c.out (c.goal c.latest) st
  let b := slewMove c.outSb (c.goal c.latestSb) st
  { c with
    out := if c.deferred then a else c.out
    count := if c.deferred then max c.count (slewCount a (c.goal c.latest)) else c.count
    outSb := if c.deferredSb then b else c.outSb
    countSb := if c.deferredSb then max c.countSb (slewCount b (c.goal c.latestSb)) else c.countSb
    deferred := false
    deferredSb := false }

/-- R127: the current that a channel delivers in pA for the output code in force: FS × code / 2^24, with FS 5 mA in
range 0 and 20 mA in range 1, rounded down to the pA. -/
def Chan.picoamps (c : Chan) : Nat := (if c.range1 then 20000000000 else 5000000000) * c.out.toNat / 16777216

/-! ### Compliance and open load (R132 to R134) -/

/-- COMPLIANCE_SET (R132). While the flag stands, a further report only shows that the detector still reports. -/
def State.complianceSet (s : State) (e : Nat) : State :=
  let c := s.chan e
  let s1 := s.setChan e { c with compliance := true, headroom := true }
  if c.compliance then s1
  else ((s1.bump 0x900040 1).raise (elemCode e) 1).irqIf Reg.CNV_CTRL 0 7

/-- R132: COMPLIANCE at the end of a loop sample. -/
def Chan.sampleEnd (c : Chan) : Chan := { c with compliance := c.compliance && c.headroom, headroom := false }

/-- R133: the comparison of sensed and requested current runs. -/
def Chan.openCheck (c : Chan) : Bool := decide (0x100000 ≤ c.out.toNat) && decide (c.phase = .idle)

/-- OPENLOAD_SET (R133). -/
def State.openloadSet (s : State) (e : Nat) : State :=
  let c := s.chan e
  if c.openCheck && !c.openload then
    (((s.setChan e { c with openload := true }).bump 0x900044 1).raise (elemCode e) 1).irqIf Reg.CNV_CTRL 1 7
  else s

/-- OPENLOAD_CLEAR (R133). -/
def State.openloadClear (s : State) (e : Nat) : State :=
  let c := s.chan e
  if c.openCheck then s.setChan e { c with openload := false } else s

/-! ### Range change (R135 to R138) -/

/-- A write of CNV_RANGE_REQ: GO waits for the next sample boundary; with an element above 5,119 it is ineffective. -/
def State.writeRangeReq (s : State) (p : CmdPort) (v : Word) : State :=
  let s1 := s.plainWrite p Reg.CNV_RANGE_REQ v
  if bit v 31 && s1.drv.rangeReq.isNone then
    if h : fld v 12 0 < 5120 then
      { s1 with drv := { s1.drv with rangeReq := some (⟨fld v 12 0, h⟩, bit v 16) } }
    else s1
  else s1

/-- R135: a code or LIN entry is too large for range 0. -/
def State.tooLarge (s : State) (e : Nat) : Bool :=
  decide (0x3FFFFF < (s.elem s.actCtl e).heater.toNat) ||
  (s.calElem e).linUse.any fun x => decide (0x3FFFFF < x)

/-- The refusal bits of a range request (R135). A request for the range in force is refused first where the element is
parked or busy (DESIGN CHOICE, assumption 116). -/
def State.rangeRefusals (s : State) (e : Nat) (r : Bool) : List Nat :=
  let c := s.chan e
  (if s.isParked e then [29] else []) ++ (if c.phase ≠ .idle then [28] else []) ++
  (if c.range1 && !r && s.tooLarge e then [30] else [])

/-- A range change begins; at once where the channel is UNWRITTEN (R136, R138). -/
def State.beginRange (s : State) (e : Nat) (r : Bool) : State :=
  let c := s.chan e
  if c.range1 = r then s
  else if c.unwritten then s.setChan e { c with range1 := r }
  else s.setChan e { c with phase := .down }

/-- The pending range request at a sample boundary (R135, R138); a refused one sets every refusal bit that applies
(R628). -/
def State.applyRangeReq (s : State) : State :=
  match s.drv.rangeReq with
  | none => s
  | some (e, r) =>
    let s1 := { s with drv := { s.drv with rangeReq := none } }
    match s1.rangeRefusals e.val r with
    | [] => s1.beginRange e.val r
    | bs => bs.foldl (fun t b => t.wrBit Reg.CNV_RANGE_REQ b true) s1

/-- R136: a value in the other range, to the same current. -/
def rescale (toRange1 : Bool) (x : Int) : Int := if toRange1 then divNear x 4 else 4 * x

/-- R136: HEATER and the integrators of one controller at the range switch. -/
def Elem.rescale (x : Elem) (toRange1 : Bool) (limit : Int) : Elem :=
  let f (i : Int) : Int := if toRange1 then divNear i 4 else clampI (-limit) limit (4 * i)
  { x with heater := BitVec.ofInt 24 (clampI 0 16777215 (Machine.rescale toRange1 (x.heater.toNat : Int)))
           intBar := f x.intBar, intCross := f x.intCross }

/-- RANGE_SWITCH (R136): the ramp down has reached 0; both controllers rescale, and the output holds at 0. -/
def State.rangeSwitch (s : State) (e : Nat) : State :=
  let c := s.chan e
  if c.phase = .down ∧ c.out = 0 then
    let up := !c.range1
    let lim : Int := ((s.coeffs (s.engineOf e).1 s.loopS.activeBank).intLimit * 256 : Nat)
    let s1 := s.modElem e fun x => x.rescale up lim
    let ce := s1.calElem e
    let s2 := s1.setCalElem e { ce with linUse := ce.linUse.map fun x => (rescale up (x : Int)).toNat }
    let ac := s2.actCtl
    let off := s2.drv.picOff
    s2.setChan e { c with phase := .hold, latest := if off then 0 else (s2.elem ac e).heater,
                          latestSb := if off then 0 else (s2.elem (otherCtl ac) e).heater }
  else s

/-- RANGE_RAMP_BACK (R136): the hold ends with the new range in force. -/
def State.rangeRampBack (s : State) (e : Nat) : State :=
  let c := s.chan e
  if c.phase = .hold then s.setChan e { c with phase := .up, range1 := !c.range1 } else s

/-- R182: a LIN in range-0 code units as the range in force has it. -/
def linInRange (range1 : Bool) (lin : List Nat) : List Nat :=
  if range1 then lin.map fun x => (divNear (x : Int) 4).toNat else lin

/-- RANGE_CHANGE_END (R137): the ramp back has reached the code; STALE clears at the second following sample boundary,
and a LIN that waited is taken into use (R182). -/
def State.rangeChangeEnd (s : State) (e : Nat) : State :=
  let c := s.chan e
  if c.phase = .up ∧ c.out = c.latest then
    let s1 := s.setChan e { c with phase := .idle, staleLeft := 2 }
    let ce := s1.calElem e
    if ce.linPend then s1.setCalElem e { ce with linUse := linInRange c.range1 ce.lin, linPend := false } else s1
  else s

/-! ### ADC units (R151 to R161) -/

/-- R159: the corrections of a slice stay in range: offset in codes, gain in hundredths of a percent, skew in ps. -/
def sliceGood (o g k : Int) : Bool := decide (o.natAbs ≤ 256 ∧ g.natAbs ≤ 500 ∧ k.natAbs ≤ 20)

/-- R154: the corrections of slice i may change now: at the end of a conversion window, and every 65,536 conversions in
direct or Loupe duty. -/
def State.sliceDue (s : State) (u : Nat) (i : Fin 4) : Bool :=
  let a := s.au u
  if a.cfg.direct || a.lent then decide (65536 ≤ a.convs[i]) else !s.converting u

/-- SLICE_CORRECTION (R154), less the failure of R159. -/
def State.sliceCorrection (s : State) (u : Nat) (i : Fin 4) (o g k : Int) : State :=
  let a := s.au u
  let m : BitVec 4 := BitVec.ofNat 4 (2 ^ i.val)
  s.setAu u { a with slices := a.slices.set i.val (o, g, k),
                     convs := a.convs.set i.val 0,
                     sliceOk := if sliceGood o g k then a.sliceOk ||| m else a.sliceOk &&& ~~~m }

/-- The conversions of a unit since the corrections of its slices rise by n (R154). -/
def AdcUnit.ran (a : AdcUnit) (n : Nat) : AdcUnit := { a with convs := a.convs.map fun k => k + n }

/-- FILT_LEN in conversions. -/
def filtLen (f : Fin 8) : Nat :=
  match f with
  | 0 => 1
  | 1 => 16
  | 2 => 64
  | 3 => 256
  | 4 => 1024
  | _ => 4096

/-- R144: an input of a unit that reads code 0. -/
def zeroInput (u input : Nat) : Bool := decide (107 ≤ input ∧ input ≤ 111) || (decide (4 ≤ u) && decide (input = 103))

/-- The code of a direct result (R144, R145): a result of one conversion with OVR set is all ones or 0. -/
def directCode (u : Nat) (cfg : AuCfg) (code : BitVec 14) (ovrs : Nat) : Nat :=
  if zeroInput u cfg.input.toNat then 0
  else if ovrs ≠ 0 ∧ filtLen cfg.filt = 1 then ovrCode code
  else code.toNat

/-- DIRECT_RESULT (R155, R156): a filtered result of a unit in direct mode, with its tag (R151 to R153) and the number of
its conversions that had OVR set (R150). -/
def State.directResult (s : State) (u : Nat) (code : BitVec 14) (ovrs : Nat) : State :=
  let a := s.au u
  if a.cfg.direct then
    let len := filtLen a.cfg.filt
    let n := if zeroInput u a.cfg.input.toNat then 0 else min ovrs len
    let ovr := decide (n ≠ 0)
    let reason : Nat := if 0 < a.settle then a.settleWhy.val else if ovr then 7 else if a.recovery ≠ 0 then 4 else 0
    let w := directCode u a.cfg code n + b2n ovr * 16384 + (if reason = 0 then 32768 else 0) + reason * 65536 +
      a.cfg.input.toNat * 524288
    let b := { a with data := BitVec.ofNat 31 w, isNew := true, settle := a.settle - len }
    let s1 := s.setAu u ((b.afterReading ovr).ran len)
    let s2 := if a.isNew then s1.wrBit (Reg.CNV_AU_STATUS + 4 * u) 7 true else s1
    s2.bump 0x900048 n
  else s

/-- The configuration that a word of CNV_AU_CFG names. -/
def auCfgOf (v : Word) : AuCfg :=
  { direct := decide (fld v 1 0 = 1), lp := bit v 2, gain := Fin.ofNat 4 (fld v 4 3), filt := Fin.ofNat 8 (fld v 7 5),
    input := BitVec.ofNat 7 (fld v 14 8) }

/-- R152: the invalid conversions after a change of configuration, and their cause: the largest of those that apply. -/
def settleOf (old new : AuCfg) : Nat × Fin 8 :=
  let entry := new.direct && !old.direct
  let ch := if entry || decide (old.input ≠ new.input) then 3 else 0
  let g := if decide ((if old.direct then old.gain else 0) ≠ new.gain) then 8 else 0
  let f := if entry || decide (filtLen old.filt ≠ filtLen new.filt) then filtLen new.filt else 0
  if g ≤ ch ∧ f ≤ ch then (ch, 1) else if f ≤ g then (g, 2) else (f, 3)

/-- R152: the invalid conversions left after a further change: the larger of those left and those of the change. -/
def AdcUnit.settled (a : AdcUnit) (c : AuCfg) : Nat × Fin 8 :=
  if c.direct then
    let st := settleOf a.cfg c
    if a.cfg.direct ∧ st.1 < a.settle then (a.settle, a.settleWhy) else st
  else (0, 0)

/-- Put a configuration in force (R157). -/
def State.applyAuCfg (s : State) (u : Nat) (c : AuCfg) : State :=
  let a := s.au u
  let st := a.settled c
  s.setAu u { a with cfg := c, waiting := none, settle := st.1, settleWhy := st.2,
                     convs := if a.cfg.direct = c.direct then a.convs else Vector.replicate 4 0,
                     loopNext := a.loopNext || (a.cfg.direct && !c.direct) }

/-- R157, R160: a write of CNV_AU_CFG that is refused. -/
def State.auCfgRefused (s : State) (u : Nat) (v : Word) : Bool :=
  decide (2 ≤ fld v 1 0) || (bit v 2 && decide (fld v 1 0 = 0)) ||
  (decide (fld v 1 0 = 1) && (s.au (partner u)).failed && !(s.au u).failed)

/-- A write of CNV_AU_CFG (R157). -/
def State.writeAuCfg (s : State) (p : CmdPort) (u : Nat) (v : Word) : State :=
  if s.auCfgRefused u v then s.wrBit (Reg.CNV_AU_STATUS + 4 * u) 8 true
  else
    let s1 := s.plainWrite p (Reg.CNV_AU_CFG + 4 * u) v
    if s1.converting u then s1.setAu u { s1.au u with waiting := some (auCfgOf v) }
    else s1.applyAuCfg u (auCfgOf v)

/-- AU_CONFIG_APPLY (R157): the conversion window ends and the waiting configuration takes effect. -/
def State.auConfigApply (s : State) (u : Nat) : State :=
  match (s.au u).waiting with
  | some c => if s.converting u then s else s.applyAuCfg u c
  | none => s

/-- What CNV_ADC_DATA[u] reads as. -/
def State.adcDataWord (s : State) (u : Nat) : Word :=
  let a := s.au u
  BitVec.ofNat 32 (a.data.toNat + b2n a.isNew * 2147483648)

/-- A read of CNV_ADC_DATA[u]: the held result, and NEW clears (R156). -/
def State.readAdcData (s : State) (p : CmdPort) (u : Nat) : State :=
  (s.setRd p (s.adcDataWord u)).setAu u { s.au u with isNew := false }

/-- AU_FAILED (R159 to R161), less what it does to a Loupe unit: the unit fails, is recorded in the repair map and
raises its lasting fault; with its partner failed before, the pair raises one too. A lending ends at once (R160). -/
def State.auFail (s : State) (u : Nat) : State :=
  let a := s.au u
  if a.failed then s
  else
    let s1 := s.setAu u { a with failed := true, lent := false }
    let b := s1.au (partner u)
    let s2 := s1.setAu (partner u) { b with lent := false, loopNext := b.loopNext || b.lent }
    let s3 := { s2 with adc := { s2.adc with
      map := s2.adc.map ++ [u]
      fresh := if h : u < 100 then s2.adc.fresh ++ [(⟨u, h⟩ : Fin 100)] else s2.adc.fresh } }
    let s4 := (s3.raise (faultCode fbAdc u) 2).irqIf Reg.CNV_CTRL 2 7
    if b.failed then s4.raise (faultCode fbAdc (128 + u / 2)) 2 else s4

/-! ### The commands -/

/-- COMPLIANCE_SET (R132). -/
def execComplianceSet (e : Fin 5120) (s : State) : Host.Outcome State Fault Refusal := .next (s.complianceSet e.val)
/-- OPENLOAD_SET (R133). -/
def execOpenloadSet (e : Fin 5120) (s : State) : Host.Outcome State Fault Refusal := .next (s.openloadSet e.val)
/-- OPENLOAD_CLEAR (R133). -/
def execOpenloadClear (e : Fin 5120) (s : State) : Host.Outcome State Fault Refusal := .next (s.openloadClear e.val)
/-- RANGE_REQUEST: CNV_RANGE_REQ.GO (R135). -/
def execRangeRequest (p : CmdPort) (v : Word) (s : State) : Host.Outcome State Fault Refusal :=
  .next (s.access p Reg.CNV_RANGE_REQ 1 fun s => s.writeRangeReq p (withBit v 31))
/-- RANGE_SWITCH (R136). -/
def execRangeSwitch (e : Fin 5120) (s : State) : Host.Outcome State Fault Refusal := .next (s.rangeSwitch e.val)
/-- RANGE_RAMP_BACK (R136). -/
def execRangeRampBack (e : Fin 5120) (s : State) : Host.Outcome State Fault Refusal := .next (s.rangeRampBack e.val)
/-- RANGE_CHANGE_END (R137). -/
def execRangeChangeEnd (e : Fin 5120) (s : State) : Host.Outcome State Fault Refusal := .next (s.rangeChangeEnd e.val)
/-- DIRECT_RESULT (R155). -/
def execDirectResult (u : Fin 100) (code : BitVec 14) (ovrs : Nat) (s : State) : Host.Outcome State Fault Refusal :=
  .next (s.directResult u.val code ovrs)
/-- AU_CONFIG_WRITE (R157). -/
def execAuConfigWrite (p : CmdPort) (u : Fin 100) (v : Word) (s : State) : Host.Outcome State Fault Refusal :=
  .next (s.access p (Reg.CNV_AU_CFG + 4 * u) 1 fun s => s.writeAuCfg p u v)
/-- AU_CONFIG_APPLY (R157). -/
def execAuConfigApply (u : Fin 100) (s : State) : Host.Outcome State Fault Refusal := .next (s.auConfigApply u.val)
/-- ADC_DATA_READ (R156). -/
def execAdcDataRead (p : CmdPort) (u : Fin 100) (s : State) : Host.Outcome State Fault Refusal :=
  .next (s.accessRead p (0x900C00 + 4 * u) fun s => s.readAdcData p u)

end Sys2Proof.Machine
end

