-- ==== Sys2Proof/Machine/TimeUnit.lean ====
section
/-! DEFINITION. The time unit (12_time_and_synchronization.md): timescales (R366 to R370), device time (R371 to R373), the
capture FIFO (R377 to R379) and the reads that latch (R382). -/

namespace Sys2Proof.Machine

open Sys2Proof

/-- R367: the rate adjustment of timescale x, clamped. -/
def State.adjOf (s : State) (x : Nat) : Int := clampI (-536870) 536870 (sgn (s.rd (timReg x 0x10)))

/-- R366: what a tick adds to timescale x, in 2^-32 ns. -/
def State.tickInc (s : State) (x : Nat) : Int := 5368709120 + s.adjOf x

/-- TIM_CTRL.SEL. -/
def State.timeSel (s : State) : Nat := s.rdFld Reg.TIM_CTRL 0 0

/-- Timescale x. -/
def TimSt.scale (t : TimSt) (x : Nat) : Clock := if x = 0 then t.a else t.b

/-- A distance between two clocks in 2^-32 ns, as a signed number. -/
def clockDist (a b : Clock) : Int :=
  let d := ((a.units : Int) - b.units) % (clockMod : Int)
  if (clockMod : Int) ≤ 2 * d then d - clockMod else d

/-- Δ: the selected timescale less device time (R371). -/
def State.delta (s : State) : Int := clockDist (s.tim.scale s.timeSel) s.tim.dt

/-- SLEW_PPM. -/
def State.slewPpm (s : State) : Nat := clampN 1 10 (s.rdFld Reg.TIM_CTRL 7 4)

/-- A LOAD sets a timescale; a STEP is added to it (R368). -/
def Clock.take (c : Clock) : TimCmd → Clock
  | .load sec ns => { sec := sec, ns := ns, frac := 0 }
  | .step d => c.add (d.toInt * 4294967296)

/-- A timescale at a tick: it advances (R366), and the commands accepted since the last tick take effect in their order. -/
def Clock.tick (c : Clock) (inc : Int) (todo : List TimCmd) : Clock := todo.foldl Clock.take (c.add inc)

/-- The clocks as they stand. -/
def TimSt.now (t : TimSt) : TimeMark := { dt := t.dt, a := t.a, b := t.b }

/-- The clocks at the tick n ticks before the latest; beyond what is kept, the oldest. -/
def TimSt.ago (t : TimSt) (n : Nat) : TimeMark := ((t.now :: t.hist).take (n + 1)).getLastD t.now

/-- The clocks of a tick go into the record of the longest frame (16,383 bytes at 100 Gb/s last 1,049 ticks). -/
def TimSt.remember (t : TimSt) : List TimeMark := (t.now :: t.hist).take 2048

/-- R371: what device time gains at a tick over the selected timescale's increment. -/
def State.slewGain (s : State) : Int :=
  if s.tim.mode = .slewing then
    let d := s.delta
    sgnI d * min (5368 * s.slewPpm : Nat) d.natAbs
  else 0

/-- TIMESCALE_TICK (R366, R371): one tick of the 800 MHz clock while the time unit has power. -/
def State.tick (s : State) : State :=
  if s.domOn 62 then
    let t := s.tim
    let a := t.a.tick (s.tickInc 0) t.todoA
    let b := t.b.tick (s.tickInc 1) t.todoB
    let inc := s.tickInc s.timeSel
    let gain := s.slewGain
    let sel := if s.timeSel = 0 then a else b
    let dt := if s.slt.running then t.dt.add (inc + gain) else sel
    let mode : DtState :=
      if !s.slt.running then .follow
      else if t.mode = .slewing then .slewing
      else if clockDist sel dt = 0 then .locked else .slewing
    ({ s with tim := { t with
        a := a, b := b, dt := dt, mode := mode, todoA := [], todoB := [], hist := t.remember, phase := 0
        ticks := t.ticks + 1, incDt := (inc + gain).toNat } }.wr (timReg 0 0x24)
      (s.rd (timReg 0 0x24) &&& 0xFFFFFFFC)).wr (timReg 1 0x24) (s.rd (timReg 1 0x24) &&& 0xFFFFFFFC)
  else s

/-- SLEW_DONE (R371): Δ has reached 0. -/
def State.slewDone (s : State) : State :=
  if s.tim.mode = .slewing ∧ s.delta = 0 then
    ({ s with tim := { s.tim with mode := .locked } }).irqIf Reg.TIM_CTRL 8 9
  else s

/-- R371, R373: a change of SEL or of a timescale in LOCKED begins a slew where Δ is not 0. -/
def State.retarget (s : State) : State :=
  if s.tim.mode = .locked ∧ s.delta ≠ 0 then { s with tim := { s.tim with mode := .slewing } } else s

/-- A write of TIM_CTRL. -/
def State.writeTimCtrl (s : State) (p : CmdPort) (v : Word) : State := (s.plainWrite p Reg.TIM_CTRL v).retarget

/-- A command of timescale x waits for the next tick. -/
def TimSt.await (t : TimSt) (x : Nat) (c : TimCmd) : TimSt :=
  if x = 0 then { t with todoA := t.todoA ++ [c] } else { t with todoB := t.todoB ++ [c] }

/-- Accept a LOAD for timescale x (R368, R369). -/
def State.acceptLoad (s : State) (x : Nat) : State :=
  let a := timReg x 0x24
  let ns := s.rdFld (timReg x 0x1C) 29 0
  if 1000000000 ≤ ns ∨ (s.timeSel = x ∧ s.slt.running = true) then s.wrBit a 8 true
  else
    let sec := (s.rd (timReg x 0x14)).toNat + s.rdFld (timReg x 0x18) 15 0 * 4294967296
    ({ s with tim := s.tim.await x (.load (BitVec.ofNat 48 sec) (BitVec.ofNat 30 ns)) }).wrBit a 0 true

/-- Accept a STEP for timescale x (R368). -/
def State.acceptStep (s : State) (x : Nat) : State :=
  ({ s with tim := s.tim.await x (.step (s.rd (timReg x 0x20))) }).wrBit (timReg x 0x24) 1 true

/-- A write of TIM_CMD of timescale x. -/
def State.writeTimCmd (s : State) (p : CmdPort) (x : Nat) (v : Word) : State :=
  let s1 := s.plainWrite p (timReg x 0x24) v
  let s2 := if bit v 0 then s1.acceptLoad x else s1
  if bit v 1 then s2.acceptStep x else s2

/-! ### The capture FIFO (R377 to R379) -/

/-- What a recognised PTP event message shows. -/
structure PtpMsg where
  kind : Nat
  domain : Nat
  seqId : Nat
  deriving DecidableEq, Repr

/-- R378: an entry goes before those of its port with a later time-stamp. -/
def insertCap (e : CapEntry) (l : List CapEntry) : List CapEntry :=
  let later (x : CapEntry) : Bool := decide (x.port = e.port ∧ e.ts < x.ts)
  l.takeWhile (fun x => !later x) ++ e :: l.dropWhile fun x => !later x

/-- An entry of the capture FIFO, or its loss (R379). -/
def State.pushFifo (s : State) (e : CapEntry) : State :=
  if 1024 ≤ s.tim.fifo.length then (s.bump 0x500210 1).wrBit Reg.TIM_STATUS 27 true
  else ({ s with tim := { s.tim with fifo := insertCap e s.tim.fifo } }).irqIf Reg.TIM_CTRL 9 9

/-- Timescale x at a tick. -/
def TimeMark.scale (m : TimeMark) (x : Nat) : Clock := if x = 0 then m.a else m.b

/-- R274, R376: a raw port time-stamp in 1/64 ns of device time: that of the tick n ticks ago, and f/64 ns. -/
def State.rawStamp (s : State) (n f : Nat) : Int := ((s.tim.ago n).dt.units / 67108864 + f : Nat)

/-- R377: the entry of timescale x for a time-stamp of device time in 1/64 ns, whose tick lay n ticks ago. -/
def State.captureOne (s : State) (k : Nat) (sent : Bool) (m : PtpMsg) (ts : Int) (n x : Nat) : State :=
  let w := s.rd (timReg x 0x28)
  if bit w 8 && decide (fld w 7 0 = m.domain) then
    let c := s.tim.ago n
    let u := ((ts * 67108864 + clockDist (c.scale x) c.dt) % (clockMod : Int)).toNat
    s.pushFifo
      { port := k
        ts := ts
        data0 := BitVec.ofNat 32 (k + b2n sent * 512 + x * 1024 + m.kind * 2048 + m.domain * 32768)
        data1 := BitVec.ofNat 32 (u / 4294967296)
        data2 := BitVec.ofNat 32 (m.seqId + u % 4294967296 / 65536 * 65536) }
  else s

/-- R377, R378: capture a message on port k for both timescales, A's entry first. -/
def State.capture (s : State) (k : Nat) (sent : Bool) (m : PtpMsg) (ts : Int) (n : Nat) : State :=
  if s.rdBit (Reg.TIM_CAP_PORTS + 4 * (k / 32)) (k % 32) then
    (s.captureOne k sent m ts n 0).captureOne k sent m ts n 1
  else s

/-- A read of TIM_FIFO_DATA0: what it returns, and the state after it. -/
def State.readFifo (s : State) (p : CmdPort) : State :=
  match s.tim.fifo with
  | [] => s.setRd p 0
  | e :: t =>
    ({ s with tim := { s.tim with fifo := t, data1 := e.data1, data2 := e.data2 } }).setRd p (setBit e.data0 31 true)

/-- Seconds [31:0] of a clock. -/
def Clock.secLo (c : Clock) : Word := c.sec.setWidth 32

/-- R382: a read of a SEC_LO register latches the rest of its clock. -/
def State.readSecLo (s : State) (p : CmdPort) (k : TimClock) : State :=
  match k with
  | .device => ({ s with tim := { s.tim with latchDt := s.tim.dt } }).setRd p s.tim.dt.secLo
  | .a => ({ s with tim := { s.tim with latchA := s.tim.a } }).setRd p s.tim.a.secLo
  | .b => ({ s with tim := { s.tim with latchB := s.tim.b } }).setRd p s.tim.b.secLo

/-- The offset of a clock's SEC_LO register. -/
def secLoAddr : TimClock → Nat
  | .device => 0x500010
  | .a => 0x500100
  | .b => 0x500140

/-! ### The commands -/

/-- TIMESCALE_TICK (R366). -/
def execTimescaleTick (s : State) : Host.Outcome State Fault Refusal := .next s.tick
/-- ADJ_WRITE (R367): in force from the next tick. -/
def execAdjWrite (p : CmdPort) (x : Fin 2) (v : Word) (s : State) : Host.Outcome State Fault Refusal :=
  .next (s.access p (timReg x.val 0x10) 1 fun s => s.plainWrite p (timReg x.val 0x10) v)
/-- LOAD: TIM_CMD.LOAD (R368, R369). -/
def execTsLoad (p : CmdPort) (x : Fin 2) (v : Word) (s : State) : Host.Outcome State Fault Refusal :=
  .next (s.access p (timReg x.val 0x24) 1 fun s => s.writeTimCmd p x.val (withBit v 0))
/-- STEP: TIM_CMD.STEP (R368). -/
def execTsStep (p : CmdPort) (x : Fin 2) (v : Word) (s : State) : Host.Outcome State Fault Refusal :=
  .next (s.access p (timReg x.val 0x24) 1 fun s => s.writeTimCmd p x.val (withBit v 1))
/-- SEL_WRITE: a write of TIM_CTRL (R371). -/
def execSelWrite (p : CmdPort) (v : Word) (s : State) : Host.Outcome State Fault Refusal :=
  .next (s.access p Reg.TIM_CTRL 1 fun s => s.writeTimCtrl p v)
/-- SLEW_DONE (R371). -/
def execSlewDone (s : State) : Host.Outcome State Fault Refusal := .next s.slewDone
/-- TIME_READ_LATCH (R382). -/
def execTimeReadLatch (p : CmdPort) (k : TimClock) (s : State) : Host.Outcome State Fault Refusal :=
  .next (s.accessRead p (secLoAddr k) fun s => s.readSecLo p k)
/-- FIFO_READ (R379). -/
def execFifoRead (p : CmdPort) (s : State) : Host.Outcome State Fault Refusal :=
  .next (s.accessRead p 0x500200 fun s => s.readFifo p)

end Sys2Proof.Machine
end

