-- ==== Sys2Proof/Machine/Router.lean ====
section
/-! DEFINITION. The matrix router (R28 to R31, R629, R37): the looping algorithm on S0 to S16 with parked elements as
fixed BAR elements, the ascending and the released completion of a partial permutation, the attempts over S17, and
the removal of pairs from a permutation that does not route. -/

namespace Sys2Proof.Machine

open Sys2Proof

/-! ### One (sub)network -/

/-- A (sub)network of the looping algorithm: for each input line its output line (none: a free end), for each output
line its input line, and the ingress port of each input line. -/
structure SubNet where
  tgt : Array (Option Nat)
  src : Array (Option Nat)
  ing : Array Nat

/-- A place that a loop or chain meets: on the input or the output side, and the line of the element there that goes
the way of the start line. -/
structure Visit where
  input : Bool
  line : Nat

/-- The other line of an element. -/
def pairLine (x : Nat) : Nat := if x % 2 = 0 then x + 1 else x - 1

/-- R629: the walk from an input line that goes the way of the start line, without its own element; the Bool says that
it came back to the start line. -/
def walkFwd (n : SubNet) (start : Nat) : Nat → Nat → List Visit × Bool
  | 0, _ => ([], false)
  | f + 1, x =>
    match n.tgt.getD x none with
    | none => ([], false)
    | some y =>
      match n.src.getD (pairLine y) none with
      | none => ([⟨false, y⟩], false)
      | some a =>
        let x' := pairLine a
        if x' = start then ([⟨false, y⟩], true)
        else
          let r := walkFwd n start f x'
          (⟨false, y⟩ :: ⟨true, x'⟩ :: r.1, r.2)

/-- R629: the walk in the other direction, from an input line that goes the other way. -/
def walkBack (n : SubNet) : Nat → Nat → List Visit
  | 0, _ => []
  | f + 1, x =>
    match n.tgt.getD x none with
    | none => []
    | some y =>
      match n.src.getD (pairLine y) none with
      | none => [⟨false, pairLine y⟩]
      | some a => ⟨false, pairLine y⟩ :: ⟨true, a⟩ :: walkBack n f (pairLine a)

/-- The loop or chain of a start line, in walk order. -/
def walkOf (n : SubNet) (size start : Nat) : List Visit :=
  let r := walkFwd n start size start
  ⟨true, start⟩ :: (if r.2 then r.1 else r.1 ++ walkBack n size (pairLine start))

/-- Where the stages of a (sub)network stand: input stage, output stage, and the row of its first element. -/
structure NetPos where
  sIn : Nat
  sOut : Nat
  row : Nat

/-- The element that a visit meets. -/
def Visit.elem (v : Visit) (p : NetPos) : Nat := 256 * (if v.input then p.sIn else p.sOut) + p.row + v.line / 2

/-- The ingress ports of the pairs through the element of a visit. -/
def Visit.ports (v : Visit) (n : SubNet) : List Nat :=
  let ls := [v.line, pairLine v.line]
  if v.input then ls.map fun x => n.ing.getD x 0
  else ls.filterMap fun y => (n.src.getD y none).map fun a => n.ing.getD a 0

/-- A failed loop: the ingress ports of its lines, and of the lines through an element against its orientation. -/
structure FailedLoop where
  loop : List Nat
  against : List Nat

/-- R629: the orientation of a loop (the sub-network of its start line), or its failure. -/
def orient (parked : BitVec 4608) (p : NetPos) (n : SubNet) (w : List Visit) : Except FailedLoop Nat :=
  let fixed := w.filter fun v => parked.getLsbD (v.elem p)
  let o := match fixed with
    | [] => 0
    | v :: _ => v.line % 2
  let bad := fixed.filter fun v => decide (v.line % 2 ≠ o)
  if bad.isEmpty then .ok o
  else .error { loop := (w.filter fun v => v.input).flatMap fun v => v.ports n
                against := bad.flatMap fun v => v.ports n }

/-- The sub-network of each line as it is assigned: input lines and output lines. -/
structure Colours where
  inp : Array (Option Nat)
  out : Array (Option Nat)

/-- Assign the lines of a loop. -/
def Colours.assign (c : Colours) (o : Nat) (w : List Visit) : Colours :=
  w.foldl (fun c v =>
    if v.input then { c with inp := (c.inp.setIfInBounds v.line (some o)).setIfInBounds (pairLine v.line) (some (1 - o)) }
    else { c with out := (c.out.setIfInBounds v.line (some o)).setIfInBounds (pairLine v.line) (some (1 - o)) }) c

/-- The loops and chains of a (sub)network in the order of their start lines. -/
def colourLoops (parked : BitVec 4608) (p : NetPos) (n : SubNet) (size : Nat) :
    List Nat → Colours → Except FailedLoop Colours
  | [], c => .ok c
  | x :: t, c =>
    match c.inp.getD x none with
    | some _ => colourLoops parked p n size t c
    | none =>
      let w := walkOf n size x
      match orient parked p n w with
      | .error e => .error e
      | .ok o => colourLoops parked p n size t (c.assign o w)

/-- The sub-network that a colour selects. -/
def SubNet.part (n : SubNet) (c : Colours) (size colour : Nat) : SubNet :=
  let pick (a : Array (Option Nat)) (i : Nat) : Nat :=
    if a.getD (2 * i) none = some colour then 2 * i
    else if a.getD (2 * i + 1) none = some colour then 2 * i + 1
    else 2 * i + colour
  let h := size / 2
  { tgt := (Array.range h).map fun i => (n.tgt.getD (pick c.inp i) none).map fun y => y / 2
    src := (Array.range h).map fun j => (n.src.getD (pick c.out j) none).map fun x => x / 2
    ing := (Array.range h).map fun i => n.ing.getD (pick c.inp i) 0 }

/-- The CROSS elements of a stage of a (sub)network: the upper line goes to or comes from the upper-numbered half. -/
def crossOf (a : Array (Option Nat)) (stage row h : Nat) : List Nat :=
  (List.range h).filterMap fun i => if a.getD (2 * i) none = some 1 then some (256 * stage + row + i) else none

/-- R629: route a (sub)network with k levels below it; the CROSS elements, or the failed loop. -/
def looping (parked : BitVec 4608) : Nat → Nat → SubNet → Except FailedLoop (List Nat)
  | 0, base, n =>
    let e := 256 * 8 + base / 2
    let cross := decide (n.tgt.getD 0 none = some 1) || decide (n.tgt.getD 1 none = some 0)
    if cross && parked.getLsbD e then .error { loop := n.ing.toList, against := n.ing.toList }
    else .ok (if cross then [e] else [])
  | k + 1, base, n =>
    let size := 2 ^ (k + 2)
    let p : NetPos := { sIn := 7 - k, sOut := 9 + k, row := base / 2 }
    let c0 : Colours := { inp := Array.replicate size none, out := Array.replicate size none }
    match colourLoops parked p n size ((List.range (size / 2)).map fun i => 2 * i) c0 with
    | .error e => .error e
    | .ok c =>
      match looping parked k base (n.part c size 0) with
      | .error e => .error e
      | .ok a =>
        match looping parked k (base + size / 2) (n.part c size 1) with
        | .error e => .error e
        | .ok b => .ok (crossOf c.inp p.sIn p.row (size / 2) ++ crossOf c.out p.sOut p.row (size / 2) ++ a ++ b)

/-! ### A permutation -/

/-- The S16 line that reaches an egress port under a setting of S17 (R22, R30). -/
def s16Line (sigma : List Nat) (j : Nat) : Nat :=
  if sigma.contains (j % 256) then (if j < 256 then j + 256 else j - 256) else j

/-- The whole network for a list of pairs under a setting of S17. -/
def netOf (ps : List Pair) (sigma : List Nat) : SubNet :=
  let n0 : Array (Option Nat) := Array.replicate 512 none
  { tgt := ps.foldl (fun a q => a.setIfInBounds q.1 (some (s16Line sigma q.2))) n0
    src := ps.foldl (fun a q => a.setIfInBounds (s16Line sigma q.2) (some q.1)) n0
    ing := Array.range 512 }

/-- R30: the ascending completion of a partial permutation. -/
def completion (ps : List Pair) : List Pair :=
  let ins := (List.range 512).filter fun k => ps.all fun q => decide (q.1 ≠ k)
  let outs := (List.range 512).filter fun j => ps.all fun q => decide (q.2 ≠ j)
  ins.zip outs

/-- Element states as bits, from the CROSS elements. -/
def statesOf (cross : List Nat) : BitVec 4608 := cross.foldl (fun b e => b ||| BitVec.ofNat 4608 (2 ^ e)) 0

/-- The line on which light of an input line of stage s leaves S16, for the stages that are left. -/
def traceFrom (st : BitVec 4608) : Nat → Nat → Nat → Nat
  | 0, _, x => x
  | f + 1, s, x =>
    let y := if st.getLsbD (256 * s + x / 2) then pairLine x else x
    if s = 16 then y else traceFrom st f (s + 1) (stageLink s y)

/-- The egress port that element states connect to an ingress port (R21, R22). -/
def connects (st : BitVec 4608) (k : Nat) : Nat :=
  let y := traceFrom st 17 0 k
  if st.getLsbD (256 * 17 + y % 256) then (if y < 256 then y + 256 else y - 256) else y

/-- The S17 elements that are CROSS, as element indices. -/
def s17Elems (sigma : List Nat) : List Nat := sigma.map fun r => 256 * 17 + r

/-- A permutation that routes: states and completion pairs. -/
structure RouteOk where
  states : BitVec 4608
  completion : List Pair

/-- R30: one attempt under a setting of S17: the ascending completion, then the released one. -/
def attempt (parked : BitVec 4608) (ps : List Pair) (sigma : List Nat) : Except FailedLoop RouteOk :=
  let comp := completion ps
  match looping parked 8 0 (netOf (ps ++ comp) sigma) with
  | .ok c => .ok { states := statesOf (c ++ s17Elems sigma), completion := comp }
  | .error _ =>
    match looping parked 8 0 (netOf ps sigma) with
    | .ok c =>
      let st := statesOf (c ++ s17Elems sigma)
      .ok { states := st, completion := comp.map fun q => (q.1, connects st q.1) }
    | .error e => .error e

/-- The S17 row that the next attempt crosses: the lowest row on the failed loop that is BAR and not parked. The rows of
a loop are those of the egress ports of its pairs. -/
def nextRow (parked : BitVec 4608) (ps : List Pair) (sigma : List Nat) (f : FailedLoop) : Option Nat :=
  (List.range 256).find? fun r =>
    !sigma.contains r && !parked.getLsbD (256 * 17 + r) &&
    ps.any fun q => f.loop.contains q.1 && decide (q.2 % 256 = r)

/-- R31: the attempts that are left, under the setting of S17 so far. -/
def attempts (parked : BitVec 4608) (ps : List Pair) : Nat → List Nat → Except FailedLoop RouteOk
  | left, sigma =>
    match attempt parked ps sigma with
    | .ok r => .ok r
    | .error e =>
      match left with
      | 0 => .error e
      | k + 1 =>
        match nextRow parked ps sigma e with
        | none => .error e
        | some r => attempts parked ps k (sigma ++ [r])

/-- The traffic pair of highest ingress port among the ports given. -/
def highest (ps : List Pair) (ports : List Nat) : Option Pair :=
  (ps.filter fun q => ports.contains q.1).foldl (fun b q =>
    match b with
    | none => some q
    | some x => if x.1 < q.1 then some q else some x) none

/-- R37: the traffic pair that a failed routing removes. -/
def removal (ps : List Pair) (f : FailedLoop) : Option Pair :=
  match highest ps f.against with
  | some q => some q
  | none =>
    match highest ps f.loop with
    | some q => some q
    | none => highest ps (ps.map fun q => q.1)

/-- R31, R37: route a permutation, removing pairs until the remainder routes. -/
def routeFrom (parked : BitVec 4608) : Nat → List Pair → List Pair → Routed
  | fuel, ps, gone =>
    match attempts parked ps 16 [] with
    | .ok r => { pairs := ps, completion := r.completion, states := r.states, left := gone }
    | .error e =>
      match fuel, removal ps e with
      | k + 1, some q => routeFrom parked k (ps.erase q) (gone ++ [q])
      | _, _ => { pairs := [], completion := completion [], states := 0, left := gone ++ ps }

/-- R28: the router's output for a permutation and the merged parked set. -/
def route (parked : BitVec 4608) (ps : List Pair) : Routed := routeFrom parked ps.length ps []

/-- R34: GUARANTEE_MET: at most one parked element in each of S1 to S16, none in S0 and S17. -/
def guaranteeMet (parked : BitVec 4608) : Bool :=
  (List.range 18).all fun s =>
    decide (((List.range 256).filter fun r => parked.getLsbD (256 * s + r)).length ≤
      (if s = 0 ∨ s = 17 then 0 else 1))

end Sys2Proof.Machine
end

