-- ==== Sys2Proof/Machine/Store.lean ====
section
/-! DEFINITION. Packets, ports and chiplets: the ledger (R244), drop reasons (R323), the stack regions and their free
lists (R324 to R328, R332), bundles (R254), what asserts XOFF (R266), and when a port's ENABLE acts (R278, R555). -/

namespace Sys2Proof.Machine

open Sys2Proof

/-! ### Ports, chiplets, packets -/

/-- The chiplet of a port (R11). -/
def chipOf (k : Nat) : Nat := k / 32

/-- A chiplet. -/
def State.chip (s : State) (c : Nat) : Chip := s.chips.toList.getD c {}

/-- Replace a chiplet. -/
def State.setChip (s : State) (c : Nat) (x : Chip) : State := { s with chips := s.chips.setIfInBounds c x }

/-- A port. -/
def State.port (s : State) (k : Nat) : Port := Sparse.get (fun _ => {}) s.ports k

/-- Replace a port. -/
def State.setPort (s : State) (k : Nat) (x : Port) : State :=
  { s with ports := Sparse.set (fun _ => {}) s.ports k x }

/-- A packet in the device. -/
def State.pkt (s : State) (n : Nat) : Option Pkt := Sparse.get (fun _ => none) s.pkts n

/-- Replace a packet. -/
def State.setPkt (s : State) (n : Nat) (x : Pkt) : State :=
  { s with pkts := Sparse.set (fun _ => none) s.pkts n (some x) }

/-- Change a packet, where it is in the device. -/
def State.modPkt (s : State) (n : Nat) (f : Pkt → Pkt) : State :=
  match s.pkt n with
  | none => s
  | some x => s.setPkt n (f x)

/-- A packet leaves the device. -/
def State.dropPkt (s : State) (n : Nat) : State := { s with pkts := Sparse.erase s.pkts n }

/-- The tenant of a port (R202); 0 before an image is applied. -/
def State.tenant (s : State) (k : Nat) : Fin 8 := s.img.tenants.getD k 0

/-- The image enables a port. -/
def State.imgEnables (s : State) (k : Nat) : Bool :=
  match s.img.ports[k]? with
  | some e => e.enable
  | none => false

/-- The size code of the bundle that a port leads, as its CTRL word holds it (R254). -/
def State.bundleCode (s : State) (k : Nat) : Nat := s.rdFld (lanReg k Reg.LAN_PORT_CTRL) 9 8

/-- The lead port of a port's bundle (R254). -/
def State.lead (s : State) (k : Nat) : Nat :=
  if s.bundleCode (k - k % 8) = 3 then k - k % 8
  else if s.bundleCode (k - k % 4) = 2 then k - k % 4
  else if s.bundleCode (k - k % 2) = 1 then k - k % 2
  else k

/-- The number of member ports of a port's bundle. -/
def State.bundleSize (s : State) (k : Nat) : Nat :=
  if s.bundleCode (k - k % 8) = 3 then 8
  else if s.bundleCode (k - k % 4) = 2 then 4
  else if s.bundleCode (k - k % 2) = 1 then 2
  else 1

/-- The CTRL word of the port's bundle: that of its lead port's window (R278). -/
def State.portCtrl (s : State) (k : Nat) : Word := s.rd (lanReg (s.lead k) Reg.LAN_PORT_CTRL)

/-- R562, R564: the lane and packet-core domains of a port have power. -/
def State.portPowered (s : State) (k : Nat) : Bool := s.domOn (laneDomain k) && s.domOn (coreDomain (chipOf k))

/-- The states of GLB_STATE in which the enables of ports act: SERVICE and what follows it (R555). A port whose entries were
VALID keeps its link in HALTED, where it sends Local Fault (R559; DEDUCED, assumption 132). -/
def GState.portsAct : GState → Bool
  | .service | .quiesced | .restructure | .halted => true
  | _ => false

/-- LAN_PORT_CTRL.ENABLE acts for a port (R278, R555, R562). -/
def State.portActs (s : State) (k : Nat) : Bool :=
  let l := s.lead k
  s.glb.state.portsAct && bit (s.portCtrl k) 0 && s.imgEnables l && s.portPowered l && (s.port l).ready

/-- The receiver and transmitter of a port go quiet. -/
def Port.off (x : Port) (train : Fin 4) : Port :=
  { x with linkUp := false, train := train, rxLf := false, rxRf := false, txLf := false, pfcSent := 0 }

/-- Ports whose ENABLE no longer acts go quiet (R258, R259). -/
def State.dropPorts (s : State) : State :=
  s.ports.foldl (fun s x => if s.portActs x.1 || decide (x.2.train = 0) then s else s.setPort x.1 (x.2.off 0)) s

/-- A port waits for ENTRIES_VALID. -/
def Port.unready (x : Port) : Port := { x with ready := false }

/-- Ports wait for ENTRIES_VALID again, and their lanes are idle (R558, R559). -/
def State.closePorts (s : State) : State :=
  ({ s with ports := Sparse.mapVals (fun _ => {}) Port.unready s.ports }).dropPorts

/-- R264: a remap has taken a port off its lane, and the map has not switched yet. -/
def State.remapping (s : State) (k : Nat) : Bool :=
  match (s.chip (chipOf k)).remap with
  | some (p, _, false) => decide (p.val = k % 32)
  | _ => false

/-- R206, R204: a port that takes no part in permutations: dark (R46), or its domains are off (R562, R564). -/
def State.leftOut (s : State) (k : Nat) : Bool := s.mtx.isolated.contains k || !s.portPowered k

/-- R493, R557: the drain of a quiesce or restructure, and the states that keep its XOFF. -/
def State.draining (s : State) : Bool :=
  s.glb.quiescing || decide (s.glb.state = .quiesced) || decide (s.glb.state = .restructure)

/-- R266: a source asserts XOFF for every class of a port: admission (R448, R493), thermal throttle (R464) or the safe
state (R449). -/
def State.xoff (s : State) (k : Nat) : Bool :=
  s.mtx.isolated.contains k ||
  (s.portActs k && (s.draining || s.thm.offPhase.getLsbD (chipOf k) || s.flt.safe))

/-! ### Drop reasons (R323) -/

abbrev drMeterRed : Nat := 0
abbrev drAdmitVoq : Nat := 1
abbrev drNoSegment : Nat := 2
abbrev drSafeState : Nat := 3
abbrev drThermal : Nat := 4
abbrev drParseOverrun : Nat := 5
abbrev drCfhInvalid : Nat := 6
abbrev drCfhTenant : Nat := 7
abbrev drParseLimit : Nat := 8
abbrev drRuleDiscard : Nat := 14
abbrev drNoEgress : Nat := 13
abbrev drEgressTenant : Nat := 15
abbrev drDramEcc : Nat := 16
abbrev drGapTimeout : Nat := 17
abbrev drGapRetx : Nat := 18
abbrev drGapDram : Nat := 19
abbrev drOversize : Nat := 20
abbrev drTxAbort : Nat := 21
abbrev drDomainLoss : Nat := 22
abbrev drZeroize : Nat := 23

/-! ### The ledger (R244) -/

/-- ΣDISCARDED of a chiplet. -/
def Ledger.discarded (l : Ledger) : BitVec 64 := l.disc.toList.foldl (fun a b => a + b) 0

/-- R245: the identity of a chiplet's ledger. -/
def Ledger.exact (l : Ledger) : Bool :=
  decide (l.admitted + l.xferIn = l.delivered + l.discarded + l.resident + l.xferOut)

/-- The events of Table: Ledger events. -/
inductive LedgerEvent where
  /-- The MAC hands a complete frame with a good FCS to parsing. -/
  | enter
  /-- n packets are discarded for a reason. -/
  | discard (r : Nat) (n : BitVec 64)
  /-- A transfer boundary with k EOPs, at the ingress and at the egress. -/
  | xferOut (k : BitVec 64)
  | xferIn (k : BitVec 64)
  /-- The last bytes of n frames are sent. -/
  | deliver (n : BitVec 64)
  deriving DecidableEq, Repr

/-- What an event changes. A reason above 31 names no counter. -/
def Ledger.apply (l : Ledger) : LedgerEvent → Ledger
  | .enter => { l with admitted := l.admitted + 1, resident := l.resident + 1 }
  | .discard r n =>
    if h : r < 32 then { l with disc := l.disc.set r (l.disc[r] + n), resident := l.resident - n } else l
  | .xferOut k => { l with resident := l.resident - k, xferOut := l.xferOut + k }
  | .xferIn k => { l with resident := l.resident + k, xferIn := l.xferIn + k }
  | .deliver n => { l with delivered := l.delivered + n, resident := l.resident - n }

/-- The ledger of a chiplet. -/
def State.ledger (s : State) (c : Nat) : Ledger := s.brt.led.toList.getD c {}

/-- An event befalls the ledger of a chiplet. -/
def State.ledgerEvent (s : State) (c : Nat) (e : LedgerEvent) : State :=
  { s with brt := { s.brt with led := s.brt.led.setIfInBounds c ((s.ledger c).apply e) } }

/-- One packet is discarded at a chiplet. -/
def State.countDiscard (s : State) (c r : Nat) : State := s.ledgerEvent c (.discard r 1)

/-- The credit counters of a chiplet. -/
def State.credits (s : State) (c : Nat) : Credits := s.brt.cred.toList.getD c {}

/-- Replace the credit counters of a chiplet. -/
def State.setCredits (s : State) (c : Nat) (x : Credits) : State :=
  { s with brt := { s.brt with cred := s.brt.cred.setIfInBounds c x } }

/-! ### Stack regions (R324 to R328) -/

/-- The indices of one channel of a region. -/
def regionSize (hold : Bool) : Nat := if hold then 524288 else 15728640

/-- The region of a chiplet's stack. -/
def Chip.region (x : Chip) (hold : Bool) : Region := if hold then x.hold else x.packet

/-- Replace a region. -/
def Chip.setRegion (x : Chip) (hold : Bool) (r : Region) : Chip :=
  if hold then { x with hold := r } else { x with packet := r }

/-- The page of an index is retired (R332). -/
def Chip.retired (x : Chip) (hold : Bool) (ch idx : Nat) : Bool :=
  x.pages.any fun p => decide (p.region.val = b2n hold ∧ p.channel = ch ∧ p.index = idx / 8)

/-- R326: a segment ID. -/
def segId (hold : Bool) (ch idx : Nat) : BitVec 32 := BitVec.ofNat 32 (b2n hold * 2147483648 + idx * 32 + ch)

/-- The fields of a segment ID. -/
def segHold (g : BitVec 32) : Bool := g.getLsbD 31
def segChan (g : BitVec 32) : Nat := g.toNat % 32
def segIdx (g : BitVec 32) : Nat := g.toNat / 32 % 16777216

/-- The indices of retired pages of a region that hold no segment in use. -/
def Chip.retiredFree (x : Chip) (hold : Bool) : Nat :=
  let ps := x.pages.filter fun p => decide (p.region.val = b2n hold)
  8 * ps.length - ((x.region hold).used.filter fun g => x.retired hold (segChan g) (segIdx g)).length

/-- BUF_FREE and BUF_EH_FREE: the free segments of a region; none before the stack is trained. -/
def Chip.free (x : Chip) (hold : Bool) : Nat :=
  if x.stackUp then 32 * regionSize hold - (x.region hold).used.length - x.retiredFree hold else 0

/-- The first index at or above one that lies in no retired page. -/
def Chip.skipRetired (x : Chip) (hold : Bool) (ch : Nat) : Nat → Nat → Nat
  | 0, idx => idx
  | f + 1, idx => if x.retired hold ch idx then x.skipRetired hold ch f (idx - idx % 8 + 8) else idx

/-- Take one segment of a channel from its free list: a returned one first, else one never used. -/
def Chip.takeFrom (x : Chip) (hold : Bool) (ch : Nat) : Option (Nat × Region) :=
  let r := x.region hold
  match Sparse.get (fun _ => []) r.ret ch with
  | i :: t => some (i, { r with ret := Sparse.set (fun _ => []) r.ret ch t })
  | [] =>
    let i := x.skipRetired hold ch (x.pages.length + 1) (Sparse.get (fun _ => 0) r.next ch)
    if i < regionSize hold then some (i, { r with next := Sparse.set (fun _ => 0) r.next ch (i + 1) }) else none

/-- Take one segment, from the first channel after the one used last that has one (R327). -/
def Chip.takeSeg (x : Chip) (hold : Bool) : Nat → Nat → Option (BitVec 32 × Chip)
  | 0, _ => none
  | f + 1, ch =>
    match x.takeFrom hold (ch % 32) with
    | some (i, r) =>
      let g := segId hold (ch % 32) i
      some (g, x.setRegion hold { r with last := ch % 32, used := g :: r.used })
    | none => x.takeSeg hold f (ch + 1)

/-- Draw n segments from successive channels. -/
def Chip.takeSegs (x : Chip) (hold : Bool) : Nat → List (BitVec 32) × Chip
  | 0 => ([], x)
  | n + 1 =>
    match x.takeSeg hold 32 ((x.region hold).last + 1) with
    | none => ([], x)
    | some (g, y) =>
      let r := y.takeSegs hold n
      (g :: r.1, r.2)

/-- R327: free a segment. One of a retired page does not return to the free list (R332). -/
def Chip.freeSeg (x : Chip) (g : BitVec 32) : Chip :=
  let hold := segHold g
  let r := x.region hold
  if r.used.contains g then
    let r1 := { r with used := r.used.erase g, voq := r.voq.filter fun o => decide (o.1 ≠ g) }
    let y := { x with poisoned := x.poisoned.filter fun p => decide (p ≠ g) }
    if x.retired hold (segChan g) (segIdx g) then y.setRegion hold r1
    else y.setRegion hold { r1 with
      ret := Sparse.set (fun _ => []) r1.ret (segChan g) (Sparse.get (fun _ => []) r1.ret (segChan g) ++ [segIdx g]) }
  else x

/-- Free a list of segments. -/
def Chip.freeSegs (x : Chip) (l : List (BitVec 32)) : Chip := l.foldl Chip.freeSeg x

/-- Free segments of a chiplet. -/
def State.freeSegs (s : State) (c : Nat) (l : List (BitVec 32)) : State := s.setChip c ((s.chip c).freeSegs l)

/-- R294: a table unit that reads uncorrectable raises a transient fault with the table region as source. -/
def State.tblFault (s : State) (c unit : Nat) : State :=
  if (s.chip c).tblPoisoned.contains unit then s.raise (faultCode fbChip c) 1 else s

/-! ### Credit given back (R346 to R348) -/

/-- A chiplet's packet logic is there: powered, and its loss not recognised. -/
def State.chipAlive (s : State) (c : Nat) : Bool := s.chipOn c && !(s.chip c).lost

/-- The chiplets that a message goes between. -/
def Msg.ends : Msg → Nat × Nat
  | .notice i j _ _ _ | .ack i j _ | .nack i j _ _ | .gapReq i j _ _ | .gap i j _ => (chipOf i, chipOf j)
  | .release a j _ _ => (a, chipOf j)

/-- A mesh message is sent. It is lost only with the power domain of its sender or receiver (R231). -/
def State.send (s : State) (m : Msg) : State :=
  if s.chipAlive m.ends.1 && s.chipAlive m.ends.2 then { s with brt := { s.brt with mesh := s.brt.mesh ++ [m] } } else s

/-- R347: n credited segments of (j, k) are freed at chiplet c without having been sent. -/
def State.sendRelease (s : State) (c j k n : Nat) : State := if n = 0 then s else s.send (.release c j k n)

/-! ### Packets leave -/

/-- The segments of a packet not yet put into a burst. -/
def Pkt.unsent (p : Pkt) : Nat := p.segs.length - p.sent

/-- R306, R297: the pins of a packet that leaves classification: released and counted. -/
def State.unpin (s : State) (c : Nat) (p : Pkt) : State :=
  let x := s.chip c
  let s1 := match p.bank with
    | none => s
    | some b =>
      (s.setChip c { x with pinned := x.pinned.set b (x.pinned[b] - 1) }).bump (prsReg c (0x800 + 8 * (17 + 2 * b.val))) 1
  let y := s1.chip c
  match p.ucode with
  | none => s1
  | some b => s1.setChip c { y with ucPinned := y.ucPinned.set b (y.ucPinned[b] - 1) }

/-- A packet is discarded at its ingress, wherever it stands there, with a reason: it leaves the VOQs, its unsent
segments are freed, and credit that they held is released (R347). Segments in bursts stay with the bursts. -/
def State.discardIngress (s : State) (n r : Nat) : State :=
  match s.pkt n with
  | none => s
  | some p =>
    let c := chipOf p.ing
    let x := s.chip c
    let s1 := s.setChip c ({ x with voq := x.voq.filter fun m => decide (m ≠ n) }.freeSegs (p.segs.drop p.sent))
    let s2 := if p.credited then s1.sendRelease c p.eg p.cls p.unsent else s1
    (s2.countDiscard c r).dropPkt n

end Sys2Proof.Machine
end

