-- ==== Sys2Proof/Machine/Matrix.lean ====
section
/-! DEFINITION. The matrix outside a slot (01_photonic_matrix.md): parks (R32 to R36), laser banks, spare selection and
dark modulators (R40 to R47, R630, R631), and the lookup of the permutation in force (R30). -/

namespace Sys2Proof.Machine

open Sys2Proof

/-! ### Parks -/

/-- A set of matrix elements as bits. -/
def parkBits (l : List Nat) : BitVec 4608 := l.foldl (fun b e => b ||| BitVec.ofNat 4608 (2 ^ e)) 0

/-- R33: the merged parked set of the repair map and the overlay: factory parks, overlay parks, and the field parks
that the overlay does not clear. -/
def MtxSt.merged (m : MtxSt) : BitVec 4608 :=
  parkBits m.factory ||| parkBits m.overlayAdd ||| parkBits (m.field.filter fun e => !m.overlayClear.contains e)

/-- R35: record a field park. While Prism runs it acts from slot n + 3, else at the next sample boundary. A park of an
element that is parked, or whose park is recorded, has no effect. A park recorded anew ends an overlay's clear of the
element (DESIGN CHOICE, assumption 107). -/
def State.recordPark (s : State) (e : Nat) : State :=
  if !isMatrix e || s.isParked e || s.mtx.pending.any (fun p => decide (p.1 = e)) then s
  else
    let at_ := if s.slt.running then s.slt.slot + 3 else 0
    let m := s.mtx
    ({ s with mtx := { m with
        field := if m.field.contains e then m.field else m.field ++ [e]
        overlayClear := m.overlayClear.filter fun x => decide (x ≠ e)
        pending := m.pending ++ [(e, at_)] } }).irqIf Reg.MTX_CTRL 0 12

/-- The parked set that the router uses for a slot (R35). -/
def State.parkedFor (s : State) (slot : Nat) : BitVec 4608 :=
  s.mtx.parked ||| parkBits ((s.mtx.pending.filter fun p => decide (p.2 ≤ slot)).map fun p => p.1)

/-- Set or clear the select of an element. -/
def State.setSel (s : State) (e : Nat) (cross : Bool) : State :=
  let m : BitVec 5120 := BitVec.ofNat 5120 (2 ^ e)
  { s with drv := { s.drv with sel := if cross then s.drv.sel ||| m else s.drv.sel &&& ~~~m } }

/-- The permutation is held: the safe state, the gap of a switch-over, or a held slot (R142). -/
def State.selectsHeld (s : State) : Bool :=
  s.flt.safe || s.red.gapEnd.isSome || (s.slt.running && s.slt.cur.held)

/-- A park takes effect (R32, R35, R92): the element joins the merged set, its select is BAR unless the permutation is held
(R142), its level codes stay, and from the next sample it is in HOLD in both controllers (R93). Targets of other elements
may move (R112). -/
def State.effectPark (s : State) (e : Nat) : State :=
  let m := s.mtx
  let c := s.chan e
  let s1 := { s with mtx := { m with
    parked := m.parked ||| parkBits [e]
    pending := m.pending.filter fun p => decide (p.1 ≠ e) } }
  let s2 := (if s.selectsHeld then s1 else s1.setSel e false).setChan e
    { c with tgtBar := c.levBar, tgtCross := c.levCross, sbBar := c.levBar, sbCross := c.levCross }
  (s2.modElem e fun x => { x with modeDue := some .hold }).moveTargets

/-- A recorded field park takes effect by now: its slot has come, or Prism does not run (R35). -/
def State.parkDue (s : State) (p : Nat × Nat) : Bool := !s.slt.running || decide (p.2 ≤ s.slt.slot)

/-- PARK_EFFECT: a recorded field park that is due takes effect. -/
def State.parkEffect (s : State) (e : Nat) : State :=
  if s.mtx.pending.any (fun p => decide (p.1 = e) && s.parkDue p) then s.effectPark e else s

/-- R35: at the boundary of its slot, or while Prism does not run of a loop sample, every park that is due takes effect. -/
def State.dueParks (s : State) : State :=
  ((s.mtx.pending.filter s.parkDue).map fun p => p.1).foldl State.effectPark s

/-- A write of MTX_PARK_REQ. -/
def State.writeParkReq (s : State) (v : Word) : State := if bit v 31 then s.recordPark (fld v 12 0) else s

/-! ### Laser banks -/

/-- SPARE_MODE of a bank. -/
def State.spareMode (s : State) (n : Nat) : Nat := s.rdFld (Reg.MTX_LB_CFG + 4 * n) 1 0

/-- The spare of a bank is healthy, unused, and not given already (R45, R47). -/
def State.spareFree (s : State) (n : Nat) : Bool :=
  let b := s.bank n
  !b.spareUsed && b.takeover.isNone && !(s.emitter n 16).failed

/-- R46: position i of bank n has no light: its emitter has failed, or its bank has no power (R549, R562), and no takeover
serves it. A takeover that waits for
its guard keeps a port that is not dark in service (R45). -/
def State.isDark (s : State) (n i : Nat) : Bool :=
  let b := s.bank n
  let m := s.emitter n i
  (b.unlit || m.failed || (m.up && !m.on)) && !(b.spareUsed && decide (b.spareFor.val = i) && (s.emitter n 16).on) &&
  (b.dark.getLsbD i || decide (b.takeover.map Fin.val ≠ some i))

/-- R448: a modulator is dark: its port is isolated and a lasting fault raised. -/
def State.isolate (s : State) (k : Nat) : State :=
  let m := s.mtx
  ({ s with mtx := { m with isolated := if m.isolated.contains k then m.isolated else m.isolated ++ [k]
                            rejoin := m.rejoin.filter fun x => decide (x.1 ≠ k) } }).raise (faultCode fbPort k) 2

/-- R630: light has returned to a modulator; its port rejoins at the first cycle boundary after. -/
def State.relight (s : State) (k : Nat) : State :=
  let due := if s.slt.running then (s.slt.slot / 512 + 1) * 512 else 0
  { s with mtx := { s.mtx with rejoin := (s.mtx.rejoin.filter fun x => decide (x.1 ≠ k)) ++ [(k, due)] } }

/-- What a change of light at one position of a bank brings (R46, R448, R630). -/
def State.lightAt (s : State) (n i : Nat) : State :=
  let was := (s.bank n).dark.getLsbD i
  let now := s.isDark n i
  if was = now then s
  else
    let b := s.bank n
    let m : BitVec 16 := BitVec.ofNat 16 (2 ^ i)
    let s1 := s.setBank n { b with dark := if now then b.dark ||| m else b.dark &&& ~~~m }
    if now then s1.isolate (16 * n + i) else s1.relight (16 * n + i)

/-- Judge the light of all positions of a bank. -/
def State.updateDark (s : State) (n : Nat) : State := (List.range 16).foldl (fun s i => s.lightAt n i) s

/-- The level, in dB below nominal, of an unused spare (R43): none when it is off. -/
def State.spareWarm (s : State) : Option Nat := if s.rdBit Reg.MTX_CTRL 2 then some 3 else none

/-- R43: an unused spare that has come up follows SPARE_WARM. -/
def State.warmSpare (s : State) (n : Nat) : State :=
  let m := s.emitter n 16
  if m.up && !m.failed && !(s.bank n).spareUsed then s.setEmitter n 16 { m with on := s.spareWarm.isSome, dB := 3 }
  else s

/-- R465: the step in dB of the emitters of bank n: the largest that any zone demands: a photonic one, or its laser zone. -/
def State.throttleDb (s : State) (n : Nat) : Nat :=
  let db (z : Nat) : Nat := (Sparse.get (fun _ => ({} : Zone)) s.thm.zones z).db.val
  ((List.range 12).map fun i => db (64 + i)).foldl max (db (54 + n / 4))

/-- 10^(−d/10) times 2^60 for a step of d dB. -/
def dbFactor60 : Nat → Int
  | 0 => 1152921504606846976
  | 1 => 915798103530019342
  | 2 => 727444290940845056
  | _ => 577829539483298095

/-- R44: one more sample in which the tap of emitter x read below half of its reference; a sample without a valid reading
ends the run (DESIGN CHOICE, assumption 120). The reference is scaled with the throttle step (R465). -/
def State.lowRun (s : State) (cap : Capture) (x : Nat) : Nat :=
  let m := s.emitter (x / 17) (x % 17)
  let t := 9216 + x
  let r := cap.tap t
  let ref : Int := ((Sparse.get (fun _ => 0) s.cal.emitRef x).toNat : Int)
  if m.on && !m.failed && r.valid && decide (2 * s.tapValue t r (2 ^ 60) * 2 ^ 60 < ref * dbFactor60 (s.throttleDb (x / 17))) then
    min 3 (Sparse.get (fun _ => 0) s.mtx.low x + 1)
  else 0

/-- R44: the runs of low readings, at the end of the sample that uses a capture. -/
def State.emitterRuns (s : State) : State :=
  { s with mtx := { s.mtx with low :=
    match s.loopS.capPrev with
    | none => []
    | some cap => (List.range 544).filterMap fun x => if s.lowRun cap x = 0 then none else some (x, s.lowRun cap x) } }

/-- An emitter has failed (R44, R45, R46, R631). -/
def State.emitterFail (s : State) (n i : Nat) : State :=
  let m := s.emitter n i
  if !m.up || m.failed then s
  else
    let s1 := (s.setEmitter n i { m with failed := true }).raise (faultCode fbEmit (emitterIdx n i)) 2
    let b := s1.bank n
    let s2 :=
      if h : i < 16 then
        if s1.spareMode n = 0 && s1.spareFree n && (s1.emitter n 16).up then
          s1.setBank n { b with takeover := some ⟨i, h⟩ }
        else s1
      else if b.spareUsed then
        if (s1.emitter n b.spareFor.val).failed then s1.setBank n { b with spareUsed := false }
        else s1.setBank n { b with release := true }
      else if b.takeover.isSome then
        let a := Reg.MTX_LB_CFG + 4 * n
        let s3 := s1.setBank n { b with takeover := none }
        if s3.rdBit a 4 then (s3.wrBit a 4 false).wrBit (Reg.MTX_LB_STATUS + 4 * n) 23 true else s3
      else s1
    s2.updateDark n

/-- EMITTER_FAILED (R44): the emitter's tap has read low in three consecutive samples. -/
def State.emitterFailed (s : State) (n i : Nat) : State :=
  if 3 ≤ Sparse.get (fun _ => 0) s.mtx.low (emitterIdx n i) then s.emitterFail n i else s

/-- A state select of a selector element, BAR in a quadrant without power (R142). -/
def State.setSelector (s : State) (e : Nat) (cross : Bool) : State :=
  s.setSel e (cross && s.domOn (50 + quadrantOf e) && !s.drv.picOff)

/-- The spare is given to the position that waits for it (R41, R45, R47), and rises to nominal where it has power. The
targets of elements may move (R112). -/
def State.spareTakeover (s : State) (n : Nat) : State :=
  let b := s.bank n
  match b.takeover with
  | none => s
  | some i =>
    let s1 := (List.range 16).foldl (fun s j => s.setSelector (4608 + 16 * n + j) (decide (j = i.val))) s
    let s2 := s1.setBank n { b with spareUsed := true, spareFor := i, takeover := none }
    let m := s2.emitter n 16
    let s3 := if m.up && !m.failed && !b.unlit then s2.setEmitter n 16 { m with on := true, dB := 0 } else s2
    ((s3.wrBit (Reg.MTX_LB_CFG + 4 * n) 4 false).updateDark n).moveTargets

/-- The failed spare's position returns to its own emitter (R631). -/
def State.spareRelease (s : State) (n : Nat) : State :=
  let b := s.bank n
  if b.release then
    ((s.setSelector (4608 + 16 * n + b.spareFor.val) false).setBank n
      { b with spareUsed := false, release := false }).updateDark n
  else s

/-- R42, R45, R47, R631: at t = 0 of a guard whose permutation is not held, the takeovers and releases that wait are
carried out. -/
def State.guardSpares (s : State) : State :=
  if s.selectsHeld || s.drv.picOff then s
  else s.mtx.banks.foldl (fun s x => (s.spareTakeover x.1).spareRelease x.1) s

/-- SPARE_TAKEOVER: while Prism does not run there is no guard to wait for (assumption 119). -/
def State.spareTakeoverNow (s : State) (n : Nat) : State := if s.slt.running then s else s.spareTakeover n

/-- SPARE_RELEASE: while Prism does not run there is no guard to wait for (assumption 119). -/
def State.spareReleaseNow (s : State) (n : Nat) : State := if s.slt.running then s else s.spareRelease n

/-- A write of MTX_LB_CFG[n]; FORCE_SPARE is judged with the fields of the same write (R47). The target of an accepted
takeover is latched here: a later write of FORCE_TARGET does not move it (DESIGN CHOICE, assumption 108). -/
def State.writeLbCfg (s : State) (p : CmdPort) (n : Nat) (v : Word) : State :=
  let a := Reg.MTX_LB_CFG + 4 * n
  let s1 := s.plainWrite p a v
  if bit v 4 && !s.rdBit a 4 then
    if s1.spareFree n && decide (s1.spareMode n < 2) then
      (s1.setBank n { s1.bank n with takeover := some (Fin.ofNat 16 (fld v 11 8)) }).wrBit a 4 true
    else s1.wrBit (Reg.MTX_LB_STATUS + 4 * n) 23 true
  else s1

/-- R51, R499: the class of a write of MTX_LB_CFG. -/
def lbCfgClass (v : Word) : Nat := if bit v 4 then 4 else 1

/-- LIGHT_RETURN (R630): the port rejoins; while Prism runs, from the first cycle boundary after its light returned. -/
def State.lightReturn (s : State) (k : Nat) : State :=
  if s.mtx.rejoin.any fun x => decide (x.1 = k) && (!s.slt.running || decide (x.2 ≤ s.slt.slot)) then
    let m := s.mtx
    { s with mtx := { m with isolated := m.isolated.filter fun x => decide (x ≠ k)
                             rejoin := m.rejoin.filter fun x => decide (x.1 ≠ k) } }
  else s

/-- The selects of the selector elements (R41): CROSS where a spare in use serves. -/
def State.selectorSel (s : State) : BitVec 5120 :=
  (List.range 32).foldl (fun b n =>
    if (s.bank n).spareUsed then b ||| BitVec.ofNat 5120 (2 ^ (4608 + 16 * n + (s.bank n).spareFor.val)) else b) 0

/-! ### The permutation in force -/

/-- A write of MTX_PERM_READ: what MTX_PERM_RESULT then holds (R30). -/
def State.permRead (s : State) (v : Word) : State :=
  let k := fld v 8 0
  let f := s.slt.cur
  let r : Nat × Nat :=
    match f.pairs.find? fun q => decide (q.1 = k) with
    | some q => (q.2, 1)
    | none =>
      match f.completion.find? fun q => decide (q.1 = k) with
      | some q => (q.2, 0)
      | none => (0, 0)
  { s with slt := { s.slt with
      permResult := BitVec.ofNat 32 (r.1 + r.2 * 32768 + s.slt.slot % 65536 * 65536) } }

/-! ### The commands -/

/-- PARK_REQUEST: MTX_PARK_REQ.GO, class 4 (R51). -/
def execParkRequest (p : CmdPort) (v : Word) (s : State) : Host.Outcome State Fault Refusal :=
  .next (s.access p Reg.MTX_PARK_REQ 4 fun s => s.writeParkReq (withBit v 31))
/-- PARK_EFFECT (R35). -/
def execParkEffect (e : Fin 4608) (s : State) : Host.Outcome State Fault Refusal := .next (s.parkEffect e.val)
/-- EMITTER_FAILED (R44). -/
def execEmitterFailed (n : Fin 32) (i : Fin 17) (s : State) : Host.Outcome State Fault Refusal :=
  .next (s.emitterFailed n.val i.val)
/-- SPARE_TAKEOVER (R45). -/
def execSpareTakeover (n : Fin 32) (s : State) : Host.Outcome State Fault Refusal := .next (s.spareTakeoverNow n.val)
/-- SPARE_RELEASE (R631). -/
def execSpareRelease (n : Fin 32) (s : State) : Host.Outcome State Fault Refusal := .next (s.spareReleaseNow n.val)
/-- FORCE_SPARE: MTX_LB_CFG.FORCE_SPARE, class 4 (R47, R51). -/
def execForceSpare (p : CmdPort) (n : Fin 32) (v : Word) (s : State) : Host.Outcome State Fault Refusal :=
  .next (s.access p (Reg.MTX_LB_CFG + 4 * n) 4 fun s => s.writeLbCfg p n.val (withBit v 4))
/-- LIGHT_RETURN (R630). -/
def execLightReturn (k : Fin 512) (s : State) : Host.Outcome State Fault Refusal := .next (s.lightReturn k.val)
/-- PERM_READ: a write of MTX_PERM_READ (R30). -/
def execPermRead (p : CmdPort) (v : Word) (s : State) : Host.Outcome State Fault Refusal :=
  .next (s.access p Reg.MTX_PERM_READ 1 fun s => s.permRead v)

end Sys2Proof.Machine
end

