-- ==== Sys2Proof/Machine/Prism.lean ====
section
/-! DEFINITION. Prism (06_prism_slot_calendar.md): calendars and their changes (R193 to R198), rotation (R200), demand and
matching (R203 to R205), repair requests (R206, R207), the work for a slot, routing with carried pairs (R208, R209), and
holds (R214, R421, R423). -/

namespace Sys2Proof.Machine

open Sys2Proof

/-- Put an element into a sorted list, behind those that come before it. -/
def insertBy {α : Type} (le : α → α → Bool) (x : α) : List α → List α
  | [] => [x]
  | y :: t => if le x y then x :: y :: t else y :: insertBy le x t

/-- Sort a list by an order; elements that tie keep their order. -/
def sortBy {α : Type} (le : α → α → Bool) : List α → List α
  | [] => []
  | x :: t => insertBy le x (sortBy le t)

/-! ### Slots and device time (R188, R189) -/

/-- The slot that holds an instant of device time in ns (R188). -/
def slotOf (ns : Nat) : Nat := ns / 2560

/-- The start of a slot in units of 2^-32 ns of device time. -/
def slotUnits (n : Nat) : Nat := n * 2560 * 4294967296

/-- R189: the adjustment of slot n's guard that starts at device time d: one root-clock cycle toward the device time of
slot n + 1, when slot n + 1 would begin more than 0.15625 ns off. -/
def State.alignAdj (s : State) (d n : Nat) : Int :=
  let e : Int := (d : Int) + 2048 * (s.tim.incDt : Int) - (slotUnits (n + 1) : Int)
  if 671088640 < e then -1 else if e < -671088640 then 1 else 0

/-- R189: ALIGN_LOST and the adjustment at the start of slot n. -/
def State.align (s : State) (k n : Nat) : State :=
  let d := s.dtAt k
  let off := ((d : Int) - (slotUnits n : Int)).natAbs
  let lost := if 8589934592 < off then true else if off ≤ 1342177280 then false else s.slt.alignLost
  let s1 := { s with slt := { s.slt with adj := s.alignAdj d n, alignLost := lost } }
  if lost && !s.slt.alignLost then s1.irqIf Reg.SLT_CTRL 2 5 else s1

/-! ### Calendars (R193 to R198) -/

/-- The type code of an entry of a template. -/
def State.tplEntry (s : State) (area t i : Nat) : Nat :=
  fld (s.rd (Reg.SLT_TPL + 0x800 * area + 0x100 * t + 4 * (i / 8))) (4 * (i % 8) + 3) (4 * (i % 8))

/-- The templates in a list: SLT_CAL_LEN of its area, 0 taken as 1 and 9 to 15 as 8. -/
def State.calLen (s : State) (area : Nat) : Nat := clampN 1 8 (s.rdFld (Reg.SLT_CAL_LEN + 4 * area) 3 0)

/-- The calendar in force for slot n (R198): its area, and the slot with which it took over. -/
def State.calFor (s : State) (n : Nat) : Nat × Nat :=
  match s.slt.change with
  | some b => if b ≤ n then (1 - s.slt.activeArea.val, b) else (s.slt.activeArea.val, s.slt.calStart)
  | none => (s.slt.activeArea.val, s.slt.calStart)

/-- R193: the position in the list of the template for slot n. -/
def State.tplPos (s : State) (n : Nat) : Nat :=
  let c := s.calFor n
  (n - c.2) / 512 % s.calLen c.1

/-- The type that the calendar gives slot n. Templates in force hold codes 0 to 3 (R194). -/
def State.kindAt (s : State) (n : Nat) : Nat :=
  let k := s.tplEntry (s.calFor n).1 (s.tplPos n) (n % 512)
  if k < 4 then k else 2

/-- R194: entry i of a template breaks a condition. -/
def State.tplBad (s : State) (area t i : Nat) : Bool :=
  let k := s.tplEntry area t i
  decide (3 < k) || (decide (i = 0 ∨ i = 511) && decide (k ≠ 2)) ||
  (decide (0 < i) && decide (k ≠ 2) && decide (s.tplEntry area t (i - 1) ≠ 2))

/-- R194: the first fault of the first LEN templates of an area: template and entry. -/
def State.tplFault (s : State) (area : Nat) : Option (Nat × Nat) :=
  (List.range (s.calLen area)).findSome? fun t =>
    match (List.range 512).find? fun i => s.tplBad area t i with
    | some i => some (t, i)
    | none =>
      if ((List.range 512).filter fun i => decide (s.tplEntry area t i = 1)).length < 16 then some (t, 511) else none

/-- R195: an area that host software may write. -/
def State.calWritable (s : State) (area : Nat) : Bool :=
  decide (area ≠ s.slt.activeArea.val) && s.slt.change.isNone

/-- A write to a template word or a length (R195). -/
def State.calWrite (s : State) (p : CmdPort) (area a : Nat) (v : Word) : State :=
  if s.calWritable area then s.plainWrite p a v else s.wrBit Reg.SLT_CHANGE_CTRL 13 true

/-- The device time in ns named in three registers: seconds low, seconds high, nanoseconds. -/
def State.atTime (s : State) (lo hi ns : Nat) : Nat :=
  ((s.rd lo).toNat + s.rdFld hi 15 0 * 4294967296) * 1000000000 + s.rdFld ns 29 0

/-- R197, R628: a CANCEL before the start of slot B − 3 withdraws the pending change. -/
def State.calCancel (s : State) : State :=
  match s.slt.change with
  | none => s
  | some b =>
    if s.tim.dt.units < slotUnits (b - 3) then
      (({ s with slt := { s.slt with change := none } }).wrBit Reg.SLT_CHANGE_CTRL 0 false).wrBit
        Reg.SLT_CHANGE_CTRL 12 true
    else s

/-- R196: judge a change request for a device time t in ns, with every refusal that applies. -/
def State.calRequest (s : State) : State :=
  let ns := s.rdFld Reg.SLT_CHANGE_AT_NS 29 0
  let t := s.atTime Reg.SLT_CHANGE_AT_SEC_LO Reg.SLT_CHANGE_AT_SEC_HI Reg.SLT_CHANGE_AT_NS
  let align := decide (1000000000 ≤ ns) || decide (t % 1310720 ≠ 0)
  let pend := s.slt.change.isSome
  let late := decide ((t : Int) * 4294967296 - s.tim.dt.units < 20480 * 4294967296)
  let tf := s.tplFault (1 - s.slt.activeArea.val)
  if !align && !pend && !late && tf.isNone then
    ({ s with slt := { s.slt with change := some (slotOf t) } }).wrBit Reg.SLT_CHANGE_CTRL 0 true
  else
    let a := Reg.SLT_CHANGE_CTRL
    let s1 := if pend then s.wrBit a 8 true else s
    let s2 := if late then s1.wrBit a 9 true else s1
    let s3 := if align then s2.wrBit a 10 true else s2
    let s4 := match tf with
      | none => s3
      | some f => s3.wr a (setFld (setFld (setBit (s3.rd a) 11 true) 18 16 f.1) 27 19 f.2)
    s4.irqIf Reg.SLT_CTRL 0 5

/-- A write of SLT_CHANGE_CTRL (R628: the CANCEL acts first). -/
def State.writeChangeCtrl (s : State) (p : CmdPort) (v : Word) : State :=
  let s1 := s.plainWrite p Reg.SLT_CHANGE_CTRL v
  let s2 := if bit v 1 then s1.calCancel else s1
  if bit v 0 then s2.calRequest else s2

/-- R196: the idle area becomes active with slot B. -/
def State.takeCalendar (s : State) : State :=
  match s.slt.change with
  | none => s
  | some b =>
    ((({ s with slt := { s.slt with change := none, activeArea := s.slt.activeArea + 1, calStart := b } }).wrBit
      Reg.SLT_CHANGE_CTRL 0 false).irqIf Reg.SLT_CTRL 0 5).eventAtTime 0x21 (slotUnits b)

/-- The named boundary has come: by the slot in progress, or by device time while Prism does not run (R374). -/
def State.calendarDue (s : State) : Bool :=
  match s.slt.change with
  | none => false
  | some b => if s.slt.running then decide (b ≤ s.slt.slot) else decide (slotUnits b ≤ s.tim.dt.units)

/-- CALENDAR_TAKEOVER (R198; assumption 12). -/
def State.calendarTakeover (s : State) : State := if s.calendarDue then s.takeCalendar else s

/-! ### Rotation (R200, R201) -/

/-- The ports of a tenant in ascending order. -/
def State.tenantPorts (s : State) (t : Nat) : List Nat := (List.range 512).filter fun k => decide ((s.tenant k).val = t)

/-- R200: rotation permutation q, less the ports that take no part. -/
def State.rotationPairs (s : State) (q : Nat) : List Pair :=
  (List.range 8).flatMap fun t =>
    let ps := s.tenantPorts t
    let n := ps.length
    (ps.zipIdx.map fun x => (x.1, ps.getD ((x.2 + q) % n) 0)).filter fun x => !s.leftOut x.1 && !s.leftOut x.2

/-- ROTATION_REROUTE (R31): all 512 rotation permutations are routed for the parked set in force. -/
def State.rotationReroute (s : State) : State :=
  if s.mtx.rotationFor = some s.mtx.parked then s
  else
    { s with mtx := { s.mtx with
        rotationFor := some s.mtx.parked
        rotation := (List.range 512).map fun q => (s.rotationPairs q, route s.mtx.parked (s.rotationPairs q)) } }

/-- The routing of a permutation: a stored rotation where there is one for the parked set (R31), else the router's. -/
def State.routeFor (s : State) (parked : BitVec 4608) (kind : Nat) (ps : List Pair) : Routed :=
  if kind = 1 ∧ s.mtx.rotationFor = some parked then
    match s.mtx.rotation.find? fun x => decide (x.1 = ps) with
    | some x => x.2
    | none => route parked ps
  else route parked ps

/-! ### Demand (R203) -/

/-- R214: a slot runs under a hold. -/
def Hold.covers (h : Hold) (n : Nat) : Bool :=
  match h.g with
  | none => true
  | some g => decide (n < g)

/-- Slot n is held. -/
def State.isHeld (s : State) (n : Nat) : Bool :=
  match s.slt.hold with
  | none => false
  | some h => h.covers n

/-- R214, R423: no matching begins at the start of slot n: the hold lasts to the start of slot G − 3. -/
def State.noMatching (s : State) (n : Nat) : Bool :=
  match s.slt.hold with
  | none => false
  | some h => h.covers (n + 3)

/-- The work for a slot. -/
def State.workFor (s : State) (n : Nat) : Option Work := s.slt.work.find? fun w => decide (w.slot = n)

/-- The traffic pairs of a work as they are known. -/
def Work.known (w : Work) : List Pair :=
  match w.routed with
  | some r => r.pairs
  | none => w.reps.map (fun q => (q.i, q.j)) ++ w.pairs

/-- The traffic pairs that a slot connects, for the demand of a later one (R203). -/
def State.connecting (s : State) (n : Nat) : List Pair :=
  if n = s.slt.slot then s.slt.cur.pairs
  else if s.isHeld n then (if s.flt.safe then [] else s.slt.cur.pairs)
  else match s.workFor n with
    | some w => w.known
    | none => []

/-- The ingress side of a pair. -/
def State.ingPair (s : State) (i j : Nat) : IngPair := Sparse.get (fun _ => {}) s.brt.ing (512 * i + j)

/-- Replace the ingress side of a pair. -/
def State.setIngPair (s : State) (i j : Nat) (x : IngPair) : State :=
  { s with brt := { s.brt with ing := Sparse.set (fun _ => {}) s.brt.ing (512 * i + j) x } }

/-- The packets in the VOQs of a chiplet. -/
def State.voqPkts (s : State) (c : Nat) : List (Nat × Pkt) :=
  (s.chip c).voq.filterMap fun n => (s.pkt n).map fun p => (n, p)

/-- Add segments to the count of a pair. -/
def addDemand (m : Sparse Nat) (i j n : Nat) : Sparse Nat :=
  Sparse.set (fun _ => 0) m (512 * i + j) (Sparse.get (fun _ => 0) m (512 * i + j) + n)

/-- R203: the credited segments not yet sent of each pair, by 512i + j: those of no burst, and those of first
transmissions framed for the guard in progress, whose window has not begun (DEDUCED, assumption 44). -/
def State.demandCounts (s : State) : Sparse Nat :=
  (s.brt.staged.filter fun f => !f.retx).foldl (fun m f => addDemand m f.i f.j f.segs.length) <| ((List.range 16).filter fun c => s.chipOn c && !(s.chip c).lost).foldl (fun m c =>
    (s.voqPkts c).foldl (fun m x =>
      if x.2.credited && decide (0 < x.2.unsent) then addDemand m x.2.ing x.2.eg x.2.unsent else m) m) []

/-- A demand: ingress, egress and level. -/
structure Dem where
  i : Nat
  j : Nat
  d : Nat

/-- R203, R238: the demand used for the slot whose matching begins at the start of slot n. -/
def State.demands (s : State) (n : Nat) : List Dem :=
  let cs := [s.connecting n, s.connecting (n + 1), s.connecting (n + 2)]
  s.demandCounts.filterMap fun x =>
    let i := x.1 / 512
    let j := x.1 % 512
    let hits := (cs.filter fun l => l.contains (i, j)).length
    let d := min 15 ((x.2 + 15) / 16) - 10 * hits
    if d = 0 ∨ 8192 ≤ (s.ingPair i j).bursts.length then none else some ⟨i, j, d⟩

/-! ### Matching (R204, R205) -/

/-- How far x lies above a pointer, searching upward and wrapping from 511 to 0. -/
def above (ptr x : Nat) : Nat := (x + 512 - ptr % 512) % 512

/-- The better of two demands: the higher level, else the first from a pointer, by a key. -/
def better (key : Dem → Nat) (ptr : Nat) (a b : Dem) : Dem :=
  if a.d < b.d then b else if b.d < a.d then a else if above ptr (key b) < above ptr (key a) then b else a

/-- The best of a list. -/
def bestOf (key : Dem → Nat) (ptr : Nat) : List Dem → Option Dem
  | [] => none
  | x :: t => some (t.foldl (better key ptr) x)

/-- The pointers, and what is matched so far. -/
structure MatchSt where
  gptr : Sparse Nat
  aptr : Sparse Nat
  pairs : List Pair

/-- One iteration of request, grant and accept. -/
def matchIter (ds : List Dem) (first : Bool) (m : MatchSt) : MatchSt :=
  let free := ds.filter fun x => m.pairs.all fun q => decide (q.1 ≠ x.i ∧ q.2 ≠ x.j)
  let grants := (free.map fun x => x.j).dedup.filterMap fun j =>
    bestOf Dem.i (Sparse.get (fun _ => 0) m.gptr j) (free.filter fun x => decide (x.j = j))
  let accepts := (grants.map fun x => x.i).dedup.filterMap fun i =>
    bestOf Dem.j (Sparse.get (fun _ => 0) m.aptr i) (grants.filter fun x => decide (x.i = i))
  accepts.foldl (fun m x =>
    { gptr := if first then Sparse.set (fun _ => 0) m.gptr x.j ((x.i + 1) % 512) else m.gptr
      aptr := if first then Sparse.set (fun _ => 0) m.aptr x.i ((x.j + 1) % 512) else m.aptr
      pairs := m.pairs ++ [(x.i, x.j)] }) m

/-- R204: a port takes part in the matching. -/
def State.mayMatch (s : State) (k : Nat) : Bool := s.imgEnables k && !s.leftOut k

/-- R204: the matched pairs of the slot whose matching begins at the start of slot n, beside the repair pairs placed. -/
def State.matching (s : State) (n : Nat) (reps : List RepReq) : MatchSt :=
  let ds := (s.demands n).filter fun x =>
    s.mayMatch x.i && s.mayMatch x.j && decide (s.tenant x.i = s.tenant x.j) &&
    reps.all fun q => decide (q.i ≠ x.i ∧ q.j ≠ x.j)
  let m0 : MatchSt := { gptr := s.slt.gptr, aptr := s.slt.aptr, pairs := [] }
  matchIter ds false (matchIter ds false (matchIter ds true m0))

/-! ### Repair requests (R206, R207) -/

/-- Older first, ties by the lower ingress port. -/
def RepReq.before (a b : RepReq) : Bool := decide (a.raised < b.raised) || (decide (a.raised = b.raised) && decide (a.i ≤ b.i))

/-- Two requests share a port. -/
def RepReq.shares (a b : RepReq) : Bool := decide (a.i = b.i) || decide (a.j = b.j)

/-- R206: place requests, oldest first, at most one per ingress and one per egress port beside those placed. -/
def State.placeReps (s : State) (placed : List RepReq) : List RepReq → List RepReq
  | [] => placed
  | q :: t =>
    if placed.any (fun x => x.shares q) || s.leftOut q.i || s.leftOut q.j then s.placeReps placed t
    else s.placeReps (placed ++ [q]) t

/-- The registered requests in the order in which they are placed. -/
def State.repOrder (s : State) : List RepReq := sortBy RepReq.before s.slt.reps

/-- The requests placed in the work for slots after n. -/
def State.placedAfter (s : State) (n : Nat) : List RepReq :=
  (s.slt.work.filter fun w => decide (n < w.slot)).flatMap fun w => w.reps

/-- R207: the bound of a request raised in slot m: m + 4, and 2 slots for each older request that shares a port and can delay
it: the registered ones given, and those placed in a slot from m + 3 on. -/
def State.boundOf (s : State) (older : List RepReq) (q : RepReq) : Nat :=
  q.raised + 4 + 2 * ((older ++ s.placedAfter (q.raised + 2)).filter fun x => x.shares q).length

/-- R206, R207: the requests raised in the slot that ends are registered, with their bounds. -/
def State.registerReps (s : State) : State :=
  let new := (sortBy RepReq.before s.slt.newReps).foldl (fun l q =>
    l ++ [{ q with bound := s.boundOf l q, registered := s.slt.slot }]) s.slt.reps
  { s with slt := { s.slt with reps := new, newReps := [] } }

/-- R206: requests that stood in the work for a slot return to the registered ones with their age; those whose bursts have
been settled do not. They count as registered at the start of the next slot (DEDUCED, assumption 127). -/
def State.returnReps (s : State) (l : List RepReq) : List RepReq :=
  (l.filter fun q => !q.settled).map fun q => { q with registered := s.slt.slot + 1 }

/-- R207: the bound of a request does not run in a held slot, nor while a port of it is left out. -/
def State.freezeBounds (s : State) (held : Bool) : State :=
  let f (q : RepReq) : RepReq :=
    if held || s.leftOut q.i || s.leftOut q.j then { q with bound := q.bound + 1 } else q
  { s with slt := { s.slt with reps := s.slt.reps.map f } }

/-- The ingress raises a repair request for a burst (R235). -/
def State.raiseRepair (s : State) (i j seq : Nat) : State :=
  { s with slt := { s.slt with
      newReps := s.slt.newReps ++ [{ i := i, j := j, seq := seq, raised := s.slt.slot, bound := 0 }] } }

/-- A request is that of a burst. -/
def RepReq.names (q : RepReq) (i j seq : Nat) : Bool := decide ((q.i, q.j, q.seq) = (i, j, seq))

/-- The requests of a burst in the work for a slot are marked as settled. -/
def Work.settle (w : Work) (i j seq : Nat) : Work :=
  { w with reps := w.reps.map fun q => if q.names i j seq then { q with settled := true } else q }

/-- R206: the request of a burst that has been settled is withdrawn; one that stands in the work for a slot does not return
from it. -/
def State.withdrawRepair (s : State) (i j seq : Nat) : State :=
  { s with slt := { s.slt with
      reps := s.slt.reps.filter fun q => !q.names i j seq
      newReps := s.slt.newReps.filter fun q => !q.names i j seq
      work := s.slt.work.map fun w => w.settle i j seq } }

/-! ### The work for a slot (R199) -/

/-- Replace or add the work of its slot. -/
def State.putWork (s : State) (w : Work) : State :=
  { s with slt := { s.slt with work := (s.slt.work.filter fun x => decide (x.slot ≠ w.slot)) ++ [w] } }

/-- R192: the type that slot n runs as, read at the start of slot n − 3: an unclaimed CALIBRATION slot is DEMAND. -/
def State.runKind (s : State) (n : Nat) : Nat :=
  let k := s.kindAt n
  if k = 3 ∧ !s.slt.claims.contains n then 2 else k

/-- The start of slot n − 3 for slot n: its type, step 1 of R206, demand and matching. -/
def State.beginWork (s : State) (n : Nat) : State :=
  let k := s.runKind n
  if k = 2 then
    let reps := s.placeReps [] s.repOrder
    let m := s.matching (n - 3) reps
    ({ s with slt := { s.slt with
        gptr := m.gptr, aptr := m.aptr
        reps := s.slt.reps.filter fun q => !reps.contains q } }).putWork
      { slot := n, kind := 2, reps := reps, pairs := m.pairs }
  else s.putWork { slot := n, kind := k }

/-- The type of slot n: that of its work, read at the start of slot n − 3 (R198), or what the calendar gives it. -/
def State.typeOf (s : State) (n : Nat) : Nat :=
  match s.workFor n with
  | some w => w.kind
  | none => s.kindAt n

/-- The rotation counter of slot n (R200): q, moved by the ROTATION slots from the one in progress up to it. -/
def State.rotFor (s : State) (n : Nat) : Nat :=
  let later := (List.range (n - s.slt.slot - 1)).filter fun d => decide (s.typeOf (s.slt.slot + 1 + d) = 1)
  (s.slt.rotQ + b2n (decide (s.slt.calType = 1)) + later.length) % 512

/-- The hand-over of slot n, at the start of slot n − 2 (R206 step 2, R199). -/
def State.handOver (s : State) (n : Nat) : State :=
  match s.workFor n with
  | none => s
  | some w =>
    if w.handed then s
    else if w.kind = 1 then s.putWork { w with handed := true, pairs := s.rotationPairs (s.rotFor n) }
    else if w.kind = 2 then
      let reps := s.placeReps w.reps (s.repOrder.filter fun q => decide (n < q.registered + 3))
      let clash (q : Pair) : Bool := reps.any fun x => decide (x.i = q.1) || decide (x.j = q.2)
      (({ s with slt := { s.slt with reps := s.slt.reps.filter fun q => !reps.contains q } }).putWork
        { w with handed := true, reps := reps, pairs := w.pairs.filter fun q => !clash q }).bump 0xD000C8
        (w.pairs.filter clash).length
    else s.putWork { w with handed := true }

/-! ### Routing (R208, R209, R37, R38) -/

/-- Carried pairs merge oldest first, ties by the lower ingress port. -/
def Carry.before (a b : Carry) : Bool := decide (a.first < b.first) || (decide (a.first = b.first) && decide (a.i ≤ b.i))

/-- Merging carried pairs: those merged, those carried on, and how many were dropped. -/
structure Merge where
  taken : List Carry
  rest : List Carry
  dropped : Nat

/-- A pair left out of one more slot in succession; after 4 it is dropped (R209). -/
def Merge.leave (m : Merge) (c : Carry) : Merge :=
  if 4 ≤ c.outs + 1 then { m with dropped := m.dropped + 1 }
  else { m with rest := m.rest ++ [({ c with outs := c.outs + 1 } : Carry)] }

/-- R208: merge carried pairs into a DEMAND slot, oldest first, ties by the lower ingress port. -/
def State.mergeCarry (s : State) (reps : List RepReq) : List Carry → Merge → Merge
  | [], m => m
  | c :: t, m =>
    if s.leftOut c.i || s.leftOut c.j then s.mergeCarry reps t { m with dropped := m.dropped + 1 }
    else if reps.any (fun q => decide (q.i = c.i) || decide (q.j = c.j)) ||
        m.taken.any (fun q => decide (q.i = c.i) || decide (q.j = c.j)) then s.mergeCarry reps t (m.leave c)
    else s.mergeCarry reps t { m with taken := m.taken ++ [c] }

/-- The carry list after the split of slot n left a pair out. -/
def Merge.leftOut (n : Nat) (m : Merge) (q : Pair) : Merge :=
  match m.taken.find? fun c => decide ((c.i, c.j) = q) with
  | some c => m.leave c
  | none => m.leave { i := q.1, j := q.2, first := n, outs := 0 }

/-- Drop n pairs from the carry list (R208, R209). -/
def State.countCarryDrops (s : State) (n : Nat) : State :=
  if n = 0 then s else (s.bump 0xD000D0 n).irqIf Reg.SLT_CTRL 3 5

/-- Count a split permutation (R38). -/
def State.countSplit (s : State) (n : Nat) : State :=
  if n = 0 then s else ((s.bump 0xC00020 1).bump 0xC00028 n).irqIf Reg.MTX_CTRL 1 12

/-- The router's work for a slot: carried pairs merged, routed, and what a split leaves out sorted (R206, R208). -/
def State.routeWork (s : State) (w : Work) : State :=
  if !w.handed || w.routed.isSome then s
  else if w.kind = 1 ∨ w.kind = 2 then
    let old := s.slt.carry
    let due := sortBy Carry.before old
    let m : Merge := if w.kind = 2 then s.mergeCarry w.reps due { taken := [], rest := [], dropped := 0 }
      else { taken := [], rest := old, dropped := 0 }
    let hit (q : Pair) : Bool := m.taken.any fun c => decide (c.i = q.1) || decide (c.j = q.2)
    let kept := w.pairs.filter fun q => !hit q
    let r := s.routeFor (s.parkedFor w.slot) w.kind
      (w.reps.map (fun q => (q.i, q.j)) ++ m.taken.map (fun c => (c.i, c.j)) ++ kept)
    let isRep (q : Pair) : Bool := w.reps.any fun x => decide ((x.i, x.j) = q)
    let m2 := (r.left.filter fun q => !isRep q).foldl (Merge.leftOut w.slot) m
    let s1 := { s with slt := { s.slt with
      carry := m2.rest
      reps := s.slt.reps ++ s.returnReps (w.reps.filter fun (q : RepReq) => r.left.contains (q.i, q.j)) } }
    let s2 := s1.putWork { w with pairs := kept, routed := some r, carryIn := !m.taken.isEmpty, before := old
                                  reps := w.reps }
    (((s2.bump 0xD000C0 m.taken.length).bump 0xD000C8 (w.pairs.filter hit).length).countCarryDrops
      m2.dropped).countSplit r.left.length
  else s.putWork { w with routed := some { pairs := [], completion := [], states := 0, left := [] } }

/-- MATRIX_ROUTE (R31, R199): the router takes the oldest permutation handed over and not yet routed. -/
def State.matrixRoute (s : State) : State :=
  match (sortBy (fun a b => decide (a.slot ≤ b.slot)) s.slt.work).find? fun w => w.handed && w.routed.isNone with
  | none => s
  | some w => s.routeWork w

/-! ### Holds (R214, R421 to R423, R449) -/

/-- R242: the gap clock now. -/
def State.gapNow (s : State) : Nat :=
  if s.slt.hold.isSome then s.brt.gapClock else s.brt.gapClock + (s.tim.ticks - s.brt.gapSince)

/-- Begin, change or end a hold; gap timers stop while HELD is 1 (R242). -/
def State.setHold (s : State) (h : Option Hold) : State :=
  { s with brt := { s.brt with gapClock := s.gapNow, gapSince := s.tim.ticks }
           slt := { s.slt with hold := h } }

/-- The repair pairs that a work still holds. -/
def Work.repsHeld (w : Work) : List RepReq :=
  match w.routed with
  | some r => w.reps.filter fun q => !r.left.contains (q.i, q.j)
  | none => w.reps

/-- R423: the lists for slots after the one in progress are discarded; their repair pairs return with their ages, and
the carry list is what it was before them. -/
def State.discardLists (s : State) : State :=
  let ws := sortBy (fun a b => decide (a.slot ≤ b.slot)) s.slt.work
  let back := ws.flatMap Work.repsHeld
  let carry := match ws.find? fun w => w.routed.isSome && decide (w.kind = 1 ∨ w.kind = 2) with
    | some w => w.before
    | none => s.slt.carry
  { s with slt := { s.slt with work := [], reps := s.slt.reps ++ s.returnReps back, carry := carry } }

/-- R421: the slot G of a switch-over that starts now: the first slot whose guard begins 40,006 ns or more later,
counting 2,560 ns per slot from the start of the slot in progress. -/
def State.holdEnd (s : State) : Nat :=
  let e := s.tim.dt.units - slotUnits s.slt.slot
  let n := (e + 40006 * 4294967296 + 2560 * 4294967296 - 1) / (2560 * 4294967296)
  s.slt.slot + clampN 1 17 n

/-- The hold of a switch-over begins at S (R421); one of the safe state goes on without limit (R451), and one that was about
to end goes on to the new G. The lists computed for slots after P are discarded (R423). -/
def State.beginSwitchHold (s : State) : State :=
  if !s.slt.running then s
  else
    match s.slt.hold with
    | none => (s.setHold (some { p := s.slt.cur, g := some s.holdEnd })).discardLists
    | some h => if h.g = none then s else (s.setHold (some { h with g := some s.holdEnd })).discardLists

/-- R449: the hold of the safe state begins at a guard, and has no end until the safe state ends. What the last slots of a
switch-over hold had begun to match is discarded (R214). -/
def State.beginSafeHold (s : State) : State :=
  match s.slt.hold with
  | some h => if h.g = none then s else (s.setHold (some { h with g := none })).discardLists
  | none => (s.setHold (some { p := s.slt.cur, g := none })).discardLists

/-- R454: the hold of the safe state ends at the start of slot B, the slot in progress; slot B + 3, whose matching then
begins, is the first matched normally. -/
def State.endSafeHold (s : State) (b : Nat) : State :=
  match s.slt.hold with
  | some h => if h.g = none then (s.setHold (some { h with g := some (b + 3) })).beginWork (b + 3) else s
  | none => s

/-! ### Slots run (R191, R421) -/

/-- The type that slot n runs as in the log and the counters. -/
def Work.runType (w : Work) : Nat := if w.kind = 2 ∧ w.reps ≠ [] then 4 else w.kind

/-- The final slot of a routed work. -/
def Work.final (w : Work) (r : Routed) : FinalSlot :=
  { slot := w.slot, kind := w.runType, pairs := r.pairs
    reps := w.reps.filter fun q => r.pairs.contains (q.i, q.j)
    completion := r.completion, split := !r.left.isEmpty, carryIn := w.carryIn, held := false }

/-- A held slot: it repeats P's final list, and a REPAIR slot counts as DEMAND (R421). -/
def FinalSlot.heldAt (p : FinalSlot) (n : Nat) : FinalSlot :=
  { p with slot := n, kind := if p.kind = 4 then 2 else p.kind, reps := [], split := false, carryIn := false, held := true }

/-- The log word of a slot (Table: SLT_LOG). -/
def FinalSlot.logWord (f : FinalSlot) : Word :=
  BitVec.ofNat 32 (f.slot % 65536 + f.kind * 65536 + f.pairs.length * 524288 + b2n f.split * 536870912 +
    b2n f.carryIn * 1073741824 + b2n f.held * 2147483648)

/-- The slot in progress ends: its log word is written, and q advances after a ROTATION slot (R200, R214). -/
def State.endSlot (s : State) : State :=
  if s.slt.running then
    { s with slt := { s.slt with
        log := Sparse.set (fun _ => 0) s.slt.log (s.slt.slot % 64) s.slt.cur.logWord
        past := (s.slt.cur :: s.slt.past).take 3
        rotQ := if s.slt.calType = 1 then (s.slt.rotQ + 1) % 512 else s.slt.rotQ } }
  else s

/-- Count the slot that begins (Table: SLT counters). A repair pair placed after its bound is counted late (R207). -/
def State.countSlot (s : State) (f : FinalSlot) : State :=
  let late := (f.reps.filter fun q => decide (q.bound < f.slot)).length
  let s1 := (s.bump (0xD00080 + 8 * f.kind) 1).bump 0xD000B0 f.reps.length
  let s2 := if late = 0 then s1 else (s1.bump 0xD000B8 late).irqIf Reg.SLT_CTRL 1 5
  if f.held then s2.bump 0xD000D4 1 else s2

/-! ### A new tenant map (R202, R494) -/

/-- No traffic pair connects ports of two tenants. -/
def State.sameTenant (s : State) (q : Pair) : Bool := decide (s.tenant q.1 = s.tenant q.2)

/-- A routing without the pairs that the new map forbids: they stay as completion pairs, which carry no burst (R30). -/
def State.tenantRouted (s : State) (r : Routed) : Routed :=
  { r with
    pairs := r.pairs.filter s.sameTenant
    completion := r.completion ++ r.pairs.filter fun q => !s.sameTenant q
    left := r.left.filter s.sameTenant }

/-- A final list under the new map. -/
def State.tenantSlot (s : State) (f : FinalSlot) : FinalSlot :=
  { f with
    pairs := f.pairs.filter s.sameTenant
    reps := f.reps.filter fun q => s.sameTenant (q.i, q.j)
    completion := f.completion ++ f.pairs.filter fun q => !s.sameTenant q }

/-- The work for a slot under the new map: a rotation permutation is formed again, and no other list keeps a pair of two
tenants. -/
def State.tenantWork (s : State) (w : Work) : Work :=
  let w1 := { w with
    reps := w.reps.filter fun q => s.sameTenant (q.i, q.j)
    before := w.before.filter fun c => s.sameTenant (c.i, c.j) }
  if w.kind = 1 ∧ w.handed = true then
    { w1 with pairs := s.rotationPairs (s.rotFor w.slot), routed := none, delivered := false, staged := [] }
  else
    { w1 with
      pairs := w.pairs.filter s.sameTenant
      routed := w.routed.map s.tenantRouted
      staged := w.staged.filter fun x => s.sameTenant x.1 }

/-- R202, R494: from the switch on no list, whenever it was formed, connects ports of two tenants. Carried pairs of a rotation
permutation that is formed again are no longer left out. -/
def State.keepTenants (s : State) : State :=
  let again := (s.slt.work.filter fun w => decide (w.kind = 1) && w.routed.isSome).map fun w => w.slot
  { s with slt := { s.slt with
      work := s.slt.work.map s.tenantWork
      cur := s.tenantSlot s.slt.cur
      hold := s.slt.hold.map fun h => { h with p := s.tenantSlot h.p }
      carry := s.slt.carry.filter fun c => s.sameTenant (c.i, c.j) && !again.contains c.first
      reps := s.slt.reps.filter fun q => s.sameTenant (q.i, q.j) } }

/-! ### Start and stop (R190) -/

/-- Prism stops: RUNNING becomes 0, and device time follows the selected timescale (R371). -/
def State.stopPrism (s : State) : State :=
  let s1 := s.setHold none
  { s1 with
    slt := { s1.slt with start := none, running := false, work := [], claims := [] }
    tim := { s1.tim with mode := .follow } }

/-- Every element has left ACQUISITION in the active controller (R190). -/
def State.noneAcquiring (s : State) : Bool :=
  (s.loops s.actCtl).elems.all fun x => decide (x.2.mode ≠ .acquisition)

/-- R554: the hold at lock lets Prism start. -/
def State.lockReleased (s : State) : Bool := !s.rdBit Reg.GLB_CTRL 0 || s.rdBit Reg.GLB_CTRL 1

/-- PRISM_START (R190): at the start of slot B − 3 the pipeline begins with the work for slot B. -/
def State.prismStart (s : State) : State :=
  let n := slotOf s.nowNs
  if decide (s.glb.state = .locking) && s.slt.start.isNone && s.noneAcquiring && s.lockReleased &&
     decide (n % 512 = 509) then
    let s1 := s.wrBit Reg.GLB_CTRL 1 false
    let b := n + 3
    let s2 := { s1 with slt := { s1.slt with
      start := some b, slot := n, calType := 0
      calStart := if s1.slt.calStart = 0 then b else s1.slt.calStart
      work := [], cur := {}, past := [], hold := none } }
    s2.beginWork b
  else s

/-! ### The commands -/

/-- MATRIX_ROUTE (R31). -/
def execMatrixRoute (s : State) : Host.Outcome State Fault Refusal := .next s.matrixRoute
/-- ROTATION_REROUTE (R31). -/
def execRotationReroute (s : State) : Host.Outcome State Fault Refusal := .next s.rotationReroute
/-- PRISM_START (R190). -/
def execPrismStart (s : State) : Host.Outcome State Fault Refusal := .next s.prismStart
/-- TEMPLATE_WRITE (R195). -/
def execTemplateWrite (p : CmdPort) (c : Fin 2) (t : Fin 8) (w : Fin 64) (v : Word) (s : State) :
    Host.Outcome State Fault Refusal :=
  let a := Reg.SLT_TPL + 0x800 * c.val + 0x100 * t.val + 4 * w.val
  .next (s.access p a 1 fun s => s.calWrite p c.val a v)
/-- CAL_LEN_WRITE (R195). -/
def execCalLenWrite (p : CmdPort) (c : Fin 2) (v : Word) (s : State) : Host.Outcome State Fault Refusal :=
  .next (s.access p (Reg.SLT_CAL_LEN + 4 * c) 1 fun s => s.calWrite p c.val (Reg.SLT_CAL_LEN + 4 * c.val) v)
/-- CHANGE_REQ: SLT_CHANGE_CTRL.REQ (R196). -/
def execChangeReq (p : CmdPort) (v : Word) (s : State) : Host.Outcome State Fault Refusal :=
  .next (s.access p Reg.SLT_CHANGE_CTRL 1 fun s => s.writeChangeCtrl p (withBit v 0))
/-- CHANGE_CANCEL: SLT_CHANGE_CTRL.CANCEL (R197). -/
def execChangeCancel (p : CmdPort) (v : Word) (s : State) : Host.Outcome State Fault Refusal :=
  .next (s.access p Reg.SLT_CHANGE_CTRL 1 fun s => s.writeChangeCtrl p (withBit v 1))
/-- CALENDAR_TAKEOVER (R198). -/
def execCalendarTakeover (s : State) : Host.Outcome State Fault Refusal := .next s.calendarTakeover

end Sys2Proof.Machine
end

