-- ==== Sys2Proof/Machine/Egress.lean ====
section
/-! DEFINITION. Credits (R342 to R351), the egress queues (R340), gates (R359 to R363), shapers (R356 to R358) and the
scheduler (R354, R355) of 11_queues_and_egress.md. -/

namespace Sys2Proof.Machine

open Sys2Proof

/-! ### Credits -/

/-- The key of an egress port and class. -/
def jk (j k : Nat) : Nat := 8 * j + k

/-- A balance of a chiplet. -/
def Chip.balance (x : Chip) (key : Nat) : Nat := Sparse.get (fun _ => 0) x.bal key

/-- Replace a balance. -/
def Chip.setBalance (x : Chip) (key n : Nat) : Chip := { x with bal := Sparse.set (fun _ => 0) x.bal key n }

/-- OCC(j, k). -/
def Chip.occOf (x : Chip) (key : Nat) : Nat := Sparse.get (fun _ => 0) x.occ key

/-- The segments granted to chiplet c and not yet sent or released. -/
def Chip.grantOutOf (x : Chip) (c key : Nat) : Nat := Sparse.get (fun _ => 0) x.grantOut (4096 * c + key)

/-- R344: a grant of n segments to chiplet c takes effect at the egress. -/
def Chip.granted (x : Chip) (c key n : Nat) : Chip :=
  { x with
    occ := Sparse.set (fun _ => 0) x.occ key (x.occOf key + n)
    reserved := x.reserved + n
    grantOut := Sparse.set (fun _ => 0) x.grantOut (4096 * c + key) (x.grantOutOf c key + n) }

/-- R348: n segments of (j, k) leave the egress-hold region for a frame. -/
def Chip.left (x : Chip) (key n : Nat) : Chip := { x with occ := Sparse.set (fun _ => 0) x.occ key (x.occOf key - n) }

/-- R348: n credited segments of chiplet c are written into the egress-hold region. -/
def Chip.written (x : Chip) (c key n : Nat) : Chip :=
  { x with
    reserved := x.reserved - n
    grantOut := Sparse.set (fun _ => 0) x.grantOut (4096 * c + key) (x.grantOutOf c key - n) }

/-- The packets of an egress port and class that wait for credit, in admission order. -/
def State.uncredited (s : State) (c j k : Nat) : List (Nat × Pkt) :=
  (s.voqPkts c).filter fun x => decide (x.2.eg = j ∧ x.2.cls = k) && !x.2.credited

/-- The first of n places from a pointer upward, wrapping, that a test accepts. -/
def nextFrom (n ptr : Nat) (ok : Nat → Bool) : Option Nat :=
  ((List.range n).map fun d => (ptr + d) % n).find? ok

/-- R345: the packet that takes credit next: its flow group, ingress list and number. -/
def State.creditNext (s : State) (c j k : Nat) : Option (Nat × Nat × Nat × Pkt) :=
  let x := s.chip c
  let us := s.uncredited c j k
  match nextFrom 16 (Sparse.get (fun _ => 0) x.fgptr (jk j k)) fun g => us.any fun u => decide (u.2.fg = g) with
  | none => none
  | some g =>
    let vs := us.filter fun u => decide (u.2.fg = g)
    match nextFrom 32 (Sparse.get (fun _ => 0) x.lptr (16 * jk j k + g)) fun l =>
        vs.any fun u => decide (u.2.ing % 32 = l) with
    | none => none
    | some l => (vs.find? fun u => decide (u.2.ing % 32 = l)).map fun u => (g, l, u.1, u.2)

/-- R346: a balance is not idle in this slot. -/
def State.markBusy (s : State) (c key : Nat) : State :=
  let x := s.chip c
  if x.busy.contains key then s else s.setChip c { x with busy := key :: x.busy }

/-- R345: apply a balance to the packets that wait, as far as it reaches. -/
def State.applyCredit (s : State) (c j k : Nat) : Nat → State
  | 0 => s
  | f + 1 =>
    match s.creditNext c j k with
    | none => s
    | some (g, l, n, p) =>
      let x := s.chip c
      let m := p.segs.length
      if x.balance (jk j k) < m then s
      else
        let y := { x.setBalance (jk j k) (x.balance (jk j k) - m) with
          fgptr := Sparse.set (fun _ => 0) x.fgptr (jk j k) ((g + 1) % 16)
          lptr := Sparse.set (fun _ => 0) x.lptr (16 * jk j k + g) ((l + 1) % 32) }
        let cr := s.credits c
        let s1 := (s.setChip c y).setCredits c { cr with
          consumed := cr.consumed + BitVec.ofNat 64 m, outstanding := cr.outstanding - BitVec.ofNat 64 m }
        State.applyCredit ((s1.setPkt n { p with credited := true }).markBusy c (jk j k)) c j k f

/-- R345, for all that wait. -/
def State.applyCredits (s : State) (c j k : Nat) : State := s.applyCredit c j k ((s.uncredited c j k).length + 1)

/-- R346: withdraw a balance. -/
def State.withdraw (s : State) (c j k : Nat) : State :=
  let x := s.chip c
  let b := x.balance (jk j k)
  if b = 0 then s
  else
    let cr := s.credits c
    (((s.setChip c { x.setBalance (jk j k) 0 with idle := Sparse.set (fun _ => 0) x.idle (jk j k) 0 }).setCredits c
      { cr with
        consumed := cr.consumed + BitVec.ofNat 64 b
        withdrawn := cr.withdrawn + BitVec.ofNat 64 b
        outstanding := cr.outstanding - BitVec.ofNat 64 b }).sendRelease c j k b)

/-- IDLE of a chiplet. -/
def State.idleLimit (s : State) (c : Nat) : Nat :=
  let n := s.rdFld (queReg c Reg.QUE_CREDIT_CFG) 23 16
  if n = 0 then 1 else n

/-- GRANT of a chiplet, clamped. -/
def State.grantSize (s : State) (c : Nat) : Nat := clampN 64 1024 (s.rdFld (queReg c Reg.QUE_CREDIT_CFG) 10 0)

/-- WINDOW[k] of a port, clamped. Every member of a bundle keeps its own (R364). -/
def State.window (s : State) (j k : Nat) : Nat := clampN 1024 65536 (s.rdFld (quePort j (Reg.QUE_WINDOW + 4 * k)) 16 0)

/-- CREDIT_WITHDRAW (R346): a balance has been idle for IDLE slots. -/
def State.creditWithdraw (s : State) (c j k : Nat) : State :=
  if s.idleLimit c ≤ Sparse.get (fun _ => 0) (s.chip c).idle (jk j k) then s.withdraw c j k else s

/-- Sender and receiver of a message. -/
def Msg.route : Msg → Nat × Nat
  | .notice i j _ _ _ | .gapReq i j _ _ => (chipOf i, chipOf j)
  | .ack i j _ | .nack i j _ _ | .gap i j _ => (chipOf j, chipOf i)
  | .release c j _ _ => (c, chipOf j)

/-- The first message that a test accepts and that no older one between the same two chiplets precedes (R231), and the mesh
without it. -/
def takeMsg (ok : Msg → Bool) : List Msg → Option (Msg × List Msg)
  | [] => none
  | m :: t =>
    if ok m then some (m, t)
    else match takeMsg (fun x => ok x && decide (x.route ≠ m.route)) t with
      | some (x, r) => some (x, m :: r)
      | none => none

/-- Take a message from the mesh. -/
def State.recv (s : State) (ok : Msg → Bool) : Option (Msg × State) :=
  (takeMsg ok s.brt.mesh).map fun x => (x.1, { s with brt := { s.brt with mesh := x.2 } })

/-- CREDIT_RELEASE (R348): the egress receives a RELEASE. -/
def State.creditRelease (s : State) (c j k : Nat) : State :=
  match s.recv fun m => match m with | .release c' j' k' _ => decide (c' = c ∧ j' = j ∧ k' = k) | _ => false with
  | some (.release _ _ _ n, s1) =>
    let e := chipOf j
    s1.setChip e (((s1.chip e).left (jk j k) n).written c (jk j k) n)
  | some (_, s1) => s1
  | none => s

/-- R342: NEED of chiplet c at an egress chiplet: a packet of (j, k) waits for credit. -/
def State.needs (s : State) (e : Nat) : List Nat :=
  ((List.range 16).filter fun c => s.chipOn c && !(s.chip c).lost).flatMap fun c =>
    (((s.voqPkts c).filter fun x => decide (chipOf x.2.eg = e) && !x.2.credited).map fun x =>
      4096 * c + jk x.2.eg x.2.cls).dedup

/-- R343: the GRANTs of one slot at an egress chiplet: decided, one (j, k) at a time. -/
def State.decideGrant (s : State) (e : Nat) (x : Chip) (key : Nat) : Chip :=
  let g := s.grantSize e
  let gs := (x.grants.map fun t => t.2.2).foldl (fun a b => a + b) 0
  if x.occOf key + g ≤ s.window (key / 8) (key % 8) ∧ x.reserved + gs + g ≤ x.free true then
    match nextFrom 16 (Sparse.get (fun _ => 15) x.lastGrant key + 1) fun c => x.need.contains (4096 * c + key) with
    | none => x
    | some c =>
      { x with grants := x.grants ++ [(c, key, g)], lastGrant := Sparse.set (fun _ => 15) x.lastGrant key c }
  else x

/-- R343: an egress chiplet sends its GRANTs of a slot, from the NEED of the slot before, and takes the NEED of this
slot. None is sent in the safe state or a drain (R449, R493). -/
def State.grantStep (s : State) (e : Nat) : State :=
  let x := { s.chip e with grants := [] }
  let keys := (x.need.map fun n => n % 4096).dedup
  let keys := sortBy (fun a b => decide (a ≤ b)) keys
  let y := if s.flt.safe || s.draining then x else keys.foldl (s.decideGrant e) x
  s.setChip e { y with need := s.needs e }

/-- R344: one GRANT takes effect, and the balance is applied. One to a chiplet that has lost its power is lost (R231). -/
def State.grantEffect (s : State) (e : Nat) (g : Nat × Nat × Nat) : State :=
  let c := g.1
  let key := g.2.1
  let n := g.2.2
  if !s.chipAlive c then s
  else
    let s1 := s.setChip e ((s.chip e).granted c key n)
    let ce := s1.credits e
    let s2 := s1.setCredits e { ce with granted := ce.granted + BitVec.ofNat 64 n }
    let ci := s2.credits c
    let s3 := s2.setCredits c { ci with issued := ci.issued + BitVec.ofNat 64 n
                                        outstanding := ci.outstanding + BitVec.ofNat 64 n }
    let x := s3.chip c
    (s3.setChip c (x.setBalance key (x.balance key + n))).applyCredits c (key / 8) (key % 8)

/-- R346: the idle counts of a chiplet's balances at the end of a slot, before the grants of the boundary. A slot is idle for a
balance when no packet took credit of it and none waits. -/
def State.idleStep (s : State) (c : Nat) : State :=
  let x := s.chip c
  let f (m : Sparse Nat) (b : Nat × Nat) : Sparse Nat :=
    if (s.uncredited c (b.1 / 8) (b.1 % 8)).isEmpty && !x.busy.contains b.1 then
      Sparse.set (fun _ => 0) m b.1 (Sparse.get (fun _ => 0) x.idle b.1 + 1)
    else m
  s.setChip c { x with idle := x.bal.foldl f [], busy := [] }

/-- R493: at the slot boundary after a drain begins every balance is withdrawn, and the credit of every credited packet
of which nothing was sent is released; those packets are uncredited again. -/
def State.drainCredits (s : State) (c : Nat) : State :=
  let s1 := (s.chip c).bal.foldl (fun s b => s.withdraw c (b.1 / 8) (b.1 % 8)) s
  (s1.voqPkts c).foldl (fun s x =>
    if x.2.credited && decide (x.2.sent = 0) then
      (s.sendRelease c x.2.eg x.2.cls x.2.segs.length).setPkt x.1 { x.2 with credited := false }
    else s) s1

/-- The credit work of a slot boundary (R342 to R346). -/
def State.creditStep (s : State) : State :=
  let on := (List.range 16).filter fun c => s.chipOn c && !(s.chip c).lost
  let s1 := on.foldl State.idleStep s
  let s2 := on.foldl (fun s e => (s.chip e).grants.foldl (fun s g => s.grantEffect e g) s) s1
  let s3 := if s2.draining then on.foldl State.drainCredits s2 else s2
  on.foldl State.grantStep s3

/-! ### Gates (R359 to R363) -/

/-- The word of an entry of a gate list. -/
def State.gateWord (s : State) (k a e : Nat) : Word :=
  s.rd (queReg (chipOf k) (Reg.QUE_GATE_LIST + 0x800 * (k % 32) + 0x400 * a + 4 * e))

/-- The duration of an entry in ns. -/
def State.gateInterval (s : State) (k a e : Nat) : Nat := max 1 (fld (s.gateWord k a e) 31 8)

/-- The gate of a class is open in an entry. -/
def State.gateOpen (s : State) (k a e cls : Nat) : Bool := (s.gateWord k a e).getLsbD cls

/-- The entries of an area. -/
def State.gateLen (s : State) (k a : Nat) : Nat := clampN 1 256 (s.rdFld (quePort k (Reg.QUE_GATE_LEN + 4 * a)) 8 0)

/-- A place in the gate lists ahead: the area and entry, when it began in ns, and a takeover still ahead. -/
structure GatePos where
  area : Nat
  entry : Nat
  since : Nat
  pending : Option Nat

/-- R362: the gate of a class stays open from a place to an instant in ns, over the lists as they will run. -/
def State.openThrough (s : State) (k cls limit : Nat) : Nat → GatePos → Bool
  | 0, _ => true
  | f + 1, g =>
    if s.gateOpen k g.area g.entry cls then
      let stop := g.since + s.gateInterval k g.area g.entry
      match g.pending with
      | some t =>
        if limit ≤ min t stop then true
        else if t ≤ stop then s.openThrough k cls limit f { area := 1 - g.area, entry := 0, since := t, pending := none }
        else s.openThrough k cls limit f { g with entry := (g.entry + 1) % s.gateLen k g.area, since := stop }
      | none =>
        if limit ≤ stop then true
        else s.openThrough k cls limit f { g with entry := (g.entry + 1) % s.gateLen k g.area, since := stop }
    else false

/-- R362: D + GUARD_NS of a frame in ns, rounded up to whole ns past the start of the present ns, for a sent length. -/
def State.gateNeed (s : State) (k len : Nat) : Nat :=
  let d := ((len + 20) * 8 + 100 * s.bundleSize k - 1) / (100 * s.bundleSize k)
  d + s.rdFld (quePort k Reg.QUE_FG) 23 16

/-- R362: the frame's last instant in ns: t + D + GUARD_NS, with t as device time stands, rounded up. -/
def State.gateLimit (s : State) (k len : Nat) : Nat :=
  let u := s.tim.dt.units * (100 * s.bundleSize k) + (len + 20) * 8 * 4294967296
  let q := 4294967296 * (100 * s.bundleSize k)
  (u + q - 1) / q + s.rdFld (quePort k Reg.QUE_FG) 23 16

/-- R362: a head frame of a class fits its gate. Before the takeover that puts gates in force every gate is open up to it
(R361). -/
def State.gateFits (s : State) (k cls len : Nat) : Bool :=
  let g := (s.port k).gates
  let limit := s.gateLimit k len
  if g.on then s.openThrough k cls limit 2048
    { area := g.oper.val, entry := g.entry, since := g.since, pending := g.pending }
  else
    match g.pending with
    | none => true
    | some t =>
      !s.rdBit (quePort k Reg.QUE_GATE_CTRL) 0 || decide (limit ≤ t) ||
        s.openThrough k cls limit 2048 { area := 1 - g.oper.val, entry := 0, since := t, pending := none }

/-- The longest run of open entries in a list of (open, duration), with the run so far and the longest so far. -/
def longestRun : List (Bool × Nat) → Nat → Nat → Nat
  | [], run, best => max run best
  | (o, d) :: t, run, best => if o then longestRun t (run + d) best else longestRun t 0 (max run best)

/-- R363: the longest window of a class over a repeating list; none when the gate is open in every entry. -/
def State.longestWindow (s : State) (k a cls : Nat) : Option Nat :=
  let l := (List.range (s.gateLen k a)).map fun e => (s.gateOpen k a e cls, s.gateInterval k a e)
  if l.all fun x => x.1 then none else some (longestRun (l ++ l) 0 0)

/-- R363: a sent length exceeds a window. -/
def State.overWindow (s : State) (k len : Nat) (w : Option Nat) : Bool :=
  match w with
  | none => false
  | some n => decide (n < s.gateNeed k len)

/-! ### Queues (R340) -/

/-- The member ports of a bundle. -/
def State.members (s : State) (l : Nat) : List Nat := (List.range (s.bundleSize l)).map fun m => l + m

/-- The key of an egress queue: 128p + 16·class + flow group, within its chiplet. -/
def queueKey (k cls fg : Nat) : Nat := 128 * (k % 32) + 16 * cls + fg

/-- The frames of an egress queue of port k. -/
def State.queue (s : State) (k cls fg : Nat) : List (Nat × List SegRef) :=
  Sparse.get (fun _ => []) (s.chip (chipOf k)).queues (queueKey k cls fg)

/-- Replace an egress queue. -/
def State.setQueue (s : State) (k cls fg : Nat) (l : List (Nat × List SegRef)) : State :=
  let c := chipOf k
  let x := s.chip c
  s.setChip c { x with queues := Sparse.set (fun _ => []) x.queues (queueKey k cls fg) l }

/-- The segments of a frame leave the egress-hold region of port k's chiplet (R328, R348). -/
def State.freeHold (s : State) (k : Nat) (segs : List SegRef) : State :=
  let c := chipOf k
  let x := segs.foldl (fun (x : Chip) g => x.left (jk k g.cls) 1) (s.chip c)
  s.setChip c (x.freeSegs (segs.map fun g => g.seg))

/-- A packet is discarded at its egress port with a reason. -/
def State.discardEgress (s : State) (k n r : Nat) (segs : List SegRef) : State :=
  ((s.freeHold k segs).countDiscard (chipOf k) r).dropPkt n

/-- The bytes that the MAC sends for a packet (R356): those buffered. -/
def State.sentLen (s : State) (n : Nat) : Nat :=
  match s.pkt n with
  | some p => p.bytes.length
  | none => 0

/-- R355: a queue that is empty loses its deficit, and so does a class of a scheduler without a frame. -/
def State.loseDeficit (s : State) (k cls fg : Nat) : State :=
  let l := s.lead k
  let x := s.port l
  let qd := if (s.queue k cls fg).isEmpty then Sparse.set (fun _ => 0) x.qDef (128 * cls + 16 * (k - l) + fg) 0 else x.qDef
  let bare := (s.members l).all fun m => (List.range 16).all fun g => (s.queue m cls g).isEmpty
  s.setPort l { x with qDef := qd, clsDef := if bare then Sparse.set (fun _ => 0) x.clsDef cls 0 else x.clsDef }

/-- R363: the heads of a queue that no window ever admits are discarded. -/
def State.headCheck (s : State) (k cls fg : Nat) : Nat → State
  | 0 => s
  | f + 1 =>
    match s.queue k cls fg with
    | [] => s
    | (n, segs) :: t =>
      let l := s.lead k
      let g := (s.port l).gates
      let len := s.sentLen n
      if g.on && s.overWindow l len (s.longestWindow l g.oper.val cls) &&
         (g.pending.isNone || s.overWindow l len (s.longestWindow l (1 - g.oper.val) cls)) then
        State.headCheck (((((s.setQueue k cls fg t).loseDeficit k cls fg).discardEgress k n drOversize segs).bump (quePort l 0x1C0) 1).irqIf
          (queReg (chipOf k) Reg.QUE_CTRL) 1 (16 + chipOf k)) k cls fg f
      else s

/-- Check the head of a queue. -/
def State.checkHead (s : State) (k cls fg : Nat) : State := s.headCheck k cls fg ((s.queue k cls fg).length + 1)

/-- R340: a frame enters its egress queue. -/
def State.enqueue (s : State) (k cls fg n : Nat) (segs : List SegRef) : State :=
  let q := s.queue k cls fg
  let s1 := s.setQueue k cls fg (q ++ [(n, segs)])
  if q.isEmpty then s1.checkHead k cls fg else s1

/-- Check every head of a bundle's queues (R363, at a takeover). -/
def State.checkHeads (s : State) (l : Nat) : State :=
  (s.members l).foldl (fun s k => (List.range 8).foldl (fun s c => (List.range 16).foldl (fun s g =>
    s.checkHead k c g) s) s) s

/-! ### Shapers (R356 to R358) -/

/-- A shaper of a port: 0 the port shaper, 1 + k that of class k. -/
def Port.shaper (x : Port) (i : Nat) : Shaper := Sparse.get (fun _ => {}) x.shapers i

/-- Replace a shaper. -/
def Port.setShaper (x : Port) (i : Nat) (h : Shaper) : Port :=
  { x with shapers := Sparse.set (fun _ => {}) x.shapers i h }

/-- R357: a shaper earns up to a tick: RATE kb/s is RATE/25,000 of 1/256 byte in a tick of 1.25 ns. -/
def Shaper.earn (h : Shaper) (tick : Nat) : Shaper :=
  { h with tokens := min (h.burst * 256 : Nat) (h.tokens + roundQ (h.rate * (tick - h.tick) : Nat) 25000), tick := tick }

/-- R356: the shaped length. -/
def Shaper.shaped (h : Shaper) (len : Nat) : Nat := (max 1 ((len : Int) + h.overhead)).toNat

/-- A frame starts: the shaper loses its shaped length. -/
def Shaper.charge (h : Shaper) (len : Nat) : Shaper :=
  if h.en then { h with tokens := h.tokens - (h.shaped len * 256 : Nat) } else h

/-- R354: the shaper lets a frame start. -/
def Shaper.ready (h : Shaper) : Bool := !h.en || decide (0 ≤ h.tokens)

/-- OVERHEAD: a value below −16 is taken as −16. -/
def overheadOf (w : Word) (hi lo : Nat) : Int := max (-16) ((BitVec.ofNat 8 (fld w hi lo)).toInt)

/-- The offset of a shaper's words in its port window. -/
def shaperOff (i : Nat) : Nat := 0x80 + 0x10 * i

/-- R358: a write of the CFG word applies the held RATE and BURST. -/
def Shaper.configure (h : Shaper) (tick : Nat) (cfg : Word) (rate burst : Nat) : Shaper :=
  let e := h.earn tick
  let t1 := min e.tokens (burst * 256 : Nat)
  let t2 := if bit cfg 1 then max t1 (-((burst * 256 : Nat) : Int)) else t1
  { en := bit cfg 0, debtClamp := bit cfg 1, overhead := overheadOf cfg 15 8, rate := rate, burst := burst
    tokens := t2, tick := tick }

/-- The window of a port acts: it is a lead port's (R364). -/
def State.isLead (s : State) (k : Nat) : Bool := decide (s.lead k = k)

/-- A write of a shaper's CFG word. -/
def State.writeShaper (s : State) (p : CmdPort) (k i : Nat) (v : Word) : State :=
  if s.isLead k then
    let a := quePort k (shaperOff i)
    let s1 := s.plainWrite p a v
    let rate := min 800000000 (s1.rd (a + 4)).toNat
    let x := s1.port k
    s1.setPort k (x.setShaper i ((x.shaper i).configure s1.tim.ticks (s1.rd a) rate (fld (s1.rd (a + 8)) 23 0)))
  else s

/-- A write of a word of a port's window in QUE that only a lead port's window takes (R364). -/
def State.writeLead (s : State) (p : CmdPort) (k a : Nat) (v : Word) : State :=
  if s.isLead k then s.plainWrite p a v else s

/-! ### Gate list changes (R359 to R361) -/

/-- A write to a gate list or its length. -/
def State.writeGateList (s : State) (p : CmdPort) (k area a : Nat) (v : Word) : State :=
  if !s.isLead k then s
  else
    let g := (s.port k).gates
    if decide (area ≠ g.oper.val) && g.pending.isNone then s.plainWrite p a v
    else s.wrBit (quePort k Reg.QUE_GATE_CTRL) 11 true

/-- Withdraw the pending gate change, where there is one: CANCELLED sets. -/
def State.dropGateChange (s : State) (k : Nat) : State :=
  let x := s.port k
  if x.gates.pending.isSome then
    ((s.setPort k { x with gates := { x.gates with pending := none } }).wrBit (quePort k Reg.QUE_GATE_CTRL) 1 false).wrBit
      (quePort k Reg.QUE_GATE_CTRL) 10 true
  else s

/-- R360: a CANCEL before T. -/
def State.gateCancel (s : State) (k : Nat) : State :=
  match (s.port k).gates.pending with
  | none => s
  | some t =>
    if s.tim.dt.units < t * 4294967296 then s.dropGateChange k else s

/-- R360: judge a REQ. An NS of 10^9 or more carries into the seconds of T. -/
def State.gateRequest (s : State) (k : Nat) : State :=
  let a := quePort k Reg.QUE_GATE_CTRL
  let t := s.atTime (quePort k Reg.QUE_GATE_AT_SEC_LO) (quePort k Reg.QUE_GATE_AT_SEC_HI) (quePort k Reg.QUE_GATE_AT_NS)
  let x := s.port k
  let pend := x.gates.pending.isSome
  let late := decide ((t : Int) * 4294967296 - s.tim.dt.units < 10000 * 4294967296)
  if pend || late then
    let s1 := if pend then s.wrBit a 8 true else s
    let s2 := if late then s1.wrBit a 9 true else s1
    s2.irqIf (queReg (chipOf k) Reg.QUE_CTRL) 0 (16 + chipOf k)
  else (s.setPort k { x with gates := { x.gates with pending := some t } }).wrBit a 1 true

/-- A write of QUE_GATE_CTRL: CANCEL first (R628), then GATE_EN (R361), then REQ. -/
def State.writeGateCtrl (s : State) (p : CmdPort) (k : Nat) (v : Word) : State :=
  if !s.isLead k then s
  else
    let s1 := s.plainWrite p (quePort k Reg.QUE_GATE_CTRL) v
    let s2 := if bit v 2 then s1.gateCancel k else s1
    let s4 :=
      if bit v 0 then s2
      else
        let s3 := s2.dropGateChange k
        let x := s3.port k
        s3.setPort k { x with gates := { x.gates with on := false } }
    if bit v 1 then s4.gateRequest k else s4

/-- GATE_TAKEOVER (R360, R361): at T the administrative area becomes operational, and its entry 0 begins at T. -/
def State.gateTakeover (s : State) (k : Nat) : State :=
  let x := s.port k
  match x.gates.pending with
  | none => s
  | some t =>
    if t * 4294967296 ≤ s.tim.dt.units then
      let s1 := s.setPort k { x with gates := { x.gates with
        on := s.rdBit (quePort k Reg.QUE_GATE_CTRL) 0
        oper := x.gates.oper + 1, entry := 0, since := t, pending := none } }
      ((s1.wrBit (quePort k Reg.QUE_GATE_CTRL) 1 false).irqIf (queReg (chipOf k) Reg.QUE_CTRL) 0
        (16 + chipOf k)).checkHeads k
    else s

/-- GATE_ENTRY_ADVANCE (R362): the interval of the entry in force has ended. -/
def State.gateAdvance (s : State) (k : Nat) : State :=
  let x := s.port k
  let g := x.gates
  let stop := g.since + s.gateInterval k g.oper.val g.entry
  if g.on && decide (stop * 4294967296 ≤ s.tim.dt.units) then
    s.setPort k { x with gates := { g with entry := (g.entry + 1) % s.gateLen k g.oper.val, since := stop } }
  else s

/-! ### The scheduler (R354, R355) -/

/-- A head frame: its member port, class and flow group, packet and segments, and its sent length. -/
structure Head where
  port : Nat
  cls : Nat
  fg : Nat
  pkt : Nat
  segs : List SegRef
  len : Nat

/-- The index of a queue among the leaves of a class: by member, then flow group. -/
def Head.leaf (h : Head) (l : Nat) : Nat := 16 * (h.port - l) + h.fg

/-- The head of an egress queue. -/
def State.headOf (s : State) (k c g : Nat) : Option Head :=
  match s.queue k c g with
  | (n, segs) :: _ => some { port := k, cls := c, fg := g, pkt := n, segs := segs, len := s.sentLen n }
  | [] => none

/-- The heads of a class. -/
def State.heads (s : State) (l c : Nat) : List Head :=
  (s.members l).flatMap fun k => (List.range 16).filterMap fun g => s.headOf k c g

/-- The priority of a class (LAN_PFC_MAP). -/
def State.prio (s : State) (l c : Nat) : Nat := s.rdFld (lanReg l Reg.LAN_PFC_MAP) (3 * c + 2) (3 * c)

/-- R268: a class is paused by a received PFC. -/
def State.classPaused (s : State) (l c : Nat) : Bool :=
  Sparse.get (fun _ => 0) (s.port l).paused (s.prio l c) ≠ 0

/-- R261, R262, R264: the link starts frames. -/
def State.mayStart (s : State) (l : Nat) : Bool :=
  let x := s.port l
  s.portActs l && x.linkUp && !x.rxLf && !x.rxRf && !s.flt.safe && x.tx.isNone

/-- R354, less the gate: a head may start. -/
def State.headReady (s : State) (l c : Nat) : Bool :=
  let x := s.port l
  !s.classPaused l c && ((x.shaper 0).earn s.tim.ticks).ready && ((x.shaper (1 + c)).earn s.tim.ticks).ready

/-- R354: the eligible heads of a class. -/
def State.eligible (s : State) (l c : Nat) : List Head :=
  if s.headReady l c then (s.heads l c).filter fun h => s.gateFits l c h.len else []

/-- R362: the heads of a class that only their gate holds. -/
def State.gateHeld (s : State) (l c : Nat) : List Head :=
  if s.headReady l c then (s.heads l c).filter fun h => !s.gateFits l c h.len else []

/-- The length that deficits are charged with (R355, R356). -/
def State.schedLen (s : State) (l : Nat) (len : Nat) : Nat := ((s.port l).shaper 0).shaped len

/-- Deficit round robin over places 0 to n − 1: the place served last keeps its turn while its deficit covers its head;
else the next place with a head gets its quantum. The answer is the place served and the deficits, not yet charged. -/
def drrPick (n : Nat) (quantum : Nat → Nat) (cost : Nat → Option Nat) : Nat → Nat → Sparse Int → Option (Nat × Sparse Int)
  | 0, _, _ => none
  | f + 1, at_, d =>
    match cost at_ with
    | some c =>
      if (c : Int) ≤ Sparse.get (fun _ => 0) d at_ then some (at_, d)
      else
        match nextFrom n (at_ + 1) fun i => (cost i).isSome with
        | some i => drrPick n quantum cost f i (Sparse.set (fun _ => 0) d i (Sparse.get (fun _ => 0) d i + quantum i))
        | none => none
    | none =>
      match nextFrom n (at_ + 1) fun i => (cost i).isSome with
      | some i => drrPick n quantum cost f i (Sparse.set (fun _ => 0) d i (Sparse.get (fun _ => 0) d i + quantum i))
      | none => none

/-- drr(k) of R355: the head that a class's deficit round robin serves, and the deficits before its charge, by
128c + leaf. -/
def State.drr (s : State) (l c : Nat) : Option (Head × Nat × Sparse Int) :=
  let x := s.port l
  let hs := s.eligible l c
  let q := max 1 (s.rdFld (quePort l Reg.QUE_FG) 15 0)
  let cost (i : Nat) : Option Nat := (hs.find? fun h => decide (h.leaf l = i)).map fun h => s.schedLen l h.len
  let d0 := (x.qDef.filter fun p => decide (p.1 / 128 = c)).map fun p => (p.1 % 128, p.2)
  match drrPick 128 (fun _ => q) cost 4194304 (Sparse.get (fun _ => 127) x.qLast c) d0 with
  | none => none
  | some (i, d) => (hs.find? fun h => decide (h.leaf l = i)).map fun h => (h, i, d)

/-- What a pick changes beside the queue: the class and leaf served, and the deficits before the charge. -/
structure Pick where
  head : Head
  leaf : Nat
  qDef : Sparse Int
  clsDef : Option (Sparse Int)

/-- R355: pick one eligible frame. -/
def State.pick (s : State) (l : Nat) : Option Pick :=
  let strict (k : Nat) : Bool := s.rdBit (quePort l Reg.QUE_STRICT) k
  let got : Option Pick := [7, 6, 5, 4, 3, 2, 1, 0].findSome? fun k =>
    if strict k then (s.drr l k).map fun r => { head := r.1, leaf := r.2.1, qDef := r.2.2, clsDef := none } else none
  match got with
  | some p => some p
  | none =>
    let x := s.port l
    let cand (k : Nat) : Option (Head × Nat × Sparse Int) := if strict k then none else s.drr l k
    let cost (k : Nat) : Option Nat := (cand k).map fun r => s.schedLen l r.1.len
    let q (k : Nat) : Nat := max 1 (s.rdFld (quePort l (Reg.QUE_QUANTUM + 4 * k)) 15 0)
    match drrPick 8 q cost 262144 x.clsLast x.clsDef with
    | none => none
    | some (k, d) => (cand k).map fun r => { head := r.1, leaf := r.2.1, qDef := r.2.2, clsDef := some d }

/-- The deficits of other classes' leaves, and those of a class, by 128c + leaf. -/
def mergeDef (old : Sparse Int) (c : Nat) (d : Sparse Int) : Sparse Int :=
  d.foldl (fun m p => Sparse.set (fun _ => 0) m (128 * c + p.1) p.2) (old.filter fun p => decide (p.1 / 128 ≠ c))

/-- The frame picked leaves its queue: shapers and deficits are charged; a queue or class that empties loses its
deficit. -/
def State.takeHead (s : State) (l : Nat) (p : Pick) : State :=
  let h := p.head
  let rest := (s.queue h.port h.cls h.fg).tail
  let s1 := s.setQueue h.port h.cls h.fg rest
  let x := s1.port l
  let n : Int := (s.schedLen l h.len : Nat)
  let qd := Sparse.set (fun _ => 0) p.qDef p.leaf (if rest.isEmpty then 0 else Sparse.get (fun _ => 0) p.qDef p.leaf - n)
  let cd := match p.clsDef with
    | none => x.clsDef
    | some d => Sparse.set (fun _ => 0) d h.cls
        (if (s1.heads l h.cls).isEmpty then 0 else Sparse.get (fun _ => 0) d h.cls - n)
  let y := { x with
    qDef := mergeDef x.qDef h.cls qd
    qLast := Sparse.set (fun _ => 127) x.qLast h.cls p.leaf
    clsDef := cd
    clsLast := if p.clsDef.isSome then h.cls else x.clsLast
    gates := { x.gates with waited := x.gates.waited.filter fun m => decide (m ≠ h.pkt) } }
  let z := (y.setShaper 0 (((y.shaper 0).earn s.tim.ticks).charge h.len))
  (s1.setPort l (z.setShaper (1 + h.cls) (((z.shaper (1 + h.cls)).earn s.tim.ticks).charge h.len))).checkHead h.port h.cls h.fg

/-- R362: heads that their gates hold for the first time are counted. -/
def State.countGateWaits (s : State) (l : Nat) : State :=
  let x := s.port l
  let new := ((List.range 8).flatMap fun c => (s.gateHeld l c).map fun h => h.pkt).filter fun n => !x.gates.waited.contains n
  if new.isEmpty then s
  else (s.setPort l { x with gates := { x.gates with waited := x.gates.waited ++ new } }).bump (quePort l 0x1C8) new.length

/-! ### The commands -/

/-- CREDIT_WITHDRAW (R346). -/
def execCreditWithdraw (c : Fin 16) (j : Fin 512) (k : Fin 8) (s : State) : Host.Outcome State Fault Refusal :=
  .next (s.creditWithdraw c.val j.val k.val)
/-- CREDIT_RELEASE (R348). -/
def execCreditRelease (c : Fin 16) (j : Fin 512) (k : Fin 8) (s : State) : Host.Outcome State Fault Refusal :=
  .next (s.creditRelease c.val j.val k.val)
/-- SHAPER_CFG_WRITE (R358). -/
def execShaperCfgWrite (p : CmdPort) (k : Fin 512) (sh : Fin 9) (v : Word) (s : State) :
    Host.Outcome State Fault Refusal :=
  .next (s.access p (quePort k.val (shaperOff sh.val)) 1 fun s => s.writeShaper p k.val sh.val v)
/-- SHAPER_HOLD_WRITE (R358): RATE or BURST is held. -/
def execShaperHoldWrite (p : CmdPort) (k : Fin 512) (sh : Fin 9) (burst : Bool) (v : Word) (s : State) :
    Host.Outcome State Fault Refusal :=
  let a := quePort k.val (shaperOff sh.val + (if burst then 8 else 4))
  .next (s.access p a 1 fun s => s.writeLead p k.val a v)
/-- GATE_LIST_WRITE (R359): an entry of an area, or its length. -/
def execGateListWrite (p : CmdPort) (k : Fin 512) (a : Fin 2) (e : Option (Fin 256)) (v : Word) (s : State) :
    Host.Outcome State Fault Refusal :=
  let at_ := match e with
    | some i => queReg (chipOf k.val) (Reg.QUE_GATE_LIST + 0x800 * (k.val % 32) + 0x400 * a.val + 4 * i.val)
    | none => quePort k.val (Reg.QUE_GATE_LEN + 4 * a.val)
  .next (s.access p at_ 1 fun s => s.writeGateList p k.val a.val at_ v)
/-- GATE_REQ: QUE_GATE_CTRL.REQ (R360). -/
def execGateReq (p : CmdPort) (k : Fin 512) (v : Word) (s : State) : Host.Outcome State Fault Refusal :=
  .next (s.access p (quePort k.val Reg.QUE_GATE_CTRL) 1 fun s => s.writeGateCtrl p k.val (withBit v 1))
/-- GATE_CANCEL: QUE_GATE_CTRL.CANCEL (R360). -/
def execGateCancel (p : CmdPort) (k : Fin 512) (v : Word) (s : State) : Host.Outcome State Fault Refusal :=
  .next (s.access p (quePort k.val Reg.QUE_GATE_CTRL) 1 fun s => s.writeGateCtrl p k.val (withBit v 2))
/-- GATE_EN_WRITE: QUE_GATE_CTRL.GATE_EN (R361). -/
def execGateEnWrite (p : CmdPort) (k : Fin 512) (v : Word) (s : State) : Host.Outcome State Fault Refusal :=
  .next (s.access p (quePort k.val Reg.QUE_GATE_CTRL) 1 fun s => s.writeGateCtrl p k.val v)
/-- GATE_TAKEOVER (R360). -/
def execGateTakeover (k : Fin 512) (s : State) : Host.Outcome State Fault Refusal := .next (s.gateTakeover k.val)
/-- GATE_ENTRY_ADVANCE (R362). -/
def execGateEntryAdvance (k : Fin 512) (s : State) : Host.Outcome State Fault Refusal := .next (s.gateAdvance k.val)

end Sys2Proof.Machine
end

