-- ==== Sys2Proof/Machine/Buffer.lean ====
section
/-! DEFINITION. The Decram stacks (10_policing_and_buffer.md): corrected and uncorrectable reads (R330, R331), retired
pages (R332), pseudo-channel replacement (R334, R335) and the patrol scrub (R336). -/

namespace Sys2Proof.Machine

open Sys2Proof

/-- The interrupt vector of a chiplet (R507). -/
def chipVec (c : Nat) : Nat := 16 + c

/-- The fault code of a stack. -/
def stackCode (c : Nat) : BitVec 16 := faultCode fbChip (256 + c)

/-! ### Pseudo-channel replacement (R334, R335) -/

/-- The physical pseudo-channel of a logical one. -/
def Chip.phys (x : Chip) (l : Nat) : Nat := Sparse.get id x.pchMap l

/-- A logical channel is served by a spare. -/
def Chip.replaced (x : Chip) (l : Nat) : Bool := decide (x.phys l ≠ l)

/-- A replacement starts; the lowest spare takes the channel. -/
def State.startReplace (s : State) (c : Nat) (l : Fin 32) (spare : Nat) : State :=
  (s.setChip c { s.chip c with move := some { channel := l, spare := spare } }).irqIf (bufReg c Reg.BUF_CTRL) 2 (chipVec c)

/-- An automatic trigger (R334): it waits while a replacement of another channel runs (assumption 134); with no spare it
raises a lasting fault (R335). -/
def State.autoReplace (s : State) (c l : Nat) : State :=
  let x := s.chip c
  if x.move.isSome then
    if (x.move.map fun m => m.channel.val) = some l ∨ x.waitPch.contains l then s
    else s.setChip c { x with waitPch := x.waitPch ++ [l] }
  else
    match x.spares with
    | [] => s.raise (stackCode c) 2
    | sp :: _ => s.startReplace c (Fin.ofNat 32 l) sp

/-- The refusal bits of a GO of BUF_PCH_REPLACE (R334, R335): a replacement runs; no spare is left. -/
def Chip.pchRefusals (x : Chip) : List Nat :=
  (if x.move.isSome then [29] else []) ++ (if x.spares.isEmpty then [30] else [])

/-- A write of BUF_PCH_REPLACE; a refused GO sets every refusal bit that applies (R628). -/
def State.writePchReplace (s : State) (p : CmdPort) (c : Nat) (v : Word) : State :=
  let a := bufReg c Reg.BUF_PCH_REPLACE
  let s1 := s.plainWrite p a v
  if bit v 31 then
    match (s1.chip c).pchRefusals, (s1.chip c).spares with
    | [], sp :: _ => (s1.startReplace c (Fin.ofNat 32 (fld v 4 0)) sp).wrBit a 31 true
    | bs, _ => (bs.foldl (fun t b => t.wrBit a b true) s1).irqIf (bufReg c Reg.BUF_CTRL) 2 (chipVec c)
  else s1

/-! ### Retired pages (R332) -/

/-- The retired pages of a logical channel. -/
def Chip.pagesOf (x : Chip) (l : Nat) : Nat := (x.pages.filter fun p => decide (p.channel = l)).length

/-- The retired pages that the repair map holds. -/
def Chip.pagesRecorded (x : Chip) : Nat := (x.pages.filter fun p => p.recorded).length

/-- No segment of a page is allocated again: its indices leave the free list of their channel. -/
def Chip.dropFree (x : Chip) (hold : Bool) (l idx : Nat) : Chip :=
  let r := x.region hold
  x.setRegion hold { r with
    ret := Sparse.set (fun _ => []) r.ret l
      ((Sparse.get (fun _ => []) r.ret l).filter fun i => decide (i / 8 ≠ idx / 8)) }

/-- R332: the page of a segment is retired. -/
def State.retirePage (s : State) (c : Nat) (g : BitVec 32) : State :=
  let x := s.chip c
  let hold := segHold g
  let l := segChan g
  let idx := segIdx g
  if x.retired hold l idx then s
  else
    let room := decide (x.pagesRecorded < 8192)
    let y := { x.dropFree hold l idx with
      pages := x.pages ++
        [{ region := if hold then 1 else 0, channel := l, index := idx / 8, recorded := room, past := !room }]
      retireFull := x.retireFull || !room }
    let s1 := (s.setChip c y).bump (bufReg c 0x810) 1
    let s2 := if room || x.retireFull then s1 else s1.raise (stackCode c) 2
    if y.pagesOf l = 1024 then s2.autoReplace c l else s2

/-! ### Reads (R330, R331) -/

/-- A second in ns. -/
def oneSec : Nat := 1000000000

/-- R330: a corrected read of a segment; beyond the limit of its channel within a second a replacement starts (R334). -/
def State.correctedRead (s : State) (c : Nat) (g : BitVec 32) : State :=
  let s1 := (s.bump (bufReg c 0x800) 1).raise (stackCode c) 0
  let x := s1.chip c
  let l := segChan g
  let now := s1.nowNs
  let ts := now :: (Sparse.get (fun _ => []) x.ceTimes l).filter fun t => decide (now < t + oneSec)
  let limit := s1.rdFld (bufReg c Reg.BUF_PCH_CE_LIMIT) 15 0
  if limit ≠ 0 ∧ limit < ts.length then
    (s1.setChip c { x with ceTimes := Sparse.set (fun _ => []) x.ceTimes l [] }).autoReplace c l
  else s1.setChip c { x with ceTimes := Sparse.set (fun _ => []) x.ceTimes l ts }

/-- R236: the stored copy of a burst that awaits retransmission is lost: GAP_REQUEST with cause DRAM. -/
def State.askGap (s : State) (i j seq : Nat) (cause : GapCause) : State :=
  let x := s.ingPair i j
  let f (b : IBurst) : IBurst := if b.seq = seq then { b with st := .gapAsked } else b
  (s.setIngPair i j { x with bursts := x.bursts.map f }).send (.gapReq i j seq cause)

/-- The bursts of an ingress chiplet that await retransmission and hold a segment. -/
def State.failedWith (s : State) (c : Nat) (g : BitVec 32) : List (Nat × Nat × Nat) :=
  s.brt.ing.flatMap fun x =>
    if chipOf (x.1 / 512) = c then
      (x.2.bursts.filter fun b => decide (b.st = .failed) && b.segs.any fun r => decide (r.seg = g)).map fun b =>
        (x.1 / 512, x.1 % 512, b.seq)
    else []

/-- R331: an uncorrectable segment: counted, its page retired, a transient fault raised; a segment in use is poisoned,
and a burst that awaits retransmission with it asks for a gap. -/
def State.uncorrectable (s : State) (c : Nat) (g : BitVec 32) : State :=
  let s1 := ((s.bump (bufReg c 0x808) 1).irqIf (bufReg c Reg.BUF_CTRL) 1 (chipVec c)).raise (stackCode c) 1
  let s2 := s1.retirePage c g
  let x := s2.chip c
  if (x.region (segHold g)).used.contains g then
    let s3 := s2.setChip c { x with poisoned := if x.poisoned.contains g then x.poisoned else x.poisoned ++ [g] }
    if segHold g then s3 else (s3.failedWith c g).foldl (fun s b => s.askGap b.1 b.2.1 b.2.2 .dram) s3
  else s2

/-- One read of a segment at a chiplet. -/
def State.segRead (s : State) (c : Nat) (r : SegRead) : State :=
  match r.res with
  | .clean => s
  | .corrected => s.correctedRead c r.seg
  | .uncorrectable => s.uncorrectable c r.seg

/-- A segment reads uncorrectable: it is poisoned. -/
def State.isPoisoned (s : State) (c : Nat) (g : BitVec 32) : Bool := (s.chip c).poisoned.contains g

/-- A packet has a segment that reads uncorrectable. -/
def State.pktPoisoned (s : State) (c : Nat) (p : Pkt) : Bool := p.segs.any fun g => s.isPoisoned c g

/-! ### Scrub and replacement events -/

/-- SCRUB_READ (R336). A table unit that reads uncorrectable raises the fault of R294 and stays so. A pass ends with the last
table unit. -/
def State.scrub (s : State) (c : Nat) (t : ScrubTarget) (r : EccResult) : State :=
  if s.chipOn c && (s.chip c).stackUp && s.rdBit (bufReg c Reg.BUF_CTRL) 0 then
    match t with
    | .segment g => s.segRead c { seg := g, res := r }
    | .table n =>
      let x := s.chip c
      let s1 :=
        if r = .uncorrectable ∧ !x.tblPoisoned.contains n.toNat then
          (s.setChip c { x with tblPoisoned := x.tblPoisoned ++ [n.toNat] }).tblFault c n.toNat
        else s.tblFault c n.toNat
      if n = 67108863 then s1.bump (bufReg c 0x818) 1 else s1
  else s

/-- PCH_COPY_DONE (R334): the map switches to the spare; segments that read uncorrectable during the copy are poisoned, and
the triggers that waited act in the order in which they came. -/
def State.pchCopyDone (s : State) (c : Nat) (bad : List (BitVec 32)) : State :=
  let x := s.chip c
  match x.move with
  | none => s
  | some m =>
    let s1 := s.setChip c { x with
      move := none
      pchMap := Sparse.set id x.pchMap m.channel.val m.spare
      spares := x.spares.filter fun p => decide (p ≠ m.spare) }
    let s2 := ((s1.bump (bufReg c 0x820) 1).wrBit (bufReg c Reg.BUF_PCH_REPLACE) 31 false).irqIf
      (bufReg c Reg.BUF_CTRL) 2 (chipVec c)
    let s3 := bad.foldl (fun s g => s.uncorrectable c g) s2
    let y := s3.chip c
    y.waitPch.foldl (fun s l => s.autoReplace c l) (s3.setChip c { y with waitPch := [] })

/-! ### The commands -/

/-- SCRUB_READ (R336). -/
def execScrubRead (c : Fin 16) (t : ScrubTarget) (r : EccResult) (s : State) : Host.Outcome State Fault Refusal :=
  .next (s.scrub c.val t r)
/-- PCH_REPLACE: BUF_PCH_REPLACE.GO, class 4 (R334, R338). -/
def execPchReplace (p : CmdPort) (c : Fin 16) (v : Word) (s : State) : Host.Outcome State Fault Refusal :=
  .next (s.access p (bufReg c.val Reg.BUF_PCH_REPLACE) 4 fun s => s.writePchReplace p c.val (withBit v 31))
/-- PCH_COPY_DONE (R334). -/
def execPchCopyDone (c : Fin 16) (poisoned : List (BitVec 32)) (s : State) : Host.Outcome State Fault Refusal :=
  .next (s.pchCopyDone c.val poisoned)

end Sys2Proof.Machine
end

