-- ==== Sys2Proof/Machine/Global.lean ====
section
/-! DEFINITION. What the families share of the global state: the end of a start-up step (R546) and the entry to SERVICE
(R555, R558). -/

namespace Sys2Proof.Machine

open Sys2Proof

/-- The end of step k of the start-up sequence. The always-on domain's count of µs is no part of the model, so what
GLB_STEP_TIME[k] then reads is a free value (assumption 15). The LOCKING that follows a START_FULL is no start-up. -/
def State.stepEnd (s : State) (k : Nat) : State :=
  if s.glb.calReturn then s
  else
  let f := s.free
  { f.2 with glb := { f.2.glb with step := k + 1, stepTime := f.2.glb.stepTime.setIfInBounds k f.1 } }

/-- ENTRIES_VALID sets in LOCKING: the device enters SERVICE, or returns to QUIESCED after a START_FULL (R555, R558). -/
def State.leaveLocking (s : State) : State :=
  let s1 := s.stepEnd 11
  if s1.glb.calReturn then
    { s1.setGState .quiesced with glb := { (s1.setGState .quiesced).glb with calReturn := false } }
  else
    let f := s1.free
    let s2 := f.2.setGState .service
    { s2 with glb := { s2.glb with startTime := f.1 } }

/-- HALTED, with its cause: Prism does not run there (R190). A later cause does not replace the first. -/
def State.halt (s : State) (cause : BitVec 4) : State :=
  if s.glb.state = .halted then s
  else
    let s1 := (s.setGState .halted).stopPrism
    { s1 with glb := { s1.glb with haltCause := cause } }

end Sys2Proof.Machine
end

