-- ==== Sys2Proof/Machine/Wire.lean ====
section
/-! DEFINITION. The burst on the wire (R217 to R221): descriptors and records, the header and its CRC, the codewords of
RS(544,514), PAM4 symbols, and what a receiver decodes. -/

namespace Sys2Proof.Machine

open Sys2Proof

/-! ### Records (R217, R221) -/

/-- The 256 bytes of segment t of a packet; the unused ones of its last segment are zero. -/
def Pkt.segBytes (p : Pkt) (t : Nat) : List Byte := (List.range 256).map fun b => p.bytes.getD (256 * t + b) 0

/-- The bytes as words, four at a time. -/
def packBytes : List Byte → List Word
  | b0 :: b1 :: b2 :: b3 :: t => wordOfBytes b0 b1 b2 b3 :: packBytes t
  | _ => []

/-- R272: the descriptor holds a time-stamp. -/
def Pkt.stamped (p : Pkt) : Bool := p.cfh.any fun h => h.tsReq

/-- Table: Segment descriptor. A field that the segment does not use is 0 (DESIGN CHOICE, assumption 128). -/
def Pkt.descriptor (p : Pkt) (g : SegRef) : List Word :=
  let ts (n : Nat) : Nat := if p.stamped then n else 0
  [pack [(31, b2n g.sop), (30, b2n g.eop), (22, if g.eop then p.bytes.length % 256 else 0), (19, g.cls % 8),
     (15, p.fg % 16), (14, b2n p.stamped), (13, b2n p.ce), (12, b2n p.fParse), (11, b2n p.fLen), (9, p.colour % 4)],
   pack [(18, if g.sop then p.bytes.length % 16384 else 0)],
   BitVec.ofNat 32 (ts (p.rx / 64 % 4294967296).toNat),
   pack [(16, ts ((p.rx % 64).toNat * 1024))]]

/-- A record: the descriptor and the segment. -/
def State.segRecord (s : State) (g : SegRef) : List Word :=
  match s.pkt g.pkt with
  | some p => p.descriptor g ++ packBytes (p.segBytes g.idx)
  | none => List.replicate 68 0

/-! ### The header (R219, R220) -/

/-- Table: Burst header, with the CRC field at zero. -/
def State.burstHeader (s : State) (f : Flight) : List Word :=
  [pack [(28, 1), (24, 1), (15, f.i % 512), (6, f.j % 512), (3, (s.tenant f.i).val), (1, f.epoch % 4), (0, b2n f.retx)],
   pack [(16, f.seq % 65536), (8, f.segs.length % 256)], BitVec.ofNat 32 f.slot, 0, 0, 0, 0, 0]

/-- The content of a burst before its CRC is set. -/
def State.rawContent (s : State) (f : Flight) : List Word := s.burstHeader f ++ f.segs.flatMap s.segRecord

/-- R219: the content with the CRC-32C of header, CRC field at zero, and records. -/
def withCrc (ws : List Word) : List Word := ws.set 3 (crcWords (ws.set 3 0))

/-- R219: the CRC of a content matches. -/
def crcMatches (ws : List Word) : Bool := decide (ws.getD 3 0 = crcWords (ws.set 3 0))

/-- The content that a burst carries. -/
def State.burstContent (s : State) (f : Flight) : List Word := withCrc (s.rawContent f)

/-! ### Codewords (R217) -/

/-- R217: the codewords of a burst of n segments. -/
def codewords (n : Nat) : Nat := (256 + 2176 * n + 5139) / 5140

/-- The product in GF(2^10), with the polynomial x^10 + x^3 + 1 (PRESUMED, assumption 129). -/
def gfMul (a b : Nat) : Nat :=
  ((List.range 10).foldl (fun (x : Nat × Nat) i =>
    (if b.testBit i then x.1 ^^^ x.2 else x.1, if 512 ≤ x.2 then (2 * x.2) ^^^ 1033 else 2 * x.2)) (0, a)).1

/-- The generator polynomial of degree 30, below its leading 1, from the highest power down. -/
def rsGen : List Nat :=
  ((List.range 30).foldl (fun (x : List Nat × Nat) _ =>
    ((x.1 ++ [0]).zipWith (fun a b => a ^^^ gfMul x.2 b) (0 :: x.1), gfMul x.2 2)) ([1], 1)).1.tail

/-- The parity symbols of a message of 514 symbols. -/
def rsParity (m : List Nat) : List Nat :=
  m.foldl (fun r x =>
    let fb := x ^^^ r.headD 0
    (r.tail ++ [0]).zipWith (fun a g => a ^^^ gfMul fb g) rsGen) (List.replicate 30 0)

/-- A list in pieces of n, the last one filled up with zeros. -/
def piecesOf (n : Nat) (l : List Nat) : Nat → List (List Nat)
  | 0 => []
  | k + 1 => ((l.take n) ++ List.replicate (n - (l.take n).length) 0) :: piecesOf n (l.drop n) k

/-- The bits of a content, each byte from its least significant bit (PRESUMED, assumption 129). -/
def contentBits (ws : List Word) : List Nat := ws.flatMap fun w => (List.range 32).map fun i => b2n (w.getLsbD i)

/-- The number whose bits, least significant first, a list holds. -/
def bitsNat (l : List Nat) : Nat := l.foldr (fun b n => b + 2 * n) 0

/-- The codewords of a content: 514 symbols of 10 bits, padded with zero bits, and their 30 parity symbols. -/
def burstCodewords (ws : List Word) : List (List Nat) :=
  (piecesOf 5140 (contentBits ws) (codewords ((ws.length - 8) / 68))).map fun b =>
    let m := (piecesOf 10 b 514).map bitsNat
    m ++ rsParity m

/-- The PAM4 level of two bits, Gray coded. -/
def grayLevel (a b : Nat) : Nat := 2 * a + (a + b) % 2

/-- The PAM4 symbols of a burst's codewords. -/
def burstSymbols (ws : List Word) : List Nat :=
  (burstCodewords ws).flatMap fun c => c.flatMap fun x =>
    (List.range 5).map fun i => grayLevel (x / 2 ^ (2 * i) % 2) (x / 2 ^ (2 * i + 1) % 2)

/-- R218: a codeword with more symbol errors than half its parity symbols cannot be corrected. -/
def fecFails (errs : List Nat) : Bool := errs.any fun n => decide (15 < n)

/-! ### Reception -/

/-- A bit of a content arrives inverted. -/
def flipBit (ws : List Word) (b : Nat) : List Word := ws.set (b / 32) (ws.getD (b / 32) 0 ^^^ BitVec.ofNat 32 (2 ^ (b % 32)))

/-- The content that the receiver of a flight's detector decodes: that of the burst whose light reaches it in the flight's
slot, less what the decoding got wrong; none without a start delimiter. -/
def State.received (s : State) (f : Flight) (o : RxObs) : Option (List Word) :=
  match o.light with
  | none => none
  | some i => (s.brt.flights.find? fun g => decide (g.i = i.val ∧ g.slot = f.slot)).map fun g => o.flips.foldl flipBit g.words

/-- R219, R220: CRC, VER and TYPE of a content are good. -/
def headerGood (ws : List Word) : Bool :=
  crcMatches ws && decide (fld (ws.getD 0 0) 31 28 = 1) && decide (fld (ws.getD 0 0) 27 24 = 1)

/-- R232: SRC, DST and TENANT of a content are those of a pair. -/
def State.routedRight (s : State) (ws : List Word) (i j : Nat) : Bool :=
  let w := ws.getD 0 0
  decide (fld w 23 15 = i) && decide (fld w 14 6 = j) && decide (fld w 5 3 = (s.tenant j).val)

end Sys2Proof.Machine
end

