-- ==== Sys2Proof/Machine/Transport.lean ====
section
/-! DEFINITION. Burst transport (07_burst_transport.md): receivers and the phase cache (R225 to R230), burst assembly
(R353), notices, verdicts and answers (R231 to R239), gaps (R240, R241), transfer boundaries (R234), epochs (R243), the
ledger mirror and the loss of a chiplet (R248, R350), and snapshots (R250). -/

namespace Sys2Proof.Machine

open Sys2Proof

/-! ### Pairs -/

/-- R243: the EPOCH of a pair. -/
def State.epochOf (s : State) (i j : Nat) : Nat :=
  let f (c : Nat) : Nat := s.brt.epochChip.toList.getD c 0
  (s.brt.epochAll + f (chipOf i) + (if chipOf i = chipOf j then 0 else f (chipOf j))) % 4

/-- The egress side of a pair. -/
def State.egrPair (s : State) (i j : Nat) : EgrPair := Sparse.get (fun _ => {}) s.brt.egr (512 * i + j)

/-- Replace the egress side of a pair. -/
def State.setEgrPair (s : State) (i j : Nat) (x : EgrPair) : State :=
  { s with brt := { s.brt with egr := Sparse.set (fun _ => {}) s.brt.egr (512 * i + j) x } }

/-- d of R239. -/
def EgrPair.dist (x : EgrPair) (seq : Nat) : Nat := (seq + 65536 - x.e) % 65536

/-- A SEQ is accepted and not yet released. -/
def EgrPair.holds (x : EgrPair) (seq : Nat) : Bool := x.held.any fun b => decide (b.seq = seq)

/-- A SEQ is ahead of the pair and not accepted. -/
def EgrPair.missing (x : EgrPair) (seq : Nat) : Bool := decide (x.dist seq < 8192) && !x.holds seq

/-- R240: the egress learns of a SEQ that it has not accepted. -/
def EgrPair.learn (x : EgrPair) (now seq : Nat) : EgrPair :=
  if x.missing seq && !x.learned.any (fun p => decide (p.1 = seq)) then { x with learned := x.learned ++ [(seq, now)] }
  else x

/-! ### Receivers (R225 to R230) -/

/-- A receiver. -/
def State.rx (s : State) (j : Nat) : Rx := Sparse.get (fun _ => {}) s.brt.rx j

/-- Replace a receiver. -/
def State.setRx (s : State) (j : Nat) (x : Rx) : State :=
  { s with brt := { s.brt with rx := Sparse.set (fun _ => {}) s.brt.rx j x } }

/-- The entry of a source in a receiver. -/
def Rx.entry (x : Rx) (i : Nat) : PhaseEntry := Sparse.get (fun _ => {}) x.entries i

/-- Replace the entry of a source. -/
def Rx.setEntry (x : Rx) (i : Nat) (e : PhaseEntry) : Rx := { x with entries := Sparse.set (fun _ => {}) x.entries i e }

/-- The lock that a receiver shows for its source: a lock, LOCK_FAIL (R227) or COLD (R229). Without a measured preamble the
entry decides. -/
def Rx.lockOf (x : Rx) (i : Nat) : Nat :=
  if x.lock = 0 then (if (x.entry i).valid then 1 else 3) else x.lock.val

/-- The lock that a receiver had for a burst from i in a slot: the slot of its latest load, or the one before. -/
def Rx.lockFor (x : Rx) (i slot : Nat) : Nat :=
  if x.slot = slot then x.lockOf i
  else if x.wasSlot = slot ∧ x.was ≠ 0 then x.was.val
  else if (x.entry i).valid then 1 else 3

/-- R211: a receiver at the guard of slot n, without a source as yet: one that the final list gives none does not lock. -/
def Rx.unload (x : Rx) (n : Nat) : Rx :=
  { x with
    loaded := none, lock := 0, slot := n, wasSlot := x.slot
    was := match x.loaded with | some i => Fin.ofNat 4 (x.lockOf i) | none => 0 }

/-- RECEIVER_PHASE_LOAD (R211): each receiver loads the entry of the source that the slot's list names. In an IDLE slot no
receiver locks (R212). -/
def State.phaseLoad (s : State) : State :=
  if s.drv.inGuard then
    let n := s.slt.slot
    let s1 := { s with brt := { s.brt with rx := Sparse.mapVals (fun _ => {}) (fun x => x.unload n) s.brt.rx } }
    s1.slt.cur.pairs.foldl (fun s q => s.setRx q.2 { s.rx q.2 with loaded := some q.1, lock := 0, slot := n }) s1
  else s

/-- LOCK_TOL in 1/64 UI. -/
def State.lockTol (s : State) : Nat := min 32 (s.rdFld Reg.BRT_CFG 9 4)

/-- R226: a residual of r in 1/64 UI moves the entry by r and the common offset by r/16. -/
def Rx.track (x : Rx) (i : Nat) (r : Int) (tol : Nat) : Rx :=
  let e := x.entry i
  { x.setEntry i { e with phase := e.phase + 16 * r } with
    offset := x.offset + r, lock := if r.natAbs ≤ tol then 1 else 2 }

/-- R228, R229: a cold lock writes the entry; the phase measured includes the common offset. -/
def Rx.coldLock (x : Rx) (i : Nat) (c : Option (BitVec 6 × BitVec 6 × BitVec 8)) : Rx :=
  match c with
  | some (ph, ui, g) =>
    { x.setEntry i { phase := 16 * (ph.toNat : Int) - x.offset, uiOff := ui, gain := g, valid := true } with lock := 3 }
  | none => { x with lock := 3 }

/-- R230: the entry of source i is required at the receiver of DETj. -/
def State.required (s : State) (i j : Nat) : Bool :=
  decide (s.tenant i = s.tenant j) && s.imgEnables i && !(s.bank (i / 16)).dark.getLsbD (i % 16)

/-- Every required entry of a receiver is VALID. -/
def State.entriesAt (s : State) (j : Nat) : Bool :=
  (List.range 512).all fun i => !s.required i j || ((s.rx j).entry i).valid

/-- BRT_STATUS.ENTRIES_VALID (R230). Once Prism has started, a receiver without power is left out (assumption 62); before an
image is in force there is no enabled receiver, and the bit reads its reset value. -/
def State.entriesValid (s : State) : Bool :=
  s.img.inForce.isSome &&
  (List.range 512).all fun j => !(s.imgEnables j && (s.portPowered j || s.slt.start.isNone)) || s.entriesAt j

/-- R258: training starts where ENABLE has come to act; during a remap it waits for the new lane (R264). -/
def State.startTraining (s : State) (k : Nat) : State :=
  let x := s.port k
  if s.portActs k && decide (x.train = 0) && !s.remapping k then
    (s.setPort k { x with train := if bit (s.portCtrl k) 1 then 1 else 2 }).wrBit (lanReg k Reg.LAN_PORT_CTRL) 5 false
  else s

/-- Start training on every lead port whose ENABLE acts. -/
def State.startAll (s : State) : State :=
  (List.range 512).foldl (fun s k => if s.isLead k then s.startTraining k else s) s

/-- A port is ready: the required entries of its receiver are VALID. -/
def State.markReady (s : State) (j : Nat) : State :=
  if s.portPowered j && s.entriesAt j then s.setPort j { s.port j with ready := true } else s

/-- What a newly VALID entry brings: SERVICE (R555), or the ports of a lane domain that restarted (R562). -/
def State.entriesStep (s : State) (j : Nat) : State :=
  if s.glb.state = .locking ∧ s.slt.start.isSome = true ∧ s.entriesValid = true then
    ((List.range 512).foldl State.markReady s).leaveLocking.startAll
  else if s.glb.state.portsAct && !(s.port j).ready then
    let s1 := s.markReady j
    s1.startTraining (s1.lead j)
  else s

/-- PREAMBLE_END (R226 to R229). -/
def State.preambleEnd (s : State) (o : PreambleObs) : State :=
  let j := o.det.val
  let x := s.rx j
  match x.loaded with
  | none => s
  | some i =>
    if x.lock ≠ 0 ∨ s.portPowered j = false then s
    else if (x.entry i).valid then (s.setRx j (x.track i o.residual s.lockTol)).entriesStep j
    else (s.setRx j (x.coldLock i o.cold)).entriesStep j

/-- What BRT_PHASE_DATA holds of an entry: the phase in use, the common offset included; a carry moves UI_OFF. -/
def Rx.phaseWord (x : Rx) (i : Nat) : Word :=
  let e := x.entry i
  let t := if e.valid then (e.phase + x.offset) / 16 else 0
  let ph := (t % 64).toNat
  let ui := if e.valid then (((e.uiOff.toNat : Int) + t / 64) % 64).toNat else e.uiOff.toNat
  BitVec.ofNat 32 (ph + ui * 64 + e.gain.toNat * 4096 + b2n e.valid * 1073741824)

/-- A write of BRT_PHASE_SEL. -/
def State.writePhaseSel (s : State) (p : CmdPort) (v : Word) : State :=
  let s1 := s.plainWrite p Reg.BRT_PHASE_SEL v
  if bit v 31 then { s1 with brt := { s1.brt with phaseData := (s1.rx (fld v 8 0)).phaseWord (fld v 17 9) } } else s1

/-! ### Burst assembly (R353) -/

/-- A burst being filled: segments, room, round-robin pointers, packets left. -/
structure Fill where
  segs : List SegRef
  cap : Nat
  rr : Sparse Nat
  left : List (Nat × Pkt)

/-- The next segments of a packet, as far as there is room. -/
def Fill.take (f : Fill) (n : Nat) (p : Pkt) : Fill :=
  let m := min f.cap p.unsent
  { f with
    segs := f.segs ++ (List.range m).map fun t =>
      { pkt := n, idx := p.sent + t, sop := decide (p.sent + t = 0), eop := decide (p.sent + t + 1 = p.segs.length)
        cls := p.cls, seg := p.segs.getD (p.sent + t) 0 }
    cap := f.cap - m
    left := f.left.filter fun x => decide (x.1 ≠ n) }

/-- Step 3 of R353: the flow groups of a class in round-robin order, one packet per turn. -/
def Fill.runClass (k : Nat) : Nat → Fill → Fill
  | 0, f => f
  | t + 1, f =>
    if f.cap = 0 then f
    else
      match nextFrom 16 (Sparse.get (fun _ => 0) f.rr k) fun g => f.left.any fun x => decide (x.2.cls = k ∧ x.2.fg = g) with
      | none => f
      | some g =>
        match f.left.find? fun x => decide (x.2.cls = k ∧ x.2.fg = g) with
        | none => f
        | some x => Fill.runClass k t { f.take x.1 x.2 with rr := Sparse.set (fun _ => 0) f.rr k ((g + 1) % 16) }

/-- R353: the burst of a pair from its credited, unsent segments, and the round-robin pointers after it. -/
def State.assemble (s : State) (i j : Nat) : List SegRef × Sparse Nat :=
  let x := s.ingPair i j
  let cs := (s.voqPkts (chipOf i)).filter fun y =>
    decide (y.2.ing = i ∧ y.2.eg = j) && y.2.credited && decide (0 < y.2.unsent)
  let f0 : Fill := { segs := [], cap := 160, rr := x.rr, left := cs }
  let f1 := match cs.find? fun y => decide (x.span = some y.1) with
    | some y => f0.take y.1 y.2
    | none => f0
  let f2 := [7, 6, 5, 4, 3, 2, 1, 0].foldl (fun f k => Fill.runClass k (f.left.length + 1) f) f1
  (f2.segs, f2.rr)

/-- The first packet of a burst whose first segment enters it and that reads uncorrectable (R329). -/
def State.badPacket (s : State) (i : Nat) (segs : List SegRef) : Option Nat :=
  (segs.find? fun g => g.sop && (match s.pkt g.pkt with | some p => s.pktPoisoned (chipOf i) p | none => false)).map
    fun g => g.pkt

/-- R329, R331: assemble the burst of a pair; packets that read uncorrectable are discarded with reason DRAM_ECC. -/
def State.stagePair (s : State) (i j : Nat) : Nat → State × List SegRef × Sparse Nat
  | 0 => (s, [], (s.ingPair i j).rr)
  | f + 1 =>
    let a := s.assemble i j
    match s.badPacket i a.1 with
    | some n => State.stagePair (s.discardIngress n drDramEcc) i j f
    | none => (s, a.1, a.2)

/-- Assemble the burst of a pair, with room for every packet to be bad. -/
def State.stage (s : State) (i j : Nat) : State × List SegRef × Sparse Nat :=
  s.stagePair i j ((s.chip (chipOf i)).voq.length + 1)

/-- What a pair staged still stands: its packets are there and their next segments are those staged. -/
def State.stagedGood (s : State) (i : Nat) (segs : List SegRef) : Bool :=
  (s.badPacket i segs).isNone &&
  segs.all fun g => match s.pkt g.pkt with
    | some p => p.credited && decide (p.sent ≤ g.idx ∧ p.segs.getD g.idx 0 = g.seg) &&
        segs.any (fun h => decide (h.pkt = g.pkt ∧ h.idx = p.sent))
    | none => false

/-- Segments of packets enter a burst. -/
def State.markSent (s : State) (segs : List SegRef) : State :=
  segs.foldl (fun s g => s.modPkt g.pkt fun p => { p with sent := g.idx + 1 }) s

/-- A framed burst: its content is formed (R217), it will go in the window of this slot, and its NOTICE is sent (R231). -/
def State.frame (s : State) (f : Flight) : State :=
  let f1 := { f with words := s.burstContent f }
  ({ s with brt := { s.brt with staged := s.brt.staged ++ [f1] } }).send (.notice f.i f.j f.epoch f.seq f.segs.length)

/-- A new data burst of a pair takes the pair's next SEQ. -/
def State.newBurst (s : State) (i j : Nat) (segs : List SegRef) (rr : Sparse Nat) : State :=
  let x := s.ingPair i j
  let last := segs.getLast?
  let ep := s.epochOf i j
  let s1 := (s.markSent segs).setIngPair i j { x with
    nextSeq := (x.nextSeq + 1) % 65536
    bursts := x.bursts ++ [{ seq := x.nextSeq, epoch := ep, slot := s.slt.slot, segs := segs }]
    span := match last with
      | some g => if g.eop then none else some g.pkt
      | none => none
    rr := rr }
  s1.frame { i := i, j := j, slot := s.slt.slot, epoch := ep, seq := x.nextSeq, segs := segs, retx := false }

/-- R235: the retransmission of a repair pair, from the stored copy (R236). -/
def State.resend (s : State) (q : RepReq) : State :=
  let x := s.ingPair q.i q.j
  match x.bursts.find? fun b => decide (b.seq = q.seq) with
  | none => s
  | some b =>
    if b.st ≠ .failed then s
    else if b.segs.any fun g => s.isPoisoned (chipOf q.i) g.seg then s.askGap q.i q.j q.seq .dram
    else
      let f (y : IBurst) : IBurst := if y.seq = q.seq then { y with st := .sent, slot := s.slt.slot } else y
      ((s.setIngPair q.i q.j { x with bursts := x.bursts.map f }).bump 0xE00080 1).frame
        { i := q.i, j := q.j, slot := s.slt.slot, epoch := b.epoch, seq := b.seq, segs := b.segs, retx := true }

/-- R228: a rotation pair that carries no burst sends a preamble. -/
def State.preamble (s : State) (q : Pair) : State :=
  { s with brt := { s.brt with preambles := s.brt.preambles ++ [q] } }

/-- What one pair of the final list of the slot sends. -/
def State.launchPair (s : State) (staged : List (Pair × List SegRef × Sparse Nat)) (q : Pair) : State :=
  if !s.portPowered q.1 then s
  else
    match s.slt.cur.reps.find? fun r => decide ((r.i, r.j) = q) with
    | some r => s.resend r
    | none =>
      let none_ (s : State) : State := if s.slt.cur.kind = 1 then s.preamble q else s
      if 8192 ≤ (s.ingPair q.1 q.2).bursts.length then none_ s
      else
        let a : State × List SegRef × Sparse Nat :=
          match staged.find? fun x => decide (x.1 = q) with
          | some x => if s.stagedGood q.1 x.2.1 then (s, x.2.1, x.2.2) else s.stage q.1 q.2
          | none => s.stage q.1 q.2
        if a.2.1.isEmpty then none_ a.1 else a.1.newBurst q.1 q.2 a.2.1 a.2.2

/-- R210, R422: the bursts of a slot are framed: in ROTATION, DEMAND and REPAIR slots, and none in the safe state. -/
def State.launch (s : State) (staged : List (Pair × List SegRef × Sparse Nat)) : State :=
  let s1 := { s with brt := { s.brt with staged := [], preambles := [] } }
  let k := s1.slt.cur.kind
  if s1.flt.safe || !decide (k = 1 ∨ k = 2 ∨ k = 4) then s1
  else s1.slt.cur.pairs.foldl (fun s q => s.launchPair staged q) s1

/-- FINAL_LIST_DELIVERY (R210, R329, R353): at t = −120 ns the next slot's final list reaches the chiplets; segments are
read and checked, and each pair stages its burst. -/
def State.finalListDelivery (s : State) (reads : List (Fin 16 × SegRead)) : State :=
  if s.slt.running || s.slt.start.isSome then
    let s1 := reads.foldl (fun s r => s.segRead r.1.val r.2) s
    let n := s1.slt.slot + 1
    match s1.workFor n with
    | none => s1
    | some w =>
      match w.routed with
      | none => s1
      | some r =>
        if w.delivered || s1.isHeld n || s1.flt.safe || !decide (w.kind = 1 ∨ w.kind = 2) then s1
        else
          let a := (r.pairs.filter fun q => !w.reps.any fun x => decide ((x.i, x.j) = q)).foldl
            (fun (y : State × List (Pair × List SegRef × Sparse Nat)) q =>
              let z := y.1.stage q.1 q.2
              (z.1, y.2 ++ [(q, z.2.1, z.2.2)])) (s1, [])
          a.1.putWork { w with delivered := true, staged := a.2 }
  else s

/-- GUARD_END (R27, R130, R223): heater steps held through the guard are taken, and the bursts enter their windows. -/
def State.guardEnd (s : State) : State :=
  if s.drv.inGuard then
    let lo := s.slew false
    let hi := s.slew true
    { s with
      drv := { s.drv with inGuard := false, chans := Sparse.mapVals (fun _ => {}) (fun c => c.release lo hi) s.drv.chans }
      brt := { s.brt with flights := s.brt.flights ++ s.brt.staged, staged := [] } }
  else s

/-! ### Egress: release and gaps (R239 to R241) -/

/-- A segment of a released burst joins its frame, or is dropped with a packet that a gap took (R241). A frame that
cannot be whole is discarded. -/
def State.feed (s : State) (i j : Nat) (g : SegRef) : State :=
  let x := s.egrPair i j
  let keep := match s.pkt g.pkt with
    | some p => !p.gone
    | none => false
  let drop (s : State) : State :=
    let s1 := s.freeHold j [g]
    match s1.pkt g.pkt with
    | some p => if g.eop && p.moved then (s1.countDiscard (chipOf j) drGapTimeout).dropPkt g.pkt else s1
    | none => s1
  let done (s : State) (segs : List SegRef) : State :=
    match s.pkt g.pkt with
    | some p => s.enqueue j p.cls p.fg g.pkt segs
    | none => s.freeHold j segs
  if g.sop then
    let s1 := s.freeHold j x.part
    if keep then
      if g.eop then done (s1.setEgrPair i j { x with part := [], dropping := false }) [g]
      else s1.setEgrPair i j { x with part := [g], dropping := false }
    else drop (s1.setEgrPair i j { x with part := [], dropping := true })
  else if x.dropping || !keep || x.part.all (fun h => decide (h.pkt ≠ g.pkt)) then drop s
  else if g.eop then done (s.setEgrPair i j { x with part := [] }) (x.part ++ [g])
  else s.setEgrPair i j { x with part := x.part ++ [g] }

/-- Release the segments of a burst to the egress queues. -/
def State.feedAll (s : State) (i j : Nat) (segs : List SegRef) : State := segs.foldl (fun s g => s.feed i j g) s

/-- R239: release, in SEQ order, every accepted burst with SEQ = E whose transfer boundary has passed. -/
def State.release (s : State) (i j : Nat) : Nat → State
  | 0 => s
  | f + 1 =>
    let x := s.egrPair i j
    match x.held.find? fun b => decide (b.seq = x.e) && b.passed with
    | none => s
    | some b =>
      State.release ((s.setEgrPair i j { x with
        e := (x.e + 1) % 65536
        held := x.held.filter fun y => decide (y.seq ≠ x.e)
        learned := x.learned.filter fun p => decide (p.1 ≠ x.e) }).feedAll i j b.segs) i j f

/-- Release all that may go. -/
def State.releaseAll (s : State) (i j : Nat) : State := s.release i j ((s.egrPair i j).held.length + 1)

/-- The drop reason of a gap's cause. -/
def GapCause.reason : GapCause → Nat
  | .timeout => drGapTimeout
  | .retx => drGapRetx
  | .dram => drGapDram

/-- The SEQs of a gap: from E to the lowest held SEQ less 1, or E alone (R240). -/
def EgrPair.gapSeqs (x : EgrPair) : List Nat :=
  match (x.held.map fun b => x.dist b.seq).min? with
  | none => [x.e]
  | some d => (List.range (max 1 d)).map fun t => (x.e + t) % 65536

/-- The cause of a SEQ (R241). -/
def EgrPair.causeOf (x : EgrPair) (seq : Nat) : GapCause :=
  match x.causes.find? fun p => decide (p.1 = seq) with
  | some p => p.2
  | none => .timeout

/-- R241: a packet with a segment in a gap burst: one whose EOP has transferred is discarded and counted at the egress; the
others are marked, so that they do not transfer. -/
def State.gapPacket (s : State) (j : Nat) (cause : GapCause) (n : Nat) : State :=
  match s.pkt n with
  | none => s
  | some p =>
    if p.moved then (s.countDiscard (chipOf j) cause.reason).dropPkt n
    else s.setPkt n { p with gone := true }

/-- The packets of a burst of the ingress. -/
def State.burstPkts (s : State) (i j seq : Nat) : List Nat :=
  match (s.ingPair i j).bursts.find? fun b => decide (b.seq = seq) with
  | some b => (b.segs.map fun g => g.pkt).dedup
  | none => []

/-- R240, R241: the egress declares a gap, sends GAP and advances E. What is next in sequence then leaves at a transfer boundary
(R239). -/
def State.declareGap (s : State) (i j : Nat) : State :=
  let x := s.egrPair i j
  let qs := x.gapSeqs
  let s1 := qs.foldl (fun s q => (s.burstPkts i j q).foldl (fun s n => s.gapPacket j (x.causeOf q) n) s) s
  let s2 := (s1.freeHold j x.part).setEgrPair i j { x with
    e := (x.e + qs.length) % 65536
    learned := x.learned.filter fun p => !qs.contains p.1
    causes := x.causes.filter fun p => !qs.contains p.1
    gapped := (qs ++ x.gapped).take 8192
    part := []
    dropping := true }
  ((s2.send (.gap i j (qs.map fun q => (q, x.causeOf q)))).bump 0xE0008C 1).irqIf Reg.BRT_CTRL 1 11

/-- A SEQ makes a gap due: it is declared now, or waits while the burst at E is accepted and not yet released (R240). -/
def State.gapDueNow (s : State) (i j seq : Nat) : State :=
  let x := s.egrPair i j
  if !x.missing seq then s
  else if x.holds x.e then
    s.setEgrPair i j { x with gapDue := if x.gapDue.contains seq then x.gapDue else x.gapDue ++ [seq] }
  else s.declareGap i j

/-- A gap that falls due at a slot boundary: what it brings next in sequence is released there (R239, R240). -/
def State.gapAtBoundary (s : State) (i j seq : Nat) : State := (s.gapDueNow i j seq).releaseAll i j

/-- The gaps that wait, at a transfer boundary after the release (R240). -/
def State.gapsWaiting (s : State) (i j : Nat) : State :=
  let x := s.egrPair i j
  if x.gapDue.isEmpty then s
  else x.gapDue.foldl (fun s q => s.gapAtBoundary i j q) (s.setEgrPair i j { x with gapDue := [] })

/-! ### The transfer boundary (R234) -/

/-- The packets whose EOP a burst carries and that transfer with it. -/
def State.movers (s : State) (b : EBurst) : List Nat :=
  (b.segs.filter fun g => g.eop && (match s.pkt g.pkt with | some p => !p.gone && !p.moved | none => false)).map fun g => g.pkt

/-- A packet becomes resident at its egress. -/
def State.movePkt (s : State) (c n : Nat) : State :=
  let x := s.chip c
  (s.modPkt n fun p => { p with moved := true }).setChip c { x with voq := x.voq.filter fun m => decide (m ≠ n) }

/-- R234: the transfer boundary of an accepted burst. -/
def State.transfer (s : State) (i j : Nat) (b : EBurst) : State :=
  let ci := chipOf i
  let x := s.ingPair i j
  let s1 : State := match x.bursts.find? fun y => decide (y.seq = b.seq) with
    | some y => ((s.setIngPair i j { x with bursts := x.bursts.filter fun z => decide (z.seq ≠ b.seq) }).freeSegs ci
        (y.segs.map SegRef.seg)).withdrawRepair i j b.seq
    | none => s
  let ms := s1.movers b
  let s2 := ms.foldl (fun s n => s.movePkt ci n) s1
  let s3 := if ms.isEmpty then s2
    else (s2.ledgerEvent ci (.xferOut (BitVec.ofNat 64 ms.length))).ledgerEvent (chipOf j)
      (.xferIn (BitVec.ofNat 64 ms.length))
  let y := s3.egrPair i j
  let f (z : EBurst) : EBurst := if z.seq = b.seq then { z with passed := true } else z
  s3.setEgrPair i j { y with held := y.held.map f }

/-- The work of a pair at the transfer boundary that the start of slot n is. -/
def State.pairBoundary (s : State) (n key : Nat) : State :=
  let i := key / 512
  let j := key % 512
  if s.chipAlive (chipOf i) && s.chipAlive (chipOf j) then
    let due := (s.egrPair i j).held.filter fun b => decide (b.slot + 3 ≤ n) && !b.passed
    let s1 := due.foldl (fun s b => s.transfer i j b) s
    (s1.releaseAll i j).gapsWaiting i j
  else s

/-! ### Notice, verdict, answer -/

/-- NOTICE (R231). -/
def State.notice (s : State) (i j : Nat) : State :=
  match s.recv fun m => match m with | .notice a b _ _ _ => decide (a = i ∧ b = j) | _ => false with
  | some (.notice _ _ ep seq n, s1) =>
    let x := s1.egrPair i j
    let y := { x with notices := x.notices ++ [(seq, ep, n)] }
    s1.setEgrPair i j (if ep = s1.epochOf i j then y.learn s1.gapNow seq else y)
  | some (_, s1) => s1
  | none => s

/-- The segments of bursts held out of order at an egress chiplet (R328). -/
def State.oooSegs (s : State) (c : Nat) : Nat :=
  (s.brt.egr.filter fun x => decide (chipOf (x.1 % 512) = c)).foldl (fun n x =>
    (x.2.held.filter fun b => decide (b.seq ≠ x.2.e)).foldl (fun n b => n + b.segs.length) n) 0

/-- The verdicts of Table: Receive verdicts, in its order. -/
inductive Verdict where
  | accept | noBurst | cold | lockFail | fecUncorr | crc | misroute | holdFull | dup | stale
  deriving DecidableEq, Repr

/-- What the receiver of a burst's detector decodes; nothing without power. -/
def State.decoded (s : State) (f : Flight) (o : RxObs) : Option (List Word) :=
  if s.portPowered f.j then s.received f o else none

/-- R232: the verdict on a burst of which the receiver decoded a content. A content that passes is that of the burst which
the NOTICE announced (assumption 130). -/
def State.verdictOn (s : State) (f : Flight) (errs : List Nat) (ws : List Word) : Verdict :=
  let x := s.egrPair f.i f.j
  let lk := (s.rx f.j).lockFor f.i f.slot
  let d := x.dist f.seq
  let n := f.segs.length
  let c := chipOf f.j
  if lk = 3 then .cold
  else if lk = 2 then .lockFail
  else if fecFails errs then .fecUncorr
  else if !headerGood ws then .crc
  else if !s.routedRight ws f.i f.j then .misroute
  else if f.epoch ≠ s.epochOf f.i f.j then .stale
  else if 8192 ≤ d ∨ x.holds f.seq = true then .dup
  else if d = 0 ∧ n ≤ (s.chip c).free true then .accept
  else if n ≤ (s.chip c).free true ∧ s.oooSegs c + n ≤ min 16777216 (s.rdFld (bufReg c Reg.BUF_EH_OOO) 24 0) then .accept
  else .holdFull

/-- R232: the verdict on a burst. -/
def State.verdict (s : State) (f : Flight) (o : RxObs) : Verdict :=
  match s.decoded f o with
  | none => .noBurst
  | some ws => s.verdictOn f o.errs ws

/-- The code of a verdict that answers with NACK. -/
def Verdict.code : Verdict → Nat
  | .noBurst => 1
  | .cold => 2
  | .lockFail => 3
  | .fecUncorr => 4
  | .crc => 5
  | .misroute => 6
  | .holdFull => 7
  | _ => 0

/-- R328, R239: an accepted burst is written into the egress-hold region, and SEQs before it that have not come are
learned (R240). -/
def State.acceptBurst (s : State) (f : Flight) : State :=
  let c := chipOf f.j
  let a := (s.chip c).takeSegs true f.segs.length
  let segs := (f.segs.zip a.1).map fun q => { q.1 with seg := q.2 }
  let y := segs.foldl (fun (x : Chip) g => x.written (chipOf f.i) (jk f.j g.cls) 1) a.2
  let s1 := s.setChip c y
  let x := s1.egrPair f.i f.j
  let x1 := { x with
    held := x.held ++ [{ seq := f.seq, slot := f.slot, segs := segs }]
    learned := x.learned.filter fun p => decide (p.1 ≠ f.seq) }
  let now := s1.gapNow
  s1.setEgrPair f.i f.j ((List.range (x.dist f.seq)).foldl (fun x t => x.learn now ((x.e + t) % 65536)) x1)

/-- A NACK is sent, counted and reported. -/
def State.sendNack (s : State) (f : Flight) (code : Nat) : State :=
  ((s.send (.nack f.i f.j f.seq code)).bump (0xE00040 + 8 * (code - 1)) 1).irqIf Reg.BRT_CTRL 0 11

/-- What a verdict does (R232, R632). -/
def State.applyVerdict (s : State) (f : Flight) (v : Verdict) : State :=
  match v with
  | .accept => (s.acceptBurst f).send (.ack f.i f.j f.seq)
  | .dup => (s.bump 0xE00090 1).send (.ack f.i f.j f.seq)
  | .stale => s.bump 0xE00098 1
  | .misroute => (s.sendNack f 6).raise (faultCode fbMtx 0) 1
  | v => s.sendNack f v.code

/-- A burst is expected: its NOTICE has come, and the egress has power. -/
def State.expects (s : State) (f : Flight) : Bool :=
  (s.egrPair f.i f.j).notices.any (fun n => decide (n.1 = f.seq ∧ n.2.1 = f.epoch)) && s.chipAlive (chipOf f.j)

/-- A burst has been judged: it awaits no verdict, and its NOTICE is done with. -/
def State.closeNotice (s : State) (f : Flight) : State :=
  let x := s.egrPair f.i f.j
  let s1 := s.setEgrPair f.i f.j { x with notices := x.notices.filter fun n => decide (n.1 ≠ f.seq) }
  { s1 with brt := { s1.brt with flights := s1.brt.flights.map fun g =>
      if g.j = f.j ∧ g.slot = f.slot then { g with judged := true } else g } }

/-- The egress gives a verdict on a burst. -/
def State.giveVerdict (s : State) (f : Flight) (v : Verdict) : State := (s.closeNotice f).applyVerdict f v

/-- BURST_VERDICT: the egress gives its verdict on the oldest burst for a detector that awaits one. -/
def State.burstVerdict (s : State) (j : Nat) (o : RxObs) : State :=
  match s.brt.flights.find? fun f => decide (f.j = j) && !f.judged with
  | none => s
  | some f => if s.expects f then s.giveVerdict f (s.verdict f o) else s

/-- R233: the answer to a burst of slot n is due by the end of slot n + 1. A burst of which nothing was observed by then showed
no start delimiter (DESIGN CHOICE, assumption 131). -/
def State.answersDue (s : State) (n : Nat) : State :=
  let due := s.brt.flights.filter fun f => decide (f.slot + 2 ≤ n) && !f.judged
  let s1 := due.foldl (fun s f => if s.expects f then s.giveVerdict f .noBurst else s) s
  { s1 with brt := { s1.brt with flights := s1.brt.flights.filter fun f => decide (n < f.slot + 2) } }

/-- The start of slot n for the bursts sent: answers that are due, then the transfer boundaries. -/
def State.boundaries (s : State) (n : Nat) : State :=
  let s1 := s.answersDue n
  (s1.brt.egr.map fun x => x.1).foldl (fun s key => s.pairBoundary n key) s1

/-- Change a burst that an ingress holds. -/
def State.modBurst (s : State) (i j seq : Nat) (f : IBurst → IBurst) : State :=
  let x := s.ingPair i j
  s.setIngPair i j { x with bursts := x.bursts.map fun b => if b.seq = seq then f b else b }

/-- ACK (R233): the burst is settled at its transfer boundary. -/
def State.ack (s : State) (i j : Nat) : State :=
  match s.recv fun m => match m with | .ack a b _ => decide (a = i ∧ b = j) | _ => false with
  | some (.ack _ _ seq, s1) => (s1.modBurst i j seq fun b => { b with st := .acked }).withdrawRepair i j seq
  | some (_, s1) => s1
  | none => s

/-- R235, R236: a burst has failed once more: a repair request, or a GAP_REQUEST after RETX_MAX failures. -/
def State.burstFailed (s : State) (i j : Nat) (b : IBurst) : State :=
  let s1 := s.modBurst i j b.seq fun y => { y with fails := y.fails + 1, st := .failed }
  if max 1 (s.rdFld Reg.BRT_CFG 3 0) ≤ b.fails + 1 then s1.askGap i j b.seq .retx
  else s1.raiseRepair i j b.seq

/-- The burst of a SEQ that awaits its answer. -/
def State.awaiting (s : State) (i j seq : Nat) : Option IBurst :=
  (s.ingPair i j).bursts.find? fun b => decide (b.seq = seq ∧ b.st = .sent)

/-- NACK (R235); an answer for a SEQ no longer held is ignored (R237). -/
def State.nack (s : State) (i j : Nat) : State :=
  match s.recv fun m => match m with | .nack a b _ _ => decide (a = i ∧ b = j) | _ => false with
  | some (.nack _ _ seq _, s1) =>
    match s1.awaiting i j seq with
    | some b => s1.burstFailed i j b
    | none => s1
  | some (_, s1) => s1
  | none => s

/-- ACK_TIMEOUT (R235): no answer by the end of slot n + 2. -/
def State.ackTimeout (s : State) (i j : Nat) : State :=
  match (s.ingPair i j).bursts.find? fun b => decide (b.st = .sent ∧ b.slot + 3 ≤ s.slt.slot) with
  | some b => (s.burstFailed i j b).bump 0xE00088 1
  | none => s

/-- RETRANSMIT_READ (R236): the stored copy of a burst is read for the repair pair that was handed over. -/
def State.retransmitRead (s : State) (i j : Nat) (reads : List SegRead) : State :=
  match s.slt.work.findSome? fun w => if w.handed then w.reps.find? fun q => decide (q.i = i ∧ q.j = j) else none with
  | none => s
  | some q =>
    match (s.ingPair i j).bursts.find? fun b => decide (b.seq = q.seq ∧ b.st = .failed) with
    | none => s
    | some b =>
      (reads.filter fun r => b.segs.any fun g => decide (g.seg = r.seg)).foldl (fun s r => s.segRead (chipOf i) r) s

/-! ### Gap commands -/

/-- GAP_REQUEST (R240). -/
def State.gapRequest (s : State) (i j : Nat) : State :=
  match s.recv fun m => match m with | .gapReq a b _ _ => decide (a = i ∧ b = j) | _ => false with
  | some (.gapReq _ _ seq c, s1) =>
    let x := s1.egrPair i j
    if x.missing seq then
      (s1.setEgrPair i j { x with causes := x.causes ++ [(seq, c)] }).gapDueNow i j seq
    else if x.gapped.contains seq && !x.holds seq then s1
    else s1.send (.ack i j seq)
  | some (_, s1) => s1
  | none => s

/-- 20 ms in ticks of 1.25 ns. -/
def gapLimit : Nat := 16000000

/-- GAP_TIMEOUT (R240, R242): the pair's gap timer has run 20 ms. -/
def State.gapTimeout (s : State) (i j : Nat) : State :=
  let x := s.egrPair i j
  match x.learned.find? fun p => x.missing p.1 && decide (p.2 + gapLimit ≤ s.gapNow) with
  | some p => s.gapAtBoundary i j p.1
  | none => s

/-- R241: a gap burst at its ingress: its segments are freed, its packets that have not transferred are discarded. -/
def State.gapBurst (s : State) (i j seq : Nat) (c : GapCause) : State :=
  let x := s.ingPair i j
  match x.bursts.find? fun b => decide (b.seq = seq) with
  | none => s
  | some b =>
    let ns := (b.segs.map fun g => g.pkt).dedup
    let s1 := s.setIngPair i j { x with
      bursts := x.bursts.filter fun y => decide (y.seq ≠ seq)
      span := match x.span with
        | some n => if ns.contains n then none else some n
        | none => none }
    let s2 := (s1.freeSegs (chipOf i) (b.segs.map fun g => g.seg)).withdrawRepair i j seq
    ns.foldl (fun s n => match s.pkt n with
      | some p => if p.moved then s else s.discardIngress n c.reason
      | none => s) s2

/-- The ingress takes the SEQs of a GAP of its pair. -/
def State.gapTaken (s : State) (i j : Nat) (m : Msg) : State :=
  match m with
  | .gap a b qs => if a = i ∧ b = j then qs.foldl (fun s q => s.gapBurst i j q.1 q.2) s else s
  | _ => s

/-- GAP (R241). -/
def State.gap (s : State) (i j : Nat) : State :=
  match s.recv fun m => match m with | .gap a b _ => decide (a = i ∧ b = j) | _ => false with
  | some (m, s1) => s1.gapTaken i j m
  | none => s

/-! ### Epochs (R243) -/

/-- A message of a pair's bursts. -/
def Msg.ofPair (m : Msg) (i j : Nat) : Bool :=
  match m with
  | .notice a b _ _ _ | .ack a b _ | .nack a b _ _ | .gapReq a b _ _ | .gap a b _ => decide (a = i ∧ b = j)
  | .release _ _ _ _ => false

/-- R243: SEQ numbering restarts: GAPs on their way are taken; the segments of unsettled bursts return to be sent again,
in order; the egress frees what has not transferred and ends what has. -/
def State.renumber (s : State) (i j : Nat) : State :=
  let s0 := s.brt.mesh.foldl (fun s m => s.gapTaken i j m) s
  let x := s0.ingPair i j
  let s1 := x.bursts.foldl (fun s b =>
    b.segs.foldl (fun s g => s.modPkt g.pkt fun p => if g.idx < p.sent then { p with sent := g.idx } else p)
      (s.withdrawRepair i j b.seq)) s0
  let s2 := s1.setIngPair i j { rr := x.rr }
  let y := s2.egrPair i j
  let hs := sortBy (fun (a b : EBurst) => decide (y.dist a.seq ≤ y.dist b.seq)) y.held
  let s3 := (hs.filter fun b => !b.passed).foldl (fun s b => s.freeHold j b.segs) s2
  let s4 := (hs.filter fun b => b.passed).foldl (fun s b => s.feedAll i j b.segs) s3
  let s5 := s4.freeHold j (s4.egrPair i j).part
  let s6 := s5.setEgrPair i j {}
  { s6 with brt := { s6.brt with mesh := s6.brt.mesh.filter fun m => !m.ofPair i j } }

/-- The pairs that hold anything. -/
def State.pairKeys (s : State) : List Nat := ((s.brt.ing.map fun x => x.1) ++ (s.brt.egr.map fun x => x.1)).dedup

/-- R243: the EPOCH of every pair of a chiplet advances. -/
def State.epochsOf (s : State) (c : Nat) : State :=
  let s1 := (s.pairKeys.filter fun k => decide (chipOf (k / 512) = c) || decide (chipOf (k % 512) = c)).foldl
    (fun s k => s.renumber (k / 512) (k % 512)) s
  { s1 with brt := { s1.brt with epochChip := s1.brt.epochChip.setIfInBounds c (s1.brt.epochChip.toList.getD c 0 + 1) } }

/-- R243: the EPOCH of every pair advances at a restructure. -/
def State.epochsAll (s : State) : State :=
  let s1 := s.pairKeys.foldl (fun s k => s.renumber (k / 512) (k % 512)) s
  { s1 with brt := { s1.brt with epochAll := s1.brt.epochAll + 1 } }

/-! ### Mirror, loss, snapshots (R248, R250, R350) -/

/-- R248: at a slot boundary the mirror takes every chiplet's counters. -/
def State.mirrorStep (s : State) : State :=
  let on (c : Nat) : Bool := s.chipAlive c
  { s with brt := { s.brt with
      mirror := Vector.ofFn fun c => if on c.val then s.brt.led[c] else s.brt.mirror[c]
      credMirror := Vector.ofFn fun c => if on c.val then s.brt.cred[c] else s.brt.credMirror[c]
      mirrorSlot := s.slt.slot } }

/-- R350: an egress chiplet removes the GRANTs of a lost chiplet. -/
def Chip.dropGrants (x : Chip) (c : Nat) : Chip :=
  (x.grantOut.filter fun p => decide (p.1 / 4096 = c)).foldl (fun (x : Chip) p =>
    (x.left (p.1 % 4096) p.2).written c (p.1 % 4096) p.2)
    { x with need := x.need.filter fun n => decide (n / 4096 ≠ c), grants := x.grants.filter fun g => decide (g.1 ≠ c) }

/-- R350: a surviving chiplet withdraws its balances for the ports of a lost one. -/
def State.withdrawFor (s : State) (c e : Nat) : State :=
  ((s.chip e).bal.filter fun b => decide (chipOf (b.1 / 8) = c)).foldl (fun s b => s.withdraw e (b.1 / 8) (b.1 % 8)) s

/-- R248: the ledger and the credit counters of a lost chiplet, from the mirror. -/
def State.mirrorTakes (s : State) (c : Nat) : State :=
  let l := s.brt.mirror.toList.getD c {}
  let k := s.brt.credMirror.toList.getD c {}
  let led := l.apply (.discard drDomainLoss l.resident)
  let cr : Credits := { k with consumed := k.consumed + k.outstanding, withdrawn := k.withdrawn + k.outstanding, outstanding := 0 }
  { s with brt := { s.brt with
      led := s.brt.led.setIfInBounds c led
      mirror := s.brt.mirror.setIfInBounds c led
      cred := s.brt.cred.setIfInBounds c cr
      credMirror := s.brt.credMirror.setIfInBounds c cr
      mirrored := s.brt.mirrored ||| BitVec.ofNat 16 (2 ^ c) } }

/-- A packet is resident at a chiplet. -/
def Pkt.at (p : Pkt) (c : Nat) : Bool :=
  if p.moved then decide (chipOf p.eg = c)
  else if p.segs.isEmpty then decide (chipOf p.rxPort = c) else decide (chipOf p.ing = c)

/-- What a lost chiplet keeps: what the repair map in NVM and the fixed carving hold, and, until the next start-up, the pages
retired past a full map (R332). -/
def Chip.afterLoss (x : Chip) : Chip :=
  { pages := x.pages.filter fun p => p.recorded || p.past, retireFull := x.retireFull, pchMap := x.pchMap
    spares := x.spares, laneFailed := x.laneFailed, lost := true }

/-- The egress sides of pairs with a lost ingress: what has not transferred is freed without counting. -/
def State.dropUntransferred (s : State) (c key : Nat) : State :=
  let i := key / 512
  let j := key % 512
  if chipOf i = c ∧ chipOf j ≠ c then
    let x := s.egrPair i j
    ((x.held.filter fun b => !b.passed).foldl (fun s b => s.freeHold j b.segs) s).setEgrPair i j
      { x with held := x.held.filter fun b => b.passed, notices := [] }
  else s

/-- CHIPLET_LOSS (R248, R350): the loss of a packet-core domain is recognised. -/
def State.chipletLoss (s : State) (c : Nat) : State :=
  if s.chipOn c || (s.chip c).lost then s
  else
    let s1 := (s.mirrorTakes c).raise (faultCode fbChip (512 + c)) 2
    let gone := (s1.pkts.filter fun p => match p.2 with | some x => x.at c | none => false).map fun p => p.1
    let s2 := gone.foldl State.dropPkt s1
    let s3 := (s2.brt.egr.map fun x => x.1).foldl (fun s k => s.dropUntransferred c k) s2
    let keep (k : Nat) : Bool := decide (chipOf (k % 512) ≠ c)
    let keepI (k : Nat) : Bool := decide (chipOf (k / 512) ≠ c)
    let s4 := { s3 with brt := { s3.brt with
      ing := s3.brt.ing.filter fun x => keepI x.1
      egr := s3.brt.egr.filter fun x => keep x.1
      flights := s3.brt.flights.filter fun f => decide (chipOf f.i ≠ c)
      staged := s3.brt.staged.filter fun f => decide (chipOf f.i ≠ c) } }
    let s5 := s4.setChip c (s4.chip c).afterLoss
    let others := (List.range 16).filter fun e => decide (e ≠ c)
    let s6 := others.foldl (fun s e => (s.setChip e ((s.chip e).dropGrants c)).withdrawFor c e) s5
    { s6 with brt := { s6.brt with mesh := s6.brt.mesh.filter fun m => decide (m.ends.1 ≠ c ∧ m.ends.2 ≠ c) } }

/-- A write of BRT_SNAP_CTRL (R250). -/
def State.writeSnapCtrl (s : State) (p : CmdPort) (v : Word) : State :=
  let s1 := s.plainWrite p Reg.BRT_SNAP_CTRL v
  if bit v 0 then
    if s1.brt.snapReq.isSome then (s1.wrBit Reg.BRT_SNAP_CTRL 2 true).irqIf Reg.BRT_CTRL 2 11
    else ({ s1 with brt := { s1.brt with snapReq := some s1.tim.dt.units } }).wrBit Reg.BRT_SNAP_CTRL 0 true
  else s1

/-- SNAPSHOT_LATCH (R250, R349): every ledger and credit counter latches. -/
def State.snapshotLatch (s : State) : State :=
  match s.brt.snapReq with
  | none => s
  | some t =>
    if s.slt.running && decide (t + 5120 * 4294967296 ≤ slotUnits s.slt.slot) then
      ((({ s with brt := { s.brt with
          snap := s.brt.led, credSnap := s.brt.cred, snapReq := none, snapSlot := s.slt.slot } }).wrBit
        Reg.BRT_SNAP_CTRL 0 false).wrBit Reg.BRT_SNAP_CTRL 1 true).irqIf Reg.BRT_CTRL 2 11
    else s

/-! ### The commands -/

/-- RECEIVER_PHASE_LOAD (R211). -/
def execReceiverPhaseLoad (s : State) : Host.Outcome State Fault Refusal := .next s.phaseLoad
/-- PREAMBLE_END (R226). -/
def execPreambleEnd (o : PreambleObs) (s : State) : Host.Outcome State Fault Refusal := .next (s.preambleEnd o)
/-- GUARD_END (R27). -/
def execGuardEnd (s : State) : Host.Outcome State Fault Refusal := .next s.guardEnd
/-- FINAL_LIST_DELIVERY (R210). -/
def execFinalListDelivery (reads : List (Fin 16 × SegRead)) (s : State) : Host.Outcome State Fault Refusal :=
  .next (s.finalListDelivery reads)
/-- NOTICE (R231). -/
def execNotice (i j : Fin 512) (s : State) : Host.Outcome State Fault Refusal := .next (s.notice i.val j.val)
/-- BURST_VERDICT (R232). -/
def execBurstVerdict (j : Fin 512) (o : RxObs) (s : State) : Host.Outcome State Fault Refusal :=
  .next (s.burstVerdict j.val o)
/-- ACK (R233). -/
def execAck (i j : Fin 512) (s : State) : Host.Outcome State Fault Refusal := .next (s.ack i.val j.val)
/-- NACK (R235). -/
def execNack (i j : Fin 512) (s : State) : Host.Outcome State Fault Refusal := .next (s.nack i.val j.val)
/-- ACK_TIMEOUT (R235). -/
def execAckTimeout (i j : Fin 512) (s : State) : Host.Outcome State Fault Refusal := .next (s.ackTimeout i.val j.val)
/-- RETRANSMIT_READ (R236). -/
def execRetransmitRead (i j : Fin 512) (reads : List SegRead) (s : State) : Host.Outcome State Fault Refusal :=
  .next (s.retransmitRead i.val j.val reads)
/-- GAP_REQUEST (R240). -/
def execGapRequest (i j : Fin 512) (s : State) : Host.Outcome State Fault Refusal := .next (s.gapRequest i.val j.val)
/-- GAP_TIMEOUT (R240). -/
def execGapTimeout (i j : Fin 512) (s : State) : Host.Outcome State Fault Refusal := .next (s.gapTimeout i.val j.val)
/-- GAP (R241). -/
def execGap (i j : Fin 512) (s : State) : Host.Outcome State Fault Refusal := .next (s.gap i.val j.val)
/-- SNAPSHOT_REQ: BRT_SNAP_CTRL.REQ (R250). -/
def execSnapshotReq (p : CmdPort) (v : Word) (s : State) : Host.Outcome State Fault Refusal :=
  .next (s.access p Reg.BRT_SNAP_CTRL 1 fun s => s.writeSnapCtrl p (withBit v 0))
/-- SNAPSHOT_LATCH (R250). -/
def execSnapshotLatch (s : State) : Host.Outcome State Fault Refusal := .next s.snapshotLatch
/-- PHASE_READ: BRT_PHASE_SEL.GO (R225). -/
def execPhaseRead (p : CmdPort) (v : Word) (s : State) : Host.Outcome State Fault Refusal :=
  .next (s.access p Reg.BRT_PHASE_SEL 1 fun s => s.writePhaseSel p (withBit v 31))

end Sys2Proof.Machine
end

