-- ==== Sys2Proof/Machine/Views.lean ====
section
/-! DEFINITION. What a read of a register returns (R13, R600 to R604): the words that the blocks compose from their state,
the 64-bit counters with the high-word latch of each port, and the reads that act. -/

namespace Sys2Proof.Machine

open Sys2Proof

/-- Bits 16n + 15 to 16n of a number in two's complement. -/
def low16 (x : Int) : Nat := (BitVec.ofInt 16 x).toNat

/-- The word at offset o as stored, or the low word of the counter there. -/
def State.stored (s : State) (a : Nat) : Word := s.rd a ||| (s.ctr a).setWidth 32

/-- A bit vector's word w. -/
def wordAt {n : Nat} (b : BitVec n) (w : Nat) : Word := BitVec.ofNat 32 (b.toNat / 2 ^ (32 * w))

/-! ### GLB and CMD -/

/-- The code of a global state (R556). -/
def GState.code : GState → Nat
  | .off => 0
  | .aon => 1
  | .boot => 2
  | .structured => 3
  | .calibrating => 4
  | .locking => 5
  | .service => 6
  | .quiesced => 7
  | .restructure => 8
  | .halted => 9

/-- The code of a staging state. -/
def StageSt.code : StageSt → Nat
  | .empty => 0
  | .opened => 1
  | .verifying => 2
  | .full => 3
  | .overlay => 4
  | .failed => 5

/-- The code of a restructure phase. -/
def RsPhase.code : RsPhase → Nat
  | .none => 0
  | .drain => 1
  | .apply => 2
  | .switching => 3

/-- R554: the device waits for RELEASE. -/
def State.heldAtLock (s : State) : Bool :=
  decide (s.glb.state = .locking) && s.slt.start.isNone && s.noneAcquiring && !s.lockReleased

/-- The header words of an image in a slot (Table: Image header): SEQ, BUILD, SVN and KEY_SLOT. -/
def ImgSlot.u32 (x : ImgSlot) (o : Nat) : Nat :=
  leNat ((List.range 4).map fun i => Sparse.get (fun _ => 0) x.bytes (o + i))

/-- A word of GLB_IMG_SLOT. -/
def ImgSlot.view (x : ImgSlot) (o : Nat) : Word :=
  match o with
  | 0 => if x.valid then BitVec.ofNat 32 (x.u32 0x10) else 0
  | 4 => if x.valid then BitVec.ofNat 32 (x.u32 0x1C) else 0
  | 8 => pack [(0, if x.valid then x.u32 0x14 % 65536 else 0), (16, if x.valid then x.u32 0x14 / 65536 % 4 else 0),
      (18, b2n x.valid), (19, b2n x.passed)]
  | _ => 0

/-- The ports of a lane domain that are enabled for a structure are ready (Table: Loss and restart of a domain); true of a
lane domain that is off. -/
def State.laneReady (s : State) (d : Nat) : Bool :=
  !s.domOn d || (List.range 16).all fun i => !s.imgEnables (16 * d + i) || (s.port (16 * d + i)).ready

/-- R563, GLB_DOMAIN_CTRL.GO: a domain restart is in progress until the domain is ready. -/
def State.restartBusy (s : State) : Bool :=
  match s.glb.domRestart with
  | none => false
  | some d =>
    if !s.domOn d.val then true
    else if d.val < 32 then !s.laneReady d.val
    else if d.val < 48 then
      !(s.chip (d.val - 32)).stackUp || !s.glb.powerOrder.isEmpty ||
      !s.laneReady (2 * (d.val - 32)) || !s.laneReady (2 * (d.val - 32) + 1)
    else true

/-- Registers of GLB. -/
def State.viewGlb (s : State) (o : Nat) : Word :=
  let g := s.glb
  let m := s.img
  if o = 0 then pack [(0, 0x5120), (16, 0x11), (24, b2n s.sec.variantH)]
  else if o = 4 then
    pack [(0, g.state.code), (4, g.prev.code), (8, g.haltCause.toNat), (12, b2n s.heldAtLock), (13, b2n g.calReturn)]
  else if o = 8 then s.stored o ||| pack [(2, b2n g.quiescing)]
  else if o = 0x14 then g.startTime
  else if o = 0x20 then s.stored o ||| pack [(31, b2n s.restartBusy)]
  else if o = 0x30 then wordAt g.pg 0
  else if o = 0x34 then wordAt g.pg 1
  else if 0x44 ≤ o ∧ o < 0x70 then g.stepTime.toList.getD ((o - 0x40) / 4) 0
  else if o = 0x100 then
    pack [(0, b2n (decide (m.stage = .opened))), (1, b2n (decide (m.stage = .verifying))),
      (3, b2n (m.commitBusy || m.commitWait)), (4, b2n (decide (m.phase ≠ .none)))]
  else if o = 0x108 then
    pack [(0, m.stage.code), (3, m.bootSlot.val), (4, b2n m.fallback), (5, b2n m.locked), (6, b2n m.commitBusy),
      (7, b2n m.commitWait), (8, m.phase.code), (10, b2n m.authForced), (16, m.err.toNat)]
  else if o = 0x10C then pack [(0, m.faultSection.toNat), (8, m.faultOffset.toNat)]
  else if 0x110 ≤ o ∧ o < 0x120 then m.slot0.view (o - 0x110)
  else if 0x120 ≤ o ∧ o < 0x130 then m.slot1.view (o - 0x120)
  else if o = 0x130 then BitVec.ofNat 32 m.stageLen
  else s.stored o

/-- The code of a lifecycle. -/
def Lifecycle.code : Lifecycle → Nat
  | .standard => 0
  | .hardened => 1
  | .retired => 2

/-- The image key is present and not destroyed. -/
def KeyFuse.present? : KeyFuse → Bool
  | .present _ => true
  | _ => false

/-- The first 24 bits of a key hash: its first byte in bits 7:0 of word 0. -/
def KeySlot.top (k : KeySlot) : Nat :=
  let w := k.hash[0]
  (byteOf w 0).toNat * 65536 + (byteOf w 1).toNat * 256 + (byteOf w 2).toNat

/-- Registers of CMD, as a port reads them (CMD_STATUS.PORT). -/
def State.viewCmd (s : State) (p : CmdPort) (o : Nat) : Word :=
  let c := s.cmd
  let x := s.sec
  if o = 4 then pack [(0, portNum p), (2, c.authSrc.toNat)]
  else if 0x10 ≤ o ∧ o < 0x28 then
    let k := (o - 0x10) / 4
    pack [(0, (c.rows.toList.getD k 0).toNat), (4, (c.imageRows.toList.getD k 0).toNat), (8, b2n (c.forced.toList.getD k false))]
  else if o = 0x200 then
    pack [(0, x.lifecycle.code), (2, b2n x.variantH), (3, b2n x.imageKey.present?), (4, b2n x.fuse.isSome),
      (5, x.minSvn.toNat), (13, b2n x.zeroizing.isSome), (14, b2n x.zpinEn), (15, b2n x.requireEnc),
      (16, b2n x.coalesce), (17, b2n s.glb.zeroizeN)]
  else if 0x210 ≤ o ∧ o < 0x220 then
    let k := x.slots.toList.getD ((o - 0x210) / 4) {}
    pack [(0, b2n k.programmed), (1, b2n k.revoked), (2, b2n k.partly), (8, k.top)]
  else if o = 0x220 then pack [(0, x.ring.length), (15, x.sram.length)]
  else if o = 0x224 then x.nextSeq
  else if o = 0x228 then x.lost
  else if o = 0x22C then x.overwritten
  else if o = 0x9000 then c.msiPend
  else s.stored (0x100000 + o)

/-! ### FLT and THM -/

/-- A word of a fault record. -/
def FltRecord.view (r : FltRecord) (w : Nat) : Word :=
  match w with
  | 0 => pack [(0, r.code.toNat), (16, r.cls.val), (18, r.reaction.toNat), (20, b2n r.isOpen), (21, b2n r.safe),
      (22, b2n r.mergeOvf), (23, b2n r.clearedByRestart), (24, b2n r.promoted), (25, b2n r.persist)]
  | 1 => r.seq
  | 2 => r.detSec
  | 3 => r.detNs.setWidth 32
  | 4 => pack [(0, r.count.toNat), (16, r.entries.length)]
  | 5 => r.clrSec
  | 6 => r.clrNs.setWidth 32
  | 7 => 0
  | n =>
    match r.entries[(n - 8) / 2]? with
    | none => 0
    | some e =>
      if n % 2 = 0 then pack [(0, e.code.toNat), (16, e.cls.val), (18, b2n e.promoted), (19, b2n e.persist)] else e.tsNs

/-- A record of the ring. -/
def State.fltRecord (s : State) (r : Nat) : FltRecord := Sparse.get (fun _ => {}) s.flt.ring r

/-- Registers of FLT. -/
def State.viewFlt (s : State) (o : Nat) : Word :=
  let f := s.flt
  if o = 4 then
    pack [(0, b2n f.openRec.isSome), (1, b2n f.safe),
      (2, match f.openRec with | some i => (s.fltRecord i.val).reaction.toNat | none => 0), (4, f.lastIdx.val),
      (12, b2n (!f.nvmWait.isEmpty))]
  else if 0x10000 ≤ o ∧ o < 0x20000 then (s.fltRecord ((o - 0x10000) / 0x100)).view (o % 0x100 / 4)
  else s.stored (0x200000 + o)

/-- The kind of a zone (R458): 0 electronic, 1 laser, 2 photonic. -/
def zoneKind (z : Nat) : Nat := if 64 ≤ z then 2 else if 54 ≤ z ∧ z < 62 then 1 else 0

/-- A zone. -/
def State.zone (s : State) (z : Nat) : Zone := Sparse.get (fun _ => {}) s.thm.zones z

/-- R460: what a sensor reads, in 1/16 °C: 150 °C when it is broken. -/
def Sensor.temp (x : Sensor) : Int := if x.cause = 0 then x.reading else 2400

/-- R461: a zone's temperature. -/
def Zone.temp (z : Zone) : Int := max z.s0.temp z.s1.temp

/-- A shut-down of some zone is in force. -/
def State.anyZone (s : State) (f : Zone → Bool) : Bool := s.thm.zones.any fun z => f z.2

/-- Registers of THM. -/
def State.viewThm (s : State) (o : Nat) : Word :=
  if o = 4 then
    pack [(0, b2n (s.anyZone Zone.warn)), (1, b2n (s.anyZone Zone.throttle)), (2, b2n (s.anyZone Zone.shutdown)),
      (3, b2n s.thm.picLatched), (4, b2n s.thm.nvmOk), (5, s.thm.events.length)]
  else if o = 0x10 then s.thm.lost
  else if 0x100 ≤ o ∧ o < 0x230 then
    let n := (o - 0x100) / 4
    let z := s.zone n
    pack [(0, low16 z.temp), (16, zoneKind n), (18, b2n z.warn), (19, b2n z.throttle), (20, b2n z.shutdown), (21, z.db.val)]
  else if 0x300 ≤ o ∧ o < 0x560 then
    let z := s.zone ((o - 0x300) / 8)
    let x := if o % 8 = 0 then z.s0 else z.s1
    pack [(0, low16 x.temp), (16, b2n (decide (x.cause ≠ 0))), (17, x.cause.toNat)]
  else s.stored (0x300000 + o)

/-! ### CLK and TIM -/

/-- Registers of CLK, but for the measured part of CLK_LANE_PPM. -/
def State.viewClk (s : State) (o : Nat) : Word :=
  if o = 4 then
    s.stored 0x400004 ||| pack [(0, b2n s.glb.pllLock), (1, b2n s.glb.refclkOk), (2, b2n s.glb.holdover)]
  else s.stored (0x400000 + o)

/-- Δ in signed ns, saturated (TIM_DT_OFFSET). -/
def State.offsetNs (s : State) : Int := clampI (-2147483647) 2147483647 (s.delta.tdiv 4294967296)

/-- A word of a latched clock. -/
def Clock.latched (c : Clock) (k : Nat) : Word :=
  match k with
  | 1 => (c.sec >>> 32).setWidth 32
  | 2 => c.ns.setWidth 32
  | 3 => c.frac
  | _ => 0

/-- Registers of TIM whose read does not act. -/
def State.viewTim (s : State) (o : Nat) : Word :=
  let t := s.tim
  if o = 4 then
    s.stored 0x500004 ||| pack [(0, s.timeSel), (1, b2n (decide (t.mode = .locked))), (2, b2n (decide (t.mode = .slewing))),
      (3, b2n (decide (t.mode = .follow))), (4, b2n (decide (1000000 * 4294967296 < s.delta.natAbs))), (16, t.fifo.length)]
  else if 0x10 ≤ o ∧ o < 0x20 then t.latchDt.latched ((o - 0x10) / 4)
  else if o = 0x20 then toWord s.offsetNs
  else if 0x100 ≤ o ∧ o < 0x110 then t.latchA.latched ((o - 0x100) / 4)
  else if 0x140 ≤ o ∧ o < 0x150 then t.latchB.latched ((o - 0x140) / 4)
  else if o = 0x204 then t.data1
  else if o = 0x208 then t.data2
  else s.stored (0x500000 + o)

/-! ### ACQ and RED -/

/-- The code of a Loupe state. -/
def LoupeState.code : LoupeState → Nat
  | .idle => 0
  | .settle => 1
  | .prefill => 2
  | .armed => 3
  | .post => 4
  | .holdoff => 5

/-- The TRIG lines act under R406 (Table: Outputs by state). -/
def State.trigActs (s : State) : Bool :=
  match s.glb.state with
  | .off | .aon | .boot | .structured | .halted => false
  | _ => true

/-- A TRIG line is asserted by a unit of this device. -/
def State.lineDriven (s : State) (n : Nat) : Bool :=
  s.trigActs && (List.range 8).any fun u => (s.loupe u).driving.isSome && decide (s.rdFld (acqReg u 0) 10 9 = n)

/-- Registers of ACQ. -/
def State.viewAcq (s : State) (o : Nat) : Word :=
  let a := 0x600000 + o
  if o = 0 then
    pack ((List.range 8).flatMap fun u =>
      [(u, b2n (decide ((s.loupe u).st ≠ .idle))), (8 + u, b2n (s.loupe u).lent.isSome)])
  else if 0x10 ≤ o ∧ o < 0x20 then s.stored a ||| pack [(16, b2n (s.lineDriven ((o - 0x10) / 4)))]
  else if 0x10000 ≤ o ∧ o < 0x18000 then
    let x := s.loupe ((o - 0x10000) / 0x1000)
    match o % 0x1000 with
    | 4 => s.stored a ||| pack [(0, x.st.code), (3, x.stopCause), (6, x.dec), (17, b2n (decide (0 < x.occ)))]
    | 0x28 => BitVec.ofNat 32 x.wr
    | 0x2C => BitVec.ofNat 32 x.occ
    | _ => s.stored a
  else s.stored a

/-- The code of a controller state. -/
def CtlState.code : CtlState → Nat
  | .isolated => 0
  | .testing => 1
  | .syncing => 2
  | .standby => 3
  | .active => 4

/-- A word of RED_HEALTH: the latest report (R431). -/
def HealthRep.view (r : HealthRep) (o : Nat) : Word :=
  match o with
  | 0 => pack [(0, r.engine.val), (6, b2n r.paused), (7, b2n r.failed)]
  | 4 => BitVec.ofNat 32 r.runs
  | 8 => BitVec.ofNat 32 r.corrected
  | 0xC => BitVec.ofNat 32 r.uncorr
  | 0x10 => pack [(0, min 65535 r.clean), (16, r.late % 64)]
  | 0x14 => BitVec.ofNat 32 r.sample
  | _ => 0

/-- R411: one controller is neither ACTIVE nor STANDBY. -/
def State.simplex (s : State) : Bool := !(s.red.a.state.upright && s.red.b.state.upright)

/-- Registers of RED. -/
def State.viewRed (s : State) (o : Nat) : Word :=
  let r := s.red
  if o = 4 then
    s.stored 0x700004 ||| pack [(0, match r.pendingSw with | some (.host, _) => 1 | _ => 0)]
  else if o = 8 then
    pack [(0, r.a.state.code), (3, r.b.state.code), (6, b2n r.a.suspect), (7, b2n r.b.suspect), (8, b2n r.gapEnd.isSome),
      (9, b2n s.simplex), (10, b2n r.arbM.isSome), (11, r.syncPhase.val), (13, b2n r.a.asleep), (14, b2n r.b.asleep),
      (16, min 65535 r.cleanRun)]
  else if o = 0x10 then r.lastMismatch
  else if o = 0x14 then r.lastSwitch
  else if 0x100 ≤ o ∧ o < 0x120 then r.a.rep.view (o - 0x100)
  else if 0x120 ≤ o ∧ o < 0x140 then r.b.rep.view (o - 0x120)
  else s.stored (0x700000 + o)

/-! ### CAL and CNV -/

/-- A set area. -/
def State.calSet (s : State) (i : Nat) : CalSet := s.cal.sets.toList.getD i {}

/-- R181: a factory set is not used within 2 °C (32/16 °C) of a valid field set. -/
def State.shadowed (s : State) (i : Nat) : Bool :=
  let x := s.calSet i
  x.valid && x.factory && (List.range 9).any fun k =>
    let y := s.calSet k
    y.valid && !y.factory && decide ((y.tag - x.tag).natAbs ≤ 32)

/-- Registers of CAL. -/
def State.viewCal (s : State) (o : Nat) : Word :=
  let c := s.cal
  if o = 4 then s.stored 0x800004 ||| pack [(0, b2n c.fullBusy), (1, b2n (c.storing.isSome || c.storeWait))]
  else if o = 8 then
    pack ((List.range 9).map (fun i => (i, b2n (s.calSet i).valid)) ++
      [(9, b2n c.clamped), (10, b2n c.storing.isSome), (11, b2n c.storeWait), (12, b2n c.fullBusy), (13, c.loArea.val),
       (17, c.hiArea.val)])
  else if o = 0xC then pack [(0, low16 c.temp), (16, c.weight % 65536)]
  else if o = 0x10 then pack [(0, c.stage), (5, c.trial), (10, c.step.val)]
  else if 0x40 ≤ o ∧ o < 0x64 then
    let i := (o - 0x40) / 4
    let x := s.calSet i
    pack [(0, low16 x.tag), (16, b2n x.valid), (17, b2n x.factory), (18, b2n (s.shadowed i))]
  else if 0x200 ≤ o ∧ o < 0x320 then c.setData.getD ((o - 0x200) / 4) 0
  else if 0x1000 ≤ o ∧ o < 0x1320 then
    let x := s.auCal ((o - 0x1000) / 8)
    if o % 8 = 0 then x.gain else x.offset
  else if 0x20000 ≤ o ∧ o < 0x20000 + 4 * 10304 then toWord (s.tapResp ((o - 0x20000) / 4))
  else if 0x30000 ≤ o ∧ o < 0x35000 then BitVec.ofNat 32 (s.calElem ((o - 0x30000) / 4)).lcUse
  else s.stored (0x800000 + o)

/-- The number of channels of which a test holds. -/
def State.chanCount (s : State) (f : Chan → Bool) : Nat := (s.drv.chans.filter fun c => f c.2).length

/-- Registers of CNV. -/
def State.viewCnv (s : State) (o : Nat) : Word :=
  if o = 4 then
    let failed (u : Nat) : Bool := (s.au u).failed
    pack [(0, s.chanCount Chan.compliance), (13, ((List.range 100).filter failed).length),
      (20, ((List.range 50).filter fun q => failed (2 * q) != failed (2 * q + 1)).length),
      (26, b2n (decide (0 < s.chanCount fun c => decide (c.phase ≠ .idle))))]
  else if o = 0x20 then s.stored 0x900020 ||| pack [(31, b2n s.drv.rangeReq.isSome)]
  else if 0x100 ≤ o ∧ o < 0x380 then
    let w := (o - 0x100) / 4
    pack ((List.range 32).map fun b => (b, b2n (s.chan (32 * w + b)).range1))
  else if 0x800 ≤ o ∧ o < 0x990 then
    let w := s.stored (0x900000 + o)
    if (s.au ((o - 0x800) / 4)).lent then w ||| 3 else w
  else if 0xA00 ≤ o ∧ o < 0xB90 then
    let u := (o - 0xA00) / 4
    let a := s.au u
    let q := s.au (partner u)
    s.stored (0x900000 + o) ||| pack [(0, b2n a.failed), (1, b2n (!a.failed && q.failed && !a.lent && !a.cfg.direct)),
      (2, b2n a.lent), (3, a.sliceOk.toNat), (9, a.recovery.val)]
  else if 0xC00 ≤ o ∧ o < 0xD90 then s.adcDataWord ((o - 0xC00) / 4)
  else if 0x10000 ≤ o ∧ o < 0x15000 then
    let c := s.chan ((o - 0x10000) / 4)
    pack [(0, c.out.toNat), (24, b2n c.range1), (25, b2n (decide (c.phase ≠ .idle))), (26, b2n c.compliance),
      (27, b2n c.openload), (28, b2n c.unwritten)]
  else s.stored (0x900000 + o)

/-! ### LPE, CEL and LIN (R90) -/

/-- The number of elements in a mode: a channel not listed is in OFF. -/
def State.modeCount (s : State) (m : LoopMode) : Nat :=
  let n := ((s.loops s.actCtl).elems.filter fun x => decide (x.2.mode = m)).length
  if m = .off then
    5120 - ((s.loops s.actCtl).elems.filter fun x => decide (x.2.mode ≠ .off)).length
  else n

/-- The code of an engine's role. -/
def EngRole.code : EngRole → Nat
  | .off => 0
  | .active => 1
  | .spare => 2
  | .faulty => 3

/-- The profile window of an element (R123). -/
def State.viewProfile (s : State) (e k : Nat) : Word :=
  let x := s.elem s.actCtl e
  match k with
  | 0 => toWord x.prof.v
  | 4 => toWord x.prof.a
  | 8 => BitVec.ofNat 32 (low16 x.prof.p)
  | _ => toWord (effTarget (Sparse.get (fun _ => 0) s.loopS.target e) (s.calElem e).offset)

/-- The supervision window of an element (R123). -/
def State.viewSupervision (s : State) (e k : Nat) : Word :=
  let x := s.elem s.actCtl e
  match k with
  | 0 => toWord x.pl.resSum
  | 4 => toWord x.pl.resSplit
  | 8 => toWord (if x.acq.rampLeft = 0 then x.acq.off else x.acq.b0)
  | _ => x.acq.theta

/-- Registers of LPE. -/
def State.viewLpe (s : State) (o : Nat) : Word :=
  let c := s.actCtl
  let l := s.loops c
  if o = 4 then
    pack [(0, s.loopS.activeBank.val), (1, b2n s.loopS.swapAt.isSome), (2, (s.freeSpares c).length),
      (5, b2n ((List.range 48).any fun i => (s.servedBy c i).isNone))]
  else if o = 0x28 then s.stored 0xA00028 ||| pack [(0, b2n s.loopS.swapAt.isSome)]
  else if o = 0x50 then BitVec.ofNat 32 l.engFaults
  else if o = 0x68 then BitVec.ofNat 32 l.implausibleEvents
  else if o = 0x70 then s.stored 0xA00070 ||| pack [(31, b2n s.loopS.modeReq.isSome)]
  else if o = 0x78 then pack [(0, s.modeCount .off), (16, s.modeCount .acquisition)]
  else if o = 0x7C then pack [(0, s.modeCount .service), (16, s.modeCount .hold)]
  else if 0x100 ≤ o ∧ o < 0x1D0 then
    let e := s.engine c ((o - 0x100) / 4)
    let w := (e.ovr.filter fun m => decide (s.loopS.sample < m + 64)).length
    pack [(0, e.logical % 64), (6, e.role.code), (8, min 3 w)]
  else if 0x200 ≤ o ∧ o < 0x2C0 then
    match s.servedBy c ((o - 0x200) / 4) with
    | some p => pack [(0, p)]
    | none => pack [(6, 1)]
  else if 0x20000 ≤ o ∧ o < 0x34000 then s.viewProfile ((o - 0x20000) / 16) (o % 16)
  else if 0xE0000 ≤ o ∧ o < 0xF4000 then s.viewSupervision ((o - 0xE0000) / 16) (o % 16)
  else s.stored (0xA00000 + o)

/-- The CTRL word of an element record. -/
def State.celCtrl (s : State) (e : Nat) : Word :=
  let c := s.actCtl
  let x := s.elem c e
  let ch := s.chan e
  let lp := s.engineOf e
  let k := s.coeffs lp.1 s.loopS.activeBank
  let cap := s.loopS.capState.getLsbD e
  pack [(0, b2n (s.drv.sel.getLsbD e)), (1, b2n cap), (2, modeCode x.mode), (4, b2n (x.stale || s.heldStale c e)),
    (5, b2n x.overrun), (6, b2n x.pl.implausible), (7, b2n (s.isParked e)), (8, b2n ch.compliance), (9, b2n ch.openload),
    (10, b2n ch.unwritten), (11, b2n (decide (x.est.signOf k false ≠ 0))), (12, b2n (decide (x.est.signOf k true ≠ 0))),
    (16, lp.2 % 128), (23, lp.1 % 64)]

/-- A word of an element record (R89). -/
def State.viewCel (s : State) (o : Nat) : Word :=
  let e := o / 0x40
  let x := s.elem s.actCtl e
  if 5120 ≤ e then 0
  else match o % 0x40 with
    | 0x00 => s.celCtrl e
    | 0x08 => toWord x.prof.setpoint
    | 0x0C => pack [(0, x.heater.toNat), (24, b2n (s.chan e).range1)]
    | 0x10 => pack [(0, x.levBar.toNat), (16, x.levCross.toNat)]
    | 0x14 => toWord x.intBar
    | 0x18 => toWord x.intCross
    | 0x1C => x.est.sxxBar.word
    | 0x20 => x.est.sxyBar.word
    | 0x24 => x.est.sxxCross.word
    | 0x28 => x.est.sxyCross.word
    | 0x2C => x.est.signBar.word
    | 0x30 => x.est.signCross.word
    | 0x34 => x.est.snorm.word
    | 0x38 => pack [(0, x.pl.history.toNat), (16, x.pl.clearRun), (21, b2n x.pl.sumOob), (22, b2n x.pl.splitOob),
        (23, b2n x.pl.verdict)]
    | 0x3C => pack [(0, x.acq.samples), (16, x.acq.lockRun), (22, x.acq.refusals), (26, x.acq.rampLeft)]
    | _ => s.stored (0xB00000 + o)

/-- A word of a LIN table. -/
def State.viewLin (s : State) (o : Nat) : Word :=
  if o % 0x200 / 4 < 65 then BitVec.ofNat 32 ((s.calElem (o / 0x200)).linUse.getD (o % 0x200 / 4) 0) else 0

/-! ### MTX, SLT and BRT -/

/-- Registers of MTX. -/
def State.viewMtx (s : State) (o : Nat) : Word :=
  let m := s.mtx
  let count (l : List Nat) : Nat := (l.filter fun e => m.parked.getLsbD e).length
  if o = 4 then
    pack [(0, count (List.range 4608)), (13, b2n (guaranteeMet m.parked)), (14, b2n (!m.pending.isEmpty)),
      (15, b2n ((List.range 32).any fun n => (s.bank n).spareUsed)),
      (16, b2n ((List.range 32).any fun n => decide ((s.bank n).dark ≠ 0))), (17, min 255 m.overlayRefused)]
  else if o = 0x44 then s.slt.permResult
  else if 0x100 ≤ o ∧ o < 0x148 then
    pack [(0, count ((List.range 256).map fun r => 256 * ((o - 0x100) / 4) + r))]
  else if 0x200 ≤ o ∧ o < 0x440 then wordAt m.parked ((o - 0x200) / 4)
  else if 0x500 ≤ o ∧ o < 0x740 then wordAt (parkBits m.field) ((o - 0x500) / 4)
  else if 0x800 ≤ o ∧ o < 0x880 then
    let n := (o - 0x800) / 4
    let b := s.bank n
    s.stored (0xC00000 + o) ||| pack ([(0, b.spareFor.val), (4, b2n b.spareUsed), (22, b2n (decide (b.dark ≠ 0)))] ++
      (List.range 17).map fun i => (5 + i, b2n ((s.emitter n i).up && !(s.emitter n i).failed)))
  else s.stored (0xC00000 + o)

/-- The slot in progress: by Prism's count while its pipeline runs, else by device time (R188). -/
def State.slotNow (s : State) : Nat := if s.slt.start.isSome then s.slt.slot else slotOf s.nowNs

/-- Registers of SLT. -/
def State.viewSlt (s : State) (o : Nat) : Word :=
  let x := s.slt
  if o = 4 then
    pack [(0, b2n x.running), (1, x.activeArea.val), (2, b2n x.change.isSome), (3, b2n x.alignLost), (4, b2n x.hold.isSome),
      (5, s.tplPos s.slotNow), (8, x.rotQ), (17, min 1023 x.reps.length)]
  else if 0x200 ≤ o ∧ o < 0x300 then
    let w := (o - 0x200) / 4
    pack ((List.range 8).map fun b => (4 * b, (s.tenant (8 * w + b)).val))
  else if 0x400 ≤ o ∧ o < 0x500 then Sparse.get (fun _ => 0) x.log ((o - 0x400) / 4)
  else s.stored (0xD00000 + o)

/-- A counter of a ledger by its offset in the window: 0x00 to 0x20, and 0x100 + 8r. -/
def Ledger.at (l : Ledger) (o : Nat) : BitVec 64 :=
  if 0x100 ≤ o then l.disc.toList.getD ((o - 0x100) / 8) 0
  else match o / 8 with
    | 0 => l.admitted
    | 1 => l.delivered
    | 2 => l.resident
    | 3 => l.xferIn
    | 4 => l.xferOut
    | _ => 0

/-- A half of a 64-bit value, by the offset of its word. -/
def half (v : BitVec 64) (o : Nat) : Word := wordAt v (o % 8 / 4)

/-- SNAP words of a ledger window. -/
def State.viewSnap (s : State) (o : Nat) : Word :=
  let l := s.brt.snap.toList.getD ((o - 0x1000) / 0x400) {}
  let w := o % 0x400
  if 0x40 ≤ w ∧ w < 0x68 then half (l.at (w - 0x40)) w
  else if 0x200 ≤ w ∧ w < 0x300 then half (l.at (w - 0x100)) w
  else 0

/-- Registers of BRT. -/
def State.viewBrt (s : State) (o : Nat) : Word :=
  let x := s.brt
  if o = 4 then pack [(0, b2n x.snapReq.isSome), (1, x.mirrored.toNat), (17, b2n s.entriesValid)]
  else if o = 0x18 ∨ o = 0x1C then half (BitVec.ofNat 64 x.snapSlot) o
  else if o = 0x104 then x.phaseData
  else if 0x1000 ≤ o ∧ o < 0x5000 then s.viewSnap o
  else s.stored (0xE00000 + o)

/-! ### Port chiplets -/

/-- XOFF_TX of a MAC: the priorities that the sources assert for a member port (R266); every source asserts all eight. -/
def State.xoffBits (s : State) (k : Nat) : BitVec 8 := if (s.members (s.lead k)).any s.xoff then 0xFF else 0

/-- LAN_PORT_STATUS of a port. A remap in progress is that of the port. -/
def State.portStatus (s : State) (k : Nat) : Word :=
  let x := s.port k
  let paused := (List.range 8).filter fun q => decide (Sparse.get (fun _ => 0) x.paused q ≠ 0)
  let busy := match (s.chip (chipOf k)).remap with
    | some r => decide (r.1.val = k % 32)
    | none => false
  pack ([(0, b2n x.linkUp), (1, x.train.val), (3, b2n x.rxLf), (4, b2n x.rxRf), (5, b2n x.txLf), (6, (s.xoffBits k).toNat),
    (22, match x.lane with | some l => l.val | none => k % 32), (27, b2n busy)] ++ paused.map fun q => (14 + q, 1))

/-- R263: the electrical lane that carries a port. -/
def State.laneOf (s : State) (k : Nat) : Nat :=
  match (s.port k).lane with
  | some l => l.val
  | none => k % 32

/-- A lane that no port of its chiplet has, and that is not failed (R263, R264). -/
def State.isReserve (s : State) (c l : Nat) : Bool :=
  !(s.chip c).laneFailed.getLsbD l &&
  (List.range 32).all fun p => !s.imgEnables (32 * c + p) || decide (s.laneOf (32 * c + p) ≠ l)

/-- Registers of LAN. -/
def State.viewLan (s : State) (c o : Nat) : Word :=
  let a := lanChip c o
  if o < 0x8000 then (if o % 0x400 = 0xC then s.portStatus (32 * c + o / 0x400) else s.stored a)
  else if o = 0x8000 then s.stored a ||| pack [(31, b2n (s.chip c).remap.isSome)]
  else if o = 0x8004 then pack ((List.range 32).map fun l => (l, b2n (s.isReserve c l)))
  else if o = 0x8008 then (s.chip c).laneFailed
  else s.stored a

/-- Registers of PRS. -/
def State.viewPrs (s : State) (c o : Nat) : Word :=
  let x := s.chip c
  let old := x.pinned.toList.getD (1 - x.active.val) 0
  let uold := x.ucPinned.toList.getD (1 - x.ucActive.val) 0
  let a := prsReg c o
  if o = 0x10 then s.stored a ||| pack [(0, b2n x.swap.isSome)]
  else if o = 0x14 then
    pack [(0, x.active.val), (1, b2n (decide (0 < old))), (2, x.ucActive.val), (3, b2n (decide (0 < uold))),
      (4, x.epoch.toNat)]
  else if o = 0x20 ∨ o = 0x24 then BitVec.ofNat 32 (x.pinned.toList.getD ((o - 0x20) / 4) 0)
  else if o = 0x28 ∨ o = 0x2C then BitVec.ofNat 32 (x.ucPinned.toList.getD ((o - 0x28) / 4) 0)
  else if o = 0x340 then s.stored a ||| pack [(31, b2n x.trace)]
  else if o = 0x344 then x.trace0
  else if o = 0x348 then x.trace1
  else s.stored a

/-- Registers of MTR: METER_DATA shows the meter last loaded. -/
def State.viewMtr (s : State) (c o : Nat) : Word :=
  let x := s.chip c
  if 0x20 < o ∧ o < 0x30 then x.meterData.toList.getD ((o - 0x20) / 4) 0 else s.stored (mtrReg c o)

/-- Registers of BUF. -/
def State.viewBuf (s : State) (c o : Nat) : Word :=
  let x := s.chip c
  let a := bufReg c o
  if o = 4 then
    pack [(0, b2n x.move.isSome), (1, x.spares.length % 4), (3, b2n x.retireFull), (4, b2n x.zeroBusy), (5, b2n x.zeroDone),
      (6, b2n x.zeroIncomplete), (7, match x.move with | some m => m.channel.val | none => 0)]
  else if o = 0x20 then BitVec.ofNat 32 (x.free false)
  else if o = 0x24 then BitVec.ofNat 32 (x.free true)
  else if o = 0x28 then
    BitVec.ofNat 32 (32 * regionSize false - 8 * (x.pages.filter fun p => decide (p.region = 0)).length)
  else if o = 0x2C then BitVec.ofNat 32 x.pages.length
  else if 0x100 ≤ o ∧ o < 0x180 then
    let l := (o - 0x100) / 4
    pack [(0, x.phys l), (6, b2n (x.replaced l))]
  else s.stored a

/-- Present tokens of a shaper: earned up to now. -/
def State.tokensWord (s : State) (k i : Nat) : Word :=
  toWord (((s.port k).shaper i).earn s.tim.ticks).tokens

/-- A word of the window of port k in QUE. -/
def State.viewQuePort (s : State) (k w : Nat) : Word :=
  let a := quePort k w
  let g := (s.port k).gates
  if 0x80 ≤ w ∧ w < 0x120 ∧ w % 16 = 12 then s.tokensWord k ((w - 0x80) / 16)
  else if w = 0x180 then s.stored a ||| pack [(3, g.oper.val)]
  else if w = 0x1A0 then
    pack [(0, g.entry), (8, if g.on then fld (s.gateWord k g.oper.val g.entry) 7 0 else 255), (16, b2n g.pending.isSome)]
  else s.stored a

/-- A credit counter by its number (R349). -/
def Credits.at (c : Credits) (k : Nat) : BitVec 64 :=
  match k with
  | 0 => c.issued
  | 1 => c.consumed
  | 2 => c.withdrawn
  | 3 => c.outstanding
  | 4 => c.granted
  | _ => 0

/-- Registers of QUE. -/
def State.viewQue (s : State) (c o : Nat) : Word :=
  if o = 8 then BitVec.ofNat 32 (s.chip c).reserved
  else if 0x180 ≤ o ∧ o < 0x1A8 then half ((s.brt.credSnap.toList.getD c {}).at ((o - 0x180) / 8)) o
  else if 0x1000 ≤ o ∧ o < 0x5000 then s.viewQuePort (32 * c + (o - 0x1000) / 0x200) (o % 0x200)
  else s.stored (queReg c o)

/-! ### Counters (R601 to R603) -/

/-- A 64-bit counter has its low word at an offset. -/
def isLow64 (b : Blk) (o : Nat) : Bool :=
  let w := windowOff b o
  let inArr (base n : Nat) : Bool := decide (base ≤ w ∧ w < base + 8 * n ∧ w % 8 = 0)
  match b with
  | .flt => inArr 0x20 4
  | .red => decide (o = 0x20 ∨ o = 0x38)
  | .cnv => inArr 0x48 2
  | .lpe => decide (o = 0x10 ∨ o = 0x40 ∨ o = 0x48 ∨ o = 0x60)
  | .mtx => inArr 0x20 2
  | .slt => decide (o = 0x10 ∨ o = 0xB0 ∨ o = 0xC0 ∨ o = 0xC8) || inArr 0x80 5
  | .brt =>
    inArr 0x40 7 || decide (o = 0x80 ∨ o = 0x90) ||
    (decide (0x1000 ≤ o ∧ o < 0x5000 ∧ o % 8 = 0) && (decide (o % 0x400 < 0x28) || decide (0x100 ≤ o % 0x400 ∧ o % 0x400 < 0x200)))
  | .lan _ => decide (o < 0x8000) && inArr 0x100 17
  | .prs _ => inArr 0x800 20
  | .mtr _ => inArr 0x800 4
  | .buf _ => inArr 0x800 5
  | .que _ => inArr 0x100 5 || (decide (0x1000 ≤ o ∧ o < 0x5000) && decide (o % 0x200 = 0x1C0 ∨ o % 0x200 = 0x1C8))
  | _ => false

/-- A high word of a 64-bit counter. -/
def isHigh64 (b : Blk) (o : Nat) : Bool := decide (4 ≤ o) && isLow64 b (o - 4)

/-- The value of the 64-bit counter at an offset. -/
def State.value64 (s : State) (b : Blk) (o : Nat) : BitVec 64 :=
  let l := s.loops s.actCtl
  match b with
  | .lpe =>
    if o = 0x10 then BitVec.ofNat 64 s.loopS.sample
    else if o = 0x40 then BitVec.ofNat 64 l.overruns
    else if o = 0x48 then BitVec.ofNat 64 l.probeDiscards
    else BitVec.ofNat 64 l.handoverRefused
  | .slt => if o = 0x10 then BitVec.ofNat 64 s.slotNow else s.ctr (0xD00000 + o)
  | .brt => if 0x1000 ≤ o then (s.ledger ((o - 0x1000) / 0x400)).at (o % 0x400) else s.ctr (0xE00000 + o)
  | .que c => if o < 0x180 then (s.credits c).at ((o - 0x100) / 8) else s.ctr (queReg c o)
  | .lan c => if s.isLead (32 * c + o / 0x400) then s.ctr (lanChip c o) else 0
  | b => s.ctr (b.base + o)

/-- The key of the high-word latch of a port for a block. -/
def latchKey (b : Blk) (p : CmdPort) : Nat := 4 * (b.base / 0x20000) + portNum p

/-- Load the high-word latch of a port. -/
def State.setLatch (s : State) (b : Blk) (p : CmdPort) (w : Word) : State :=
  { s with highLatch := Sparse.set (fun _ => 0) s.highLatch (latchKey b p) w }

/-! ### A read -/

/-- What a register reads as, beside the reads that act. -/
def State.view (s : State) (p : CmdPort) (b : Blk) (o : Nat) : Word :=
  match b with
  | .glb => s.viewGlb o
  | .cmd => s.viewCmd p o
  | .flt => s.viewFlt o
  | .thm => s.viewThm o
  | .clk => s.viewClk o
  | .tim => s.viewTim o
  | .acq => s.viewAcq o
  | .red => s.viewRed o
  | .cal => s.viewCal o
  | .cnv => s.viewCnv o
  | .lpe => s.viewLpe o
  | .cel => s.viewCel o
  | .lin => s.viewLin o
  | .mtx => s.viewMtx o
  | .slt => s.viewSlt o
  | .brt => s.viewBrt o
  | .lan c => s.viewLan c o
  | .prs c => s.viewPrs c o
  | .mtr c => s.viewMtr c o
  | .buf c => s.viewBuf c o
  | .que c => s.viewQue c o
  | .tbw c => s.stored (tbwReg c + o)

/-- An executed read of an offset in a block (R601, R156, R379, R382). The frequency in CLK_LANE_PPM is measured, so it is
a free value (assumption 15). -/
def State.readIn (s : State) (p : CmdPort) (b : Blk) (o : Nat) : State :=
  if isLow64 b o then
    let v := s.value64 b o
    (s.setRd p (wordAt v 0)).setLatch b p (wordAt v 1)
  else if isHigh64 b o then s.setRd p (Sparse.get (fun _ => 0) s.highLatch (latchKey b p))
  else if b = .tim ∧ o = 0x10 then s.readSecLo p .device
  else if b = .tim ∧ o = 0x100 then s.readSecLo p .a
  else if b = .tim ∧ o = 0x140 then s.readSecLo p .b
  else if b = .tim ∧ o = 0x200 then s.readFifo p
  else if b = .cnv ∧ 0xC00 ≤ o ∧ o < 0xD90 then s.readAdcData p ((o - 0xC00) / 4)
  else if b = .clk ∧ 0x1000 ≤ o ∧ o < 0x1800 then
    let f := s.free
    let up := (s.port ((o - 0x1000) / 4)).linkUp
    f.2.setRd p (if up then pack [(0, f.1.toNat % 65536), (16, 1)] else 0)
  else s.setRd p (s.view p b o)

/-- A read whose block is off is served where the mirror holds a lost chiplet's ledger: BRT itself (R248); every other is
counted and returns 0 (R518). -/
def State.readReg (s : State) (p : CmdPort) (a : Nat) : State :=
  s.accessRead p a fun s =>
    match locate a with
    | none => s.setRd p 0
    | some (b, o) => s.readIn p b o

/-- What the latest read of a port returned. -/
def State.lastRd (s : State) (p : CmdPort) : Word := s.cmd.rdData.toList.getD (portNum p) 0

end Sys2Proof.Machine
end

