-- ==== Sys2Proof/Machine/Abevo.lean ====
section
/-! DEFINITION. The Abevo frames of 18_command_ports.md (R510) as the SMP port and the in-band port carry them, the
reads that they ask for, and the reads of BAR2 (R505, R506). -/

namespace Sys2Proof.Machine

open Sys2Proof

/-! ### Table: Command status -/

abbrev stOk : Nat := 0
abbrev stPending : Nat := 1
abbrev stDenied : Nat := 2
abbrev stBadOpcode : Nat := 3
abbrev stBadArg : Nat := 4
abbrev stRefused : Nat := 5
abbrev stBusy : Nat := 6
abbrev stCrcErr : Nat := 7
abbrev stDomainOff : Nat := 8

/-! ### Frames (R510) -/

/-- A request frame, taken apart. -/
structure Abv where
  magic : Nat
  op : Nat
  len : Nat
  seq : Nat
  space : Nat
  addr : Nat
  deriving DecidableEq, Repr

/-- The fields at the head of a frame. -/
def abvHead (f : List Byte) : Abv :=
  { magic := leNat (f.take 1), op := leNat ((f.drop 1).take 1), len := leNat ((f.drop 2).take 2),
    seq := leNat ((f.drop 4).take 2), space := leNat ((f.drop 6).take 1), addr := leNat ((f.drop 8).take 4) }

/-- The byte count that LEN and OP imply: a READ and a POLL carry no payload. -/
def Abv.count (a : Abv) : Nat := if a.op = 1 ∨ a.op = 4 then 16 else 16 + a.len

/-- The payload of a frame. -/
def Abv.payload (a : Abv) (f : List Byte) : List Byte := (f.drop 12).take (a.count - 16)

/-- The CRC and the MAGIC of a frame are good. -/
def Abv.good (a : Abv) (f : List Byte) : Bool :=
  decide (a.magic = 0xAB ∧ leNat ((f.drop (a.count - 4)).take 4) = (crc32c (f.take (a.count - 4))).toNat)

/-- LEN and ADDR obey the table. -/
def Abv.argsGood (a : Abv) : Bool := decide (a.len % 4 = 0 ∧ a.len ≤ 4096 ∧ a.addr % 4 = 0 ∧ a.space < 2)

/-- A response frame. -/
def Abv.response (a : Abv) (status : Nat) (payload : List Byte) : List Byte :=
  let b := toLe 0xAB 1 ++ toLe (a.op % 128 + 128) 1 ++ toLe payload.length 2 ++ toLe a.seq 2 ++ toLe status 1 ++
    toLe 0 1 ++ toLe a.addr 4 ++ payload
  b ++ bytesOf (crc32c b)

/-- Words as bytes. -/
def wordBytes (l : List Word) : List Byte := l.flatMap bytesOf

/-- Bytes as words. -/
def bytesWords : List Byte → List Word
  | b0 :: b1 :: b2 :: b3 :: t => wordOfBytes b0 b1 b2 b3 :: bytesWords t
  | _ => []

/-! ### BAR2 (R505, R506) -/

/-- The byte of the table region of a chiplet (assumption 5); beyond its end 0. -/
def State.tblByte (s : State) (c a : Nat) : Byte :=
  if a < 4294967296 then Sparse.get (fun _ => 0) (s.chip c).tbl a else 0

/-- The byte address in the table region of byte b of a chiplet's table window (R506). -/
def State.tblAddr (s : State) (c b : Nat) : Nat := 64 * s.rdFld (tbwReg c) 25 0 + b

/-- The chiplet of a table-window offset of BAR2. -/
def tblWindow (a : Nat) : Option (Nat × Nat) :=
  if 0x10000000 ≤ a ∧ a < 0x30000000 then some ((a - 0x10000000) / 0x2000000, (a - 0x10000000) % 0x2000000) else none

/-- The word of a BAR2 offset. The record memory of a Loupe unit holds 16-bit samples. -/
def State.bar2Word (s : State) (a : Nat) : Word :=
  if a < 0x4000000 then
    let m := (s.loupe (a / 0x800000)).mem
    let i := a % 0x800000 / 2
    BitVec.ofNat 32 ((Sparse.get (fun _ => 0) m i).toNat + 65536 * (Sparse.get (fun _ => 0) m (i + 1)).toNat)
  else
    match tblWindow a with
    | some (c, b) =>
      let t := s.tblAddr c b
      wordOfBytes (s.tblByte c t) (s.tblByte c (t + 1)) (s.tblByte c (t + 2)) (s.tblByte c (t + 3))
    | none => 0

/-- The memory behind a BAR2 offset has power (R518). -/
def State.bar2On (s : State) (a : Nat) : Bool :=
  if a < 0x4000000 then s.domOn (if a < 0x2000000 then 48 else 49)
  else
    match tblWindow a with
    | some (c, _) => s.chipOn c
    | none => true

/-- A read of one word of BAR2. A unit of the table region that reads uncorrectable raises the fault of R294, and the word is a
free value (assumption 15). -/
def State.readBar2 (s : State) (p : CmdPort) (a : Nat) : State :=
  if !s.allowed p 0 then (s.reject p 0 0x01 (BitVec.ofNat 32 a)).setRd p 0
  else if !s.bar2On a then (s.bump 0x100094 1).setRd p 0
  else
    match tblWindow a with
    | some (c, b) =>
      let u := s.tblAddr c b / 64
      if (s.chip c).tblPoisoned.contains u then
        let f := s.free
        (f.2.tblFault c u).setRd p f.1
      else s.setRd p (s.bar2Word a)
    | none => s.setRd p (s.bar2Word a)

/-! ### Reads -/

/-- A read is executed: its class is allowed and its block is on. -/
def State.readStatus (s : State) (p : CmdPort) (space a : Nat) : Nat :=
  if !s.allowed p 0 then stDenied
  else if (if space = 0 then s.addrOn a else s.bar2On a) then stOk
  else stDomainOff

/-- The worse of two statuses of the words of one request: the first that is not OK stands. -/
def firstBad (a b : Nat) : Nat := if a = stOk then b else a

/-- n reads from an address upward, each a separate class 0 read (Table: Abevo operations): their words and status. -/
def State.abvReads (s : State) (p : CmdPort) (space a : Nat) : Nat → State × List Word × Nat
  | 0 => (s, [], stOk)
  | n + 1 =>
    let st := s.readStatus p space a
    let s1 := if space = 0 then s.readReg p a else s.readBar2 p a
    let r := State.abvReads s1 p space (a + 4) n
    (r.1, s1.lastRd p :: r.2.1, firstBad st r.2.2)

/-- A READ request, executed, with its response. A response that is not OK carries no payload (assumption 36). -/
def State.abvRead (s : State) (p : CmdPort) (a : Abv) : State × List Byte :=
  if !a.argsGood then (s, a.response stBadArg [])
  else
    let r := s.abvReads p a.space a.addr (a.len / 4)
    (r.1, a.response r.2.2 (if r.2.2 = stOk then wordBytes r.2.1 else []))

/-- R513: an in-band request: its answer. Bytes after the request are padding. -/
def State.inbandRequest (s : State) (f : List Byte) : State × List Byte :=
  let a := abvHead f
  if f.length < 16 ∨ !a.good f then (s, a.response stCrcErr [])
  else if a.op ≠ 1 ∨ a.space = 1 then
    (s.reject .inband 0 0x04 (BitVec.ofNat 32 a.addr), a.response stDenied [])
  else s.abvRead .inband a

end Sys2Proof.Machine
end

