-- ==== Sys2Proof/Machine/Cross.lean ====
section
/-! DEFINITION. The handshake crossings of 22_clocks_and_crossings.md (R593 to R598). -/

namespace Sys2Proof.Machine

open Sys2Proof

/-- A crossing. -/
def State.crossing (s : State) (x : Nat) : Crossing := Sparse.get (fun _ => {}) s.xing x

/-- Replace a crossing. -/
def State.setCrossing (s : State) (x : Nat) (c : Crossing) : State :=
  { s with xing := Sparse.set (fun _ => {}) s.xing x c }

/-- R593, R594: a delta is launched, or adds into the holding register while one is in flight. -/
def Crossing.launch (c : Crossing) (d : Int) : Crossing :=
  match c.flight with
  | none => { c with flight := some d }
  | some _ => { c with hold := some (c.hold.getD 0 + d) }

/-- The delta in flight arrives, and what waits is launched. -/
def Crossing.deliver (c : Crossing) : Crossing := { c with flight := c.hold, hold := none }

/-- R596: the delta not yet delivered. -/
def Crossing.inFlight (c : Crossing) : Int := c.flight.getD 0 + c.hold.getD 0

/-- The crossing of a port's transmit word clock. -/
def txCrossing (k : Nat) : Nat := 0x200 + k

/-- A ledger event of n sent frames leaves the lane clock of a port (R597). -/
def State.launchDelivered (s : State) (k : Nat) (n : Int) : State :=
  s.setCrossing (txCrossing k) ((s.crossing (txCrossing k)).launch n)

/-- R595: the pulses that came during a handshake; beyond 15 the count has saturated. -/
def State.pulses (s : State) (x n : Nat) : State :=
  let s1 := s.setCrossing x { s.crossing x with pulses := Fin.ofNat 16 (min 15 n) }
  if 15 < n then
    (((s1.wrBit Reg.CLK_STATUS 4 true).bump 0x400024 1).wr 0x400028 (BitVec.ofNat 32 x)).irqIf Reg.CLK_CTRL 1 13
  else s1

/-- The event of the chiplet of a port that a DELIVERED delta is. -/
def State.delivered (s : State) (x : Nat) (d : Int) : State :=
  if 0x200 ≤ x ∧ x < 0x400 then s.ledgerEvent (chipOf (x - 0x200)) (.deliver (BitVec.ofInt 64 d)) else s

/-- An identifier of Table: Crossing sources. -/
def isCrossing (x : Nat) : Bool := decide (x < 0x404)

/-- CROSSING_TRANSFER (R593, R597): the destination takes the delta in flight and the pulses accumulated. -/
def State.crossTransfer (s : State) (x pulses : Nat) : State :=
  if isCrossing x then
    let c := s.crossing x
    let s1 := match c.flight with
      | none => s
      | some d => (s.setCrossing x c.deliver).delivered x d
    if pulses = 0 then s1 else s1.pulses x pulses
  else s

/-- CROSSING_TRANSFER (R593). -/
def execCrossingTransfer (x : BitVec 11) (pulses : Nat) (s : State) : Host.Outcome State Fault Refusal :=
  .next (s.crossTransfer x.toNat pulses)

end Sys2Proof.Machine
end

