-- ==== Sys2Proof/Machine/Frame.lean ====
section
/-! DEFINITION. The bytes of frames: the FCS, the fabric header (Table: CFH layout), the recognition of PTP event
messages (R273) and the correction of a transparent clock (R275, R276). A frame is its bytes from the first after the
SFD through the FCS. -/

namespace Sys2Proof.Machine

open Sys2Proof

/-! ### The FCS of Ethernet -/

/-- One bit of the reflected CRC-32 of IEEE 802.3. -/
def fcsBit (c : BitVec 32) : BitVec 32 := if c.getLsbD 0 then (c >>> 1) ^^^ 0xEDB88320 else c >>> 1

/-- Eight bits of it. -/
def fcsByte (c : BitVec 32) (b : Byte) : BitVec 32 :=
  let c := c ^^^ b.setWidth 32
  fcsBit (fcsBit (fcsBit (fcsBit (fcsBit (fcsBit (fcsBit (fcsBit c)))))))

/-- The FCS of a frame without one, as its four bytes. -/
def fcsOf (l : List Byte) : List Byte := bytesOf (~~~ (l.foldl fcsByte 0xFFFFFFFF))

/-- A frame with its FCS put for the bytes before it (R260). -/
def refcs (f : List Byte) : List Byte :=
  let b := f.take (f.length - 4)
  b ++ fcsOf b

/-! ### Bytes in network order -/

/-- n big-endian bytes at an offset, as a number; bytes beyond the end read 0. -/
def beAt (f : List Byte) (off n : Nat) : Nat :=
  let b := (f.drop off).take n
  beNat b * 256 ^ (n - b.length)

/-- A number as n big-endian bytes. -/
def toBe (v n : Nat) : List Byte := (toLe v n).reverse

/-- Bytes put at an offset of a frame. -/
def putAt (f : List Byte) (off : Nat) (b : List Byte) : List Byte := f.take off ++ b ++ f.drop (off + b.length)

/-! ### The fabric header -/

/-- The fields of a CFH. -/
structure Cfh where
  ver : Nat
  type : Nat
  tsReq : Bool
  tenant : Nat
  cls : Nat
  frameLen : Nat
  hint : Nat
  hintValid : Bool
  tag : Nat
  seed : Word
  deriving DecidableEq, Repr

/-- The CFH at the start of a frame. -/
def cfhOf (f : List Byte) : Cfh :=
  let w0 := BitVec.ofNat 32 (beAt f 0 4)
  let w1 := BitVec.ofNat 32 (beAt f 4 4)
  { ver := fld w0 31 28, type := fld w0 27 26, tsReq := bit w0 25, tenant := fld w0 23 21, cls := fld w0 20 18
    frameLen := fld w0 13 0, hint := fld w1 31 23, hintValid := bit w1 22, tag := fld w1 15 0
    seed := BitVec.ofNat 32 (beAt f 8 4) }

/-! ### PTP event messages (R273) -/

/-- The EtherType at an offset is that of a VLAN tag. -/
def isVlan (t : Nat) : Bool := decide (t = 0x8100 ∨ t = 0x88A8)

/-- The offset of the EtherType of a frame after at most n VLAN tags, from an offset. -/
def typeAt (f : List Byte) (off : Nat) : Nat → Nat
  | 0 => off
  | n + 1 => if isVlan (beAt f off 2) then typeAt f (off + 4) n else off

/-- Where a PTP event message stands: the offset of its header, and of the UDP checksum over it where there is one. -/
structure PtpAt where
  off : Nat
  udp : Option Nat
  v4 : Bool
  deriving DecidableEq, Repr

/-- The place of a PTP message in a frame, by its encapsulation. The CFH, where present, is not part of the bytes. -/
def ptpPlace (f : List Byte) : Option PtpAt :=
  let t := typeAt f 12 2
  let e := beAt f t 2
  let o := t + 2
  if e = 0x88F7 then some { off := o, udp := none, v4 := false }
  else if e = 0x0800 then
    let h := o + 4 * (beAt f o 1 % 16)
    if beAt f o 1 / 16 = 4 ∧ beAt f (o + 9) 1 = 17 ∧ beAt f (o + 6) 2 % 8192 = 0 ∧ beAt f (h + 2) 2 = 319 then
      some { off := h + 8, udp := some (h + 6), v4 := true }
    else none
  else if e = 0x86DD then
    let h := o + 40
    if beAt f o 1 / 16 = 6 ∧ beAt f (o + 6) 1 = 17 ∧ beAt f (h + 2) 2 = 319 then
      some { off := h + 8, udp := some (h + 6), v4 := false }
    else none
  else none

/-- A recognised event message: Sync, Delay_Req, Pdelay_Req or Pdelay_Resp of versionPTP 2, whole before the FCS. -/
def ptpEvent (f : List Byte) : Option PtpAt :=
  match ptpPlace f with
  | none => none
  | some p =>
    if beAt f p.off 1 % 16 < 4 ∧ beAt f (p.off + 1) 1 % 16 = 2 ∧ p.off + 34 + 4 ≤ f.length then some p else none

/-- What the capture FIFO takes of a message (R377). -/
def ptpMsg (f : List Byte) (p : PtpAt) : PtpMsg :=
  { kind := beAt f p.off 1 % 16, domain := beAt f (p.off + 4) 1, seqId := beAt f (p.off + 30) 2 }

/-- One's complement addition of 16-bit numbers. -/
def onesAdd (a b : Nat) : Nat := (a + b) % 65536 + (a + b) / 65536

/-- R276: the checksum updated for one 16-bit word by RFC 1624: HC' = ~(~HC + ~m + m'). -/
def rfc1624 (hc m m' : Nat) : Nat := 65535 - onesAdd (onesAdd (65535 - hc) (65535 - m)) m'

/-- The UDP checksum of a message whose correctionField changes; 0 stays 0, and a result of 0 is sent as 0xFFFF. -/
def udpFix (hc : Nat) (old new : Nat) : Nat :=
  if hc = 0 then 0
  else
    let h := [3, 2, 1, 0].foldl (fun h i => rfc1624 h (old / 65536 ^ i % 65536) (new / 65536 ^ i % 65536)) hc
    if h = 0 then 65535 else h

/-- The largest correctionField. -/
def cfMax : Int := 0x7FFFFFFFFFFFFFFF

/-- R275, R276: the correctionField raised by a residence time in 1/64 ns, and whether it saturated. -/
def cfAdd (cf : BitVec 64) (residence : Int) : BitVec 64 × Bool :=
  let v := cf.toInt + residence * 1024
  if cfMax < v then (BitVec.ofInt 64 cfMax, true) else (BitVec.ofInt 64 v, false)

/-- The frame with the correction applied, without regard to its FCS. -/
def ptpCorrect (f : List Byte) (p : PtpAt) (residence : Int) : List Byte × Bool :=
  let old := beAt f (p.off + 8) 8
  let r := cfAdd (BitVec.ofNat 64 old) residence
  let f1 := putAt f (p.off + 8) (toBe r.1.toNat 8)
  match p.udp with
  | none => (f1, r.2)
  | some u => (putAt f1 u (toBe (udpFix (beAt f u 2) old r.1.toNat) 2), r.2)

end Sys2Proof.Machine
end

