-- ==== Sys2Proof/Machine/Lanes.lean ====
section
/-! DEFINITION. The port lanes (08_port_lanes.md): link and training, frames received, flow control, in-band commands,
lane remap, and frames sent. -/

namespace Sys2Proof.Machine

open Sys2Proof

/-! ### Link state (R258 to R262) -/

/-- A counter of a port's window. -/
def State.lanBump (s : State) (k i : Nat) : State := s.bump (lanReg k (0x100 + 8 * i)) 1

/-- AN_EN of a port. -/
def State.anEn (s : State) (k : Nat) : Bool := bit (s.portCtrl k) 1

/-- The training of a port starts again from the beginning; during a remap it waits for the new lane (R264). -/
def State.restartTraining (s : State) (k : Nat) : State :=
  s.setPort k ((s.port k).off (if s.remapping k then 0 else if s.anEn k then 1 else 2))

/-- The lead port of a MAC that receives: its ENABLE acts and its link is up (R259). -/
def State.macUp (s : State) (k : Nat) : Bool := s.isLead k && s.portActs k && (s.port k).linkUp

/-- PFC_TX_EN of a port. -/
def State.pfcTxEn (s : State) (k : Nat) : Bool := bit (s.portCtrl k) 2

/-- R267: a PFC frame is owed: the priorities asserted differ from those last sent. -/
def State.pfcOwed (s : State) (k : Nat) : Bool := s.pfcTxEn k && decide (s.xoffBits k ≠ (s.port k).pfcSent)

/-- A PFC frame may start: it goes ahead of every data frame, and not into a link fault. -/
def State.pfcMayStart (s : State) (k : Nat) : Bool :=
  let x := s.port k
  s.macUp k && x.tx.isNone && !x.rxLf && !x.rxRf && !x.txLf

/-- R262: in the hardware safe state Local Fault is sent from the end of the frame in transmission, after the PFC frame
that is owed and can be sent. -/
def State.startLf (s : State) (k : Nat) : State :=
  let x := s.port k
  if s.flt.safe && s.isLead k && s.portActs k && x.tx.isNone && !(s.pfcOwed k && s.pfcMayStart k) then
    s.setPort k { x with txLf := true }
  else s

/-- LINK_UP (R258): training completes. It ends a remap of the port (R264); in the safe state the port sends Local Fault
(R262). -/
def State.linkComesUp (s : State) (k : Nat) : State :=
  let x := s.port k
  if s.isLead k && s.portActs k && decide (x.train = 2) then
    let s1 := s.setPort k { x with linkUp := true, train := 3 }
    let c := chipOf k
    let s2 := match (s1.chip c).remap with
      | some (p, _, true) => if p.val = k % 32 then s1.setChip c { s1.chip c with remap := none } else s1
      | _ => s1
    s2.startLf k
  else s

/-- TRAINING_RETRY (R258): training starts again; TRAIN shows it without end. -/
def State.trainingRetry (s : State) (k : Nat) : State :=
  let x := s.port k
  if s.isLead k && s.portActs k && !x.linkUp && decide (x.train = 2) then s.setPort k { x with train := 2 } else s

/-- AUTO_NEGOTIATION_DONE (R258). -/
def State.autoNegDone (s : State) (k : Nat) : State :=
  let x := s.port k
  if s.isLead k && s.portActs k && decide (x.train = 1) then s.setPort k { x with train := 2 } else s

/-- LINK_DOWN (R259): the port trains again; a frame that the loss cut short is counted. -/
def State.linkDown (s : State) (k : Nat) (cut : Bool) : State :=
  if s.macUp k then
    let s1 := if cut then s.lanBump k 4 else s
    s1.restartTraining k
  else s

/-- LINK_FAULT_RECEIVED (R261). A PFC frame that is owed in the safe state cannot be sent into it (R262). -/
def State.linkFault (s : State) (k : Nat) (isLocal : Bool) : State :=
  if s.macUp k then
    let x := s.port k
    (s.setPort k (if isLocal then { x with rxLf := true } else { x with rxRf := true })).startLf k
  else s

/-- LINK_FAULT_END (R261). -/
def State.linkFaultEnd (s : State) (k : Nat) (isLocal : Bool) : State :=
  if s.macUp k then
    let x := s.port k
    s.setPort k (if isLocal then { x with rxLf := false } else { x with rxRf := false })
  else s

/-! ### What a port transmits (R259, R261, R262) -/

/-- What the electrical lanes of a MAC carry. -/
inductive LaneOut where
  | idle
  | training
  | localFault
  | remoteFault
  | frames
  deriving DecidableEq, Repr

/-- The output of a lead port's lanes: idle while its ENABLE does not act; Local Fault in the safe state (R262); Remote Fault
while it receives Local Fault (R261); else frames and idles. -/
def State.laneOut (s : State) (k : Nat) : LaneOut :=
  let x := s.port k
  if s.remapping k then .idle
  else if x.txLf then .localFault
  else if !s.portActs k then .idle
  else if !x.linkUp then .training
  else if x.rxLf && x.tx.isNone then .remoteFault
  else .frames

/-! ### Priority flow control (R266 to R268) -/

/-- PFC_QUANTA of a port. -/
def State.pfcQuanta (s : State) (k : Nat) : Nat := max 1 (s.rdFld (lanReg k Reg.LAN_PORT_CFG) 31 16)

/-- R267: a PFC frame: PFC_QUANTA for every priority asserted, and quanta 0 for those shown before that no source asserts any
more. The MAC's address is a free value (assumption 15). -/
def State.pfcFrame (s : State) (k : Nat) : List Byte × State :=
  let f1 := s.free
  let f2 := f1.2.free
  let on := s.xoffBits k
  let named := on ||| (s.port k).pfcSent
  let times := (List.range 8).flatMap fun q => toBe (if on.getLsbD q then s.pfcQuanta k else 0) 2
  let body := toBe 0x0180C2000001 6 ++ toBe (f1.1.toNat % 65536) 2 ++ toBe f2.1.toNat 4 ++ toBe 0x8808 2 ++ toBe 0x0101 2 ++
    toBe named.toNat 2 ++ times
  (refcs (body ++ List.replicate (60 - body.length) 0 ++ [0, 0, 0, 0]), f2.2)

/-- A PFC frame is sent. -/
def State.sendPfc (s : State) (k : Nat) : State :=
  let f := s.pfcFrame k
  (f.2.setPort k { f.2.port k with pfcSent := f.2.xoffBits k, lastFrame := f.1 }).lanBump k 11

/-- PFC_FRAME_SEND (R267). -/
def State.pfcSend (s : State) (k : Nat) : State :=
  if s.pfcMayStart k && s.pfcOwed k then
    (s.sendPfc k).startLf k
  else s

/-- PFC_REFRESH (R267): the frame is repeated while a priority stays asserted. -/
def State.pfcRefresh (s : State) (k : Nat) : State :=
  if s.pfcMayStart k && s.pfcTxEn k && decide ((s.port k).pfcSent ≠ 0) && !s.pfcOwed k then s.sendPfc k else s

/-- R268: a received PFC frame names quanta for the priorities that it enables. -/
def Port.pause (x : Port) (f : List Byte) (off : Nat) : Port :=
  (List.range 8).foldl (fun x q =>
    if beAt f (off + 2) 2 / 2 ^ q % 2 = 1 then
      { x with paused := Sparse.set (fun _ => 0) x.paused q (beAt f (off + 4 + 2 * q) 2) }
    else x) x

/-- PAUSE_EXPIRY (R268). -/
def State.pauseExpiry (s : State) (k q : Nat) : State :=
  let x := s.port k
  s.setPort k { x with paused := Sparse.set (fun _ => 0) x.paused q 0 }

/-! ### In-band commands (R271, R513) -/

/-- The reply to an in-band command: a CFH of TYPE 2 with its TAG, the Ethernet header with its addresses exchanged, the
Abevo response, padding to 64 bytes. The CFH fields that no rule names are free values (assumption 15). -/
def State.replyFrame (s : State) (k : Nat) (tag : Nat) (eth resp : List Byte) : List Byte × State :=
  let f1 := s.free
  let f2 := f1.2.free
  let f3 := f2.2.free
  let f4 := f3.2.free
  let body := (eth.drop 6).take 6 ++ eth.take 6 ++ (eth.drop 12).take 2 ++ resp
  let body := body ++ List.replicate (44 - body.length) 0
  let w0 := setFld (setFld (setFld (setFld (f1.1 &&& 0x021C0000) 31 28 1) 27 26 2) 23 21 (s.tenant k).val) 13 0 body.length
  let w1 := setFld (f2.1 &&& 0xFFC00000) 15 0 tag
  (refcs (toBe w0.toNat 4 ++ toBe w1.toNat 4 ++ toBe f3.1.toNat 4 ++ toBe f4.1.toNat 4 ++ body ++ [0, 0, 0, 0]), f4.2)

/-- A TYPE 1 frame on a command port: executed, and its reply is owed. -/
def State.inbandFrame (s : State) (k : Nat) (f : List Byte) : State :=
  let s1 := s.lanBump k 7
  let body := (f.drop 16).take (f.length - 20)
  let r := s1.inbandRequest (body.drop 14)
  let q := r.1.replyFrame k (cfhOf f).tag (body.take 14) r.2
  let x := q.2.port k
  q.2.setPort k { x with replies := x.replies ++ [q.1] }

/-- The block of a BAR0 offset stands in the controllers. -/
def inController (a : Nat) : Bool :=
  match locate a with
  | some (b, _) => b = .acq || b = .cal || b = .lpe || b = .cel || b = .lin || b = .mtx || b = .slt || b = .brt
  | none => false

/-- R456: a reply that needs controller state waits for the end of a switch-over gap. -/
def State.replyHeld (s : State) (f : List Byte) : Bool :=
  s.red.gapEnd.isSome && inController (leNat ((f.drop 38).take 4))

/-- COMMAND_REPLY (R271): the oldest reply owed is sent. -/
def State.commandReply (s : State) (k : Nat) : State :=
  let x := s.port k
  match x.replies with
  | [] => s
  | f :: t =>
    if s.isLead k && s.mayStart k && !s.pfcOwed k && !s.replyHeld f then
      (s.setPort k { x with replies := t, lastFrame := f }).lanBump k 12
    else s

/-! ### Frames received (R259, R269 to R274, R281) -/

/-- The Parallax word that was in force n ticks ago (R274): a write acts on time-stamps taken after it. -/
def State.plxWord (s : State) (k o n : Nat) : Word :=
  match (s.port k).plxLog.find? fun x => decide (x.2.1 = o ∧ s.tim.ticks < x.1 + n) with
  | some x => x.2.2
  | none => s.rd (lanReg k o)

/-- A signed Parallax value for a time-stamp taken n ticks ago. -/
def State.plx (s : State) (k o n : Nat) : Int := (BitVec.ofNat 16 (fld (s.plxWord k o n) 15 0)).toInt

/-- SKEW of a member lane; 0 for a single-lane port (R274). -/
def State.skew (s : State) (k m n : Nat) : Int :=
  if s.bundleSize k = 1 then 0 else s.plx k (Reg.LAN_PLX_SKEW + 4 * m) n

/-- A Parallax word is about to be written: what it held stays for the frames whose time-stamps were taken before. -/
def Port.logPlx (x : Port) (tick o : Nat) (w : Word) : Port :=
  { x with plxLog := (x.plxLog.filter fun y => decide (tick < y.1 + 2048)) ++ [(tick, o, w)] }

/-- CFH_MODE, with 0b11 taken as 0b00 (R269). -/
def State.cfhMode (s : State) (k : Nat) : Nat :=
  let m := fld (s.portCtrl k) 7 6
  if m = 3 then 0 else m

/-- MAX_FRAME (R260). -/
def State.maxFrame (s : State) (k : Nat) : Nat := max 64 (s.rdFld (lanReg k Reg.LAN_PORT_CFG) 13 0)

/-- The bytes that a waiting packet takes in the parse input buffer: those received. -/
def Pkt.rxBytes (p : Pkt) : Nat := p.bytes.length + (if p.cfh.isSome && !p.cfhKept then 16 else 0)

/-- The bytes in a port's parse input buffer. -/
def State.inbufBytes (s : State) (k : Nat) : Nat :=
  ((s.port k).inbuf.map fun n => match s.pkt n with | some p => p.rxBytes | none => 0).foldl (fun a b => a + b) 0

/-- A good frame enters the ledger and is discarded at once. -/
def State.admitDiscard (s : State) (k r : Nat) : State :=
  (s.ledgerEvent (chipOf k) .enter).countDiscard (chipOf k) r

/-- A good data frame is handed to parsing (R244, R281). -/
def State.handToParse (s : State) (k : Nat) (f : RxFrame) (rx : Int) : State :=
  let c := chipOf k
  let mode := s.cfhMode k
  let h := cfhOf f.bytes
  let info : Option CfhInfo :=
    if mode = 0 then none
    else some { cls := h.cls, hint := h.hint, hintValid := h.hintValid, seed := h.seed, tsReq := h.tsReq }
  let p : Pkt :=
    { bytes := if mode = 2 then f.bytes.drop 16 else f.bytes
      rxPort := k, rx := rx, cfh := info, cfhKept := decide (mode = 1)
      fLen := decide (mode ≠ 0 ∧ h.frameLen ≠ f.bytes.length - 20) }
  if 32768 < s.inbufBytes k + f.bytes.length then
    ((s.admitDiscard k drParseOverrun).bump (prsReg c (0x800 + 8 * 15)) 1).irqIf (prsReg c Reg.PRS_CTRL) 2 (16 + c)
  else
    let n := s.nextPkt
    let s1 := { (s.ledgerEvent c .enter).setPkt n p with nextPkt := n + 1 }
    let x := s1.port k
    s1.setPort k { x with inbuf := x.inbuf ++ [n] }

/-- A good frame: its MAC control frames and commands end here, its data frames are captured and parsed. The checks of
the CFH come first (assumption 37). -/
def State.goodFrame (s : State) (k : Nat) (f : RxFrame) : State :=
  let s1 := s.lanBump k 0
  let mode := s1.cfhMode k
  let h := cfhOf f.bytes
  if mode ≠ 0 ∧ (h.ver ≠ 1 ∨ h.type = 3) then s1.admitDiscard k drCfhInvalid
  else if mode ≠ 0 ∧ h.tenant ≠ (s1.tenant k).val then s1.admitDiscard k drCfhTenant
  else if mode ≠ 0 ∧ h.type = 2 then s1.lanBump k 9
  else if mode ≠ 0 ∧ h.type = 1 then
    if bit (s1.portCtrl k) 10 then s1.inbandFrame k f.bytes
    else (s1.lanBump k 8).audit 0x04 2 0 (BitVec.ofNat 32 k) 0
  else
    let e := if mode = 0 then f.bytes else f.bytes.drop 16
    if beAt e 12 2 = 0x8808 then
      if beAt e 14 2 = 0x0101 ∧ beAt e 0 6 = 0x0180C2000001 then
        let s2 := s1.lanBump k 5
        if bit (s2.portCtrl k) 3 then s2.setPort k ((s2.port k).pause e 14) else s2
      else if beAt e 14 2 = 1 then s1.lanBump k 6
      else s1
    else
      let rx : Int := s1.rawStamp f.age f.sub.val - s1.plx k Reg.LAN_PLX_RX f.age - s1.skew k f.member.val f.age
      let s2 := match ptpEvent e with
        | some p => s1.capture k false (ptpMsg e p) rx f.age
        | none => s1
      s2.handToParse k f rx

/-- FRAME_RECEIVED (R257, R259). -/
def State.frameReceived (s : State) (k : Nat) (f : RxFrame) : State :=
  if s.macUp k then
    let s1 := ((s.bump (lanReg k 0x168) f.corrected).countCorrected f.corrected).bump (lanReg k 0x170) f.uncorrected
    if f.aborted then s1.lanBump k 4
    else if !f.fcsGood || decide (0 < f.uncorrected) then s1.lanBump k 1
    else if f.bytes.length < 64 then s1.lanBump k 2
    else if s1.maxFrame k < f.bytes.length then s1.lanBump k 3
    else s1.goodFrame k f
  else s

/-! ### Register writes -/

/-- A write of LAN_PORT_CTRL (R258, R278). -/
def State.writePortCtrl (s : State) (p : CmdPort) (k : Nat) (v : Word) : State :=
  let a := lanReg k Reg.LAN_PORT_CTRL
  if !s.isLead k then s
  else
    let s1 := s.plainWrite p a v
    if s1.portActs k then
      if s1.remapping k then (if bit v 5 then s1.wrBit a 5 true else s1)
      else if bit v 5 && decide ((s1.port k).train ≠ 0) then (s1.wrBit a 5 false).setPort k ((s1.port k).off 2)
      else s1.startTraining k
    else
      let s2 := if bit v 5 then s1.wrBit a 5 true else s1
      s2.setPort k ((s2.port k).off 0)

/-- A write of another word of a port's window in LAN, which only a lead port's window takes (R278). -/
def State.writeLanPort (s : State) (p : CmdPort) (k o a : Nat) (v : Word) : State :=
  if s.isLead k then
    let s1 := if 0x10 ≤ o ∧ o < 0x40 then s.setPort k ((s.port k).logPlx s.tim.ticks o (s.rd a)) else s
    s1.plainWrite p a v
  else s

/-- A write of LAN_REMAP_REQ (R264, R265): every refusal that applies is set. -/
def State.writeRemap (s : State) (p : CmdPort) (c : Nat) (v : Word) (cut : Bool) : State :=
  let a := lanChip c Reg.LAN_REMAP_REQ
  let s1 := s.plainWrite p a v
  if !bit v 31 then s1
  else
    let lp := fld v 4 0
    let l := fld v 12 8
    let k := 32 * c + lp
    let noLane := !s1.isReserve c l
    let inBundle := decide (s1.bundleSize k ≠ 1)
    let busy := (s1.chip c).remap.isSome
    if noLane || inBundle || busy then
      let s2 := if noLane then s1.wrBit a 28 true else s1
      let s3 := if inBundle then s2.wrBit a 29 true else s2
      if busy then s3.wrBit a 30 true else s3
    else
      let s2 := if cut && s1.macUp k then s1.lanBump k 4 else s1
      let s3 := s2.setPort k ((s2.port k).off 0)
      s3.setChip c { s3.chip c with remap := some (Fin.ofNat 32 lp, Fin.ofNat 32 l, false) }

/-- REMAP_SWITCH (R264): the lane map switches at a slot boundary. The remap of a port that trains nothing ends here. -/
def State.remapSwitch (s : State) (c : Nat) : State :=
  let x := s.chip c
  match x.remap with
  | some (p, l, false) =>
    let k := 32 * c + p.val
    let old := s.laneOf k
    let s1 := s.setPort k { s.port k with lane := if l.val = k % 32 then none else some l }
    let acts := s1.portActs k
    let s2 := s1.setChip c { x with
      laneFailed := x.laneFailed ||| BitVec.ofNat 32 (2 ^ old), remap := if acts then some (p, l, true) else none }
    if acts then s2.startTraining k else s2
  | _ => s

/-! ### Frames sent (R272 to R276, R329, R355) -/

/-- A frame as it is sent: corrected, with its time-stamp and FCS, for a TX time-stamp in 1/64 ns. -/
def State.sentFrame (s : State) (l : Nat) (p : Pkt) (tx : Int) : List Byte × State :=
  let e := if p.cfhKept then p.bytes.drop 16 else p.bytes
  let head := if p.cfhKept then p.bytes.take 16 else []
  let head := match p.cfh with
    | some i => if p.cfhKept && i.tsReq then putAt head 12 (toBe (p.rx / 64 % 4294967296).toNat 4) else head
    | none => head
  match ptpEvent e with
  | none => (refcs (head ++ e), s)
  | some m =>
    let s1 := s.capture l true (ptpMsg e m) tx 0
    if bit (s1.portCtrl l) 4 then
      let r := ptpCorrect e m (tx - p.rx)
      let s2 := s1.lanBump l 15
      (refcs (head ++ r.1), if r.2 then s2.lanBump l 16 else s2)
    else (refcs (head ++ e), s1)

/-- The frame picked starts. -/
def State.startFrame (s : State) (l : Nat) (q : Pick) (sub member : Nat) : State :=
  let h := q.head
  match s.pkt h.pkt with
  | none => s
  | some p =>
    let tx : Int := s.rawStamp 0 sub + s.plx l Reg.LAN_PLX_TX 0 + s.skew l member 0
    let s1 := s.takeHead l q
    let r := s1.sentFrame l p tx
    r.2.setPort l { r.2.port l with tx := some { pkt := h.pkt, segs := h.segs, queue := h.port }, lastFrame := r.1 }

/-- FRAME_TRANSMIT_START (R354, R355): the scheduler picks, every segment of the frame is read and checked (R329), and the
frame starts; one that reads uncorrectable is discarded in its place. -/
def State.transmitStart (s : State) (l : Nat) (sub member : Nat) (reads : List SegRead) : State :=
  if s.isLead l && s.mayStart l && !s.pfcOwed l then
    let s1 := s.countGateWaits l
    match s1.pick l with
    | none => s1
    | some q =>
      let h := q.head
      let c := chipOf l
      let mine := reads.filter fun r => h.segs.any fun g => decide (g.seg = r.seg)
      let s2 := mine.foldl (fun s r => s.segRead c r) s1
      if h.segs.any fun g => s2.isPoisoned c g.seg then
        (((s2.setQueue h.port h.cls h.fg (s2.queue h.port h.cls h.fg).tail).loseDeficit h.port h.cls h.fg).discardEgress
          h.port h.pkt drDramEcc h.segs).checkHead h.port h.cls h.fg
      else s2.startFrame l q sub member
  else s

/-- FRAME_SENT (R244, R597): the last byte is sent; DELIVERED rises when its delta has crossed. -/
def State.frameSent (s : State) (l : Nat) : State :=
  let x := s.port l
  match x.tx with
  | none => s
  | some t =>
    let s1 := s.setPort l { x with tx := none }
    ((((s1.lanBump l 10).freeHold t.queue t.segs).launchDelivered l 1).dropPkt t.pkt).startLf l

/-! ### The commands -/

/-- FRAME_RECEIVED (R259). -/
def execFrameReceived (k : Fin 512) (f : RxFrame) (s : State) : Host.Outcome State Fault Refusal :=
  .next (s.frameReceived k.val f)
/-- PAUSE_EXPIRY (R268). -/
def execPauseExpiry (k : Fin 512) (q : Fin 8) (s : State) : Host.Outcome State Fault Refusal :=
  .next (s.pauseExpiry k.val q.val)
/-- COMMAND_REPLY (R271). -/
def execCommandReply (k : Fin 512) (s : State) : Host.Outcome State Fault Refusal := .next (s.commandReply k.val)
/-- LINK_UP (R258). -/
def execLinkUp (k : Fin 512) (s : State) : Host.Outcome State Fault Refusal := .next (s.linkComesUp k.val)
/-- TRAINING_RETRY (R258). -/
def execTrainingRetry (k : Fin 512) (s : State) : Host.Outcome State Fault Refusal := .next (s.trainingRetry k.val)
/-- LINK_DOWN (R259). -/
def execLinkDown (k : Fin 512) (cut : Bool) (s : State) : Host.Outcome State Fault Refusal :=
  .next (s.linkDown k.val cut)
/-- RETRAIN: LAN_PORT_CTRL.RETRAIN (R258). -/
def execRetrain (p : CmdPort) (k : Fin 512) (v : Word) (s : State) : Host.Outcome State Fault Refusal :=
  .next (s.access p (lanReg k.val Reg.LAN_PORT_CTRL) 1 fun s => s.writePortCtrl p k.val (withBit v 5))
/-- LINK_FAULT_RECEIVED (R261). -/
def execLinkFaultReceived (k : Fin 512) (isLocal : Bool) (s : State) : Host.Outcome State Fault Refusal :=
  .next (s.linkFault k.val isLocal)
/-- LINK_FAULT_END (R261). -/
def execLinkFaultEnd (k : Fin 512) (isLocal : Bool) (s : State) : Host.Outcome State Fault Refusal :=
  .next (s.linkFaultEnd k.val isLocal)
/-- AUTO_NEGOTIATION_DONE (R258). -/
def execAutoNegotiationDone (k : Fin 512) (s : State) : Host.Outcome State Fault Refusal := .next (s.autoNegDone k.val)
/-- LANE_REMAP: LAN_REMAP_REQ.GO (R264). -/
def execLaneRemap (p : CmdPort) (c : Fin 16) (v : Word) (cut : Bool) (s : State) : Host.Outcome State Fault Refusal :=
  .next (s.access p (lanChip c.val Reg.LAN_REMAP_REQ) 4 fun s => s.writeRemap p c.val (withBit v 31) cut)
/-- REMAP_SWITCH (R264). -/
def execRemapSwitch (c : Fin 16) (s : State) : Host.Outcome State Fault Refusal := .next (s.remapSwitch c.val)
/-- PFC_FRAME_SEND (R267). -/
def execPfcFrameSend (k : Fin 512) (s : State) : Host.Outcome State Fault Refusal := .next (s.pfcSend k.val)
/-- PFC_REFRESH (R267). -/
def execPfcRefresh (k : Fin 512) (s : State) : Host.Outcome State Fault Refusal := .next (s.pfcRefresh k.val)
/-- FRAME_TRANSMIT_START (R355). -/
def execFrameTransmitStart (k : Fin 512) (sub : Fin 80) (m : Fin 8) (reads : List SegRead) (s : State) :
    Host.Outcome State Fault Refusal :=
  .next (s.transmitStart k.val sub.val m.val reads)
/-- FRAME_SENT (R244). -/
def execFrameSent (k : Fin 512) (s : State) : Host.Outcome State Fault Refusal := .next (s.frameSent k.val)

end Sys2Proof.Machine
end

