-- ==== Sys2Proof/Machine/Policing.lean ====
section
/-! DEFINITION. Meters (R307 to R316) and admission (R317 to R322) of 10_policing_and_buffer.md. -/

namespace Sys2Proof.Machine

open Sys2Proof

/-! ### Meters -/

/-- The packet-clock cycle (R312): two to a tick of 800 MHz. -/
def State.cycle (s : State) : Nat := 2 * s.tim.ticks

/-- A meter profile in force. -/
def Chip.prof (x : Chip) (m : Nat) : MeterProf := Sparse.get (fun _ => {}) x.profs m

/-- A meter; one that nothing has touched alone is the shared meter of its chiplet. -/
def Chip.meter (x : Chip) (m : Nat) : Meter := (Sparse.get (fun _ => none) x.meters m).getD x.meter0

/-- Replace a meter. -/
def Chip.setMeter (x : Chip) (m : Nat) (v : Meter) : Chip :=
  { x with meters := Sparse.set (fun _ => none) x.meters m (some v) }

/-- TYPE, with 3 taken as 0 (R308). -/
def MeterProf.type (p : MeterProf) : Nat :=
  let t := fld p.w0 1 0
  if t = 3 then 0 else t

/-- A rate in force (R312). -/
def rateOf (r : Nat) : Nat := min 1000000000 r

/-- The rate of the second bucket: for TYPE 1 a PIR below CIR is CIR. -/
def MeterProf.rate2 (p : MeterProf) : Nat := if p.type = 1 then max (rateOf p.eir) (rateOf p.cir) else rateOf p.eir

/-- R312: tokens earned at a rate of kb/s over packet-clock cycles: RATE/50,000 of 1/256 byte in a cycle. -/
def earned (rate cycles : Nat) : Nat := (roundQ (rate * cycles : Nat) 50000).toNat

/-- R312, R313: a meter earns up to a cycle under a profile. For TYPE 0 the tokens above CBS flow to E. -/
def Meter.earn (m : Meter) (p : MeterProf) (now : Nat) : Meter :=
  let n := earned (rateOf p.cir) (now - m.cycle)
  let t1 := m.tok1 + n
  let c := p.cbs * 256
  let e := p.ebs * 256
  if p.type = 0 then { m with tok1 := min c t1, tok2 := min e (m.tok2 + (t1 - c)), cycle := now }
  else { m with tok1 := min c t1, tok2 := min e (m.tok2 + earned p.rate2 (now - m.cycle)), cycle := now }

/-- R313: each bucket is cut to its new size. -/
def Meter.cap (m : Meter) (p : MeterProf) : Meter :=
  { m with tok1 := min m.tok1 (p.cbs * 256), tok2 := min m.tok2 (p.ebs * 256) }

/-- R308: the colour of a packet of B bytes (times 256), and the meter after it. The colours are 0 green, 1 yellow,
2 red. -/
def Meter.mark (m : Meter) (type colour b : Nat) : Nat × Meter :=
  if type = 1 then
    if colour = 2 ∨ m.tok2 < b then (2, m)
    else if colour = 1 ∨ m.tok1 < b then (1, { m with tok2 := m.tok2 - b })
    else (0, { m with tok1 := m.tok1 - b, tok2 := m.tok2 - b })
  else if colour = 0 ∧ b ≤ m.tok1 then (0, { m with tok1 := m.tok1 - b })
  else if colour ≤ 1 ∧ b ≤ m.tok2 then (1, { m with tok2 := m.tok2 - b })
  else (2, m)

/-- A field of the key (R291): bit o is its most significant bit; bits beyond 511 read 0. -/
def keyField (key : List Byte) (o w : Nat) : Nat :=
  (List.range w).foldl (fun a i =>
    2 * a + (((key.getD ((o + i) / 8) 0).toNat / 2 ^ (7 - (o + i) % 8)) % 2)) 0

/-- The frame of a packet from the destination address through the FCS: a kept CFH left out (R309). -/
def Pkt.frame (p : Pkt) : List Byte := if p.cfhKept then p.bytes.drop 16 else p.bytes

/-- R309: the metered length times 256. -/
def MeterProf.metered (p : MeterProf) (len : Nat) : Nat :=
  (max 1 ((len : Int) + overheadOf p.w0 23 16)).toNat * 256

/-- R310: the incoming colour. -/
def MeterProf.incoming (p : MeterProf) (key : List Byte) : Nat :=
  if bit p.w0 2 then min 2 (keyField key (fld p.w0 12 4) 2) else 0

/-- R313: a meter at its next event: each change since the last one is applied at the instant it came: tokens earned up to it
at the old rates, then each bucket cut to its new size. -/
def Meter.settle (m : Meter) : Meter :=
  { m.pend.foldl (fun y q => (y.earn q.2.1 q.1).cap q.2.2) m with pend := [] }

/-- R313: a change that the next event is to apply. -/
def Meter.changed (m : Meter) (now : Nat) (old new : MeterProf) : Meter := { m with pend := m.pend ++ [(now, old, new)] }

/-- R311, R312: one metering event of a meter: the colour, and the state after it. -/
def State.meterEvent (s : State) (c m : Nat) (key : List Byte) (len : Nat) : Nat × State :=
  let x := s.chip c
  let y := (x.meter m).settle
  let p := x.prof y.prof
  let r := (y.earn p s.cycle).mark p.type (p.incoming key) (p.metered len)
  (r.1, (s.setChip c (x.setMeter m { r.2 with last := s.cycle })).bump (mtrReg c (0x800 + 8 * r.1)) 1)

/-- RED_FWD of the profile of a meter (R311). -/
def State.redFwd (s : State) (c m : Nat) : Bool := bit ((s.chip c).prof ((s.chip c).meter m).prof).w0 3

/-- R313: two profiles differ in rates, sizes or TYPE. -/
def MeterProf.reshapes (p q : MeterProf) : Bool :=
  decide (p.type ≠ q.type ∨ p.cir ≠ q.cir ∨ p.eir ≠ q.eir ∨ p.cbs ≠ q.cbs ∨ p.ebs ≠ q.ebs)

/-- R313, R316: word 0 of a profile brings the held words into force; every meter that uses it applies a change of its rates,
sizes or TYPE at its next event. -/
def State.applyProfile (s : State) (c m : Nat) : State :=
  let x := s.chip c
  let a := mtrReg c (Reg.MTR_PROFILE0 + 0x20 * m)
  let old := x.prof m
  let new : MeterProf :=
    { w0 := s.rd a, cir := (s.rd (a + 4)).toNat, eir := (s.rd (a + 8)).toNat, cbs := fld (s.rd (a + 12)) 23 0
      ebs := fld (s.rd (a + 16)) 23 0 }
  let now := s.cycle
  let f (y : Meter) : Meter := if y.prof = m ∧ old.reshapes new then y.changed now old new else y
  s.setChip c { x with
    profs := Sparse.set (fun _ => {}) x.profs m new
    meters := x.meters.map fun y => (y.1, y.2.map f)
    meter0 := f x.meter0 }

/-- METER_PROFILE_WRITE (R316). -/
def State.writeProfile0 (s : State) (p : CmdPort) (c m : Nat) (v : Word) : State :=
  (s.plainWrite p (mtrReg c (Reg.MTR_PROFILE0 + 0x20 * m)) v).applyProfile c m

/-- Full buckets under a profile; no change is left to apply. -/
def Meter.filled (m : Meter) (p : MeterProf) (now : Nat) : Meter :=
  { m with tok1 := p.cbs * 256, tok2 := p.ebs * 256, cycle := now, pend := [] }

/-- REFILL (R314). -/
def State.refillMeter (s : State) (c m : Nat) : State :=
  let x := s.chip c
  let y := x.meter m
  let p := x.prof y.prof
  s.setChip c (x.setMeter m (y.filled p s.cycle))

/-- R314: every bucket of a chiplet is full when its packet-core domain has started, under the profiles then in force
(assumption 133). -/
def State.fillMeters (s : State) (c : Nat) : State :=
  let x := s.chip c
  let f (y : Meter) : Meter := y.filled (x.prof y.prof) s.cycle
  s.setChip c { x with meters := x.meters.map fun y => (y.1, y.2.map f), meter0 := f x.meter0 }

/-- WR: a meter's profile changes (R313). -/
def State.meterProfile (s : State) (c m prof : Nat) : State :=
  let x := s.chip c
  let y := x.meter m
  s.setChip c (x.setMeter m { y.changed s.cycle (x.prof y.prof) (x.prof prof) with prof := prof })

/-- RD: a meter is loaded into DATA: its profile, its tokens, and the cycle of its last event. -/
def State.meterLoad (s : State) (c m : Nat) : State :=
  let x := s.chip c
  let y := x.meter m
  (s.setChip c { x with meterData :=
      #v[BitVec.ofNat 32 y.prof, BitVec.ofNat 32 y.tok1, BitVec.ofNat 32 y.tok2, BitVec.ofNat 32 y.last] }).wr
    (mtrReg c Reg.MTR_METER_DATA) (BitVec.ofNat 32 y.prof)

/-- A write of MTR_METER_SEL: each request is done before it could read 1. -/
def State.writeMeterSel (s : State) (p : CmdPort) (c : Nat) (v : Word) : State :=
  let s1 := s.plainWrite p (mtrReg c Reg.MTR_METER_SEL) v
  let m := fld v 17 0
  let s2 := if bit v 29 then s1.refillMeter c m else s1
  let s3 := if bit v 30 then s2.meterProfile c m (s2.rdFld (mtrReg c Reg.MTR_METER_DATA) 9 0) else s2
  if bit v 31 then s3.meterLoad c m else s3

/-- A write of MTR_CTRL: it arms the interrupt on the next NO_SEGMENT discard. -/
def State.writeMtrCtrl (s : State) (p : CmdPort) (c : Nat) (v : Word) : State :=
  let s1 := s.plainWrite p (mtrReg c Reg.MTR_CTRL) v
  s1.setChip c { s1.chip c with noSeg := true }

/-! ### Admission (R317 to R322) -/

/-- R11: the index of a VOQ. -/
def voqIndex (j k g : Nat) : Nat := 128 * j + 16 * k + g

/-- R317: the segments of a VOQ resident in the packet region. -/
def State.voqSegs (s : State) (c j k g : Nat) : Nat :=
  ((s.chip c).packet.voq.filter fun o => decide (o.2 = voqIndex j k g)).length

/-- The admission profile of an egress port and class. -/
def State.admProfile (s : State) (c j k : Nat) : Nat :=
  let e := 8 * j + k
  s.rdFld (mtrReg c (Reg.MTR_ADM_MAP + e / 4 * 4)) (8 * (e % 4) + 5) (8 * (e % 4))

/-- A word of an admission profile. -/
def State.admWord (s : State) (c a w : Nat) : Word := s.rd (mtrReg c (Reg.MTR_ADM_MIN + 16 * a + 4 * w))

/-- R318: the limit on q + n for a colour. -/
def State.admLimit (s : State) (c a colour : Nat) : Nat :=
  let free := (s.chip c).free false
  let f := free - s.rdFld (bufReg c Reg.BUF_HEADROOM) 28 0
  let al := fld (s.admWord c a 2) (4 * colour + 3) (4 * colour)
  min (fld (s.admWord c a 1) 28 0) (fld (s.admWord c a 0) 28 0 + f * 2 ^ al / 256)

/-- The ECN field of a packet (R319): its byte's offset from the destination address, and whether it is of IPv6. -/
structure EcnAt where
  off : Nat
  v6 : Bool
  deriving DecidableEq, Repr

/-- R319: where admission finds the ECN field; none where the packet is not ECN-capable by its key. -/
def State.ecnAt (s : State) (c : Nat) (p : Pkt) : Option EcnAt :=
  let kb := s.rdFld (mtrReg c Reg.MTR_ECN_KB) 5 0
  let kb := if 8 ≤ kb ∧ kb ≤ 62 then kb else 8
  let off := (p.key.getD kb 0).toNat
  let w := p.key.getD (kb + 1) 0
  let n := p.frame.length - 4
  if !w.getLsbD 7 then none
  else
    let v6 := w.getLsbD 6
    if n ≤ off ∨ (!v6 ∧ n ≤ off + 10) then none else some { off := off, v6 := v6 }

/-- The ECN field. -/
def EcnAt.field (e : EcnAt) (f : List Byte) : Nat :=
  let b := beAt f e.off 1
  if e.v6 then b / 16 % 4 else b % 4

/-- R321: CE is written, and the IPv4 header checksum follows by RFC 1624; the byte above the TOS byte in its 16-bit word
does not change, and 0 stands for it. -/
def EcnAt.mark (e : EcnAt) (f : List Byte) : List Byte :=
  let b := beAt f e.off 1
  if e.v6 then putAt f e.off (toBe (b ||| 0x30) 1)
  else
    let f1 := putAt f e.off (toBe (b ||| 3) 1)
    putAt f1 (e.off + 9) (toBe (rfc1624 (beAt f (e.off + 9) 2) b (b ||| 3)) 2)

/-- A packet's bytes with CE written. -/
def Pkt.markCe (p : Pkt) (e : EcnAt) : List Byte :=
  if p.cfhKept then p.bytes.take 16 ++ e.mark (p.bytes.drop 16) else e.mark p.bytes

/-- R322, R448: the discards that come before the thresholds. -/
def State.admitBar (s : State) (c : Nat) (p : Pkt) : Option Nat :=
  if s.flt.safe then some drSafeState
  else if s.thm.offPhase.getLsbD c then some drThermal
  else if s.mtx.isolated.contains p.ing then some drAdmitVoq
  else none

/-- A packet that admission discards. -/
def State.admitDrop (s : State) (c n r : Nat) : State :=
  let s1 := (s.countDiscard c r).dropPkt n
  let x := s1.chip c
  if r = drNoSegment ∧ x.noSeg ∧ s1.rdBit (mtrReg c Reg.MTR_CTRL) 1 then
    (s1.setChip c { x with noSeg := false }).irq (16 + c)
  else s1

/-- A packet enters its VOQ: its segments are allocated (R318, R327), CE is written where it is to be marked. -/
def State.admitTake (s : State) (c n : Nat) (p : Pkt) (mark : Option EcnAt) : State :=
  let m := (p.bytes.length + 255) / 256
  let r := (s.chip c).takeSegs false m
  let o := r.1.map fun g => (g, voqIndex p.eg p.cls p.fg)
  let y := { r.2 with voq := r.2.voq ++ [n], packet := { r.2.packet with voq := o ++ r.2.packet.voq } }
  let s1 := s.setChip c y
  let p1 : Pkt := match mark with
    | some e => { p with bytes := p.markCe e, ce := true }
    | none => p
  let s2 := match mark with
    | some _ => s1.bump (mtrReg c 0x818) 1
    | none => s1
  (s2.setPkt n { p1 with segs := r.1 }).applyCredits c p.eg p.cls

/-- R318 to R322: admission of a packet whose classification has resolved. -/
def State.enter (s : State) (n : Nat) (p : Pkt) : State :=
  let c := chipOf p.ing
  match s.admitBar c p with
  | some r => s.admitDrop c n r
  | none =>
    let m := (p.bytes.length + 255) / 256
    let a := s.admProfile c p.eg p.cls
    let q := s.voqSegs c p.eg p.cls p.fg + m
    let free := (s.chip c).free false
    let w2 := s.admWord c a 2
    let ecnOn := s.rdBit (mtrReg c Reg.MTR_CTRL) 0 && bit w2 12
    let at_ := if ecnOn then s.ecnAt c p else none
    let capable : Option (EcnAt × Bool) := match at_ with
      | some e => if e.field p.frame = 0 then none else some (e, e.field p.frame = 3)
      | none => none
    let toMark : Option EcnAt := match capable with
      | some (e, ce) => if ce then none else some e
      | none => none
    let ok := decide (q ≤ fld (s.admWord c a 0) 28 0 ∨ q ≤ s.admLimit c a p.colour)
    let p1 : Pkt := match capable with
      | some (_, true) => { p with ce := true }
      | _ => p
    if free < m then s.admitDrop c n drNoSegment
    else if ok then
      s.admitTake c n p1 (if fld (s.admWord c a 3) 28 0 < q then toMark else none)
    else if capable.isSome && bit w2 13 && decide (p.colour ≤ 1) && decide (q ≤ fld (s.admWord c a 1) 28 0) then
      s.admitTake c n p1 toMark
    else s.admitDrop c n drAdmitVoq

/-! ### The commands -/

/-- REFILL: MTR_METER_SEL.REFILL (R314). -/
def execRefill (p : CmdPort) (c : Fin 16) (v : Word) (s : State) : Host.Outcome State Fault Refusal :=
  .next (s.access p (mtrReg c.val Reg.MTR_METER_SEL) 1 fun s => s.writeMeterSel p c.val (withBit v 29))
/-- METER_WRITE: MTR_METER_SEL.WR (R313). -/
def execMeterWrite (p : CmdPort) (c : Fin 16) (v : Word) (s : State) : Host.Outcome State Fault Refusal :=
  .next (s.access p (mtrReg c.val Reg.MTR_METER_SEL) 1 fun s => s.writeMeterSel p c.val (withBit v 30))
/-- METER_READ: MTR_METER_SEL.RD (R313). -/
def execMeterRead (p : CmdPort) (c : Fin 16) (v : Word) (s : State) : Host.Outcome State Fault Refusal :=
  .next (s.access p (mtrReg c.val Reg.MTR_METER_SEL) 1 fun s => s.writeMeterSel p c.val (withBit v 31))
/-- METER_PROFILE_WRITE (R316). -/
def execMeterProfileWrite (p : CmdPort) (c : Fin 16) (m : Fin 1024) (v : Word) (s : State) :
    Host.Outcome State Fault Refusal :=
  .next (s.access p (mtrReg c.val (Reg.MTR_PROFILE0 + 0x20 * m.val)) 1 fun s => s.writeProfile0 p c.val m.val v)
/-- METER_PROFILE_HOLD (R316): a write to words 1 to 4 is held. -/
def execMeterProfileHold (p : CmdPort) (c : Fin 16) (m : Fin 1024) (w : Fin 4) (v : Word) (s : State) :
    Host.Outcome State Fault Refusal :=
  let a := mtrReg c.val (Reg.MTR_PROFILE1 + 0x20 * m.val + 4 * w.val)
  .next (s.access p a 1 fun s => s.plainWrite p a v)

end Sys2Proof.Machine
end

