-- ==== Sys2Proof/Machine/Classify.lean ====
section
/-! DEFINITION. Parsing and classification (09_classification.md): the parse engines and their microcode, the decision
trees, the rule banks and their pins, hashing and spreading, and the way of a packet to admission. -/

namespace Sys2Proof.Machine

open Sys2Proof

/-! ### A parse pass (R280 to R287, R291) -/

/-- Why a pass ended with PARSE_LIMIT (R284). -/
inductive LimitCause where
  | hdr | mpls | bytes | instr
  deriving DecidableEq, Repr

/-- A pass in progress: cursor, key, counts, and the flags that it has raised. -/
structure Pass where
  pc : Nat := 0
  cursor : Nat := 0
  key : List Byte
  hdrs : Nat := 0
  labels : Nat := 0
  len : Bool := false
  limit : Option LimitCause := none

/-- Bytes put into a key from key byte kb onward; those beyond key byte 63 are dropped. -/
def putKey (key : List Byte) (kb : Nat) (b : List Byte) : List Byte := (putAt key kb b).take 64

/-- A bit field of the frame: o is the bit offset from the destination address of its most significant bit. -/
def frameField (f : List Byte) (o w : Nat) : Nat :=
  (List.range w).foldl (fun a i => 2 * a + (beAt f ((o + i) / 8) 1 / 2 ^ (7 - (o + i) % 8)) % 2) 0

/-- The last byte, plus 1, that a field source touches in the frame; 0 for a field of the key. -/
def srcReach (u : USrc) (cursor : Nat) : Nat :=
  if u.fromKey then 0 else cursor + (u.off + (max 1 u.width) - 1) / 8 + 1

/-- The value of a field source. -/
def srcValue (u : USrc) (f key : List Byte) (cursor : Nat) : Nat :=
  if u.fromKey then keyField key u.off u.width else frameField f (8 * cursor + u.off) u.width

/-- The bytes of the header that a length check of a kind reads, from the start of the header. -/
def chkReads (kind : Nat) : Nat := if kind = 0 then 4 else if kind = 1 then 6 else 2

/-- R286: a length check finds a contradiction; n is the number of bytes before the FCS. -/
def lenBad (f : List Byte) (n kind cursor off const : Nat) : Bool :=
  let isShort := decide (f.length = 64)
  if kind = 0 then
    let h := cursor + off
    let avail := n - h
    let ihl := beAt f h 1 % 16
    let tl := beAt f (h + 2) 2
    decide (ihl < 5 ∨ tl < 4 * ihl ∨ avail < tl ∨ (tl < avail ∧ isShort = false))
  else if kind = 1 then
    let h := cursor + off
    let avail := n - h
    let pl := beAt f (h + 4) 2
    decide (pl = 0 ∨ avail < pl + 40 ∨ (pl + 40 < avail ∧ isShort = false))
  else decide (n - cursor < beAt f (cursor + off) 2 + const)

/-- The pass ends before an instruction, with PARSE_LIMIT (R284). -/
def Pass.stop (p : Pass) (c : LimitCause) : Pass := { p with limit := some c }

/-- The pass ends with LENGTH_INCONSISTENT (R285). -/
def Pass.short (p : Pass) : Pass := { p with len := true }

/-- What one instruction does: the pass after it, and whether the pass goes on. The access that ends at byte r (0: none)
is checked against the parse window first, then against the frame. f is the frame, n the bytes before its FCS. -/
def Pass.step (p : Pass) (f : List Byte) (n : Nat) : UInstr → Pass × Bool
  | .extract off len kb =>
    let r := p.cursor + off + len
    if 256 < r then (p.stop .bytes, false)
    else if n < r then ({ p.short with key := putKey p.key kb (List.replicate len 0) }, false)
    else ({ p with key := putKey p.key kb ((f.drop (p.cursor + off)).take len), pc := p.pc + 1 }, true)
  | .advance src scale const m =>
    let r := match src with
      | some u => srcReach u p.cursor
      | none => 0
    if 16 ≤ p.hdrs then (p.stop .hdr, false)
    else if m ∧ 12 ≤ p.labels then (p.stop .mpls, false)
    else if 256 < r then (p.stop .bytes, false)
    else if n < r then (p.short, false)
    else
      let d := match src with
        | some u => srcValue u f p.key p.cursor * scale + const
        | none => const
      ({ p with cursor := p.cursor + d, hdrs := p.hdrs + 1, labels := p.labels + b2n m, pc := p.pc + 1 }, true)
  | .branch src mask const cond target =>
    let r := srcReach src p.cursor
    if 256 < r then (p.stop .bytes, false)
    else if n < r then (p.short, false)
    else
      let v := srcValue src f p.key p.cursor &&& mask
      let jump := match cond with
        | 0 => decide (v = const)
        | 1 => decide (v ≠ const)
        | 2 => decide (v < const)
        | 3 => decide (const < v)
      ({ p with pc := if jump then target else p.pc + 1 }, true)
  | .switch src targets =>
    let r := srcReach src p.cursor
    if 256 < r then (p.stop .bytes, false)
    else if n < r then (p.short, false)
    else ({ p with pc := targets.getD (srcValue src f p.key p.cursor) (p.pc + 1) }, true)
  | .chklen kind off const =>
    let r := p.cursor + off + chkReads kind
    if 256 < r then (p.stop .bytes, false)
    else ({ p with len := p.len || decide (n < r) || lenBad f n kind p.cursor off const, pc := p.pc + 1 }, true)
  | .setkey kb v => ({ p with key := if 8 ≤ kb then putKey p.key kb [v] else p.key, pc := p.pc + 1 }, true)
  | .done => (p, false)
  | .reserved => (p.stop .instr, false)

/-- A pass over a frame: at most 64 instructions (R280). An instruction that no section has written is taken as reserved
(assumption 9). -/
def Pass.run (code : List UInstr) (f : List Byte) (n : Nat) : Nat → Pass → Pass
  | 0, p => p.stop .instr
  | k + 1, p =>
    match code.getD p.pc .reserved with
    | .done => p
    | i =>
      let r := p.step f n i
      if r.2 then Pass.run code f n k r.1 else r.1

/-! ### The key (R291) -/

/-- Bits put into a number at a bit offset from its most significant end of 64 bits. -/
def at64 (o w v : Nat) : Nat := v % 2 ^ w * 2 ^ (64 - o - w)

/-- Key bytes 0 to 7 of a pass of a packet. -/
def State.metadata (s : State) (p : Pkt) : List Byte :=
  let c := match p.cfh with
    | some i => at64 12 1 1 + at64 13 3 i.cls + at64 16 9 i.hint + at64 25 1 (b2n i.hintValid)
    | none => 0
  toBe (at64 0 9 p.rxPort + at64 9 3 (s.tenant p.rxPort).val + c + at64 26 1 (b2n p.fParse) + at64 27 1 (b2n p.fLen) +
    at64 28 1 p.pass + at64 32 16 p.ctx + at64 48 14 p.frame.length) 8

/-- A key with its metadata. -/
def State.withMeta (s : State) (p : Pkt) (key : List Byte) : List Byte := s.metadata p ++ key.drop 8

/-! ### Rule banks (R292, R295, R297 to R300) -/

/-- A word of the table region at a unit address. -/
def State.tblWord (s : State) (c unit w : Nat) : Word :=
  let a := 64 * unit + 4 * w
  wordOfBytes (s.tblByte c a) (s.tblByte c (a + 1)) (s.tblByte c (a + 2)) (s.tblByte c (a + 3))

/-- The table-region unit of the header of bank b. -/
def State.hdrUnit (s : State) (c b : Nat) : Nat := s.rdFld (prsReg c (Reg.PRS_BANK_HDR + 4 * b)) 25 0

/-- The header that words 0 to 6 of a unit hold (Table: Bank header). -/
def headerOf (w : Nat → Word) : BankHdr :=
  { valid := bit (w 0) 0, nodeBase := fld (w 1) 25 0, root := (w 2).toNat, ruleBase := fld (w 3) 25 0
    ruleCount := fld (w 4) 21 0, def0 := w 5, def1 := w 6 }

/-- The header of bank b as it stands in the table region. -/
def State.headerAt (s : State) (c b : Nat) : BankHdr := headerOf fun w => s.tblWord c (s.hdrUnit c b) w

/-- A read of the header of bank b. A unit that reads uncorrectable raises the fault of R294, and the words it shows are free
values (assumption 15). -/
def State.readHeader (s : State) (c b : Nat) : BankHdr × State :=
  if (s.chip c).tblPoisoned.contains (s.hdrUnit c b) then
    (headerOf fun w => Config.freeWord (s.freeCtr + w),
      { s with freeCtr := s.freeCtr + 7 }.tblFault c (s.hdrUnit c b))
  else (s.headerAt c b, s)

/-- The loaded header of a bank. -/
def Chip.hdr (x : Chip) (b : Fin 2) : BankHdr := if b = 0 then x.hdr0 else x.hdr1

/-- Packets pinned to a bank. -/
def Chip.pins (x : Chip) (b : Nat) : Nat := x.pinned.toList.getD b 0

/-- A bank is idle: neither active nor old and pinned. -/
def Chip.idleBank (x : Chip) (b : Fin 2) : Bool := decide (x.active ≠ b) && decide (x.pins b.val = 0)

/-- R295: the lines of a bank that has become idle are invalid. -/
def Chip.dropIdleLines (x : Chip) : Chip := { x with cache := x.cache.filter fun l => !x.idleBank l.1 }

/-- R300: the swap takes effect: the other bank is active under its header, and EPOCH names the swap. -/
def State.bankSwap (s : State) (c : Nat) : State :=
  let b := 1 - (s.chip c).active
  let q := s.readHeader c b.val
  let h := q.1
  let x := q.2.chip c
  let y := { x.dropIdleLines with active := b, epoch := x.epoch + 1, swap := none
                                  hdr0 := if b = 0 then h else x.hdr0, hdr1 := if b = 0 then x.hdr1 else h }
  ((q.2.setChip c y.dropIdleLines).wrBit (prsReg c Reg.PRS_BANK_CTRL) 0 false).irqIf (prsReg c Reg.PRS_CTRL) 0 (16 + c)

/-- PRS_SWAP_AT. -/
def State.prsSwapAt (s : State) (c : Nat) : Nat :=
  (s.rd (prsReg c Reg.PRS_SWAP_AT)).toNat + (s.rd (prsReg c (Reg.PRS_SWAP_AT + 4))).toNat * 4294967296

/-- A write of PRS_BANK_CTRL (R299, R300). -/
def State.writeBankCtrl (s : State) (p : CmdPort) (c : Nat) (v : Word) : State :=
  let a := prsReg c Reg.PRS_BANK_CTRL
  let s1 := s.plainWrite p a v
  if !bit v 0 then s1
  else
    let q := s1.readHeader c (1 - (s1.chip c).active).val
    let s1 := q.2
    let x := s1.chip c
    let b := 1 - x.active
    let empty := !q.1.valid
    let pend := x.swap.isSome
    let pin := decide (0 < x.pins b.val)
    let late := bit v 1 && decide (s1.prsSwapAt c ≤ s1.slotNow + 2)
    if empty || pend || pin || late then
      let s2 := if empty then s1.wrBit a 8 true else s1
      let s3 := if pend then s2.wrBit a 9 true else s2
      let s4 := if pin then s3.wrBit a 10 true else s3
      (if late then s4.wrBit a 11 true else s4).irqIf (prsReg c Reg.PRS_CTRL) 0 (16 + c)
    else if bit v 1 then (s1.setChip c { x with swap := some (some (s1.prsSwapAt c)) }).wrBit a 0 true
    else s1.bankSwap c

/-- RULE_BANK_SWAP (R300): the slot named has begun. -/
def State.ruleBankSwap (s : State) (c : Nat) : State :=
  match (s.chip c).swap with
  | some (some n) => if n ≤ s.slotNow ∧ s.chipOn c then s.bankSwap c else s
  | some none => if s.chipOn c then s.bankSwap c else s
  | none => s

/-- UCODE_SWAP (R490): the slot named has begun. -/
def State.ucodeSwap (s : State) (c : Nat) : State :=
  let x := s.chip c
  match x.ucSwap with
  | some n => if n ≤ s.slotNow ∧ s.chipOn c then s.setChip c { x with ucActive := 1 - x.ucActive, ucSwap := none } else s
  | none => s

/-- The starts of the areas in the table region: headers, nodes and rules of both banks, and the indirection tables. -/
def State.tblStarts (s : State) (c : Nat) : List Nat :=
  let h0 := s.headerAt c 0
  let h1 := s.headerAt c 1
  [s.hdrUnit c 0, s.hdrUnit c 1, h0.nodeBase, h1.nodeBase,
    h0.ruleBase, h1.ruleBase, s.rdFld (prsReg c Reg.PRS_IND_BASE) 25 0]

/-- A unit lies in the areas of bank b: its header, its rules, and its nodes up to the next area (assumption 38). A bank whose
header is not VALID has none. -/
def State.inBank (s : State) (c b unit : Nat) (h : BankHdr) : Bool :=
  let hu := s.hdrUnit c b
  let stop := ((s.tblStarts c).filter fun u => decide (h.nodeBase < u)).foldl min 67108864
  h.valid && decide (unit = hu ∨ (h.ruleBase ≤ unit ∧ unit < h.ruleBase + h.ruleCount) ∨ (h.nodeBase ≤ unit ∧ unit < stop))

/-- R301: host software may write a unit now. -/
def State.tblOpen (s : State) (c unit : Nat) : Bool :=
  let x := s.chip c
  [(0 : Fin 2), 1].all fun b =>
    if x.active = b then !(s.inBank c b.val unit (x.hdr b))
    else if 0 < x.pins b.val then !(s.inBank c b.val unit (x.hdr b))
    else if x.swap.isSome then !(s.inBank c b.val unit (s.headerAt c b.val))
    else true

/-- A word stored in the table region; a unit written over is readable again. -/
def State.tblStore (s : State) (c a : Nat) (v : Word) : State :=
  let x := s.chip c
  let t := [0, 1, 2, 3].foldl (fun m i => Sparse.set (fun _ => (0 : Byte)) m (a + i) (byteOf v i)) x.tbl
  s.setChip c { x with tbl := t, tblPoisoned := x.tblPoisoned.filter fun u => decide (u ≠ a / 64) }

/-- A write of a word through the table window (R301, R506). -/
def State.tblWrite (s : State) (c off : Nat) (v : Word) : State :=
  let a := s.tblAddr c (off - off % 4)
  if 4294967296 ≤ a then s
  else if s.tblOpen c (a / 64) then s.tblStore c a v
  else s.wrBit (prsReg c Reg.PRS_BANK_CTRL) 12 true

/-- A write of PRS_TRACE_SEL. -/
def State.writeTrace (s : State) (p : CmdPort) (c : Nat) (v : Word) : State :=
  let s1 := s.plainWrite p (prsReg c Reg.PRS_TRACE_SEL) v
  if bit v 31 then (s1.setChip c { s1.chip c with trace := true }).wrBit (prsReg c Reg.PRS_TRACE_SEL) 31 true else s1

/-! ### The lookup (R293 to R295) -/

/-- The lines of the node cache, and those that may be pinned in one bank. -/
def cacheLines : Nat := 524288
def cachePins : Nat := 262144

/-- The last line that is not pinned leaves. -/
def evictLine : List (Fin 2 × Nat × Bool) → List (Fin 2 × Nat × Bool)
  | [] => []
  | l :: t => if t.all (fun m => m.2.2) && !l.2.2 then t else l :: evictLine t

/-- A visit to a line: whether it hits, and the cache after it. With every line pinned the cache takes no other. -/
def Chip.visit (x : Chip) (b : Fin 2) (unit : Nat) (pin : Bool) : Bool × Chip :=
  match x.cache.find? fun l => decide (l.1 = b ∧ l.2.1 = unit) with
  | some l => (true, { x with cache := l :: x.cache.erase l })
  | none =>
    let pins := (x.cache.filter fun l => decide (l.1 = b) && l.2.2).length
    let line := (b, unit, pin && decide (pins < cachePins))
    let c := if x.cache.length < cacheLines then x.cache else evictLine x.cache
    (false, if c.length < cacheLines then { x with cache := line :: c } else x)

/-- How a lookup ends. -/
inductive Found where
  | rule (index : Nat) (tag w13 w14 : Word)
  | dflt
  | exc (x : Nat)
  deriving DecidableEq, Repr

/-- A lookup in progress: the state, and the visits made. -/
structure Walk where
  s : State
  v : Nat

/-- A unit is found to read uncorrectable at this read. -/
def State.spoilUnit (s : State) (c unit : Nat) : State :=
  let y := s.chip c
  if y.tblPoisoned.contains unit then s else s.setChip c { y with tblPoisoned := y.tblPoisoned ++ [unit] }

/-- One visit: counted, through the cache; a miss reads the table region, where visit numbers of eccFail and poisoned
units read uncorrectable (R294). -/
def Walk.read (w : Walk) (c : Nat) (b : Fin 2) (ecc : List Nat) (unit : Nat) (pin : Bool) : Bool × Walk :=
  let r := (w.s.chip c).visit b unit pin
  let bad := !r.1 && (ecc.contains w.v || (w.s.chip c).tblPoisoned.contains unit)
  let s1 := (w.s.setChip c r.2).bump (prsReg c 0x818) 1
  let s2 := if r.1 then s1 else s1.bump (prsReg c 0x820) 1
  let y := s2.chip c
  let s3 :=
    if bad then
      ((s2.setChip c { y with cache := y.cache.filter fun l => decide ((l.1, l.2.1) ≠ (b, unit)) }).spoilUnit c unit).tblFault
        c unit
    else s2
  (bad, { s := s3, v := w.v + 1 })

/-- The tests of a rule record pass (Table: Rule record). -/
def State.rulePasses (s : State) (c unit : Nat) (key : List Byte) : Bool :=
  [0, 1, 2, 3].all fun t =>
    let w := s.tblWord c unit (1 + 3 * t)
    let f := keyField key (fld w 8 0) (fld w 13 9 + 1)
    !bit w 14 || decide ((s.tblWord c unit (2 + 3 * t)).toNat ≤ f ∧ f ≤ (s.tblWord c unit (3 + 3 * t)).toNat)

/-- The rules of a leaf in test order, from reference i on. -/
def Walk.leaf (c : Nat) (b : Fin 2) (ecc : List Nat) (h : BankHdr) (key : List Byte) (node : Nat) :
    Nat → Nat → Walk → Found × Walk
  | 0, _, w => (.dflt, w)
  | n + 1, i, w =>
    let r := fld (w.s.tblWord c node (1 + i)) 20 0
    if w.v = 24 ∨ h.ruleCount ≤ r then (.exc 2, w)
    else
      let u := h.ruleBase + r
      let q := w.read c b ecc u false
      if q.1 then (.exc 3, q.2)
      else if q.2.s.rulePasses c u key then
        (.rule r (q.2.s.tblWord c u 0) (q.2.s.tblWord c u 13) (q.2.s.tblWord c u 14), q.2)
      else Walk.leaf c b ecc h key node n (i + 1) q.2

/-- The tree of a bank from node n on: at most 24 visits (R293). -/
def Walk.tree (c : Nat) (b : Fin 2) (ecc : List Nat) (h : BankHdr) (key : List Byte) :
    Nat → Nat → Walk → Found × Walk
  | 0, _, w => (.exc 2, w)
  | f + 1, n, w =>
    if w.v = 24 then (.exc 2, w)
    else
      let u := (h.nodeBase + n) % 67108864
      let w0 := w.s.tblWord c u 0
      let q := w.read c b ecc u (bit w0 15)
      let bits := fld w0 14 11
      let count := fld w0 19 16
      if q.1 then (.exc 3, q.2)
      else if fld w0 1 0 = 0 then (.dflt, q.2)
      else if fld w0 1 0 = 1 then
        if bits = 0 ∨ 8 < bits then (.exc 2, q.2)
        else Walk.tree c b ecc h key f ((q.2.s.tblWord c u 1).toNat + keyField key (fld w0 10 2) bits) q.2
      else if fld w0 1 0 = 2 ∧ count ≠ 0 then Walk.leaf c b ecc h key u count 0 q.2
      else (.exc 2, q.2)

/-! ### Hashing and spreading (R303, R304) -/

/-- The 352 bits of the Toeplitz key. -/
def State.toeplitzKey (s : State) (c : Nat) : Nat :=
  (List.range 11).foldl (fun a w => a * 4294967296 + (s.rd (prsReg c (Reg.PRS_TOEPLITZ_KEY + 4 * w))).toNat) 0

/-- R303: the Toeplitz hash of a list of bytes. -/
def toeplitz (key : Nat) (l : List Byte) : Word :=
  let l := l.take 40
  let n := beNat l
  (List.range (8 * l.length)).foldl (fun h i =>
    if n / 2 ^ (8 * l.length - 1 - i) % 2 = 1 then h ^^^ BitVec.ofNat 32 (key / 2 ^ (320 - i)) else h) 0

/-- R303: H of a packet under a spreading group. -/
def State.spreadHash (s : State) (c g : Nat) (p : Pkt) : Word :=
  let h := s.rdFld (prsReg c (Reg.PRS_GROUP_CFG + 4 * g)) 3 0
  let a := prsReg c (Reg.PRS_HASH_MASK_LO + 16 * h)
  let mask := (s.rd a).toNat + (s.rd (a + 4)).toNat * 4294967296
  let cfg := s.rd (a + 8)
  let init := s.rd (a + 12)
  let input := ((List.range 64).filter fun k => decide (mask / 2 ^ k % 2 = 1)).map fun k => p.key.getD k 0
  let seed : Word := match p.cfh with
    | some i => if bit cfg 1 then i.seed else 0
    | none => 0
  if bit cfg 0 then toeplitz (s.toeplitzKey c) input ^^^ seed else ~~~ (input.foldl crcByte (init ^^^ seed))

/-- R304: the entry of a group's indirection table that a hash names. A unit that reads uncorrectable, by now or at this read,
raises the fault of R294, and what its entry then shows is a free value (assumption 15). -/
def State.indEntry (s0 : State) (c g : Nat) (h : Word) (bad : Bool) : Word × State :=
  let a := 64 * s0.rdFld (prsReg c Reg.PRS_IND_BASE) 25 0 + 8192 * g + 2 * fld h 31 20
  let s := if bad then s0.spoilUnit c (a / 64) else s0
  if (s.chip c).tblPoisoned.contains (a / 64) then
    let f := s.free
    (f.1, f.2.tblFault c (a / 64))
  else (BitVec.ofNat 32 ((s.tblByte c a).toNat + 256 * (s.tblByte c (a + 1)).toNat), s)

/-! ### Results (R288 to R290, R305, R307) -/

/-- A packet leaves classification as a discard. -/
def State.clsDrop (s : State) (c n r : Nat) (p : Pkt) : State := ((s.unpin c p).countDiscard c r).dropPkt n

/-- An exception is counted (R289), with the interrupt of PRS_CTRL.EXC_IRQ_EN. -/
def State.excCount (s : State) (c x : Nat) : State :=
  let s1 := s.bump (prsReg c (0x828 + 8 * x)) 1
  if x = 2 ∨ x = 3 then s1.irqIf (prsReg c Reg.PRS_CTRL) 1 (16 + c) else s1

/-- The action of an exception entry: 0 discard, 1 forward with flag (entries 0 and 1 only), 2 its result. -/
def State.excAction (s : State) (c x : Nat) : Nat :=
  let a := s.rdFld (prsReg c (Reg.PRS_EXC_ACTION + 8 * x)) 1 0
  if a = 3 ∨ (a = 1 ∧ 2 ≤ x) then 0 else a

/-- The result of an exception entry. -/
def State.excResult (s : State) (c x : Nat) : Word × Word :=
  (s.rd (prsReg c (Reg.PRS_EXC_RESULT0 + 8 * x)), s.rd (prsReg c (Reg.PRS_EXC_RESULT1 + 8 * x)))

/-- R307: the meter, then admission, for a packet whose egress port and class are resolved. -/
def State.meterAdmit (s : State) (c n : Nat) (w13 : Word) (p : Pkt) : State :=
  let s1 := (s.unpin c p)
  let p1 := { p with bank := none, ucode := none }
  if bit w13 18 then
    let m := fld w13 17 0
    let r := s1.meterEvent c m p.key p.frame.length
    if r.1 = 2 ∧ !s1.redFwd c m then (r.2.countDiscard c drMeterRed).dropPkt n
    else (r.2.setPkt n { p1 with colour := r.1 }).enter n { p1 with colour := r.1 }
  else (s1.setPkt n p1).enter n p1

/-- R304, R305, R255: the egress port of a result and the member port that the packet belongs to: a discard or an
exception, or the packet resolved. bad: a read of the indirection table finds its unit uncorrectable. -/
def State.resolveEgress (s : State) (c : Nat) (bad : Bool) (w13 w14 : Word) (p : Pkt) : Except Nat Pkt × State :=
  let g := fld w13 28 19
  let h := s.spreadHash c g p
  let hint : Option Nat := match p.cfh with
    | some i => if bit (s.rd (prsReg c (Reg.PRS_GROUP_CFG + 4 * g))) 4 && i.hintValid then some i.hint else none
    | none => none
  let e : Word × State := match hint with
    | some d => (BitVec.ofNat 32 (d + 32768), s)
    | none => s.indEntry c g h bad
  let j := fld e.1 8 0
  let cls := match p.cfh with
    | some i => if bit w14 22 then i.cls else fld w13 31 29
    | none => fld w13 31 29
  if !bit e.1 15 || !e.2.imgEnables j then (.error drNoEgress, e.2)
  else if e.2.tenant j ≠ e.2.tenant p.rxPort then (.error drEgressTenant, e.2)
  else
    (.ok { p with eg := j, cls := cls, fg := fld w14 3 0, colour := 0
                  ing := p.rxPort + h.toNat % e.2.bundleSize p.rxPort }, e.2)

/-- A result applied while an exception entry's result is: a further exception discards with its own reason (R290), and
a recirculate ACTION is a forward. -/
def State.applyExcResult (s : State) (c n : Nat) (bad : Bool) (w13 w14 : Word) (p : Pkt) : State :=
  if fld w14 5 4 = 1 ∨ fld w14 5 4 = 3 then s.clsDrop c n drRuleDiscard p
  else
    let r := s.resolveEgress c bad w13 w14 p
    match r.1 with
    | .ok q => r.2.meterAdmit c n w13 q
    | .error e => (if e = drNoEgress then r.2.excCount c 5 else r.2).clsDrop c n e p

/-- Exception x of entries 2 to 5 arises (R288, R289). -/
def State.exception (s : State) (c n : Nat) (bad : Bool) (x : Nat) (p : Pkt) : State :=
  let s1 := s.excCount c x
  if s1.excAction c x = 2 then s1.applyExcResult c n bad (s1.excResult c x).1 (s1.excResult c x).2 p
  else s1.clsDrop c n (8 + x) p

/-- R297, R304, R307: the result of a rule or default is applied. -/
def State.applyResult (s : State) (c n : Nat) (bad : Bool) (w13 w14 : Word) (p : Pkt) : State :=
  match fld w14 5 4 with
  | 0 =>
    let r := s.resolveEgress c bad w13 w14 p
    match r.1 with
    | .ok q => r.2.meterAdmit c n w13 q
    | .error e => if e = drNoEgress then r.2.exception c n bad 5 p else r.2.clsDrop c n e p
  | 2 =>
    if p.pass = 0 then
      let s1 := s.setPkt n { p with pass := 1, ctx := fld w14 21 6 }
      s1.setChip c { s1.chip c with recirc := (s1.chip c).recirc ++ [n] }
    else s.exception c n bad 4 p
  | _ => s.clsDrop c n drRuleDiscard p

/-! ### Dispatch, pass end and lookup -/

/-- The packet of a parse engine. -/
def Chip.engine (x : Chip) (e : Nat) : Option Nat := Sparse.get (fun _ => none) x.engines e

/-- Replace the packet of a parse engine. -/
def Chip.setEngine (x : Chip) (e : Nat) (n : Option Nat) : Chip :=
  { x with engines := Sparse.set (fun _ => none) x.engines e n }

/-- R283: a packet takes a pin on the active microcode bank with its first pass. -/
def State.pinUcode (s : State) (c n : Nat) : State :=
  let x := s.chip c
  (s.setChip c { x with ucPinned := x.ucPinned.set x.ucActive (x.ucPinned[x.ucActive] + 1) }).modPkt n fun p =>
    { p with ucode := some x.ucActive }

/-- PARSE_DISPATCH (R282): a free engine takes a recirculated pass, or else the next first pass of a port. No first pass
is dispatched from the start of a restructure's APPLY up to its SWITCH (R493, R494). -/
def State.parseDispatch (s : State) (c e lp : Nat) : State :=
  let x := s.chip c
  if !s.chipOn c || (x.engine e).isSome then s
  else
    match x.recirc with
    | n :: t => (s.setChip c ({ x with recirc := t }.setEngine e (some n))).bump (prsReg c 0x808) 1
    | [] =>
      let k := 32 * c + lp
      let q := s.port k
      if s.img.phase = .apply ∨ s.img.phase = .switching then s
      else
        match q.inbuf with
        | [] => s
        | n :: t =>
          let s1 := s.setPort k { q with inbuf := t }
          ((s1.setChip c (x.setEngine e (some n))).bump (prsReg c 0x800) 1).pinUcode c n

/-- The counter of a limit's cause. -/
def LimitCause.off : LimitCause → Nat
  | .hdr => 0x858
  | .mpls => 0x860
  | .bytes => 0x868
  | .instr => 0x870

/-- R302: a packet waits its turn: an older packet of its port, with as many passes, is still in an engine or waits for its
lookup or result. -/
def State.behind (s : State) (c n : Nat) : Bool :=
  match s.pkt n with
  | none => false
  | some p =>
    let x := s.chip c
    ((x.engines.filterMap fun e => e.2) ++ x.lookups).any fun m =>
      decide (m < n) && match s.pkt m with
        | some q => decide (q.rxPort = p.rxPort ∧ q.pass = p.pass)
        | none => false

/-- The held result of a packet. -/
def State.heldResult (s : State) (n : Nat) : Option (Word × Word) := (s.pkt n).bind Pkt.exc

/-- R289, R302: the results that passes ended with are applied, each at its packet's turn. -/
def State.giveResults (s : State) (c : Nat) : Nat → State
  | 0 => s
  | f + 1 =>
    let x := s.chip c
    match x.lookups.find? fun n => (s.heldResult n).isSome && !s.behind c n with
    | none => s
    | some n =>
      let s1 := s.setChip c { x with lookups := x.lookups.erase n }
      match s1.pkt n, s1.heldResult n with
      | some p, some r => (s1.applyExcResult c n false r.1 r.2 { p with exc := none }).giveResults c f
      | _, _ => s1

/-- R289: entries 0 and 1 are resolved together. The result is that of the entry now (R290). -/
def State.resolveParse (s : State) (c n : Nat) (raised : List Nat) (p : Pkt) : State :=
  match raised.find? fun x => decide (s.excAction c x = 0) with
  | some x => s.clsDrop c n (8 + x) p
  | none =>
    match raised.find? fun x => decide (s.excAction c x = 2) with
    | some x =>
      let s1 := s.setPkt n { p with exc := some (s.excResult c x) }
      s1.setChip c { s1.chip c with lookups := (s1.chip c).lookups ++ [n] }
    | none => s.setChip c { s.chip c with lookups := (s.chip c).lookups ++ [n] }

/-- The results whose turn has come at a chiplet. -/
def State.drainResults (s : State) (c : Nat) : State := s.giveResults c ((s.chip c).lookups.length + 1)

/-- PARSE_PASS_END (R283): the pass in an engine yields its key and flags. -/
def State.parsePassEnd (s : State) (c e : Nat) : State :=
  let x := s.chip c
  match x.engine e with
  | none => s
  | some n =>
    let s1 := s.setChip c (x.setEngine e none)
    match s1.pkt n with
    | none => s1
    | some p =>
      let code := if p.ucode = some 1 then x.uc1 else x.uc0
      let f := p.frame
      let r := Pass.run code f (f.length - 4) 64 { key := s1.withMeta p (List.replicate 64 0) }
      let lenNow := r.len || (decide (p.pass = 0) && p.fLen)
      let p1 := { p with fParse := p.fParse || r.limit.isSome, fLen := p.fLen || r.len }
      let p2 := { p1 with key := s1.withMeta p1 r.key }
      let s2 := s1.setPkt n p2
      let s3 := match r.limit with
        | some l => (s2.excCount c 0).bump (prsReg c l.off) 1
        | none => s2
      let s4 := if lenNow then s3.excCount c 1 else s3
      (s4.resolveParse c n ((if r.limit.isSome then [0] else []) ++ (if lenNow then [1] else [])) p2).drainResults c

/-- PRS_TRACE: the lookup of the port armed for is captured. -/
def State.traceLookup (s : State) (c : Nat) (p : Pkt) (b : Fin 2) (f : Found) (visits : Nat) : State :=
  let x := s.chip c
  if x.trace ∧ p.rxPort = 32 * c + s.rdFld (prsReg c Reg.PRS_TRACE_SEL) 4 0 then
    let base := pack [(21, visits), (26, b.val), (27, p.pass)]
    let put (t0 t1 : Word) : State :=
      (s.setChip c { x with trace := false, trace0 := t0, trace1 := t1 }).wrBit (prsReg c Reg.PRS_TRACE_SEL) 31 false
    match f with
    | .rule i tag _ _ => put (base ||| BitVec.ofNat 32 i) tag
    | .dflt => put (base ||| 0x10000000) 0
    | .exc _ => s
  else s

/-- R297: a first-pass lookup takes a pin on the active bank. -/
def State.pinBank (s : State) (c n : Nat) (p : Pkt) : State × Pkt :=
  match p.bank with
  | some _ => (s, p)
  | none =>
    let x := s.chip c
    let p1 := { p with bank := some x.active }
    (((s.setChip c { x with pinned := x.pinned.set x.active (x.pinned[x.active] + 1) }).bump
      (prsReg c (0x880 + 16 * x.active.val)) 1).setPkt n p1, p1)

/-- The lookup that is made next: the first that waits and whose packet's turn has come (R302). -/
def State.nextLookup (s : State) (c : Nat) : Option Nat :=
  (s.chip c).lookups.find? fun n => (s.heldResult n).isNone && !s.behind c n

/-- LOOKUP (R293): a lookup is made, and its result applied. ecc names the visits, from 0, that read uncorrectable, and by 24
the read of the indirection table. -/
def State.lookup (s : State) (c : Nat) (ecc : List Nat) : State :=
  let x := s.chip c
  let bad := ecc.contains 24
  match s.nextLookup c with
  | none => s
  | some n =>
    let s1 := s.setChip c { x.dropIdleLines with lookups := x.lookups.erase n }
    match s1.pkt n with
    | none => s1
    | some p0 =>
      let r := s1.pinBank c n p0
      let p := r.2
      let b := p.bank.getD 0
      let h := (r.1.chip c).hdr b
      let w := Walk.tree c b ecc h p.key 25 h.root { s := r.1.bump (prsReg c 0x810) 1, v := 0 }
      let s2 := w.2.s.traceLookup c p b w.1 w.2.v
      let s3 := match w.1 with
        | .rule _ _ w13 w14 => s2.applyResult c n bad w13 w14 p
        | .dflt => s2.applyResult c n bad h.def0 h.def1 p
        | .exc x => s2.exception c n bad x p
      s3.drainResults c

/-! ### The commands -/

/-- PARSE_DISPATCH (R282). -/
def execParseDispatch (c : Fin 16) (e : Fin 256) (port : Fin 32) (s : State) : Host.Outcome State Fault Refusal :=
  .next (s.parseDispatch c.val e.val port.val)
/-- PARSE_PASS_END (R283). -/
def execParsePassEnd (c : Fin 16) (e : Fin 256) (s : State) : Host.Outcome State Fault Refusal :=
  .next (s.parsePassEnd c.val e.val)
/-- LOOKUP (R293). -/
def execLookup (c : Fin 16) (ecc : List Nat) (s : State) : Host.Outcome State Fault Refusal := .next (s.lookup c.val ecc)
/-- BANK_SWAP_REQ: PRS_BANK_CTRL.SWAP (R299). -/
def execBankSwapReq (p : CmdPort) (c : Fin 16) (v : Word) (s : State) : Host.Outcome State Fault Refusal :=
  .next (s.access p (prsReg c.val Reg.PRS_BANK_CTRL) 1 fun s => s.writeBankCtrl p c.val (withBit v 0))
/-- RULE_BANK_SWAP (R300). -/
def execRuleBankSwap (c : Fin 16) (s : State) : Host.Outcome State Fault Refusal := .next (s.ruleBankSwap c.val)
/-- TBW_WRITE (R301). -/
def execTbwWrite (p : CmdPort) (c : Fin 16) (off : BitVec 25) (v : Word) (s : State) :
    Host.Outcome State Fault Refusal :=
  let a := 0x10000000 + 0x2000000 * c.val + off.toNat
  .next (if !s.allowed p 1 then s.reject p 1 0x01 (BitVec.ofNat 32 a)
    else if !s.chipOn c.val then s.bump 0x100094 1
    else s.tblWrite c.val off.toNat v)
/-- TRACE_ARM: PRS_TRACE_SEL.ARM (R296). -/
def execTraceArm (p : CmdPort) (c : Fin 16) (v : Word) (s : State) : Host.Outcome State Fault Refusal :=
  .next (s.access p (prsReg c.val Reg.PRS_TRACE_SEL) 1 fun s => s.writeTrace p c.val (withBit v 31))
/-- UCODE_SWAP (R490). -/
def execUcodeSwap (c : Fin 16) (s : State) : Host.Outcome State Fault Refusal := .next (s.ucodeSwap c.val)

end Sys2Proof.Machine
end

