-- ==== Sys2Proof/Machine/Locking.lean ====
section
/-! DEFINITION. The entry to LOCKING (R552, R558): shared by start-up, full calibration and thermal
supervision. -/

namespace Sys2Proof.Machine

open Sys2Proof

/-- R552, R92: the record of an element at the entry to LOCKING: its position at its effective target, and ACQUISITION,
or HOLD for a parked element. -/
def State.lockElem (s : State) (c : Ctl) (e : Nat) : Elem :=
  let x := s.elem c e
  let eff := effTarget (Sparse.get (fun _ => 0) s.loopS.target e) (s.calElem e).offset
  let y := { x with prof := { p := eff * 65536, v := 0, a := 0 } }
  if s.isParked e then { y with mode := .hold, modeDue := none } else y.enterAcq

/-- The records of every element of a controller at the entry to LOCKING. -/
def State.lockElems (s : State) (c : Ctl) : State :=
  s.setLoops c { s.loops c with elems := (List.range 5120).map fun e => (e, s.lockElem c e) }

/-- The entry to LOCKING (R552): the loops start, or reacquire after a START_FULL (R170). The sample number goes on where
the loops had started before (DEDUCED, assumption 41). A mode request that waits goes on waiting for the next sample boundary (R124). -/
def State.enterLocking (s : State) : State :=
  let s1 := s.setGState .locking
  let s2 := (s1.lockElems .a).lockElems .b
  let s3 := s1.modeWatch s2
  { s3 with loopS := { s3.loopS with running := true, calStale := [] } }

/-- A photonic zone is throttled (R167, R466). -/
def State.photonicThrottle (s : State) : Bool := (List.range 12).any fun i => (s.zone (64 + i)).throttle

end Sys2Proof.Machine
end

