-- ==== Sys2Proof/Machine/Verify.lean ====
section
/-! DEFINITION. The verification of a structure image (17_structure_image.md): the layout of R477, the order of R480 and
the consistency rules of R481. -/

namespace Sys2Proof.Machine

open Sys2Proof

/-- Bytes of an image. -/
def bytesAt (l : List Byte) (o n : Nat) : List Byte := (l.drop o).take n

/-- A little-endian word of an image. -/
def u32At (l : List Byte) (o : Nat) : Nat := leNat (bytesAt l o 4)

/-- A failed check: its ERR code, the section index and the byte offset that FAULT_INFO shows. -/
structure VErr where
  code : Nat
  sect : Nat
  off : Nat
  deriving DecidableEq, Repr

/-- A manifest entry (Table: Manifest entry). -/
structure Entry where
  idx : Nat
  type : Nat
  inst : Nat
  enc : Bool
  off : Nat
  len : Nat
  version : Nat
  deriving DecidableEq, Repr

/-- The offset of manifest entry i. -/
def entryOff (i : Nat) : Nat := 0x40 + 48 * i

/-- Manifest entry i. -/
def entryAt (l : List Byte) (i : Nat) : Entry :=
  let o := entryOff i
  let w := u32At l o
  { idx := i, type := w % 65536, inst := w / 65536 % 256, enc := decide (w / 16777216 % 2 = 1)
    off := u32At l (o + 4), len := u32At l (o + 8), version := u32At l (o + 12) }

/-- The number of manifest entries. -/
def sectionsOf (l : List Byte) : Nat := u32At l 4 / 65536

/-- TOTAL_LEN. -/
def totalLen (l : List Byte) : Nat := u32At l 8

/-- The manifest. -/
def manifest (l : List Byte) : List Entry := (List.range (sectionsOf l)).map (entryAt l)

/-- The largest image: 24 MB. -/
def maxImage : Nat := 25165824

/-- R477: the body of an entry is placed as it must be, among the entries before it. -/
def placed (l : List Byte) (e : Entry) : Bool :=
  decide (e.off % 64 = 0 ∧ entryOff (sectionsOf l) ≤ e.off ∧ e.off + e.len + 256 ≤ totalLen l) &&
  ((manifest l).take e.idx).all fun f => decide (f.off + f.len ≤ e.off ∨ e.off + e.len ≤ f.off)

/-- R480 step 1, over the bytes that are there. -/
def checkFormat (l : List Byte) : Option VErr :=
  if u32At l 0 ≠ 0xC10E5120 then some ⟨1, 0, 0⟩
  else if u32At l 4 % 65536 ≠ 1 then some ⟨1, 0, 4⟩
  else if sectionsOf l = 0 ∨ 32 < sectionsOf l then some ⟨1, 0, 4⟩
  else if totalLen l % 64 ≠ 0 ∨ maxImage < totalLen l ∨ l.length < totalLen l ∨
      totalLen l < entryOff (sectionsOf l) + 256 then some ⟨1, 0, 8⟩
  else match (manifest l).find? fun e => !placed l e with
    | some e => some ⟨1, e.idx, entryOff e.idx + 4⟩
    | none => none

/-- KEY_SLOT of an image. -/
def keySlotOf (l : List Byte) : Fin 4 := ⟨u32At l 0x14 / 65536 % 4, by omega⟩

/-- The public key in the trailer. -/
def pubKeyOf (l : List Byte) : List Byte := bytesAt l (totalLen l - 256) 96

/-- R480 steps 2 to 5. -/
def State.checkTrust (s : State) (l : List Byte) : Option VErr :=
  let k := s.sec.slots.toList.getD (keySlotOf l).val {}
  let t := totalLen l - 256
  if !k.programmed || k.revoked || k.partly || decide (Config.sha384 (pubKeyOf l) ≠ k.hash.toList) then some ⟨2, 0, 0x14⟩
  else if !Config.ecdsaGood (l.take t) (pubKeyOf l) (bytesAt l (t + 0x60) 96) then some ⟨3, 0, t + 0x60⟩
  else if u32At l 0x14 % 65536 < s.sec.minSvn.toNat then some ⟨4, 0, 0x14⟩
  else
    let w := u32At l 0x18
    let may := decide (w / 2 ^ (b2n s.sec.variantH) % 2 = 1)
    if !may || decide (0x11 < w / 256 % 256) then some ⟨5, 0, 0x18⟩ else none

/-- A body as decrypted (R479); none where it does not decrypt. -/
def State.openBody (s : State) (l : List Byte) (e : Entry) : Option (List Byte) :=
  let body := bytesAt l e.off e.len
  if e.enc then
    let o := entryOff e.idx
    match s.sec.volKey with
    | none => none
    | some k => Config.gcmOpen k.toList (bytesAt l (o + 16) 12) (bytesAt l o 16) body (bytesAt l (o + 32) 16)
  else some body

/-- R480 step 6: the sections with their bodies, or the failure. REQUIRE_ENC governs staged images (R533). -/
def State.openSections (s : State) (l : List Byte) (staged : Bool) : List Entry → Except VErr (List Section)
  | [] => .ok []
  | e :: t =>
    if staged && s.sec.requireEnc && !e.enc then .error ⟨6, e.idx, entryOff e.idx⟩
    else match s.openBody l e with
      | none => .error ⟨6, e.idx, e.off⟩
      | some b =>
        match s.openSections l staged t with
        | .error x => .error x
        | .ok r => .ok ({ type := e.type, inst := e.inst, version := e.version, enc := e.enc, offset := e.off, body := b } :: r)

/-! ### Section rules (R474, R480 step 7, R482) -/

abbrev secPorts : Nat := 1
abbrev secTenants : Nat := 2
abbrev secOverlay : Nat := 3
abbrev secUcode : Nat := 4
abbrev secQueues : Nat := 5
abbrev secEngines : Nat := 6
abbrev secClocks : Nat := 7
abbrev secCalendar : Nat := 8
abbrev secAuth : Nat := 9
abbrev secSecurity : Nat := 10
abbrev secRegInit : Nat := 11
abbrev secController : Nat := 12

/-- LEN of a CALENDAR body. -/
def calBodyLen (b : List Byte) : Nat := u32At b 0x0C

/-- The length of a body is as Table: Section bodies has it. -/
def lengthGood (x : Section) : Bool :=
  if x.type = secUcode then decide (x.body.length = 32832)
  else if x.type = secCalendar then decide (x.body.length = 64 + 256 * calBodyLen x.body)
  else if x.type = secSecurity then decide (x.body.length = 64)
  else if x.type = secRegInit then decide (x.body.length % 8 = 0)
  else Config.bodyLengthGood x.type x.body.length

/-- A section is one that an image may carry: type, instance, version and length; in an overlay, overlay-capable. -/
def sectionGood (overlay : Bool) (x : Section) : Bool :=
  decide (1 ≤ x.type ∧ x.type ≤ 12 ∧ x.version = 1) &&
  decide (x.inst = 255 ∨ ((x.type = secUcode ∨ x.type = secQueues) ∧ x.inst < 16)) &&
  (!overlay || decide (x.type = secUcode ∨ x.type = secCalendar)) && lengthGood x

/-- The required sections of a full image. -/
def requiredSections : List Nat := [secPorts, secUcode, secQueues, secEngines, secClocks, secAuth, secSecurity]

/-- R480 step 7. -/
def checkSections (overlay : Bool) (xs : List Section) : Option VErr :=
  match xs.zipIdx.find? fun x => !sectionGood overlay x.1 ||
      (xs.take x.2).any fun y => decide (y.type = x.1.type ∧ y.inst = x.1.inst) with
  | some x => some ⟨7, x.2, entryOff x.2⟩
  | none =>
    if overlay then (if xs.isEmpty then some ⟨7, 0, 0x40⟩ else none)
    else if requiredSections.all fun t => xs.any fun x => decide (x.type = t) then none else some ⟨7, 0, 0x40⟩

/-! ### Consistency (R481) -/

/-- The section of a type, with its index. -/
def sectionIdx (xs : List Section) (t : Nat) : Option (Section × Nat) := xs.zipIdx.find? fun x => decide (x.1.type = t)

/-- The body of the section of a type. -/
def bodyOf (xs : List Section) (t : Nat) : Option (List Byte) := (sectionIdx xs t).map fun x => x.1.body

/-- R52: 48 lists that hold every element exactly once, 96 matrix elements in each. -/
def enginesGood (x : EnginesSection) : Bool :=
  decide (x.lists.length = 48) && decide (x.lists.flatten.length = 5120) && decide x.lists.flatten.Nodup &&
  x.lists.all fun l => l.all (fun e => decide (e < 5120)) && decide ((l.filter fun e => decide (e < 4608)).length = 96)

/-- The word of a template in a CALENDAR body. -/
def calBodyWord (b : List Byte) (t w : Nat) : Word := BitVec.ofNat 32 (u32At b (0x40 + 256 * t + 4 * w))

/-- The words that a CALENDAR section writes into an area, and its LEN. -/
def State.putCalendar (s : State) (area : Nat) (b : List Byte) : State :=
  let n := min 8 (calBodyLen b)
  ((List.range (64 * n)).foldl (fun s i =>
    s.wr (Reg.SLT_TPL + 0x800 * area + 4 * i) (calBodyWord b (i / 64) (i % 64))) s).wr (Reg.SLT_CAL_LEN + 4 * area)
    (BitVec.ofNat 32 (calBodyLen b % 16))

/-- The default calendar is written into an area. -/
def State.putDefaultCalendar (s : State) (area : Nat) : State :=
  ((List.range 512).foldl (fun s i =>
    s.wr (Reg.SLT_TPL + 0x800 * area + 4 * i) (resetWord (Reg.SLT_TPL + 4 * i))) s).wr (Reg.SLT_CAL_LEN + 4 * area)
    (resetWord Reg.SLT_CAL_LEN)

/-- The pairs of a REG_INIT body (R482). -/
def regPairs : List Byte → List (Nat × Word)
  | b0 :: b1 :: b2 :: b3 :: c0 :: c1 :: c2 :: c3 :: t =>
    ((wordOfBytes b0 b1 b2 b3).toNat, wordOfBytes c0 c1 c2 c3) :: regPairs t
  | _ => []

/-- R481: a pair names a register with RW or RWL fields that is not a class 3 or 4 command (assumption 43). -/
def pairGood (p : Nat × Word) : Bool :=
  match locate p.1 with
  | none => false
  | some (b, o) =>
    match findRow b o with
    | none => false
    | some r =>
      decide (p.1 % 4 = 0) && decide (r.rw ||| r.rwl ≠ 0) &&
      match b with
      | .cmd => decide (o ≠ 0x40)
      | .lan _ => decide (o ≠ 0x8000)
      | .buf _ => decide (o ≠ 0x200)
      | .mtx => !(decide (0x880 ≤ o ∧ o < 0x900) && bit p.2 4)
      | _ => true

/-- A pair of area 0 of the calendar: SLT_TPL of area 0, or SLT_CAL_LEN[0]. -/
def pairOfCalendar (p : Nat × Word) : Bool :=
  decide (p.1 = Reg.SLT_CAL_LEN ∨ (Reg.SLT_TPL ≤ p.1 ∧ p.1 < Reg.SLT_TPL + 0x800))

/-- R481: area 0 as the image gives it to Prism: CALENDAR or the default, with the REG_INIT pairs over it. -/
def startCalendar (xs : List Section) : State :=
  let s0 : State := {}
  let s1 := match bodyOf xs secCalendar with
    | some b => s0.putCalendar 0 b
    | none => s0
  (regPairs ((bodyOf xs secRegInit).getD [])).foldl (fun s p =>
    if pairOfCalendar p then s.wr p.1 (if p.1 = Reg.SLT_CAL_LEN then p.2 &&& 0xF else p.2) else s) s1

/-- R194 over one body: the first template with a fault, of those that LEN names. -/
def calBodyFault (b : List Byte) : Option Nat :=
  let s0 : State := {}
  ((s0.putCalendar 0 b).tplFault 0).map fun f => f.1

/-- The size of a bundle by its code. -/
def bundleOf (e : PortEntry) : Nat := 2 ^ e.bundle.toNat

/-- R481, R254: every port of the group that port k's bundle code names has that code, one tenant and one CFH mode. -/
def bundleGood (ps : List PortEntry) (ts : List (Fin 8)) (k : Nat) : Bool :=
  let e := ps.getD k {}
  let l := k - k % bundleOf e
  (List.range (bundleOf e)).all fun m =>
    let f := ps.getD (l + m) {}
    decide (f.bundle = e.bundle ∧ f.cfhMode = e.cfhMode ∧ ts.getD (l + m) 0 = ts.getD k 0)

/-- R481, R263: the lane map of chiplet c gives every port a lane of its own. -/
def lanesGood (ps : List PortEntry) (c : Nat) : Bool :=
  decide ((List.range 32).map fun p => (ps.getD (32 * c + p) {}).lane).Nodup

/-- R516: the fields of a page by its number: stack, and the page. -/
def pageOf (n : Nat) : Nat × Page :=
  (n / 268435456 % 16,
    { region := ⟨n / 134217728 % 2, by omega⟩, channel := n / 4194304 % 32, index := n % 2097152, recorded := true })

/-- A page number lies within its range. -/
def pageInRange (n : Nat) : Bool :=
  decide (n < 4294967296) && decide (8 * (pageOf n).2.index < regionSize (decide ((pageOf n).2.region = 1)))

/-- R481: every entry of a REPAIR_OVERLAY names an index within its range. -/
def overlayGood (x : OverlaySection) : Bool :=
  x.parkAdd.all (fun e => decide (e < 4608)) && x.parkClear.all (fun e => decide (e < 4608)) &&
  x.adcClear.all (fun u => decide (u < 100)) && x.laneClear.all (fun l => decide (l < 512)) && x.pageClear.all pageInRange

/-- A check of R481 on the section of a type, if the image has one. -/
def checkBody (xs : List Section) (t : Nat) (f : List Byte → Bool) : Option VErr :=
  match sectionIdx xs t with
  | none => none
  | some x => if f x.1.body then none else some ⟨8, x.2, x.1.offset⟩

/-- R481 on a CALENDAR section: LEN, then R194 on its templates. -/
def checkCalendar (xs : List Section) : Option VErr :=
  match sectionIdx xs secCalendar with
  | none => none
  | some x =>
    if calBodyLen x.1.body = 0 ∨ 8 < calBodyLen x.1.body then some ⟨8, x.2, x.1.offset + 0x0C⟩
    else match calBodyFault x.1.body with
      | some t => some ⟨8, x.2, x.1.offset + 0x40 + 256 * t⟩
      | none => none

/-- R481 on the REG_INIT pairs. -/
def checkRegInit (xs : List Section) : Option VErr :=
  match sectionIdx xs secRegInit with
  | none => none
  | some x =>
    match (regPairs x.1.body).zipIdx.find? fun p => !pairGood p.1 with
    | some p => some ⟨8, x.2, x.1.offset + 8 * p.2⟩
    | none => none

/-- R481 on the calendar that Prism starts with. -/
def checkStart (xs : List Section) : Option VErr :=
  let start := startCalendar xs
  let n := start.rdFld Reg.SLT_CAL_LEN 3 0
  if n = 0 ∨ 8 < n ∨ (start.tplFault 0).isSome then
    match (sectionIdx xs secCalendar).orElse fun _ => sectionIdx xs secRegInit with
    | some x => some ⟨8, x.2, x.1.offset⟩
    | none => some ⟨8, 0, 0x40⟩
  else none

/-- R481, in its order. An overlay carries no calendar that Prism starts with: the rule on its CALENDAR section applies. -/
def checkConsistent (overlay : Bool) (xs : List Section) : Option VErr :=
  let ports := Config.decodePorts ((bodyOf xs secPorts).getD [])
  let tenants := Config.decodeTenants ((bodyOf xs secTenants).getD [])
  if overlay then checkCalendar xs
  else
    let checks : List (Option VErr) :=
      [checkBody xs secEngines fun b => enginesGood (Config.decodeEngines b), checkCalendar xs,
       checkBody xs secPorts fun _ => (List.range 512).all (bundleGood ports tenants),
       checkBody xs secPorts fun _ => (List.range 16).all (lanesGood ports),
       checkBody xs secOverlay fun b => overlayGood (Config.decodeOverlay b), checkRegInit xs, checkStart xs]
    checks.findSome? id

/-- R480: the verification of an image, in the order of Table: Verification order. -/
def State.verifyImage (s : State) (l : List Byte) (staged : Bool) : Except VErr Image :=
  let overlay := decide (u32At l 0x0C % 2 = 1)
  match (checkFormat l).orElse fun _ => s.checkTrust l with
  | some e => .error e
  | none =>
    match s.openSections l staged (manifest l) with
    | .error e => .error e
    | .ok xs =>
      match (checkSections overlay xs).orElse fun _ => checkConsistent overlay xs with
      | some e => .error e
      | none => .ok { seq := BitVec.ofNat 32 (u32At l 0x10), build := BitVec.ofNat 32 (u32At l 0x1C)
                      svn := BitVec.ofNat 16 (u32At l 0x14), keySlot := keySlotOf l, overlay := overlay, sections := xs }

end Sys2Proof.Machine
end

