-- ==== Sys2Proof/Machine/ImageCmds.lean ====
section
/-! DEFINITION. Staging, commit, overlay and restructure (17_structure_image.md, R484 to R496): the commands of GLB_IMG_CTRL
and the phases of a restructure up to APPLY. -/

namespace Sys2Proof.Machine

open Sys2Proof

/-! ### What the commands share -/

/-- R485: staging belongs to no port, or to this one. -/
def State.imgOwned (s : State) (p : CmdPort) : Bool := s.img.owner.all fun q => decide (q = p)

/-- A command of GLB_IMG_CTRL: class 2; one from a port that does not own staging is discarded and audited (R485). -/
def State.imgAccess (s : State) (p : CmdPort) (act : State → State) : State :=
  s.access p Reg.GLB_IMG_CTRL 2 fun s =>
    if s.imgOwned p then act s else s.audit 0x03 (portNum p) 2 (BitVec.ofNat 32 Reg.GLB_IMG_CTRL) 0

/-- GLB_IMG_STATUS.ERR. -/
def State.imgErr (s : State) (e : Nat) : State := { s with img := { s.img with err := BitVec.ofNat 4 e } }

/-- The interrupt of IMG_IRQ_EN. -/
def State.imgIrq (s : State) : State := s.irqIf Reg.GLB_IMG_CFG 16 2

/-- The number of the port that owns staging. -/
def State.imgPort (s : State) : Nat :=
  match s.img.owner with
  | some p => portNum p
  | none => 0

/-- A commit, restructure or overlay ends: audited with ERR (Table: Security audit events), with the interrupt. -/
def State.imgEnds (s : State) (code e : Nat) : State :=
  (s.audit code s.imgPort 2 (BitVec.ofNat 32 Reg.GLB_IMG_CTRL) (BitVec.ofNat 32 e)).imgIrq

/-- It ends with an error. -/
def State.imgFails (s : State) (code e : Nat) : State := (s.imgErr e).imgEnds code e

/-- The staged bytes. -/
def State.stagedBytes (s : State) : List Byte :=
  (List.range s.img.stageLen).map fun i => Sparse.get (fun _ => 0) s.img.buf i

/-- Staging is empty, or opened by a port. -/
def ImgSt.cleared (m : ImgSt) (st : StageSt) (o : Option CmdPort) : ImgSt :=
  { m with stage := st, owner := o, buf := [], stageLen := 0, staged := none }

/-! ### Staging (R484, R485) -/

/-- Staging is verifying, or in use by a commit or a restructure. -/
def ImgSt.inUse (m : ImgSt) : Bool := decide (m.stage = .verifying) || m.commitBusy || m.commitWait || decide (m.phase ≠ .none)

/-- STAGE_OPEN. -/
def State.stageOpen (s : State) (p : CmdPort) : State :=
  if s.img.stage = .opened || s.img.inUse then s.imgErr 9 else { s with img := s.img.cleared .opened (some p) }

/-- STAGE_DONE: it closes an open staging and verification starts. It waits while the device verifies an image slot. -/
def State.stageDone (s : State) : State :=
  if s.img.stage = .opened then
    { s with img := { s.img with stage := .verifying, verifying := s.img.verifying.orElse fun _ => some .staged } }
  else s

/-- DISCARD. -/
def State.stageDiscard (s : State) : State :=
  if s.img.inUse then s.imgErr 9 else { s with img := s.img.cleared .empty none }

/-- Bytes stored from an offset on. -/
def putBytes (m : Sparse Byte) (off : Nat) (l : List Byte) : Sparse Byte :=
  l.zipIdx.foldl (fun m x => Sparse.set (fun _ => 0) m (off + x.2) x.1) m

/-- STAGE_WRITE: the owning port's bytes enter the buffer while staging is open; those past 24 MB do not. -/
def State.stageWrite (s : State) (p : CmdPort) (off : Nat) (data : List Byte) : State :=
  let a := 0x38000000 + off
  s.access p a 2 fun s =>
    if !s.imgOwned p then s.audit 0x03 (portNum p) 2 (BitVec.ofNat 32 a) 0
    else
      let d := data.take (maxImage - off)
      if s.img.stage = .opened ∧ d ≠ [] then
        { s with img := { s.img with buf := putBytes s.img.buf off d, stageLen := max s.img.stageLen (off + d.length) } }
      else s

/-! ### Commit (R486) -/

/-- COMMIT. A second one while a commit is in progress has no effect. -/
def State.commit (s : State) : State :=
  if s.img.commitBusy || s.img.commitWait then s
  else if s.img.stage = .overlay then s.imgFails 0x12 0xA
  else if s.img.stage ≠ .full then s.imgFails 0x12 9
  else if s.thm.nvmOk then { s with img := { s.img with commitBusy := true } }
  else { s with img := { s.img with commitWait := true } }

/-- The slot with the staged image. -/
def State.newSlot (s : State) : ImgSlot := { bytes := s.img.buf, len := s.img.stageLen, valid := true, passed := false }

/-- COMMIT_DONE: the header is written and the slot becomes valid; the first commit of a delivered image makes slot 0 the
slot booted from. -/
def State.commitDone (s : State) : State :=
  if s.img.commitBusy then
    let m := s.img
    let m1 := if m.bootSlot = 0 then { m with slot1 := s.newSlot } else { m with slot0 := s.newSlot }
    ({ s with img := { m1 with
      commitBusy := false, bootSlot := if m.delivered then 0 else m.bootSlot, delivered := false } }).imgEnds 0x12 0
  else s

/-! ### Restructure (R492 to R496) -/

/-- The device is in SERVICE or QUIESCED. -/
def State.inService (s : State) : Bool := decide (s.glb.state = .service) || decide (s.glb.state = .quiesced)

/-- A controller is in SYNCING. -/
def State.syncingNow (s : State) : Bool := decide (s.red.a.state = .syncing) || decide (s.red.b.state = .syncing)

/-- The CLOCKS body of an image. -/
def clocksBody (m : Option Image) : Option (List Byte) := m.bind fun x => bodyOf x.sections secClocks

/-- RESTRUCTURE. A second one while a restructure runs has no effect. -/
def State.restructure (s : State) : State :=
  if s.img.phase ≠ .none then s
  else if !s.inService || decide (s.img.stage ≠ .full) || s.flt.safe || s.syncingNow then s.imgFails 0x13 9
  else if clocksBody s.img.staged ≠ clocksBody s.img.inForce then s.imgFails 0x13 0xC
  else
    let s1 := { s with img := { s.img with phase := .drain }, glb := { s.glb with rsReturn := s.glb.state } }
    s1.setGState .restructure

/-- R493, DRAIN: no burst is unsettled, every egress-hold region is empty, and every balance is 0. -/
def State.drained (s : State) : Bool :=
  s.brt.ing.all (fun x => x.2.bursts.isEmpty) && s.brt.staged.isEmpty &&
  s.chips.toList.all fun x => x.hold.used.isEmpty && x.bal.isEmpty

/-- R493: a rule-bank or microcode swap still pending takes effect at once. -/
def State.forceSwaps (s : State) (c : Nat) : State :=
  let s1 := if s.chipOn c && (s.chip c).swap.isSome then s.bankSwap c else s
  let x := s1.chip c
  if s1.chipOn c && x.ucSwap.isSome then s1.setChip c { x with ucActive := 1 - x.ucActive, ucSwap := none } else s1

/-- DRAIN_END: APPLY begins. -/
def State.drainEnd (s : State) : State :=
  if decide (s.img.phase = .drain) && s.drained then
    (List.range 16).foldl State.forceSwaps { s with img := { s.img with phase := .apply } }
  else s

/-- R495: a restructure in DRAIN is abandoned. -/
def State.abandonRestructure (s : State) : State :=
  if s.img.phase = .drain then
    (({ s with img := { s.img with phase := .none } }).setGState s.glb.rsReturn).imgFails 0x13 0xD
  else s

/-- R557: a quiesce in its drain is abandoned. -/
def State.abandonQuiesce (s : State) : State :=
  if s.glb.quiescing then
    (({ s with glb := { s.glb with quiescing := false } }).wrBit Reg.GLB_CTRL 9 true).wrBit Reg.GLB_CTRL 2 false
  else s

/-- R495, R557: what abandons a drain abandons the drain of a restructure and that of a quiesce. -/
def State.abandonDrains (s : State) : State := s.abandonRestructure.abandonQuiesce

/-! ### Overlays (R489, R490) -/

/-- The chiplets with power that a section names. -/
def State.namedChips (s : State) (x : Section) : List Nat :=
  (if x.inst = 255 then List.range 16 else [x.inst]).filter fun c => s.chipOn c

/-- SWAP_SLOT of a PARSER_UCODE body. -/
def swapSlotOf (b : List Byte) : Nat := leNat (bytesAt b 0 8)

/-- The instructions of a PARSER_UCODE body. -/
def ucodeOf (b : List Byte) : List UInstr := Config.decodeUcode (b.drop 0x40)

/-- R489: the refusal bits of PRS_BANK_CTRL for a microcode section at chiplet c. -/
def State.ucodeRefusals (s : State) (slot c : Nat) : List Nat :=
  let x := s.chip c
  (if x.ucSwap.isSome then [9] else []) ++
  (if x.ucPinned.toList.getD (1 - x.ucActive.val) 0 ≠ 0 then [10] else []) ++
  (if slot ≤ s.slotNow + 2 then [11] else [])

/-- Set bits of a register. -/
def State.setBits (s : State) (a : Nat) (l : List Nat) : State := l.foldl (fun s i => s.wrBit a i true) s

/-- The takeover time of a CALENDAR body: seconds and nanoseconds, and the whole in ns. -/
def takeoverNs (b : List Byte) : Nat := u32At b 8 % 1073741824
def takeoverOf (b : List Byte) : Nat := leNat (bytesAt b 0 6) * 1000000000 + takeoverNs b

/-- R489, R196: the refusal bits of SLT_CHANGE_CTRL for a CALENDAR section. Its templates were checked under R481. -/
def State.calendarRefusals (s : State) (b : List Byte) : List Nat :=
  let t := takeoverOf b
  (if s.slt.change.isSome then [8] else []) ++
  (if (t : Int) * 4294967296 - s.tim.dt.units < 20480 * 4294967296 then [9] else []) ++
  (if 1000000000 ≤ takeoverNs b ∨ t % 1310720 ≠ 0 then [10] else [])

/-- The microcode sections of an image: those for all chiplets first, so that one for a chiplet prevails. -/
def ucodeSections (xs : List Section) : List Section :=
  let all := xs.filter fun x => decide (x.type = secUcode)
  (all.filter fun x => decide (x.inst = 255)) ++ all.filter fun x => decide (x.inst ≠ 255)

/-- Write microcode into the idle bank of a chiplet. -/
def Chip.putUcode (x : Chip) (u : List UInstr) : Chip := if x.ucActive = 0 then { x with uc1 := u } else { x with uc0 := u }

/-- R490: a microcode section is written into the idle bank, and its swap is pending. -/
def State.overlayUcode (s : State) (x : Section) : State :=
  (s.namedChips x).foldl (fun s c =>
    s.setChip c { (s.chip c).putUcode (ucodeOf x.body) with ucSwap := some (swapSlotOf x.body) }) s

/-- R490: a CALENDAR section is written into the idle area, and its change is pending. -/
def State.overlayCalendar (s : State) (b : List Byte) : State :=
  let s1 := s.putCalendar (1 - s.slt.activeArea.val) b
  ({ s1 with slt := { s1.slt with change := some (slotOf (takeoverOf b)) } }).wrBit Reg.SLT_CHANGE_CTRL 0 true

/-- OVERLAY: every check of both sections, then both or neither. -/
def State.overlay (s : State) : State :=
  match s.img.staged with
  | none => s.imgFails 0x14 9
  | some m =>
    if !s.inService || decide (s.img.stage ≠ .overlay) then s.imgFails 0x14 9
    else
      let us := ucodeSections m.sections
      let cal := bodyOf m.sections secCalendar
      let ubad := us.flatMap fun x => (s.namedChips x).map fun c => (c, s.ucodeRefusals (swapSlotOf x.body) c)
      let cbad := match cal with
        | some b => s.calendarRefusals b
        | none => []
      if cbad.isEmpty && ubad.all fun x => x.2.isEmpty then
        let s1 := us.foldl State.overlayUcode s
        let s2 := match cal with
          | some b => s1.overlayCalendar b
          | none => s1
        s2.imgEnds 0x14 0
      else
        let s1 := ubad.foldl (fun s x => s.setBits (prsReg x.1 Reg.PRS_BANK_CTRL) x.2) s
        let s2 := s1.setBits Reg.SLT_CHANGE_CTRL cbad
        let s3 := if cbad.isEmpty then s2 else s2.irqIf Reg.SLT_CTRL 0 5
        s3.imgFails 0x14 0xB

/-! ### The commands -/

/-- A write of GLB_IMG_CTRL: its request bits act in ascending order. -/
def State.writeImgCtrl (s : State) (p : CmdPort) (v : Word) : State :=
  s.imgAccess p fun s =>
    let s1 := if bit v 0 then s.stageOpen p else s
    let s2 := if bit v 1 then s1.stageDone else s1
    let s3 := if bit v 2 then s2.stageDiscard else s2
    let s4 := if bit v 3 then s3.commit else s3
    let s5 := if bit v 4 then s4.restructure else s4
    let s6 := if bit v 5 then s5.overlay else s5
    if bit v 6 then s6.abandonDrains else s6

/-- STAGE_OPEN (R485). -/
def execStageOpen (p : CmdPort) (v : Word) (s : State) : Host.Outcome State Fault Refusal :=
  .next (s.writeImgCtrl p (withBit v 0))
/-- STAGE_WRITE (R484). -/
def execStageWrite (p : CmdPort) (off : BitVec 25) (data : List Byte) (s : State) : Host.Outcome State Fault Refusal :=
  .next (s.stageWrite p off.toNat data)
/-- STAGE_DONE (R484). -/
def execStageDone (p : CmdPort) (v : Word) (s : State) : Host.Outcome State Fault Refusal :=
  .next (s.writeImgCtrl p (withBit v 1))
/-- DISCARD (R485). -/
def execDiscard (p : CmdPort) (v : Word) (s : State) : Host.Outcome State Fault Refusal :=
  .next (s.writeImgCtrl p (withBit v 2))
/-- COMMIT (R486). -/
def execCommit (p : CmdPort) (v : Word) (s : State) : Host.Outcome State Fault Refusal :=
  .next (s.writeImgCtrl p (withBit v 3))
/-- RESTRUCTURE (R492). -/
def execRestructure (p : CmdPort) (v : Word) (s : State) : Host.Outcome State Fault Refusal :=
  .next (s.writeImgCtrl p (withBit v 4))
/-- DRAIN_END (R493). -/
def execDrainEnd (s : State) : Host.Outcome State Fault Refusal := .next s.drainEnd
/-- DRAIN_LIMIT_EXPIRY (R495), of a restructure or of a QUIESCE (R557). -/
def execDrainLimitExpiry (s : State) : Host.Outcome State Fault Refusal := .next s.abandonDrains
/-- ABANDON (R495). -/
def execAbandon (p : CmdPort) (v : Word) (s : State) : Host.Outcome State Fault Refusal :=
  .next (s.writeImgCtrl p (withBit v 6))
/-- OVERLAY (R489). -/
def execOverlay (p : CmdPort) (v : Word) (s : State) : Host.Outcome State Fault Refusal :=
  .next (s.writeImgCtrl p (withBit v 5))
/-- CHIPLET_LOSS (R248, R350). The drain that the loss abandons (R495) ended when the domain's power-good fell. -/
def execChipletLoss (c : Fin 16) (s : State) : Host.Outcome State Fault Refusal := .next (s.chipletLoss c.val)

end Sys2Proof.Machine
end

