-- ==== Sys2Proof/Machine/CalSets.lean ====
section
/-! DEFINITION. The temperature sets of Diopter (05_diopter_calibration.md): interpolation between sets (R180 to R182), the
sets in NVM (R183 to R186), and the calibration of an ADC unit (R164). -/

namespace Sys2Proof.Machine

open Sys2Proof

/-! ### Sets -/

/-- Replace a set area. -/
def State.setCalSet (s : State) (i : Nat) (x : CalSet) : State :=
  { s with cal := { s.cal with sets := s.cal.sets.setIfInBounds i x } }

/-- The areas with a valid set. -/
def State.validAreas (s : State) : List Nat := (List.range 9).filter fun i => (s.calSet i).valid

/-- R181: the areas whose sets are used for interpolation. -/
def State.usedAreas (s : State) : List Nat := s.validAreas.filter fun i => !s.shadowed i

/-- The area of a list whose tag is the largest (or smallest) by an order; the lower area on a tie. -/
def State.tagBest (s : State) (better : Int → Int → Bool) : List Nat → Option Nat
  | [] => none
  | i :: t =>
    match s.tagBest better t with
    | none => some i
    | some k => if better (s.calSet k).tag (s.calSet i).tag then some k else some i

/-- R181: what an interpolation uses: lower and upper area, weight, CLAMPED. -/
structure Interp where
  lo : Nat
  hi : Nat
  w : Nat
  clamped : Bool
  deriving DecidableEq, Repr

/-- R181: the sets and the weight for a temperature; none without a set. -/
def State.interp (s : State) (t : Int) : Option Interp :=
  let used := s.usedAreas
  let below := used.filter fun i => decide ((s.calSet i).tag ≤ t)
  let atop := used.filter fun i => decide (t ≤ (s.calSet i).tag)
  match s.tagBest (fun a b => decide (b < a)) below, s.tagBest (fun a b => decide (a < b)) atop with
  | none, none => none
  | some l, none => some ⟨l, l, 0, true⟩
  | none, some h => some ⟨h, h, 0, true⟩
  | some l, some h =>
    let tl := (s.calSet l).tag
    let th := (s.calSet h).tag
    if tl = t then some ⟨l, l, 0, false⟩
    else if th = t then some ⟨h, h, 0, false⟩
    else some ⟨l, h, (((t - tl) * 65536 + (th - tl) / 2) / (th - tl)).toNat, false⟩

/-- R181: one interpolated value. -/
def lerp (w : Nat) (lo hi : Int) : Int := lo + shr ((hi - lo) * w + 0x8000) 16

/-- An element entry of a set (Table: Element entry): word k. -/
def CalSet.word (x : CalSet) (e k : Nat) : Word := (Sparse.get (fun _ => []) x.entries e).getD k 0

/-- The calibration of an element between two sets. -/
def Interp.elem (q : Interp) (lo hi : CalSet) (e : Nat) (old : CalElem) (range1 idle : Bool) : CalElem :=
  let f (k a b : Nat) : Int := lerp q.w (fld (lo.word e k) a b : Nat) (fld (hi.word e k) a b : Nat)
  let lin := (List.range 65).map fun k => (f k 25 0).toNat
  { old with
    lin := lin
    linUse := if idle then linInRange range1 lin else old.linUse
    linPend := !idle
    offset := f 65 19 0
    levBar := f 66 13 0
    levCross := f 66 29 16
    lc := (lerp q.w ((lo.word e 67).toNat : Int) ((hi.word e 67).toNat : Int)).toNat }

/-- A level code moved by a delta, within its 14 bits. -/
def levAdd (l : BitVec 14) (d : Int) : BitVec 14 := BitVec.ofInt 14 (clampI 0 16383 ((l.toNat : Int) + d))

/-- R182, R178: both controllers' in-use level codes of an element move by deltas, and the guards bring the DACs there
(R139); while Prism does not run they are there at once (R140). -/
def State.levelDelta (s : State) (e : Nat) (dBar dCross : Int) : State :=
  let s1 := s.modElem e fun x => { x with levBar := levAdd x.levBar dBar, levCross := levAdd x.levCross dCross }
  let c := s1.aim e
  s1.setChan e (if s1.slt.running then c else c.jump)

/-- R182: the newly interpolated values of one element are taken into use; the level codes of a parked element hold
(R32). -/
def State.interpElem (s : State) (q : Interp) (e : Nat) : State :=
  let old := s.calElem e
  let c := s.chan e
  let new := q.elem (s.calSet q.lo) (s.calSet q.hi) e old c.range1 (decide (c.phase = .idle))
  let s1 := s.setCalElem e new
  if s.isParked e then s1 else s1.levelDelta e (new.levBar - old.levBar) (new.levCross - old.levCross)

/-- R181, R182: interpolate for CAL_TEMP, with the interrupt when CLAMPED sets. Without a set the values stay. -/
def State.interpolate (s : State) : State :=
  match s.interp s.cal.temp with
  | none => { s with cal := { s.cal with dirty := false } }
  | some q =>
    let was := s.cal.clamped
    let s1 := { s with cal := { s.cal with
      dirty := false, clamped := q.clamped, weight := q.w
      loArea := Fin.ofNat 9 q.lo, hiArea := Fin.ofNat 9 q.hi } }
    let s2 := (List.range 5120).foldl (fun s e => s.interpElem q e) s1
    if q.clamped && !was then s2.irqIf Reg.CAL_CTRL 2 8 else s2

/-- CAL_INTERPOLATION (R182): at the sample boundary after CAL_TEMP changed. What a full calibration under way has measured
stays in use (R187). -/
def State.calInterpolation (s : State) : State := if s.cal.dirty && !s.cal.fullBusy then s.interpolate else s

/-- R180: the mean of the valid readings of the 12 photonic zones. -/
def State.photonicMean (s : State) : Option Int :=
  let rs := (List.range 12).flatMap fun i =>
    let z := s.zone (64 + i)
    (if z.s0.seen && decide (z.s0.cause = 0) then [z.s0.reading] else []) ++
    (if z.s1.seen && decide (z.s1.cause = 0) then [z.s1.reading] else [])
  if rs.isEmpty then none else some (roundQ rs.sum rs.length)

/-- R180: CAL_TEMP is updated. Without a valid reading it stays. -/
def State.updateCalTemp (s : State) : State :=
  match s.photonicMean with
  | none => s
  | some t => if t = s.cal.temp then s else { s with cal := { s.cal with temp := t, dirty := true } }

/-- Table: Set layout: words 0 to 62 of the header. -/
def CalSet.header (x : CalSet) : List Word :=
  [toWord x.tag, BitVec.ofNat 32 x.seq, BitVec.ofNat 32 (b2n x.factory), x.time, BitVec.ofNat 32 x.skipped] ++
  List.replicate 58 0

/-- Table: Set layout: the words from byte 0x0_0100 to byte 0x0_B37F. -/
def CalSet.body (x : CalSet) : List Word :=
  ((List.range 100).flatMap fun u =>
    let a := Sparse.get (fun _ => (0x40000000, 0, 0)) x.au u
    [a.1, a.2.1, a.2.2]) ++
  List.replicate 276 0 ++
  ((List.range 10304).map fun t => Sparse.get (fun _ => 0x40000000) x.resp t) ++
  (List.range 544).map fun m => Sparse.get (fun _ => 0) x.emit m

/-- R183: an element entry is good: 72 words, the last the CRC-32C of the others. -/
def entryGood (l : List Word) : Bool := decide (l.length = 72) && decide (l.getD 71 0 = crcWords (l.take 71))

/-- R184: every CRC of a set is right: that of its header, that of the bytes 0x0_0100 to 0x0_B37F, and that of each of its
5,120 element entries. -/
def CalSet.crcGood (x : CalSet) : Bool :=
  decide (x.headCrc = crcWords x.header) && decide (x.bodyCrc = crcWords x.body) &&
  (List.range 5120).all fun e => entryGood (Sparse.get (fun _ => []) x.entries e)

/-- R183: a set as it is written: with the CRCs of its header and of its body. -/
def CalSet.sealed (x : CalSet) : CalSet := { x with headCrc := crcWords x.header, bodyCrc := crcWords x.body }

/-- R184: one set area at start-up: a set with a CRC failure becomes invalid, is counted and raises a transient fault. -/
def State.checkSet (s : State) (i : Nat) : State :=
  let x := s.calSet i
  if x.valid && !x.crcGood then
    ((s.setCalSet i { x with valid := false }).bump 0x800028 1).raise (faultCode fbCal i) 1
  else s

/-- R184: of two valid field sets within 2 °C, the one with the higher sequence number is used. -/
def State.checkPair (s : State) (i : Nat) : State :=
  let x := s.calSet i
  let beaten := (List.range 9).any fun k =>
    let y := s.calSet k
    y.valid && !y.factory && decide (k ≠ i) && decide ((y.tag - x.tag).natAbs ≤ 32) && decide (x.seq < y.seq)
  if x.valid && !x.factory && beaten then s.setCalSet i { x with valid := false } else s

/-- CALIBRATION_SET_CHECK (R184). -/
def State.checkSets (s : State) : State :=
  (List.range 9).foldl State.checkPair ((List.range 9).foldl State.checkSet s)

/-- R165: the set of the latest measurement: the valid one with the highest sequence number, the lowest area on a tie. -/
def State.latestSet (s : State) : Option Nat :=
  s.validAreas.foldl (fun b i =>
    match b with
    | none => some i
    | some k => if (s.calSet k).seq < (s.calSet i).seq then some i else some k) none

/-- R165: at start-up the quantities that do not follow temperature are taken from the latest measurement: tap
responsivities, emitter tap references and heater ranges. -/
def State.loadLatest (s : State) : State :=
  match s.latestSet with
  | none => s
  | some i =>
    let x := s.calSet i
    let s1 := { s with cal := { s.cal with resp := x.resp, emitRef := x.emit } }
    (List.range 5120).foldl (fun t e => t.setChan e { t.chan e with range1 := bit (x.word e 68) 0 }) s1

/-- R167: a full calibration is due at start-up: no valid set, or AUTO_EXTEND and CAL_TEMP too far outside the span. -/
def State.needsFull (s : State) : Bool :=
  let tags := s.validAreas.map fun i => (s.calSet i).tag
  let m : Int := (16 * clampN 1 255 (s.rdFld Reg.CAL_CTRL 15 8) : Nat)
  tags.isEmpty ||
  (s.rdBit Reg.CAL_CTRL 1 &&
    (tags.all (fun t => decide (m < t - s.cal.temp)) || tags.all fun t => decide (m < s.cal.temp - t)))

/-! ### Stores (R183 to R186) -/

/-- R183: the entry that a store writes for an element from the values in use. -/
def State.entryOf (s : State) (e : Nat) : List Word :=
  let c := s.calElem e
  let x := s.elem s.actCtl e
  let parked := s.isParked e
  let skipped := s.cal.skip.contains e
  let ws := ((List.range 65).map fun k => BitVec.ofNat 32 (c.lin.getD k 0 % 2 ^ 26)) ++
    [BitVec.ofInt 32 (c.offset % 2 ^ 20), BitVec.ofNat 32 (x.levBar.toNat + x.levCross.toNat * 65536),
     BitVec.ofNat 32 c.lcUse,
     BitVec.ofNat 32 (b2n (s.chan e).range1 + 2 * b2n (!parked && !skipped) + 4 * b2n parked + 8 * b2n skipped), 0, 0]
  ws ++ [crcWords ws]

/-- The sequence number above those of all valid sets. -/
def State.nextSetSeq (s : State) : Nat := 1 + (s.validAreas.map fun i => (s.calSet i).seq).foldl max 0

/-- R186: the contents of a set with a tag, from the values in use. -/
def State.captureSet (s : State) (tag : Int) : CalSet :=
  { valid := false, factory := false, tag := tag, seq := s.nextSetSeq
    time := s.tim.dt.sec.setWidth 32
    skipped := s.cal.skip.length
    au := s.cal.aus.map fun x => (x.1, (x.2.gain, x.2.offset, x.2.ref104))
    resp := s.cal.resp
    emit := s.cal.emitRef
    entries := (List.range 5120).map fun e => (e, s.entryOf e) }

/-- R186: the valid field set within 2 °C of a tag. -/
def State.nearSet (s : State) (tag : Int) : Option Nat :=
  s.validAreas.find? fun i => !(s.calSet i).factory && decide (((s.calSet i).tag - tag).natAbs ≤ 32)

/-- R186: the valid field set that REPLACE names. -/
def State.namedSet (s : State) : Option Nat :=
  let i := s.rdFld Reg.CAL_CMD 6 3
  if i < 9 ∧ (s.calSet i).valid = true ∧ (s.calSet i).factory = false then some i else none

/-- R186: the set that a store with a tag replaces: a field set within 2 °C, or with 8 sets valid the one that REPLACE
names. -/
def State.replaced (s : State) (tag : Int) : Option Nat :=
  (s.nearSet tag).orElse fun _ => if 8 ≤ s.validAreas.length then s.namedSet else none

/-- R183, R186: a free area, where a store with a tag has room; the lowest. -/
def State.storeArea (s : State) (tag : Int) : Option Nat :=
  if s.validAreas.length < 8 ∨ (s.replaced tag).isSome = true then (List.range 9).find? fun i => !(s.calSet i).valid
  else none

/-- R183, R185, R186: begin a store into the free area. Without a place it is refused with REFUSED_FULL. -/
def State.beginStore (s : State) (service : Bool) (x : CalSet) : State :=
  match s.storeArea x.tag with
  | some f =>
    { s with cal := { s.cal with
        storing := some (Fin.ofNat 9 f, x.sealed), storeOld := (s.replaced x.tag).map (Fin.ofNat 9)
        storeService := service, storeWait := !s.thm.nvmOk } }
  | none => (s.wrBit Reg.CAL_CMD 9 true).irqIf Reg.CAL_CTRL 3 8

/-- The refusal bits of a STORE (R186). -/
def State.storeRefusals (s : State) : List Nat :=
  (if s.glb.state = .service ∨ s.glb.state = .quiesced then [] else [8]) ++
  (if (s.storeArea s.cal.temp).isNone then [9] else []) ++ (if s.cal.storing.isSome then [10] else [])

/-- CAL_CMD.STORE (R186): from SERVICE or QUIESCED, while no store is in progress; a refused one sets every refusal bit that
applies (R628). -/
def State.calStoreBit (s : State) : State :=
  match s.storeRefusals with
  | [] => s.beginStore true (s.captureSet s.cal.temp)
  | bs => (bs.foldl (fun t b => t.wrBit Reg.CAL_CMD b true) s).irqIf Reg.CAL_CTRL 3 8

/-- CAL_CMD.DELETE. The sets used change, so the values in use follow at the next sample boundary (R181, R112). -/
def State.calDeleteBit (s : State) : State :=
  let s1 := if s.cal.storing.isSome then s.wrBit Reg.CAL_CMD 10 true else s
  match s.namedSet with
  | none => s1.wrBit Reg.CAL_CMD 11 true
  | some i =>
    if s.cal.storing.isSome then s1
    else
      let s2 := s1.setCalSet i { s1.calSet i with valid := false }
      { s2 with cal := { s2.cal with dirty := true } }

/-- STORE_COMPLETE (R185, R186): the header is written; the set becomes valid, the one it replaces invalid, and LC_ADJ
becomes 0 for a store from service. The values in use follow the new sets at the next sample boundary (R112). A store
that waited begins. -/
def State.storeComplete (s : State) : State :=
  match s.cal.storing with
  | none => s
  | some (f, x) =>
    if s.cal.storeWait then s
    else
      let s1 := match s.cal.storeOld with
        | some o => s.setCalSet o { s.calSet o with valid := false }
        | none => s
      let s2 := s1.setCalSet f { x with valid := true }
      let zero (c : CalElem) : CalElem := { c with lcAdj := 0 }
      let s3 := { s2 with cal := { s2.cal with
        storing := none, storeOld := none, storeNext := none, dirty := true
        elems := if s.cal.storeService then Sparse.mapVals (fun _ => {}) zero s2.cal.elems else s2.cal.elems } }
      let s4 := s3.irqIf Reg.CAL_CTRL 3 8
      match s.cal.storeNext with
      | some y => s4.beginStore false { y with seq := s4.nextSetSeq }
      | none => s4

/-! ### ADC units (R164) -/

/-- R164: GAIN, OFFSET and the input-104 reference of a unit from sums of 4,096 codes. Without a span between the inputs
the spec states no GAIN, and it is a free value. -/
def State.calAdc (s : State) (m : AdcMeas) : State :=
  let d : Int := (m.sum104 : Int) - m.sum106
  let f := s.free
  let gain : Word := if 0 < d then BitVec.ofInt 32 (roundQ (73728 * 2 ^ 42) (10 * d)) else f.1
  let g : Int := gain.toNat
  let off := roundQ (1179648 * 2 ^ 38 - 10 * g * m.sum106) (10 * 2 ^ 38)
  let ref := roundQ (g * m.sum104 + off * 2 ^ 38) (2 ^ 38)
  let s1 := if 0 < d then s else f.2
  let new : AuCal := { gain := gain, offset := toWord off, ref104 := toWord ref }
  { s1 with cal := { s1.cal with aus := Sparse.set (fun _ => {}) s1.cal.aus m.unit new } }

end Sys2Proof.Machine
end

