-- ==== Sys2Proof/Machine/FullCal.lean ====
section
/-! DEFINITION. Full calibration (R166 to R173). At each sample boundary in CALIBRATING Diopter takes the measurement of the
point whose outputs are in force and sets the outputs of the next one; the points of a step run stage by stage and part by
part. What the spec leaves open of the order within a step and of the arithmetic is in assumptions 123 to 126. -/

namespace Sys2Proof.Machine

open Sys2Proof

/-! ### Stages, parts and points -/

/-- The selectors. -/
def selectorElems : List Nat := (List.range 512).map fun i => 4608 + i

/-- The elements of a stage; stage 18 is all selectors. -/
def stageElems (k : Nat) : List Nat :=
  if k = 18 then selectorElems else (List.range 256).map fun r => 256 * k + r

/-- The row of an element in its stage; of a selector, in its bank. -/
def rowOf (e : Nat) : Nat := if e < 4608 then e % 256 else (e - 4608) % 16

/-- The elements of a stage that a full calibration measures: neither parked nor skipped (R168, R176). -/
def State.calElems (s : State) (k : Nat) : List Nat :=
  (stageElems k).filter fun e => !s.isParked e && !s.cal.skip.contains e

/-- The points of a part: 0 to 2 the heater sweeps of even, odd and again even rows (R171); 3 and 4 the coarse and fine
search of LEVEL_CROSS, 5 that of LEVEL_BAR (R173); 6 the emitter steps of R166; 7 the emitter references. -/
def partPoints : Nat → Nat
  | 0 | 1 | 2 => 1024
  | 3 => 256
  | 4 | 5 => 65
  | 6 => 4
  | _ => 1

/-- The first stage of a step and its first part. -/
def stepStart : Nat → Nat × Nat
  | 2 => (0, 7)
  | 3 => (18, 0)
  | 4 => (18, 6)
  | 6 => (0, 3)
  | _ => (0, 0)

/-- What follows a part in a step: the next stage and part, or none at the end of the step. -/
def partNext (step stage part : Nat) : Option (Nat × Nat) :=
  match step, part with
  | 3, 5 => none
  | 3, p => some (18, p + 1)
  | 4, _ => if stage = 17 then none else some (if stage = 18 then 0 else stage + 1, 6)
  | 5, 2 => if stage = 17 then none else some (stage + 1, 0)
  | 5, p => some (stage, p + 1)
  | 6, 5 => if stage = 17 then none else some (stage + 1, 3)
  | 6, p => some (stage, p + 1)
  | _, _ => none

/-- The elements that a part measures. -/
def State.partElems (s : State) : List Nat :=
  let es := s.calElems s.cal.fStage
  match s.cal.part with
  | 0 | 2 => es.filter fun e => decide (rowOf e % 2 = 0)
  | 1 => es.filter fun e => decide (rowOf e % 2 = 1)
  | _ => es

/-- What the part under way has measured of an element. -/
def State.measOf (s : State) (e : Nat) : List Int := Sparse.get (fun _ => []) s.cal.meas e

/-- Replace what the part under way has measured of an element. -/
def State.setMeas (s : State) (e : Nat) (l : List Int) : State :=
  { s with cal := { s.cal with meas := Sparse.set (fun _ => []) s.cal.meas e l } }

/-! ### Arithmetic -/

/-- A quotient in Q2.30; by zero a free value (assumption 126). -/
def ratioQ30 (num den : Int) : Int := if den = 0 then Config.overZero num else roundQ (num * 1073741824) den

/-- R172: r = (A − B)/(P1 − P2). -/
def Reading.ratio (r : Reading) : Int := ratioQ30 (r.a - r.b) (r.p1 - r.p2)

/-- The cosine of a phase in pu, in Q2.30. -/
def cosPu (p : Nat) : Int := fxQ30 (fxCos (2 * fxPi * p / 1048576))

/-- The largest phase of at most half a turn, from p on, whose cosine is still r or more. -/
def acosFrom (r : Int) (p : Nat) : Nat → Nat
  | 0 => p
  | k + 1 => if p + 2 ^ k ≤ 524288 ∧ r ≤ cosPu (p + 2 ^ k) then acosFrom r (p + 2 ^ k) k else acosFrom r p k

/-- The phase of 0 to half a turn, in pu, that a ratio shows. -/
def acosPu (r : Int) : Nat := acosFrom (clampI (-1073741824) 1073741824 r) 0 20

/-- The first of the phases a and −a, in any turn, that is not below the one before. -/
def unwrapNext (prev : Int) (a : Nat) : Int :=
  let turn : Int := 1048576
  min (turn * (-((a - prev) / turn)) + a) (turn * (-((-(a : Int) - prev) / turn)) - a)

/-- The rising phases of successive ratios. -/
def unwrapFrom (prev : Int) : List Int → List Int
  | [] => []
  | r :: t => unwrapNext prev (acosPu r) :: unwrapFrom (unwrapNext prev (acosPu r)) t

/-- R172: the unwrapped heater phase of each point of a sweep, 0 at the first (assumption 124). -/
def unwrap : List Int → List Nat
  | [] => []
  | r :: t =>
    let a : Int := (acosPu r : Nat)
    let p0 := if decide (t.head? ≠ none) && decide (r < t.headD r) then -a else a
    0 :: (unwrapFrom p0 t).map fun p => (p - p0).toNat

/-- R171: the heater code of point i of a sweep: 1,024 codes of range 1, evenly spaced in heater power. -/
def sweepCode (i : Nat) : BitVec 24 := BitVec.ofNat 24 (isqrt (i * (16777215 * 16777215) / 1023))

/-- One point of a heater sweep (R172): the current in range-0 code units, the unwrapped phase in pu, and the ratio. -/
structure SweepPoint where
  current : Nat
  phase : Nat
  ratio : Int
  deriving DecidableEq, Repr

/-- The points of a sweep, from its ratios in order. -/
def sweepPoints (rs : List Int) : List SweepPoint :=
  ((unwrap rs).zip rs).zipIdx.map fun x => { current := 4 * (sweepCode x.2).toNat, phase := x.1.1, ratio := x.1.2 }

/-- R172: the current at a heater phase, between the sweep points that enclose it; none where the sweep ends before. -/
def sweepAt (x : Nat) : List SweepPoint → Option Nat
  | p :: q :: t =>
    if p.phase ≤ x ∧ x ≤ q.phase then
      if q.phase = p.phase then some p.current
      else some ((p.current : Int) + roundQ (((q.current : Int) - p.current) * ((x : Int) - p.phase))
        ((q.phase : Int) - p.phase)).toNat
    else sweepAt x (q :: t)
  | _ => none

/-- R172: the 65 entries of LIN; none for an element that does not reach a full turn. -/
def sweepLin (ps : List SweepPoint) : Option (List Nat) := (List.range 65).mapM fun i => sweepAt (16384 * i) ps

/-- R172: the point of largest r within the first turn. -/
def sweepBest (ps : List SweepPoint) : Option SweepPoint :=
  match ps.filter fun p => decide (p.phase < 1048576) with
  | [] => none
  | p :: t => some (t.foldl (fun b q => if b.ratio < q.ratio then q else b) p)

/-- The place of the best response in a search, the first on a tie (R173). -/
def bestAt (better : Int → Int → Bool) (l : List Int) : Nat :=
  (l.zipIdx.foldl (fun (b : Int × Nat) x => if better x.1 b.1 then x else b) (l.headD 0, 0)).2

/-! ### Outputs (R168, R171) -/

/-- The heater code that Diopter sets. -/
def State.driveHeater (s : State) (e : Nat) (code : BitVec 24) : State :=
  let s1 := s.modElem e fun x => { x with heater := code }
  s1.setChan e { s1.chan e with latest := code, latestSb := code, unwritten := false }

/-- The level codes that Diopter sets (R140). -/
def State.driveLevels (s : State) (e : Nat) (bar cross : BitVec 14) : State :=
  s.setChan e { s.chan e with levBar := bar, tgtBar := bar, sbBar := bar, levCross := cross, tgtCross := cross, sbCross := cross }

/-- R22: the input line of a stage that the light of MODk reaches while every element is BAR. -/
def lineAt : Nat → Nat → Nat
  | 0, k => k
  | s + 1, k => stageLink s (lineAt s k)

/-- R171: how far below nominal an emitter is while stage k is swept: 3 dB where its light reaches an odd-numbered line; for
the selectors the spare, whose light reaches the lower inputs (assumption 125). -/
def sweepDb (k n i : Nat) : Nat :=
  if k = 18 then (if i = 16 then 3 else 0) else if i < 16 ∧ lineAt k (16 * n + i) % 2 = 1 then 3 else 0

/-- Every emitter that is up at a level below nominal. -/
def State.setEmitters (s : State) (dB : Nat → Nat → Nat) : State :=
  (List.range 544).foldl (fun s x =>
    let m := s.emitter (x / 17) (x % 17)
    if m.up && !m.failed && !(s.bank (x / 17)).unlit then
      s.setEmitter (x / 17) (x % 17) { m with on := true, dB := dB (x / 17) (x % 17) }
    else s) s

/-- The emitters of a point. -/
def State.pointEmitters (s : State) : State :=
  match s.cal.part with
  | 6 => s.setEmitters fun _ _ => s.cal.point % 2
  | 7 => s.setEmitters fun _ _ => 0
  | _ => s.setEmitters (sweepDb s.cal.fStage)

/-- The selects of a point: BAR, but for a search or a step in CROSS. -/
def State.pointSelects (s : State) : State :=
  let s1 := { s with drv := { s.drv with sel := 0 } }
  if s.cal.part = 3 ∨ s.cal.part = 4 ∨ (s.cal.part = 6 ∧ 2 ≤ s.cal.point) then
    (s.calElems s.cal.fStage).foldl (fun t e => t.setSelector e true) s1
  else s1

/-- A code of a search about a base. -/
def nearCode (base : Int) (i : Nat) : BitVec 14 := BitVec.ofInt 14 (clampI 0 16383 (base - 32 + i))

/-- R171, R173: the heater or level code of one element at a point. -/
def State.drivePoint (s : State) (e : Nat) : State :=
  let c := s.chan e
  let i := s.cal.point
  match s.cal.part with
  | 0 | 1 | 2 => (s.driveHeater e (sweepCode i)).driveLevels e 0x2000 c.levCross
  | 3 => s.driveLevels e c.levBar (BitVec.ofNat 14 (64 * i))
  | 4 => s.driveLevels e c.levBar (nearCode ((s.measOf e).getLastD 0) i)
  | 5 => s.driveLevels e (nearCode 0x2000 i) (BitVec.ofInt 14 ((s.measOf e).getLastD 0))
  | _ => s

/-- R171: odd rows stand at code 0 while even rows are swept first. -/
def State.clearOdd (s : State) : State :=
  if s.cal.part = 0 ∧ s.cal.point = 0 then
    ((s.calElems s.cal.fStage).filter fun e => decide (rowOf e % 2 = 1)).foldl (fun t e => t.driveHeater e 0) s
  else s

/-- The outputs of the point under way are set. -/
def State.setPoint (s : State) : State :=
  let s1 := s.pointEmitters.pointSelects.clearOdd
  let s2 := s1.partElems.foldl State.drivePoint s1
  { s2 with cal := { s2.cal with since := s2.loopS.bnd + 1 } }

/-! ### Measurements -/

/-- The capture of this sample, once every unit has finished its window. -/
def State.doneCap (s : State) : Option Capture :=
  if (List.range 100).any s.converting then none else s.loopS.capCur

/-- The capture that shows the point under way: one taken since its outputs stand, once its conversions are done. -/
def State.pointCap (s : State) : Option Capture :=
  match s.loopS.capPrev with
  | some cap => if s.cal.since + 1 ≤ s.loopS.bnd then some cap else s.doneCap
  | none => s.doneCap

/-- A tap reading corrected by its unit's gain and offset, in 2^−30 of a unit (R164). -/
def State.tapRaw (s : State) (cap : Capture) (t : Nat) : Int :=
  let r := cap.tap t
  let c := s.auCal (if r.byPartner then partner (tapUnit t) else tapUnit t)
  (c.gain.toNat : Int) * r.value + sgn c.offset * 2 ^ 28

/-- The taps A and B of an element (R23, R622); only the first selector of a bank has a tap B. -/
def outTaps (e : Nat) : Nat × Option Nat :=
  if e < 4608 then (2 * e, some (2 * e + 1))
  else (modTap (e - 4608), if (e - 4608) % 16 = 0 then some (dumpTap ((e - 4608) / 16)) else none)

/-- What one capture shows of an element: r, or for R166 the responses of its output taps and P1. -/
def State.pointValues (s : State) (cap : Capture) (e : Nat) : List Int :=
  let r := s.readingOf cap e
  if s.cal.part = 6 then
    [s.tapRaw cap (outTaps e).1, ((outTaps e).2.map fun t => s.tapRaw cap t).getD 0, r.p1]
  else [r.ratio]

/-- R176: an element is skipped: it is counted, its values stay, and in a full calibration without previous values it raises
a lasting fault. -/
def State.skipElem (s : State) (full : Bool) (e : Nat) : State :=
  if s.cal.skip.contains e then s
  else
    let s1 := ({ s with cal := { s.cal with skip := s.cal.skip ++ [e] } }).bump 0x800020 1
    if full then
      let old := Sparse.get (fun _ => {}) s.cal.prev e
      let s2 := s1.setCalElem e { old with linUse := linInRange (s1.chan e).range1 old.lin }
      if old.lin.isEmpty then s2.raise (elemCode e) 2 else s2
    else s1

/-- R166: the responsivities of an element's output taps, from its twelve values, newest first: A and B in CROSS and in BAR
at the two emitter powers, with P1. -/
def State.applyResp (s : State) (e : Nat) : State :=
  match s.measOf e with
  | [_, b3, _, _, b2, _, a1, _, p1, a0, _, p0] =>
    let quot (n d : Int) : Word := toWord (if d = 0 then Config.overZero n else roundQ n d)
    let respA := quot ((a0 - a1) * 1073741824) (0x3DD3BE4A * (p0 - p1))
    let put (m : Sparse Word) (t : Nat) (w : Word) : Sparse Word := Sparse.set (fun _ => 0x40000000) m t w
    let m1 := put s.cal.resp (outTaps e).1 respA
    let m2 := match (outTaps e).2 with
      | none => m1
      | some t => put m1 t (quot (respA.toNat * (b2 - b3)) (a0 - a1))
    { s with cal := { s.cal with resp := m2 } }
  | _ => s

/-- R44, R165: the emitter tap references, of the emitters whose reading is valid. -/
def State.applyRefs (s : State) (cap : Capture) : State :=
  (List.range 544).foldl (fun t x =>
    let r := cap.tap (9216 + x)
    if r.valid && (s.emitter (x / 17) (x % 17)).on then
      { t with cal := { t.cal with emitRef := Sparse.set (fun _ => 0) t.cal.emitRef x (toWord (s.tapValue (9216 + x) r (2 ^ 60))) } }
    else t) s

/-- R172: the values that a final sweep sets for one element, whose heater then stands at CAL_OFFSET (R173). -/
def State.applySweep (s : State) (e : Nat) : State :=
  let ps := sweepPoints (s.measOf e).reverse
  match sweepLin ps, sweepBest ps with
  | some lin, some b =>
    let use := linInRange (s.chan e).range1 lin
    let s1 := s.setCalElem e { s.calElem e with lin := lin, linUse := use, linPend := false, offset := (b.phase : Int) }
    s1.driveHeater e (BitVec.ofInt 24 (clampI 0 16777215 (ffOf use b.phase)))
  | _, _ => s.skipElem true e

/-- R171: even rows stand at the BAR points just found while odd rows are swept. -/
def State.holdBest (s : State) (e : Nat) : State :=
  match sweepBest (sweepPoints (s.measOf e).reverse) with
  | some b => s.driveHeater e (BitVec.ofNat 24 (b.current / 4))
  | none => s

/-- R172: the range of an element whose LIN fits range 0 is set to 0. -/
def State.settleRange (s : State) (e : Nat) : State :=
  let c := s.calElem e
  if c.lin.getD 64 0 ≤ 0xFFFFFF then (s.setCalElem e { c with linPend := (s.chan e).range1 }).beginRange e false else s

/-- R173: the level codes found for one element, in use. -/
def State.applyLevels (s : State) (e : Nat) (bar cross : BitVec 14) : State :=
  let s1 := s.modElem e fun y => { y with levBar := bar, levCross := cross }
  (s1.setCalElem e { s1.calElem e with levBar := (bar.toNat : Int), levCross := (cross.toNat : Int) }).driveLevels e bar cross

/-- The ratios of a fine search, oldest first: the base of the search stands before them. -/
def fineRatios (l : List Int) : List Int := l.dropLast.reverse

/-- What the end of a part sets for one element. -/
def State.endElem (s : State) (e : Nat) : State :=
  let l := s.measOf e
  match s.cal.part with
  | 0 => s.holdBest e
  | 1 | 2 => s.applySweep e
  | 3 => s.setMeas e [(64 * bestAt (fun a b => decide (a < b)) l.reverse : Nat)]
  | 4 =>
    let i := bestAt (fun a b => decide (a < b)) (fineRatios l)
    s.setMeas e [((nearCode (l.getLastD 0) i).toNat : Int)]
  | 5 =>
    let i := bestAt (fun a b => decide (b < a)) (fineRatios l)
    s.applyLevels e (nearCode 0x2000 i) (BitVec.ofInt 14 (l.getLastD 0))
  | 6 => s.applyResp e
  | _ => s

/-! ### The course of a step (R169) -/

/-- A part begins: sweeps need range 1 (R171). The results that the next search starts from stay. -/
def State.beginPart (s : State) (stage part : Nat) : State :=
  let keep := decide (part = 4 ∨ part = 5)
  let s1 := { s with cal := { s.cal with
    fStage := stage, part := part, point := 0, reps := 0, since := 0, meas := if keep then s.cal.meas else [] } }
  if part = 0 then (s1.calElems stage).foldl (fun t e => t.beginRange e true) s1 else s1

/-- The end of a part: its results, and what follows it. -/
def State.endPart (s : State) : State :=
  let s1 := s.partElems.foldl State.endElem s
  let s2 := if s.cal.part = 2 then (s1.calElems s1.cal.fStage).foldl State.settleRange s1 else s1
  match partNext s.cal.step.val s.cal.fStage s.cal.part with
  | some q => s2.beginPart q.1 q.2
  | none => { s2 with cal := { s2.cal with stepDone := true, meas := [] } }

/-- The next point, or the end of the part. -/
def State.nextPoint (s : State) : State :=
  if s.cal.point + 1 < partPoints s.cal.part then
    { s with cal := { s.cal with point := s.cal.point + 1, reps := 0, since := 0 } }
  else s.endPart

/-- The elements of a point whose reading is not valid; for the references, the emitters. -/
def State.pointMisses (s : State) (cap : Capture) : List Nat :=
  if s.cal.part = 7 then
    (List.range 544).filter fun x => (s.emitter (x / 17) (x % 17)).on && !(cap.tap (9216 + x)).valid
  else s.partElems.filter fun e => !(s.readingOf cap e).valid

/-- A capture of the point under way: a reading that is invalid repeats the point, and after 4 repetitions its element is
skipped (R176). -/
def State.measureTaps (s : State) (cap : Capture) : State :=
  let miss := s.pointMisses cap
  if miss ≠ [] ∧ s.cal.reps < 4 then { s with cal := { s.cal with reps := s.cal.reps + 1, since := s.loopS.bnd + 1 } }
  else if s.cal.part = 7 then (s.applyRefs cap).nextPoint
  else
    let s1 := miss.foldl (fun t e => t.skipElem true e) s
    (s1.partElems.foldl (fun t e => t.setMeas e (s.pointValues cap e ++ t.measOf e)) s1).nextPoint

/-- A heater range change is in progress. -/
def State.rangesMove (s : State) : Bool := s.drv.chans.any fun x => decide (x.2.phase ≠ .idle)

/-- Full calibration measures: a step after the first is under way, and nothing holds the outputs. -/
def State.fullRuns (s : State) : Bool :=
  decide (s.glb.state = .calibrating) && s.cal.fullBusy && !s.cal.stepDone && decide (2 ≤ s.cal.step.val) &&
  !s.codesHeld && !s.rangesMove

/-- A sample boundary of full calibration. -/
def State.fullSample (s : State) : State :=
  if s.fullRuns then
    let s1 := if s.cal.since = 0 then s else
      match s.pointCap with
      | none => s
      | some cap => s.measureTaps cap
    if s1.cal.since = 0 && s1.fullRuns then s1.setPoint else s1
  else s

/-- R166: every unskipped, unparked element's LC is 10^(−0.015), with LC_ADJ 0. -/
def State.applyLc (s : State) : State :=
  (List.range 5120).foldl (fun s e =>
    if s.isParked e || s.cal.skip.contains e then s else s.setCalElem e { s.calElem e with lc := 0x3DD3BE4A, lcAdj := 0 }) s

/-- All emitters at nominal, unused spares as SPARE_WARM says, selects BAR. -/
def State.restoreLight (s : State) : State :=
  let s1 := s.setEmitters fun _ _ => 0
  let s2 := (List.range 32).foldl State.warmSpare s1
  { s2 with drv := { s2.drv with sel := 0 } }

/-- A step begins. Step 7 has no measurement of its own: LC is the constant of R166. -/
def State.beginStep (s : State) (n : Nat) : State :=
  let s1 := { s with cal := { s.cal with step := Fin.ofNat 8 n, stepDone := false } }
  if n = 7 then
    let s2 := s1.applyLc.restoreLight
    { s2 with cal := { s2.cal with stepDone := true } }
  else s1.beginPart (stepStart n).1 (stepStart n).2

/-- FULL_CALIBRATION_STEP (R169): the step under way is done, and the next begins. Step 1 is that of the ADC units (R164);
the tag of the set is CAL_TEMP at the end of step 5 (R180). -/
def State.fullStep (s : State) (adc : List AdcMeas) : State :=
  if s.cal.fullBusy then
    if s.cal.step.val = 1 then (adc.foldl State.calAdc s).beginStep 2
    else if s.cal.stepDone ∧ 2 ≤ s.cal.step.val ∧ s.cal.step.val ≤ 6 then
      let s1 := if s.cal.step.val = 5 then { s with cal := { s.cal with fullTag := s.cal.temp } } else s
      s1.beginStep (s.cal.step.val + 1)
    else s
  else s

/-- CALIBRATING begins: Diopter owns the outputs, the selects are BAR, Prism does not run (R168). -/
def State.beginFull (s : State) : State :=
  let s1 := ((s.setGState .calibrating).stopPrism).closePorts
  { s1 with
    cal := { s1.cal with fullBusy := true, step := 1, stepDone := false, skip := [], stage := 0, trial := 0, reps := 0
                         trials := [], named := false, applyAt := none, meas := [], prev := s1.cal.elems }
    drv := { s1.drv with sel := 0 }
    loopS := { s1.loopS with running := false, calStale := [] } }

/-- CAL_CMD.START_FULL (R167). -/
def State.startFullBit (s : State) : State :=
  if s.glb.state = .quiesced ∧ s.photonicThrottle = false then
    let s1 := s.beginFull
    { s1 with glb := { s1.glb with calReturn := true } }
  else s.wrBit Reg.CAL_CMD 8 true

/-- FULL_CALIBRATION_DONE (R170, R186): after step 7 the new set is stored in the background, and LOCKING follows. What was
measured is in use (R187), so no interpolation is due. -/
def State.fullDone (s : State) : State :=
  if s.cal.fullBusy ∧ s.cal.step.val = 7 ∧ s.cal.stepDone then
    let x := s.captureSet s.cal.fullTag
    let s1 := { s with cal := { s.cal with fullBusy := false, step := 0, stepDone := false, dirty := false, prev := [] } }
    let s2 := if s1.cal.storing.isSome then { s1 with cal := { s1.cal with storeNext := some x } }
      else s1.beginStore false x
    (s2.stepEnd 8).enterLocking
  else s

end Sys2Proof.Machine
end

