-- ==== Sys2Proof/Machine/Diopter.lean ====
section
/-! DEFINITION. Diopter (05_diopter_calibration.md): service passes (R174 to R179), and the commands of CAL_CMD and
CAL_SET_READ. -/

namespace Sys2Proof.Machine

open Sys2Proof

/-! ### Service passes (R174 to R179) -/

/-- The trial slots of a stage (R174). -/
def stageTrials (k : Nat) : Nat := if k = 18 then 9 else 18

/-- R174: a trial's offset from the in-use code. -/
def trialOffset (t : Nat) : Int := -64 + 16 * ((t % 9 : Nat) : Int)

/-- R177: an element takes part in a stage. -/
def State.takesPart (s : State) (e : Nat) : Bool :=
  !s.isParked e && decide ((s.chan e).phase = .idle) && decide ((s.chan e).staleLeft = 0)

/-- R174: service passes run. -/
def State.passRuns (s : State) : Bool :=
  s.rdBit Reg.CAL_CTRL 0 && decide (s.glb.state = .service) && s.active?.isSome && s.red.gapEnd.isNone

/-- The sample number that stands for STALE without an end yet (R177). -/
def noEnd : Nat := 2 ^ 64

/-- A stage ends, or is abandoned: its elements are STALE until a sample. -/
def State.endStale (s : State) (at_ : Nat) : State :=
  { s with loopS := { s.loopS with calStale := s.loopS.calStale.map fun x => (x.1, at_) } }

/-- R179: the stage under trial is abandoned and starts again from its first trial. -/
def State.abandonStage (s : State) : State :=
  if s.cal.named then
    let s1 := s.endStale (s.loopS.sample + 2)
    { s1 with cal := { s1.cal with named := false, trial := 0, reps := 0, trials := [], applyAt := none }
              slt := { s1.slt with claims := [] } }
  else s

/-- CAL_STAGE_NAMED (R177), at a sample boundary: every unparked element of the stage is STALE. A stage whose pass may no
longer run is abandoned (DESIGN CHOICE,
assumption 42). -/
def State.nameStage (s : State) : State :=
  if s.cal.named then (if s.passRuns || s.cal.applyAt.isSome then s else s.abandonStage)
  else if s.passRuns then
    let es := (stageElems s.cal.stage).filter fun e => !s.isParked e
    { s with
      cal := { s.cal with named := true, trial := 0, reps := 0, trials := [], applyAt := none
                          skip := if s.cal.stage = 0 then [] else s.cal.skip }
      loopS := { s.loopS with calStale := es.map fun e => (e, noEnd) } }
  else s

/-- Trials are still to be made in the stage under trial. -/
def State.trialsLeft (s : State) : Nat :=
  if s.cal.named && s.cal.applyAt.isNone then stageTrials s.cal.stage - s.cal.trial else 0

/-- R175: a trial slot is in progress. -/
def State.inTrial (s : State) : Bool :=
  s.slt.running && decide (s.slt.cur.kind = 3) && s.slt.claims.contains s.slt.cur.slot && decide (0 < s.trialsLeft)

/-- R175: the elements under trial: all unparked ones of the stage. -/
def State.trialElems (s : State) : List Nat := (s.loopS.calStale.map fun x => x.1).filter fun e => !s.isParked e

/-- The readings of a trial capture: the taps that its conversions show (R146, R151). -/
def State.convertAll (s : State) (taps : List (Fin 10304 × TapCodes)) (cap : Capture) : Capture × State :=
  taps.foldl (fun x t =>
    let r := x.2.convertTap t.1.val t.2
    ({ x.1 with readings := Sparse.put x.1.readings t.1.val r.1 }, r.2)) (cap, s)

/-- One measurement of a trial: the element's ratio, and its transmission for LC (R178). -/
def State.trialResult (s : State) (cap : Capture) (e : Nat) : Nat × Int × Word :=
  let r := s.readingOf cap e
  (e, r.ratio, toWord (ratioQ30 (r.a + r.b) (r.p1 + r.p2)))

/-- R176: no measurement: the capture falls between a loop capture and the end of its conversions, or the safe state is in
force. -/
def State.trialVoid (s : State) : Bool := (List.range 100).any s.converting || s.flt.safe

/-- The results of a trial: for the elements that take part and have not been skipped, those whose reading is valid. -/
def State.trialGood (s : State) (cap : Capture) : List (Nat × Int × Word) :=
  (s.trialElems.filter fun e => s.takesPart e && !s.cal.skip.contains e && (s.readingOf cap e).valid).map (s.trialResult cap)

/-- A trial with its results: while one lacks, it is repeated; after 4 repetitions the elements without a valid reading are
skipped for the pass (R176). -/
def State.trialRecord (s : State) (good : List (Nat × Int × Word)) : State :=
  let miss := s.trialElems.filter fun e =>
    s.takesPart e && !s.cal.skip.contains e && good.all fun r => decide (r.1 ≠ e)
  if miss ≠ [] ∧ s.cal.reps < 4 then { s with cal := { s.cal with reps := s.cal.reps + 1 } }
  else
    let s1 := miss.foldl (fun s e => s.skipElem false e) s
    { s1 with cal := { s1.cal with
        trials := s1.cal.trials ++ [{ trial := s1.cal.trial, results := good }], trial := s1.cal.trial + 1, reps := 0 } }

/-- TRIAL_CAPTURE (R175, R176): Diopter's capture in a trial slot, with the codes of its conversions and of the ADC
averages. -/
def State.trialCapture (s : State) (taps : List (Fin 10304 × TapCodes)) (adc : List AdcMeas) : State :=
  if s.inTrial then
    let s0 := { s with slt := { s.slt with claims := s.slt.claims.filter fun n => decide (n ≠ s.slt.cur.slot) } }
    if s.trialVoid then s0.trialRecord []
    else
      let s1 := adc.foldl State.calAdc s0
      let x := s1.convertAll taps { sample := s.loopS.sample, exc := s.loopS.excOn, sel := s.drv.sel, readings := [] }
      x.2.trialRecord (x.2.trialGood x.1)
  else s

/-- R177: the stage's last trial slot has ended. -/
def State.trialsEnd (s : State) : State :=
  if s.cal.named ∧ s.cal.applyAt = none ∧ stageTrials s.cal.stage ≤ s.cal.trial then
    let a := s.loopS.sample + 2
    let s1 := s.endStale a
    { s1 with cal := { s1.cal with applyAt := some a } }
  else s

/-- The results of an element in nine trials of a stage, BAR from trial 0 or CROSS from trial 9: offset −4 to 4 (in 16
codes) and ratio. -/
def CalSt.nine (c : CalSt) (base e : Nat) : List (Int × Int) :=
  c.trials.filterMap fun t =>
    if base ≤ t.trial ∧ t.trial < base + 9 then
      (t.results.find? fun r => decide (r.1 = e)).map fun r => (((t.trial - base : Nat) : Int) - 4, r.2.1)
    else none

/-- A quotient rounded to nearest; the spec names no rule for ties. -/
def nearest (a b : Int) : Int :=
  let q := a / b
  let r := 2 * (a - q * b)
  if r < b then q else if b < r then q + 1 else if Config.roundUp a b then q + 1 else q

/-- R178: the offset of the minimum of the parabola through nine crosstalk values, with D = 9Σx²y − 60Σy for y = −|r|; a
parabola without a minimum states no result, and its offset is a free value. -/
def fitOffset (free : Word) (xs : List (Int × Int)) : Int :=
  let y (p : Int × Int) : Int := -(p.2.natAbs : Int)
  let d := 9 * (xs.map fun p => p.1 * p.1 * y p).sum - 60 * (xs.map y).sum
  let n := (xs.map fun p => p.1 * y p).sum
  clampI (-64) 64 (if 0 < d then nearest (-1848 * n) (5 * d) else sgn free)

/-- A level DAC moves toward its target by at most 64 codes (R139). -/
def dacMove (l t : BitVec 14) : BitVec 14 :=
  BitVec.ofInt 14 ((l.toNat : Int) + clampI (-64) 64 ((t.toNat : Int) - l.toNat))

/-- R177, R178: an element is fitted that took part in every trial of its stage. -/
def State.fitted (s : State) (e : Nat) : Bool :=
  !s.cal.skip.contains e && decide ((s.cal.nine 0 e).length = 9) &&
  (decide (s.cal.stage = 18) || decide ((s.cal.nine 9 e).length = 9))

/-- R178: the fitted codes and LC_ADJ of one element are in use; the guards bring the DACs there (R139). -/
def State.applyFit (s : State) (e : Nat) : State :=
  if s.fitted e then
    let f := s.free
    let g := f.2.free
    let bar := fitOffset f.1 (s.cal.nine 0 e)
    let cross := if s.cal.stage = 18 then 0 else fitOffset g.1 (s.cal.nine 9 e)
    let s1 := g.2.levelDelta e bar cross
    match (s.cal.trials.find? fun t => decide (t.trial = 4)).bind fun t => t.results.find? fun r => decide (r.1 = e) with
    | none => s1
    | some r =>
      let c := s1.calElem e
      s1.setCalElem e { c with lcAdj := (r.2.2.toNat : Int) - c.lc }
  else s

/-- R178: the results of a stage are applied once its elements' STALE has ended, and the next stage follows. -/
def State.applyStage (s : State) : State :=
  match s.cal.applyAt with
  | none => s
  | some a =>
    if a ≤ s.loopS.sample then
      let s1 := s.trialElems.foldl State.applyFit s
      let s2 := if s.cal.stage = 18 then s1.bump 0x800024 1 else s1
      { s2 with
        cal := { s2.cal with stage := if s.cal.stage = 18 then 0 else s.cal.stage + 1, trial := 0, reps := 0, trials := []
                             named := false, applyAt := none }
        loopS := { s2.loopS with calStale := [] } }
    else s

/-- STAGE_RESULT_APPLY (R178): a guard. While Prism runs SLOT_BOUNDARY applies a result that is due at t = 0, before the level
DACs move. -/
def State.stageApply (s : State) : State := if s.drv.inGuard then s.applyStage else s

/-! ### Registers -/

/-- A write of CAL_CMD: its requests, in the order of their bits. -/
def State.writeCalCmd (s : State) (p : CmdPort) (v : Word) : State :=
  let s1 := s.plainWrite p Reg.CAL_CMD v
  let s2 := if bit v 0 then s1.startFullBit else s1
  let s3 := if bit v 1 then s2.calStoreBit else s2
  if bit v 2 then s3.calDeleteBit else s3

/-- A write of CAL_SET_READ: GO loads the entry of an element of an area that exists. -/
def State.writeSetRead (s : State) (p : CmdPort) (v : Word) : State :=
  let s1 := s.plainWrite p Reg.CAL_SET_READ v
  let e := fld v 12 0
  let a := fld v 16 13
  if bit v 31 ∧ e < 5120 ∧ a < 9 then
    { s1 with cal := { s1.cal with setData := Sparse.get (fun _ => []) (s1.calSet a).entries e } }
  else s1

/-! ### The commands -/

/-- CAL_INTERPOLATION (R182). -/
def execCalInterpolation (s : State) : Host.Outcome State Fault Refusal := .next s.calInterpolation
/-- START_FULL (R167). -/
def execStartFull (p : CmdPort) (v : Word) (s : State) : Host.Outcome State Fault Refusal :=
  .next (s.access p Reg.CAL_CMD 1 fun s => s.writeCalCmd p (withBit v 0))
/-- FULL_CALIBRATION_STEP (R169). -/
def execFullCalibrationStep (adc : List AdcMeas) (s : State) : Host.Outcome State Fault Refusal := .next (s.fullStep adc)
/-- FULL_CALIBRATION_DONE (R170). -/
def execFullCalibrationDone (s : State) : Host.Outcome State Fault Refusal := .next s.fullDone
/-- TRIAL_CAPTURE (R175). -/
def execTrialCapture (taps : List (Fin 10304)) (codes : List TapCodes) (adc : List AdcMeas) (s : State) :
    Host.Outcome State Fault Refusal := .next (s.trialCapture (taps.zip codes) adc)
/-- STAGE_RESULT_APPLY (R178). -/
def execStageResultApply (s : State) : Host.Outcome State Fault Refusal := .next s.stageApply
/-- STORE (R186). -/
def execCalStore (p : CmdPort) (v : Word) (s : State) : Host.Outcome State Fault Refusal :=
  .next (s.access p Reg.CAL_CMD 1 fun s => s.writeCalCmd p (withBit v 1))
/-- DELETE (CAL_CMD). -/
def execCalDelete (p : CmdPort) (v : Word) (s : State) : Host.Outcome State Fault Refusal :=
  .next (s.access p Reg.CAL_CMD 1 fun s => s.writeCalCmd p (withBit v 2))
/-- SET_READ (R183). -/
def execSetRead (p : CmdPort) (v : Word) (s : State) : Host.Outcome State Fault Refusal :=
  .next (s.access p Reg.CAL_SET_READ 1 fun s => s.writeSetRead p (withBit v 31))

end Sys2Proof.Machine
end

