-- ==== Sys2Proof/Machine/Loupe.lean ====
section
/-! DEFINITION. The Loupe units (13_loupe_acquisition.md): sources (R385, R386), lending (R387 to R389), triggers (R390 to
R393), the record cycle (R394 to R399), decimation (R400, R401), measurements, limits and masks (R402 to R405), and the
TRIG bus (R406, R407). The codes that a lent pair converts come with the commands, undecimated; samples of KIND 1 and 2 are
taken from the state. Every sample of a unit takes one way: it may end the stage that the unit is in, it meets conditions and it
joins the record (assumption 135). -/

namespace Sys2Proof.Machine

open Sys2Proof

/-! ### Configuration -/

/-- STREAM; 3 is taken as 0. -/
def State.loupeStream (s : State) (u : Nat) : Nat := s.rdFld (acqReg u 8) 5 4 % 3
/-- TAP. -/
def State.loupeTap (s : State) (u : Nat) : Nat := s.rdFld (acqReg u 0xC) 29 16
/-- PRE and POST. -/
def State.loupePre (s : State) (u : Nat) : Nat := s.rdFld (acqReg u 0x10) 22 0
def State.loupePost (s : State) (u : Nat) : Nat := s.rdFld (acqReg u 0x14) 22 0
/-- MODE; 3 is taken as SINGLE (0). -/
def State.loupeMode (s : State) (u : Nat) : Nat := s.rdFld (acqReg u 0) 5 4 % 3
/-- DEC_BASE, above 8 taken as 8; KIND 2 always records with F = 1 (R400). -/
def State.loupeBase (s : State) (u : Nat) : Nat :=
  if s.loupeKind u = 2 then 0 else min 8 (s.rdFld (acqReg u 0x1C) 3 0)
/-- The ring of a unit (R397). -/
def ringSize : Nat := 4194304

/-- A 16-bit number as the source's values have it (R385). -/
def loupeValue (kind : Nat) (w : BitVec 16) : Int :=
  if kind = 0 then ((w.toNat % 16384 : Nat) : Int) else if kind = 1 then w.toInt else ((w.toNat / 64 : Nat) : Int)

/-- A 16-bit register value in the source's sign. -/
def inSign (kind : Nat) (v : Nat) : Int := if kind = 1 then (BitVec.ofNat 16 v).toInt else (v : Nat)

/-- The interrupt of a unit: each record, violation, stop or refusal. -/
def State.loupeIrq (s : State) (u : Nat) : State := s.irqIf (acqReg u 0) 11 10

/-! ### Measurements (R402) -/

/-- What a unit measures in a record. -/
structure Meas where
  settle : Nat
  overshoot : Int
  min : Int
  max : Int
  mean : Int
  rms : Int
  period : Int
  crossings : Nat
  deriving DecidableEq, Repr

/-- The square root of a quotient; how an inexact root is rounded the spec does not say. -/
def rootQ (a b : Nat) : Nat :=
  let r := Nat.sqrt (a / b)
  if r * r * b = a then r else if Config.roundUp a b then r + 1 else r

/-- The upward crossings of the middle of a list of (place, value): primed at or below the middle less BAND, met at the
first later value at or above the middle. Values are doubled, so that the middle MIN + MAX is whole. -/
def crossings (mid2 band2 : Int) : Bool → List (Nat × Int) → List Nat
  | _, [] => []
  | primed, (i, v) :: t =>
    if primed && decide (mid2 ≤ 2 * v) then i :: crossings mid2 band2 (decide (2 * v ≤ mid2 - band2)) t
    else crossings mid2 band2 (primed || decide (2 * v ≤ mid2 - band2)) t

/-- R402 over the window's valid samples, given as place in the window and value; of an empty window the spec states no
result, and its fields come from the free word. -/
def measure (free : Word) (band : Nat) (xs : List (Nat × Int)) : Meas :=
  match xs with
  | [] => { settle := 0, overshoot := free.toNat % 65536, min := free.toNat % 65536, max := free.toNat % 65536
            mean := sgn free, rms := free.toNat, period := 0, crossings := 0 }
  | x0 :: _ =>
    let vs := xs.map fun x => x.2
    let n := vs.length
    let lo := vs.foldl min x0.2
    let hi := vs.foldl max x0.2
    let sum := vs.sum
    let sq := (vs.map fun v => (v * v).toNat).sum
    let tail := vs.drop (n - 64)
    let k : Int := tail.length
    let fs := tail.sum
    let shoot := if x0.2 * k ≤ fs then roundQ (hi * k - fs) k else roundQ (fs - lo * k) k
    let outs := xs.filter fun x => decide ((band : Int) * k < ((x.2 * k - fs).natAbs : Int))
    let cr := crossings (lo + hi) (2 * (band : Int)) false xs
    let m := cr.length
    let per : Int := if m < 2 then 0
      else roundQ (256 * ((cr.getLastD 0 : Int) - (cr.headD 0 : Int))) (m - 1 : Nat)
    { settle := match outs.getLast? with | some x => x.1 + 1 | none => 0
      overshoot := max 0 shoot, min := lo, max := hi
      mean := roundQ (256 * sum) n
      rms := rootQ (65536 * sq) n
      period := per, crossings := m }

/-- Measurement m of R403. -/
def Meas.nth (x : Meas) : Nat → Int
  | 0 => x.settle
  | 1 => x.overshoot
  | 2 => x.min
  | 3 => x.max
  | 4 => x.mean
  | 5 => x.rms
  | _ => x.period

/-- A limit in the format of its header field. -/
def limitValue (kind m : Nat) (w : Word) : Int :=
  match m with
  | 0 => (w.toNat % 2 ^ 23 : Nat)
  | 1 => (w.toNat % 65536 : Nat)
  | 2 | 3 => inSign kind (w.toNat % 65536)
  | 4 => sgn w
  | _ => (w.toNat : Nat)

/-- R403: LIMIT_FAIL of a record. -/
def State.limitFail (s : State) (u : Nat) (x : Meas) : BitVec 7 :=
  (List.range 7).foldl (fun f m =>
    let en := s.rd (acqReg u 0x6C)
    let lo := limitValue (s.loupeKind u) m (s.rd (acqReg u (0x80 + 8 * m)))
    let hi := limitValue (s.loupeKind u) m (s.rd (acqReg u (0x84 + 8 * m)))
    let bad := (bit en m && decide (x.nth m < lo)) || (bit en (8 + m) && decide (hi < x.nth m))
    if bad && !(decide (m = 6) && decide (x.crossings < 2)) then f ||| BitVec.ofNat 7 (2 ^ m) else f) 0

/-! ### Masks (R404) -/

/-- The breakpoints of the upper (base 0x100) or lower (base 0x300) envelope. -/
def State.envelope (s : State) (u base n : Nat) : List (Int × Int) :=
  (List.range (min 64 n)).map fun b =>
    (sgn (s.rd (acqReg u (base + 8 * b))), inSign (s.loupeKind u) (s.rdFld (acqReg u (base + 4 + 8 * b)) 15 0))

/-- R404: the envelope at an offset from TRIG_INDEX; none outside its breakpoints. -/
def envAt (i : Int) : List (Int × Int) → Option Int
  | [] => none
  | [p] => if i = p.1 then some p.2 else none
  | p :: q :: t =>
    if p.1 ≤ i ∧ i ≤ q.1 then some (p.2 + ((q.2 - p.2) * (i - p.1)).tdiv (q.1 - p.1)) else envAt i (q :: t)

/-- R396: the offsets of an envelope increase. -/
def increasing : List (Int × Int) → Bool
  | p :: q :: t => decide (p.1 < q.1) && increasing (q :: t)
  | _ => true

/-- The two envelopes of a unit. -/
def State.upperEnv (s : State) (u : Nat) : List (Int × Int) := s.envelope u 0x100 (s.rdFld (acqReg u 0x70) 6 0)
def State.lowerEnv (s : State) (u : Nat) : List (Int × Int) := s.envelope u 0x300 (s.rdFld (acqReg u 0x70) 14 8)

/-- A sample is not valid: INVALID of KIND 0 (R385). -/
def badSample (kind : Nat) (w : BitVec 16) : Bool := decide (kind = 0) && w.getLsbD 15

/-- R404: the first data sample that violates the mask. -/
def State.firstViol (s : State) (u ti : Nat) (data : List (BitVec 16)) : Option Nat :=
  let up := s.upperEnv u
  let low := s.lowerEnv u
  (data.zipIdx.find? fun x =>
    let i : Int := (x.2 : Int) - ti
    let v := loupeValue (s.loupeKind u) x.1
    !badSample (s.loupeKind u) x.1 &&
      ((match envAt i up with | some m => decide (m < v) | none => false) ||
       (match envAt i low with | some m => decide (v < m) | none => false))).map fun x => x.2

/-! ### Records (R397, R398) -/

/-- The window of the measurements (R402), clipped to the record: (place in the window, value) of its valid samples. -/
def State.loupeWindow (s : State) (u ti : Nat) (data : List (BitVec 16)) : List (Nat × Int) :=
  let a := clampI 0 data.length ((ti : Int) + sgn (s.rd (acqReg u 0x60)))
  let b := clampI (-1) ((data.length : Int) - 1) ((ti : Int) + sgn (s.rd (acqReg u 0x64)))
  let win := (data.drop a.toNat).take (b + 1 - a).toNat
  (win.zipIdx.filter fun x => !badSample (s.loupeKind u) x.1).map fun x => (x.2, loupeValue (s.loupeKind u) x.1)

/-- A number in the low n bits of two's complement. -/
def lowBits (n : Nat) (x : Int) : Nat := (x % (2 ^ n : Int)).toNat

/-- Words 0 to 14 of the header (Table: Loupe record header). -/
def State.loupeHeader (s : State) (u : Nat) (ti len inv : Nat) (trunc : Bool) (fv : Option Nat) (lf : BitVec 7)
    (m : Meas) : List Word :=
  let x := s.loupe u
  let t := Clock.ofUnits x.trig.time
  [pack [(0, 1), (8, u % 4), (11, s.loupeKind u), (13, s.loupeStream u), (15, u / 4), (16, x.trig.mask.toNat),
     (21, x.trig.cause), (24, x.dec), (28, b2n trunc), (29, b2n fv.isSome), (30, b2n (decide (lf ≠ 0))),
     (31, b2n x.trig.late)],
   BitVec.ofNat 32 x.seq,
   t.ns32,
   pack [(0, t.frac.toNat / 65536), (16, x.trig.offset), (24, x.trig.sub)],
   BitVec.ofNat 32 len,
   BitVec.ofNat 32 ti,
   pack [(0, fv.getD 0x7FFFFF), (24, lf.toNat)],
   BitVec.ofNat 32 inv,
   BitVec.ofNat 32 (min 65535 x.lostNew),
   pack [(0, lowBits 16 m.min), (16, lowBits 16 m.max)],
   toWord m.mean, toWord m.rms,
   BitVec.ofNat 32 (lowBits 16 m.overshoot),
   BitVec.ofNat 32 m.settle,
   toWord m.period]

/-- A 16-bit sample as two bytes. -/
def sampleBytes (w : BitVec 16) : List Byte := [BitVec.ofNat 8 w.toNat, BitVec.ofNat 8 (w.toNat / 256)]

/-- Samples put into the ring of a unit from an address on. -/
def ringPut (mem : Sparse (BitVec 16)) (at_ : Nat) (ws : List (BitVec 16)) : Sparse (BitVec 16) :=
  ws.zipIdx.foldl (fun m x => Sparse.set (fun _ => 0) m ((at_ + x.2) % ringSize) x.1) mem

/-- A record is written: header and data go into the ring, it is counted, and violations are counted and flagged
(R398, R405). -/
def State.writeRecord (s : State) (u : Nat) (data : List (BitVec 16)) (inv : Nat) (trunc : Bool) : State :=
  let f := s.free
  let x := s.loupe u
  let ti := x.trigIndex
  let m := measure f.1 (s.rdFld (acqReg u 0x68) 15 0) (s.loupeWindow u ti data)
  let lf := s.limitFail u m
  let fv := s.firstViol u ti data
  let ws := s.loupeHeader u ti data.length inv trunc fv lf m
  let hdr := ws ++ [crc32c (ws.flatMap bytesOf ++ data.flatMap sampleBytes)]
  let all := hdr.flatMap (fun w => [BitVec.ofNat 16 w.toNat, BitVec.ofNat 16 (w.toNat / 65536)]) ++ data
  let s1 := f.2.setLoupe u { x with
    mem := ringPut x.mem x.wr all, wr := (x.wr + all.length) % ringSize, occ := x.occ + all.length
    seq := x.seq + 1, lostNew := 0 }
  let s2 := (s1.bump (acqReg u 0xC0) 1).loupeIrq u
  if fv.isSome ∨ lf ≠ 0 then ((s2.bump (acqReg u 0xC8) 1).wrBit (acqReg u 4) 16 true).loupeIrq u else s2

/-- A record broke the mask or a limit (R405). -/
def State.recordViolates (s : State) (u : Nat) (data : List (BitVec 16)) : Bool :=
  let x := s.loupe u
  (s.firstViol u x.trigIndex data).isSome ||
  decide (s.limitFail u (measure s.free.1 (s.rdFld (acqReg u 0x68) 15 0) (s.loupeWindow u x.trigIndex data)) ≠ 0)

/-- n free samples with their INVALID bit. -/
def State.freeSamples (s : State) (n : Nat) : List (BitVec 16 × Bool) × State :=
  ((List.range n).map (fun i =>
    let w := (Config.freeWord (s.freeCtr + i)).setWidth 16
    (w, w.getLsbD 15)), { s with freeCtr := s.freeCtr + n })

/-- The samples of a record: those before the trigger's, and POST. -/
def State.recordLen (s : State) (u : Nat) : Nat := (s.loupe u).trigIndex + s.loupePost u

/-- The data of a record that ends early: the samples taken. Where a KIND 0 unit is stopped by what shows no samples, how many
it took since the last ones shown and what they are is open: free values (assumption 135). -/
def State.takenData (s : State) (u : Nat) (shown : Bool) : List (BitVec 16 × Bool) × State :=
  let b := (s.loupe u).buf.take (s.recordLen u)
  if shown || decide (s.loupeKind u ≠ 0) || decide (s.recordLen u ≤ b.length) then (b, s)
  else
    let f := s.free
    let g := f.2.freeSamples (f.1.toNat % (s.recordLen u - b.length))
    (b ++ g.1, g.2)

/-- The samples of a record's data, and how many of them are INVALID or not iterated. -/
def dataOf (l : List (BitVec 16 × Bool)) : List (BitVec 16) × Nat := (l.map fun b => b.1, (l.filter fun b => b.2).length)

/-- A running unit stops: a record in progress is written with TRUNCATED set, and the unit is IDLE with its cause. -/
def State.stopUnit (s : State) (u cause : Nat) (shown : Bool) : State :=
  let x := s.loupe u
  if x.st = .idle then s
  else
    let s1 := if x.st = .post then
        let d := s.takenData u shown
        d.2.writeRecord u (dataOf d.1).1 (dataOf d.1).2 true
      else s
    (s1.setLoupe u { s1.loupe u with st := .idle, stopCause := cause, lendWait := false }).loupeIrq u

/-! ### Lending (R387, R388) -/

/-- Lending ends: the pair returns to loop duty from the next capture. -/
def State.endLend (s : State) (u : Nat) : State :=
  let x := s.loupe u
  match x.lent with
  | none => s
  | some a =>
    let s1 := s.setAu a { s.au a with lent := false, loopNext := true }
    let s2 := s1.setAu (a + 1) { s1.au (a + 1) with lent := false, loopNext := true }
    s2.setLoupe u { x with lent := none, lentFor := 0 }

/-- R154: a loop sample in Loupe duty is 1,600 conversions of each unit of the pair, one every 12.5 ns. -/
def State.lentRan (s : State) (u : Nat) : State :=
  match (s.loupe u).lent with
  | none => s
  | some a =>
    let s1 := s.setAu a ((s.au a).ran 1600)
    s1.setAu (a + 1) ((s1.au (a + 1)).ran 1600)

/-- LEND_START and LEND_END at a loop sample boundary, and the count of loop samples lent. -/
def State.lendBoundary (s : State) (u : Nat) : State :=
  let x := s.loupe u
  if x.lent.isSome then
    if x.st = .idle then s.endLend u else (s.lentRan u).setLoupe u { x with lentFor := x.lentFor + 1 }
  else if x.lendWait then
    let a := tapUnit (s.loupeTap u) / 2 * 2
    let lend (b : AdcUnit) : AdcUnit := { b with lent := true, convs := Vector.replicate 4 0 }
    let s1 := s.setAu a (lend (s.au a))
    let s2 := s1.setAu (a + 1) (lend (s1.au (a + 1)))
    s2.setLoupe u { x with lendWait := false, lent := some a, lentFor := 0, lendTick := s.tim.ticks }
  else s

/-- LEND_LIMIT (R388): lending has lasted LEND_LIMIT loop samples (0 taken as 1). -/
def State.lendLimit (s : State) (u : Nat) : State :=
  let x := s.loupe u
  if x.lent.isSome && decide (max 1 (s.rdFld (acqReg u 0x20) 15 0) ≤ x.lentFor) then
    (s.stopUnit u 4 true).endLend u
  else s

/-- A unit fails (R159, R160), and a Loupe unit that holds or awaits its pair stops at once. -/
def State.auFailed (s : State) (a : Nat) : State :=
  if (s.au a).failed then s
  else
    (List.range 8).foldl (fun s u =>
      let x := s.loupe u
      if x.lent = some (a / 2 * 2) then (s.stopUnit u 6 false).endLend u
      else if x.lendWait && decide (tapUnit (s.loupeTap u) / 2 = a / 2) then s.stopUnit u 6 false
      else s) (s.auFail a)

/-- R159: a reading of input 104 that differs by more than 2 % from the unit's reference. -/
def State.refOff (s : State) (u : Nat) (r : Word) : Bool :=
  let ref := sgn (s.auCal u).ref104
  decide (ref.natAbs < 50 * (sgn r - ref).natAbs)

/-- AU_FAILED: the readings of input 104 of three consecutive samples show the failure of R159. -/
def State.auJudge (s : State) (u : Nat) (r0 r1 r2 : Word) : State :=
  if s.refOff u r0 && s.refOff u r1 && s.refOff u r2 then s.auFailed u else s

/-- SLICE_CORRECTION (R154), and the failure of R159 where a correction leaves its range. -/
def State.sliceEvent (s : State) (u : Nat) (i : Fin 4) (o g k : Int) : State :=
  if s.sliceDue u i then
    let s1 := s.sliceCorrection u i o g k
    if sliceGood o g k then s1 else s1.auFailed u
  else s

/-- R159: at the end of a sample the units fail whose window of the sample before is unfinished. -/
def State.lateUnits (s : State) : State :=
  let us := if s.loopS.capCur.isSome then s.adc.late
    else if s.loopS.capPrev.isSome then (List.range 100).filter s.converting else []
  let s1 := us.foldl State.auFailed s
  { s1 with adc := { s1.adc with late := [] } }

/-! ### ARM, STOP, FORCE, RD_PTR (R384, R389, R396, R397) -/

/-- R396: the configuration of a unit that ARM refuses. -/
def State.badConfig (s : State) (u : Nat) : Bool :=
  decide (s.loupePost u = 0) || decide (ringSize < s.loupePre u + s.loupePost u + 32) ||
  !increasing (s.upperEnv u) || !increasing (s.lowerEnv u) || decide (10303 < s.loupeTap u)

/-- R389: a unit of the pair that a KIND 0 ARM asks for is in direct mode, or the pair is lent or promised. -/
def State.pairBusy (s : State) (u : Nat) : Bool :=
  let a := tapUnit (s.loupeTap u) / 2 * 2
  (s.au a).cfg.direct || (s.au (a + 1)).cfg.direct || (s.au a).lent || (s.au (a + 1)).lent ||
  (List.range 8).any fun v => decide (v ≠ u) && (s.loupe v).lendWait && decide (tapUnit (s.loupeTap v) / 2 = a / 2)

/-- R389: a unit of the pair has failed. -/
def State.pairBroken (s : State) (u : Nat) : Bool :=
  let a := tapUnit (s.loupeTap u) / 2 * 2
  (s.au a).failed || (s.au (a + 1)).failed

/-- The refusal bits of ACQ_U STATUS that apply to an ARM of an idle unit. -/
def State.armRefusals (s : State) (u : Nat) : List Nat :=
  let st := (s.ctlRed (loupeCtl u)).state
  let k0 := decide (s.loupeKind u = 0)
  (if st = .active ∨ st = .standby then [] else [13]) ++
  (if s.badConfig u then [14] else []) ++
  (if k0 && s.pairBusy u then [11] else []) ++
  (if k0 && s.pairBroken u then [12] else [])

/-- An ARM (R396). -/
def State.armBit (s : State) (u : Nat) : State :=
  let x := s.loupe u
  if x.st ≠ .idle then (s.wrBit (acqReg u 4) 10 true).loupeIrq u
  else
    match s.armRefusals u with
    | [] =>
      let k0 := decide (s.loupeKind u = 0)
      (s.wr (acqReg u 0x24) 0).setLoupe u { x with
        st := if k0 then .settle else .prefill, lendWait := k0
        dec := s.loupeBase u, decNext := s.loupeBase u, calm := 0
        wr := 0, occ := 0, mem := [], seq := 0, lostNew := 0, trig := {}, force := false, evs := [], ignored := 0
        buf := [], acc := [], prime := 0, lastV := 0, hit := {}, trigIndex := 0 }
    | bs => (bs.foldl (fun s b => s.wrBit (acqReg u 4) b true) s).loupeIrq u

/-- A write of a unit's CTRL (R396): while the unit runs only STOP and FORCE act. -/
def State.writeLoupeCtrl (s : State) (p : CmdPort) (u : Nat) (v : Word) : State :=
  let running := decide ((s.loupe u).st ≠ .idle)
  let s1 := if running then
      (if bit v 0 || bit v 1 || bit v 2 then s else s.wrBit (acqReg u 4) 15 true)
    else s.plainWrite p (acqReg u 0) v
  let s2 := if bit v 0 then s1.armBit u else s1
  let s3 := if bit v 1 then s2.stopUnit u 0 false else s2
  if bit v 2 && (s3.loupe u).sampling then s3.setLoupe u { s3.loupe u with force := true } else s3

/-- A write of RD_PTR (R397): it drains the addresses between the old and the new pointer. -/
def State.writeRdPtr (s : State) (p : CmdPort) (u : Nat) (v : Word) : State :=
  let old := s.rdFld (acqReg u 0x24) 21 0
  let s1 := s.plainWrite p (acqReg u 0x24) v
  let x := s1.loupe u
  s1.setLoupe u { x with occ := x.occ - (s1.rdFld (acqReg u 0x24) 21 0 + ringSize - old) % ringSize }

/-- A write anywhere in ACQ (R396). -/
def State.writeAcq (s : State) (p : CmdPort) (a : Nat) (v : Word) : State :=
  if 0x610000 ≤ a ∧ a < 0x618000 then
    let u := (a - 0x610000) / 0x1000
    let o := (a - 0x610000) % 0x1000
    if o = 0 then s.writeLoupeCtrl p u v
    else if o = 0x24 then s.writeRdPtr p u v
    else if (s.loupe u).st = .idle then s.plainWrite p a v
    else s.wrBit (acqReg u 4) 15 true
  else s.plainWrite p a v

/-! ### Source samples (R385, R386, R390, R400) -/

/-- A source sample: its value for triggers, the value that a mean takes, OVR, INVALID or not iterated, and its instant in
2^-32 ns of device time and in root-clock cycles. -/
structure Source where
  v : Int
  raw : Int
  ovr : Bool
  bad : Bool
  time : Nat
  root : Nat

/-- A recorded sample (Table: Loupe sources): the mean, rounded down, and the OR of OVR and INVALID. -/
def recorded (kind : Nat) (l : List (Int × Bool × Bool)) : BitVec 16 :=
  let m := (l.map fun a => a.1).sum / (l.length : Int)
  if kind = 0 then
    BitVec.ofNat 16 (m.toNat % 16384 + b2n (l.any fun a => a.2.1) * 16384 + b2n (l.any fun a => a.2.2) * 32768)
  else BitVec.ofInt 16 m

/-- R400: a source sample joins the group under way; a full group becomes a recorded sample. Outside POST only the last PRE + 1
recorded samples are kept. -/
def Loupe.take (x : Loupe) (pre kind : Nat) (q : Source) : Loupe :=
  let acc := x.acc ++ [(q.raw, q.ovr, q.bad)]
  if 2 ^ x.dec ≤ acc.length then
    let buf := x.buf ++ [(recorded kind acc, acc.any fun a => a.2.2)]
    { x with acc := [], lastV := q.raw, buf := if x.st = .post then buf else buf.drop (buf.length - (pre + 1)) }
  else { x with acc := acc, lastV := q.raw }

/-- One condition at a value (R390): whether it is met, and its detectors after. -/
def State.edge (s : State) (u c : Nat) (v : Int) (rise fall : Bool) : Bool × Bool × Bool :=
  let lv := inSign (s.loupeKind u) (s.rdFld (acqReg u (0x34 + 8 * c)) 15 0)
  let hy : Int := (s.rdFld (acqReg u (0x34 + 8 * c)) 31 16 : Nat)
  let k := s.rdFld (acqReg u (0x30 + 8 * c)) 2 1
  let r := rise && decide (lv ≤ v)
  let f := fall && decide (v ≤ lv)
  (s.condOn u c && ((decide (k = 0 ∨ k = 2) && r) || (decide (k = 1 ∨ k = 2) && f)),
   if r then false else rise || decide (v ≤ lv - hy),
   if f then false else fall || decide (lv + hy ≤ v))

/-- The edge conditions met at a value, and the detectors after. -/
def State.edges (s : State) (u : Nat) (v : Int) (prime : BitVec 8) : BitVec 5 × BitVec 8 :=
  (List.range 4).foldl (fun m c =>
    let e := s.edge u c v (prime.getLsbD (2 * c)) (prime.getLsbD (2 * c + 1))
    (if e.1 then m.1 ||| BitVec.ofNat 5 (2 ^ c) else m.1,
     m.2 ||| BitVec.ofNat 8 (b2n e.2.1 * 2 ^ (2 * c) + b2n e.2.2 * 2 ^ (2 * c + 1)))) (0, 0)

/-- The lowest condition of a mask. -/
def lowestCond (m : BitVec 5) : Nat := ((List.range 5).find? fun c => m.getLsbD c).getD 0

/-- The events that a sample of an instant meets (R392). -/
def Loupe.metAt (x : Loupe) (t : Nat) : List LoupeEv := x.evs.filter fun e => decide (e.start ≤ t)

/-- The event conditions that a sample meets and FORCE, as a mask (R393). -/
def Loupe.marks (x : Loupe) (t : Nat) : BitVec 5 :=
  (x.metAt t).foldl (fun m e => m ||| BitVec.ofNat 5 (2 ^ e.cond)) (if x.force then 16 else 0)

/-- R393: what a sample that meets a mask of conditions shows: TRIG_OFFSET counts from the event of the lowest one. -/
def Loupe.hitAt (x : Loupe) (mask : BitVec 5) (q : Source) : LoupeHit :=
  let met := x.metAt q.time
  { mask := mask, time := q.time, root := q.root, late := met.any fun e => e.late
    offset := match met.find? fun e => decide (e.cond = lowestCond mask) with
      | some e => (q.time - e.time) / 1342177280
      | none => 0 }

/-- A source sample of a unit: its conditions are evaluated, an occurrence in a counted hold-off is ignored (R395), and it joins
the record. INVALID samples of KIND 0 neither prime nor meet (R390). -/
def State.sampleIn (s : State) (u : Nat) (q : Source) : State :=
  let x := s.loupe u
  let kind := s.loupeKind u
  let e := if q.bad && decide (kind = 0) then (0, x.prime) else s.edges u q.v x.prime
  let mask := e.1 ||| x.marks q.time
  let y := { x.take (s.loupePre u) kind q with
    prime := e.2, force := false, evs := x.evs.filter fun e => decide (q.time < e.start)
    hit := if x.st = .armed ∧ mask ≠ 0 then x.hitAt mask q else {} }
  if x.st = .holdoff ∧ mask ≠ 0 ∧ s.rdBit (acqReg u 0) 7 = true ∧ x.ignored < (s.rd (acqReg u 0x18)).toNat then
    (s.setLoupe u { y with ignored := x.ignored + 1 }).bump (acqReg u 0xCC) 1
  else s.setLoupe u y

/-! ### The record cycle (R393 to R395, R399, R401) -/

/-- SETTLE_DONE (R387): 24 samples of 6.25 ns, which are 120 ticks, have passed since lending began. -/
def State.settleDone (s : State) (u : Nat) : State :=
  let x := s.loupe u
  if x.st = .settle ∧ x.lent.isSome = true ∧ x.lendTick + 120 ≤ s.tim.ticks then s.setLoupe u { x with st := .prefill } else s

/-- PREFILL_DONE (R394): PRE samples are held. -/
def State.prefillDone (s : State) (u : Nat) : State :=
  let x := s.loupe u
  if x.st = .prefill ∧ s.loupePre u ≤ x.buf.length then s.setLoupe u { x with st := .armed, hit := {} } else s

/-- R401: the factor of the next record after one is written or lost. -/
def State.decAdjust (s : State) (u : Nat) : State :=
  let x := s.loupe u
  if s.rdBit (acqReg u 0x1C) 4 && decide (s.loupeMode u = 2) && decide (s.loupeKind u ≠ 2) then
    if 3145728 < x.occ then s.setLoupe u { x with decNext := min 8 (x.decNext + 1), calm := 0 }
    else if x.occ ≤ 1048576 then
      if 15 ≤ x.calm then s.setLoupe u { x with decNext := max (s.loupeBase u) (x.decNext - 1), calm := 0 }
      else s.setLoupe u { x with calm := x.calm + 1 }
    else s
  else s

/-- The unit goes on after a record written or lost. -/
def State.toHoldoff (s : State) (u : Nat) : State :=
  let s1 := s.decAdjust u
  let x := s1.loupe u
  s1.setLoupe u { x with st := .holdoff, ignored := 0, hit := {}
                         buf := x.buf.drop (x.buf.length - (s.loupePre u + 1)) }

/-- The samples before the trigger sample's group, and that group where it is complete. -/
def Loupe.before (x : Loupe) (pre : Nat) : List (BitVec 16 × Bool) × List (BitVec 16 × Bool) :=
  let full := decide (x.acc = [])
  let b := if full then x.buf.dropLast else x.buf
  (b.drop (b.length - pre), if full then x.buf.drop (x.buf.length - 1) else [])

/-- TRIG_OFFSET of a trigger point. The spec gives 0 to 19 cycles; beyond them the field is a free value (assumption 135). -/
def State.trigOffset (s : State) (n : Nat) : Nat × State :=
  if n ≤ 19 then (n, s) else (s.free.1.toNat % 32, s.free.2)

/-- R406: the root-clock cycle at which a unit with OUT_EN set is to assert its line for a trigger point. -/
def State.outDue (s : State) (u root : Nat) : List Nat :=
  if s.rdBit (acqReg u 0) 8 then [root + 64 + s.rdFld (Reg.ACQ_TRIG + 4 * s.rdFld (acqReg u 0) 10 9) 15 8] else []

/-- TRIGGER_POINT (R393, R399, R406): an ARMED unit whose newest sample met conditions. -/
def State.fire (s : State) (u : Nat) : State :=
  let x := s.loupe u
  if x.st = .armed ∧ x.hit.mask ≠ 0 then
    let b := x.before (s.loupePre u)
    let o := s.trigOffset x.hit.offset
    let tr : LoupeTrig := {
      mask := x.hit.mask, cause := lowestCond x.hit.mask, late := x.hit.late, offset := o.1, time := x.hit.time
      sub := if x.acc = [] then 2 ^ x.dec - 1 else x.acc.length - 1 }
    let s1 := o.2.setLoupe u { x with
      trig := tr, hit := {}, outWait := x.outWait ++ s.outDue u x.hit.root, trigIndex := b.1.length, buf := b.1 ++ b.2 }
    if x.occ + 32 + s.loupePre u + s.loupePost u ≤ ringSize then s1.setLoupe u { s1.loupe u with st := .post }
    else if s.loupeMode u = 2 then
      (((s1.setLoupe u { s1.loupe u with lostNew := min 65535 (x.lostNew + 1) }).bump (acqReg u 0xC4) 1).toHoldoff u)
    else s1.stopUnit u 3 true
  else s

/-- RECORD_WRITTEN (R394, R398, R405): POST samples have been taken. -/
def State.recordWritten (s : State) (u : Nat) : State :=
  let x := s.loupe u
  let len := s.recordLen u
  if x.st = .post ∧ len ≤ x.buf.length then
    let d := dataOf (x.buf.take len)
    let viol := s.recordViolates u d.1
    let s1 := s.writeRecord u d.1 d.2 false
    if viol ∧ s.rdBit (acqReg u 0) 6 = true then (s1.setLoupe u { s1.loupe u with st := .idle, stopCause := 2 }).loupeIrq u
    else if s.loupeMode u = 0 then (s1.setLoupe u { s1.loupe u with st := .idle, stopCause := 1 }).loupeIrq u
    else s1.toHoldoff u
  else s

/-- The unit re-arms: ARMED, or PREFILL when the factor changed (R395, R401). -/
def State.rearm (s : State) (u : Nat) : State :=
  let x := s.loupe u
  if x.dec = x.decNext then s.setLoupe u { x with st := .armed, hit := {} }
  else s.setLoupe u { x with st := .prefill, dec := x.decNext, buf := [], acc := [] }

/-- R395: a sample of an instant is one at which a unit re-arms: HOLDOFF ns after the trigger point, or after HOLDOFF
occurrences. -/
def State.rearmDue (s : State) (u t : Nat) : Bool :=
  let x := s.loupe u
  let h := (s.rd (acqReg u 0x18)).toNat
  if s.rdBit (acqReg u 0) 7 then decide (h ≤ x.ignored) else decide (x.trig.time + h * 4294967296 ≤ t)

/-- HOLDOFF_END (R395): the sample of an instant ends the hold-off. -/
def State.holdoffEnd (s : State) (u t : Nat) : State :=
  if (s.loupe u).st = .holdoff ∧ s.rearmDue u t = true then s.rearm u else s

/-- The stage of a unit that is over by a sample of an instant ends. -/
def State.stageOver (s : State) (u t : Nat) : State :=
  match (s.loupe u).st with
  | .idle | .settle => s
  | .prefill => s.prefillDone u
  | .armed => s.fire u
  | .post => s.recordWritten u
  | .holdoff => s.holdoffEnd u t

/-- A source sample comes to a unit: stages that are over by then have ended, at most a record, a hold-off and a pre-fill. -/
def State.sourceSample (s : State) (u : Nat) (q : Source) : State :=
  let s1 := ((s.stageOver u q.time).stageOver u q.time).stageOver u q.time
  if (s1.loupe u).sampling then s1.sampleIn u q else s1

/-! ### Where samples come from -/

/-- The codes that a lent pair has converted, the last at the latest tick, come to a unit of KIND 0 that takes samples. A
sample interval is 6.25 ns, 20 root-clock cycles on a grid from the sample boundary (R385): each sample falls at a tick. -/
def State.loupeFeed (s : State) (u : Nat) : List (BitVec 16) → State
  | [] => s
  | w :: t =>
    if (s.loupe u).sampling && decide (s.loupeKind u = 0) then
      let v : Int := (w.toNat % 16384 : Nat)
      let s1 := s.sourceSample u { v := v, raw := v, ovr := w.getLsbD 14, bad := w.getLsbD 15,
                                   time := s.dtAt 0 - sampleStep 0 * t.length, root := 4 * s.tim.ticks - 20 * t.length }
      s1.loupeFeed u t
    else s

/-- A sample of KIND 0 (Table: Loupe sources): the code, OVR and INVALID. -/
def tapSample (code : BitVec 14) (ovr bad : Bool) : BitVec 16 := BitVec.ofBool bad ++ BitVec.ofBool ovr ++ code

/-- The value of a stream of an element in a controller (R386). -/
def State.streamValue (s : State) (c : Ctl) (e st : Nat) : Int :=
  let x := s.elem c e
  clampI (-32768) 32767 (match st with
    | 0 => x.lastErr
    | 1 => (BitVec.ofNat 16 (x.heater.toNat / 256)).toInt
    | _ => shr x.est.k 15)

/-- The end of a loop sample at a unit of KIND 1: the sample is taken with the instant of its start. -/
def State.loopSampleAt (s : State) (u : Nat) : State :=
  let x := s.loupe u
  if x.sampling && decide (s.loupeKind u = 1) then
    let c := loupeCtl u
    let e := s.loupeElem u
    let did := decide ((s.elem c e).lastIter = some s.loopS.sample)
    let v := if did then s.streamValue c e (s.loupeStream u) else x.lastV
    s.sourceSample u { v := v, raw := v, ovr := false, bad := !did, time := s.loopS.t0, root := s.rootCycle - 64000 }
  else s

/-- The 16-bit sample of a slot (Table: Loupe sources, KIND 2). -/
def FinalSlot.sample (f : FinalSlot) : Nat :=
  f.kind + b2n f.split * 8 + b2n f.carryIn * 16 + b2n f.held * 32 + f.pairs.length * 64

/-- The slot that begins, at a unit of KIND 2: its instant is t = 0 of the guard. -/
def State.slotSampleAt (s : State) (u : Nat) : State :=
  let x := s.loupe u
  if x.sampling && decide (s.loupeKind u = 2) then
    let w := s.slt.cur.sample
    s.sourceSample u { v := (w / 64 : Nat), raw := (w : Nat), ovr := false, bad := false, time := s.rootNow, root := s.rootCycle }
  else s

/-- The instant of the next sample of a unit. -/
def State.nextInstant (s : State) (u : Nat) : Nat :=
  let k := s.loupeKind u
  if k = 0 then s.dtAt 0 + sampleStep 0 else if k = 1 then s.loopS.t0 else slotUnits (s.slt.slot + 1)

/-! ### The TRIG bus (R406, R407) -/

/-- TRIG_ASSERT (R406): the cycle at which an assertion is to begin lies in the latest tick or before it. -/
def State.trigAssert (s : State) (u : Nat) : State :=
  let x := s.loupe u
  match x.outWait with
  | [] => s
  | d :: l =>
    if d < 4 * s.tim.ticks + 4 ∧ s.trigActs = true then s.setLoupe u { x with outWait := l, driving := some d } else s

/-- TRIG_RELEASE (R406): the 64th cycle of an assertion ends in the latest tick or before it. -/
def State.trigRelease (s : State) (u : Nat) : State :=
  let x := s.loupe u
  match x.driving with
  | none => s
  | some r => if r + 64 < 4 * s.tim.ticks + 4 then s.setLoupe u { x with driving := none } else s

/-- TRIG_SENSE (R407): an assertion at a ball at the present root-clock cycle; a cycle is 0.3125 ns. -/
def State.trigSense (s : State) (n : Nat) : State :=
  let t := s.rootNow - (64 + s.rdFld (Reg.ACQ_TRIG + 4 * n) 7 0) * 1342177280
  ({ s with acq := { s.acq with trigTime := Sparse.set (fun _ => 0) s.acq.trigTime n t } }).eventAtTime (0x50 + n) t

/-! ### Controllers -/

/-- R384: a controller leaves ACTIVE and STANDBY. -/
def State.stopLoupes (s : State) (c : Ctl) : State :=
  (List.range 8).foldl (fun s u => if loupeCtl u = c then s.stopUnit u 5 false else s) s

/-! ### The commands -/

/-- ARM (R396). -/
def execLoupeArm (p : CmdPort) (u : Fin 8) (v : Word) (s : State) : Host.Outcome State Fault Refusal :=
  .next (s.access p (acqReg u.val 0) 1 fun s => s.writeLoupeCtrl p u.val (withBit v 0))
/-- STOP (R394). -/
def execLoupeStop (p : CmdPort) (u : Fin 8) (v : Word) (s : State) : Host.Outcome State Fault Refusal :=
  .next (s.access p (acqReg u.val 0) 1 fun s => s.writeLoupeCtrl p u.val (withBit v 1))
/-- FORCE (R392). -/
def execLoupeForce (p : CmdPort) (u : Fin 8) (v : Word) (s : State) : Host.Outcome State Fault Refusal :=
  .next (s.access p (acqReg u.val 0) 1 fun s => s.writeLoupeCtrl p u.val (withBit v 2))
/-- RD_PTR_WRITE (R397). -/
def execRdPtrWrite (p : CmdPort) (u : Fin 8) (v : Word) (s : State) : Host.Outcome State Fault Refusal :=
  .next (s.access p (acqReg u.val 0x24) 1 fun s => s.writeRdPtr p u.val v)
/-- SETTLE_DONE (R387). -/
def execSettleDone (u : Fin 8) (s : State) : Host.Outcome State Fault Refusal := .next (s.settleDone u.val)
/-- PREFILL_DONE (R394). -/
def execPrefillDone (f : TapSamples) (s : State) : Host.Outcome State Fault Refusal :=
  .next ((s.loupeFeed f.unit.val f.samples).prefillDone f.unit.val)
/-- TRIGGER_POINT (R393): the samples before a sample, the sample itself with its flags, and later ones. -/
def execTriggerPoint (u : Fin 8) (before : List (BitVec 16)) (code : BitVec 14) (ovr bad : Bool)
    (later : List (BitVec 16)) (s : State) : Host.Outcome State Fault Refusal :=
  .next ((s.loupeFeed u.val (before ++ tapSample code ovr bad :: later)).fire u.val)
/-- RECORD_WRITTEN (R398). -/
def execRecordWritten (u : Fin 8) (samples : List (BitVec 16)) (s : State) : Host.Outcome State Fault Refusal :=
  .next ((s.loupeFeed u.val samples).recordWritten u.val)
/-- HOLDOFF_END (R395). -/
def execHoldoffEnd (u : Fin 8) (samples : List (BitVec 16)) (s : State) : Host.Outcome State Fault Refusal :=
  let t := s.loupeFeed u.val samples
  .next (t.holdoffEnd u.val (t.nextInstant u.val))
/-- LEND_LIMIT (R388). -/
def execLendLimit (u : Fin 8) (samples : List (BitVec 16)) (s : State) : Host.Outcome State Fault Refusal :=
  .next ((s.loupeFeed u.val samples).lendLimit u.val)
/-- TRIG_ASSERT (R406). -/
def execTrigAssert (u : Fin 8) (s : State) : Host.Outcome State Fault Refusal := .next (s.trigAssert u.val)
/-- TRIG_RELEASE (R406). -/
def execTrigRelease (u : Fin 8) (s : State) : Host.Outcome State Fault Refusal := .next (s.trigRelease u.val)
/-- TRIG_SENSE (R407). -/
def execTrigSense (n k : Fin 4) (s : State) : Host.Outcome State Fault Refusal := .next ((s.atPhase k).trigSense n.val)
/-- AU_FAILED (R159). -/
def execAuFailed (r : RefCodes) (s : State) : Host.Outcome State Fault Refusal :=
  .next (s.auJudge r.unit.val r.r0 r.r1 r.r2)
/-- SLICE_CORRECTION (R154, R159). -/
def execSliceCorrection (u : Fin 100) (i : Fin 4) (offset gain skew : Int) (s : State) :
    Host.Outcome State Fault Refusal :=
  .next (s.sliceEvent u.val i offset gain skew)

end Sys2Proof.Machine
end

