-- ==== Sys2Proof/Machine/Redundancy.lean ====
section
/-! DEFINITION. Controller redundancy (14_controller_redundancy.md): controller states (R409 to R411), comparison and
arbitration (R412 to R417), switch-over (R418 to R424), the state copy (R425 to R428), standby health (R429 to R431) and
the return through SYNCING (R432 to R434). -/

namespace Sys2Proof.Machine

open Sys2Proof

/-! ### Controller states -/

/-- The power domain of a controller. -/
def ctlDomain (c : Ctl) : Nat := 48 + ctlNum c

/-- A controller changes its state: the interrupt of STATE_IRQ_EN, and the Loupe units of one that leaves ACTIVE and
STANDBY stop (R384). -/
def State.setCtlState (s : State) (c : Ctl) (st : CtlState) : State :=
  let x := s.ctlRed c
  if x.state = st then s
  else
    let s1 := (s.setCtlRed c { x with state := st }).irqIf Reg.RED_CTRL 3 4
    if x.state.upright && !st.upright then s1.stopLoupes c else s1

/-- The other controller of the active one is STANDBY. -/
def State.standby? (s : State) : Option Ctl :=
  match s.active? with
  | none => none
  | some c => if (s.ctlRed (otherCtl c)).state = .standby then some (otherCtl c) else none

/-- The comparison begins afresh: no mismatch is held, and the clean run is 0. -/
def State.clearCompare (s : State) : State :=
  { s with red := { s.red with mism := [], mismPrev := [], mismRun := 0, arbM := none, cleanRun := 0, lateAt := []
                               lateRun := 0, suspectMism := 0, dirty := false, copyOut := 0 } }

/-- A controller goes to ISOLATED. -/
def State.isolateCtl (s : State) (c : Ctl) : State :=
  let x := s.ctlRed c
  let s1 := { s with red := { s.red with syncPhase := if x.state = CtlState.syncing then 0 else s.red.syncPhase } }
  let s2 := s1.setCtlState c .isolated
  (s2.setCtlRed c { s2.ctlRed c with suspect := false, follow := none }).clearCompare

/-- A standby becomes ISOLATED with a lasting fault with it as source. -/
def State.isolateFaulty (s : State) (c : Ctl) : State := (s.isolateCtl c).raiseCtl c 2

/-- The standby becomes SUSPECT (R416, R426, R427). -/
def State.setSuspect (s : State) (c : Ctl) : State :=
  let x := s.ctlRed c
  if x.suspect then s
  else
    let s1 := s.setCtlRed c { x with suspect := true }
    (({ s1 with red := { s1.red with suspectMism := 0 } }).bump 0x700030 1).irqIf Reg.RED_CTRL 2 4

/-! ### Heater codes (R55, R131, R142, R420) -/

/-- The heater code of an element in the active controller reaches its channel, and that of the other controller the
shadow limiter; that of a parked element stays (R32); while no comparison takes place the shadow follows the output. The first code clears UNWRITTEN. -/
def State.applyHeater (s : State) (e : Nat) : State :=
  let c := s.chan e
  let ac := s.actCtl
  let x := s.elem ac e
  if x.mode = .off ∨ c.phase ≠ .idle ∨ s.domOn (50 + quadrantOf e) = false ∨ s.isParked e = true then s
  else
    let cmp := s.comparing
    s.setChan e { c with
      latest := x.heater
      latestSb := if cmp then (s.elem (otherCtl ac) e).heater else x.heater
      outSb := if cmp then c.outSb else c.out
      countSb := if cmp then c.countSb else c.count
      unwritten := c.unwritten && decide (x.mode = .hold) }

/-- A switch-over that waits has reached its sample boundary; before the loops first start there is no sample to wait
for. -/
def State.switchoverDue (s : State) : Bool :=
  match s.red.pendingSw with
  | some (_, n) => decide (n ≤ s.loopS.sample) || s.loopS.first
  | none => false

/-- HEATER_APPLY: the codes of every element. -/
def State.applyHeaters (s : State) : State :=
  if s.codesHeld || !s.loopS.running then s else (List.range 5120).foldl State.applyHeater s

/-! ### Switch-over (R418 to R424) -/

/-- The number of a cause in RED_LAST_SWITCH. -/
def SwCause.code : SwCause → Nat
  | .arbitration => 0
  | .loss => 1
  | .activeFault => 2
  | .host => 3

/-- LOSS or ACTIVE_FAULT of the active controller (R419, R424): a switch-over at the next sample boundary; a safety fault
where no controller is in STANDBY, or where the new active is lost within its gap. -/
def State.loseActive (s : State) (cause : SwCause) : State :=
  match s.active? with
  | none => s
  | some c =>
    if s.red.gapEnd.isSome && decide (cause = .loss) then s.raiseCtl c 3
    else if s.standby?.isNone then s.raiseCtl c 3
    else
      match s.red.pendingSw with
      | some (.host, _) | none => { s with red := { s.red with pendingSw := some (cause, s.loopS.sample + 1), arbM := none } }
      | some _ => s

/-- The word of RED_LAST_SWITCH. -/
def State.switchWord (s : State) (cause : SwCause) (new : Ctl) : Word :=
  let heldSlots := if s.slt.running && s.slt.hold.isNone then s.holdEnd - s.slt.slot - 1 else 0
  pack [(0, cause.code), (3, ctlNum new), (4, heldSlots), (16, s.loopS.sample % 65536)]

/-- The new state of the old active controller. -/
def SwCause.oldState : SwCause → CtlState
  | .host => .standby
  | _ => .isolated

/-- What follows a host switch-over away from a controller: ISOLATE, or SLEEP with its domain off (R418). -/
def State.followSwitch (s : State) (c : Ctl) : State :=
  match (s.ctlRed c).follow with
  | none => s
  | some sleep =>
    let s1 := s.isolateCtl c
    if sleep then (s1.setCtlRed c { s1.ctlRed c with asleep := true }).setDom (ctlDomain c) false else s1

/-- A switch-over starts at S (R416, R420, R421, R447). -/
def State.switchTo (s : State) (cause : SwCause) (old new : Ctl) : State :=
  let w := s.switchWord cause new
  let s1 := (s.setCtlState old cause.oldState).setCtlState new .active
  let s2 := s1.setCtlRed new { s1.ctlRed new with suspect := false }
  let s3 := { s2 with red := { s2.red with pendingSw := none, gapEnd := some (s.loopS.sample + 2), lastSwitch := w } }
  let s4 := (s3.bump 0x70002C 1).clearCompare.event 0x32
  let s5 := if cause = .host then s4 else s4.raiseCtl old 2
  ((s5.abandonStage.beginSwitchHold).followSwitch old).irqIf Reg.RED_CTRL 1 4

/-- SWITCHOVER_START (R420): a switch-over that waits has reached its sample boundary, and no gap is in progress. A host
switch-over whose standby has gone in the meantime is refused. -/
def State.switchoverStart (s : State) : State :=
  match s.red.pendingSw, s.active? with
  | some (cause, _), some old =>
    if s.switchoverDue = true ∧ s.red.gapEnd.isNone = true then
      if s.standby?.isSome then s.switchTo cause old (otherCtl old)
      else
        let s1 := { s with red := { s.red with pendingSw := none } }
        match cause with
        | .host => s1.wrBit Reg.RED_CMD 16 true
        | .arbitration => s1
        | _ => s1.raiseCtl old 3
    else s
  | _, _ => s

/-- SWITCHOVER_GAP_END (R420): the codes of the new active controller are applied, and the iterations resume. -/
def State.gapEnds (s : State) : State :=
  match s.red.gapEnd with
  | none => s
  | some n => if n ≤ s.loopS.sample ∨ s.loopS.first = true then ({ s with red := { s.red with gapEnd := none } }).applyHeaters else s

/-- CONTROLLER_LOSS (R412, R419): the active controller is absent. -/
def State.controllerLoss (s : State) (c : Ctl) : State := if s.active? = some c then s.loseActive .loss else s

/-! ### Arbitration (R415, R416) -/

/-- An element was evaluated in a sample by a controller. -/
def Elem.evaluatedAt (x : Elem) (n : Nat) : Bool := x.pl.evaluated && decide (x.lastIter = some n)

/-- R415: a controller is consistent on M in a sample. -/
def State.consistent (s : State) (c : Ctl) (m : List Nat) (n : Nat) : Bool :=
  m.all (fun e => !(s.elem c e).evaluatedAt n || (s.elem c e).pl.verdict) && m.any fun e => (s.elem c e).evaluatedAt n

/-- ARBITRATION (R416), at the end of the arbitration sample. -/
def State.arbitrate (s : State) : State :=
  match s.red.arbM, s.active?, s.standby? with
  | some m, some ac, some sb =>
    let ca := s.consistent ac m s.red.arbAt
    let cb := s.consistent sb m s.red.arbAt
    let s1 := ({ s with red := { s.red with arbM := none } }).bump 0x700028 1
    if cb && !ca then { s1 with red := { s1.red with pendingSw := some (.arbitration, s.red.arbAt + 1) } }
    else if ca && !cb then s1.isolateFaulty sb
    else s1.setSuspect sb
  | _, _, _ => s

/-! ### The state copy (R425 to R427) -/

/-- The fast state of an element differs between two records (Table: State copy per sample). -/
def Elem.fastDiffers (x y : Elem) : Bool :=
  decide (x.intBar ≠ y.intBar) || decide (x.intCross ≠ y.intCross) || decide (x.prof ≠ y.prof) ||
  decide (x.heater ≠ y.heater)

/-- The elements whose full state travels with the copy of a sample: 80 in rotation. -/
def rotationElems (n : Nat) : List Nat := (List.range 80).map fun i => 80 * (n % 64) + i

/-- R427: the standby's state at the end of a sample differs from the copy. -/
def State.diverges (s : State) (ac sb : Ctl) : Bool :=
  (List.range 5120).any (fun e => (s.elem ac e).fastDiffers (s.elem sb e)) ||
  (rotationElems s.loopS.sample).any fun e => decide (s.elem ac e ≠ s.elem sb e)

/-- The loops of one controller with the records of another; counts and engines stay its own (R627). -/
def CtlLoops.adopt (x y : CtlLoops) : CtlLoops := { x with elems := y.elems, selPtr := y.selPtr, selRun := y.selRun }

/-- STATE_COPY, at the end of a sample: the copy leaves for a controller in STANDBY or SYNCING; in DELTA it replaces that
controller's records, and before, in BULK, it has no effect. -/
def State.sendCopy (s : State) : State :=
  match s.active? with
  | none => s
  | some ac =>
    let sb := otherCtl ac
    match (s.ctlRed sb).state with
    | .standby => { s with red := { s.red with copyOut := 1, copyDiff := s.diverges ac sb } }
    | .syncing =>
      if s.red.syncPhase = 3 ∧ s.red.fresh = false then
        { s with red := { s.red with copyOut := 1, copyDiff := s.diverges ac sb } }
      else if s.red.syncPhase = 1 then { s with red := { s.red with copyOut := 1, copyDiff := false } }
      else
        let s1 := s.setLoops sb ((s.loops sb).adopt (s.loops ac))
        { s1 with red := { s1.red with copyOut := 1, copyDiff := false, fresh := false } }
    | _ => s

/-- Mirror link frames that were resent: corrected, and counted (R425, R437). -/
def State.resentFrames (s : State) (n : Nat) : State := (s.bump 0x700038 n).countCorrected n

/-- COPY_RECEIVED (R425, R427): the copy is received and checked; frames resent are counted. -/
def State.copyReceived (s : State) (resent : Nat) : State :=
  if s.red.copyOut = 0 then s
  else
    let onTime := decide (s.red.copyOut = 1)
    let s1 := ({ s with red := { s.red with
      copyOut := 0
      lateRun := if onTime then 0 else s.red.lateRun
      copies := if s.red.syncPhase = 2 ∧ s.red.fresh = false then s.red.copies + 1 else s.red.copies } }).resentFrames resent
    if s.red.copyDiff then
      let s2 := ({ s1 with red := { s1.red with dirty := true } }).bump 0x700044 1
      match s2.standby? with
      | some sb => s2.setSuspect sb
      | none => s2
    else s1

/-- COPY_LATE (R426): 18,000 ns into the next sample the copy is not complete, and may never come. -/
def State.copyLate (s : State) (missing : Bool) : State :=
  if s.red.copyOut = 1 then
    let r := s.red
    let n := s.loopS.sample
    let late := n :: r.lateAt.filter fun m => decide (n < m + 64)
    let s1 := ({ s with red := { r with
      copyOut := if missing then 0 else 2, lateAt := late, lateRun := r.lateRun + 1, dirty := true
      copies := if r.syncPhase = 2 then 0 else r.copies } }).bump 0x700040 1
    match s1.standby? with
    | none => s1
    | some sb =>
      if 16 ≤ r.lateRun + 1 then s1.isolateFaulty sb
      else if 3 ≤ late.length then s1.setSuspect sb
      else s1
  else s

/-! ### The end of a sample (R413, R415, R417, R427, R433) -/

/-- The standby in a mismatching sample: SUSPECT counts it (R417), else the second in succession leads to arbitration. -/
def State.standbyMismatch (s : State) (sb : Ctl) (m : List Nat) : State :=
  let r := s.red
  if (s.ctlRed sb).suspect then
    let s1 := { s with red := { r with suspectMism := r.suspectMism + 1 } }
    if 64 ≤ r.suspectMism + 1 then s1.isolateFaulty sb else s1
  else if 1 ≤ r.mismRun ∧ r.arbM = none ∧ r.pendingSw = none ∧ r.gapEnd = none then
    { s with red := { r with arbM := some (m ++ r.mismPrev.filter fun e => !m.contains e), arbAt := s.loopS.sample + 1
                             mismRun := 0 } }
  else { s with red := { r with mismRun := r.mismRun + 1 } }

/-- A sample of a controller in SHADOW that is not clean: the fourth restart isolates it (R433). -/
def State.shadowRestart (s : State) (sb : Ctl) : State :=
  let s1 := { s with red := { s.red with restarts := s.red.restarts + 1 } }
  if 4 ≤ s.red.restarts + 1 then s1.isolateFaulty sb else s1

/-- The comparison at the end of a sample. -/
def State.compareEnd (s : State) : State :=
  let r := s.red
  if s.comparing && !r.fresh then
    let sb := otherCtl s.actCtl
    let m := r.mism
    let s1 := { s with red := { r with cleanRun := if r.dirty then 0 else min 65535 (r.cleanRun + 1) } }
    let s2 := if (s.ctlRed sb).state = .standby then
        (if m.isEmpty then { s1 with red := { s1.red with mismRun := 0 } } else s1.standbyMismatch sb m)
      else if r.dirty then s1.shadowRestart sb else s1
    { s2 with red := { s2.red with mismPrev := m, mism := [], dirty := false } }
  else { s with red := { r with mism := [], mismPrev := [], mismRun := 0, dirty := false } }

/-- HEALTH_REPORT (R431), at every 256th sample boundary, when an engine test also comes due (R429). -/
def State.healthReport (s : State) : State :=
  let n := s.loopS.sample
  let late := (s.red.lateAt.filter fun m => decide (n < m + 64)).length
  let f (x : CtlRed) : CtlRed :=
    { x with rep :=
      { engine := x.bistEngine, paused := x.bistPaused, failed := x.bistFailed, runs := x.bistRuns
        corrected := x.scrubCorrected, uncorr := x.scrubUncorr, clean := s.red.cleanRun, late := late, sample := n } }
  { s with red := { s.red with a := f s.red.a, b := f s.red.b, bistDue := true } }

/-- SUSPECT_CLEAR (R417): 256 consecutive clean samples, and nothing in the sample in progress that ends the run. -/
def State.suspectClear (s : State) : State :=
  match s.standby? with
  | none => s
  | some sb =>
    if (s.ctlRed sb).suspect = true ∧ 256 ≤ s.red.cleanRun ∧ s.red.dirty = false then
      s.setCtlRed sb { s.ctlRed sb with suspect := false }
    else s

/-! ### SYNCING (R432, R433) and TESTING (R434) -/

/-- The controller in SYNCING. -/
def State.syncing? (s : State) : Option Ctl :=
  if s.red.a.state = .syncing then some .a else if s.red.b.state = .syncing then some .b else none

/-- BULK_DONE (R432): the snapshot is received, and DELTA begins: its first copy is the next that is sent. -/
def State.bulkDone (s : State) (resent : Nat) : State :=
  match s.syncing? with
  | none => s
  | some sb =>
    if s.red.syncPhase = 1 then
      let s1 := s.setLoops sb ((s.loops sb).adopt (s.loops (otherCtl sb)))
      ({ s1 with red := { s1.red with syncPhase := 2, copies := 0, fresh := true } }).resentFrames resent
    else s

/-- DELTA_DONE (R432): 64 consecutive copies have been applied, none late. -/
def State.deltaDone (s : State) : State :=
  if s.syncing?.isSome && decide (s.red.syncPhase = 2) && decide (64 ≤ s.red.copies) then
    { s with red := { s.red with syncPhase := 3, restarts := 0, cleanRun := 0, fresh := true, mism := [], dirty := false } }
  else s

/-- SHADOW_DONE (R432): a clean run of 256 samples. -/
def State.shadowDone (s : State) : State :=
  match s.syncing? with
  | none => s
  | some sb =>
    if s.red.syncPhase = 3 ∧ 256 ≤ s.red.cleanRun then
      ({ s with red := { s.red with syncPhase := 0 } }).setCtlState sb .standby
    else s

/-- A controller enters TESTING; a domain that is off is powered first (R434). -/
def State.enterTesting (s : State) (c : Ctl) : State :=
  let s1 := (s.setDom (ctlDomain c) true).setCtlState c .testing
  (s1.setCtlRed c { s1.ctlRed c with asleep := false, suspect := false }).clearCompare

/-- SELFTEST_DONE (R434). -/
def State.selftestDone (s : State) (c : Ctl) (pass : Bool) : State :=
  if (s.ctlRed c).state = .testing then
    if pass then
      ({ s with red := { s.red with syncPhase := 1, copies := 0, restarts := 0, cleanRun := 0 } }).setCtlState c .syncing
    else s.isolateFaulty c
  else s

/-! ### Standby health (R429, R430) -/

/-- R429: the next engine under test, passing over faulty ones. -/
def State.nextTest (s : State) (c : Ctl) : Option Nat :=
  let k := (s.ctlRed c).bistEngine.val
  ((List.range 52).map fun i => (k + i) % 52).find? fun p => decide ((s.engine c p).role ≠ .faulty)

/-- STANDBY_ENGINE_TEST (R429): one physical engine of the standby. An engine in duty is first replaced by a free spare;
with none the test pauses. -/
def State.engineTest (s : State) (pass : Bool) : State :=
  match s.standby? with
  | none => s
  | some c =>
    if s.red.bistDue then
      let s0 := { s with red := { s.red with bistDue := false } }
      match s0.nextTest c with
      | none => s0
      | some p =>
        let e := s0.engine c p
        let x := s0.ctlRed c
        let next : Fin 52 := Fin.ofNat 52 (p + 1)
        let test (t : State) : State :=
          let t1 := t.setCtlRed c { t.ctlRed c with
            bistEngine := next, bistPaused := false, bistRuns := x.bistRuns + 1, bistFailed := x.bistFailed || !pass }
          if pass then t1 else t1.engineFaulty c p
        if e.role = .active then
          match s0.freeSpares c with
          | [] => s0.setCtlRed c { x with bistEngine := Fin.ofNat 52 p, bistPaused := true }
          | q :: _ =>
            test ((s0.setEngine c q { logical := e.logical, role := .active, ovr := [] }).setEngine c p
              { e with role := .spare, ovr := [] })
        else test s0
    else s

/-- CONTROLLER_SCRUB (R430): an uncorrectable error isolates the standby with a lasting fault; in the active controller
the fault is an ACTIVE_FAULT, which the fault record starts. -/
def State.controllerScrub (s : State) (c : Ctl) (corrected : Nat) (unc : Bool) : State :=
  let x := s.ctlRed c
  if x.state.upright then
    let s1 := (s.setCtlRed c { x with
      scrubCorrected := x.scrubCorrected + corrected, scrubUncorr := x.scrubUncorr + b2n unc }).countCorrected corrected
    if unc then
      (if x.state = .standby then s1.isolateFaulty c else s1.raiseCtl c 2)
    else s1
  else s

/-! ### RED_CMD (R418) -/

/-- The refusal bits of a SWITCH. -/
def State.switchRefusals (s : State) : List Nat :=
  let ok := match s.standby? with
    | some sb => !(s.ctlRed sb).suspect && decide (256 ≤ s.red.cleanRun)
    | none => false
  (if ok then [] else [16]) ++
  (if s.red.gapEnd.isSome || s.red.arbM.isSome || s.flt.safe || s.red.pendingSw.isSome then [17] else [])

/-- A SWITCH, with what follows for the old active controller. -/
def State.switchBit (s : State) (follow : Option Bool) : State :=
  match s.switchRefusals, s.active? with
  | [], some ac =>
    let s1 := s.setCtlRed ac { s.ctlRed ac with follow := follow }
    { s1 with red := { s1.red with pendingSw := some (.host, s.loopS.sample + 2) } }
  | bs, _ => bs.foldl (fun s sb => s.wrBit Reg.RED_CMD sb true) s

/-- ISOLATE or SLEEP of a controller (R410, R418). An ISOLATED controller may still be put to sleep. -/
def State.isolateBit (s : State) (c : Ctl) (sleep : Bool) : State :=
  let x := s.ctlRed c
  let off (t : State) : State :=
    if sleep then (t.setCtlRed c { t.ctlRed c with asleep := true }).setDom (ctlDomain c) false else t
  match x.state with
  | .active => s.switchBit (some sleep)
  | .standby => off (s.isolateCtl c)
  | .isolated => off s
  | _ => s.wrBit Reg.RED_CMD 16 true

/-- A write of RED_CMD: its requests in the order of their bits, for the controller that TARGET then names. -/
def State.writeRedCmd (s : State) (p : CmdPort) (v : Word) : State :=
  let s0 := s.plainWrite p Reg.RED_CMD v
  let c : Ctl := if s0.rdBit Reg.RED_CMD 8 then .b else .a
  let s1 := if bit v 0 then s0.switchBit none else s0
  let s2 := if bit v 1 then s1.isolateBit c false else s1
  let s3 := if bit v 2 then s2.isolateBit c true else s2
  let s4 := if bit v 3 then
      (if (s3.ctlRed c).state = .isolated then s3.enterTesting c else s3.wrBit Reg.RED_CMD 16 true)
    else s3
  if bit v 4 then (if (s4.ctlRed c).state = .standby then s4.enterTesting c else s4.wrBit Reg.RED_CMD 16 true) else s4

/-! ### Start-up (R411) -/

/-- CONTROLLER_BIST_DONE (R411), in step 5: the preferred controller that passes becomes ACTIVE, the other STANDBY or
ISOLATED; with neither the device halts. -/
def State.bistDone (s : State) (passA passB : Bool) : State :=
  if s.glb.state = .structured ∧ s.glb.step = 5 ∧ s.red.a.state = .isolated ∧ s.red.b.state = .isolated then
    let pa := passA && s.domOn 48
    let pb := passB && s.domOn 49
    let first : Ctl := if s.img.controller.preferB then .b else .a
    let ok (c : Ctl) : Bool := match c with | .a => pa | .b => pb
    if ok first then
      let s1 := s.setCtlState first .active
      if ok (otherCtl first) then s1.setCtlState (otherCtl first) .standby else s1
    else if ok (otherCtl first) then s.setCtlState (otherCtl first) .active
    else s.halt 1
  else s

/-! ### The commands -/

/-- ARBITRATION (R416). -/
def execArbitration (s : State) : Host.Outcome State Fault Refusal := .next s.arbitrate
/-- SWITCHOVER_START (R420). -/
def execSwitchoverStart (s : State) : Host.Outcome State Fault Refusal := .next s.switchoverStart
/-- SWITCHOVER_GAP_END (R420). -/
def execSwitchoverGapEnd (s : State) : Host.Outcome State Fault Refusal := .next s.gapEnds
/-- CONTROLLER_LOSS (R419). -/
def execControllerLoss (c : Ctl) (s : State) : Host.Outcome State Fault Refusal := .next (s.controllerLoss c)
/-- SWITCH (R418). -/
def execRedSwitch (p : CmdPort) (v : Word) (s : State) : Host.Outcome State Fault Refusal :=
  .next (s.access p Reg.RED_CMD 1 fun s => s.writeRedCmd p (withBit v 0))
/-- ISOLATE (R410). -/
def execRedIsolate (p : CmdPort) (v : Word) (s : State) : Host.Outcome State Fault Refusal :=
  .next (s.access p Reg.RED_CMD 1 fun s => s.writeRedCmd p (withBit v 1))
/-- SLEEP (R410). -/
def execRedSleep (p : CmdPort) (v : Word) (s : State) : Host.Outcome State Fault Refusal :=
  .next (s.access p Reg.RED_CMD 1 fun s => s.writeRedCmd p (withBit v 2))
/-- RETURN (R434). -/
def execRedReturn (p : CmdPort) (v : Word) (s : State) : Host.Outcome State Fault Refusal :=
  .next (s.access p Reg.RED_CMD 1 fun s => s.writeRedCmd p (withBit v 3))
/-- TEST (R434). -/
def execRedTest (p : CmdPort) (v : Word) (s : State) : Host.Outcome State Fault Refusal :=
  .next (s.access p Reg.RED_CMD 1 fun s => s.writeRedCmd p (withBit v 4))
/-- COPY_RECEIVED (R427). -/
def execCopyReceived (resent : Nat) (s : State) : Host.Outcome State Fault Refusal := .next (s.copyReceived resent)
/-- COPY_LATE (R426). -/
def execCopyLate (missing : Bool) (s : State) : Host.Outcome State Fault Refusal := .next (s.copyLate missing)
/-- SUSPECT_CLEAR (R417). -/
def execSuspectClear (s : State) : Host.Outcome State Fault Refusal := .next s.suspectClear
/-- BULK_DONE (R432). -/
def execBulkDone (resent : Nat) (s : State) : Host.Outcome State Fault Refusal := .next (s.bulkDone resent)
/-- DELTA_DONE (R432). -/
def execDeltaDone (s : State) : Host.Outcome State Fault Refusal := .next s.deltaDone
/-- SHADOW_DONE (R432). -/
def execShadowDone (s : State) : Host.Outcome State Fault Refusal := .next s.shadowDone
/-- STANDBY_ENGINE_TEST (R429). -/
def execStandbyEngineTest (pass : Bool) (s : State) : Host.Outcome State Fault Refusal := .next (s.engineTest pass)
/-- CONTROLLER_SCRUB (R430). -/
def execControllerScrub (c : Ctl) (corrected : Nat) (uncorrectable : Bool) (s : State) :
    Host.Outcome State Fault Refusal := .next (s.controllerScrub c corrected uncorrectable)
/-- SELFTEST_DONE (R434). -/
def execSelftestDone (c : Ctl) (pass : Bool) (s : State) : Host.Outcome State Fault Refusal := .next (s.selftestDone c pass)
/-- CONTROLLER_BIST_DONE (R411). -/
def execControllerBistDone (passA passB : Bool) (s : State) : Host.Outcome State Fault Refusal :=
  .next (s.bistDone passA passB)

end Sys2Proof.Machine
end

