-- ==== Sys2Proof/Machine/Faults.lean ====
section
/-! DEFINITION. Fault collection and reaction (15_fault_handling.md): counting windows and promotion (R438 to R440), records
(R441 to R445), the lasting actions of sources, the hardware safe state (R449, R454) and clearing (R452). -/

namespace Sys2Proof.Machine

open Sys2Proof

/-! ### Codes -/

/-- The block code and source index of a fault code (R436). -/
def codeBlk (c : BitVec 16) : Nat := c.toNat / 4096
def codeSrc (c : BitVec 16) : Nat := c.toNat % 4096

/-- The configuration word of a block. -/
def State.blkCfg (s : State) (b : Nat) : Word := s.rd (Reg.FLT_BLOCK_CFG + 4 * b)

/-- N and W (in ms) of a source; 0 is taken as 1 (R440). -/
def State.windowN (s : State) (c : BitVec 16) : Nat :=
  if codeBlk c = fbChip ∧ codeSrc c / 256 = 1 then max 1 s.flt.chipN1 else max 1 (fld (s.blkCfg (codeBlk c)) 7 0)
def State.windowW (s : State) (c : BitVec 16) : Nat := max 1 (fld (s.blkCfg (codeBlk c)) 23 8)

/-- A write of FLT_BLOCK_CFG sets N of every kind of its block. Writes to the words of codes 0xD to 0xF have no effect
(R605). -/
def State.writeBlockCfg (s : State) (p : CmdPort) (a : Nat) (v : Word) : State :=
  if Reg.FLT_BLOCK_CFG + 4 * 13 ≤ a then s
  else
    let s1 := s.plainWrite p a v
    if a = Reg.FLT_BLOCK_CFG + 4 * fbChip then { s1 with flt := { s1.flt with chipN1 := fld v 7 0 } } else s1

/-! ### Windows (R438) -/

/-- The detection time of a report in ns. -/
def SentFault.time (r : SentFault) : Nat := r.sec.toNat * 1000000000 + r.ns.toNat

/-- An occurrence of a class T fault in its source's window: whether it is promoted, and the windows after it. -/
def State.occurrence (s : State) (r : SentFault) : Bool × State :=
  let ws := s.flt.windows
  let rest := ws.filter fun w => decide (w.code ≠ r.code)
  let fresh : FltWindow := { code := r.code, start := r.time, count := 0, n := s.windowN r.code, w := s.windowW r.code }
  let w := match ws.find? fun w => decide (w.code = r.code) with
    | some w => if r.time ≤ w.start + w.w * 1000000 then w else fresh
    | none => fresh
  if w.n ≤ w.count + 1 then
    (true, { s with flt := { s.flt with windows := rest, promoted := s.flt.promoted ++ [r.code] } })
  else (false, { s with flt := { s.flt with windows := rest ++ [{ w with count := w.count + 1 }] } })

/-! ### Records (R441, R442, R445) -/

/-- The reaction of a fault: its class, and LOG for class T of a masked block (R446). -/
def State.reactionOf (s : State) (code : BitVec 16) (cls : Fin 4) : BitVec 2 :=
  if cls = 1 ∧ bit (s.blkCfg (codeBlk code)) 24 then 0 else BitVec.ofNat 2 cls.val

/-- The interrupt of a fault, as FLT_CTRL and FLT_BLOCK_CFG allow. -/
def State.fltIrq (s : State) (cls : Fin 4) (reaction : BitVec 2) : State :=
  if reaction = 0 then s
  else match cls with
    | 3 => s.irq 0
    | 2 => s.irqIf Reg.FLT_CTRL 1 0
    | _ => s.irqIf Reg.FLT_CTRL 0 0

/-- Replace a record of the ring. -/
def State.setFltRecord (s : State) (i : Nat) (r : FltRecord) : State :=
  { s with flt := { s.flt with ring := Sparse.set (fun _ => {}) s.flt.ring i r } }

/-- One more fault in a record (R442). -/
def FltRecord.merge (r : FltRecord) (e : FltEntry) (reaction : BitVec 2) : FltRecord :=
  let full := decide (28 ≤ r.entries.length)
  { r with
    entries := if full then r.entries else r.entries ++ [e]
    mergeOvf := r.mergeOvf || full
    count := if r.count = 0xFFFF then r.count else r.count + 1
    reaction := if r.reaction < reaction then reaction else r.reaction
    safe := r.safe || decide (e.cls = 3) }

/-- A fault opens a record, or merges into the open one. -/
def State.record (s : State) (r : SentFault) (cls : Fin 4) (promoted : Bool) : State :=
  let k := s.reactionOf r.code cls
  match s.flt.openRec with
  | some i =>
    let old := s.fltRecord i.val
    let e : FltEntry := { code := r.code, cls := cls, promoted := promoted, persist := false,
                          tsNs := BitVec.ofNat 32 r.time }
    let s1 := s.setFltRecord i.val (old.merge e k)
    if old.reaction < k then s1.fltIrq cls k else s1
  | none =>
    let i : Fin 256 := ⟨s.flt.nextSeq.toNat % 256, by omega⟩
    let new : FltRecord :=
      { code := r.code, cls := cls, reaction := k, isOpen := true, safe := decide (cls = 3), promoted := promoted,
        seq := s.flt.nextSeq, detSec := r.sec.setWidth 32, detNs := r.ns, count := 1 }
    let s1 := s.setFltRecord i.val new
    let s2 := { s1 with flt := { s1.flt with openRec := some i, lastIdx := i, nextSeq := s1.flt.nextSeq + 1 } }
    (s2.fltIrq cls k).eventAtTime 0x30 (r.time * 4294967296)

/-! ### Lasting actions (Table: Fault sources, R446) -/

/-- The element of a code of ELEM0 or ELEM1. -/
def codeElem (c : BitVec 16) : Nat := if codeBlk c = fbElem1 then 4096 + codeSrc c else codeSrc c

/-- R119: a selector element enters HOLD at the next sample boundary, with a lasting fault of its bank. -/
def State.holdSelector (s : State) (e : Nat) : State :=
  (s.modElem e fun x => { x with modeDue := some .hold }).raise (faultCode fbMtx (256 + (e - 4608) / 16)) 2

/-- The controller that a source index of CTL names. -/
def ctlOf (n : Nat) : Ctl := if n % 2 = 0 then .a else .b

/-- The action that a lasting fault of a source starts at the collector. The actions of the other blocks belong to the event
that raised the fault. -/
def State.lastingAction (s : State) (code : BitVec 16) : State :=
  let b := codeBlk code
  if b = fbElem0 ∨ b = fbElem1 then
    if isMatrix (codeElem code) then s.recordPark (codeElem code) else s.holdSelector (codeElem code)
  else if b = fbCtl then
    let c := ctlOf (codeSrc code)
    match (s.ctlRed c).state with
    | .active => s.loseActive .activeFault
    | .isolated => s
    | _ => s.isolateCtl c
  else s

/-! ### Reports (R443) -/

/-- Earlier detection first, ties by the lower code. -/
def SentFault.before (p q : SentFault) : Bool :=
  decide (p.time < q.time) || (decide (p.time = q.time) && decide (p.code.toNat ≤ q.code.toNat))

/-- Count a fault of a class (FLT_CLASS_COUNT). -/
def State.countClass (s : State) (cls : Fin 4) : State := s.bump (0x200020 + 8 * cls.val) 1

/-- A lasting fault reaches the collector. -/
def State.collectLasting (s : State) (r : SentFault) (promoted : Bool) : State :=
  ((s.countClass 2).record r 2 promoted).lastingAction r.code

/-- A report reaches the collector. -/
def State.collect (s : State) (r : SentFault) : State :=
  if r.cls = 1 then
    if s.flt.promoted.contains r.code then s.countClass 1
    else
      let o := s.occurrence r
      if o.1 then (o.2.bump 0x200040 1).collectLasting r true else (o.2.countClass 1).record r 1 false
  else if r.cls = 2 then s.collectLasting r false
  else (s.countClass r.cls).record r r.cls false

/-- The code that a report carries. -/
def FaultRep.code (r : FaultRep) : BitVec 16 := faultCode r.block.val r.src.toNat

/-- FAULT_REPORT: the report that is next in the collector's order (R443). -/
def State.faultReport (s : State) (r : FaultRep) : State :=
  match sortBy SentFault.before s.flt.sent with
  | [] => s
  | q :: _ =>
    if q.code = faultCode r.block.val r.src.toNat ∧ q.cls = r.cls then
      ({ s with flt := { s.flt with sent := s.flt.sent.erase q } }).collect q
    else s

/-! ### The hardware safe state (R449, R454) -/

/-- The hardware safe state takes hold everywhere (R449); it abandons a drain (R495, R557). -/
def State.enterSafe (s : State) : State :=
  let s1 := { s with flt := { s.flt with safe := true, safeEnding := false } }
  let s2 := if s.flt.safe then s1 else (List.range 512).foldl State.startLf (s1.event 0x31)
  s2.abandonDrains

/-- SAFE_STATE_ENTRY: the signal is received everywhere. -/
def State.safeEntry (s : State) : State :=
  if s.flt.signals.isEmpty then s else ({ s with flt := { s.flt with signals := [] } }).enterSafe

/-- SAFE_STATE_EXIT (R454): the safe state ends at the slot boundary at which the slot in progress began. -/
def State.safeExit (s : State) : State :=
  if s.flt.safe && s.flt.safeEnding then
    let s1 := { s with
      flt := { s.flt with safe := false, safeEnding := false, outHeld := true }
      ports := Sparse.mapVals (fun _ => {}) (fun x => { x with txLf := false }) s.ports }
    s1.endSafeHold s1.slt.slot
  else s

/-! ### Clearing (R452) -/

/-- The live condition of an element is absent. -/
def State.elemQuiet (s : State) (e : Nat) : Bool :=
  !(s.chan e).compliance && !(s.chan e).openload && !(s.elem s.actCtl e).pl.implausible

/-- Class T of Table: Cause tests, and R472. -/
def State.transientGone (s : State) (code : BitVec 16) : Bool :=
  let b := codeBlk code
  if b = fbElem0 ∨ b = fbElem1 then s.elemQuiet (codeElem code)
  else if b = fbCal then
    let x := s.calSet (codeSrc code)
    x.crcGood || (!x.valid && !s.cal.dirty)
  else if b = fbThm then !(s.zone (codeSrc code)).warn && !(s.zone (codeSrc code)).throttle
  else true

/-- Class L of Table: Cause tests. -/
def State.lastingDone (s : State) (code : BitVec 16) : Bool :=
  let b := codeBlk code
  let n := codeSrc code
  if b = fbElem0 ∨ b = fbElem1 then
    if isMatrix (codeElem code) then s.isParked (codeElem code)
    else decide ((s.elem s.actCtl (codeElem code)).mode = .hold)
  else if b = fbEmit then (s.bank (n / 17)).takeover.isNone
  else if b = fbEng then
    let c := ctlOf (n / 64)
    (s.servedBy c (s.engine c (n % 64)).logical).isSome || (s.freeSpares c).isEmpty
  else if b = fbAdc then !s.adc.fresh.any fun u => decide (u.val = n)
  else if b = fbPort then s.mtx.isolated.contains n || !(s.bank (n / 16)).dark.getLsbD (n % 16)
  else if b = fbChip ∧ n / 256 = 2 then (s.chip (n % 256)).lost || s.chipOn (n % 256)
  else if b = fbCtl then decide ((s.ctlRed (ctlOf n)).state ≠ .active)
  else true

/-- Class S of Table: Cause tests. -/
def State.safetyGone (s : State) (code : BitVec 16) : Bool :=
  codeBlk code = fbSys && ((codeSrc code = 0 && s.glb.pllLock) || (codeSrc code = 4 && s.flt.vinGood))

/-- The cause of a fault is gone. -/
def State.causeGone (s : State) (code : BitVec 16) (cls : Fin 4) : Bool :=
  match cls with
  | 3 => s.safetyGone code
  | 2 => s.lastingDone code
  | _ => s.transientGone code

/-- The record closes: the clear time, the sources that reopen their windows (every promotion since the last clear stands in this
record, R439), the NVM log, and the end of the safe state
that it forced, unless a later safety fault is on its way to the collector. -/
def State.closeRecord (s : State) (i : Fin 256) (byRestart : Bool) : State :=
  let r := s.fltRecord i.val
  let done : FltRecord :=
    { r with isOpen := false, clearedByRestart := byRestart, clrSec := s.tim.dt.sec.setWidth 32, clrNs := s.tim.dt.ns }
  let log := s.rdBit Reg.FLT_CTRL 4 && decide (2 ≤ r.reaction)
  let s1 := s.setFltRecord i.val done
  let later := s.flt.sent.any (fun q => decide (q.cls = 3)) || !s.flt.signals.isEmpty
  { s1 with flt := { s1.flt with
    openRec := none
    promoted := []
    nvmLog := if log && s.thm.nvmOk then s1.flt.nvmLog ++ [done] else s1.flt.nvmLog
    nvmWait := if log && !s.thm.nvmOk then s1.flt.nvmWait ++ [done] else s1.flt.nvmWait
    safeEnding := s1.flt.safeEnding || (r.safe && !later) } }

/-- A clear is judged. -/
def State.clearRecord (s : State) : State :=
  match s.flt.openRec with
  | none => s
  | some i =>
    let r := s.fltRecord i.val
    let first := s.causeGone r.code r.cls
    let es := r.entries.map fun e => { e with persist := !s.causeGone e.code e.cls }
    if first && es.all fun e => !e.persist then s.closeRecord i false
    else
      ((s.setFltRecord i.val { r with persist := !first, entries := es }).wrBit Reg.FLT_CLEAR 1 true).bump 0x200044 1

/-- A write of FLT_CLEAR. -/
def State.writeClear (s : State) (p : CmdPort) (v : Word) : State :=
  let s1 := s.plainWrite p Reg.FLT_CLEAR v
  if bit v 0 then s1.clearRecord else s1

/-! ### The commands -/

/-- FAULT_REPORT (R442). -/
def execFaultReport (r : FaultRep) (s : State) : Host.Outcome State Fault Refusal := .next (s.faultReport r)
/-- SAFE_STATE_ENTRY (R449). -/
def execSafeStateEntry (s : State) : Host.Outcome State Fault Refusal := .next s.safeEntry
/-- FAULT_CLEAR: FLT_CLEAR.GO (R452). -/
def execFaultClear (p : CmdPort) (v : Word) (s : State) : Host.Outcome State Fault Refusal :=
  .next (s.access p Reg.FLT_CLEAR 1 fun s => s.writeClear p (withBit v 0))
/-- SAFE_STATE_EXIT (R454). -/
def execSafeStateExit (s : State) : Host.Outcome State Fault Refusal := .next s.safeExit

end Sys2Proof.Machine
end

