-- ==== Sys2Proof/Machine/Power.lean ====
section
/-! DEFINITION. The loss of a power domain (R562, R598), zeroization (R337, R536 to R538), the device restart (R560, R561) and
what VIN and PWR_EN do (R577 to R580). -/

namespace Sys2Proof.Machine

open Sys2Proof

/-! ### Loss of a domain (R562) -/

/-- R598: frames that a lost lane domain had taken and not delivered are discarded, and the port's crossing is reset. -/
def State.txAbort (s : State) (k : Nat) : State :=
  let c := chipOf k
  let x := s.port k
  let owed := (s.crossing (txCrossing k)).inFlight
  let s1 := match x.tx with
    | none => s
    | some t => ((s.freeHold t.queue t.segs).countDiscard c drTxAbort).dropPkt t.pkt
  let s2 := if owed = 0 then s1 else s1.ledgerEvent c (.discard drTxAbort (BitVec.ofInt 64 owed))
  (s2.setPort k { s2.port k with tx := none }).setCrossing (txCrossing k) {}

/-- A port whose lane domain is lost: its link drops, it is no longer ready, and its receiver's entries are not VALID
(R230). -/
def State.dropLane (s : State) (k : Nat) : State :=
  let s1 := s.setPort k { (s.port k).off 0 with ready := false, paused := [] }
  s1.setRx k {}

/-- The ports of a lane domain. -/
def lanePorts (d : Nat) : List Nat := (List.range 16).map fun i => 16 * d + i

/-- The loss of a lane domain: TX_ABORT is counted by a packet core that has power. -/
def State.loseLane (s : State) (d : Nat) : State :=
  let on := s.chipOn (d / 2)
  (lanePorts d).foldl (fun s k =>
    let s1 := if on then s.txAbort k else s.setCrossing (txCrossing k) {}
    s1.dropLane k) (s.setDom d false)

/-- The loss of a packet-core domain: its two lane domains switch off with it (R562), and a drain is abandoned (R495). The
chiplet's loss is recognised by CHIPLET_LOSS. -/
def State.loseCore (s : State) (c : Nat) : State :=
  ((((s.setDom (coreDomain c) false).loseLane (2 * c)).loseLane (2 * c + 1))).abandonDrains

/-- The loss of a controller's domain: a controller that is not active is ISOLATED; the active one is lost under R412. -/
def State.loseCtl (s : State) (c : Ctl) : State :=
  let s1 := (s.setDom (ctlDomain c) false).stopLoupes c
  if (s.ctlRed c).state = .active then s1 else s1.isolateCtl c

/-- Table: Converter outputs at each boundary: a channel whose heater quadrant is lost. -/
def Chan.dark (c : Chan) : Chan :=
  { c with latest := 0, out := 0, latestSb := 0, outSb := 0, deferred := false, deferredSb := false
           levBar := 0, levCross := 0, tgtBar := 0, tgtCross := 0, sbBar := 0, sbCross := 0 }

/-- The elements of a heater quadrant as select bits. -/
def quadrantBits (q : Nat) : BitVec 5120 :=
  (List.range 5120).foldl (fun b e => if quadrantOf e = q then b ||| BitVec.ofNat 5120 (2 ^ e) else b) 0

/-- A heater quadrant goes dark: 0 mA at once, level codes 0, selects BAR. -/
def State.darkQuadrant (s : State) (q : Nat) : State :=
  let s1 := s.setDom (50 + q) false
  { s1 with drv := { s1.drv with
      chans := Sparse.mapWith (fun _ => {}) (fun e c => if quadrantOf e = q then c.dark else c) s1.drv.chans
      sel := s1.drv.sel &&& ~~~(quadrantBits q) } }

/-- The banks of a laser bank group. -/
def groupBanks (g : Nat) : List Nat := (List.range 4).map fun i => 4 * g + i

/-- A laser bank group without power: its emitters are off, and its modulators dark (R46, R448). A takeover that waits is
refused (R47). -/
def State.loseLasers (s : State) (g : Nat) : State :=
  (groupBanks g).foldl (fun s n =>
    let s1 := (List.range 17).foldl (fun s i => s.setEmitter n i { s.emitter n i with on := false, dB := 0 }) s
    let b := s1.bank n
    let a := Reg.MTX_LB_CFG + 4 * n
    let s2 := if b.takeover.isSome && s1.rdBit a 4 then (s1.wrBit a 4 false).wrBit (Reg.MTX_LB_STATUS + 4 * n) 23 true else s1
    (s2.setBank n { b with spareUsed := false, takeover := none, release := false, unlit := true }).updateDark n)
    (s.setDom (54 + g) false)

/-- An emitter goes off. -/
def Emitter.dim (x : Emitter) : Emitter := { x with on := false }

/-- All emitters go off. -/
def State.emittersOff (s : State) : State :=
  { s with mtx := { s.mtx with emitters := Sparse.mapVals (fun _ => {}) Emitter.dim s.mtx.emitters } }

/-- Every domain except always-on goes off at once: the links drop, the heater quadrants go dark (R142), the emitters off. -/
def State.domainsOff (s : State) : State :=
  let s1 := { s.emittersOff with glb := { s.glb with pg := s.glb.pg &&& 0x8000000000000000 } }
  let s2 := (List.range 32).foldl (fun t d => if s.domOn d then t.loseLane d else t) s1
  (List.range 4).foldl State.darkQuadrant s2

/-- What the loss of a domain brings, whoever switched it off. A restart of the domain under way ends with it. -/
def State.loseDomain (s : State) (d : Nat) : State :=
  let s1 :=
    if d < 32 then s.loseLane d
    else if d < 48 then s.loseCore (d - 32)
    else if d < 50 then s.loseCtl (ctlOf d)
    else if d < 54 then s.darkQuadrant (d - 50)
    else if d < 62 then s.loseLasers (d - 54)
    else s.setDom d false
  if s1.glb.domRestart.any fun x => decide (x.val = d) then
    { s1 with glb := { s1.glb with domRestart := none, powerOrder := [] } }
  else s1

/-- The fault of a power domain. -/
def State.raisePwr (s : State) (d : Nat) : State := s.raise (faultCode fbPwr d) 2

/-- A safety fault of the system. -/
def State.raiseSys (s : State) (n : Nat) : State := s.raise (faultCode fbSys n) 3

/-! ### Zeroization (R337, R536 to R538) -/

/-- The code of a trigger in the audit record. -/
def ZeroCause.code : ZeroCause → Nat
  | .command => 0
  | .pin => 1
  | .retire => 2

/-- A chiplet as a zeroization clears it at a packet-clock cycle: its stack's regions, meter buckets, node cache and parse
buffers. The repair map and the carving stay. -/
def Chip.zeroed (x : Chip) (on : Bool) (now : Nat) : Chip :=
  let m0 (m : Meter) : Meter := { m with tok1 := 0, tok2 := 0, cycle := now, pend := [] }
  { x with
    engines := [], recirc := [], lookups := [], cache := [], tbl := [], poisoned := [], tblPoisoned := []
    packet := {}, hold := {}, voq := [], queues := []
    meters := x.meters.map fun p => (p.1, p.2.map m0)
    meter0 := m0 x.meter0
    zeroBusy := on, zeroDone := false, zeroIncomplete := false }

/-- A zeroization discards a packet that is resident: a pin that it holds is released (R297), and credit of segments that were
not sent too (R347). -/
def State.zeroPkt (s : State) (p : Pkt) : State :=
  let s1 := s.unpin (chipOf p.rxPort) p
  if p.credited && !p.moved then s1.sendRelease (chipOf p.ing) p.eg p.cls p.unsent else s1

/-- R348: at a zeroization the segments of every frame leave the egress-hold regions: those in queues, in bursts held, in a
frame put together, and in transmission. -/
def State.emptyHolds (s : State) : State :=
  let s1 := s.brt.egr.foldl (fun s x => s.freeHold (x.1 % 512) ((x.2.held.flatMap EBurst.segs) ++ x.2.part)) s
  let s2 := (List.range 16).foldl (fun s c => (s.chip c).queues.foldl (fun s q =>
    q.2.foldl (fun s f => s.freeHold (32 * c + q.1 / 128) f.2) s) s) s1
  s2.ports.foldl (fun s x => match x.2.tx with | some t => s.freeHold t.queue t.segs | none => s) s2

/-- A RELEASE. -/
def Msg.isRelease : Msg → Bool
  | .release _ _ _ _ => true
  | .notice _ _ _ _ _ | .ack _ _ _ | .nack _ _ _ _ | .gapReq _ _ _ _ | .gap _ _ _ => false

/-- R337, R536: what a zeroization does at once, after its safety fault: the ledger, the packets, the stacks, the volatile
image key, the staging buffer, CMD_MB_DATA and the buffers of parsing and MACs. A commit in progress ends (R538). -/
def State.zeroize (s : State) (cause : ZeroCause) : State :=
  let s0 := (s.raiseSys 1).emptyHolds
  let s1 := s0.pkts.foldl (fun s x => match x.2 with | some p => s.zeroPkt p | none => s) s0
  let s2 := (List.range 16).foldl (fun s c => s.ledgerEvent c (.discard drZeroize (s.ledger c).resident)) s1
  let s3 := (List.range 64).foldl (fun s w => s.wr (Reg.CMD_MB_DATA + 4 * w) 0) s2
  { s3 with
    pkts := []
    chips := Vector.ofFn fun c => (s3.chips[c]).zeroed (s3.chipOn c.val) (2 * s3.tim.ticks)
    ports := Sparse.mapVals (fun _ => {}) (fun x => { x with inbuf := [], tx := none, replies := [], lastFrame := [] }) s3.ports
    brt := { s3.brt with
      ing := Sparse.mapVals (fun _ => {}) (fun x => { x with bursts := [], span := none }) s3.brt.ing
      egr := Sparse.mapVals (fun _ => {}) (fun x => { x with held := [], notices := [], part := [] }) s3.brt.egr
      mesh := s3.brt.mesh.filter Msg.isRelease, staged := [], flights := [] }
    sec := { s3.sec with volKey := none, keyShut := true, zeroizing := some cause, zeroHeld := none }
    img := { s3.img.cleared .empty none with
      commitBusy := false, commitWait := false
      verifying := match s3.img.verifying with | some (.slot i) => some (.slot i) | _ => none } }

/-- Start-up has not completed DRAM training (R538). -/
def State.beforeTraining (s : State) : Bool := decide (s.glb.state ∈ [.off, .aon, .boot]) || decide (s.glb.step ≤ 5)

/-- A trigger of zeroization, audited: it joins one in progress, is held before training, or is performed. -/
def State.trigger (s : State) (cause : ZeroCause) (port cls : Nat) (target : Word) : State :=
  let s1 := s.audit 0x25 port cls target (BitVec.ofNat 32 cause.code)
  if s.sec.zeroizing.isSome then s1
  else if s.beforeTraining then
    { s1 with sec := { s1.sec with zeroHeld := s1.sec.zeroHeld.orElse fun _ => some cause } }
  else s1.zeroize cause

/-- The end of the writing at a chiplet. -/
def Chip.zeroEnd (x : Chip) (failed : Bool) : Chip :=
  { x with zeroBusy := false, zeroDone := !failed, zeroIncomplete := failed }

/-! ### Device restart (R560, R561) -/

/-- What a chiplet's part of the repair map keeps over a restart. -/
def Chip.kept (x : Chip) : Chip :=
  { pages := x.pages.filter fun p => p.recorded, pchMap := x.pchMap, spares := x.spares, laneFailed := x.laneFailed }

/-- Table: Authorization before any image (R502), by variant. -/
def rowsBeforeImage (variantH : Bool) : Vector (BitVec 4) 6 :=
  if variantH then #v[0b0011, 0, 0b0010, 0b0010, 0, 0] else #v[0b1011, 0, 0b0011, 0b0010, 0, 0b1000]

/-- R561: every domain but always-on goes off and returns to reset; the always-on records, the NVM and the fuses stay. The
device is in AON, at step 2. -/
def State.powerDown (s : State) : State :=
  let s1 := match s.flt.openRec with
    | some i => s.closeRecord i true
    | none => s
  let r := State.reset
  let ext := s1.rdBit Reg.CAL_CTRL 1
  let slot (x : ImgSlot) : ImgSlot := { x with passed := false }
  ({ r with
    pending := s1.pending
    freeCtr := s1.freeCtr
    cmd := { r.cmd with rows := rowsBeforeImage s1.sec.variantH }
    sec := { s1.sec with volKey := none, fuse := none, requireEnc := false, zpinEn := true, coalesce := true, zeroizing := none
                         zeroHeld := none, retirePending := none, keyShut := false }
    flt := { r.flt with ring := s1.flt.ring, lastIdx := s1.flt.lastIdx, nextSeq := s1.flt.nextSeq, nvmWait := s1.flt.nvmWait
                        nvmLog := s1.flt.nvmLog, vinGood := s1.flt.vinGood }
    thm := { r.thm with events := s1.thm.events, nvmLog := s1.thm.nvmLog, lost := s1.thm.lost
                        picLatched := s1.thm.picLatched, coreLatched := s1.thm.coreLatched }
    glb := { r.glb with prev := s1.glb.state, vin := s1.glb.vin, pwrEn := s1.glb.pwrEn, zeroizeN := s1.glb.zeroizeN }
    img := { r.img with slot0 := slot s1.img.slot0, slot1 := slot s1.img.slot1 }
    drv := { r.drv with picOff := s1.drv.picOff }
    adc := { r.adc with map := s1.adc.map }
    mtx := { r.mtx with factory := s1.mtx.factory, field := s1.mtx.field }
    cal := { r.cal with sets := s1.cal.sets }
    ports := Sparse.mapVals (fun _ => {}) (fun x => { lane := x.lane }) s1.ports
    chips := s1.chips.map Chip.kept }).wrBit Reg.CAL_CTRL 1 ext

/-- R560 step 2: nothing that must complete is in progress. -/
def State.mayPowerDown (s : State) : Bool :=
  s.sec.zeroizing.isNone && !s.img.commitBusy && !s.img.commitWait && s.cal.storing.isNone && s.sec.fuse.isNone && s.sec.retirePending.isNone

/-- A restart that waits goes on when it may. A zeroization whose writing has ended does not hold it. -/
def State.restartIfReady (s : State) : State :=
  if s.glb.restart = .waiting ∧ s.mayPowerDown = true then s.powerDown else s

/-- Step 1 of R560. -/
def State.beginRestart (s : State) : State :=
  ({ s.enterSafe with glb := { s.enterSafe.glb with restart := .waiting } }).restartIfReady

/-- A shut-down that only a power cycle ends is latched (R467). -/
def State.latched (s : State) : Bool := s.thm.picLatched || s.thm.coreLatched

/-- A write of GLB_RESTART. -/
def State.writeRestart (s : State) (p : CmdPort) (v : Word) : State :=
  let s1 := s.plainWrite p Reg.GLB_RESTART v
  if bit v 0 then (if s1.latched then s1.wrBit Reg.GLB_RESTART 1 true else s1.beginRestart) else s1

/-- ZEROIZATION_DONE (R337): the writing ends, with the stacks that could not be written; the device halts, and a restart
that waits goes on. The fuse steps of a RETIRE follow (R523). -/
def State.zeroEnd (s : State) (failed : BitVec 16) : State :=
  match s.sec.zeroizing with
  | none => s
  | some cause =>
    let s1 := { s with
      chips := Vector.ofFn fun c => (s.chips[c]).zeroEnd (failed.getLsbD c.val)
      sec := { s.sec with
        zeroizing := none, retirePending := none
        fuse := match s.sec.retirePending with | some o => some (.retire, o) | none => s.sec.fuse } }
    let s2 := if failed = 0 then s1 else s1.audit 0x26 0 0 0 (failed.setWidth 32)
    (s2.halt (if cause = .retire || s.sec.retirePending.isSome then 4 else 3)).restartIfReady

/-! ### VIN and PWR_EN (R577 to R580) -/

/-- R532: the fuse field of an operation that a loss of VIN interrupts. A partly programmed slot reads as revoked, a partly
programmed image key as destroyed; what a partly programmed floor or lifecycle reads is a free value (assumption 15). -/
def State.cutFuse (s : State) : State :=
  match s.sec.fuse with
  | none => s
  | some (op, _) =>
    let f := s.free
    let x := f.2.sec
    let slot (i : Fin 4) : SecSt :=
      { x with slots := x.slots.set i { x.slots[i] with partly := true, revoked := true }
               partialAt := x.partialAt ||| BitVec.ofNat 7 (2 ^ i.val) }
    let y : SecSt := match op with
      | .provision i _ => slot i
      | .revoke i => slot i
      | .imageKey _ => { x with imageKey := .destroyed, partialAt := x.partialAt ||| 16 }
      | .svn _ => { x with minSvn := f.1.setWidth 8, partialAt := x.partialAt ||| 32 }
      | .retire => { x with lifecycle := if bit f.1 0 then .retired else x.lifecycle, partialAt := x.partialAt ||| 64 }
    { f.2 with sec := { y with fuse := none } }

/-- Nothing has power: what is kept is the NVM and the fuses. -/
def State.powerOff (s : State) : State :=
  let s1 := s.cutFuse
  let s2 := s1.powerDown
  { s2 with
    regs := []
    sec := { s2.sec with sram := [], lost := 0, overwritten := 0, lostNew := 0 }
    flt := { nvmLog := s2.flt.nvmLog }
    thm := { nvmLog := s2.thm.nvmLog }
    drv := {}
    glb := { s2.glb with state := .off, prev := .off, step := 1, pg := 0, vin := .absent } }

/-- VIN_RISE (R577, R578): VIN rises through 4.5 V from below, or has stayed in range for 10 ms after it was out of range. -/
def State.vinRise (s : State) : State :=
  if s.glb.state = .off then { s with glb := { s.glb with vin := .rising } }
  else if s.glb.vin = .outOfRange then
    { s with glb := { s.glb with vin := .good }, flt := { s.flt with vinGood := true } }
  else s

/-- AON_UP (R556): the always-on domain reports power-good: step 1 ends. -/
def State.aonUp (s : State) : State :=
  if s.glb.state = .off ∧ s.glb.vin = .rising then
    ({ s with glb := { s.glb with state := .aon, prev := .off, pg := 0x8000000000000000, vin := .good } }).stepEnd 1
  else s

/-- VIN_OUT_OF_RANGE (R578). -/
def State.vinBad (s : State) : State :=
  if s.glb.vin = .good then
    ({ s with glb := { s.glb with vin := .outOfRange }, flt := { s.flt with vinGood := false } }).raiseSys 4
  else s

/-- VIN_COLLAPSE: below 4.20 V every domain but always-on goes off; writes that are not under way do not start, and the SRAM
records are lost (R470, R471, R540). -/
def State.vinCollapse (s : State) : State :=
  if s.glb.state = .off then s
  else
    let s := s.domainsOff
    { s with
      glb := { s.glb with vin := .collapsed }
      sec := { s.sec with sram := [] }
      thm := { s.thm with events := [], nvmOk := false }
      img := { s.img with commitBusy := false, commitWait := false }
      cal := { s.cal with storing := none, storeWait := false, storeNext := none } }

/-- HOLDUP_EXPIRY: 2 ms later always-on goes off. -/
def State.holdupExpiry (s : State) : State := if s.glb.vin = .collapsed then s.powerOff else s

/-- PWR_EN_FALL (R579): steps 1 to 3 of R560, and AON. After a latched shut-down only a power cycle leaves HALTED. -/
def State.pwrEnFall (s : State) : State :=
  let s1 := { s with glb := { s.glb with pwrEn := false } }
  if s.glb.state = .off ∨ s.glb.state = .aon ∨ s.latched = true then s1 else s1.beginRestart

/-- DOMAIN_POWER_LOSS (R562). The loss of always-on behaves as that of VIN. -/
def State.domainPowerLoss (s : State) (d : Nat) : State :=
  if !s.domOn d then s
  else if d = 63 then s.powerOff
  else
    let s1 := (s.loseDomain d).raisePwr d
    if (50 ≤ d ∧ d < 54) ∨ d = 62 then s1.raiseSys 3 else s1

/-- R142: the heaters of a photonic shut-down have reached 0 mA: the level codes go to 0 and the quadrants off. -/
def State.picSettle (s : State) : State :=
  if s.drv.picOff && s.drv.chans.all fun x => decide (x.2.out = 0) then (List.range 4).foldl State.darkQuadrant s else s

/-! ### The commands -/

/-- SLEW_STEP (R131), and the end of the ramps of a photonic shut-down (R142). -/
def execSlewStep (e : Fin 5120) (s : State) : Host.Outcome State Fault Refusal := .next (s.slewStep e.val).picSettle
/-- COMMIT_DONE (R486), for which a device restart waits (R560). -/
def execCommitDone (s : State) : Host.Outcome State Fault Refusal := .next s.commitDone.restartIfReady
/-- STORE_COMPLETE (R185), for which a device restart waits (R560). -/
def execStoreComplete (s : State) : Host.Outcome State Fault Refusal := .next s.storeComplete.restartIfReady
/-- ZEROIZATION_DONE (R337). -/
def execZeroizationDone (failed : BitVec 16) (s : State) : Host.Outcome State Fault Refusal := .next (s.zeroEnd failed)
/-- DEVICE_RESTART: GLB_RESTART.GO (R560). -/
def execDeviceRestart (p : CmdPort) (v : Word) (s : State) : Host.Outcome State Fault Refusal :=
  .next (s.access p Reg.GLB_RESTART 2 fun s => s.writeRestart p (withBit v 0))
/-- DOMAIN_POWER_LOSS (R562). -/
def execDomainPowerLoss (d : Fin 64) (s : State) : Host.Outcome State Fault Refusal := .next (s.domainPowerLoss d.val)
/-- VIN_RISE (R577). -/
def execVinRise (s : State) : Host.Outcome State Fault Refusal := .next s.vinRise
/-- AON_UP (R556). -/
def execAonUp (s : State) : Host.Outcome State Fault Refusal := .next s.aonUp
/-- VIN_OUT_OF_RANGE (R578). -/
def execVinOutOfRange (s : State) : Host.Outcome State Fault Refusal := .next s.vinBad
/-- VIN_COLLAPSE (R580). -/
def execVinCollapse (s : State) : Host.Outcome State Fault Refusal := .next s.vinCollapse
/-- HOLDUP_EXPIRY (R470). -/
def execHoldupExpiry (s : State) : Host.Outcome State Fault Refusal := .next s.holdupExpiry
/-- PWR_EN_FALL (R579). -/
def execPwrEnFall (s : State) : Host.Outcome State Fault Refusal := .next s.pwrEnFall
/-- PWR_EN_RISE (R579): start-up goes on from step 2. -/
def execPwrEnRise (s : State) : Host.Outcome State Fault Refusal := .next { s with glb := { s.glb with pwrEn := true } }

end Sys2Proof.Machine
end

