-- ==== Sys2Proof/Machine/Thermal.lean ====
section
/-! DEFINITION. Thermal supervision (16_thermal_supervision.md): sensors (R459 to R461), thresholds (R462, R463), throttle
(R464 to R466), shut-down (R467), the NVM window (R469, R470) and the thermal log (R471). -/

namespace Sys2Proof.Machine

open Sys2Proof

/-- Replace a zone. -/
def State.setZone (s : State) (z : Nat) (x : Zone) : State :=
  { s with thm := { s.thm with zones := Sparse.set (fun _ => {}) s.thm.zones z x } }

/-- R471: a thermal event record goes into the SRAM of 16 records, or is lost. -/
def State.thermalEvent (s : State) (kind : Fin 3) (z : Nat) : State :=
  if 16 ≤ s.thm.events.length then { s with thm := { s.thm with lost := s.thm.lost + 1 } }
  else
    let r : ThermalRec := { kind := kind, zone := z, sec := s.tim.dt.sec, ns := s.tim.dt.ns }
    { s with thm := { s.thm with events := s.thm.events ++ [r] } }

/-- The fault of a zone. -/
def State.raiseThm (s : State) (z : Nat) (cls : Fin 4) : State := s.raise (faultCode fbThm z) cls

/-! ### Thresholds (R462) -/

/-- A threshold in 1/16 °C. -/
def threshold (z : Nat) (t : Threshold) : Int :=
  let base : Int := if zoneKind z = 0 then 95 else 75
  match t with
  | .warning => 16 * base
  | .throttle => 16 * (base + 10)
  | .shutdown => 16 * (base + 20)

/-- The release point of a threshold: 3 °C below. -/
def releasePoint (z : Nat) (t : Threshold) : Int := threshold z t - 48

/-- A threshold is asserted. -/
def Zone.asserted (z : Zone) : Threshold → Bool
  | .warning => z.warn
  | .throttle => z.throttle
  | .shutdown => z.shutdown

/-- Set or clear a threshold. -/
def Zone.mark (z : Zone) (t : Threshold) (on : Bool) : Zone :=
  match t with
  | .warning => { z with warn := on }
  | .throttle => { z with throttle := on }
  | .shutdown => { z with shutdown := on }

/-- The dwells of a threshold. -/
def Zone.dwell (z : Zone) : Threshold → ThrDwell
  | .warning => z.warnD
  | .throttle => z.throttleD
  | .shutdown => z.shutdownD

/-! ### Dwells (R463, R469) -/

/-- One more reading of sensor k: it goes on with the dwell, or breaks it. -/
def Dwell.step (d : Dwell) (k : Fin 2) (holds : Bool) : Dwell :=
  if holds then (if k = 0 then { d with n0 := d.n0 + 1 } else { d with n1 := d.n1 + 1 }) else {}

/-- The condition has lasted n times 100 µs without interruption. -/
def Dwell.lasted (d : Dwell) (n : Nat) : Bool := decide (n + 1 ≤ max d.n0 d.n1)

/-- The dwells of a threshold after a reading that leaves the zone at temperature v. -/
def ThrDwell.step (d : ThrDwell) (z : Nat) (t : Threshold) (k : Fin 2) (v : Int) : ThrDwell :=
  { up := d.up.step k (decide (threshold z t ≤ v)), down := d.down.step k (decide (v ≤ releasePoint z t)) }

/-- All dwells of zone z after a reading of sensor k. -/
def Zone.dwells (x : Zone) (z : Nat) (k : Fin 2) : Zone :=
  let v := x.temp
  { x with
    warnD := x.warnD.step z .warning k v
    throttleD := x.throttleD.step z .throttle k v
    shutdownD := x.shutdownD.step z .shutdown k v
    windowD := x.windowD.step k (decide (48 ≤ v ∧ v ≤ 1472)) }

/-! ### Sensors (R459, R460) -/

/-- The limits of a reading in 1/16 °C. -/
def inRange (x : Int) : Bool := decide (-640 ≤ x ∧ x ≤ 2240)

/-- A sensor takes a reading; one whose code has stayed unchanged for 10 ms, 100 readings, is stuck; a broken one stays
broken. -/
def Sensor.take (x : Sensor) (v : Int) : Sensor :=
  let same := if x.seen && decide (x.reading = v) then x.same + 1 else 0
  { seen := true, reading := v, same := same
    cause := if x.cause ≠ 0 then x.cause else if !inRange v then 1 else if 100 ≤ same then 2 else 0 }

/-- R460: the two readings differ by more than 10 °C: both sensors are broken. -/
def Zone.disagree (z : Zone) : Bool :=
  z.s0.seen && z.s1.seen && decide (z.s0.cause = 0) && decide (z.s1.cause = 0) &&
  decide (160 < (z.s0.reading - z.s1.reading).natAbs)

/-- The sensors of a zone after a reading of sensor k. -/
def Zone.sense (z : Zone) (k : Fin 2) (v : Int) : Zone :=
  let y := if k = 0 then { z with s0 := z.s0.take v } else { z with s1 := z.s1.take v }
  if y.disagree then { y with s0 := { y.s0 with cause := 3 }, s1 := { y.s1 with cause := 3 } } else y

/-- The number of broken sensors of a zone. -/
def Zone.broken (z : Zone) : Nat := b2n (decide (z.s0.cause ≠ 0)) + b2n (decide (z.s1.cause ≠ 0))

/-- R460, R471: a sensor of a zone is broken: an L fault, and a thermal event record. -/
def State.sensorBreaks (s : State) (z : Nat) : State := (s.thermalEvent 1 z).raiseThm z 2

/-- R469: the window is shut: no write starts. -/
def State.shutNvm (s : State) : State := { s with thm := { s.thm with nvmOk := false } }

/-- R470: above 95 °C a write in progress ends at a page boundary and waits. -/
def State.abortNvm (s : State) : State :=
  { s with
    img := { s.img with commitBusy := false, commitWait := s.img.commitWait || s.img.commitBusy }
    cal := { s.cal with storeWait := s.cal.storeWait || s.cal.storing.isSome } }

/-- R469, R470: what the temperature of the always-on zone does to NVM writes. -/
def State.nvmTemp (s : State) (v : Int) : State :=
  if v < 0 then s.shutNvm else if 1520 < v then s.shutNvm.abortNvm else s

/-- SENSOR_READING. -/
def State.sensorReading (s : State) (z : Nat) (k : Fin 2) (v : Int) : State :=
  if s.glb.state = .off then s
  else
    let old := s.zone z
    let new := (old.sense k v).dwells z k
    let s1 := (List.range (new.broken - old.broken)).foldl (fun t _ => t.sensorBreaks z) (s.setZone z new)
    if z = 63 then s1.nvmTemp new.temp else s1

/-! ### Throttle (R464 to R466) -/

/-- R464: the zones that throttle a chiplet. -/
def throttlers (c : Nat) : List Nat := [2 * c, 2 * c + 1, 32 + c, 48, 49, 50, 51, 52, 53, 62, 63]

/-- A chiplet is throttled. -/
def State.chipThrottled (s : State) (c : Nat) : Bool := (throttlers c).any fun z => (s.zone z).throttle

/-- THROTTLE_OFF_PHASE (R464): the off phase of a throttled chiplet begins or ends. -/
def State.setOffPhase (s : State) (c : Nat) (off : Bool) : State :=
  let m : BitVec 16 := BitVec.ofNat 16 (2 ^ c)
  { s with thm := { s.thm with offPhase := if off && s.chipThrottled c then s.thm.offPhase ||| m else s.thm.offPhase &&& ~~~m } }

/-- The duty cycle of chiplets that nothing throttles ends. -/
def State.endOffPhases (s : State) : State :=
  (List.range 16).foldl (fun s c => if s.chipThrottled c then s else s.setOffPhase c false) s

/-- R466: a full calibration is aborted: the device goes on with its valid sets, or halts without one. -/
def State.abortFull (s : State) : State :=
  if s.glb.state = .calibrating then
    let s1 := { s.restoreLight with cal := { s.cal with fullBusy := false, step := 0, stepDone := false, meas := [], prev := [] } }
    if s1.validAreas.isEmpty then s1.halt 2 else (s1.interpolate.stepEnd 8).enterLocking
  else s

/-- EMITTER_THROTTLE_STEP (R465): 50 ms after the last step, one step of 1 dB down while the throttle stays asserted, else
one up. -/
def State.throttleStep (s : State) (z : Nat) : State :=
  let x := s.zone z
  if zoneKind z = 0 then s
  else s.setZone z { x with db := if x.throttle then Fin.ofNat 4 (min 3 (x.db.val + 1)) else Fin.ofNat 4 (x.db.val - 1) }

/-- A throttle asserts. -/
def State.throttleOn (s : State) (z : Nat) : State :=
  let s1 := (s.raiseThm z 1).irqIf Reg.THM_CTRL 1 1
  if zoneKind z = 0 then s1 else (s1.throttleStep z).abortFull

/-! ### Shut-down (R467) -/

/-- The codes of a channel go to 0, and its output ramps there. -/
def Chan.toZero (c : Chan) : Chan := { c with latest := 0, latestSb := 0 }

/-- Photonic and laser zones: emitters off, heaters to 0 mA under the limiter, selects BAR, HALTED; latched. -/
def State.picShutdown (s : State) : State :=
  let s1 := { s.emittersOff with thm := { s.thm with picLatched := true } }
  let s2 := { s1 with drv := { s1.drv with
    picOff := true, sel := 0
    chans := Sparse.mapVals (fun _ => {}) Chan.toZero s1.drv.chans } }
  s2.picSettle.halt 5

/-- Time unit and always-on zones: every domain except always-on goes off; HALTED. -/
def State.coreShutdown (s : State) : State :=
  ({ s.domainsOff with thm := { s.thm with coreLatched := true } }).halt 6

/-- The action of a shut-down. -/
def State.shutdownAct (s : State) (z : Nat) : State :=
  if zoneKind z ≠ 0 then (s.raiseThm z 3).picShutdown
  else if z = 62 ∨ z = 63 then (s.raiseThm z 3).coreShutdown
  else if 50 ≤ z ∧ z < 54 then (s.raiseThm z 3).loseDomain z
  else (s.raiseThm z 2).loseDomain z

/-- THRESHOLD_ASSERT (R463): every reading of the last 500 µs was at or above the threshold. -/
def State.thresholdAssert (s : State) (z : Nat) (t : Threshold) : State :=
  let x := s.zone z
  if x.asserted t || !(x.dwell t).up.lasted 5 || decide (s.glb.state = .off) then s
  else
    let s1 := s.setZone z (x.mark t true)
    match t with
    | .warning => (s1.raiseThm z 1).irqIf Reg.THM_CTRL 0 1
    | .throttle => s1.throttleOn z
    | .shutdown => ((s1.irq 1).thermalEvent 0 z).shutdownAct z

/-- THRESHOLD_RELEASE (R463): every reading of the last 50 ms was at or below the release point. A photonic or laser shut-down
never releases. -/
def State.thresholdRelease (s : State) (z : Nat) (t : Threshold) : State :=
  let x := s.zone z
  if !x.asserted t || !(x.dwell t).down.lasted 500 || (decide (t = .shutdown) && decide (zoneKind z ≠ 0)) then s
  else
    let s1 := s.setZone z (x.mark t false)
    match t with
    | .throttle => (s1.irqIf Reg.THM_CTRL 1 1).endOffPhases
    | _ => s1

/-! ### NVM (R469, R471) -/

/-- NVM_WINDOW_OPEN: the always-on zone has lain within 3 to 92 °C for 50 ms; the writes that wait proceed. -/
def State.nvmOpen (s : State) : State :=
  if (s.zone 63).windowD.lasted 500 ∧ s.glb.vin ≠ .collapsed then
    { s with
      thm := { s.thm with nvmOk := true }
      flt := { s.flt with nvmLog := s.flt.nvmLog ++ s.flt.nvmWait, nvmWait := [] }
      img := { s.img with commitBusy := s.img.commitBusy || s.img.commitWait, commitWait := false }
      cal := { s.cal with storeWait := false } }
  else s

/-- THERMAL_RECORD_WRITE (R471): the oldest record moves to the NVM thermal log of 1,024 entries. -/
def State.thermalWrite (s : State) : State :=
  match s.thm.events with
  | [] => s
  | r :: t =>
    if s.thm.nvmOk then
      let l := s.thm.nvmLog ++ [r]
      { s with thm := { s.thm with events := t, nvmLog := if 1024 < l.length then l.tail else l } }
    else s

/-! ### The commands -/

/-- SENSOR_READING (R459). -/
def execSensorReading (z : Fin 76) (k : Fin 2) (deg : Int) (frac : Fin 16) (s : State) : Host.Outcome State Fault Refusal :=
  .next (s.sensorReading z.val k (16 * deg + frac.val))
/-- THRESHOLD_ASSERT (R463). -/
def execThresholdAssert (z : Fin 76) (t : Threshold) (s : State) : Host.Outcome State Fault Refusal :=
  .next (s.thresholdAssert z.val t)
/-- THRESHOLD_RELEASE (R463). -/
def execThresholdRelease (z : Fin 76) (t : Threshold) (s : State) : Host.Outcome State Fault Refusal :=
  .next (s.thresholdRelease z.val t)
/-- EMITTER_THROTTLE_STEP (R465). -/
def execEmitterThrottleStep (z : Fin 76) (s : State) : Host.Outcome State Fault Refusal := .next (s.throttleStep z.val)
/-- THROTTLE_OFF_PHASE (R464). -/
def execThrottleOffPhase (c : Fin 16) (off : Bool) (s : State) : Host.Outcome State Fault Refusal :=
  .next (s.setOffPhase c.val off)
/-- NVM_WINDOW_OPEN (R469). -/
def execNvmWindowOpen (s : State) : Host.Outcome State Fault Refusal := .next s.nvmOpen
/-- THERMAL_RECORD_WRITE (R471). -/
def execThermalRecordWrite (s : State) : Host.Outcome State Fault Refusal := .next s.thermalWrite

end Sys2Proof.Machine
end

