-- ==== Sys2Proof/Machine/Security.lean ====
section
/-! DEFINITION. The mailbox (R515, R516), the security operations and the fuses (19_security_functions.md), the audit log's
way to the NVM (R539, R540), the JTAG port (R514) and the reset of the PCIe port (R508). -/

namespace Sys2Proof.Machine

open Sys2Proof

/-! ### Requests -/

/-- The answer to a mailbox request: it waits for a fuse operation, or its status and response words. -/
inductive MbRes where
  | wait
  | done (status : Nat) (words : List Word)
  deriving DecidableEq, Repr

/-- Table: Mailbox opcodes: the class of an opcode; none for one that is not listed. -/
def mbClass (op : Nat) : Option Nat :=
  if op = 0 ∨ op = 0x21 then some 0
  else if 0x10 ≤ op ∧ op < 0x20 then some 3
  else if op = 0x20 then some 4
  else if op = 0x30 then some 5
  else none

/-- Word i of a request; a word that the request does not carry is 0. -/
def reqWord (w : List Word) (i : Nat) : Word := w.getD i 0

/-- The port of a mailbox owner. -/
def MbOwner.port : MbOwner → CmdPort
  | .pcie => .pcie
  | .smp => .smp

/-! ### The repair map (R516) -/

/-- The number of a page (R516, KIND 3). -/
def Page.number (x : Page) (c : Nat) : Nat := c * 268435456 + x.region.val * 134217728 + x.channel * 4194304 + x.index

/-- The entries of a kind in the repair map, in rising order: index, and whether it is a factory park. -/
def State.repairEntries (s : State) (kind : Nat) : List (Nat × Bool) :=
  match kind with
  | 0 => (List.range 4608).filterMap fun e =>
      if e ∈ s.mtx.factory then some (e, true) else if e ∈ s.mtx.field then some (e, false) else none
  | 1 => ((List.range 100).filter fun u => decide (u ∈ s.adc.map)).map fun u => (u, false)
  | 2 => ((List.range 512).filter fun l => (s.chip (l / 32)).laneFailed.getLsbD (l % 32)).map fun l => (l, false)
  | 3 => ((List.range 16).flatMap fun c => sortBy (fun x y => decide (x ≤ y))
      (((s.chip c).pages.filter fun x => x.recorded).map fun x => x.number c)).map fun n => (n, false)
  | _ => []

/-- Remove an entry from the repair map. What it stands for stays in effect until the next start-up or restructure. -/
def State.repairRemove (s : State) (kind i : Nat) : State :=
  match kind with
  | 0 => { s with mtx := { s.mtx with field := s.mtx.field.filter fun e => decide (e ≠ i) } }
  | 1 => { s with adc := { s.adc with map := s.adc.map.filter fun u => decide (u ≠ i) } }
  | 2 =>
    let x := s.chip (i / 32)
    s.setChip (i / 32) { x with laneFailed := x.laneFailed &&& ~~~(BitVec.ofNat 32 (2 ^ (i % 32))) }
  | _ =>
    let c := i / 268435456
    let x := s.chip c
    s.setChip c { x with pages := x.pages.map fun g => if g.number c = i then { g with recorded := false } else g }

/-- REPAIR_CLEAR. -/
def State.mbRepairClear (s : State) (w : List Word) : State × MbRes :=
  let kind := fld (reqWord w 0) 3 0
  let i := (reqWord w 1).toNat
  if 3 < kind then (s, .done stBadArg [])
  else if (i, false) ∈ s.repairEntries kind then (s.repairRemove kind i, .done stOk [])
  else (s, .done stRefused [])

/-- REPAIR_READ. -/
def State.mbRepairRead (s : State) (w : List Word) : MbRes :=
  let kind := fld (reqWord w 0) 3 0
  if 3 < kind then .done stBadArg []
  else
    match (s.repairEntries kind)[(reqWord w 1).toNat]? with
    | some (i, f) => .done stOk [BitVec.ofNat 32 i, BitVec.ofNat 32 (1 + 2 * b2n f)]
    | none => .done stOk [0, 0]

/-- n words of a controller's memory from an address up: free values (assumption 15). -/
def State.debugWords (s : State) (a : Nat) : Nat → State × List Word
  | 0 => (s, [])
  | n + 1 =>
    let r := State.debugWords { s with freeCtr := s.freeCtr + 1 } (a + 4) n
    (r.1, Config.debugWord s.freeCtr (BitVec.ofNat 32 a) :: r.2)

/-- DEBUG_READ. -/
def State.mbDebugRead (s : State) (w : List Word) : State × MbRes :=
  let a := (reqWord w 0).toNat
  let n := (reqWord w 1).toNat
  if n = 0 ∨ 64 < n ∨ a % 4 ≠ 0 then (s, .done stBadArg [])
  else
    let r := s.debugWords a n
    (r.1, .done stOk r.2)

/-! ### Fuse operations (R523 to R532) -/

/-- R531: no fuse operation can start. -/
def State.fuseShut (s : State) : Bool := !s.thm.nvmOk || s.sec.fuse.isSome || s.sec.retirePending.isSome

/-- The event code of a security operation (Table: Security audit events): RETIRE is 0x24 and ZEROIZE 0x25. -/
def opEvent (op : Nat) : Nat := if op = 0x14 then 0x25 else if op = 0x15 then 0x24 else 0x10 + op

/-- The audit of a security operation with its status (R542): slot or value in bits 15:8. -/
def State.auditOp (s : State) (o : MbOwner) (op status v : Nat) : State :=
  s.audit (opEvent op) (portNum o.port) 3 (BitVec.ofNat 32 op) (BitVec.ofNat 32 (status + v % 256 * 256))

/-- A security operation that ends at once. -/
def State.opEnds (s : State) (o : MbOwner) (op status v : Nat) : State × MbRes := (s.auditOp o op status v, .done status [])

/-- A fuse operation starts; its mailbox waits for it. -/
def State.startFuse (s : State) (o : MbOwner) (f : FuseOp) : State × MbRes :=
  ({ s with sec := { s.sec with fuse := some (f, o) } }, .wait)

/-- The first n words of a request as a vector. -/
def reqVec (w : List Word) (n : Nat) : Vector Word n := Vector.ofFn fun i => reqWord w i.val

/-- A slot of a security operation: 0 to 3. -/
def slotArg (w : Word) : Option (Fin 4) := if h : w.toNat < 4 then some ⟨w.toNat, h⟩ else none

/-- KEY_PROVISION (R525). -/
def State.mbProvision (s : State) (o : MbOwner) (w : List Word) : State × MbRes :=
  let v := (reqWord w 12).toNat
  match slotArg (reqWord w 12) with
  | none => s.opEnds o 0x10 stBadArg v
  | some i =>
    if s.fuseShut || s.sec.slots[i].programmed || s.sec.slots[i].revoked then s.opEnds o 0x10 stRefused v
    else s.startFuse o (.provision i (reqVec w 12))

/-- KEY_SLOT of a slot header. -/
def ImgSlot.key (x : ImgSlot) : Nat := x.u32 0x14 / 65536 % 4

/-- R526: some image slot has a valid header that names a programmed slot other than i that is not revoked. -/
def State.slotLeft (s : State) (i : Fin 4) : Bool :=
  [s.img.slot0, s.img.slot1].any fun x =>
    let k := s.sec.slots.toList.getD x.key {}
    x.valid && k.programmed && !k.revoked && decide (x.key ≠ i.val)

/-- KEY_REVOKE (R526). -/
def State.mbRevoke (s : State) (o : MbOwner) (w : List Word) : State × MbRes :=
  let v := (reqWord w 0).toNat
  match slotArg (reqWord w 0) with
  | none => s.opEnds o 0x11 stBadArg v
  | some i => if s.fuseShut || !s.slotLeft i then s.opEnds o 0x11 stRefused v else s.startFuse o (.revoke i)

/-- The SVN of the booted image: that of the slot that counts as booted from, or of the delivered image; none before. -/
def State.bootedSvn (s : State) : Option Nat :=
  match s.img.inForce with
  | none => none
  | some m =>
    if s.img.delivered then some m.svn.toNat
    else some ((if s.img.bootSlot = 0 then s.img.slot0 else s.img.slot1).u32 0x14 % 65536)

/-- SVN_RAISE (R527). -/
def State.mbSvn (s : State) (o : MbOwner) (w : List Word) : State × MbRes :=
  let v := (reqWord w 0).toNat
  if s.fuseShut || decide (v ≤ s.sec.minSvn.toNat ∨ 255 < v) || s.bootedSvn.all fun b => decide (b < v) then
    s.opEnds o 0x12 stRefused v
  else s.startFuse o (.svn (BitVec.ofNat 8 v))

/-- IMAGE_KEY_SET (R529). -/
def State.mbImageKey (s : State) (o : MbOwner) (w : List Word) : State × MbRes :=
  if s.fuseShut || decide (s.sec.imageKey ≠ .absent) then s.opEnds o 0x13 stRefused 0
  else s.startFuse o (.imageKey (reqVec w 8))

/-- ZEROIZE (R536). -/
def State.mbZeroize (s : State) (o : MbOwner) : State × MbRes :=
  (s.trigger .command (portNum o.port) 3 0x14, .done stOk [])

/-- RETIRE (R523): its zeroization, then its fuse steps. -/
def State.mbRetire (s : State) (o : MbOwner) (w : List Word) : State × MbRes :=
  if reqWord w 0 ≠ 0xC1E00D1E then s.opEnds o 0x15 stBadArg 0
  else if s.fuseShut then s.opEnds o 0x15 stRefused 0
  else
    let s1 := s.trigger .retire (portNum o.port) 3 0x15
    ({ s1 with sec := { s1.sec with retirePending := some o } }, .wait)

/-- The eight words of a record (Table: Audit record). -/
def AuditRec.words (r : AuditRec) : List Word :=
  let w : List Word :=
    [BitVec.ofNat 32 (r.code.toNat + r.port.toNat * 256 + r.cls.toNat * 1024 + r.repeats.toNat * 65536), r.seq, r.sec,
     r.ns.setWidth 32, r.target, r.detail, 0]
  w ++ [crc32c (wordBytes w)]

/-- AUDIT_READ: up to 7 records of the ring from SEQ n. -/
def State.mbAuditRead (s : State) (w : List Word) : MbRes :=
  let l := (s.sec.ring.filter fun r => decide ((reqWord w 0).toNat ≤ r.seq.toNat)).take 7
  .done stOk (BitVec.ofNat 32 l.length :: l.flatMap AuditRec.words)

/-- The security operations (R542): all but AUDIT_READ are refused in RETIRED. -/
def State.mbSecurity (s : State) (o : MbOwner) (op : Nat) (w : List Word) : State × MbRes :=
  if op = 0x16 then (s, s.mbAuditRead w)
  else if 0x16 < op then (s, .done stBadOpcode [])
  else if s.sec.lifecycle = .retired then s.opEnds o op stRefused 0
  else
    match op with
    | 0x10 => s.mbProvision o w
    | 0x11 => s.mbRevoke o w
    | 0x12 => s.mbSvn o w
    | 0x13 => s.mbImageKey o w
    | 0x14 => s.mbZeroize o
    | _ => s.mbRetire o w

/-- R515: the execution of a request, after the check of its class and of its LEN, which counts 0 to 64 words. -/
def State.mbRun (s : State) (o : MbOwner) (op len : Nat) (w : List Word) : State × MbRes :=
  match mbClass op with
  | none => (s, .done stBadOpcode [])
  | some cls =>
    if !s.allowed o.port cls then (s.reject o.port cls 0x01 (BitVec.ofNat 32 op), .done stDenied [])
    else if 64 < len then (s, .done stBadArg [])
    else if op = 0 then (s, .done stOk [])
    else if op = 0x20 then s.mbRepairClear w
    else if op = 0x21 then (s, s.mbRepairRead w)
    else if op = 0x30 then s.mbDebugRead w
    else s.mbSecurity o op w

/-! ### The PCIe mailbox (R515) -/

/-- GO reads 1. -/
def State.mbBusy (s : State) : Bool := s.rdBit Reg.CMD_MB_CTRL 31

/-- Words into CMD_MB_DATA. -/
def State.putMbData (s : State) (w : List Word) : State :=
  (w.zipIdx.take 64).foldl (fun s x => s.wr (Reg.CMD_MB_DATA + 4 * x.2) x.1) s

/-- The answer at the PCIe mailbox: response words, STATUS, DONE, the end of GO, and the interrupt. -/
def State.mbAnswer (s : State) (status : Nat) (w : List Word) : State :=
  let s1 := s.putMbData w
  let v := setFld (s1.rd Reg.CMD_MB_CTRL) 19 16 status
  (s1.wr Reg.CMD_MB_CTRL (setBit (setBit v 21 true) 31 false)).irqIf Reg.CMD_CTRL 1 3

/-- A write of CMD_MB_CTRL with GO by PCIE. While it executes, STATUS reads PENDING. -/
def State.mbGo (s : State) (v : Word) : State :=
  let n := fld v 14 8
  let s1 := s.wr Reg.CMD_MB_CTRL (setBit (setFld (s.rd Reg.CMD_MB_CTRL &&& ~~~(v &&& 0x300000)) 14 0 v.toNat) 31 true)
  let s2 := s1.wr Reg.CMD_MB_CTRL (setFld (s1.rd Reg.CMD_MB_CTRL) 19 16 stPending)
  let w := (List.range (min 64 n)).map fun i => s.rd (Reg.CMD_MB_DATA + 4 * i)
  let r := s2.mbRun .pcie (fld v 7 0) n w
  match r.2 with
  | .wait => r.1
  | .done st ws => r.1.mbAnswer st ws

/-- A write to the mailbox registers: from PCIE while GO reads 0 it acts; else it is discarded (R515, R520). -/
def State.writeMailbox (s : State) (p : CmdPort) (a : Nat) (v : Word) : State :=
  if p ≠ .pcie then s.audit 0x03 (portNum p) 1 (BitVec.ofNat 32 a) 0
  else if s.mbBusy then s.wrBit Reg.CMD_MB_CTRL 20 true
  else if a = Reg.CMD_MB_CTRL ∧ bit v 31 then s.mbGo v
  else if s.allowed p 1 then s.plainWrite p a v
  else s.reject p 1 0x01 (BitVec.ofNat 32 a)

/-! ### The mailbox over SMP (R510 to R512) -/

/-- A request of SMP is the latest executed, and executes. -/
def State.smpBegin (s : State) (a : Abv) : State :=
  let f := a.response stPending []
  { s with cmd := { s.cmd with smp := { s.cmd.smp with seq := some (BitVec.ofNat 16 a.seq), resp := f, answer := f, busy := true } } }

/-- It has completed, with its response frame. -/
def State.smpEnd (s : State) (f : List Byte) : State :=
  { s with cmd := { s.cmd with smp := { s.cmd.smp with resp := f, answer := f, busy := false } } }

/-- A MAILBOX request of SMP: word 0 holds OPCODE and LEN, then the data words. -/
def State.smpMailbox (s : State) (a : Abv) (w : List Word) : State :=
  let w0 := w.getD 0 0
  let n := fld w0 14 8
  let s1 := s.smpBegin a
  if w.isEmpty then s1.smpEnd (a.response stBadArg [])
  else
    let r := s1.mbRun .smp (fld w0 7 0) n ((w.drop 1).take n)
    match r.2 with
    | .wait => r.1
    | .done st ws => r.1.smpEnd (a.response st (wordBytes ws))

/-- A request of the mailbox by port and opcode: PCIE writes its words and GO; SMP carries it in a MAILBOX frame with the
next SEQ (DESIGN CHOICE, assumption 22). The other ports do not reach the mailbox. -/
def State.mailbox (s : State) (p : CmdPort) (op : Nat) (w : List Word) : State :=
  let ctrl := BitVec.ofNat 32 (op + 256 * w.length)
  match p with
  | .pcie =>
    if s.mbBusy then s.wrBit Reg.CMD_MB_CTRL 20 true
    else (s.putMbData w).writeMailbox .pcie Reg.CMD_MB_CTRL (setBit ctrl 31 true)
  | .smp =>
    if s.cmd.smp.busy then s.bump 0x1000A0 1
    else
      let seq := match s.cmd.smp.seq with
        | some q => (q + 1).toNat
        | none => 0
      let a : Abv := { magic := 0xAB, op := 3, len := 4 * (w.length + 1), seq := seq, space := 0, addr := 0 }
      if s.glb.state = .aon then (s.smpBegin a).smpEnd (a.response stDomainOff []) else s.smpMailbox a (ctrl :: w)
  | _ => s.writeMailbox p Reg.CMD_MB_CTRL (setBit ctrl 31 true)

/-- The answer to a request that waited, at its owner. -/
def State.answerTo (s : State) (o : MbOwner) (status : Nat) (w : List Word) : State :=
  match o with
  | .pcie => s.mbAnswer status w
  | .smp => s.smpEnd ((abvHead s.cmd.smp.resp).response status (wordBytes w))

/-! ### The end of a fuse operation (R531) -/

/-- What a fuse operation leaves, and its opcode, the slot or value of its audit, and its response words. -/
def State.fuseDone (s : State) (f : FuseOp) : State × Nat × Nat × List Word :=
  let x := s.sec
  match f with
  | .provision i h =>
    ({ s with sec := { x with slots := x.slots.set i { x.slots[i] with hash := h, programmed := true } } }, 0x10, i.val, [])
  | .revoke i => ({ s with sec := { x with slots := x.slots.set i { x.slots[i] with revoked := true } } }, 0x11, i.val, [])
  | .svn v => ({ s with sec := { x with minSvn := v } }, 0x12, v.toNat, [])
  | .imageKey k =>
    ({ s with sec := { x with imageKey := .present k, volKey := if x.keyShut then x.volKey else some k } }, 0x13, 0,
      [Config.keyCheck k.toList])
  | .retire =>
    let y : SecSt := { x with lifecycle := .retired, imageKey := .destroyed, volKey := none
                              slots := x.slots.map fun k => { k with revoked := true } }
    (({ s with sec := y }).halt 4, 0x15, 0, [])

/-- FUSE_OPERATION_DONE: the operation takes effect and is audited, its mailbox answers, and a device restart that waits for
it goes on (R560). -/
def State.fuseEnd (s : State) : State :=
  match s.sec.fuse with
  | none => s
  | some (f, o) =>
    let r := s.fuseDone f
    let s1 := { r.1 with sec := { r.1.sec with fuse := none } }
    ((s1.auditOp o r.2.1 stOk r.2.2.1).answerTo o stOk r.2.2.2).restartIfReady

/-! ### The pin, the audit log's way to the NVM, JTAG, PCIe -/

/-- ZEROIZE_PIN (R536, R612): ZEROIZE_N has been low for a number of samples; 0 is its release. -/
def State.zeroizePin (s : State) (n : Nat) : State :=
  let s1 := { s with glb := { s.glb with zeroizeN := decide (n = 0) } }
  if 450 ≤ n ∧ s.sec.zpinEn then s1.trigger .pin 0 0 0 else s1

/-- AUDIT_RECORD_WRITE (R540): the oldest record of the SRAM enters the ring, which then overwrites its oldest when full. -/
def State.auditWrite (s : State) : State :=
  match s.sec.sram with
  | [] => s
  | r :: t =>
    if !s.thm.nvmOk then s
    else if s.sec.ring.length < 16384 then { s with sec := { s.sec with sram := t, ring := s.sec.ring ++ [r] } }
    else { s with sec := { s.sec with
      sram := t, ring := s.sec.ring.drop 1 ++ [r], overwritten := s.sec.overwritten + 1 } }

/-- A JTAG debug access (R514): on CLN-5120-H it acts as BYPASS and is audited; else it is a class 0 read or a class 5
access to controller memory. -/
def State.jtagAccess (s : State) (x : JtagAccess) : State :=
  let target : Word := match x with
    | .read a => a.setWidth 32
    | .memory a => a
  if s.sec.variantH then s.reject .jtag 5 0x05 target
  else
    match x with
    | .read a => s.readReg .jtag a.toNat
    | .memory a =>
      if s.allowed .jtag 5 then
        ({ s with freeCtr := s.freeCtr + 1 }).setRd .jtag (Config.debugWord s.freeCtr a)
      else (s.reject .jtag 5 0x01 target).setRd .jtag 0

/-- PCIE_RESET (R508): the MSI-X state returns to reset. -/
def State.pcieReset (s : State) : State :=
  let s1 := (List.range 128).foldl (fun s i => s.wr (Reg.CMD_MSIX + 4 * i) (resetWord (Reg.CMD_MSIX + 4 * i))) s
  { s1 with cmd := { s1.cmd with msiPend := 0 } }

/-! ### The commands -/

/-- NOP of the mailbox (R515). -/
def execMbNop (p : CmdPort) (s : State) : Host.Outcome State Fault Refusal := .next (s.mailbox p 0 [])
/-- REPAIR_CLEAR (R516). -/
def execRepairClear (p : CmdPort) (kind index : Word) (s : State) : Host.Outcome State Fault Refusal :=
  .next (s.mailbox p 0x20 [kind, index])
/-- REPAIR_READ (R516). -/
def execRepairRead (p : CmdPort) (kind n : Word) (s : State) : Host.Outcome State Fault Refusal :=
  .next (s.mailbox p 0x21 [kind, n])
/-- DEBUG_READ (R515). -/
def execDebugRead (p : CmdPort) (addr words : Word) (s : State) : Host.Outcome State Fault Refusal :=
  .next (s.mailbox p 0x30 [addr, words])
/-- KEY_PROVISION (R525): the hash fills twelve words, and the slot is word 12. -/
def execKeyProvision (p : CmdPort) (hash : List Word) (slot : Word) (s : State) : Host.Outcome State Fault Refusal :=
  .next (s.mailbox p 0x10 ((List.range 12).map (reqWord hash) ++ [slot]))
/-- KEY_REVOKE (R526). -/
def execKeyRevoke (p : CmdPort) (slot : Word) (s : State) : Host.Outcome State Fault Refusal := .next (s.mailbox p 0x11 [slot])
/-- SVN_RAISE (R527). -/
def execSvnRaise (p : CmdPort) (v : Word) (s : State) : Host.Outcome State Fault Refusal := .next (s.mailbox p 0x12 [v])
/-- IMAGE_KEY_SET (R529). -/
def execImageKeySet (p : CmdPort) (key : List Word) (s : State) : Host.Outcome State Fault Refusal :=
  .next (s.mailbox p 0x13 ((List.range 8).map (reqWord key)))
/-- ZEROIZE (R536). -/
def execZeroize (p : CmdPort) (s : State) : Host.Outcome State Fault Refusal := .next (s.mailbox p 0x14 [])
/-- RETIRE (R523). -/
def execRetire (p : CmdPort) (magic : Word) (s : State) : Host.Outcome State Fault Refusal := .next (s.mailbox p 0x15 [magic])
/-- AUDIT_READ (R542). -/
def execAuditRead (p : CmdPort) (seq : Word) (s : State) : Host.Outcome State Fault Refusal := .next (s.mailbox p 0x16 [seq])
/-- FUSE_OPERATION_DONE (R531). -/
def execFuseOperationDone (s : State) : Host.Outcome State Fault Refusal := .next s.fuseEnd
/-- ZEROIZE_PIN (R612). -/
def execZeroizePin (samples : Nat) (s : State) : Host.Outcome State Fault Refusal := .next (s.zeroizePin samples)
/-- AUDIT_RECORD_WRITE (R540). -/
def execAuditRecordWrite (s : State) : Host.Outcome State Fault Refusal := .next s.auditWrite
/-- BOUNDARY_SCAN_INSTRUCTION (R514): SYS index 2 before the balls are taken. -/
def execBoundaryScanInstruction (bypassOrId : Bool) (s : State) : Host.Outcome State Fault Refusal :=
  .next (if bypassOrId then s else s.raiseSys 2)
/-- JTAG_DEBUG_ACCESS (R514). -/
def execJtagDebugAccess (a : JtagAccess) (s : State) : Host.Outcome State Fault Refusal := .next (s.jtagAccess a)
/-- MALFORMED_ACCESS (R504): discarded, or answered with Unsupported Request; both count. -/
def execMalformedAccess (_isWrite : Bool) (s : State) : Host.Outcome State Fault Refusal := .next (s.bump 0x100090 1)
/-- PCIE_RESET (R508). -/
def execPcieReset (s : State) : Host.Outcome State Fault Refusal := .next s.pcieReset
/-- COUNTER_LOW_READ (R601). -/
def execCounterLowRead (p : CmdPort) (addr : BitVec 28) (s : State) : Host.Outcome State Fault Refusal :=
  .next (s.readReg p addr.toNat)

end Sys2Proof.Machine
end

