-- ==== Sys2Proof/Machine/Control.lean ====
section
/-! DEFINITION. QUIESCE, RESUME and RELEASE (R554, R557), the request for a domain restart (R563, R564), and the root PLL in
service (R590). -/

namespace Sys2Proof.Machine

open Sys2Proof

/-! ### GLB_CTRL -/

/-- QUIESCE: accepted in SERVICE; a second one while it drains has no effect. -/
def State.quiesceBit (s : State) : State :=
  if s.glb.state ≠ .service then s.wrBit Reg.GLB_CTRL 8 true
  else { s with glb := { s.glb with quiescing := true } }

/-- RESUME: accepted in QUIESCED. -/
def State.resumeBit (s : State) : State :=
  if s.glb.state = .quiesced then s.setGState .service else s.wrBit Reg.GLB_CTRL 8 true

/-- RELEASE: it reads 1 until Prism starts; with Prism running it ends at once. -/
def State.releaseBit (s : State) : State := if s.slt.start.isNone then s.wrBit Reg.GLB_CTRL 1 true else s

/-- A write of GLB_CTRL. -/
def State.writeGlbCtrl (s : State) (p : CmdPort) (v : Word) : State :=
  let s1 := s.plainWrite p Reg.GLB_CTRL v
  let s2 := if bit v 1 then s1.releaseBit else s1
  let s3 := if bit v 2 then s2.quiesceBit else s2
  if bit v 3 then s3.resumeBit else s3

/-- QUIESCE_DONE: the drain ends and the device is QUIESCED, or the quiesce is abandoned (R557). -/
def State.quiesceEnd (s : State) (abandoned : Bool) : State :=
  if !(s.glb.quiescing && decide (s.glb.state = .service)) then s
  else if abandoned then s.abandonQuiesce
  else if s.drained then ({ s with glb := { s.glb with quiescing := false } }).setGState .quiesced
  else s

/-! ### Domain restart -/

/-- R563: a domain that host software can restart. -/
def restartKind (d : Nat) : Bool := decide (d < 48) || decide (54 ≤ d ∧ d < 62)

/-- R563, R468: the domain's zone is too hot, or its laser zone's shut-down is latched. -/
def State.tooHot (s : State) (d : Nat) : Bool :=
  decide (1520 ≤ (s.zone d).temp) || (decide (zoneKind d = 1) && (s.zone d).shutdown && s.thm.picLatched)

/-- R563, R628: the refusals of a domain restart that apply, by the bit that each sets. A domain that is on is refused as by
its state (DEDUCED, assumption 32). -/
def State.domainRefusals (s : State) (d : Nat) : List Nat :=
  [(8, !restartKind d), (9, !s.inService || s.flt.safe || s.domOn d), (10, s.restartBusy), (11, s.tooHot d)].filterMap
    fun x => if x.2 then some x.1 else none

/-- GLB_DOMAIN_CTRL.GO (R563); a refusal for heat is recorded in the thermal log (R471). -/
def State.domainGo (s : State) (d : Fin 64) : State :=
  match s.domainRefusals d.val with
  | [] => { s with glb := { s.glb with domRestart := some d, powerOrder := [] } }
  | r =>
    let s1 := r.foldl (fun t b => t.wrBit Reg.GLB_DOMAIN_CTRL b true) s
    if r.contains 11 then s1.thermalEvent 2 d.val else s1

/-- A write of GLB_DOMAIN_CTRL. -/
def State.writeDomainCtrl (s : State) (p : CmdPort) (v : Word) : State :=
  let s1 := s.plainWrite p Reg.GLB_DOMAIN_CTRL v
  if bit v 31 then s1.domainGo ⟨fld v 5 0 % 64, Nat.mod_lt _ (by decide)⟩ else s1

/-- DOMAIN_RESTART_FAILED (R564): the domain that waits for power-good stays off; of a packet-core restart, a lane domain,
and the next one follows. -/
def State.restartFailed (s : State) : State :=
  match s.glb.domRestart with
  | none => s
  | some d =>
    let fail (s : State) (d : Nat) : State := (s.wrBit Reg.GLB_DOMAIN_CTRL 12 true).raisePwr d
    match s.glb.powerOrder with
    | l :: t => fail { s with glb := { s.glb with powerOrder := t } } l.val
    | [] =>
      if s.domOn d.val then s
      else fail { s with glb := { s.glb with domRestart := none } } d.val

/-! ### The root PLL (R590) -/

/-- PLL_UNLOCK. REFCLK may still show edges, so what REFCLK_OK reads is a free value (assumption 15). -/
def State.pllUnlock (s : State) : State :=
  if s.glb.pllLock then
    let f := s.free
    let s1 := { f.2 with glb := { f.2.glb with pllLock := false, holdover := true, refclkOk := bit f.1 0 } }
    let s2 := ((s1.wrBit Reg.CLK_STATUS 3 true).bump 0x400020 1).irqIf Reg.CLK_CTRL 0 13
    s2.raiseSys 0
  else s

/-- PLL_RELOCK: lock has held for 1 ms. -/
def State.pllRelock (s : State) : State :=
  if s.glb.holdover then { s with glb := { s.glb with pllLock := true, holdover := false, refclkOk := true } } else s

/-! ### The commands -/

/-- GLB_RELEASE: GLB_CTRL.RELEASE (R554). -/
def execGlbRelease (p : CmdPort) (v : Word) (s : State) : Host.Outcome State Fault Refusal :=
  .next (s.access p Reg.GLB_CTRL 1 fun s => s.writeGlbCtrl p (withBit v 1))
/-- QUIESCE (R557). -/
def execQuiesce (p : CmdPort) (v : Word) (s : State) : Host.Outcome State Fault Refusal :=
  .next (s.access p Reg.GLB_CTRL 1 fun s => s.writeGlbCtrl p (withBit v 2))
/-- QUIESCE_DONE (R557). -/
def execQuiesceDone (abandoned : Bool) (s : State) : Host.Outcome State Fault Refusal := .next (s.quiesceEnd abandoned)
/-- RESUME (R557). -/
def execResume (p : CmdPort) (v : Word) (s : State) : Host.Outcome State Fault Refusal :=
  .next (s.access p Reg.GLB_CTRL 1 fun s => s.writeGlbCtrl p (withBit v 3))
/-- DOMAIN_RESTART: GLB_DOMAIN_CTRL.GO (R563). -/
def execDomainRestart (p : CmdPort) (v : Word) (s : State) : Host.Outcome State Fault Refusal :=
  .next (s.access p Reg.GLB_DOMAIN_CTRL 1 fun s => s.writeDomainCtrl p (withBit v 31))
/-- DOMAIN_RESTART_FAILED (R564). -/
def execDomainRestartFailed (s : State) : Host.Outcome State Fault Refusal := .next s.restartFailed
/-- PLL_UNLOCK (R590). -/
def execPllUnlock (s : State) : Host.Outcome State Fault Refusal := .next s.pllUnlock
/-- PLL_RELOCK (R590). -/
def execPllRelock (s : State) : Host.Outcome State Fault Refusal := .next s.pllRelock

end Sys2Proof.Machine
end

