-- ==== Sys2Proof/Machine/Bus.lean ====
section
/-! DEFINITION. A write to any register of BAR0, with the action that its request bits start, the class of every write (R499),
the writes of BAR2 (R505), and the frames of the SMP port (R510 to R512). -/

namespace Sys2Proof.Machine

open Sys2Proof

/-! ### The action of a write -/

/-- A write of an MSI-X table word: a vector that it unmasks sends what its pending bit holds (R507). -/
def State.writeMsix (s : State) (p : CmdPort) (a : Nat) (v : Word) : State :=
  let s1 := s.plainWrite p a v
  let n := (a - Reg.CMD_MSIX) / 16
  if !s1.msiMasked n && s1.cmd.msiPend.getLsbD n then
    ({ s1 with cmd := { s1.cmd with msiPend := s1.cmd.msiPend &&& ~~~(BitVec.ofNat 32 (2 ^ n)) } }).msiSend n
  else s1

/-- A write in the always-on blocks and the clocks. -/
def State.actGlobal (s : State) (p : CmdPort) (b : Blk) (o a : Nat) (v : Word) : State :=
  match b with
  | .glb =>
    if a = Reg.GLB_CTRL then s.writeGlbCtrl p v
    else if a = Reg.GLB_RESTART then s.writeRestart p v
    else if a = Reg.GLB_DOMAIN_CTRL then s.writeDomainCtrl p v
    else s.plainWrite p a v
  | .cmd => if 0x8000 ≤ o ∧ o < 0x8200 then s.writeMsix p a v else s.plainWrite p a v
  | .flt =>
    if o = 8 then s.writeClear p v
    else if 0x100 ≤ o ∧ o < 0x140 then s.writeBlockCfg p a v
    else s.plainWrite p a v
  | .tim =>
    if o = 0 then s.writeTimCtrl p v
    else if o = 0x124 then s.writeTimCmd p 0 v
    else if o = 0x164 then s.writeTimCmd p 1 v
    else s.plainWrite p a v
  | _ => s.plainWrite p a v

/-- A write in the blocks of the control die. -/
def State.actControl (s : State) (p : CmdPort) (b : Blk) (o a : Nat) (v : Word) : State :=
  match b with
  | .acq => s.writeAcq p a v
  | .red => if o = 4 then s.writeRedCmd p v else s.plainWrite p a v
  | .cal =>
    if o = 4 then s.writeCalCmd p v
    else if o = 0x100 then s.writeSetRead p v
    else s.plainWrite p a v
  | .cnv =>
    if o = 0x20 then s.writeRangeReq p v
    else if 0x800 ≤ o ∧ o < 0x990 then s.writeAuCfg p ((o - 0x800) / 4) v
    else s.plainWrite p a v
  | .lpe =>
    if o = 0x28 then s.writeSwapCtrl p v
    else if o = 0x70 then s.writeModeReq p v
    else if 0x10000 ≤ o ∧ o < 0x13000 then
      s.writeCoeff p ((o - 0x10000) / 0x100) (o % 0x100 / 0x80) (o % 0x80 / 4) v
    else s.plainWrite p a v
  | .cel => if o % 0x40 = 4 ∧ o / 0x40 < 5120 then s.writeTarget p (o / 0x40) v else s
  | .mtx =>
    if o = 0 then (List.range 32).foldl State.warmSpare (s.plainWrite p a v)
    else if o = 0x10 then s.writeParkReq v
    else if o = 0x40 then s.permRead v
    else if 0x880 ≤ o ∧ o < 0x900 then s.writeLbCfg p ((o - 0x880) / 4) v
    else s.plainWrite p a v
  | .slt =>
    if o = 0x2C then s.writeChangeCtrl p v
    else if o = 0x30 ∨ o = 0x34 then s.calWrite p ((o - 0x30) / 4) a v
    else if 0x10000 ≤ o ∧ o < 0x11000 then s.calWrite p ((o - 0x10000) / 0x800) a v
    else s.plainWrite p a v
  | .brt =>
    if o = 0x10 then s.writeSnapCtrl p v
    else if o = 0x100 then s.writePhaseSel p v
    else s.plainWrite p a v
  | _ => s

/-- A write in the egress window of port k (R356 to R361). A member's window takes only WINDOW (R364). -/
def State.actQuePort (s : State) (p : CmdPort) (k o a : Nat) (v : Word) : State :=
  if 0x80 ≤ o ∧ o < 0x110 then
    (if o % 0x10 = 0 then s.writeShaper p k ((o - 0x80) / 0x10) v else s.writeLead p k a v)
  else if o = 0x180 then s.writeGateCtrl p k v
  else if o = 0x184 ∨ o = 0x188 then s.writeGateList p k ((o - 0x184) / 4) a v
  else if 0x40 ≤ o ∧ o < 0x60 then s.plainWrite p a v
  else s.writeLead p k a v

/-- A write in the blocks of a port chiplet. -/
def State.actChip (s : State) (p : CmdPort) (b : Blk) (o a : Nat) (v : Word) : State :=
  match b with
  | .lan c =>
    if o = 0x8000 then s.writeRemap p c v false
    else if o < 0x8000 ∧ o % 0x400 = 0 then s.writePortCtrl p (32 * c + o / 0x400) v
    else if o < 0x8000 then s.writeLanPort p (32 * c + o / 0x400) (o % 0x400) a v
    else s.plainWrite p a v
  | .prs c =>
    if o = 0x10 then s.writeBankCtrl p c v
    else if o = 0x340 then s.writeTrace p c v
    else s.plainWrite p a v
  | .mtr c =>
    if o = 0 then s.writeMtrCtrl p c v
    else if o = 0x10 then s.writeMeterSel p c v
    else if 0x10000 ≤ o ∧ o < 0x18000 ∧ o % 0x20 = 0 then s.writeProfile0 p c ((o - 0x10000) / 0x20) v
    else s.plainWrite p a v
  | .buf c => if o = 0x200 then s.writePchReplace p c v else s.plainWrite p a v
  | .que c =>
    if 0x1000 ≤ o ∧ o < 0x5000 then s.actQuePort p (32 * c + (o - 0x1000) / 0x200) (o % 0x200) a v
    else if 0x10000 ≤ o then
      s.writeGateList p (32 * c + (o - 0x10000) / 0x800) ((o - 0x10000) % 0x800 / 0x400) a v
    else s.plainWrite p a v
  | .tbw _ => s.plainWrite p a v
  | _ => s

/-- What an accepted write to an offset does. An offset in no block ignores it (R15). -/
def State.regAct (s : State) (p : CmdPort) (a : Nat) (v : Word) : State :=
  match locate a with
  | none => s
  | some (b, o) =>
    match b with
    | .glb | .cmd | .flt | .thm | .clk | .tim => s.actGlobal p b o a v
    | .lan _ | .prs _ | .mtr _ | .buf _ | .que _ | .tbw _ => s.actChip p b o a v
    | _ => s.actControl p b o a v

/-! ### Writes of the command ports -/

/-- R499: the class of a register write. -/
def writeClass (a : Nat) (v : Word) : Nat :=
  if a = Reg.GLB_RESTART then 2
  else
    match locate a with
    | some (.mtx, o) => if o = 0x10 then 4 else if 0x880 ≤ o ∧ o < 0x900 then lbCfgClass v else 1
    | some (.lan _, o) => if o = 0x8000 then 4 else 1
    | some (.buf _, o) => if o = 0x200 then 4 else 1
    | _ => 1

/-- A mailbox register (R515). -/
def isMailbox (a : Nat) : Bool :=
  decide (a = Reg.CMD_MB_CTRL) || decide (Reg.CMD_MB_DATA ≤ a ∧ a < Reg.CMD_MB_DATA + 256)

/-- A write of a word of BAR0 by a command port. One that is not aligned is malformed (R504). -/
def State.busWrite (s : State) (p : CmdPort) (a : Nat) (v : Word) : State :=
  if a % 4 ≠ 0 then (if p = .pcie then s.bump 0x100090 1 else s)
  else if a = Reg.GLB_IMG_CTRL then s.writeImgCtrl p v
  else if isMailbox a then s.writeMailbox p a v
  else s.access p a (writeClass a v) fun s => s.regAct p a v

/-- A write of a word of BAR2 by a command port (Table: BAR2 map). -/
def State.bar2Write (s : State) (p : CmdPort) (a : Nat) (v : Word) : State :=
  match tblWindow a with
  | some (c, o) =>
    if !s.allowed p 1 then s.reject p 1 0x01 (BitVec.ofNat 32 a)
    else if !s.chipOn c then s.bump 0x100094 1
    else s.tblWrite c o v
  | none =>
    if 0x38000000 ≤ a ∧ a < 0x39800000 then s.stageWrite p (a - 0x38000000) (bytesOf v)
    else if !s.allowed p 1 then s.reject p 1 0x01 (BitVec.ofNat 32 a)
    else s

/-! ### The SMP port (R510 to R512, R547) -/

/-- The status of a write of one word. -/
def State.writeStatus (s : State) (p : CmdPort) (space a : Nat) (v : Word) : Nat :=
  let cls := if space = 0 then (if a = Reg.GLB_IMG_CTRL then 2 else writeClass a v)
    else if 0x38000000 ≤ a ∧ a < 0x39800000 then 2 else 1
  if !s.allowed p cls then stDenied
  else if (if space = 0 then s.addrOn a else s.bar2On a) then stOk
  else stDomainOff

/-- Words written from an address upward, each a separate write, in order; the first status that is not OK stands. -/
def State.abvWrites (s : State) (p : CmdPort) (space a : Nat) : List Word → State × Nat
  | [] => (s, stOk)
  | v :: t =>
    let st := s.writeStatus p space a v
    let s1 := if space = 0 then s.busWrite p a v else s.bar2Write p a v
    let r := State.abvWrites s1 p space (a + 4) t
    (r.1, firstBad st r.2)

/-- A WRITE request, executed. -/
def State.smpWrite (s : State) (a : Abv) (f : List Byte) : State :=
  let s1 := s.smpBegin a
  if !a.argsGood then s1.smpEnd (a.response stBadArg [])
  else
    let r := s1.abvWrites .smp a.space a.addr (bytesWords (a.payload f))
    r.1.smpEnd (a.response r.2 [])

/-- A READ request, executed. -/
def State.smpRead (s : State) (a : Abv) : State :=
  let r := (s.smpBegin a).abvRead .smp a
  r.1.smpEnd r.2

/-- POLL: the device drives the response of the latest request. -/
def State.smpPoll (s : State) : State :=
  { s with cmd := { s.cmd with smp := { s.cmd.smp with driven := s.cmd.smp.answer } } }

/-- A frame with a bad CRC or MAGIC: its response has status CRC_ERR. While a request executes, that one's stays. -/
def State.smpBad (s : State) (a : Abv) : State :=
  let s1 := s.bump 0x100098 1
  let f := a.response stCrcErr []
  if a.op = 4 then { s1 with cmd := { s1.cmd with smp := { s1.cmd.smp with driven := f } } }
  else if s.cmd.smp.busy then s1
  else { s1 with cmd := { s1.cmd with smp := { s1.cmd.smp with answer := f } } }

/-- A request of SMP that is to be executed. In AON every request is answered with DOMAIN_OFF (R547). -/
def State.smpExecute (s : State) (a : Abv) (f : List Byte) : State :=
  if s.glb.state = .aon then (s.smpBegin a).smpEnd (a.response stDomainOff [])
  else
    match a.op with
    | 1 => s.smpRead a
    | 2 => s.smpWrite a f
    | 3 => s.smpMailbox a (bytesWords (a.payload f))
    | _ => (s.smpBegin a).smpEnd (a.response stBadOpcode [])

/-- A frame on the SMP port. -/
def State.smpFrame (s : State) (f : List Byte) : State :=
  let a := abvHead f
  if s.glb.state = .off then s
  else if f.length < 16 ∨ f.length ≠ a.count then s.bump 0x10009C 1
  else if !a.good f then s.smpBad a
  else if a.op = 4 then s.smpPoll
  else if s.cmd.smp.busy then s.bump 0x1000A0 1
  else if s.cmd.smp.seq = some (BitVec.ofNat 16 a.seq) then
    { s with cmd := { s.cmd with smp := { s.cmd.smp with answer := s.cmd.smp.resp } } }
  else s.smpExecute a f

/-! ### The commands -/

/-- REGISTER_WRITE (R13). -/
def execRegisterWrite (p : CmdPort) (addr : BitVec 28) (v : Word) (s : State) : Host.Outcome State Fault Refusal :=
  .next (s.busWrite p addr.toNat v)
/-- ABEVO_READ (R510). -/
def execAbevoRead (frame : List Byte) (s : State) : Host.Outcome State Fault Refusal := .next (s.smpFrame frame)
/-- ABEVO_WRITE (R510). -/
def execAbevoWrite (frame : List Byte) (s : State) : Host.Outcome State Fault Refusal := .next (s.smpFrame frame)
/-- ABEVO_MAILBOX (R510). -/
def execAbevoMailbox (frame : List Byte) (s : State) : Host.Outcome State Fault Refusal := .next (s.smpFrame frame)
/-- ABEVO_POLL (R511). -/
def execAbevoPoll (frame : List Byte) (s : State) : Host.Outcome State Fault Refusal := .next (s.smpFrame frame)

end Sys2Proof.Machine
end

