-- ==== Sys2Proof/Machine/Apply.lean ====
section
/-! DEFINITION. The apply of a structure image (R475, R482, R483, R488), the authorization rows (R501), the repair map (R33,
R36, R161, R265), the end of a verification (R480, R487), and APPLY and SWITCH of a restructure (R493 to R497). -/

namespace Sys2Proof.Machine

open Sys2Proof

/-! ### RWL fields (R475) -/

/-- The RWL bits of the word at an offset, less those of CLK: a restructure does not apply CLOCKS. -/
def rwlMask (a : Nat) : Word :=
  match locate a with
  | none => 0
  | some (.clk, _) => 0
  | some (b, o) =>
    match findRow b o with
    | some r => r.rwl
    | none => 0

/-- Every RWL field goes to its reset value, which the image then replaces where it gives one. -/
def State.resetRwl (s : State) : State :=
  { s with regs := Sparse.mapWith resetWord (fun a v => (v &&& ~~~(rwlMask a)) ||| (resetWord a &&& rwlMask a)) s.regs }

/-- The word with the bits of a mask replaced. -/
def putBits (old mask v : Word) : Word := (old &&& ~~~mask) ||| (v &&& mask)

/-- Write the RWL bits of a register. -/
def State.wrRwl (s : State) (a : Nat) (mask v : Word) : State := s.wr a (putBits (s.rd a) mask v)

/-! ### CLOCKS, SECURITY, AUTH -/

/-- CLOCKS (R589). -/
def State.applyClocks (s : State) (b : List Byte) : State :=
  let c := Config.decodeClocks b
  (s.wrRwl Reg.CLK_PLAN 0xF c.1).wrRwl Reg.CLK_LANE_GATE 0xFFFFFFFF c.2

/-- SECURITY (R482, R533). -/
def State.applySecurity (s : State) (b : List Byte) : State :=
  let w := BitVec.ofNat 32 (u32At b 0)
  { s with sec := { s.sec with requireEnc := bit w 0, zpinEn := bit w 1, coalesce := bit w 2 } }

/-- R501: a row as it takes effect. -/
def amendRow (variantH : Bool) (c : Nat) (row : BitVec 4) : BitVec 4 :=
  if c = 0 then row
  else if variantH then (if c = 5 then 0 else if 2 ≤ c then 0b0010 else row &&& 0b1011)
  else
    let r := row &&& 0b1011
    if c = 2 ∧ r = 0 then 0b0010 else r

/-- AUTH (R501): the rows of the image, amended. An amendment is audited once per apply. -/
def State.applyAuth (s : State) (b : List Byte) : State :=
  let l := Config.decodeAuth b
  let row (c : Fin 6) : BitVec 4 := l.getD c.val 0
  let new (c : Fin 6) : BitVec 4 := amendRow s.sec.variantH c.val (row c)
  let forced : Vector Bool 6 := Vector.ofFn fun c => decide (new c ≠ row c)
  let any := forced.toList.any id
  let s1 := { s with
    cmd := { s.cmd with
      rows := Vector.ofFn new, imageRows := Vector.ofFn row, forced := forced, authSrc := if any then 2 else 1 }
    img := { s.img with authForced := any } }
  if any then s1.audit 0x06 0 0 0 0 else s1

/-! ### The sections in the order of Table: Section types -/

/-- The RWL word of LAN_PORT_CTRL that a port's entry gives. -/
def entryCtrl (e : PortEntry) : Word :=
  pack [(6, e.cfhMode.toNat), (8, e.bundle.toNat), (10, b2n e.cmdPort), (11, b2n e.lr)]

/-- PORTS: the fields of a port's CTRL word. -/
def State.applyPort (s : State) (ps : List PortEntry) (k : Nat) : State :=
  s.wrRwl (lanReg k Reg.LAN_PORT_CTRL) 0xFC0 (entryCtrl (ps.getD k {}))

/-- R263, R265: the electrical lane of a port: that of the map, or, where the repair map holds that lane as failed, the one
that the port has. -/
def State.applyLane (s : State) (ps : List PortEntry) (k : Nat) : State :=
  let l := (ps.getD k {}).lane
  if (s.chip (chipOf k)).laneFailed.getLsbD l.val then s
  else s.setPort k { s.port k with lane := if l.val = k % 32 then none else some l }

/-- The ports of an image. -/
def imagePorts (m : Image) : List PortEntry := Config.decodePorts ((bodyOf m.sections secPorts).getD [])

/-- The tenants of an image: all ports in tenant 0 without a section. -/
def imageTenants (m : Image) : List (Fin 8) :=
  match bodyOf m.sections secTenants with
  | some b => Config.decodeTenants b
  | none => []

/-- The engine lists and the tap schedule of an image. -/
def imageEngines (m : Image) : EnginesSection := Config.decodeEngines ((bodyOf m.sections secEngines).getD [])

/-- REPAIR_OVERLAY of an image. -/
def imageOverlay (m : Image) : OverlaySection :=
  match bodyOf m.sections secOverlay with
  | some b => Config.decodeOverlay b
  | none => { parkAdd := [], parkClear := [], adcClear := [], laneClear := [], pageClear := [] }

/-- CONTROLLER of an image: CTL-A and the default order without a section. -/
def imageController (m : Image) : ControllerSection :=
  match bodyOf m.sections secController with
  | some b => Config.decodeController b
  | none => { preferB := false, order := [] }

/-- REPAIR_OVERLAY (R33, R36, R161, R265, R332): its entries are in force, and what it clears leaves the repair map. -/
def State.applyOverlay (s : State) (x : OverlaySection) : State :=
  let s1 := { s with
    mtx := { s.mtx with
      overlayAdd := x.parkAdd, overlayClear := x.parkClear
      overlayRefused := (x.parkClear.filter fun e => s.mtx.factory.contains e).length
      field := s.mtx.field.filter fun e => !x.parkClear.contains e }
    adc := { s.adc with map := s.adc.map.filter fun u => !x.adcClear.contains u } }
  let s2 := x.laneClear.foldl (fun s l => s.repairRemove 2 l) s1
  x.pageClear.foldl (fun s n => s.repairRemove 3 n) s2

/-- PARSER_UCODE at one chiplet: at start-up into the bank in use, at a restructure into the other bank, which then is. -/
def Chip.applyUcode (x : Chip) (startup : Bool) (u : List UInstr) : Chip :=
  if startup then (if x.ucActive = 0 then { x with uc0 := u } else { x with uc1 := u })
  else { x.putUcode u with ucActive := 1 - x.ucActive, ucSwap := none }

/-- The section of a type that applies to chiplet c: its own, or that for all chiplets. -/
def chipSection (xs : List Section) (t c : Nat) : Option (List Byte) :=
  let mine := xs.find? fun x => decide (x.type = t ∧ x.inst = c)
  (mine.orElse fun _ => xs.find? fun x => decide (x.type = t ∧ x.inst = 255)).map fun x => x.body

/-- PARSER_UCODE at chiplet c. -/
def State.applyUcodeAt (s : State) (xs : List Section) (startup : Bool) (c : Nat) : State :=
  match chipSection xs secUcode c with
  | some b => s.setChip c ((s.chip c).applyUcode startup (ucodeOf b))
  | none => s

/-- QUEUES at chiplet c. -/
def State.applyQueuesAt (s : State) (xs : List Section) (c : Nat) : State :=
  match chipSection xs secQueues c with
  | none => s
  | some b =>
    let q := Config.decodeQueues b
    let s1 := s.wrRwl (prsReg c Reg.PRS_BANK_HDR) 0x3FFFFFF q.hdr0
    let s2 := s1.wrRwl (prsReg c (Reg.PRS_BANK_HDR + 4)) 0x3FFFFFF q.hdr1
    let s3 := s2.wrRwl (prsReg c Reg.PRS_IND_BASE) 0x3FFFFFF q.indBase
    let s4 := s3.wrRwl (mtrReg c Reg.MTR_ECN_KB) 0x3F q.ecnKb
    (q.admMap.zipIdx.take 1024).foldl (fun s w => s.wrRwl (mtrReg c (Reg.MTR_ADM_MAP + 4 * w.2)) 0x3F3F3F3F w.1) s4

/-! ### REG_INIT (R483) -/

/-- A word of a coefficient bank or of a calendar: at start-up both banks and both areas are writable. -/
def startWritable (a : Nat) : Bool :=
  match locate a with
  | some (.lpe, o) => decide (0x10000 ≤ o ∧ o < 0x13000)
  | some (.slt, o) => decide (o = 0x30 ∨ o = 0x34 ∨ 0x10000 ≤ o)
  | _ => false

/-- The port of an egress window, and whether a write there needs the lead port. -/
def State.notLead (s : State) (b : Blk) (o : Nat) : Bool :=
  match b with
  | .lan c => decide (o < 0x8000) && !s.isLead (32 * c + o / 0x400)
  | .que c =>
    (decide (0x1000 ≤ o ∧ o < 0x5000) && !decide (0x40 ≤ o % 0x200 ∧ o % 0x200 < 0x60) &&
      !s.isLead (32 * c + (o - 0x1000) / 0x200)) ||
    (decide (0x10000 ≤ o) && !s.isLead (32 * c + (o - 0x10000) / 0x800))
  | _ => false

/-- The register's own rules discard or refuse the write: it is closed (R80, R195, R157, R254, R361, R396), or the write sets
a refusal bit of the register. -/
def State.pairRefused (s : State) (a : Nat) (v : Word) : Bool :=
  match locate a with
  | none => true
  | some (b, o) =>
    let s1 := s.regAct .pcie a v
    let own : Word := match findRow b o with
      | some r => (s1.rd a &&& ~~~(s.rd a)) &&& r.w1c
      | none => 0
    decide (own ≠ 0) || s.notLead b o ||
    match b with
    | .lpe => decide (0x10000 ≤ o ∧ o < 0x13000) && s.bankClosed (o % 0x100 / 0x80)
    | .slt =>
      (decide (o = 0x30 ∨ o = 0x34) && !s.calWritable ((o - 0x30) / 4)) ||
      (decide (0x10000 ≤ o) && !s.calWritable ((o - 0x10000) / 0x800))
    | .cnv => decide (0x800 ≤ o ∧ o < 0x990) && s.auCfgRefused ((o - 0x800) / 4) v
    | .que c =>
      let k := if 0x10000 ≤ o then 32 * c + (o - 0x10000) / 0x800 else 32 * c + (o - 0x1000) / 0x200
      let area := if 0x10000 ≤ o then (o - 0x10000) % 0x800 / 0x400 else (o % 0x200 - 0x184) / 4
      let g := (s.port k).gates
      (decide (0x10000 ≤ o) || decide (0x1000 ≤ o ∧ o < 0x5000 ∧ (o % 0x200 = 0x184 ∨ o % 0x200 = 0x188))) &&
      (decide (area = g.oper.val) || g.pending.isSome)
    | .acq => decide (0x10000 ≤ o ∧ o < 0x18000) && decide ((s.loupe ((o - 0x10000) / 0x1000)).st ≠ .idle) &&
        decide (o % 0x1000 ≠ 0x24)
    | _ => false

/-- A REG_INIT pair: a write of the whole register, or skipped and counted. -/
def State.applyPair (s : State) (startup : Bool) (p : Nat × Word) : State :=
  if startup && startWritable p.1 then s.plainWrite .pcie p.1 p.2
  else if s.pairRefused p.1 p.2 then s.bump 0x138 1
  else s.regAct .pcie p.1 p.2

/-- The pairs of an image. -/
def imagePairs (m : Image) : List (Nat × Word) := regPairs ((bodyOf m.sections secRegInit).getD [])

/-! ### The apply -/

/-- CALENDAR at start-up (R195): area 0 takes the section, or the default calendar. -/
def State.applyCalendar (s : State) (m : Image) : State :=
  match bodyOf m.sections secCalendar with
  | some b => s.putCalendar 0 b
  | none => s.putDefaultCalendar 0

/-- The sections that the apply of a full image writes at once, in the order of R488. What takes effect at the SWITCH of a
restructure is not among them. -/
def State.applySections (s : State) (m : Image) (startup : Bool) : State :=
  let xs := m.sections
  let s0 := { s with
    img := { s.img with locked := false }
    ctrs := Sparse.erase s.ctrs 0x138 }
  let s1 := s0.resetRwl
  let s2 := if startup then s1.applyClocks ((bodyOf xs secClocks).getD []) else s1
  let s3 := (s2.applySecurity ((bodyOf xs secSecurity).getD [])).applyAuth ((bodyOf xs secAuth).getD [])
  let s4 := (List.range 512).foldl (fun s k => s.applyPort (imagePorts m) k) s3
  let s5 := if startup then { s4 with img := { s4.img with ports := imagePorts m, tenants := imageTenants m } } else s4
  let s6 := s5.applyOverlay (imageOverlay m)
  let s7 := (List.range 16).foldl (fun s c => s.applyUcodeAt xs startup c) s6
  let s8 := (List.range 16).foldl (fun s c => s.applyQueuesAt xs c) s7
  let s9 := if startup then { s8 with img := { s8.img with engines := imageEngines m } }.applyCalendar m else s8
  let s10 := (imagePairs m).foldl (fun s p => s.applyPair startup p) s9
  { s10 with img := { s10.img with controller := imageController m, locked := true } }

/-! ### The repair map -/

/-- The parks of the repair map and the overlay take effect (R33, R36). While Prism runs a park that is new acts from slot
n + 3, as R35 has it; what is no longer parked leaves the set at once. -/
def State.applyParks (s : State) : State :=
  let m := s.mtx
  let now := m.merged
  let fresh := (List.range 4608).filter fun e => now.getLsbD e && !m.parked.getLsbD e
  if s.slt.start.isSome then
    { s with mtx := { m with parked := m.parked &&& now, pending := fresh.map fun e => (e, s.slt.slot + 3) } }
  else { s with mtx := { m with parked := now, pending := [] } }

/-- The failed ADC units of the repair map (R161); a pair of which both have failed raises its fault. -/
def State.applyAdcMap (s : State) : State :=
  let s1 := (List.range 100).foldl (fun s u =>
    let f := s.adc.map.contains u
    if (s.au u).failed = f then s else s.setAu u { s.au u with failed := f }) s
  ((List.range 50).filter fun i => (s1.au (2 * i)).failed && (s1.au (2 * i + 1)).failed &&
      !((s.au (2 * i)).failed && (s.au (2 * i + 1)).failed)).foldl
    (fun s i => s.raise (faultCode fbAdc (128 + i)) 2) s1

/-- A page returns to service: its indices that no segment uses join the free list of their channel. -/
def Chip.returnPage (x : Chip) (p : Page) : Chip :=
  let hold := decide (p.region = 1)
  let r := x.region hold
  let back := ((List.range 8).map fun i => 8 * p.index + i).filter fun i =>
    decide (i < Sparse.get (fun _ => 0) r.next p.channel) && !r.used.contains (segId hold p.channel i)
  x.setRegion hold { r with
    ret := Sparse.set (fun _ => []) r.ret p.channel (Sparse.get (fun _ => []) r.ret p.channel ++ back) }

/-- Pages whose repair-map entry is gone return to service at the next apply. A page retired past a full map stays retired
until the next start-up (R332). -/
def State.applyPages (s : State) (c : Nat) : State :=
  let x := s.chip c
  let stays (p : Page) : Bool := p.recorded || p.past
  s.setChip c ((x.pages.filter fun p => !stays p).foldl Chip.returnPage { x with pages := x.pages.filter stays })

/-- The repair map as a whole (step 6 of Table: Start-up sequence; R497), for the ports of an image. -/
def State.applyRepairMap (s : State) (ps : List PortEntry) : State :=
  let s1 := s.applyParks.applyAdcMap
  let s2 := (List.range 16).foldl State.applyPages s1
  (List.range 512).foldl (fun s k => s.applyLane ps k) s2

/-! ### The end of a verification (R480, R487) -/

/-- Table: Default order of R549: time unit, controllers, packet cores, lanes, heater quadrants, lasers. -/
def defaultOrder : List Nat :=
  [62, 48, 49] ++ (List.range 16).map (fun c => 32 + c) ++ List.range 32 ++ [50, 51, 52, 53] ++
  (List.range 8).map fun g => 54 + g

/-- The power-up order of an image; domains that its section does not list follow in the default order. -/
def powerOrderOf (x : ControllerSection) : List (Fin 64) :=
  let given := (x.order.filter fun d => decide (d.val ≠ 63)).dedup
  given ++ (defaultOrder.map (Fin.ofNat 64)).filter fun d => !given.contains d

/-- IMAGE_APPLY at start-up (R488): the device enters STRUCTURED. -/
def State.boot (s : State) (m : Image) : State :=
  let s1 := s.applySections m true
  let s2 := { s1 with
    img := { s1.img with inForce := some m }
    glb := { s1.glb with powerOrder := powerOrderOf s1.img.controller } }
  (s2.stepEnd 3).setGState .structured

/-- An image slot. -/
def ImgSt.slot (m : ImgSt) (i : Fin 2) : ImgSlot := if i = 0 then m.slot0 else m.slot1

/-- The bytes of a slot. -/
def ImgSlot.all (x : ImgSlot) : List Byte := (List.range x.len).map fun i => Sparse.get (fun _ => 0) x.bytes i

/-- ERR and FAULT_INFO of a failed check. -/
def State.verifyFails (s : State) (e : VErr) : State :=
  { s with img := { s.img with
      err := BitVec.ofNat 4 e.code, faultSection := BitVec.ofNat 5 e.sect, faultOffset := BitVec.ofNat 24 e.off } }

/-- The verification of a staged image that waited for that of a slot begins. -/
def State.nextVerify (s : State) : State :=
  { s with img := { s.img with verifying := if s.img.stage = .verifying then some .staged else none } }

/-- The verification of slot i ends. -/
def State.slotVerified (s : State) (i : Fin 2) : State :=
  match s.verifyImage (s.img.slot i).all false with
  | .ok m =>
    let fb := decide (s.img.firstTried ≠ some i)
    let s1 := { s with img := { s.img with
      bootSlot := i, fallback := fb
      slot0 := { s.img.slot0 with passed := decide (i = 0) }
      slot1 := { s.img.slot1 with passed := decide (i = 1) } } }
    ((s1.audit 0x10 0 0 0 (BitVec.ofNat 32 (i.val + 2 * b2n fb))).boot m).nextVerify
  | .error e =>
    let s1 := (s.verifyFails e).audit 0x11 0 0 0 (BitVec.ofNat 32 (e.code + 16))
    let o : Fin 2 := 1 - i
    if s.img.firstTried = some i ∧ (s.img.slot o).valid then
      { s1 with img := { s1.img with verifying := some (.slot o) } }
    else s1.nextVerify

/-- The verification of the staged image ends. In BOOT a full image that passes is applied (R487). -/
def State.stagedVerified (s : State) : State :=
  let s0 := { s with img := { s.img with verifying := none } }
  match s.verifyImage s.stagedBytes true with
  | .ok m =>
    let s1 := { s0 with img := { s0.img with
      stage := if m.overlay then .overlay else .full, staged := some m, err := 0 } }
    if s.glb.state = .boot ∧ m.overlay = false then
      ({ s1 with img := { s1.img with delivered := true, bootSlot := 1 } }.boot m).imgIrq
    else s1.imgIrq
  | .error e =>
    let s1 := { s0.verifyFails e with img := { (s0.verifyFails e).img with stage := .failed } }
    (s1.audit 0x11 s.imgPort 2 0 (BitVec.ofNat 32 e.code)).imgIrq

/-- IMAGE_VERIFY_DONE. -/
def State.imageVerified (s : State) : State :=
  match s.img.verifying with
  | none => s
  | some (.slot i) => s.slotVerified i
  | some .staged => s.stagedVerified

/-! ### APPLY and SWITCH of a restructure (R493 to R497) -/

/-- What of a port's lanes a restructure changed: its map, bundle, class or CFH mode. -/
def portChanged (old new : State) (k : Nat) : Bool :=
  let a := lanReg k Reg.LAN_PORT_CTRL
  decide ((old.rd a ^^^ new.rd a) &&& 0xBC0 ≠ 0) || decide (old.laneOf k ≠ new.laneOf k)

/-- R493: the lanes of a port that changed train again. -/
def State.retrainChanged (s old : State) (k : Nat) : State :=
  if (List.range 512).any fun j => decide (s.lead j = s.lead k) && portChanged old s j then
    (if s.isLead k && s.portActs k then s.restartTraining k else s.setPort k ((s.port k).off 0))
  else s

/-- APPLY_END: the sections of the staged image are applied, and SWITCH waits for a cycle boundary. -/
def State.applyEnd (s : State) : State :=
  match s.img.phase, s.img.staged with
  | .apply, some m =>
    let s1 := (s.applySections m false).applyRepairMap (imagePorts m)
    let s2 := (List.range 512).foldl (fun t k => t.retrainChanged s k) s1
    { s2 with img := { s2.img with phase := .switching } }
  | _, _ => s

/-- R494: a resident packet whose egress port the image no longer enables, or whose egress port lies in another tenant. -/
def State.switchDiscard (s : State) (n : Nat) : State :=
  match s.pkt n with
  | none => s
  | some p =>
    if !s.imgEnables p.eg then s.discardIngress n drNoEgress
    else if s.tenant p.eg ≠ s.tenant p.ing then s.discardIngress n drEgressTenant
    else s

/-- R494: the image's calendar is in force from this boundary, and a pending change is withdrawn. -/
def State.switchCalendar (s : State) (b : List Byte) : State :=
  let s1 := if s.slt.change.isSome then
      ({ s with slt := { s.slt with change := none } }.wrBit Reg.SLT_CHANGE_CTRL 0 false).wrBit Reg.SLT_CHANGE_CTRL 12 true
    else s
  let new := s1.slt.activeArea + 1
  let s2 := s1.putCalendar new.val b
  { s2 with slt := { s2.slt with activeArea := new, calStart := s2.slt.slot } }

/-- The SWITCH boundary has come: a cycle boundary, outside the safe state and a switch-over gap (R496). -/
def State.switchDue (s : State) : Bool :=
  decide (s.img.phase = .switching) && decide (s.slt.slot % 512 = 0) && !s.flt.safe && s.red.gapEnd.isNone

/-- RESTRUCTURE_SWITCH. The new engine lists serve from the next sample boundary. -/
def State.restructureSwitch (s : State) : State :=
  match s.switchDue, s.img.staged with
  | true, some m =>
    let s1 := { s with img := { s.img with
      ports := imagePorts m, tenants := imageTenants m, nextEngines := some (imageEngines m), inForce := some m, phase := .none } }
    let s2 := s1.keepTenants.epochsAll
    let s3 := match bodyOf m.sections secCalendar with
      | some b => s2.switchCalendar b
      | none => s2
    let s4 := (s3.chips.toList.flatMap fun x => x.voq).foldl State.switchDiscard s3
    let s5 := (s4.setGState s4.glb.rsReturn).dropPorts.startAll
    s5.imgEnds 0x13 0
  | _, _ => s

/-! ### The commands -/

/-- IMAGE_VERIFY_DONE (R480). -/
def execImageVerifyDone (s : State) : Host.Outcome State Fault Refusal := .next s.imageVerified
/-- APPLY_END (R493). -/
def execApplyEnd (s : State) : Host.Outcome State Fault Refusal := .next s.applyEnd
/-- RESTRUCTURE_SWITCH (R494). -/
def execRestructureSwitch (s : State) : Host.Outcome State Fault Refusal := .next s.restructureSwitch

end Sys2Proof.Machine
end

