-- ==== Sys2Proof/Machine/Startup.lean ====
section
/-! DEFINITION. The events of the start-up sequence (R546 to R553) and of the restart of a domain (R562 to R565). -/

namespace Sys2Proof.Machine

open Sys2Proof

/-! ### Steps 2 and 3 -/

/-- R532: the fuse fields left partly programmed are audited at POR. -/
def State.auditPartial (s : State) : State :=
  (List.range 7).foldl (fun s i =>
    if s.sec.partialAt.getLsbD i then s.audit 0x27 0 0 0 (BitVec.ofNat 32 i) else s) s

/-- The image key, if it is present (R530). -/
def KeyFuse.key? : KeyFuse → Option (Vector Word 8)
  | .present k => some k
  | _ => none

/-- R487: the slot that is verified first: the higher SEQ of the valid slots, slot 0 on a tie. -/
def ImgSt.firstSlot (m : ImgSt) : Option (Fin 2) :=
  if m.slot0.valid && m.slot1.valid then (if m.slot1.u32 0x10 ≤ m.slot0.u32 0x10 then some 0 else some 1)
  else if m.slot0.valid then some 0
  else if m.slot1.valid then some 1
  else none

/-- In BOOT the device verifies its slots; a RETIRED device verifies none (R522). -/
def State.beginBoot (s : State) : State :=
  if s.sec.lifecycle = .retired then s
  else { s with img := { s.img with verifying := s.img.firstSlot.map .slot, firstTried := s.img.firstSlot } }

/-- PLL_LOCK_HELD (R547, R574): AON ends: POR of the other domains, straps and fuses are read. -/
def State.pllHeld (s : State) (straps : BitVec 4) : State :=
  if s.glb.state = .aon ∧ s.glb.pwrEn = true ∧ s.glb.vin = .good ∧ s.latched = false then
    let s1 := { s with
      glb := { s.glb with pllLock := true, refclkOk := true, straps := straps }
      sec := { s.sec with volKey := s.sec.imageKey.key? } }
    ((s1.auditPartial.stepEnd 2).setGState .boot).beginBoot
  else s

/-! ### Step 4 and the power of a domain -/

/-- The domain that waits for power-good is the next of the order. -/
def State.powersNext (s : State) (d : Fin 64) : Bool := decide (s.glb.powerOrder.head? = some d)

/-- The next domain of the order is done with. Step 4 ends with the last. -/
def State.powerStep (s : State) : State :=
  let s1 := { s with glb := { s.glb with powerOrder := s.glb.powerOrder.tail } }
  if decide (s1.glb.state = .structured) && s1.glb.powerOrder.isEmpty then s1.stepEnd 4 else s1

/-- What the power of a packet-core domain brings in a restart: its loss is recognised by now. -/
def State.coreUp (s : State) (d : Nat) : State :=
  if 32 ≤ d ∧ d < 48 ∧ s.glb.domRestart.isSome then (s.chipletLoss (d - 32)).setDom d true else s.setDom d true

/-- DOMAIN_POWER_GOOD (R549, R564). -/
def State.powerGood (s : State) (d : Fin 64) : State :=
  if s.powersNext d then (s.coreUp d.val).powerStep
  else if s.glb.domRestart = some d ∧ s.domOn d.val = false then s.coreUp d.val
  else s

/-- R549, R562: what a domain that stays off brings: the modulators of a laser bank group are dark, the two lane domains of a
packet core stay off with it, and a heater quadrant or the time unit raises the safety fault of its loss (DEDUCED, assumption
138). -/
def State.staysOff (s : State) (d : Nat) : State :=
  if 54 ≤ d ∧ d < 62 then s.loseLasers (d - 54)
  else if 32 ≤ d ∧ d < 48 then
    let c := d - 32
    let s1 := (s.loseLane (2 * c)).loseLane (2 * c + 1)
    { s1 with glb := { s1.glb with powerOrder := s1.glb.powerOrder.filter fun x => decide (x.val / 2 ≠ c) || decide (32 ≤ x.val) } }
  else if (50 ≤ d ∧ d < 54) ∨ d = 62 then s.raiseSys 3
  else s

/-- DOMAIN_POWER_TIMEOUT (R549): the domain stays off, and start-up goes on without it. -/
def State.powerTimeout (s : State) (d : Fin 64) : State :=
  if s.glb.state = .structured && s.powersNext d then ((s.staysOff d.val).raisePwr d.val).powerStep else s

/-! ### Steps 5 and 6, and the restart of a packet-core domain -/

/-- R333: a page that training repaired returns to service and leaves the repair map. -/
def State.repairPage (s : State) (p : Fin 16 × BitVec 32) : State :=
  let x := s.chip p.1.val
  s.setChip p.1.val { x with pages := x.pages.filter fun g => decide (g.number p.1.val ≠ p.2.toNat) }

/-- A trained stack has its free lists, and the buckets of its chiplet are full (R314). -/
def State.trainStack (s : State) (c : Nat) : State :=
  if s.chipOn c then (s.setChip c { s.chip c with stackUp := true, packet := {}, hold := {} }).fillMeters c else s

/-- Steps 5 and 6: a zeroization that was held runs between them (R538, R550). -/
def State.trainingEnds (s : State) (repaired : List (Fin 16 × BitVec 32)) : State :=
  let s1 := repaired.foldl State.repairPage s
  let s2 := ((List.range 16).foldl State.trainStack s1).stepEnd 5
  match s2.sec.zeroHeld with
  | some cause => s2.zeroize cause
  | none => (s2.applyRepairMap s2.img.ports).stepEnd 6

/-- The registers and counters of a packet-core domain return to reset, and so do its ports. -/
def State.coreReset (s : State) (c : Nat) : State :=
  let mine (a : Nat) : Bool := decide (0x1000000 + c * 0x100000 ≤ a ∧ a < 0x1100000 + c * 0x100000)
  let s1 := { s with
    regs := s.regs.filter fun x => !mine x.1
    ctrs := s.ctrs.filter fun x => !mine x.1 }
  (List.range 32).foldl (fun s p => s.setPort (32 * c + p) { lane := (s.port (32 * c + p)).lane }) s1

/-- R565: the sections of the image in force that belong to chiplet c. -/
def State.reapply (s : State) (c : Nat) : State :=
  match s.img.inForce with
  | none => s
  | some m =>
    let ps := imagePorts m
    let was := s.img.locked
    let s0 := { s with img := { s.img with locked := false } }
    let s1 := (List.range 32).foldl (fun s p => (s.applyPort ps (32 * c + p)).applyLane ps (32 * c + p)) s0
    let s2 := (s1.applyUcodeAt m.sections true c).applyQueuesAt m.sections c
    let mine := (imagePairs m).filter fun p =>
      decide (0x1000000 + c * 0x100000 ≤ p.1 ∧ p.1 < 0x1100000 + c * 0x100000)
    let s3 := mine.foldl (fun s p => s.applyPair false p) s2
    { s3 with img := { s3.img with locked := was } }

/-- The restart of packet-core domain d after its training: sections, counters from the mirror, EPOCHs; then its two lane
domains. -/
def State.coreRestarts (s : State) (d : Nat) (repaired : List (Fin 16 × BitVec 32)) : State :=
  let c := d - 32
  let s1 := ((repaired.filter fun p => decide (p.1.val = c)).foldl State.repairPage s).coreReset c
  let x := (s1.chip c).afterLoss
  let s2 := ((((s1.setChip c { x with lost := false }).applyPages c).trainStack c).reapply c).fillMeters c
  let s3 := { s2 with brt := { s2.brt with mirrored := s2.brt.mirrored &&& ~~~(BitVec.ofNat 16 (2 ^ c)) } }
  let s4 := s3.epochsOf c
  { s4 with glb := { s4.glb with powerOrder := [Fin.ofNat 64 (2 * c), Fin.ofNat 64 (2 * c + 1)] } }

/-- DRAM_TRAINING_DONE (R333). -/
def State.dramTrained (s : State) (repaired : List (Fin 16 × BitVec 32)) : State :=
  if s.glb.state = .structured ∧ s.glb.step = 5 ∧ s.active?.isSome = true then s.trainingEnds repaired
  else
    match s.glb.domRestart with
    | some d =>
      if 32 ≤ d.val ∧ d.val < 48 ∧ s.domOn d.val = true ∧ (s.chip (d.val - 32)).stackUp = false then
        s.coreRestarts d.val repaired
      else s
    | none => s

/-! ### Steps 7 and 8, and the restart of a laser bank group -/

/-- R551: the banks whose emitters come up: all that have power at start-up, or those of the group that restarts. -/
def State.risingBanks (s : State) : List Nat :=
  if s.glb.state = .structured ∧ s.glb.step = 7 then (List.range 32).filter fun n => s.domOn (54 + n / 4)
  else
    match s.glb.domRestart with
    | some d => if 54 ≤ d.val ∧ d.val < 62 ∧ s.domOn d.val = true then groupBanks (d.val - 54) else []
    | none => []

/-- The 17 emitters of a bank come up at low power. -/
def State.emittersUp (s : State) (n : Nat) : State :=
  let s1 := (List.range 17).foldl (fun s i => s.setEmitter n i { up := true, failed := false, on := true, dB := 10 }) s
  (s1.setBank n { s1.bank n with unlit := false }).updateDark n

/-- The emitters of bank n that were judged dim. -/
def dimOf (dim : List (Fin 544)) (n : Nat) : List Nat :=
  (dim.filter fun x => decide (x.val / 17 = n)).map fun x => x.val % 17

/-- LASER_LOW_POWER_END (R551): the dim emitters have failed, and each gets the spare under its bank's SPARE_MODE before any
emitter leaves low power; then all ramp. -/
def State.lowPowerEnd (s : State) (dim : List (Fin 544)) : State :=
  s.risingBanks.foldl (fun s n =>
    let s1 := (dimOf dim n).foldl (fun s i => s.emitterFail n i) (s.emittersUp n)
    if s1.slt.running then s1 else s1.spareTakeover n) s

/-- The emitters of a bank reach nominal power; an unused spare follows SPARE_WARM (R43). -/
def State.emittersNominal (s : State) (n : Nat) : State :=
  let s1 := (List.range 17).foldl (fun s i =>
    let x := s.emitter n i
    if x.up && x.on then s.setEmitter n i { x with dB := 0 } else s) s
  (s1.warmSpare n).updateDark n

/-- Step 8: the ADC units are calibrated (R164), the sets checked (R184), the latest loaded (R165) and interpolated (R181); then LOCKING, or CALIBRATING
under R167. -/
def State.stepEight (s : State) (adc : List AdcMeas) : State :=
  let s1 := (adc.foldl State.calAdc s).checkSets.loadLatest.updateCalTemp
  let s2 := s1.interpolate
  if s2.needsFull then s2.beginFull else (s2.stepEnd 8).enterLocking

/-- LASER_NOMINAL (R551). -/
def State.nominal (s : State) (adc : List AdcMeas) : State :=
  let bs := s.risingBanks
  let s1 := bs.foldl State.emittersNominal s
  if s.glb.state = .structured ∧ s.glb.step = 7 then (s1.stepEnd 7).stepEight adc
  else if bs.isEmpty then s
  else { s1 with glb := { s1.glb with domRestart := none } }

/-! ### Step 9 -/

/-- LOCK_LIMIT (R553): an element of the active controller is still in ACQUISITION: a lasting fault, whose action parks or holds
it (R119). -/
def State.lockLimit (s : State) (e : Nat) : State :=
  if s.glb.state = .locking ∧ (s.elem s.actCtl e).mode = .acquisition then s.raise (elemCode e) 2 else s

/-! ### The commands -/

/-- PLL_LOCK_HELD (R547). -/
def execPllLockHeld (straps : BitVec 4) (s : State) : Host.Outcome State Fault Refusal := .next (s.pllHeld straps)
/-- DOMAIN_POWER_GOOD (R549). -/
def execDomainPowerGood (d : Fin 64) (s : State) : Host.Outcome State Fault Refusal := .next (s.powerGood d)
/-- DOMAIN_POWER_TIMEOUT (R549). -/
def execDomainPowerTimeout (d : Fin 64) (s : State) : Host.Outcome State Fault Refusal := .next (s.powerTimeout d)
/-- DRAM_TRAINING_DONE (R333). -/
def execDramTrainingDone (repaired : List (Fin 16 × BitVec 32)) (s : State) : Host.Outcome State Fault Refusal :=
  .next (s.dramTrained repaired)
/-- LASER_LOW_POWER_END (R551). -/
def execLaserLowPowerEnd (dim : List (Fin 544)) (s : State) : Host.Outcome State Fault Refusal := .next (s.lowPowerEnd dim)
/-- LASER_NOMINAL (R551). -/
def execLaserNominal (adc : List AdcMeas) (s : State) : Host.Outcome State Fault Refusal := .next (s.nominal adc)
/-- LOCK_LIMIT (R553). -/
def execLockLimit (e : Fin 5120) (s : State) : Host.Outcome State Fault Refusal := .next (s.lockLimit e.val)

end Sys2Proof.Machine
end

