-- ==== Sys2Proof/Machine/Pins.lean ====
section
/-! DEFINITION. What the balls of the management group show (R575, R616, Table: Outputs by state of R559): levels that follow from
the state. -/

namespace Sys2Proof.Machine

open Sys2Proof

/-- What an open-drain ball does to its line. -/
inductive Ball where
  | low | released | highZ
  deriving DecidableEq, Repr

/-- An open-drain ball of the always-on domain: high impedance without its power (R575). -/
def State.ball (s : State) (low : Bool) : Ball :=
  if !s.domOn 63 then .highZ else if low then .low else .released

/-- R445: a record is open whose reaction is INTERRUPT or higher. -/
def State.alerting (s : State) : Bool :=
  match s.flt.openRec with
  | some i => decide (1 ≤ (s.fltRecord i.val).reaction)
  | none => false

/-- ALERT_N (R445, R559): low while such a record is open and ALERT_EN is set, from STRUCTURED on. -/
def State.alertN (s : State) : Ball :=
  s.ball (decide (s.glb.state ∉ [.off, .aon, .boot]) && s.rdBit Reg.FLT_CTRL 3 && s.alerting)

/-- THERM_N (Table: Management ball map): low while THM_STATUS.ANY_SHUTDOWN is 1. -/
def State.thermN (s : State) : Ball := s.ball (s.anyZone Zone.shutdown)

/-- Every domain that the image enables reports power-good: those of its power-up order, and always-on. Before an image is in
force PGOOD is low (DESIGN CHOICE, assumption 139). -/
def State.allGood (s : State) : Bool :=
  s.img.inForce.isSome && s.domOn 63 && (powerOrderOf s.img.controller).all fun d => s.domOn d.val

/-- PGOOD (R616). -/
def State.pgood (s : State) : Ball := s.ball (!s.allGood)

/-- TRIGn (R406, R559): low while a unit of this device asserts it. -/
def State.trig (s : State) (n : Fin 4) : Ball := s.ball (s.lineDriven n.val)

/-- The PCIe endpoint is present (R559): from step 4 on. -/
def State.pciePresent (s : State) : Bool := decide (s.glb.state ∉ [.off, .aon, .boot]) && decide (4 ≤ s.glb.step)

end Sys2Proof.Machine
end

