-- ==== Sys2Proof/Machine/Sample.lean ====
section
/-! DEFINITION. LOOP_SAMPLE_BOUNDARY (R55): what the end of a loop sample and the start of the next hold together. -/

namespace Sys2Proof.Machine

open Sys2Proof

/-! ### Excitation (R59 to R61) -/

/-- The seed of emitter x = 17n + i. -/
def lfsrSeed (x : Nat) : BitVec 23 := BitVec.ofNat 23 (x + 1)

/-- One step of the LFSR of x²³ + x¹⁸ + 1: bit 0 becomes the chip of the sample. -/
def lfsrStep (r : BitVec 23) : BitVec 23 := (r <<< 1) ||| BitVec.ofNat 23 (b2n (r.getLsbD 22 != r.getLsbD 17))

/-- The LFSR of an emitter. -/
def LoopShared.lfsrOf (l : LoopShared) (x : Nat) : BitVec 23 := Sparse.get lfsrSeed l.lfsr x

/-- EXCITATION_CHIP: every LFSR steps. -/
def LoopShared.stepLfsr (l : LoopShared) : LoopShared :=
  { l with lfsr := (List.range 544).filterMap fun x =>
      let v := lfsrStep (l.lfsrOf x)
      if v = lfsrSeed x then none else some (x, v) }

/-- DEPTH and EN in force (R60, R61). -/
def LoopShared.excite (l : LoopShared) (w : Word) : LoopShared :=
  { l with depth := BitVec.ofNat 5 (clampN 1 16 (fld w 4 0)), excOn := bit w 5 }

/-! ### The sample that begins -/

/-- LPE_SAMPLE takes its next value; the first boundary after the loops start begins sample 0. Before that there is no
sample, and only the boundaries are counted (R180). -/
def LoopShared.next (l : LoopShared) : LoopShared :=
  let l1 := { l with bnd := l.bnd + 1, capPrev := l.capCur, capCur := none }
  if l.first then (if l.running then { l1 with first := false }.stepLfsr else l1)
  else { l1 with sample := l.sample + 1 }.stepLfsr

/-- Targets written since the last boundary (R90). -/
def LoopShared.takeTargets (l : LoopShared) : LoopShared :=
  { l with target := l.targetPend.foldl (fun m p => Sparse.set (fun _ => 0) m p.1 p.2) l.target, targetPend := [] }

/-- The level codes of an element as they are latched at the boundary; while Prism does not run they take effect at once
(R139, R140). A parked element holds its codes. -/
def State.latchLevel (s : State) (e : Nat) : State :=
  if s.isParked e || !s.domOn (50 + quadrantOf e) then s
  else
    let c := s.aim e
    s.setChan e (if s.slt.running then c else c.jump)

/-- Level codes, and while neither Prism runs nor Diopter owns the outputs the selects (R140, R41). -/
def State.latchLevels (s : State) : State :=
  if s.codesHeld || s.switchoverDue || !s.loopS.running then s
  else
    let s1 := (List.range 5120).foldl State.latchLevel s
    if s1.slt.running then s1 else { s1 with drv := { s1.drv with sel := s1.selectorSel } }

/-- R137: STALE of a range change has one boundary less to go. -/
def Chan.countStale (c : Chan) : Chan := { c with staleLeft := c.staleLeft - 1 }

/-- What a sample boundary does to every channel at the end of the sample (R132) and for its range change (R137). -/
def State.chansAtBoundary (s : State) : State :=
  { s with drv := { s.drv with
      chans := Sparse.mapVals (fun _ => {}) (fun c => c.sampleEnd.countStale) s.drv.chans } }

/-- MODE_CHANGE (R93). -/
def State.changeModes (s : State) : State := s.modeWatch s.applyModeDue.applyModeReq

/-- HEATER_APPLY at the boundary (R55); none at the start of a switch-over (R420). -/
def State.heatersAtBoundary (s : State) : State := if s.switchoverDue then s else s.applyHeaters

/-- What falls at every 256th boundary: CAL_TEMP_UPDATE (R180) and HEALTH_REPORT (R431). -/
def State.every256 (s : State) : State := if s.loopS.bnd % 256 = 0 then s.updateCalTemp.healthReport else s

/-- The end of the sample under way: Loupe samples, what its capture showed of units and emitters (R44, R159) and of a full
calibration (R171), probes that STALE spoils (R70), the state copy (R425) and the comparison (R413). -/
def State.sampleEnds (s : State) : State :=
  let s1 := (List.range 8).foldl State.loopSampleAt s
  s1.emitterRuns.lateUnits.fullSample.spoilProbes.sendCopy.compareEnd.chansAtBoundary

/-- What a sample boundary carries out that waited for it: parks while Prism does not run (R35), and spare engines (R87). -/
def State.boundaryWork (s : State) : State := (if s.slt.running then s else s.dueParks).spareEngines

/-- The start of the next sample. -/
def State.sampleBegins (s : State) : State :=
  let s1 := { s with
    loopS := { (s.loopS.next.takeTargets).excite (s.rd Reg.LPE_EXC) with t0 := s.rootNow }
    img := { s.img with engines := s.img.nextEngines.getD s.img.engines, nextEngines := none }
    flt := { s.flt with outHeld := s.flt.outHeld && s.flt.safe } }
  let s2 := s1.boundaryWork.coeffBankSwap.changeModes.heatersAtBoundary.latchLevels.applyRangeReq
  (List.range 8).foldl State.lendBoundary s2.every256.nameStage

/-- LOOP_SAMPLE_BOUNDARY; a sample boundary falls on an edge of every derived clock, and so at a tick (R587). -/
def State.loopSampleBoundary (s : State) : State := (s.atPhase 0).sampleEnds.sampleBegins

/-! ### The command -/

/-- LOOP_SAMPLE_BOUNDARY (R55). -/
def execLoopSampleBoundary (s : State) : Host.Outcome State Fault Refusal := .next s.loopSampleBoundary

end Sys2Proof.Machine
end

