-- ==== Sys2Proof/Machine/Slot.lean ====
section
/-! DEFINITION. SLOT_BOUNDARY (R188): what the end of a slot and the guard of the next hold together. -/

namespace Sys2Proof.Machine

open Sys2Proof

/-! ### The slot that begins -/

/-- RUNNING becomes 1 at B (R190): device time leaves FOLLOW (R371), and start-up steps 9 and 10 end. -/
def State.startRunning (s : State) : State :=
  let s1 := { s with slt := { s.slt with running := true }, tim := { s.tim with mode := .locked } }
  ((s1.irqIf Reg.TIM_CTRL 8 9).stepEnd 9).stepEnd 10

/-- The number of the slot that begins; Prism runs from B on. -/
def State.nextSlot (s : State) (b : Nat) : State :=
  let n := s.slt.slot + 1
  let s1 := { s with slt := { s.slt with slot := n } }
  if !s.slt.running && decide (b ≤ n) then s1.startRunning else s1

/-- The calendar in force, and the type of the slot (R193, R196, R198). -/
def State.slotCalendar (s : State) : State :=
  let s1 := if s.calendarDue then s.takeCalendar else s
  { s1 with slt := { s1.slt with calType := s1.typeOf s1.slt.slot } }

/-- Holds at the guard of slot n: that of the safe state begins (R449), and one that ends with slot n ends (R421). -/
def State.holdStep (s : State) (n : Nat) : State :=
  let s1 := if s.flt.safe then s.beginSafeHold else s
  match s1.slt.hold with
  | none => s1
  | some h => if h.covers n then s1 else s1.setHold none

/-- The slot that the work for n gives; the router has routed it by then (R29). -/
def State.freshSlot (s : State) (n : Nat) : State × FinalSlot × BitVec 4608 × List (Pair × List SegRef × Sparse Nat) :=
  let s0 := s.handOver n
  let s1 := match s0.workFor n with
    | some w => s0.routeWork w
    | none => s0
  let f0 : FinalSlot := { slot := n, kind := 2 }
  match s1.workFor n with
  | none => (s1, f0, 0, [])
  | some w =>
    let t := { s1 with slt := { s1.slt with work := s1.slt.work.filter fun x => decide (n < x.slot) } }
    match w.routed with
    | none => (t, f0, 0, w.staged)
    | some r => (t, w.final r, r.states, w.staged)

/-! ### Selects and levels at t = 0 (R26, R139, R142) -/

/-- The selects of heater quadrants without power are BAR. -/
def State.litSelects (s : State) (b : BitVec 5120) : BitVec 5120 :=
  (List.range 4).foldl (fun b q => if s.domOn (50 + q) then b else b &&& ~~~(quadrantBits q)) b

/-- The selects of a trial slot (R175): the elements under trial take the trial select, every other one BAR. -/
def State.trialSelects (s : State) : BitVec 5120 :=
  s.trialElems.foldl (fun b e =>
    let m : BitVec 5120 := BitVec.ofNat 5120 (2 ^ e)
    if 9 ≤ s.cal.trial then b ||| m else b &&& ~~~m) s.selectorSel

/-- The selects of the slot that begins: those of its routing, of Diopter, or those in force. -/
def State.applySelects (s : State) (states : BitVec 4608) : State :=
  let f := s.slt.cur
  if f.held || decide (f.kind = 0) || s.drv.picOff then s
  else
    let b := if f.kind = 3 then (if s.inTrial then s.trialSelects else s.selectorSel)
      else states.setWidth 5120 ||| s.selectorSel
    { s with drv := { s.drv with sel := s.litSelects b } }

/-- The level DACs of a channel move toward two codes. -/
def Chan.dacs (c : Chan) (bar cross : BitVec 14) : Chan :=
  { c with levBar := dacMove c.levBar bar, levCross := dacMove c.levCross cross }

/-- The level codes of an element under trial. -/
def State.trialChan (s : State) (c : Chan) : Chan :=
  let o := trialOffset s.cal.trial
  if s.cal.trial < 9 then c.dacs (levAdd c.tgtBar o) c.tgtCross else c.dacs c.tgtBar (levAdd c.tgtCross o)

/-- Level codes at the guard (R139, R175, R212, R420): none in a held or IDLE slot. -/
def State.applyLevels0 (s : State) : State :=
  let f := s.slt.cur
  if f.held || decide (f.kind = 0) || s.codesHeld then s
  else
    let s1 := { s with drv := { s.drv with
      chans := Sparse.mapVals (fun _ => {}) (fun c => c.dacs c.tgtBar c.tgtCross) s.drv.chans } }
    if s.inTrial then s.trialElems.foldl (fun t e => t.setChan e (s.trialChan (s.chan e))) s1 else s1

/-- The comparison of both controllers' level codes at every guard (R413, R414). Both select every state from identical
inputs (R213). -/
def State.compareLevels (s : State) : State :=
  if s.comparing then
    (s.drv.chans.filter fun x => decide (x.2.tgtBar ≠ x.2.sbBar ∨ x.2.tgtCross ≠ x.2.sbCross)).foldl
      (fun t x => t.mismatch x.1 1) s
  else s

/-- In an IDLE or CALIBRATION slot the element states connect the ports, and no pair carries a burst (R191). -/
def State.connectSlot (s : State) : State :=
  let f := s.slt.cur
  if !f.held && decide (f.kind = 0 ∨ f.kind = 3) then
    let st : BitVec 4608 := s.drv.sel.setWidth 4608
    { s with slt := { s.slt with cur := { f with completion := (List.range 512).map fun k => (k, connects st k) } } }
  else s

/-! ### The pipeline of later slots (R199) -/

/-- Diopter claims slot n when it is a CALIBRATION slot and trials of the stage named are left (R192); claims of slots
gone by are dropped. -/
def State.claim (s : State) (n : Nat) : State :=
  let cs := s.slt.claims.filter fun m => decide (s.slt.slot ≤ m)
  let add := decide (s.kindAt n = 3) && decide (cs.length < s.trialsLeft)
  { s with slt := { s.slt with claims := if add then cs ++ [n] else cs } }

/-- The hand-over of slot m + 2 and the work for slot m + 3 at the start of slot m; none begins under a hold (R214). -/
def State.pipeline (s : State) (m : Nat) : State :=
  let s1 := s.handOver (m + 2)
  if s1.noMatching m then s1 else (s1.claim (m + 3)).beginWork (m + 3)

/-! ### The boundary -/

/-- The slot that begins in force: held, or as its work gives it, with what it counts and the events it brings. -/
def State.takeSlot (s : State) (n : Nat) : State × BitVec 4608 × List (Pair × List SegRef × Sparse Nat) :=
  let held := match s.slt.hold with
    | some h => if h.covers n then some h else none
    | none => none
  let r : State × FinalSlot × BitVec 4608 × List (Pair × List SegRef × Sparse Nat) :=
    match held with
    | some h => (s, h.p.heldAt n, 0, [])
    | none => s.freshSlot n
  let f := r.2.1
  let s1 := { r.1 with slt := { r.1.slt with cur := f } }
  let s2 := (s1.countSlot f).event (0x10 + f.kind)
  let s3 := if f.split then s2.event 0x20 else s2
  let s4 := (List.range 8).foldl State.slotSampleAt s3
  (s4.freezeBounds f.held, r.2.2.1, r.2.2.2)

/-- The guard of slot n while Prism runs: what waited for a guard (R35, R45, R178) is carried out at t = 0 with the selects and
the level codes. -/
def State.guard (s : State) (n : Nat) : State :=
  let r := (s.holdStep n).takeSlot n
  let s1 := (((r.1.dueParks.guardSpares.applyStage.applySelects r.2.1).applyLevels0.compareLevels).connectSlot.boundaries n).launch r.2.2
  let s2 := s1.creditStep.mirrorStep
  { s2 with drv := { s2.drv with inGuard := true } }

/-- SLOT_BOUNDARY at root-clock phase k. Before the pipeline starts a slot boundary changes nothing. -/
def State.slotBoundary (s : State) (k : Fin 4) : State :=
  match s.slt.start with
  | none => s
  | some b =>
    let s1 := ((s.atPhase k).endSlot.trialsEnd.nextSlot b).registerReps
    let n := s1.slt.slot
    let s2 := if s1.slt.running then ((s1.align k.val n).slotCalendar).guard n else s1
    s2.pipeline n

/-! ### The command -/

/-- SLOT_BOUNDARY (R188). -/
def execSlotBoundary (k : Fin 4) (s : State) : Host.Outcome State Fault Refusal := .next (s.slotBoundary k)

end Sys2Proof.Machine
end

