-- ==== Sys2Proof/Machine/Dispatch.lean ====
section
/-! DEFINITION. The dispatch of the commands: one arm per constructor, each one direct call of its meaning. -/

namespace Sys2Proof.Machine

open Sys2Proof

/-- The effect of a command on everything but the queue. -/
def exec (i : Instr) (s : State) : Host.Outcome State Fault Refusal :=
  match i with
  | .loopSampleBoundary => Sys2Proof.Machine.execLoopSampleBoundary s
  | .tapCapture => Sys2Proof.Machine.execTapCapture s
  | .tapReading t codes => Sys2Proof.Machine.execTapReading t codes s
  | .elementIteration c e => Sys2Proof.Machine.execElementIteration c e s
  | .selectorIteration c l => Sys2Proof.Machine.execSelectorIteration c l s
  | .overrun c p => Sys2Proof.Machine.execOverrun c p s
  | .spareEngineTakeover c l => Sys2Proof.Machine.execSpareEngineTakeover c l s
  | .acqTimeout c e => Sys2Proof.Machine.execAcqTimeout c e s
  | .coeffBankWrite p l b w v => Sys2Proof.Machine.execCoeffBankWrite p l b w v s
  | .swapReq p v => Sys2Proof.Machine.execSwapReq p v s
  | .swapCancel p v => Sys2Proof.Machine.execSwapCancel p v s
  | .coeffBankSwap => Sys2Proof.Machine.execCoeffBankSwap s
  | .targetWrite p e v => Sys2Proof.Machine.execTargetWrite p e v s
  | .excitationWrite p v => Sys2Proof.Machine.execExcitationWrite p v s
  | .modeRequest p v => Sys2Proof.Machine.execModeRequest p v s
  | .slewStep e => Sys2Proof.Machine.execSlewStep e s
  | .complianceSet e => Sys2Proof.Machine.execComplianceSet e s
  | .openloadSet e => Sys2Proof.Machine.execOpenloadSet e s
  | .openloadClear e => Sys2Proof.Machine.execOpenloadClear e s
  | .rangeRequest p v => Sys2Proof.Machine.execRangeRequest p v s
  | .rangeSwitch e => Sys2Proof.Machine.execRangeSwitch e s
  | .rangeRampBack e => Sys2Proof.Machine.execRangeRampBack e s
  | .rangeChangeEnd e => Sys2Proof.Machine.execRangeChangeEnd e s
  | .sliceCorrection u i0 offset gain skew => Sys2Proof.Machine.execSliceCorrection u i0 offset gain skew s
  | .directResult u code ovrs => Sys2Proof.Machine.execDirectResult u code ovrs s
  | .auConfigWrite p u v => Sys2Proof.Machine.execAuConfigWrite p u v s
  | .auConfigApply u => Sys2Proof.Machine.execAuConfigApply u s
  | .adcDataRead p u => Sys2Proof.Machine.execAdcDataRead p u s
  | .auFailed r => Sys2Proof.Machine.execAuFailed r s
  | .slotBoundary k => Sys2Proof.Machine.execSlotBoundary k s
  | .receiverPhaseLoad => Sys2Proof.Machine.execReceiverPhaseLoad s
  | .preambleEnd o => Sys2Proof.Machine.execPreambleEnd o s
  | .guardEnd => Sys2Proof.Machine.execGuardEnd s
  | .matrixRoute => Sys2Proof.Machine.execMatrixRoute s
  | .finalListDelivery reads => Sys2Proof.Machine.execFinalListDelivery reads s
  | .rotationReroute => Sys2Proof.Machine.execRotationReroute s
  | .parkRequest p v => Sys2Proof.Machine.execParkRequest p v s
  | .parkEffect e => Sys2Proof.Machine.execParkEffect e s
  | .emitterFailed n i0 => Sys2Proof.Machine.execEmitterFailed n i0 s
  | .spareTakeover n => Sys2Proof.Machine.execSpareTakeover n s
  | .spareRelease n => Sys2Proof.Machine.execSpareRelease n s
  | .forceSpare p n v => Sys2Proof.Machine.execForceSpare p n v s
  | .lightReturn k => Sys2Proof.Machine.execLightReturn k s
  | .permRead p v => Sys2Proof.Machine.execPermRead p v s
  | .calInterpolation => Sys2Proof.Machine.execCalInterpolation s
  | .startFull p v => Sys2Proof.Machine.execStartFull p v s
  | .fullCalibrationStep adc => Sys2Proof.Machine.execFullCalibrationStep adc s
  | .fullCalibrationDone => Sys2Proof.Machine.execFullCalibrationDone s
  | .trialCapture taps codes adc => Sys2Proof.Machine.execTrialCapture taps codes adc s
  | .stageResultApply => Sys2Proof.Machine.execStageResultApply s
  | .calStore p v => Sys2Proof.Machine.execCalStore p v s
  | .storeComplete => Sys2Proof.Machine.execStoreComplete s
  | .calDelete p v => Sys2Proof.Machine.execCalDelete p v s
  | .setRead p v => Sys2Proof.Machine.execSetRead p v s
  | .prismStart => Sys2Proof.Machine.execPrismStart s
  | .templateWrite p c t w v => Sys2Proof.Machine.execTemplateWrite p c t w v s
  | .calLenWrite p c v => Sys2Proof.Machine.execCalLenWrite p c v s
  | .changeReq p v => Sys2Proof.Machine.execChangeReq p v s
  | .changeCancel p v => Sys2Proof.Machine.execChangeCancel p v s
  | .calendarTakeover => Sys2Proof.Machine.execCalendarTakeover s
  | .notice i0 j => Sys2Proof.Machine.execNotice i0 j s
  | .burstVerdict j o => Sys2Proof.Machine.execBurstVerdict j o s
  | .ack i0 j => Sys2Proof.Machine.execAck i0 j s
  | .nack i0 j => Sys2Proof.Machine.execNack i0 j s
  | .ackTimeout i0 j => Sys2Proof.Machine.execAckTimeout i0 j s
  | .retransmitRead i0 j reads => Sys2Proof.Machine.execRetransmitRead i0 j reads s
  | .gapRequest i0 j => Sys2Proof.Machine.execGapRequest i0 j s
  | .gapTimeout i0 j => Sys2Proof.Machine.execGapTimeout i0 j s
  | .gap i0 j => Sys2Proof.Machine.execGap i0 j s
  | .chipletLoss c => Sys2Proof.Machine.execChipletLoss c s
  | .snapshotReq p v => Sys2Proof.Machine.execSnapshotReq p v s
  | .snapshotLatch => Sys2Proof.Machine.execSnapshotLatch s
  | .phaseRead p v => Sys2Proof.Machine.execPhaseRead p v s
  | .frameReceived k f => Sys2Proof.Machine.execFrameReceived k f s
  | .pauseExpiry k prio => Sys2Proof.Machine.execPauseExpiry k prio s
  | .commandReply k => Sys2Proof.Machine.execCommandReply k s
  | .linkUp k => Sys2Proof.Machine.execLinkUp k s
  | .trainingRetry k => Sys2Proof.Machine.execTrainingRetry k s
  | .linkDown k cutFrame => Sys2Proof.Machine.execLinkDown k cutFrame s
  | .retrain p k v => Sys2Proof.Machine.execRetrain p k v s
  | .linkFaultReceived k localFault => Sys2Proof.Machine.execLinkFaultReceived k localFault s
  | .laneRemap p c v cutFrame => Sys2Proof.Machine.execLaneRemap p c v cutFrame s
  | .remapSwitch c => Sys2Proof.Machine.execRemapSwitch c s
  | .pfcFrameSend k => Sys2Proof.Machine.execPfcFrameSend k s
  | .pfcRefresh k => Sys2Proof.Machine.execPfcRefresh k s
  | .frameTransmitStart k sub member reads => Sys2Proof.Machine.execFrameTransmitStart k sub member reads s
  | .frameSent k => Sys2Proof.Machine.execFrameSent k s
  | .parseDispatch c e port => Sys2Proof.Machine.execParseDispatch c e port s
  | .parsePassEnd c e => Sys2Proof.Machine.execParsePassEnd c e s
  | .lookup c eccFail => Sys2Proof.Machine.execLookup c eccFail s
  | .bankSwapReq p c v => Sys2Proof.Machine.execBankSwapReq p c v s
  | .ruleBankSwap c => Sys2Proof.Machine.execRuleBankSwap c s
  | .tbwWrite p c off v => Sys2Proof.Machine.execTbwWrite p c off v s
  | .traceArm p c v => Sys2Proof.Machine.execTraceArm p c v s
  | .ucodeSwap c => Sys2Proof.Machine.execUcodeSwap c s
  | .refill p c v => Sys2Proof.Machine.execRefill p c v s
  | .meterWrite p c v => Sys2Proof.Machine.execMeterWrite p c v s
  | .meterRead p c v => Sys2Proof.Machine.execMeterRead p c v s
  | .meterProfileWrite p c m v => Sys2Proof.Machine.execMeterProfileWrite p c m v s
  | .meterProfileHold p c m w v => Sys2Proof.Machine.execMeterProfileHold p c m w v s
  | .scrubRead c t r => Sys2Proof.Machine.execScrubRead c t r s
  | .pchReplace p c v => Sys2Proof.Machine.execPchReplace p c v s
  | .pchCopyDone c poisoned => Sys2Proof.Machine.execPchCopyDone c poisoned s
  | .zeroizationDone failed => Sys2Proof.Machine.execZeroizationDone failed s
  | .creditWithdraw c j k => Sys2Proof.Machine.execCreditWithdraw c j k s
  | .creditRelease c j k => Sys2Proof.Machine.execCreditRelease c j k s
  | .shaperCfgWrite p k sh v => Sys2Proof.Machine.execShaperCfgWrite p k sh v s
  | .shaperHoldWrite p k sh burst v => Sys2Proof.Machine.execShaperHoldWrite p k sh burst v s
  | .gateListWrite p k a e v => Sys2Proof.Machine.execGateListWrite p k a e v s
  | .gateReq p k v => Sys2Proof.Machine.execGateReq p k v s
  | .gateCancel p k v => Sys2Proof.Machine.execGateCancel p k v s
  | .gateEnWrite p k v => Sys2Proof.Machine.execGateEnWrite p k v s
  | .gateTakeover k => Sys2Proof.Machine.execGateTakeover k s
  | .gateEntryAdvance k => Sys2Proof.Machine.execGateEntryAdvance k s
  | .adjWrite p x v => Sys2Proof.Machine.execAdjWrite p x v s
  | .tsLoad p x v => Sys2Proof.Machine.execTsLoad p x v s
  | .tsStep p x v => Sys2Proof.Machine.execTsStep p x v s
  | .selWrite p v => Sys2Proof.Machine.execSelWrite p v s
  | .slewDone => Sys2Proof.Machine.execSlewDone s
  | .timeReadLatch p k => Sys2Proof.Machine.execTimeReadLatch p k s
  | .fifoRead p => Sys2Proof.Machine.execFifoRead p s
  | .loupeArm p u v => Sys2Proof.Machine.execLoupeArm p u v s
  | .loupeStop p u v => Sys2Proof.Machine.execLoupeStop p u v s
  | .loupeForce p u v => Sys2Proof.Machine.execLoupeForce p u v s
  | .rdPtrWrite p u v => Sys2Proof.Machine.execRdPtrWrite p u v s
  | .settleDone u => Sys2Proof.Machine.execSettleDone u s
  | .prefillDone f => Sys2Proof.Machine.execPrefillDone f s
  | .triggerPoint u before code ovr bad later => Sys2Proof.Machine.execTriggerPoint u before code ovr bad later s
  | .recordWritten u samples => Sys2Proof.Machine.execRecordWritten u samples s
  | .holdoffEnd u samples => Sys2Proof.Machine.execHoldoffEnd u samples s
  | .lendLimit u samples => Sys2Proof.Machine.execLendLimit u samples s
  | .trigAssert u => Sys2Proof.Machine.execTrigAssert u s
  | .trigRelease u => Sys2Proof.Machine.execTrigRelease u s
  | .trigSense n k => Sys2Proof.Machine.execTrigSense n k s
  | .arbitration => Sys2Proof.Machine.execArbitration s
  | .switchoverStart => Sys2Proof.Machine.execSwitchoverStart s
  | .switchoverGapEnd => Sys2Proof.Machine.execSwitchoverGapEnd s
  | .controllerLoss c => Sys2Proof.Machine.execControllerLoss c s
  | .redSwitch p v => Sys2Proof.Machine.execRedSwitch p v s
  | .redIsolate p v => Sys2Proof.Machine.execRedIsolate p v s
  | .redSleep p v => Sys2Proof.Machine.execRedSleep p v s
  | .redReturn p v => Sys2Proof.Machine.execRedReturn p v s
  | .redTest p v => Sys2Proof.Machine.execRedTest p v s
  | .copyReceived resent => Sys2Proof.Machine.execCopyReceived resent s
  | .copyLate missing => Sys2Proof.Machine.execCopyLate missing s
  | .suspectClear => Sys2Proof.Machine.execSuspectClear s
  | .bulkDone resent => Sys2Proof.Machine.execBulkDone resent s
  | .deltaDone => Sys2Proof.Machine.execDeltaDone s
  | .shadowDone => Sys2Proof.Machine.execShadowDone s
  | .standbyEngineTest pass => Sys2Proof.Machine.execStandbyEngineTest pass s
  | .controllerScrub c corrected uncorrectable => Sys2Proof.Machine.execControllerScrub c corrected uncorrectable s
  | .selftestDone c pass => Sys2Proof.Machine.execSelftestDone c pass s
  | .controllerBistDone passA passB => Sys2Proof.Machine.execControllerBistDone passA passB s
  | .faultReport r => Sys2Proof.Machine.execFaultReport r s
  | .safeStateEntry => Sys2Proof.Machine.execSafeStateEntry s
  | .faultClear p v => Sys2Proof.Machine.execFaultClear p v s
  | .safeStateExit => Sys2Proof.Machine.execSafeStateExit s
  | .sensorReading z k deg frac => Sys2Proof.Machine.execSensorReading z k deg frac s
  | .thresholdAssert z t => Sys2Proof.Machine.execThresholdAssert z t s
  | .thresholdRelease z t => Sys2Proof.Machine.execThresholdRelease z t s
  | .emitterThrottleStep z => Sys2Proof.Machine.execEmitterThrottleStep z s
  | .throttleOffPhase c off => Sys2Proof.Machine.execThrottleOffPhase c off s
  | .nvmWindowOpen => Sys2Proof.Machine.execNvmWindowOpen s
  | .thermalRecordWrite => Sys2Proof.Machine.execThermalRecordWrite s
  | .stageOpen p v => Sys2Proof.Machine.execStageOpen p v s
  | .stageWrite p off data => Sys2Proof.Machine.execStageWrite p off data s
  | .stageDone p v => Sys2Proof.Machine.execStageDone p v s
  | .imageVerifyDone => Sys2Proof.Machine.execImageVerifyDone s
  | .discard p v => Sys2Proof.Machine.execDiscard p v s
  | .commit p v => Sys2Proof.Machine.execCommit p v s
  | .commitDone => Sys2Proof.Machine.execCommitDone s
  | .restructure p v => Sys2Proof.Machine.execRestructure p v s
  | .drainEnd => Sys2Proof.Machine.execDrainEnd s
  | .applyEnd => Sys2Proof.Machine.execApplyEnd s
  | .restructureSwitch => Sys2Proof.Machine.execRestructureSwitch s
  | .drainLimitExpiry => Sys2Proof.Machine.execDrainLimitExpiry s
  | .abandon p v => Sys2Proof.Machine.execAbandon p v s
  | .overlay p v => Sys2Proof.Machine.execOverlay p v s
  | .registerWrite p addr v => Sys2Proof.Machine.execRegisterWrite p addr v s
  | .counterLowRead p addr => Sys2Proof.Machine.execCounterLowRead p addr s
  | .malformedAccess isWrite => Sys2Proof.Machine.execMalformedAccess isWrite s
  | .pcieReset => Sys2Proof.Machine.execPcieReset s
  | .abevoRead frame => Sys2Proof.Machine.execAbevoRead frame s
  | .abevoWrite frame => Sys2Proof.Machine.execAbevoWrite frame s
  | .abevoMailbox frame => Sys2Proof.Machine.execAbevoMailbox frame s
  | .abevoPoll frame => Sys2Proof.Machine.execAbevoPoll frame s
  | .boundaryScanInstruction bypassOrId => Sys2Proof.Machine.execBoundaryScanInstruction bypassOrId s
  | .jtagDebugAccess a => Sys2Proof.Machine.execJtagDebugAccess a s
  | .mbNop p => Sys2Proof.Machine.execMbNop p s
  | .repairClear p kind index => Sys2Proof.Machine.execRepairClear p kind index s
  | .repairRead p kind n => Sys2Proof.Machine.execRepairRead p kind n s
  | .debugRead p addr words => Sys2Proof.Machine.execDebugRead p addr words s
  | .keyProvision p hash slot => Sys2Proof.Machine.execKeyProvision p hash slot s
  | .keyRevoke p slot => Sys2Proof.Machine.execKeyRevoke p slot s
  | .svnRaise p v => Sys2Proof.Machine.execSvnRaise p v s
  | .imageKeySet p key => Sys2Proof.Machine.execImageKeySet p key s
  | .zeroize p => Sys2Proof.Machine.execZeroize p s
  | .retire p magic => Sys2Proof.Machine.execRetire p magic s
  | .auditRead p seq => Sys2Proof.Machine.execAuditRead p seq s
  | .fuseOperationDone => Sys2Proof.Machine.execFuseOperationDone s
  | .zeroizePin samples => Sys2Proof.Machine.execZeroizePin samples s
  | .auditRecordWrite => Sys2Proof.Machine.execAuditRecordWrite s
  | .vinRise => Sys2Proof.Machine.execVinRise s
  | .aonUp => Sys2Proof.Machine.execAonUp s
  | .pllLockHeld straps => Sys2Proof.Machine.execPllLockHeld straps s
  | .domainPowerGood d => Sys2Proof.Machine.execDomainPowerGood d s
  | .domainPowerTimeout d => Sys2Proof.Machine.execDomainPowerTimeout d s
  | .dramTrainingDone repaired => Sys2Proof.Machine.execDramTrainingDone repaired s
  | .laserLowPowerEnd dim => Sys2Proof.Machine.execLaserLowPowerEnd dim s
  | .laserNominal adc => Sys2Proof.Machine.execLaserNominal adc s
  | .lockLimit e => Sys2Proof.Machine.execLockLimit e s
  | .glbRelease p v => Sys2Proof.Machine.execGlbRelease p v s
  | .quiesce p v => Sys2Proof.Machine.execQuiesce p v s
  | .quiesceDone abandoned => Sys2Proof.Machine.execQuiesceDone abandoned s
  | .resume p v => Sys2Proof.Machine.execResume p v s
  | .deviceRestart p v => Sys2Proof.Machine.execDeviceRestart p v s
  | .domainRestart p v => Sys2Proof.Machine.execDomainRestart p v s
  | .domainRestartFailed => Sys2Proof.Machine.execDomainRestartFailed s
  | .domainPowerLoss d => Sys2Proof.Machine.execDomainPowerLoss d s
  | .vinOutOfRange => Sys2Proof.Machine.execVinOutOfRange s
  | .vinCollapse => Sys2Proof.Machine.execVinCollapse s
  | .holdupExpiry => Sys2Proof.Machine.execHoldupExpiry s
  | .pwrEnFall => Sys2Proof.Machine.execPwrEnFall s
  | .pwrEnRise => Sys2Proof.Machine.execPwrEnRise s
  | .pllUnlock => Sys2Proof.Machine.execPllUnlock s
  | .pllRelock => Sys2Proof.Machine.execPllRelock s
  | .crossingTransfer x pulses => Sys2Proof.Machine.execCrossingTransfer x pulses s
  | .timescaleTick => Sys2Proof.Machine.execTimescaleTick s
  | .linkFaultEnd k localFault => Sys2Proof.Machine.execLinkFaultEnd k localFault s
  | .autoNegotiationDone k => Sys2Proof.Machine.execAutoNegotiationDone k s

end Sys2Proof.Machine
end

