-- ==== Sys2Proof/Safety.lean ====
section
/-! DEFINITION. What counts as a safe run, and the terms that statements use: what a command does, the conditions of a
register access, and the parts of the state that a command leaves alone. -/

namespace Sys2Proof

open Sys2Proof.Machine

/-- A command completes in a next state of which P holds. -/
def After (i : Instr) (s : State) (P : State → Prop) : Prop := ∃ t, exec i s = .next t ∧ P t

/-- A command leaves the whole state alone. -/
def Leaves (i : Instr) (s : State) : Prop := exec i s = .next s

/-- An access of class cls to an offset is executed (R500, R518, R547): SMP is not answered in AON, the port holds the
class, and the block has power. -/
def Permitted (s : State) (p : CmdPort) (a cls : Nat) : Prop :=
  ¬(p = .smp ∧ s.glb.state = .aon) ∧ s.allowed p cls = true ∧ s.addrOn a = true

/-- The parts of the state: its fields. -/
inductive Part where
  | pending | freeCtr | regs | ctrs | highLatch | cmd | sec | flt | thm | glb | img | tim | loopA | loopB | loopS
  | drv | adc | mtx | cal | red | acq | slt | brt | pkts | nextPkt | ports | chips | xing
  deriving DecidableEq, Repr

/-- A part is the same in two states. -/
def Part.same (s t : State) : Part → Prop
  | .pending => t.pending = s.pending
  | .freeCtr => t.freeCtr = s.freeCtr
  | .regs => t.regs = s.regs
  | .ctrs => t.ctrs = s.ctrs
  | .highLatch => t.highLatch = s.highLatch
  | .cmd => t.cmd = s.cmd
  | .sec => t.sec = s.sec
  | .flt => t.flt = s.flt
  | .thm => t.thm = s.thm
  | .glb => t.glb = s.glb
  | .img => t.img = s.img
  | .tim => t.tim = s.tim
  | .loopA => t.loopA = s.loopA
  | .loopB => t.loopB = s.loopB
  | .loopS => t.loopS = s.loopS
  | .drv => t.drv = s.drv
  | .adc => t.adc = s.adc
  | .mtx => t.mtx = s.mtx
  | .cal => t.cal = s.cal
  | .red => t.red = s.red
  | .acq => t.acq = s.acq
  | .slt => t.slt = s.slt
  | .brt => t.brt = s.brt
  | .pkts => t.pkts = s.pkts
  | .nextPkt => t.nextPkt = s.nextPkt
  | .ports => t.ports = s.ports
  | .chips => t.chips = s.chips
  | .xing => t.xing = s.xing

/-- Every part that is not listed is the same in two states. -/
def OnlyParts (ps : List Part) (s t : State) : Prop := ∀ p, p ∉ ps → p.same s t

/-- Every register but those at the listed offsets holds the same word in two states. -/
def OnlyRegs (as : List Nat) (s t : State) : Prop := ∀ a, a ∉ as → t.rd a = s.rd a

/-- Every counter but those at the listed offsets has the same value in two states. -/
def OnlyCtrs (cs : List Nat) (s t : State) : Prop := ∀ a, a ∉ cs → t.ctr a = s.ctr a

/-- What a command leaves alone: every part but those listed, and every register and every counter but those at the
listed offsets. -/
def Frame (ps : List Part) (as cs : List Nat) (s t : State) : Prop :=
  OnlyParts (.regs :: .ctrs :: ps) s t ∧ OnlyRegs as s t ∧ OnlyCtrs cs s t

/-- The oldest message of a list that a test accepts, with no older one on its way between the same two chiplets, and the
messages without it: the mesh delivers in order (R231). -/
def Oldest (ok : Msg → Prop) (l : List Msg) (m : Msg) (rest : List Msg) : Prop :=
  ok m ∧ ∃ a b, l = a ++ m :: b ∧ rest = a ++ b ∧ ∀ x ∈ a, ¬ ok x ∧ x.route ≠ m.route

/-- At most one controller is ACTIVE (R409). -/
def OneActive (s : State) : Prop := ¬(s.red.a.state = .active ∧ s.red.b.state = .active)

/-- A property that every step keeps, from every state that has it. -/
def Kept (P : State → Prop) : Prop := ∀ s t, P s → Machine.step s = .next t → P t

end Sys2Proof
end

