-- ==== Sys2Proof/Certificates/Slice0/Obligations.lean ====
section
/-! DEFINITION. The statements for the provers. Each is a proposition about the commands of the block; its docstring says
what it states and which rules of the spec it rests on. -/

open Sys2Proof
open Sys2Proof.Machine

/-- The step takes commands in the order of their arrival (R517). That the block idles on an empty queue is the model's choice
(assumption 2). -/
def Obligations.StepRunsFront : Prop :=
  (∀ (s : State) (c : Instr) (rest : List Instr), s.pending = c :: rest →
    Machine.step s = exec c { s with pending := rest }) ∧
  ∀ s : State, s.pending = [] → Machine.step s = .next s

/-- State.reset. The state it stands for (entry to AON, variant S, unprovisioned) is the model's choice (assumptions 4, 17). -/
def Obligations.ResetHolds : Prop :=
  let s := State.reset
  s.pending = [] ∧ (∀ a, s.rd a = resetWord a) ∧ (∀ a, s.ctr a = 0) ∧ (∀ k, Sparse.get (fun _ => 0) s.highLatch k = 0) ∧
  s.rd Reg.GLB_START_CFG = 0xBB8 ∧ s.rd Reg.THM_CTRL = 0x46407 ∧ s.rd Reg.CLK_PLAN = 4 ∧ s.rd Reg.CMD_CTRL = 3 ∧
  (∀ v, v < 32 → s.msiMasked v = true) ∧
  s.rd Reg.FLT_BLOCK_CFG = 3 + 1000 * 256 ∧ s.rd (Reg.FLT_BLOCK_CFG + 4 * fbEmit) = 1 + 1 * 256 ∧
  (∀ p, s.allowed p 0 = decide (p ≠ .inband) ∧ s.allowed p 1 = false ∧
    s.allowed p 2 = decide (p = .pcie ∨ p = .smp) ∧ s.allowed p 3 = decide (p = .smp) ∧ s.allowed p 4 = false ∧
    s.allowed p 5 = decide (p = .jtag)) ∧
  s.pkts = [] ∧ s.active? = none ∧ OneActive s ∧
  ∀ c : Fin 16, s.brt.led[c].exact = true ∧ s.brt.mirror[c].exact = true ∧ s.brt.snap[c].exact = true

/-- The first sentence of R409, as an invariant of the step. -/
def Obligations.OneControllerActive : Prop := Kept OneActive

/-- The first sentence of R245, as an invariant of the step, with the mirror (R248) and the snapshot (R250). -/
def Obligations.LedgersBalance : Prop :=
  Kept fun s => ∀ c : Fin 16, s.brt.led[c].exact = true ∧ s.brt.mirror[c].exact = true ∧ s.brt.snap[c].exact = true

/-- Every command completes; R501 and R502 as an invariant; R522: the lifecycle only moves forward; R526, R532: a revoked slot
stays revoked. -/
def Obligations.GuardsHold : Prop :=
  let amended (s : State) : Prop :=
    (∀ c : Fin 6, c ≠ 0 → (s.cmd.rows[c]).getLsbD 2 = false) ∧
    (s.sec.variantH = true →
      s.cmd.rows[2] = 0b0010 ∧ s.cmd.rows[3] = 0b0010 ∧ (s.cmd.rows[4] = 0b0010 ∨ s.cmd.rows[4] = 0) ∧
      s.cmd.rows[5] = 0) ∧
    (s.sec.variantH = false → s.cmd.rows[2] ≠ 0)
  ∀ (c : Instr) (s : State),
    After c s fun t =>
      t.pending = s.pending ∧ (amended s → amended t) ∧
      (t.sec.lifecycle = s.sec.lifecycle ∨ t.sec.lifecycle = .retired) ∧
      (∀ i : Fin 4, s.sec.slots[i].revoked = true → t.sec.slots[i].revoked = true) ∧ t.sec.variantH = s.sec.variantH

/-- TAP_CAPTURE (R54, R55, R61, R159) and TAP_READING (R146, R147, R150, R151, R153). A capture that is not due changes
nothing (the model's choice, assumption 3). -/
def Obligations.TapsCapturedAndRead : Prop :=
  (∀ s : State, (s.loopS.running = true ∨ s.glb.state = .calibrating) → s.loopS.capCur = none →
    (s.slt.running = false ∨ (s.slt.cur.kind ≠ 3 ∧ s.drv.inGuard = false)) →
    Sparse.wf (fun _ => {}) s.adc.units = true →
    After .tapCapture s fun t =>
      t.loopS = { s.loopS with
        capCur := some { sample := s.loopS.sample, exc := s.loopS.excOn, sel := s.drv.sel, readings := [] }
        capState := s.drv.sel } ∧
      t.adc.fresh = [] ∧ t.adc.map = s.adc.map ∧ t.adc.late = (List.range 100).filter s.converting ∧
      (∀ u, t.au u = { s.au u with loopNext := false }) ∧ Frame [.loopS, .adc] [] [] s t) ∧
  (∀ s : State, s.loopS.capCur ≠ none ∨ (s.slt.running = true ∧ (s.slt.cur.kind = 3 ∨ s.drv.inGuard = true)) →
    Leaves .tapCapture s) ∧
  (∀ (s : State) (tap : Fin 10304) (k : TapCodes) (cap : Capture), s.loopS.latest = some cap → cap.has tap = false →
    s.convertedBy (tapUnit tap) = .own → s.tapNext (tapUnit tap) tap = true → s.inRepair (tapUnit tap) = false →
    (s.au (tapUnit tap)).recovery = 0 → k.ovr = 0 →
    After (.tapReading tap k) s fun t =>
      (∃ cap' : Capture, t.loopS.latest = some cap' ∧
        cap'.tap tap = { value := k.c0.toNat + k.c1.toNat + k.c2.toNat + k.c3.toNat, valid := true, reason := 0 } ∧
        (∀ x, x ≠ tap.val → cap'.tap x = cap.tap x) ∧
        cap'.sample = cap.sample ∧ cap'.exc = cap.exc ∧ cap'.sel = cap.sel) ∧
      { t.loopS with capCur := none, capPrev := none } = { s.loopS with capCur := none, capPrev := none } ∧
      (∀ u, t.au u = s.au u) ∧ t.ctr 0x900048 = s.ctr 0x900048 + BitVec.ofNat 64 (ovrCount false k) ∧
      Frame [.loopS, .adc] [] [0x900048] s t) ∧
  (∀ (s : State) (tap : Fin 10304) (k : TapCodes) (cap : Capture), s.loopS.latest = some cap → cap.has tap = false →
    s.convertedBy (tapUnit tap) = .partner → s.tapNext (partner (tapUnit tap)) tap = true →
    (s.au (partner (tapUnit tap))).recovery = 0 → k.ovr.getLsbD 0 = false →
    After (.tapReading tap k) s fun t =>
      (∃ cap' : Capture, t.loopS.latest = some cap' ∧
        cap'.tap tap = { value := 4 * k.c0.toNat, valid := true, reason := 5, byPartner := true } ∧
        ∀ x, x ≠ tap.val → cap'.tap x = cap.tap x) ∧
      (∀ u, t.au u = s.au u) ∧ Frame [.loopS, .adc] [] [0x900048] s t) ∧
  (∀ (s : State) (tap : Fin 10304) (k : TapCodes) (cap : Capture), s.loopS.latest = some cap → cap.has tap = false →
    s.convertedBy (tapUnit tap) = .own → s.tapNext (tapUnit tap) tap = true → s.inRepair (tapUnit tap) = false →
    k.ovr ≠ 0 →
    After (.tapReading tap k) s fun t =>
      (∃ cap' : Capture, t.loopS.latest = some cap' ∧ (cap'.tap tap).valid = false ∧ (cap'.tap tap).reason = 7 ∧
        ∀ x, x ≠ tap.val → cap'.tap x = cap.tap x) ∧
      (t.au (tapUnit tap)).recovery = 2 ∧ (∀ u, u ≠ tapUnit tap → t.au u = s.au u) ∧
      t.ctr 0x900050 = s.ctr 0x900050 + 1 ∧
      t.ctr 0x900048 = s.ctr 0x900048 + BitVec.ofNat 64 (ovrCount false k) ∧
      Frame [.loopS, .adc] [] [0x900048, 0x900050] s t) ∧
  ∀ (s : State) (tap : Fin 10304) (k : TapCodes) (cap : Capture), s.loopS.latest = some cap → cap.has tap = false →
    s.convertedBy (tapUnit tap) = .nobody →
    After (.tapReading tap k) s fun t =>
      (∃ cap' : Capture, t.loopS.latest = some cap' ∧ cap'.tap tap = { value := 0, valid := false, reason := 6 } ∧
        ∀ x, x ≠ tap.val → cap'.tap x = cap.tap x) ∧
      t.ctr 0x900050 = s.ctr 0x900050 + 1 ∧ Frame [.loopS] [] [0x900050] s t

/-- ELEMENT_ITERATION (R53, R56, R76, R95) and SELECTOR_ITERATION (R57). -/
def Obligations.IterationsRun : Prop :=
  (∀ (s : State) (c : Ctl) (e : Fin 4608) (cap : Capture), s.loopS.running = true → s.loopS.first = false →
    s.ctlRuns c = true → (s.unreached c (s.engineOf e).1).head? = some e.val → s.loopS.capPrev = some cap →
    (∀ x ∈ elemTaps e, cap.has x = true) → s.heldStale c e = false →
    After (.elementIteration c e) s fun t =>
      t.elem c e = ((s.elem c e).iterate (s.ctx e) (s.readingOf cap e)).1 ∧
      (∀ f, f ≠ e.val → t.elem c f = s.elem c f) ∧ t.loops (otherCtl c) = s.loops (otherCtl c) ∧
      t.loopS.sample = s.loopS.sample ∧
      Frame [.loopA, .loopB, .loopS, .flt, .acq] [] [] s t) ∧
  (∀ (s : State) (c : Ctl) (e : Fin 4608) (r : Reading), s.iterationDue c e = true → s.reading e = some r →
    s.heldStale c e = false →
    After (.elementIteration c e) s fun t =>
      t.elem c e = ((s.elem c e).iterate (s.ctx e) r).1 ∧
      (∀ f, f ≠ e.val → t.elem c f = s.elem c f) ∧ t.loops (otherCtl c) = s.loops (otherCtl c) ∧
      t.loopS.sample = s.loopS.sample ∧
      Frame [.loopA, .loopB, .loopS, .flt, .acq] [] [] s t) ∧
  (∀ (s : State) (c : Ctl) (e : Fin 4608) (r : Reading), s.iterationDue c e = true → s.reading e = some r →
    s.heldStale c e = true →
    After (.elementIteration c e) s fun t =>
      (t.elem c e).begun = some s.loopS.sample ∧ (t.elem c e).mode = (s.elem c e).mode ∧
      (t.elem c e).heater = (s.elem c e).heater ∧ (t.elem c e).levBar = (s.elem c e).levBar ∧
      (t.elem c e).levCross = (s.elem c e).levCross ∧ (t.elem c e).prof = (s.elem c e).prof ∧
      (∀ f, f ≠ e.val → t.elem c f = s.elem c f) ∧ t.loops (otherCtl c) = s.loops (otherCtl c) ∧
      Frame [.loopA, .loopB] [] [] s t) ∧
  (∀ (s : State) (c : Ctl) (e : Fin 4608), s.reading e = none → Leaves (.elementIteration c e) s) ∧
  ∀ (s : State) (c : Ctl) (l : Fin 48) (e : Nat), s.loopS.running = true → s.loopS.first = false → s.ctlRuns c = true →
    Sparse.get (fun _ => 0) (s.loops c).selRun l < s.loopS.sample + 1 → s.nextSelector c l = some e →
    s.heldStale c e = false →
    After (.selectorIteration c l) s fun t =>
      t.elem c e = ((s.elem c e).iterate (s.ctx e) ((s.reading e).getD noReading)).1 ∧
      Sparse.get (fun _ => 0) (t.loops c).selPtr l = Sparse.get (fun _ => 0) (s.loops c).selPtr l + 1 ∧
      Sparse.get (fun _ => 0) (t.loops c).selRun l = s.loopS.sample + 1 ∧
      (∀ f, f ≠ e → t.elem c f = s.elem c f) ∧ t.loops (otherCtl c) = s.loops (otherCtl c) ∧
      Frame [.loopA, .loopB, .loopS, .flt, .acq] [] [] s t

/-- OVERRUN (R85, R86), SPARE_ENGINE_TAKEOVER (R87, R112) and ACQ_TIMEOUT (R103). -/
def Obligations.EnginesOverrunAndReplaced : Prop :=
  (∀ (s : State) (c : Ctl) (p : Fin 52), s.loopS.running = true → s.loopS.first = false → s.ctlRuns c = true →
    (s.engine c p).role = .active → s.unreached c (s.engine c p).logical ≠ [] →
    After (.overrun c p) s fun t =>
      (∀ e ∈ s.unreached c (s.engine c p).logical,
        (t.elem c e).overrun = true ∧ (t.elem c e).heater = (s.elem c e).heater ∧
        (t.elem c e).levBar = (s.elem c e).levBar ∧ (t.elem c e).levCross = (s.elem c e).levCross) ∧
      (t.loops c).overruns = (s.loops c).overruns + (s.unreached c (s.engine c p).logical).length ∧
      s.loopS.sample ∈ (t.engine c p).ovr ∧
      (3 ≤ (t.engine c p).ovr.length ↔ (t.engine c p).role = .faulty) ∧
      t.loops (otherCtl c) = s.loops (otherCtl c) ∧
      OnlyParts [.regs, .ctrs, .cmd, .flt, .loopA, .loopB, .acq] s t) ∧
  (∀ (s : State) (c : Ctl) (l : Fin 48) (p : Fin 52) (q : Nat), s.servedBy c l = none →
    (s.freeSpares c).head? = some q → (s.engine c p).role = .faulty → (s.engine c p).logical = l.val →
    After (.spareEngineTakeover c l) s fun t =>
      t.engine c q = { logical := l, role := .active, ovr := [] } ∧
      (∀ p, p ≠ q → t.engine c p = s.engine c p) ∧ (∀ e, t.elem c e = s.elem c e) ∧
      t.loops (otherCtl c) = s.loops (otherCtl c) ∧ t.freeCtr = s.freeCtr + 1 ∧
      (∃ moved, (∀ x ∈ moved, x.1 < 5120) ∧
        t.loopS = { s.loopS with targetPend := s.loopS.targetPend ++ moved }) ∧
      Frame [.freeCtr, .loopA, .loopB, .loopS] [] [] s t) ∧
  ∀ (s : State) (c : Ctl) (e : Fin 5120), (s.elem c e).mode = .acquisition → (s.elem c e).acq.samples ≠ 0 →
    (s.coeffs (s.engineOf e).1 s.loopS.activeBank).acqTimeout ≤ (s.elem c e).acq.samples →
    After (.acqTimeout c e) s fun t =>
      t.elem c e = (s.elem c e).enterAcq ∧ (∀ f, f ≠ e.val → t.elem c f = s.elem c f) ∧
      t.loops (otherCtl c) = s.loops (otherCtl c) ∧
      t.flt.sent = s.flt.sent ++ (if s.active? = some c then
        [{ code := elemCode e, cls := 1, sec := s.tim.dt.sec, ns := s.tim.dt.ns }] else []) ∧
      Frame [.loopA, .loopB, .flt] [] [] s t

/-- COEFF_BANK_WRITE (R80), SWAP_REQ (R82), SWAP_CANCEL (R83, R628) and COEFF_BANK_SWAP (R81). -/
def Obligations.CoefficientBanks : Prop :=
  (∀ (s : State) (p : CmdPort) (l : Fin 48) (b : Fin 2) (w : Fin 32) (v : Word), Permitted s p (coeffReg l b w) 1 →
    b ≠ s.loopS.activeBank → s.loopS.swapAt = none →
    After (.coeffBankWrite p l b w v) s fun t => t = s.plainWrite p (coeffReg l b w) v) ∧
  (∀ (s : State) (p : CmdPort) (l : Fin 48) (b : Fin 2) (w : Fin 32) (v : Word), Permitted s p (coeffReg l b w) 1 →
    b = s.loopS.activeBank ∨ s.loopS.swapAt ≠ none →
    After (.coeffBankWrite p l b w v) s fun t =>
      t.rd Reg.LPE_SWAP_CTRL = setBit (s.rd Reg.LPE_SWAP_CTRL) 11 true ∧ Frame [] [Reg.LPE_SWAP_CTRL] [] s t) ∧
  (∀ (s : State) (p : CmdPort) (v : Word), Permitted s p Reg.LPE_SWAP_CTRL 1 → bit v 1 = false →
    s.loopS.swapAt = none → s.loopS.sample + 1 < s.swapAtReg →
    After (.swapReq p v) s fun t =>
      t.loopS = { s.loopS with swapAt := some s.swapAtReg } ∧ Frame [.loopS] [Reg.LPE_SWAP_CTRL] [] s t) ∧
  (∀ (s : State) (p : CmdPort) (v : Word), Permitted s p Reg.LPE_SWAP_CTRL 1 → bit v 1 = false →
    s.loopS.swapAt ≠ none ∨ s.swapAtReg ≤ s.loopS.sample + 1 →
    After (.swapReq p v) s fun t =>
      t.loopS = s.loopS ∧ (s.loopS.swapAt ≠ none → t.rdBit Reg.LPE_SWAP_CTRL 8 = true) ∧
      (s.swapAtReg ≤ s.loopS.sample + 1 → t.rdBit Reg.LPE_SWAP_CTRL 9 = true) ∧
      Frame [] [Reg.LPE_SWAP_CTRL] [] s t) ∧
  (∀ (s : State) (p : CmdPort) (v : Word) (n : Nat), Permitted s p Reg.LPE_SWAP_CTRL 1 → bit v 0 = false →
    s.loopS.swapAt = some n →
    After (.swapCancel p v) s fun t =>
      t.loopS = { s.loopS with swapAt := none } ∧ t.rdBit Reg.LPE_SWAP_CTRL 10 = true ∧
      Frame [.loopS] [Reg.LPE_SWAP_CTRL] [] s t) ∧
  (∀ (s : State) (p : CmdPort) (v : Word) (n : Nat), Permitted s p Reg.LPE_SWAP_CTRL 1 → bit v 0 = true →
    s.loopS.swapAt = some n → s.loopS.sample + 1 < s.swapAtReg →
    After (.swapCancel p v) s fun t =>
      t.loopS = { s.loopS with swapAt := some s.swapAtReg } ∧ t.rdBit Reg.LPE_SWAP_CTRL 10 = true ∧
      Frame [.loopS] [Reg.LPE_SWAP_CTRL] [] s t) ∧
  (∀ (s : State) (p : CmdPort) (v : Word), Permitted s p Reg.LPE_SWAP_CTRL 1 → bit v 0 = false →
    s.loopS.swapAt = none →
    After (.swapCancel p v) s fun t => t.loopS = s.loopS ∧ Frame [] [Reg.LPE_SWAP_CTRL] [] s t) ∧
  ∀ (s : State) (n : Nat), s.loopS.swapAt = some n → n ≤ s.loopS.sample →
    After .coeffBankSwap s fun t =>
      t.loopS = { s.loopS with activeBank := 1 - s.loopS.activeBank, swapAt := none } ∧ Frame [.loopS, .acq] [] [] s t

/-- TARGET_WRITE (R90), EXCITATION_WRITE (R60, R61) and MODE_REQUEST (R93, R124). -/
def Obligations.TargetsAndModesWait : Prop :=
  (∀ (s : State) (p : CmdPort) (e : Fin 5120) (v : Word), Permitted s p (Reg.CEL_TARGET + 0x40 * e) 1 →
    After (.targetWrite p e v) s fun t =>
      t.loopS = { s.loopS with targetPend := s.loopS.targetPend ++ [(e.val, v)] } ∧
      OnlyParts [.loopS] (s.plainWrite p (Reg.CEL_TARGET + 0x40 * e) v) t) ∧
  (∀ (s : State) (p : CmdPort) (v : Word), Permitted s p Reg.LPE_EXC 1 →
    After (.excitationWrite p v) s fun t =>
      fld (t.rd Reg.LPE_EXC) 4 0 = fld v 4 0 ∧ bit (t.rd Reg.LPE_EXC) 5 = bit v 5 ∧
      Frame [] [Reg.LPE_EXC] [] s t) ∧
  (∀ (s : State) (p : CmdPort) (v : Word) (h : fld v 12 0 < 5120), Permitted s p Reg.LPE_MODE_REQ 1 →
    s.loopS.modeReq = none → modeOf (fld v 17 16) ≠ .off → s.isParked (fld v 12 0) = false →
    After (.modeRequest p v) s fun t =>
      t.loopS = { s.loopS with modeReq := some (⟨fld v 12 0, h⟩, modeOf (fld v 17 16)) } ∧
      Frame [.loopS] [Reg.LPE_MODE_REQ] [] s t) ∧
  ∀ (s : State) (p : CmdPort) (v : Word), Permitted s p Reg.LPE_MODE_REQ 1 →
    5120 ≤ fld v 12 0 ∨ s.loopS.modeReq ≠ none ∨ modeOf (fld v 17 16) = .off ∨ s.isParked (fld v 12 0) = true →
    After (.modeRequest p v) s fun t =>
      t.loopS = s.loopS ∧ t.rdBit Reg.LPE_MODE_REQ 30 = true ∧ Frame [] [Reg.LPE_MODE_REQ] [] s t

/-- LOOP_SAMPLE_BOUNDARY (R54, R55, R90). -/
def Obligations.SampleBoundary : Prop :=
  (∀ s : State, s.loopS.running = true → s.loopS.first = false →
    After .loopSampleBoundary s fun t =>
      t.loopS.sample = s.loopS.sample + 1 ∧ t.loopS.bnd = s.loopS.bnd + 1 ∧
      t.loopS.capPrev = s.loopS.capCur ∧ t.loopS.capCur = none ∧
      t.loopS.target = s.loopS.targetPend.foldl (fun m x => Sparse.set (fun _ => 0) m x.1 x.2) s.loopS.target ∧
      (s.slt.running = true → (∀ c, ∀ x ∈ (s.loops c).engines, x.2.role ≠ .faulty) → t.loopS.targetPend = []) ∧
      OnlyParts [.freeCtr, .regs, .ctrs, .cmd, .flt, .img, .tim, .loopA, .loopB, .loopS, .drv, .adc, .mtx, .cal, .red,
        .acq, .slt] s t) ∧
  ∀ s : State, s.loopS.running = true → s.loopS.first = true →
    After .loopSampleBoundary s fun t =>
      t.loopS.sample = s.loopS.sample ∧ t.loopS.first = false ∧ t.loopS.bnd = s.loopS.bnd + 1 ∧
      t.loopS.capCur = none ∧
      OnlyParts [.freeCtr, .regs, .ctrs, .cmd, .flt, .img, .tim, .loopA, .loopB, .loopS, .drv, .adc, .mtx, .cal, .red,
        .acq, .slt] s t

/-- SLEW_STEP (R129 to R131, R136), and the current of a channel (R127). -/
def Obligations.SlewLimited : Prop :=
  (∀ (s : State) (e : Fin 5120), s.drv.picOff = false →
    After (.slewStep e) s fun t =>
      let c := s.chan e
      let c' := t.chan e
      let g := (c.goal c.latest).toNat
      (min c.out.toNat g ≤ c'.out.toNat ∧ c'.out.toNat ≤ max c.out.toNat g) ∧
      c'.out.toNat ≤ c.out.toNat + (s.slew c.range1).1 ∧ c.out.toNat ≤ c'.out.toNat + (s.slew c.range1).1 ∧
      (c.out = c.goal c.latest → c'.out = c.out ∧ c'.count = 255) ∧
      (c.out ≠ c.goal c.latest → c.count + 1 < (s.slew c.range1).2 → c'.out = c.out ∧ c'.count = c.count + 1) ∧
      (c.out ≠ c.goal c.latest → (s.slew c.range1).2 ≤ c.count + 1 → s.drv.inGuard = true →
        c'.out = c.out ∧ c'.deferred = true ∧ c'.count = 0) ∧
      (c.out ≠ c.goal c.latest → (s.slew c.range1).2 ≤ c.count + 1 → s.drv.inGuard = false →
        c'.out ≠ c.out ∧ (c'.count = 0 ∨ (c'.out = c.goal c.latest ∧ c'.count = 255))) ∧
      { c' with out := c.out, count := c.count, deferred := c.deferred, outSb := c.outSb, countSb := c.countSb,
                deferredSb := c.deferredSb } = c ∧
      (∀ f, f ≠ e.val → t.chan f = s.chan f) ∧ t.drv.sel = s.drv.sel ∧
      Frame [.cmd, .drv, .red] [Reg.CMD_IRQ_PENDING] [0x700020] s t) ∧
  ∀ c : Chan,
    c.picoamps * 16777216 ≤ (if c.range1 then 20000000000 else 5000000000) * c.out.toNat ∧
    (if c.range1 then 20000000000 else 5000000000) * c.out.toNat < (c.picoamps + 1) * 16777216

/-- COMPLIANCE_SET (R132), OPENLOAD_SET and OPENLOAD_CLEAR (R133). -/
def Obligations.ComplianceAndOpenLoad : Prop :=
  (∀ (s : State) (e : Fin 5120), (s.chan e).compliance = false →
    After (.complianceSet e) s fun t =>
      t.chan e = { s.chan e with compliance := true, headroom := true } ∧ (∀ f, f ≠ e.val → t.chan f = s.chan f) ∧
      t.ctr 0x900040 = s.ctr 0x900040 + 1 ∧
      t.flt.sent = s.flt.sent ++ [{ code := elemCode e, cls := 1, sec := s.tim.dt.sec, ns := s.tim.dt.ns }] ∧
      Frame [.cmd, .flt, .drv] [Reg.CMD_IRQ_PENDING] [0x900040] s t) ∧
  (∀ (s : State) (e : Fin 5120), (s.chan e).compliance = true →
    After (.complianceSet e) s fun t =>
      t.chan e = { s.chan e with headroom := true } ∧ (∀ f, f ≠ e.val → t.chan f = s.chan f) ∧ Frame [.drv] [] [] s t) ∧
  (∀ (s : State) (e : Fin 5120), 0x100000 ≤ (s.chan e).out.toNat → (s.chan e).phase = .idle →
    (s.chan e).openload = false →
    After (.openloadSet e) s fun t =>
      t.chan e = { s.chan e with openload := true } ∧ (∀ f, f ≠ e.val → t.chan f = s.chan f) ∧
      t.ctr 0x900044 = s.ctr 0x900044 + 1 ∧
      t.flt.sent = s.flt.sent ++ [{ code := elemCode e, cls := 1, sec := s.tim.dt.sec, ns := s.tim.dt.ns }] ∧
      Frame [.cmd, .flt, .drv] [Reg.CMD_IRQ_PENDING] [0x900044] s t) ∧
  (∀ (s : State) (e : Fin 5120), (s.chan e).out.toNat < 0x100000 ∨ (s.chan e).phase ≠ .idle →
    Leaves (.openloadSet e) s ∧ Leaves (.openloadClear e) s) ∧
  ∀ (s : State) (e : Fin 5120), 0x100000 ≤ (s.chan e).out.toNat → (s.chan e).phase = .idle →
    After (.openloadClear e) s fun t =>
      t.chan e = { s.chan e with openload := false } ∧ (∀ f, f ≠ e.val → t.chan f = s.chan f) ∧ Frame [.drv] [] [] s t

/-- RANGE_REQUEST (R135), RANGE_SWITCH and RANGE_RAMP_BACK (R136), RANGE_CHANGE_END (R137). -/
def Obligations.RangeChange : Prop :=
  (∀ (s : State) (p : CmdPort) (v : Word) (h : fld v 12 0 < 5120), Permitted s p Reg.CNV_RANGE_REQ 1 →
    s.drv.rangeReq = none →
    After (.rangeRequest p v) s fun t =>
      t.drv = { s.drv with rangeReq := some (⟨fld v 12 0, h⟩, bit v 16) } ∧ Frame [.drv] [Reg.CNV_RANGE_REQ] [] s t) ∧
  (∀ (s : State) (p : CmdPort) (v : Word), Permitted s p Reg.CNV_RANGE_REQ 1 →
    5120 ≤ fld v 12 0 ∨ s.drv.rangeReq ≠ none →
    After (.rangeRequest p v) s fun t => t.drv = s.drv ∧ Frame [] [Reg.CNV_RANGE_REQ] [] s t) ∧
  (∀ (s : State) (e : Fin 5120), (s.chan e).phase = .down → (s.chan e).out = 0 →
    After (.rangeSwitch e) s fun t =>
      (∀ c, (t.elem c e).heater =
        if (s.chan e).range1 then BitVec.ofNat 24 (min 16777215 (4 * (s.elem c e).heater.toNat))
        else BitVec.ofNat 24 (((s.elem c e).heater.toNat + 2) / 4)) ∧
      (∀ c f, f ≠ e.val → t.elem c f = s.elem c f) ∧
      (t.chan e).phase = .hold ∧ (t.chan e).out = 0 ∧ (t.chan e).range1 = (s.chan e).range1 ∧
      (t.chan e).latest = (if s.drv.picOff then 0 else (t.elem s.actCtl e).heater) ∧
      (∀ f, f ≠ e.val → t.chan f = s.chan f ∧ t.calElem f = s.calElem f) ∧
      Frame [.loopA, .loopB, .drv, .cal] [] [] s t) ∧
  (∀ (s : State) (e : Fin 5120), (s.chan e).phase = .hold →
    After (.rangeRampBack e) s fun t =>
      t.chan e = { s.chan e with phase := .up, range1 := !(s.chan e).range1 } ∧
      (∀ f, f ≠ e.val → t.chan f = s.chan f) ∧ Frame [.drv] [] [] s t) ∧
  ∀ (s : State) (e : Fin 5120), (s.chan e).phase = .up → (s.chan e).out = (s.chan e).latest →
    After (.rangeChangeEnd e) s fun t =>
      t.chan e = { s.chan e with phase := .idle, staleLeft := 2 } ∧ (t.calElem e).linPend = false ∧
      (∀ f, f ≠ e.val → t.chan f = s.chan f ∧ t.calElem f = s.calElem f) ∧ Frame [.drv, .cal] [] [] s t

/-- DIRECT_RESULT and ADC_DATA_READ (R156). -/
def Obligations.DirectResultHeld : Prop :=
  (∀ (s : State) (u : Fin 100) (code : BitVec 14) (ovrs : Nat), (s.au u).cfg.direct = true →
    After (.directResult u code ovrs) s fun t =>
      (t.au u).isNew = true ∧
      (zeroInput u (s.au u).cfg.input.toNat = false → ovrs = 0 → fld ((t.au u).data.setWidth 32) 13 0 = code.toNat) ∧
      (zeroInput u (s.au u).cfg.input.toNat = true → fld ((t.au u).data.setWidth 32) 13 0 = 0) ∧
      (∀ x, x ≠ u.val → t.au x = s.au x) ∧
      t.rd (Reg.CNV_AU_STATUS + 4 * u) =
        (if (s.au u).isNew then setBit (s.rd (Reg.CNV_AU_STATUS + 4 * u)) 7 true
         else s.rd (Reg.CNV_AU_STATUS + 4 * u)) ∧
      Frame [.adc] [Reg.CNV_AU_STATUS + 4 * u] [0x900048] s t) ∧
  ∀ (s : State) (p : CmdPort) (u : Fin 100), Permitted s p (0x900C00 + 4 * u) 0 →
    After (.adcDataRead p u) s fun t =>
      t.au u = { s.au u with isNew := false } ∧ (∀ x, x ≠ u.val → t.au x = s.au x) ∧
      t.cmd.rdData.toList.getD (portNum p) 0 = s.adcDataWord u ∧ Frame [.adc, .cmd] [] [] s t

/-- SLICE_CORRECTION (R154, R159), AU_CONFIG_WRITE and AU_CONFIG_APPLY (R157), AU_FAILED (R159 to R161). -/
def Obligations.AdcUnits : Prop :=
  (∀ (s : State) (u : Fin 100) (i : Fin 4) (o g k : Int), s.sliceDue u i = true →
    o.natAbs ≤ 256 → g.natAbs ≤ 500 → k.natAbs ≤ 20 →
    After (.sliceCorrection u i o g k) s fun t =>
      (t.au u).slices = (s.au u).slices.set i.val (o, g, k) ∧ (t.au u).sliceOk.getLsbD i = true ∧
      (t.au u).failed = (s.au u).failed ∧
      (∀ x, x ≠ u.val → t.au x = s.au x) ∧ Frame [.adc] [] [] s t) ∧
  (∀ (s : State) (u : Fin 100) (i : Fin 4) (o g k : Int), s.sliceDue u i = true →
    256 < o.natAbs ∨ 500 < g.natAbs ∨ 20 < k.natAbs →
    After (.sliceCorrection u i o g k) s fun t =>
      (t.au u).slices = (s.au u).slices.set i.val (o, g, k) ∧ (t.au u).sliceOk.getLsbD i = false ∧
      (t.au u).failed = true ∧ OnlyParts [.freeCtr, .regs, .ctrs, .cmd, .flt, .adc, .acq] s t) ∧
  (∀ (s : State) (u : Fin 100) (i : Fin 4) (o g k : Int), s.sliceDue u i = false →
    Leaves (.sliceCorrection u i o g k) s) ∧
  (∀ (s : State) (p : CmdPort) (u : Fin 100) (v : Word), Permitted s p (Reg.CNV_AU_CFG + 4 * u) 1 →
    s.auCfgRefused u v = true →
    After (.auConfigWrite p u v) s fun t =>
      t.rd (Reg.CNV_AU_STATUS + 4 * u) = setBit (s.rd (Reg.CNV_AU_STATUS + 4 * u)) 8 true ∧
      Frame [] [Reg.CNV_AU_STATUS + 4 * u] [] s t) ∧
  (∀ (s : State) (p : CmdPort) (u : Fin 100) (v : Word), Permitted s p (Reg.CNV_AU_CFG + 4 * u) 1 →
    s.auCfgRefused u v = false → s.converting u = false →
    After (.auConfigWrite p u v) s fun t =>
      (t.au u).cfg = auCfgOf v ∧ (t.au u).waiting = none ∧
      (∀ x, x ≠ u.val → t.au x = s.au x) ∧ OnlyParts [.adc] (s.plainWrite p (Reg.CNV_AU_CFG + 4 * u) v) t) ∧
  (∀ (s : State) (p : CmdPort) (u : Fin 100) (v : Word), Permitted s p (Reg.CNV_AU_CFG + 4 * u) 1 →
    s.auCfgRefused u v = false → s.converting u = true →
    After (.auConfigWrite p u v) s fun t =>
      t.au u = { s.au u with waiting := some (auCfgOf v) } ∧
      (∀ x, x ≠ u.val → t.au x = s.au x) ∧ OnlyParts [.adc] (s.plainWrite p (Reg.CNV_AU_CFG + 4 * u) v) t) ∧
  (∀ (s : State) (u : Fin 100) (c : AuCfg), (s.au u).waiting = some c → s.converting u = false →
    After (.auConfigApply u) s fun t =>
      (t.au u).cfg = c ∧ (t.au u).waiting = none ∧
      ((s.au u).cfg.direct = true → c.direct = false → (t.au u).loopNext = true) ∧
      (∀ x, x ≠ u.val → t.au x = s.au x) ∧ Frame [.adc] [] [] s t) ∧
  (∀ (s : State) (u : Fin 100), s.converting u = true → Leaves (.auConfigApply u) s) ∧
  (∀ (s : State) (u : Fin 100) (r0 r1 r2 : Word), (s.au u).failed = false →
    s.refOff u r0 = true → s.refOff u r1 = true → s.refOff u r2 = true →
    After (.auFailed ⟨u, r0, r1, r2⟩) s fun t =>
      (t.au u).failed = true ∧ t.adc.map = s.adc.map ++ [u.val] ∧ t.adc.fresh = s.adc.fresh ++ [u] ∧
      t.flt.sent = s.flt.sent ++
        ({ code := faultCode fbAdc u, cls := 2, sec := s.tim.dt.sec, ns := s.tim.dt.ns } ::
          if (s.au (partner u)).failed then
            [{ code := faultCode fbAdc (128 + u / 2), cls := 2, sec := s.tim.dt.sec, ns := s.tim.dt.ns }]
          else []) ∧
      (∀ x, x / 2 ≠ u.val / 2 → t.au x = s.au x) ∧
      OnlyParts [.freeCtr, .regs, .ctrs, .cmd, .flt, .adc, .acq] s t) ∧
  ∀ (s : State) (u : Fin 100) (r0 r1 r2 : Word),
    s.refOff u r0 = false ∨ s.refOff u r1 = false ∨ s.refOff u r2 = false → Leaves (.auFailed ⟨u, r0, r1, r2⟩) s

/-- SLOT_BOUNDARY (R188, R190; the log of Table: SLT_LOG). -/
def Obligations.SlotBoundaryBegins : Prop :=
  (∀ (s : State) (k : Fin 4) (b : Nat), s.slt.start = some b →
    After (.slotBoundary k) s fun t =>
      t.slt.slot = s.slt.slot + 1 ∧ t.slt.start = some b ∧
      (s.slt.running = true → Sparse.get (fun _ => 0) t.slt.log (s.slt.slot % 64) = s.slt.cur.logWord) ∧
      (s.slt.running = true ∨ b ≤ s.slt.slot + 1 → t.slt.running = true ∧ t.drv.inGuard = true) ∧
      (s.slt.running = false → s.slt.slot + 1 < b → t.slt.running = false ∧ t.drv = s.drv ∧ t.brt = s.brt) ∧
      OnlyParts [.freeCtr, .regs, .ctrs, .cmd, .flt, .glb, .tim, .loopA, .loopB, .loopS, .drv, .mtx, .cal, .red, .acq,
        .slt, .brt, .pkts, .ports, .chips] s t) ∧
  ∀ (s : State) (k : Fin 4), s.slt.start = none → Leaves (.slotBoundary k) s

/-- RECEIVER_PHASE_LOAD (R211), PREAMBLE_END (R226, R228, R229) and GUARD_END (R27, R130). -/
def Obligations.ReceiversLockInGuards : Prop :=
  (∀ s : State, s.drv.inGuard = true →
    After .receiverPhaseLoad s fun t =>
      (∀ q, s.slt.cur.pairs.getLast? = some q → (t.rx q.2).loaded = some q.1) ∧
      (∀ q ∈ s.slt.cur.pairs, (t.rx q.2).loaded ≠ none ∧ (t.rx q.2).lock = 0 ∧ (t.rx q.2).slot = s.slt.slot) ∧
      Frame [.brt] [] [] s t) ∧
  (∀ s : State, s.drv.inGuard = false → Leaves .receiverPhaseLoad s ∧ Leaves .guardEnd s) ∧
  (∀ (s : State) (o : PreambleObs) (i : Nat), (s.rx o.det).loaded = some i → (s.rx o.det).lock = 0 →
    s.portPowered o.det = true → ((s.rx o.det).entry i).valid = true → s.glb.state = .service →
    (s.port o.det).ready = true →
    After (.preambleEnd o) s fun t =>
      ((t.rx o.det).entry i).phase = ((s.rx o.det).entry i).phase + 16 * o.residual ∧
      (t.rx o.det).offset = (s.rx o.det).offset + o.residual ∧
      ((t.rx o.det).lock = 1 ↔ o.residual.natAbs ≤ s.lockTol) ∧
      (∀ d, d ≠ o.det.val → t.rx d = s.rx d) ∧ Frame [.brt] [] [] s t) ∧
  (∀ (s : State) (o : PreambleObs) (i : Nat) (ph ui : BitVec 6) (g : BitVec 8), (s.rx o.det).loaded = some i →
    (s.rx o.det).lock = 0 → s.portPowered o.det = true → ((s.rx o.det).entry i).valid = false →
    o.cold = some (ph, ui, g) → s.glb.state = .service → (s.port o.det).ready = true →
    After (.preambleEnd o) s fun t =>
      (t.rx o.det).entry i =
        { phase := 16 * (ph.toNat : Int) - (s.rx o.det).offset, uiOff := ui, gain := g, valid := true } ∧
      (t.rx o.det).lock = 3 ∧ (t.rx o.det).offset = (s.rx o.det).offset ∧
      (∀ d, d ≠ o.det.val → t.rx d = s.rx d) ∧ Frame [.brt] [] [] s t) ∧
  ∀ s : State, s.drv.inGuard = true →
    After .guardEnd s fun t =>
      t.drv.inGuard = false ∧ t.brt.flights = s.brt.flights ++ s.brt.staged ∧ t.brt.staged = [] ∧ t.drv.sel = s.drv.sel ∧
      (Sparse.wf (fun _ => {}) s.drv.chans = true →
        ∀ e, (t.chan e).latest = (s.chan e).latest ∧ (t.chan e).deferred = false ∧
          ((s.chan e).deferred = false → (t.chan e).out = (s.chan e).out)) ∧
      Frame [.drv, .brt] [] [] s t

/-- MATRIX_ROUTE (R199, R208), FINAL_LIST_DELIVERY (R210) and ROTATION_REROUTE (R31). -/
def Obligations.PermutationsRouted : Prop :=
  (∀ (s : State) (w : Work), w ∈ s.slt.work → w.handed = true → w.routed = none →
    (∀ x ∈ s.slt.work, x ≠ w → w.slot < x.slot) →
    After .matrixRoute s fun t =>
      (∃ x ∈ t.slt.work, x.slot = w.slot ∧ x.kind = w.kind ∧ x.routed ≠ none) ∧
      (∀ x ∈ s.slt.work, x ≠ w → x ∈ t.slt.work) ∧ t.slt.cur = s.slt.cur ∧
      OnlyParts [.regs, .ctrs, .cmd, .slt] s t) ∧
  (∀ s : State, (∀ w ∈ s.slt.work, w.handed = false ∨ w.routed ≠ none) → Leaves .matrixRoute s) ∧
  (∀ (s : State) (w : Work) (r : Routed) (reads : List (Fin 16 × SegRead)), s.slt.running = true → s.workFor (s.slt.slot + 1) = some w →
    w.routed = some r → w.delivered = false → s.isHeld (s.slt.slot + 1) = false → s.flt.safe = false →
    (w.kind = 1 ∨ w.kind = 2) →
    After (.finalListDelivery reads) s fun t =>
      (∃ x, t.workFor (s.slt.slot + 1) = some x ∧ x.delivered = true ∧ x.routed = some r ∧ x.kind = w.kind) ∧
      OnlyParts [.regs, .ctrs, .cmd, .flt, .slt, .brt, .pkts, .chips] s t) ∧
  (∀ (s : State) (reads : List (Fin 16 × SegRead)), s.slt.running = false → s.slt.start = none →
    Leaves (.finalListDelivery reads) s) ∧
  ∀ s : State, s.mtx.rotationFor ≠ some s.mtx.parked →
    After .rotationReroute s fun t =>
      t.mtx.rotationFor = some s.mtx.parked ∧ t.mtx.rotation.length = 512 ∧
      (∀ q, q < 512 → t.mtx.rotation[q]? = some (s.rotationPairs q, route s.mtx.parked (s.rotationPairs q))) ∧
      Frame [.mtx] [] [] s t

/-- PRISM_START (R190), TEMPLATE_WRITE and CAL_LEN_WRITE (R195), CHANGE_REQ (R196), CHANGE_CANCEL (R197),
CALENDAR_TAKEOVER (R198; assumption 12). -/
def Obligations.CalendarsChange : Prop :=
  (∀ s : State, s.glb.state = .locking → s.slt.start = none → s.noneAcquiring = true → s.lockReleased = true →
    slotOf s.nowNs % 512 = 509 →
    After .prismStart s fun t =>
      t.slt.start = some (slotOf s.nowNs + 3) ∧ t.slt.slot = slotOf s.nowNs ∧ t.slt.running = s.slt.running ∧
      t.rdBit Reg.GLB_CTRL 1 = false ∧ Frame [.slt] [Reg.GLB_CTRL] [] s t) ∧
  (∀ s : State, slotOf s.nowNs % 512 ≠ 509 → Leaves .prismStart s) ∧
  (∀ (s : State) (p : CmdPort) (c : Fin 2) (tp : Fin 8) (w : Fin 64) (v : Word),
    Permitted s p (Reg.SLT_TPL + 0x800 * c.val + 0x100 * tp.val + 4 * w.val) 1 → c ≠ s.slt.activeArea →
    s.slt.change = none →
    After (.templateWrite p c tp w v) s fun t =>
      t = s.plainWrite p (Reg.SLT_TPL + 0x800 * c.val + 0x100 * tp.val + 4 * w.val) v) ∧
  (∀ (s : State) (p : CmdPort) (c : Fin 2) (v : Word), Permitted s p (Reg.SLT_CAL_LEN + 4 * c.val) 1 →
    c ≠ s.slt.activeArea → s.slt.change = none →
    After (.calLenWrite p c v) s fun t => t = s.plainWrite p (Reg.SLT_CAL_LEN + 4 * c.val) v) ∧
  (∀ (s : State) (p : CmdPort) (c : Fin 2) (tp : Fin 8) (w : Fin 64) (v : Word),
    Permitted s p (Reg.SLT_TPL + 0x800 * c.val + 0x100 * tp.val + 4 * w.val) 1 →
    c = s.slt.activeArea ∨ s.slt.change ≠ none →
    After (.templateWrite p c tp w v) s fun t =>
      t.rdBit Reg.SLT_CHANGE_CTRL 13 = true ∧ Frame [] [Reg.SLT_CHANGE_CTRL] [] s t) ∧
  (∀ (s : State) (p : CmdPort) (c : Fin 2) (v : Word), Permitted s p (Reg.SLT_CAL_LEN + 4 * c.val) 1 →
    c = s.slt.activeArea ∨ s.slt.change ≠ none →
    After (.calLenWrite p c v) s fun t =>
      t.rdBit Reg.SLT_CHANGE_CTRL 13 = true ∧ Frame [] [Reg.SLT_CHANGE_CTRL] [] s t) ∧
  (∀ (s : State) (p : CmdPort) (v : Word) (at_ : Nat), Permitted s p Reg.SLT_CHANGE_CTRL 1 → bit v 1 = false →
    at_ = s.atTime Reg.SLT_CHANGE_AT_SEC_LO Reg.SLT_CHANGE_AT_SEC_HI Reg.SLT_CHANGE_AT_NS →
    s.rdFld Reg.SLT_CHANGE_AT_NS 29 0 < 1000000000 → at_ % 1310720 = 0 → s.slt.change = none →
    s.tim.dt.units + 20480 * 4294967296 ≤ at_ * 4294967296 → s.tplFault (1 - s.slt.activeArea.val) = none →
    After (.changeReq p v) s fun t =>
      t.slt = { s.slt with change := some (slotOf at_) } ∧ t.rdBit Reg.SLT_CHANGE_CTRL 0 = true ∧
      Frame [.slt] [Reg.SLT_CHANGE_CTRL] [] s t) ∧
  (∀ (s : State) (p : CmdPort) (v : Word) (at_ : Nat), Permitted s p Reg.SLT_CHANGE_CTRL 1 → bit v 1 = false →
    at_ = s.atTime Reg.SLT_CHANGE_AT_SEC_LO Reg.SLT_CHANGE_AT_SEC_HI Reg.SLT_CHANGE_AT_NS →
    1000000000 ≤ s.rdFld Reg.SLT_CHANGE_AT_NS 29 0 ∨ at_ % 1310720 ≠ 0 ∨ s.slt.change ≠ none ∨
      at_ * 4294967296 < s.tim.dt.units + 20480 * 4294967296 ∨ s.tplFault (1 - s.slt.activeArea.val) ≠ none →
    After (.changeReq p v) s fun t =>
      t.slt = s.slt ∧ (s.slt.change ≠ none → t.rdBit Reg.SLT_CHANGE_CTRL 8 = true) ∧
      (at_ * 4294967296 < s.tim.dt.units + 20480 * 4294967296 → t.rdBit Reg.SLT_CHANGE_CTRL 9 = true) ∧
      (1000000000 ≤ s.rdFld Reg.SLT_CHANGE_AT_NS 29 0 ∨ at_ % 1310720 ≠ 0 → t.rdBit Reg.SLT_CHANGE_CTRL 10 = true) ∧
      (s.tplFault (1 - s.slt.activeArea.val) ≠ none → t.rdBit Reg.SLT_CHANGE_CTRL 11 = true) ∧
      Frame [.cmd] [Reg.SLT_CHANGE_CTRL, Reg.CMD_IRQ_PENDING] [] s t) ∧
  (∀ (s : State) (p : CmdPort) (v : Word) (b : Nat), Permitted s p Reg.SLT_CHANGE_CTRL 1 → bit v 0 = false →
    s.slt.change = some b → s.tim.dt.units < slotUnits (b - 3) →
    After (.changeCancel p v) s fun t =>
      t.slt = { s.slt with change := none } ∧ t.rdBit Reg.SLT_CHANGE_CTRL 0 = false ∧
      t.rdBit Reg.SLT_CHANGE_CTRL 12 = true ∧ Frame [.slt] [Reg.SLT_CHANGE_CTRL] [] s t) ∧
  (∀ (s : State) (p : CmdPort) (v : Word), Permitted s p Reg.SLT_CHANGE_CTRL 1 → bit v 0 = false →
    (∀ b, s.slt.change = some b → slotUnits (b - 3) ≤ s.tim.dt.units) →
    After (.changeCancel p v) s fun t => t.slt = s.slt ∧ Frame [] [Reg.SLT_CHANGE_CTRL] [] s t) ∧
  ∀ (s : State) (b : Nat), s.slt.change = some b → (s.slt.running = true → b ≤ s.slt.slot) →
    (s.slt.running = false → slotUnits b ≤ s.tim.dt.units) →
    After .calendarTakeover s fun t =>
      t.slt = { s.slt with change := none, activeArea := s.slt.activeArea + 1, calStart := b } ∧
      t.rdBit Reg.SLT_CHANGE_CTRL 0 = false ∧
      Frame [.cmd, .acq, .slt] [Reg.SLT_CHANGE_CTRL, Reg.CMD_IRQ_PENDING] [] s t

/-- PARK_REQUEST and PARK_EFFECT (R32, R35, R51, R92, R93, R112), PERM_READ (R30). -/
def Obligations.FieldParks : Prop :=
  (∀ (s : State) (p : CmdPort) (v : Word), Permitted s p Reg.MTX_PARK_REQ 4 → fld v 12 0 < 4608 →
    s.isParked (fld v 12 0) = false → (∀ q ∈ s.mtx.pending, q.1 ≠ fld v 12 0) →
    After (.parkRequest p v) s fun t =>
      fld v 12 0 ∈ t.mtx.field ∧ (∀ e ∈ s.mtx.field, e ∈ t.mtx.field) ∧
      t.mtx.pending = s.mtx.pending ++ [(fld v 12 0, if s.slt.running then s.slt.slot + 3 else 0)] ∧
      t.mtx.parked = s.mtx.parked ∧ Frame [.cmd, .mtx] [Reg.CMD_IRQ_PENDING] [] s t) ∧
  (∀ (s : State) (p : CmdPort) (v : Word), Permitted s p Reg.MTX_PARK_REQ 4 →
    4608 ≤ fld v 12 0 ∨ s.isParked (fld v 12 0) = true ∨ (∃ q ∈ s.mtx.pending, q.1 = fld v 12 0) →
    Leaves (.parkRequest p v) s) ∧
  (∀ (s : State) (e : Fin 4608) (n : Nat), (e.val, n) ∈ s.mtx.pending → s.slt.running = false ∨ n ≤ s.slt.slot →
    After (.parkEffect e) s fun t =>
      t.isParked e = true ∧ (∀ q ∈ t.mtx.pending, q.1 ≠ e.val) ∧
      (s.selectsHeld = false → t.drv.sel.getLsbD e = false) ∧ (s.selectsHeld = true → t.drv.sel = s.drv.sel) ∧
      (∀ c, (t.elem c e).modeDue = some .hold ∧ (t.elem c e).heater = (s.elem c e).heater ∧
        (t.elem c e).mode = (s.elem c e).mode) ∧
      (t.chan e).tgtBar = (s.chan e).levBar ∧ (t.chan e).tgtCross = (s.chan e).levCross ∧
      (∀ f, f ≠ e.val → t.chan f = s.chan f ∧ ∀ c, t.elem c f = s.elem c f) ∧
      (∃ moved, (∀ x ∈ moved, x.1 < 5120) ∧
        t.loopS = { s.loopS with targetPend := s.loopS.targetPend ++ moved }) ∧
      Frame [.freeCtr, .loopA, .loopB, .loopS, .drv, .mtx] [] [] s t) ∧
  ∀ (s : State) (p : CmdPort) (v : Word) (q : Pair), Permitted s p Reg.MTX_PERM_READ 1 →
    s.slt.cur.pairs.find? (fun x => decide (x.1 = fld v 8 0)) = some q → q.2 < 512 →
    After (.permRead p v) s fun t =>
      fld t.slt.permResult 8 0 = q.2 ∧ bit t.slt.permResult 15 = true ∧
      fld t.slt.permResult 31 16 = s.slt.slot % 65536 ∧
      { t.slt with permResult := s.slt.permResult } = s.slt ∧ Frame [.slt] [] [] s t

/-- EMITTER_FAILED (R44, R45), SPARE_TAKEOVER (R41, R45, R47), SPARE_RELEASE (R631), FORCE_SPARE (R47, R51; assumption 108),
LIGHT_RETURN (R630). -/
def Obligations.LaserBanks : Prop :=
  (∀ (s : State) (n : Fin 32) (i : Fin 17), (s.emitter n i).up = true → (s.emitter n i).failed = false →
    3 ≤ Sparse.get (fun _ => 0) s.mtx.low (emitterIdx n i) →
    After (.emitterFailed n i) s fun t =>
      (t.emitter n i).failed = true ∧
      (∃ more : List SentFault, t.flt.sent = s.flt.sent ++
        ({ code := faultCode fbEmit (emitterIdx n i), cls := 2, sec := s.tim.dt.sec, ns := s.tim.dt.ns } :: more)) ∧
      (∀ h : i.val < 16, s.spareMode n = 0 → s.spareFree n = true → (s.emitter n 16).up = true →
        (t.bank n).takeover = some ⟨i.val, h⟩) ∧
      (∀ m, m ≠ n.val → t.bank m = s.bank m) ∧
      Frame [.flt, .mtx] [Reg.MTX_LB_CFG + 4 * n, Reg.MTX_LB_STATUS + 4 * n] [] s t) ∧
  (∀ (s : State) (n : Fin 32) (i : Fin 17), (s.emitter n i).up = false ∨ (s.emitter n i).failed = true ∨
    Sparse.get (fun _ => 0) s.mtx.low (emitterIdx n i) < 3 → Leaves (.emitterFailed n i) s) ∧
  (∀ (s : State) (n : Fin 32) (i : Fin 16), s.slt.running = false → (s.bank n).takeover = some i →
    (s.bank n).unlit = false → (s.emitter n 16).up = true → (s.emitter n 16).failed = false → s.drv.picOff = false →
    s.domOn (50 + quadrantOf (4608 + 16 * n + i)) = true →
    After (.spareTakeover n) s fun t =>
      (t.bank n).spareUsed = true ∧ (t.bank n).spareFor = i ∧ (t.bank n).takeover = none ∧
      (t.emitter n 16).on = true ∧ (t.emitter n 16).dB = 0 ∧
      (∀ j : Fin 16, t.drv.sel.getLsbD (4608 + 16 * n + j) = decide (j = i)) ∧
      t.rdBit (Reg.MTX_LB_CFG + 4 * n) 4 = false ∧ (∀ m, m ≠ n.val → t.bank m = s.bank m) ∧
      Frame [.freeCtr, .flt, .loopS, .drv, .mtx] [Reg.MTX_LB_CFG + 4 * n] [] s t) ∧
  (∀ (s : State) (n : Fin 32), s.slt.running = false → (s.bank n).release = true →
    After (.spareRelease n) s fun t =>
      (t.bank n).spareUsed = false ∧ (t.bank n).release = false ∧
      t.drv.sel.getLsbD (4608 + 16 * n + (s.bank n).spareFor) = false ∧ (∀ m, m ≠ n.val → t.bank m = s.bank m) ∧
      Frame [.flt, .drv, .mtx] [] [] s t) ∧
  (∀ (s : State) (n : Fin 32), s.slt.running = true → Leaves (.spareTakeover n) s ∧ Leaves (.spareRelease n) s) ∧
  (∀ (s : State) (p : CmdPort) (n : Fin 32) (v : Word), Permitted s p (Reg.MTX_LB_CFG + 4 * n) 4 →
    s.rdBit (Reg.MTX_LB_CFG + 4 * n) 4 = false → s.spareFree n = true →
    (if s.img.locked then s.spareMode n else fld v 1 0) < 2 →
    After (.forceSpare p n v) s fun t =>
      (t.bank n).takeover = some (Fin.ofNat 16 (fld v 11 8)) ∧ t.rdBit (Reg.MTX_LB_CFG + 4 * n) 4 = true ∧
      (∀ m, m ≠ n.val → t.bank m = s.bank m) ∧
      (s.img.locked = false → t.sec = s.sec ∧ t.ctr 0x134 = s.ctr 0x134) ∧
      Frame [.mtx, .sec] [Reg.MTX_LB_CFG + 4 * n] [0x134] s t) ∧
  (∀ (s : State) (p : CmdPort) (n : Fin 32) (v : Word), Permitted s p (Reg.MTX_LB_CFG + 4 * n) 4 →
    s.rdBit (Reg.MTX_LB_CFG + 4 * n) 4 = false →
    s.spareFree n = false ∨ 2 ≤ (if s.img.locked then s.spareMode n else fld v 1 0) →
    After (.forceSpare p n v) s fun t =>
      t.mtx = s.mtx ∧ t.rdBit (Reg.MTX_LB_STATUS + 4 * n) 23 = true ∧
      Frame [.sec] [Reg.MTX_LB_CFG + 4 * n, Reg.MTX_LB_STATUS + 4 * n] [0x134] s t) ∧
  (∀ (s : State) (p : CmdPort) (n : Fin 32) (v : Word), Permitted s p (Reg.MTX_LB_CFG + 4 * n) 4 →
    s.rdBit (Reg.MTX_LB_CFG + 4 * n) 4 = true →
    After (.forceSpare p n v) s fun t =>
      t.mtx = s.mtx ∧ Frame [.sec] [Reg.MTX_LB_CFG + 4 * n] [0x134] s t) ∧
  ∀ (s : State) (k : Fin 512) (n : Nat), (k.val, n) ∈ s.mtx.rejoin → s.slt.running = false ∨ n ≤ s.slt.slot →
    After (.lightReturn k) s fun t =>
      k.val ∉ t.mtx.isolated ∧ (∀ x ∈ t.mtx.rejoin, x.1 ≠ k.val) ∧
      (∀ j, j ≠ k.val → (j ∈ t.mtx.isolated ↔ j ∈ s.mtx.isolated)) ∧
      { t.mtx with isolated := s.mtx.isolated, rejoin := s.mtx.rejoin } = s.mtx ∧ Frame [.mtx] [] [] s t

/-- CAL_INTERPOLATION (R181, R182, R187) and START_FULL (R167, R168). -/
def Obligations.CalibrationTakenIntoUse : Prop :=
  (∀ (s : State) (q : Interp), s.cal.dirty = true → s.cal.fullBusy = false → s.interp s.cal.temp = some q →
    After .calInterpolation s fun t =>
      t.cal.dirty = false ∧ t.cal.weight = q.w ∧ t.cal.clamped = q.clamped ∧
      (∀ e, e < 5120 →
        t.calElem e = q.elem (s.calSet q.lo) (s.calSet q.hi) e (s.calElem e) (s.chan e).range1
          (decide ((s.chan e).phase = .idle))) ∧
      (∀ e, 5120 ≤ e → t.calElem e = s.calElem e) ∧
      (∀ e, 5120 ≤ e ∨ s.isParked e = true → t.chan e = s.chan e ∧ ∀ c, t.elem c e = s.elem c e) ∧
      (∀ c e, (t.elem c e).heater = (s.elem c e).heater) ∧
      Frame [.cmd, .loopA, .loopB, .drv, .cal] [Reg.CMD_IRQ_PENDING] [] s t) ∧
  (∀ s : State, s.cal.dirty = true → s.cal.fullBusy = false → s.interp s.cal.temp = none →
    After .calInterpolation s fun t => t.cal = { s.cal with dirty := false } ∧ Frame [.cal] [] [] s t) ∧
  (∀ s : State, s.cal.dirty = false ∨ s.cal.fullBusy = true → Leaves .calInterpolation s) ∧
  (∀ (s : State) (p : CmdPort) (v : Word), Permitted s p Reg.CAL_CMD 1 → bit v 1 = false → bit v 2 = false →
    s.glb.state = .quiesced → s.photonicThrottle = false →
    After (.startFull p v) s fun t =>
      t.glb.state = .calibrating ∧ t.cal.fullBusy = true ∧ t.cal.step = 1 ∧ t.drv.sel = 0 ∧ t.drv.chans = s.drv.chans ∧
      t.loopS.running = false ∧ t.slt.running = false ∧ t.slt.start = none ∧ t.tim.mode = .follow ∧
      t.cal.sets = s.cal.sets ∧ t.cal.elems = s.cal.elems ∧
      Frame [.cmd, .glb, .tim, .loopS, .drv, .cal, .slt, .brt, .ports] [Reg.CAL_CMD, Reg.CMD_IRQ_PENDING] [] s t) ∧
  ∀ (s : State) (p : CmdPort) (v : Word), Permitted s p Reg.CAL_CMD 1 → bit v 1 = false → bit v 2 = false →
    s.glb.state ≠ .quiesced ∨ s.photonicThrottle = true →
    After (.startFull p v) s fun t => t.rdBit Reg.CAL_CMD 8 = true ∧ Frame [] [Reg.CAL_CMD] [] s t

/-- FULL_CALIBRATION_STEP (R166, R169), FULL_CALIBRATION_DONE (R170), TRIAL_CAPTURE (R175, R176), STAGE_RESULT_APPLY
(R177, R178). -/
def Obligations.CalibrationProceeds : Prop :=
  (∀ (s : State) (adc : List AdcMeas), s.cal.fullBusy = true → s.cal.step = 1 →
    After (.fullCalibrationStep adc) s fun t =>
      t.cal.step = 2 ∧ t.cal.stepDone = false ∧ t.cal.fullBusy = true ∧ t.cal.sets = s.cal.sets ∧
      (∀ u, (∀ m ∈ adc, m.unit.val ≠ u) → t.auCal u = s.auCal u) ∧ Frame [.freeCtr, .cal] [] [] s t) ∧
  (∀ (s : State) (adc : List AdcMeas), s.cal.fullBusy = true → s.cal.stepDone = true → 2 ≤ s.cal.step.val →
    s.cal.step.val ≤ 5 →
    After (.fullCalibrationStep adc) s fun t =>
      t.cal.step = s.cal.step + 1 ∧ t.cal.stepDone = false ∧ t.cal.fullBusy = true ∧ t.cal.sets = s.cal.sets ∧
      t.cal.elems = s.cal.elems ∧ t.drv.sel = s.drv.sel ∧ (s.cal.step = 5 → t.cal.fullTag = s.cal.temp) ∧
      Frame [.drv, .cal] [] [] s t) ∧
  (∀ (s : State) (adc : List AdcMeas), s.cal.fullBusy = true → s.cal.stepDone = true → s.cal.step = 6 →
    After (.fullCalibrationStep adc) s fun t =>
      t.cal.step = 7 ∧ t.cal.stepDone = true ∧ t.cal.fullBusy = true ∧ t.cal.sets = s.cal.sets ∧ t.drv.sel = 0 ∧
      (∀ e, e < 5120 → s.isParked e = false → e ∉ s.cal.skip →
        t.calElem e = { s.calElem e with lc := 0x3DD3BE4A, lcAdj := 0 }) ∧
      (∀ e, s.isParked e = true ∨ e ∈ s.cal.skip → t.calElem e = s.calElem e) ∧ (∀ e, t.chan e = s.chan e) ∧
      Frame [.drv, .mtx, .cal] [] [] s t) ∧
  (∀ (s : State) (adc : List AdcMeas), s.cal.fullBusy = false ∨ (s.cal.step ≠ 1 ∧ s.cal.stepDone = false) →
    Leaves (.fullCalibrationStep adc) s) ∧
  (∀ s : State, s.cal.fullBusy = true → s.cal.step = 7 → s.cal.stepDone = true →
    After .fullCalibrationDone s fun t =>
      t.cal.fullBusy = false ∧ t.cal.step = 0 ∧ t.glb.state = .locking ∧ t.loopS.running = true ∧
      t.loopS.modeReq = s.loopS.modeReq ∧
      (s.cal.storing ≠ none → t.cal.storeNext = some (s.captureSet s.cal.fullTag)) ∧
      (∀ f, s.cal.storing = none → s.storeArea s.cal.fullTag = some f →
        t.cal.storing = some (Fin.ofNat 9 f, (s.captureSet s.cal.fullTag).sealed)) ∧
      Frame [.freeCtr, .cmd, .glb, .loopA, .loopB, .loopS, .cal, .acq] [Reg.CAL_CMD, Reg.CMD_IRQ_PENDING] [] s t) ∧
  (∀ (s : State) (taps : List (Fin 10304)) (codes : List TapCodes) (cap : Capture), s.inTrial = true → s.trialVoid = false →
    cap = (s.convertAll (taps.zip codes)
      { sample := s.loopS.sample, exc := s.loopS.excOn, sel := s.drv.sel, readings := [] }).1 →
    (∀ e ∈ s.trialElems, s.takesPart e = true → e ∉ s.cal.skip → (s.readingOf cap e).valid = true) →
    After (.trialCapture taps codes []) s fun t =>
      t.cal = { s.cal with
        trials := s.cal.trials ++ [{ trial := s.cal.trial, results := s.trialGood cap }]
        trial := s.cal.trial + 1, reps := 0 } ∧
      t.slt = { s.slt with claims := s.slt.claims.filter fun n => decide (n ≠ s.slt.cur.slot) } ∧
      Frame [.adc, .cal, .slt] [] [0x900048, 0x900050] s t) ∧
  (∀ (s : State) (taps : List (Fin 10304)) (codes : List TapCodes) (adc : List AdcMeas) (e : Nat), s.inTrial = true →
    s.flt.safe = true → e ∈ s.trialElems → s.takesPart e = true → e ∉ s.cal.skip → s.cal.reps < 4 →
    After (.trialCapture taps codes adc) s fun t =>
      t.cal = { s.cal with reps := s.cal.reps + 1 } ∧ Frame [.cal, .slt] [] [] s t) ∧
  (∀ (s : State) (taps : List (Fin 10304)) (codes : List TapCodes) (cap : Capture) (e : Nat), s.inTrial = true →
    s.trialVoid = false →
    cap = (s.convertAll (taps.zip codes)
      { sample := s.loopS.sample, exc := s.loopS.excOn, sel := s.drv.sel, readings := [] }).1 →
    e ∈ s.trialElems → s.takesPart e = true → e ∉ s.cal.skip → (s.readingOf cap e).valid = false → s.cal.reps < 4 →
    After (.trialCapture taps codes []) s fun t =>
      t.cal = { s.cal with reps := s.cal.reps + 1 } ∧ Frame [.adc, .cal, .slt] [] [0x900048, 0x900050] s t) ∧
  (∀ (s : State) (taps : List (Fin 10304)) (codes : List TapCodes) (adc : List AdcMeas), s.inTrial = false →
    Leaves (.trialCapture taps codes adc) s) ∧
  ∀ (s : State) (a : Nat), s.cal.applyAt = some a → a ≤ s.loopS.sample → s.drv.inGuard = true →
    After .stageResultApply s fun t =>
      t.cal.stage = (if s.cal.stage = 18 then 0 else s.cal.stage + 1) ∧ t.cal.named = false ∧ t.cal.applyAt = none ∧
      t.cal.trials = [] ∧ t.loopS = { s.loopS with calStale := [] } ∧
      (∀ e, e ∉ s.trialElems ∨ s.fitted e = false →
        t.chan e = s.chan e ∧ t.calElem e = s.calElem e ∧ ∀ c, t.elem c e = s.elem c e) ∧
      t.drv.sel = s.drv.sel ∧ Frame [.freeCtr, .loopA, .loopB, .loopS, .drv, .cal] [] [0x800024] s t

/-- STORE and STORE_COMPLETE (R185, R186), DELETE, SET_READ (R183). -/
def Obligations.CalibrationSetsStored : Prop :=
  (∀ (s : State) (p : CmdPort) (v : Word) (f : Nat), Permitted s p Reg.CAL_CMD 1 → bit v 0 = false → bit v 2 = false →
    (s.glb.state = .service ∨ s.glb.state = .quiesced) → s.cal.storing = none → s.validAreas.length < 8 →
    ((List.range 9).find? fun i => !(s.calSet i).valid) = some f →
    After (.calStore p v) s fun t =>
      t.cal.storing = some (Fin.ofNat 9 f, (s.captureSet s.cal.temp).sealed) ∧ t.cal.storeWait = !s.thm.nvmOk ∧
      t.cal.storeOld = (s.nearSet s.cal.temp).map (Fin.ofNat 9) ∧
      t.cal.sets = s.cal.sets ∧ Frame [.cal] [Reg.CAL_CMD] [] s t) ∧
  (∀ (s : State) (p : CmdPort) (v : Word), Permitted s p Reg.CAL_CMD 1 → bit v 0 = false → bit v 2 = false →
    s.cal.storing ≠ none ∨ (s.glb.state ≠ .service ∧ s.glb.state ≠ .quiesced) ∨
      (s.plainWrite p Reg.CAL_CMD (withBit v 1)).storeArea s.cal.temp = none →
    After (.calStore p v) s fun t =>
      (s.glb.state ≠ .service → s.glb.state ≠ .quiesced → t.rdBit Reg.CAL_CMD 8 = true) ∧
      ((s.plainWrite p Reg.CAL_CMD (withBit v 1)).storeArea s.cal.temp = none → t.rdBit Reg.CAL_CMD 9 = true) ∧
      (s.cal.storing ≠ none → t.rdBit Reg.CAL_CMD 10 = true) ∧
      Frame [.cmd] [Reg.CAL_CMD, Reg.CMD_IRQ_PENDING] [] s t) ∧
  (∀ (s : State) (f : Fin 9) (x : CalSet), s.cal.storing = some (f, x) → s.cal.storeWait = false →
    s.cal.storeNext = none → s.glb.restart = .none →
    After .storeComplete s fun t =>
      t.cal.sets[f] = { x with valid := true } ∧ t.cal.storing = none ∧ t.cal.dirty = true ∧
      (∀ o, s.cal.storeOld = some o → o ≠ f → t.cal.sets[o] = { s.cal.sets[o] with valid := false }) ∧
      (∀ i : Fin 9, i ≠ f → s.cal.storeOld ≠ some i → t.cal.sets[i] = s.cal.sets[i]) ∧
      (s.cal.storeService = true → Sparse.wf (fun _ => {}) s.cal.elems = true → ∀ e, (t.calElem e).lcAdj = 0) ∧
      Frame [.cmd, .cal] [Reg.CMD_IRQ_PENDING] [] s t) ∧
  (∀ (s : State) (p : CmdPort) (v : Word) (i : Fin 9), Permitted s p Reg.CAL_CMD 1 → bit v 0 = false → bit v 1 = false →
    s.cal.storing = none → (s.plainWrite p Reg.CAL_CMD (withBit v 2)).namedSet = some i.val →
    After (.calDelete p v) s fun t =>
      t.cal.sets[i] = { s.cal.sets[i] with valid := false } ∧ (∀ k : Fin 9, k ≠ i → t.cal.sets[k] = s.cal.sets[k]) ∧
      t.cal.dirty = true ∧ Frame [.cal] [Reg.CAL_CMD] [] s t) ∧
  (∀ (s : State) (p : CmdPort) (v : Word), Permitted s p Reg.CAL_CMD 1 → bit v 0 = false → bit v 1 = false →
    s.cal.storing ≠ none ∨ (s.plainWrite p Reg.CAL_CMD (withBit v 2)).namedSet = none →
    After (.calDelete p v) s fun t =>
      (s.cal.storing ≠ none → t.rdBit Reg.CAL_CMD 10 = true) ∧
      ((s.plainWrite p Reg.CAL_CMD (withBit v 2)).namedSet = none → t.rdBit Reg.CAL_CMD 11 = true) ∧
      Frame [] [Reg.CAL_CMD] [] s t) ∧
  (∀ (s : State) (p : CmdPort) (v : Word), Permitted s p Reg.CAL_SET_READ 1 → fld v 12 0 < 5120 → fld v 16 13 < 9 →
    After (.setRead p v) s fun t =>
      t.cal = { s.cal with setData := Sparse.get (fun _ => []) (s.calSet (fld v 16 13)).entries (fld v 12 0) } ∧
      Frame [.cal] [Reg.CAL_SET_READ] [] s t) ∧
  ∀ (s : State) (p : CmdPort) (v : Word), Permitted s p Reg.CAL_SET_READ 1 → 5120 ≤ fld v 12 0 ∨ 9 ≤ fld v 16 13 →
    After (.setRead p v) s fun t => t.cal = s.cal ∧ Frame [] [Reg.CAL_SET_READ] [] s t

/-- NOTICE (R231, R240) and BURST_VERDICT (R219, R220, R232, R239; assumption 130). -/
def Obligations.NoticesAndVerdicts : Prop :=
  (∀ (s : State) (i j : Fin 512) (ep seq n : Nat) (rest : List Msg),
    Oldest (fun x => ∃ a b c, x = .notice i j a b c) s.brt.mesh (.notice i j ep seq n) rest →
    After (.notice i j) s fun t =>
      let x := s.egrPair i j
      let y := t.egrPair i j
      t.brt.mesh = rest ∧ y.notices = x.notices ++ [(seq, ep, n)] ∧ y.held = x.held ∧ y.e = x.e ∧
      (y.learned = if ep = s.epochOf i j ∧ x.missing seq = true ∧ x.learned.all (fun p => decide (p.1 ≠ seq)) = true then
          x.learned ++ [(seq, s.gapNow)] else x.learned) ∧
      Frame [.brt] [] [] s t) ∧
  (∀ (s : State) (i j : Fin 512), (∀ m ∈ s.brt.mesh, ∀ a b c, m ≠ .notice i j a b c) → Leaves (.notice i j) s) ∧
  (∀ (s : State) (j : Fin 512) (o : RxObs) (f : Flight) (n : Nat) (ws : List Word),
    s.brt.flights.find? (fun g => decide (g.j = j.val) && !g.judged) = some f →
    (f.seq, f.epoch, n) ∈ (s.egrPair f.i j).notices → s.chipAlive (chipOf j) = true → s.portPowered j = true →
    s.received f o = some ws → (s.rx j).lockFor f.i f.slot ≠ 2 → (s.rx j).lockFor f.i f.slot ≠ 3 →
    (∀ k ∈ o.errs, k ≤ 15) → headerGood ws = true → s.routedRight ws f.i j = true → f.epoch = s.epochOf f.i j →
    (s.egrPair f.i j).dist f.seq = 0 → (s.egrPair f.i j).holds f.seq = false →
    f.segs.length ≤ (s.chip (chipOf j)).free true →
    After (.burstVerdict j o) s fun t =>
      t.brt.mesh = s.brt.mesh ++ (if s.chipAlive (chipOf f.i) then [.ack f.i j f.seq] else []) ∧
      (∃ b, (t.egrPair f.i j).held = (s.egrPair f.i j).held ++ [b] ∧ b.seq = f.seq ∧ b.slot = f.slot ∧
        b.passed = false ∧ b.segs.length = f.segs.length) ∧
      (∀ q ∈ (t.egrPair f.i j).notices, q.1 ≠ f.seq) ∧ Frame [.brt, .chips] [] [] s t) ∧
  (∀ (s : State) (j : Fin 512) (o : RxObs) (f : Flight) (n : Nat),
    s.brt.flights.find? (fun g => decide (g.j = j.val) && !g.judged) = some f →
    (f.seq, f.epoch, n) ∈ (s.egrPair f.i j).notices → s.chipAlive (chipOf j) = true →
    After (.burstVerdict j o) s fun t =>
      let x := s.egrPair f.i j
      let y := t.egrPair f.i j
      let lk := (s.rx j).lockFor f.i f.slot
      let room := (s.chip (chipOf j)).free true
      let sent (m : Msg) : Prop := t.brt.mesh = s.brt.mesh ++ (if s.chipAlive (chipOf f.i) then [m] else [])
      let nack (code : Nat) : Prop :=
        sent (.nack f.i j f.seq code) ∧ t.ctr (0xE00040 + 8 * (code - 1)) = s.ctr (0xE00040 + 8 * (code - 1)) + 1 ∧
        y.held = x.held ∧ t.chips = s.chips
      let judged (ws : List Word) : Prop :=
        if lk = 3 then nack 2
        else if lk = 2 then nack 3
        else if ∃ k ∈ o.errs, 15 < k then nack 4
        else if headerGood ws = false then nack 5
        else if s.routedRight ws f.i j = false then
          nack 6 ∧ t.flt.sent = s.flt.sent ++
            [{ code := faultCode fbMtx 0, cls := 1, sec := s.tim.dt.sec, ns := s.tim.dt.ns }]
        else if f.epoch ≠ s.epochOf f.i j then
          t.brt.mesh = s.brt.mesh ∧ t.ctr 0xE00098 = s.ctr 0xE00098 + 1 ∧ y.held = x.held
        else if 8192 ≤ x.dist f.seq ∨ x.holds f.seq = true then
          sent (.ack f.i j f.seq) ∧ t.ctr 0xE00090 = s.ctr 0xE00090 + 1 ∧ y.held = x.held
        else if f.segs.length ≤ room ∧ (x.dist f.seq = 0 ∨ s.oooSegs (chipOf j) + f.segs.length ≤
            min 16777216 (s.rdFld (bufReg (chipOf j) Reg.BUF_EH_OOO) 24 0)) then
          sent (.ack f.i j f.seq) ∧ ∃ b, y.held = x.held ++ [b] ∧ b.seq = f.seq ∧ b.slot = f.slot ∧ b.passed = false
        else nack 7
      (∀ g ∈ t.brt.flights, g.j = j.val → g.slot = f.slot → g.judged = true) ∧
      (∀ q ∈ y.notices, q.1 ≠ f.seq) ∧ y.e = x.e ∧
      (if s.portPowered j = true then
        (s.received f o = none → nack 1) ∧ ∀ ws, s.received f o = some ws → judged ws
      else nack 1) ∧
      Frame [.cmd, .flt, .brt, .chips] [Reg.CMD_IRQ_PENDING]
        [0xE00040, 0xE00048, 0xE00050, 0xE00058, 0xE00060, 0xE00068, 0xE00070, 0xE00090, 0xE00098] s t) ∧
  (∀ (s : State) (j : Fin 512) (o : RxObs),
    (∀ f ∈ s.brt.flights, f.j = j.val → f.judged = false →
      ∀ q ∈ (s.egrPair f.i j).notices, (q.1, q.2.1) ≠ (f.seq, f.epoch)) →
    Leaves (.burstVerdict j o) s) ∧
  ∀ (s : State) (f : Flight), f.i < 512 → f.j < 512 → s.tenant f.i = s.tenant f.j →
    headerGood (s.burstContent f) = true ∧ s.routedRight (s.burstContent f) f.i f.j = true

/-- ACK (R233), NACK and ACK_TIMEOUT (R235, R236, R237), RETRANSMIT_READ (R236). -/
def Obligations.AnswersAndRepairs : Prop :=
  let failed (s t : State) (i j : Nat) (b : IBurst) (rest : List Msg) : Prop :=
    if max 1 (s.rdFld Reg.BRT_CFG 3 0) ≤ b.fails + 1 then
      t.brt.mesh = rest ++ (if s.chipAlive (chipOf i) && s.chipAlive (chipOf j) then [.gapReq i j b.seq .retx] else []) ∧
      (∀ y ∈ (t.ingPair i j).bursts, y.seq = b.seq → y.st = .gapAsked) ∧ t.slt = s.slt
    else
      t.brt.mesh = rest ∧
      (t.ingPair i j).bursts = (s.ingPair i j).bursts.map (fun y =>
        if y.seq = b.seq then { y with fails := y.fails + 1, st := .failed } else y) ∧
      t.slt.newReps = s.slt.newReps ++ [{ i := i, j := j, seq := b.seq, raised := s.slt.slot, bound := 0 }] ∧
      t.slt.reps = s.slt.reps ∧ t.slt.slot = s.slt.slot
  (∀ (s : State) (i j : Fin 512) (seq : Nat) (rest : List Msg),
    Oldest (fun x => ∃ a, x = .ack i j a) s.brt.mesh (.ack i j seq) rest →
    After (.ack i j) s fun t =>
      t.brt.mesh = rest ∧
      (t.ingPair i j).bursts = (s.ingPair i j).bursts.map (fun b => if b.seq = seq then { b with st := .acked } else b) ∧
      (∀ q ∈ t.slt.reps ++ t.slt.newReps, (q.i, q.j, q.seq) ≠ (i.val, j.val, seq)) ∧
      (∀ q ∈ s.slt.reps, (q.i, q.j, q.seq) ≠ (i.val, j.val, seq) → q ∈ t.slt.reps) ∧
      Frame [.slt, .brt] [] [] s t) ∧
  (∀ (s : State) (i j : Fin 512) (seq code : Nat) (rest : List Msg) (b : IBurst),
    Oldest (fun x => ∃ a c, x = .nack i j a c) s.brt.mesh (.nack i j seq code) rest →
    s.awaiting i j seq = some b →
    After (.nack i j) s fun t => failed s t i j b rest ∧ Frame [.slt, .brt] [] [] s t) ∧
  (∀ (s : State) (i j : Fin 512) (seq code : Nat) (rest : List Msg),
    Oldest (fun x => ∃ a c, x = .nack i j a c) s.brt.mesh (.nack i j seq code) rest → s.awaiting i j seq = none →
    After (.nack i j) s fun t => t = { s with brt := { s.brt with mesh := rest } }) ∧
  (∀ (s : State) (i j : Fin 512) (b : IBurst),
    (s.ingPair i j).bursts.find? (fun b => decide (b.st = .sent ∧ b.slot + 3 ≤ s.slt.slot)) = some b →
    After (.ackTimeout i j) s fun t =>
      failed s t i j b s.brt.mesh ∧ t.ctr 0xE00088 = s.ctr 0xE00088 + 1 ∧ Frame [.slt, .brt] [] [0xE00088] s t) ∧
  (∀ (s : State) (i j : Fin 512), (∀ b ∈ (s.ingPair i j).bursts, b.st = .sent → s.slt.slot < b.slot + 3) →
    Leaves (.ackTimeout i j) s) ∧
  ∀ (s : State) (i j : Fin 512) (w : Work) (q : RepReq) (b : IBurst) (g : SegRef), s.slt.work = [w] → w.handed = true →
    w.reps = [q] → q.i = i.val → q.j = j.val →
    (s.ingPair i j).bursts.find? (fun b => decide (b.seq = q.seq ∧ b.st = .failed)) = some b → g ∈ b.segs →
    (∀ reads : List SegRead, (∀ r ∈ reads, r.res = .clean) → Leaves (.retransmitRead i j reads) s) ∧
    After (.retransmitRead i j [{ seg := g.seg, res := .corrected }]) s (fun t =>
      t.ctr (bufReg (chipOf i) 0x800) = s.ctr (bufReg (chipOf i) 0x800) + 1 ∧ t.brt = s.brt ∧
      Frame [.cmd, .flt, .chips] [Reg.CMD_IRQ_PENDING] [bufReg (chipOf i) 0x800, 0x200020] s t) ∧
    (segHold g.seg = false → g.seg ∈ (s.chip (chipOf i)).packet.used →
      After (.retransmitRead i j [{ seg := g.seg, res := .uncorrectable }]) s fun t =>
        t.ctr (bufReg (chipOf i) 0x808) = s.ctr (bufReg (chipOf i) 0x808) + 1 ∧
        t.isPoisoned (chipOf i) g.seg = true ∧
        (∀ y ∈ (t.ingPair i j).bursts, y.seq = q.seq → y.st = .gapAsked) ∧
        Frame [.cmd, .flt, .brt, .chips] [Reg.CMD_IRQ_PENDING]
          [bufReg (chipOf i) 0x808, bufReg (chipOf i) 0x810] s t)

/-- GAP_REQUEST and GAP_TIMEOUT (R240, R242), GAP (R241), CHIPLET_LOSS (R248, R350). -/
def Obligations.GapsAndLoss : Prop :=
  let declared (s t : State) (i j : Nat) (x : EgrPair) : Prop :=
    t.ctr 0xE0008C = s.ctr 0xE0008C + 1 ∧ (t.egrPair i j).gapped = (x.gapSeqs ++ x.gapped).take 8192 ∧
    (s.chipAlive (chipOf i) = true → s.chipAlive (chipOf j) = true →
      .gap i j (x.gapSeqs.map fun q => (q, x.causeOf q)) ∈ t.brt.mesh)
  (∀ (s : State) (i j : Fin 512) (seq : Nat) (c : GapCause) (rest : List Msg),
    Oldest (fun x => ∃ a b, x = .gapReq i j a b) s.brt.mesh (.gapReq i j seq c) rest →
    (s.egrPair i j).missing seq = true → (s.egrPair i j).holds (s.egrPair i j).e = false →
    After (.gapRequest i j) s fun t =>
      let x := s.egrPair i j
      declared s t i j { x with causes := x.causes ++ [(seq, c)] } ∧
      (t.egrPair i j).e = (x.e + x.gapSeqs.length) % 65536 ∧ (t.egrPair i j).held = x.held ∧
      OnlyParts [.regs, .ctrs, .cmd, .brt, .pkts, .chips] s t) ∧
  (∀ (s : State) (i j : Fin 512) (seq : Nat) (c : GapCause) (rest : List Msg),
    Oldest (fun x => ∃ a b, x = .gapReq i j a b) s.brt.mesh (.gapReq i j seq c) rest →
    (s.egrPair i j).missing seq = true → (s.egrPair i j).holds (s.egrPair i j).e = true →
    After (.gapRequest i j) s fun t =>
      t.brt.mesh = rest ∧ seq ∈ (t.egrPair i j).gapDue ∧
      (t.egrPair i j).causes = (s.egrPair i j).causes ++ [(seq, c)] ∧ (t.egrPair i j).e = (s.egrPair i j).e ∧
      Frame [.brt] [] [] s t) ∧
  (∀ (s : State) (i j : Fin 512) (seq : Nat) (c : GapCause) (rest : List Msg),
    Oldest (fun x => ∃ a b, x = .gapReq i j a b) s.brt.mesh (.gapReq i j seq c) rest →
    (s.egrPair i j).missing seq = false →
    After (.gapRequest i j) s fun t =>
      let x := s.egrPair i j
      (seq ∈ x.gapped → x.holds seq = false → t = { s with brt := { s.brt with mesh := rest } }) ∧
      (seq ∉ x.gapped ∨ x.holds seq = true →
        t.brt.mesh = rest ++ (if s.chipAlive (chipOf i) && s.chipAlive (chipOf j) then [.ack i j seq] else [])) ∧
      t.egrPair i j = x ∧ Frame [.brt] [] [] s t) ∧
  (∀ (s : State) (i j : Fin 512) (p : Nat × Nat),
    (s.egrPair i j).learned.find? (fun p => (s.egrPair i j).missing p.1 && decide (p.2 + gapLimit ≤ s.gapNow)) = some p →
    (s.egrPair i j).holds (s.egrPair i j).e = false →
    After (.gapTimeout i j) s fun t =>
      declared s t i j (s.egrPair i j) ∧ OnlyParts [.regs, .ctrs, .cmd, .brt, .pkts, .ports, .chips] s t) ∧
  (∀ (s : State) (i j : Fin 512) (p : Nat × Nat),
    (s.egrPair i j).learned.find? (fun p => (s.egrPair i j).missing p.1 && decide (p.2 + gapLimit ≤ s.gapNow)) = some p →
    (s.egrPair i j).holds (s.egrPair i j).e = true →
    (∀ b ∈ (s.egrPair i j).held, b.seq = (s.egrPair i j).e → b.passed = false) →
    After (.gapTimeout i j) s fun t =>
      p.1 ∈ (t.egrPair i j).gapDue ∧ (t.egrPair i j).e = (s.egrPair i j).e ∧
      (t.egrPair i j).held = (s.egrPair i j).held ∧ Frame [.brt] [] [] s t) ∧
  (∀ (s : State) (i j : Fin 512), (∀ p ∈ (s.egrPair i j).learned, s.gapNow < p.2 + 16000000) →
    Leaves (.gapTimeout i j) s) ∧
  (∀ (s : State) (i j : Fin 512) (qs : List (Nat × GapCause)) (rest : List Msg),
    Oldest (fun x => ∃ a, x = .gap i j a) s.brt.mesh (.gap i j qs) rest →
    After (.gap i j) s fun t =>
      (t.ingPair i j).bursts = (s.ingPair i j).bursts.filter (fun b => qs.all fun q => decide (q.1 ≠ b.seq)) ∧
      (∀ q ∈ qs, ∀ b, (s.ingPair i j).bursts.find? (fun b => decide (b.seq = q.1)) = some b →
        ∀ g ∈ b.segs, ∀ p, s.pkt g.pkt = some p → p.moved = false → t.pkt g.pkt = none) ∧
      Frame [.slt, .brt, .pkts, .chips] [] [] s t) ∧
  (∀ (s : State) (c : Fin 16), s.chipOn c = false → (s.chip c).lost = false →
    After (.chipletLoss c) s fun t =>
      t.ledger c = (s.brt.mirror[c]).apply (.discard drDomainLoss (s.brt.mirror[c]).resident) ∧
      (t.ledger c).resident = 0 ∧ t.brt.mirror[c] = t.ledger c ∧ t.brt.mirrored.getLsbD c = true ∧
      (t.chip c).lost = true ∧ (t.chip c).voq = [] ∧
      (∀ d : Fin 16, d ≠ c → t.ledger d = s.ledger d) ∧
      (∀ n p, s.pkt n = some p → p.at c = true → t.pkt n = none) ∧
      t.flt.sent = s.flt.sent ++
        [{ code := faultCode fbChip (512 + c), cls := 2, sec := s.tim.dt.sec, ns := s.tim.dt.ns }] ∧
      OnlyParts [.ctrs, .flt, .brt, .pkts, .chips] s t) ∧
  ∀ (s : State) (c : Fin 16), s.chipOn c = true ∨ (s.chip c).lost = true → Leaves (.chipletLoss c) s

/-- SNAPSHOT_REQ, SNAPSHOT_LATCH (R250, R349), PHASE_READ (R225). -/
def Obligations.SnapshotsLatch : Prop :=
  (∀ (s : State) (p : CmdPort) (v : Word), Permitted s p Reg.BRT_SNAP_CTRL 1 → s.brt.snapReq = none →
    After (.snapshotReq p v) s fun t =>
      t.brt = { s.brt with snapReq := some s.tim.dt.units } ∧ t.rdBit Reg.BRT_SNAP_CTRL 0 = true ∧
      Frame [.brt] [Reg.BRT_SNAP_CTRL] [] s t) ∧
  (∀ (s : State) (p : CmdPort) (v : Word), Permitted s p Reg.BRT_SNAP_CTRL 1 → s.brt.snapReq ≠ none →
    After (.snapshotReq p v) s fun t =>
      t.brt = s.brt ∧ t.rdBit Reg.BRT_SNAP_CTRL 2 = true ∧
      Frame [.cmd] [Reg.BRT_SNAP_CTRL, Reg.CMD_IRQ_PENDING] [] s t) ∧
  (∀ (s : State) (t0 : Nat), s.brt.snapReq = some t0 → s.slt.running = true →
    t0 + 5120 * 2 ^ 32 ≤ slotUnits s.slt.slot →
    After .snapshotLatch s fun t =>
      t.brt = { s.brt with snap := s.brt.led, credSnap := s.brt.cred, snapReq := none, snapSlot := s.slt.slot } ∧
      t.rdBit Reg.BRT_SNAP_CTRL 0 = false ∧ t.rdBit Reg.BRT_SNAP_CTRL 1 = true ∧
      Frame [.cmd, .brt] [Reg.BRT_SNAP_CTRL, Reg.CMD_IRQ_PENDING] [] s t) ∧
  (∀ s : State, s.brt.snapReq = none ∨ s.slt.running = false → Leaves .snapshotLatch s) ∧
  (∀ (s : State) (t0 : Nat), s.brt.snapReq = some t0 → slotUnits s.slt.slot < t0 + 5120 * 2 ^ 32 →
    Leaves .snapshotLatch s) ∧
  ∀ (s : State) (p : CmdPort) (v : Word), Permitted s p Reg.BRT_PHASE_SEL 1 →
    After (.phaseRead p v) s fun t =>
      t.brt = { s.brt with phaseData := (s.rx (fld v 8 0)).phaseWord (fld v 17 9) } ∧
      Frame [.brt] [Reg.BRT_PHASE_SEL] [] s t

/-- FRAME_RECEIVED (R257, R259, R268, R271, R274, R281; no PTP message) and PAUSE_EXPIRY (R268). -/
def Obligations.FramesReceived : Prop :=
  (∀ (s : State) (k : Fin 512) (f : RxFrame), s.macUp k = false → Leaves (.frameReceived k f) s) ∧
  (∀ (s : State) (k : Fin 512) (f : RxFrame) (i : Nat), s.macUp k = true →
    (i = if f.aborted = true then 4 else if f.fcsGood = false ∨ 0 < f.uncorrected then 1
      else if f.bytes.length < 64 then 2 else if s.maxFrame k < f.bytes.length then 3 else 0) → i ≠ 0 →
    After (.frameReceived k f) s fun t =>
      t.ctr (lanReg k (0x100 + 8 * i)) = s.ctr (lanReg k (0x100 + 8 * i)) + 1 ∧
      t.ctr (lanReg k 0x168) = s.ctr (lanReg k 0x168) + BitVec.ofNat 64 f.corrected ∧
      t.ctr (lanReg k 0x170) = s.ctr (lanReg k 0x170) + BitVec.ofNat 64 f.uncorrected ∧
      t.ctr 0x200020 = s.ctr 0x200020 + BitVec.ofNat 64 f.corrected ∧
      Frame [] [] [lanReg k (0x100 + 8 * i), lanReg k 0x168, lanReg k 0x170, 0x200020] s t) ∧
  (∀ (s : State) (k : Fin 512) (f : RxFrame), s.macUp k = true → f.aborted = false → f.fcsGood = true →
    f.uncorrected = 0 → 64 ≤ f.bytes.length → f.bytes.length ≤ s.maxFrame k → s.cfhMode k = 0 →
    (beAt f.bytes 12 2 ≠ 0x8808 → ptpEvent f.bytes = none → s.inbufBytes k + f.bytes.length ≤ 32768 →
      After (.frameReceived k f) s fun t =>
        t.ctr (lanReg k 0x100) = s.ctr (lanReg k 0x100) + 1 ∧
        t.pkt s.nextPkt = some
          { bytes := f.bytes, rxPort := k
            rx := s.rawStamp f.age f.sub - s.plx k Reg.LAN_PLX_RX f.age - s.skew k f.member f.age } ∧
        t.nextPkt = s.nextPkt + 1 ∧ (t.port k).inbuf = (s.port k).inbuf ++ [s.nextPkt] ∧
        t.ledger (chipOf k) = (s.ledger (chipOf k)).apply .enter ∧
        Frame [.brt, .pkts, .nextPkt, .ports] [] [lanReg k 0x100, lanReg k 0x168, lanReg k 0x170, 0x200020] s t) ∧
    (beAt f.bytes 12 2 ≠ 0x8808 → ptpEvent f.bytes = none → 32768 < s.inbufBytes k + f.bytes.length →
      After (.frameReceived k f) s fun t =>
        t.ctr (lanReg k 0x100) = s.ctr (lanReg k 0x100) + 1 ∧
        t.ledger (chipOf k) = ((s.ledger (chipOf k)).apply .enter).apply (.discard drParseOverrun 1) ∧
        t.ctr (prsReg (chipOf k) 0x878) = s.ctr (prsReg (chipOf k) 0x878) + 1 ∧
        Frame [.cmd, .brt] [Reg.CMD_IRQ_PENDING]
          [lanReg k 0x100, lanReg k 0x168, lanReg k 0x170, 0x200020, prsReg (chipOf k) 0x878] s t) ∧
    (beAt f.bytes 12 2 = 0x8808 → beAt f.bytes 14 2 = 0x0101 → beAt f.bytes 0 6 = 0x0180C2000001 →
      After (.frameReceived k f) s fun t =>
        t.ctr (lanReg k 0x128) = s.ctr (lanReg k 0x128) + 1 ∧
        (∀ q, q < 8 → Sparse.get (fun _ => 0) (t.port k).paused q =
          if bit (s.portCtrl k) 3 = true ∧ beAt f.bytes 16 2 / 2 ^ q % 2 = 1 then beAt f.bytes (18 + 2 * q) 2
          else Sparse.get (fun _ => 0) (s.port k).paused q) ∧
        (∀ j, j ≠ k.val → t.port j = s.port j) ∧
        Frame [.ports] [] [lanReg k 0x100, lanReg k 0x128, lanReg k 0x168, lanReg k 0x170, 0x200020] s t)) ∧
  (∀ (s : State) (k : Fin 512) (f : RxFrame), s.macUp k = true → f.aborted = false → f.fcsGood = true →
    f.uncorrected = 0 → 64 ≤ f.bytes.length → f.bytes.length ≤ s.maxFrame k → s.cfhMode k ≠ 0 →
    (cfhOf f.bytes).ver = 1 → (cfhOf f.bytes).tenant = (s.tenant k).val → (cfhOf f.bytes).type = 1 →
    bit (s.portCtrl k) 10 = false →
    After (.frameReceived k f) s fun t =>
      t.ctr (lanReg k 0x140) = s.ctr (lanReg k 0x140) + 1 ∧
      t.sec = (s.audit 0x04 2 0 (BitVec.ofNat 32 k.val) 0).sec ∧
      Frame [.sec] [] [lanReg k 0x100, lanReg k 0x140, lanReg k 0x168, lanReg k 0x170, 0x200020] s t) ∧
  ∀ (s : State) (k : Fin 512) (q : Fin 8),
    After (.pauseExpiry k q) s fun t =>
      Sparse.get (fun _ => 0) (t.port k).paused q = 0 ∧
      (∀ r, r ≠ q.val → Sparse.get (fun _ => 0) (t.port k).paused r = Sparse.get (fun _ => 0) (s.port k).paused r) ∧
      (∀ j, j ≠ k.val → t.port j = s.port j) ∧ Frame [.ports] [] [] s t

/-- FRAME_TRANSMIT_START (R329, R354, R355), FRAME_SENT (R244, R262, R597), PFC_FRAME_SEND and PFC_REFRESH (R267),
COMMAND_REPLY (R271). -/
def Obligations.FramesSent : Prop :=
  let quanta (f : List Byte) (s : State) (k : Nat) : Prop :=
    f.length = 64 ∧ beAt f 0 6 = 0x0180C2000001 ∧ beAt f 12 2 = 0x8808 ∧ beAt f 14 2 = 0x0101 ∧
    beAt f 16 2 = (s.xoffBits k ||| (s.port k).pfcSent).toNat ∧
    ∀ q, q < 8 → beAt f (18 + 2 * q) 2 = if (s.xoffBits k).getLsbD q = true then s.pfcQuanta k else 0
  (∀ (s : State) (k : Fin 512) (sub : Fin 80) (m : Fin 8) (reads : List SegRead) (q : Pick) (p : Pkt),
    s.isLead k = true → s.mayStart k = true → s.pfcOwed k = false → (s.countGateWaits k).pick k = some q →
    s.pkt q.head.pkt = some p → q.head.port < 512 → (s.port (s.lead q.head.port)).gates.on = false →
    (∀ r ∈ reads, r.res = .clean) →
    ((∀ g ∈ q.head.segs, s.isPoisoned (chipOf k) g.seg = false) →
      After (.frameTransmitStart k sub m reads) s fun t =>
        (t.port k).tx = some { pkt := q.head.pkt, segs := q.head.segs, queue := q.head.port } ∧
        (p.cfhKept = false → ptpEvent p.bytes = none → (t.port k).lastFrame = refcs p.bytes) ∧
        t.pkts = s.pkts ∧ t.brt = s.brt ∧
        t.queue q.head.port q.head.cls q.head.fg = (s.queue q.head.port q.head.cls q.head.fg).tail ∧
        (∀ j, j ≠ k.val → t.port j = s.port j) ∧
        OnlyParts [.regs, .ctrs, .cmd, .tim, .ports, .chips] s t) ∧
    ((∃ g ∈ q.head.segs, s.isPoisoned (chipOf k) g.seg = true) →
      After (.frameTransmitStart k sub m reads) s fun t =>
        (t.port k).tx = (s.port k).tx ∧ t.pkt q.head.pkt = none ∧
        t.ledger (chipOf q.head.port) = (s.ledger (chipOf q.head.port)).apply (.discard drDramEcc 1) ∧
        t.queue q.head.port q.head.cls q.head.fg = (s.queue q.head.port q.head.cls q.head.fg).tail ∧
        OnlyParts [.regs, .ctrs, .cmd, .brt, .pkts, .ports, .chips] s t)) ∧
  (∀ (s : State) (k : Fin 512) (sub : Fin 80) (m : Fin 8) (reads : List SegRead),
    s.isLead k = false ∨ s.mayStart k = false ∨ s.pfcOwed k = true → Leaves (.frameTransmitStart k sub m reads) s) ∧
  (∀ (s : State) (k : Fin 512) (x : TxFrame), (s.port k).tx = some x →
    After (.frameSent k) s fun t =>
      (t.port k).tx = none ∧ t.pkt x.pkt = none ∧ t.ctr (lanReg k 0x150) = s.ctr (lanReg k 0x150) + 1 ∧
      t.crossing (txCrossing k) = (s.crossing (txCrossing k)).launch 1 ∧
      (s.flt.safe = false → t.port k = { s.port k with tx := none }) ∧
      (s.flt.safe = true → s.isLead k = true → s.portActs k = true → s.pfcOwed k = false → (t.port k).txLf = true) ∧
      (∀ j, j ≠ k.val → t.port j = s.port j) ∧
      Frame [.pkts, .ports, .chips, .xing] [] [lanReg k 0x150] s t) ∧
  (∀ (s : State) (k : Fin 512), (s.port k).tx = none → Leaves (.frameSent k) s) ∧
  (∀ (s : State) (k : Fin 512), s.pfcMayStart k = true → s.pfcOwed k = true →
    After (.pfcFrameSend k) s fun t =>
      (t.port k).pfcSent = s.xoffBits k ∧ quanta (t.port k).lastFrame s k ∧
      t.ctr (lanReg k 0x158) = s.ctr (lanReg k 0x158) + 1 ∧
      (t.port k).txLf = s.flt.safe ∧ (∀ j, j ≠ k.val → t.port j = s.port j) ∧
      Frame [.freeCtr, .ports] [] [lanReg k 0x158] s t) ∧
  (∀ (s : State) (k : Fin 512), s.pfcMayStart k = true → s.pfcTxEn k = true → (s.port k).pfcSent ≠ 0 →
    s.pfcOwed k = false →
    After (.pfcRefresh k) s fun t =>
      t.port k = { s.port k with lastFrame := (t.port k).lastFrame } ∧ quanta (t.port k).lastFrame s k ∧
      (∀ j, j ≠ k.val → t.port j = s.port j) ∧
      t.ctr (lanReg k 0x158) = s.ctr (lanReg k 0x158) + 1 ∧ Frame [.freeCtr, .ports] [] [lanReg k 0x158] s t) ∧
  (∀ (s : State) (k : Fin 512), s.pfcOwed k = false → Leaves (.pfcFrameSend k) s) ∧
  (∀ (s : State) (k : Fin 512), s.pfcOwed k = true ∨ (s.port k).pfcSent = 0 → Leaves (.pfcRefresh k) s) ∧
  (∀ (s : State) (k : Fin 512) (f : List Byte) (rest : List (List Byte)), (s.port k).replies = f :: rest →
    s.isLead k = true → s.mayStart k = true → s.pfcOwed k = false → s.replyHeld f = false →
    After (.commandReply k) s fun t =>
      t.port k = { s.port k with replies := rest, lastFrame := f } ∧ (∀ j, j ≠ k.val → t.port j = s.port j) ∧
      t.ctr (lanReg k 0x160) = s.ctr (lanReg k 0x160) + 1 ∧ Frame [.ports] [] [lanReg k 0x160] s t) ∧
  ∀ (s : State) (k : Fin 512), (s.port k).replies = [] → Leaves (.commandReply k) s

/-- LINK_UP, TRAINING_RETRY, AUTO_NEGOTIATION_DONE and RETRAIN (R258, R278), LINK_DOWN (R259), LINK_FAULT_RECEIVED and
LINK_FAULT_END (R261). -/
def Obligations.LinksTrain : Prop :=
  (∀ (s : State) (k : Fin 512), s.isLead k = true → s.portActs k = true →
    ((s.port k).train = 2 → After (.linkUp k) s fun t =>
      t.port k = { s.port k with linkUp := true, train := 3, txLf := (t.port k).txLf } ∧
      (s.flt.safe = false → (t.port k).txLf = (s.port k).txLf) ∧
      (s.flt.safe = true → (s.port k).tx = none → s.pfcOwed k = false → (t.port k).txLf = true) ∧
      (∀ j, j ≠ k.val → t.port j = s.port j) ∧
      (∀ q l, (s.chip (chipOf k)).remap = some (q, l, true) → q.val = k.val % 32 → (t.chip (chipOf k)).remap = none) ∧
      ((∀ q l, (s.chip (chipOf k)).remap = some (q, l, true) → q.val ≠ k.val % 32) → t.chips = s.chips) ∧
      Frame [.ports, .chips] [] [] s t) ∧
    ((s.port k).train = 2 → (s.port k).linkUp = false → After (.trainingRetry k) s fun t =>
      (t.port k).train = 2 ∧ (∀ j, t.port j = s.port j) ∧ Frame [.ports] [] [] s t) ∧
    ((s.port k).train = 1 → After (.autoNegotiationDone k) s fun t =>
      t.port k = { s.port k with train := 2 } ∧ (∀ j, j ≠ k.val → t.port j = s.port j) ∧ Frame [.ports] [] [] s t)) ∧
  (∀ (s : State) (k : Fin 512), (s.port k).train ≠ 2 → Leaves (.linkUp k) s ∧ Leaves (.trainingRetry k) s) ∧
  (∀ (s : State) (k : Fin 512), (s.port k).train ≠ 1 → Leaves (.autoNegotiationDone k) s) ∧
  (∀ (s : State) (k : Fin 512) (x : Bool), s.macUp k = true →
    (After (.linkDown k x) s fun t =>
      t.port k = (s.port k).off (if s.remapping k = true then 0 else if bit (s.portCtrl k) 1 = true then 1 else 2) ∧
      (t.port k).linkUp = false ∧ (∀ j, j ≠ k.val → t.port j = s.port j) ∧
      t.ctr (lanReg k 0x120) = s.ctr (lanReg k 0x120) + (if x then 1 else 0) ∧
      Frame [.ports] [] [lanReg k 0x120] s t) ∧
    (After (.linkFaultReceived k x) s fun t =>
      t.port k = { s.port k with
        rxLf := x || (s.port k).rxLf, rxRf := !x || (s.port k).rxRf, txLf := (t.port k).txLf } ∧
      (s.flt.safe = false → (t.port k).txLf = (s.port k).txLf) ∧
      (s.flt.safe = true → (s.port k).tx = none → (t.port k).txLf = true) ∧
      (∀ j, j ≠ k.val → t.port j = s.port j) ∧ Frame [.ports] [] [] s t) ∧
    After (.linkFaultEnd k x) s fun t =>
      t.port k = (if x then { s.port k with rxLf := false } else { s.port k with rxRf := false }) ∧
      (∀ j, j ≠ k.val → t.port j = s.port j) ∧ Frame [.ports] [] [] s t) ∧
  (∀ (s : State) (k : Fin 512) (x : Bool), s.macUp k = false →
    Leaves (.linkDown k x) s ∧ Leaves (.linkFaultReceived k x) s ∧ Leaves (.linkFaultEnd k x) s) ∧
  ∀ (s : State) (p : CmdPort) (k : Fin 512) (v : Word), Permitted s p (lanReg k Reg.LAN_PORT_CTRL) 1 →
    let a := lanReg k Reg.LAN_PORT_CTRL
    let u := s.plainWrite p a (withBit v 5)
    let only (t : State) : Prop :=
      (∀ b, b < 32 → b ≠ 5 → t.rdBit a b = u.rdBit a b) ∧ (∀ j, j ≠ k.val → t.port j = s.port j) ∧ t.ctrs = u.ctrs ∧
      t.sec = u.sec ∧ OnlyRegs [a] s t ∧ OnlyParts [.regs, .ctrs, .sec, .ports] s t
    (s.isLead k = false → Leaves (.retrain p k v) s) ∧
    (s.isLead k = true → u.portActs k = true → s.remapping k = false → (s.port k).train ≠ 0 →
      After (.retrain p k v) s fun t => t.rdBit a 5 = false ∧ t.port k = (s.port k).off 2 ∧ only t) ∧
    (s.isLead k = true → u.portActs k = true → s.remapping k = false → (s.port k).train = 0 →
      After (.retrain p k v) s fun t =>
        t.rdBit a 5 = false ∧ t.port k = { s.port k with train := if bit (u.portCtrl k) 1 = true then 1 else 2 } ∧ only t) ∧
    (s.isLead k = true → u.portActs k = true → s.remapping k = true →
      After (.retrain p k v) s fun t => t.rdBit a 5 = true ∧ t.port k = s.port k ∧ only t) ∧
    (s.isLead k = true → u.portActs k = false →
      After (.retrain p k v) s fun t => t.rdBit a 5 = true ∧ t.port k = (s.port k).off 0 ∧ only t)

/-- LANE_REMAP and REMAP_SWITCH (R263, R264, R265). -/
def Obligations.LanesRemapped : Prop :=
  (∀ (s : State) (p : CmdPort) (c : Fin 16) (v : Word) (cut : Bool), Permitted s p (lanChip c Reg.LAN_REMAP_REQ) 4 →
    let a := lanChip c Reg.LAN_REMAP_REQ
    let k := 32 * c.val + fld v 4 0
    (s.isReserve c (fld v 12 8) = true → s.bundleSize k = 1 → (s.chip c).remap = none →
      After (.laneRemap p c v cut) s fun t =>
        (t.chip c).remap = some (Fin.ofNat 32 (fld v 4 0), Fin.ofNat 32 (fld v 12 8), false) ∧
        t.port k = (s.port k).off 0 ∧ (∀ j, j ≠ k → t.port j = s.port j) ∧
        t.ctr (lanReg k 0x120) = s.ctr (lanReg k 0x120) + (if cut && s.macUp k then 1 else 0) ∧
        Frame [.ports, .chips] [a] [lanReg k 0x120] s t) ∧
    (s.isReserve c (fld v 12 8) = false ∨ s.bundleSize k ≠ 1 ∨ (s.chip c).remap ≠ none →
      After (.laneRemap p c v cut) s fun t =>
        (s.isReserve c (fld v 12 8) = false → t.rdBit a 28 = true) ∧
        (s.bundleSize k ≠ 1 → t.rdBit a 29 = true) ∧ ((s.chip c).remap ≠ none → t.rdBit a 30 = true) ∧
        Frame [] [a] [] s t)) ∧
  (∀ (s : State) (c : Fin 16) (q l : Fin 32), (s.chip c).remap = some (q, l, false) →
    After (.remapSwitch c) s fun t =>
      let k := 32 * c.val + q.val
      t.laneOf k = l ∧ (t.chip c).laneFailed.getLsbD (s.laneOf k) = true ∧
      (∀ i, i ≠ s.laneOf k → (t.chip c).laneFailed.getLsbD i = (s.chip c).laneFailed.getLsbD i) ∧
      (if s.portActs k = true then
        (t.chip c).remap = some (q, l, true) ∧
        ((s.port k).train = 0 → (t.port k).train = if bit (s.portCtrl k) 1 = true then 1 else 2)
      else (t.chip c).remap = none ∧ (t.port k).train = (s.port k).train) ∧
      (∀ j, j ≠ k → t.port j = s.port j) ∧ (∀ d : Fin 16, d ≠ c → t.chip d = s.chip d) ∧
      Frame [.ports, .chips] [lanReg k Reg.LAN_PORT_CTRL] [] s t) ∧
  ∀ (s : State) (c : Fin 16), (∀ q l, (s.chip c).remap ≠ some (q, l, false)) → Leaves (.remapSwitch c) s

/-- PARSE_DISPATCH (R282), PARSE_PASS_END (R283, R284, R289), LOOKUP (R288, R293, R297, R302). No packet that waits
holds an exception entry's result. -/
def Obligations.PacketsClassified : Prop :=
  (∀ (s : State) (c : Fin 16) (e : Fin 256) (lp : Fin 32), s.chipOn c = true → (s.chip c).engine e = none →
    (∀ n rest, (s.chip c).recirc = n :: rest → After (.parseDispatch c e lp) s fun t =>
      t.chip c = { s.chip c with recirc := rest, engines := (t.chip c).engines } ∧ (t.chip c).engine e = some n ∧
      (∀ f, f ≠ e.val → (t.chip c).engine f = (s.chip c).engine f) ∧
      t.ctr (prsReg c 0x808) = s.ctr (prsReg c 0x808) + 1 ∧ Frame [.chips] [] [prsReg c 0x808] s t) ∧
    ∀ n rest p, (s.chip c).recirc = [] → s.img.phase ≠ .apply → s.img.phase ≠ .switching →
      (s.port (32 * c.val + lp.val)).inbuf = n :: rest → s.pkt n = some p →
      After (.parseDispatch c e lp) s fun t =>
        (t.port (32 * c.val + lp.val)).inbuf = rest ∧ (t.chip c).engine e = some n ∧
        t.pkt n = some { p with ucode := some (s.chip c).ucActive } ∧
        (t.chip c).ucPinned[(s.chip c).ucActive] = (s.chip c).ucPinned[(s.chip c).ucActive] + 1 ∧
        t.ctr (prsReg c 0x800) = s.ctr (prsReg c 0x800) + 1 ∧
        (∀ j, j ≠ 32 * c.val + lp.val → t.port j = s.port j) ∧
        Frame [.pkts, .ports, .chips] [] [prsReg c 0x800] s t) ∧
  (∀ (s : State) (c : Fin 16) (e : Fin 256) (lp : Fin 32),
    s.chipOn c = false ∨ (s.chip c).engine e ≠ none ∨
      ((s.chip c).recirc = [] ∧ (s.port (32 * c.val + lp.val)).inbuf = []) → Leaves (.parseDispatch c e lp) s) ∧
  (∀ (s : State) (c : Fin 16) (e : Fin 256) (n : Nat) (p : Pkt), (s.chip c).engine e = some n → s.pkt n = some p →
    p.exc = none → (∀ m ∈ (s.chip c).lookups, s.heldResult m = none) →
    let r := Pass.run (if p.ucode = some 1 then (s.chip c).uc1 else (s.chip c).uc0) p.frame (p.frame.length - 4) 64
      { key := s.withMeta p (List.replicate 64 0) }
    let p1 := { p with fParse := p.fParse || r.limit.isSome, fLen := p.fLen || r.len }
    let freed (t : State) : Prop := (t.chip c).engine e = none ∧ ∀ f, f ≠ e.val → (t.chip c).engine f = (s.chip c).engine f
    (r.limit = none → (r.len || (decide (p.pass = 0) && p.fLen)) = false →
      After (.parsePassEnd c e) s fun t =>
        freed t ∧ t.pkt n = some { p1 with key := s.withMeta p1 r.key } ∧
        t.chip c = { s.chip c with engines := (t.chip c).engines, lookups := (s.chip c).lookups ++ [n] } ∧
        Frame [.pkts, .chips] [] [] s t) ∧
    ∀ l, r.limit = some l → s.excAction c 0 = 0 →
      After (.parsePassEnd c e) s fun t =>
        freed t ∧ t.ctr (prsReg c 0x828) = s.ctr (prsReg c 0x828) + 1 ∧
        t.ctr (prsReg c l.off) = s.ctr (prsReg c l.off) + 1 ∧ t.pkt n = none ∧
        t.ledger c = (s.ledger c).apply (.discard drParseLimit 1) ∧ (t.chip c).lookups = (s.chip c).lookups ∧
        OnlyParts [.regs, .ctrs, .cmd, .brt, .pkts, .chips] s t) ∧
  (∀ (s : State) (c : Fin 16) (e : Fin 256), (s.chip c).engine e = none → Leaves (.parsePassEnd c e) s) ∧
  (∀ (s : State) (c : Fin 16) (ecc : List Nat) (n : Nat) (p : Pkt), s.nextLookup c = some n → s.pkt n = some p →
    (∀ m ∈ (s.chip c).lookups, s.heldResult m = none) →
    let q := (s.setChip c { (s.chip c).dropIdleLines with lookups := (s.chip c).lookups.erase n }).pinBank c n p
    let h := (q.1.chip c).hdr (q.2.bank.getD 0)
    let w := Walk.tree c (q.2.bank.getD 0) ecc h q.2.key 25 h.root { s := q.1.bump (prsReg c 0x810) 1, v := 0 }
    let made (t : State) : Prop :=
      t.ctr (prsReg c 0x810) = s.ctr (prsReg c 0x810) + 1 ∧ (t.chip c).lookups = (s.chip c).lookups.erase n ∧
      OnlyParts [.freeCtr, .regs, .ctrs, .cmd, .flt, .brt, .pkts, .chips] s t
    let dropped (t : State) (r : Nat) : Prop := t.pkt n = none ∧ t.ledger c = (s.ledger c).apply (.discard r 1) ∧ made t
    (∀ i tag w13 w14, w.1 = .rule i tag w13 w14 →
      (fld w14 5 4 = 1 → After (.lookup c ecc) s fun t => dropped t drRuleDiscard) ∧
      (fld w14 5 4 = 2 → p.pass = 0 → After (.lookup c ecc) s fun t =>
        t.pkt n = some { q.2 with pass := 1, ctx := fld w14 21 6 } ∧ (t.chip c).recirc = (s.chip c).recirc ++ [n] ∧
        made t)) ∧
    (w.1 = .dflt → fld h.def1 5 4 = 1 → After (.lookup c ecc) s fun t => dropped t drRuleDiscard) ∧
    ∀ x, w.1 = .exc x → s.excAction c x = 0 → After (.lookup c ecc) s fun t => dropped t (8 + x)) ∧
  ∀ (s : State) (c : Fin 16) (ecc : List Nat), s.nextLookup c = none → Leaves (.lookup c ecc) s

/-- BANK_SWAP_REQ (R299, R300), RULE_BANK_SWAP (R300), UCODE_SWAP (R490). -/
def Obligations.BanksSwap : Prop :=
  let swapped (s t : State) (c : Fin 16) : Prop :=
    (t.chip c).active = 1 - (s.chip c).active ∧ (t.chip c).epoch = (s.chip c).epoch + 1 ∧ (t.chip c).swap = none ∧
    (t.chip c).hdr (1 - (s.chip c).active) = s.headerAt c (1 - (s.chip c).active).val ∧
    (t.chip c).hdr (s.chip c).active = (s.chip c).hdr (s.chip c).active ∧ (t.chip c).pinned = (s.chip c).pinned ∧
    t.rdBit (prsReg c Reg.PRS_BANK_CTRL) 0 = false
  (∀ (s : State) (p : CmdPort) (c : Fin 16) (v : Word), Permitted s p (prsReg c Reg.PRS_BANK_CTRL) 1 →
    let a := prsReg c Reg.PRS_BANK_CTRL
    let b := 1 - (s.chip c).active
    let empty := (s.headerAt c b.val).valid = false
    let pinned := 0 < (s.chip c).pins b.val
    let late := bit v 1 = true ∧ s.prsSwapAt c ≤ s.slotNow + 2
    let bad := (s.chip c).tblPoisoned.contains (s.hdrUnit c b.val)
    let only (t : State) : Prop :=
      (∀ d : Fin 16, d ≠ c → t.chip d = s.chip d) ∧ Frame [.cmd, .chips] [a, Reg.CMD_IRQ_PENDING] [] s t
    (bad = false → ¬empty → (s.chip c).swap = none → ¬pinned → ¬late → bit v 1 = true →
      After (.bankSwapReq p c v) s fun t =>
        t.chip c = { s.chip c with swap := some (some (s.prsSwapAt c)) } ∧ t.rdBit a 0 = true ∧ only t) ∧
    (bad = false → ¬empty → (s.chip c).swap = none → ¬pinned → bit v 1 = false →
      After (.bankSwapReq p c v) s fun t => swapped s t c ∧ only t) ∧
    (bad = false → empty ∨ (s.chip c).swap ≠ none ∨ pinned ∨ late →
      After (.bankSwapReq p c v) s fun t =>
        (empty → t.rdBit a 8 = true) ∧ ((s.chip c).swap ≠ none → t.rdBit a 9 = true) ∧ (pinned → t.rdBit a 10 = true) ∧
        (late → t.rdBit a 11 = true) ∧ t.chips = s.chips ∧ only t) ∧
    (bad = true → After (.bankSwapReq p c v) s fun t =>
      (∃ more, t.flt.sent = s.flt.sent ++
        { code := faultCode fbChip c, cls := 1, sec := s.tim.dt.sec, ns := s.tim.dt.ns } :: more) ∧
      ((s.chip c).swap ≠ none → t.rdBit a 9 = true) ∧ (pinned → t.rdBit a 10 = true) ∧
      (late → t.rdBit a 11 = true) ∧ (∀ d : Fin 16, d ≠ c → t.chip d = s.chip d) ∧
      Frame [.freeCtr, .cmd, .flt, .chips] [a, Reg.CMD_IRQ_PENDING] [] s t)) ∧
  (∀ (s : State) (c : Fin 16) (n : Nat), (s.chip c).swap = some (some n) → n ≤ s.slotNow → s.chipOn c = true →
    (s.chip c).tblPoisoned.contains (s.hdrUnit c (1 - (s.chip c).active).val) = false →
    After (.ruleBankSwap c) s fun t =>
      swapped s t c ∧ (∀ d : Fin 16, d ≠ c → t.chip d = s.chip d) ∧
      Frame [.cmd, .chips] [prsReg c Reg.PRS_BANK_CTRL, Reg.CMD_IRQ_PENDING] [] s t) ∧
  (∀ (s : State) (c : Fin 16), (s.chip c).swap = none ∨ (∃ n, (s.chip c).swap = some (some n) ∧ s.slotNow < n) →
    Leaves (.ruleBankSwap c) s) ∧
  (∀ (s : State) (c : Fin 16) (n : Nat), (s.chip c).ucSwap = some n → n ≤ s.slotNow → s.chipOn c = true →
    After (.ucodeSwap c) s fun t =>
      t.chip c = { s.chip c with ucActive := 1 - (s.chip c).ucActive, ucSwap := none } ∧
      (∀ d : Fin 16, d ≠ c → t.chip d = s.chip d) ∧ Frame [.chips] [] [] s t) ∧
  ∀ (s : State) (c : Fin 16), (s.chip c).ucSwap = none ∨ (∃ n, (s.chip c).ucSwap = some n ∧ s.slotNow < n) →
    Leaves (.ucodeSwap c) s

/-- TBW_WRITE (R301, R500, R506, R518) and TRACE_ARM (R296). -/
def Obligations.TablesWritten : Prop :=
  (∀ (s : State) (p : CmdPort) (c : Fin 16) (off : BitVec 25) (v : Word), s.allowed p 1 = true → s.chipOn c = true →
    let a := s.tblAddr c (off.toNat - off.toNat % 4)
    a < 4294967296 →
    (s.tblOpen c (a / 64) = true → After (.tbwWrite p c off v) s fun t =>
      (∀ i, i < 4 → t.tblByte c (a + i) = byteOf v i) ∧
      (∀ x, x < a ∨ a + 4 ≤ x → t.tblByte c x = s.tblByte c x) ∧
      t.chip c = { s.chip c with tbl := (t.chip c).tbl, tblPoisoned := (t.chip c).tblPoisoned } ∧
      (∀ u, u ∈ (t.chip c).tblPoisoned ↔ u ∈ (s.chip c).tblPoisoned ∧ u ≠ a / 64) ∧
      (∀ d : Fin 16, d ≠ c → t.chip d = s.chip d) ∧ Frame [.chips] [] [] s t) ∧
    (s.tblOpen c (a / 64) = false → After (.tbwWrite p c off v) s fun t =>
      t.rdBit (prsReg c Reg.PRS_BANK_CTRL) 12 = true ∧ Frame [] [prsReg c Reg.PRS_BANK_CTRL] [] s t)) ∧
  (∀ (s : State) (p : CmdPort) (c : Fin 16) (off : BitVec 25) (v : Word), s.allowed p 1 = true → s.chipOn c = true →
    4294967296 ≤ s.tblAddr c (off.toNat - off.toNat % 4) → Leaves (.tbwWrite p c off v) s) ∧
  (∀ (s : State) (p : CmdPort) (c : Fin 16) (off : BitVec 25) (v : Word), s.allowed p 1 = false →
    After (.tbwWrite p c off v) s fun t =>
      t.ctr (0x100080 + 4 * portNum p) = s.ctr (0x100080 + 4 * portNum p) + 1 ∧ t.chips = s.chips ∧
      t.rd 0x100064 = BitVec.ofNat 32 (0x10000000 + 0x2000000 * c.val + off.toNat) ∧
      Frame [.cmd, .sec] [0x100060, 0x100064, Reg.CMD_IRQ_PENDING] [0x100080 + 4 * portNum p] s t) ∧
  (∀ (s : State) (p : CmdPort) (c : Fin 16) (off : BitVec 25) (v : Word), s.allowed p 1 = true → s.chipOn c = false →
    After (.tbwWrite p c off v) s fun t =>
      t.ctr 0x100094 = s.ctr 0x100094 + 1 ∧ Frame [] [] [0x100094] s t) ∧
  ∀ (s : State) (p : CmdPort) (c : Fin 16) (v : Word), Permitted s p (prsReg c Reg.PRS_TRACE_SEL) 1 →
    After (.traceArm p c v) s fun t =>
      t.chip c = { s.chip c with trace := true } ∧ t.rdBit (prsReg c Reg.PRS_TRACE_SEL) 31 = true ∧
      t.rdFld (prsReg c Reg.PRS_TRACE_SEL) 4 0 = fld v 4 0 ∧
      (∀ d : Fin 16, d ≠ c → t.chip d = s.chip d) ∧ Frame [.chips] [prsReg c Reg.PRS_TRACE_SEL] [] s t

/-- REFILL (R314), METER_WRITE and METER_READ (R313), METER_PROFILE_WRITE and METER_PROFILE_HOLD (R313, R316). -/
def Obligations.MetersManaged : Prop :=
  let selected (s t : State) (c : Fin 16) (w : Word) : Prop :=
    let x := s.chip c
    let m := fld w 17 0
    let y0 := x.meter m
    let p0 := x.prof y0.prof
    let y1 := if bit w 29 = true then
        { y0 with tok1 := p0.cbs * 256, tok2 := p0.ebs * 256, cycle := s.cycle, pend := [] } else y0
    let q := s.rdFld (mtrReg c Reg.MTR_METER_DATA) 9 0
    let y2 := if bit w 30 = true then { y1 with prof := q, pend := y1.pend ++ [(s.cycle, p0, x.prof q)] } else y1
    (t.chip c).meter m = y2 ∧ (∀ i, i ≠ m → (t.chip c).meter i = x.meter i) ∧ (t.chip c).profs = x.profs ∧
    (bit w 31 = true → (t.chip c).meterData =
      #v[BitVec.ofNat 32 y2.prof, BitVec.ofNat 32 y2.tok1, BitVec.ofNat 32 y2.tok2, BitVec.ofNat 32 y2.last]) ∧
    (bit w 31 = false → (t.chip c).meterData = x.meterData) ∧ (∀ d : Fin 16, d ≠ c → t.chip d = s.chip d) ∧
    Frame [.chips] [mtrReg c Reg.MTR_METER_SEL, mtrReg c Reg.MTR_METER_DATA] [] s t
  (∀ (s : State) (p : CmdPort) (c : Fin 16) (v : Word), Permitted s p (mtrReg c Reg.MTR_METER_SEL) 1 →
    After (.refill p c v) s (fun t => selected s t c (withBit v 29)) ∧
    After (.meterWrite p c v) s (fun t => selected s t c (withBit v 30)) ∧
    After (.meterRead p c v) s (fun t => selected s t c (withBit v 31))) ∧
  (∀ (s : State) (p : CmdPort) (c : Fin 16) (m : Fin 1024) (v : Word),
    Permitted s p (mtrReg c (Reg.MTR_PROFILE0 + 0x20 * m.val)) 1 →
    After (.meterProfileWrite p c m v) s fun t =>
      let a := mtrReg c (Reg.MTR_PROFILE0 + 0x20 * m.val)
      let new := (t.chip c).prof m
      new.w0 = t.rd a ∧ new.cir = (s.rd (a + 4)).toNat ∧ new.eir = (s.rd (a + 8)).toNat ∧
      new.cbs = fld (s.rd (a + 12)) 23 0 ∧ new.ebs = fld (s.rd (a + 16)) 23 0 ∧
      (∀ q, q ≠ m.val → (t.chip c).prof q = (s.chip c).prof q) ∧
      (∀ i, let y := (s.chip c).meter i
        let z := (t.chip c).meter i
        if y.prof = m.val ∧ ((s.chip c).prof m).reshapes new = true then
          z = { y with pend := y.pend ++ [(s.cycle, (s.chip c).prof m, new)] } ∧
          z.settle = { ((y.settle.earn ((s.chip c).prof m) s.cycle).cap new) with pend := [] } ∧
          z.settle.tok1 ≤ new.cbs * 256 ∧ z.settle.tok2 ≤ new.ebs * 256
        else z = y) ∧
      (∀ d : Fin 16, d ≠ c → t.chip d = s.chip d) ∧ Frame [.chips] [a] [] s t) ∧
  ∀ (s : State) (p : CmdPort) (c : Fin 16) (m : Fin 1024) (w : Fin 4) (v : Word),
    Permitted s p (mtrReg c (Reg.MTR_PROFILE1 + 0x20 * m.val + 4 * w.val)) 1 →
    After (.meterProfileHold p c m w v) s fun t =>
      t = s.plainWrite p (mtrReg c (Reg.MTR_PROFILE1 + 0x20 * m.val + 4 * w.val)) v ∧
      Frame [] [mtrReg c (Reg.MTR_PROFILE1 + 0x20 * m.val + 4 * w.val)] [] s t

/-- SCRUB_READ (R330 to R332, R336), PCH_REPLACE and PCH_COPY_DONE (R334, R335, R338). -/
def Obligations.StackMaintained : Prop :=
  (∀ (s : State) (c : Fin 16), s.chipOn c = true → (s.chip c).stackUp = true →
    s.rdBit (bufReg c Reg.BUF_CTRL) 0 = true →
    (∀ g, Leaves (.scrubRead c (.segment g) .clean) s) ∧
    (∀ g, After (.scrubRead c (.segment g) .corrected) s fun t =>
      t.ctr (bufReg c 0x800) = s.ctr (bufReg c 0x800) + 1 ∧ t.ctr 0x200020 = s.ctr 0x200020 + 1 ∧
      Frame [.cmd, .flt, .chips] [Reg.CMD_IRQ_PENDING] [bufReg c 0x800, 0x200020] s t) ∧
    (∀ g, After (.scrubRead c (.segment g) .uncorrectable) s fun t =>
      t.ctr (bufReg c 0x808) = s.ctr (bufReg c 0x808) + 1 ∧
      (t.chip c).retired (segHold g) (segChan g) (segIdx g) = true ∧
      (g ∈ ((s.chip c).region (segHold g)).used → t.isPoisoned c g = true) ∧
      (∃ more, t.flt.sent = s.flt.sent ++
        { code := stackCode c, cls := 1, sec := s.tim.dt.sec, ns := s.tim.dt.ns } :: more) ∧
      Frame [.cmd, .flt, .brt, .chips] [Reg.CMD_IRQ_PENDING] [bufReg c 0x808, bufReg c 0x810] s t) ∧
    ∀ n r, After (.scrubRead c (.table n) r) s fun t =>
      (r = .uncorrectable → n.toNat ∈ (t.chip c).tblPoisoned) ∧
      (∀ u, u ≠ n.toNat → (u ∈ (t.chip c).tblPoisoned ↔ u ∈ (s.chip c).tblPoisoned)) ∧
      (n.toNat ∈ (t.chip c).tblPoisoned → t.flt.sent = s.flt.sent ++
        [{ code := faultCode fbChip c, cls := 1, sec := s.tim.dt.sec, ns := s.tim.dt.ns }]) ∧
      (n.toNat ∉ (t.chip c).tblPoisoned → t.flt = s.flt) ∧
      t.ctr (bufReg c 0x818) = s.ctr (bufReg c 0x818) + (if n = 67108863 then 1 else 0) ∧
      Frame [.flt, .chips] [] [bufReg c 0x818] s t) ∧
  (∀ (s : State) (c : Fin 16) (x : ScrubTarget) (r : EccResult),
    s.chipOn c = false ∨ (s.chip c).stackUp = false ∨ s.rdBit (bufReg c Reg.BUF_CTRL) 0 = false →
    Leaves (.scrubRead c x r) s) ∧
  (∀ (s : State) (p : CmdPort) (c : Fin 16) (v : Word), Permitted s p (bufReg c Reg.BUF_PCH_REPLACE) 4 →
    let a := bufReg c Reg.BUF_PCH_REPLACE
    (∀ sp rest, (s.chip c).move = none → (s.chip c).spares = sp :: rest →
      After (.pchReplace p c v) s fun t =>
        t.rdBit a 31 = true ∧
        t.chip c = { s.chip c with move := some { channel := Fin.ofNat 32 (fld v 4 0), spare := sp } } ∧
        (∀ d : Fin 16, d ≠ c → t.chip d = s.chip d) ∧ Frame [.cmd, .chips] [a, Reg.CMD_IRQ_PENDING] [] s t) ∧
    ((s.chip c).move ≠ none ∨ (s.chip c).spares = [] →
      After (.pchReplace p c v) s fun t =>
        ((s.chip c).move ≠ none → t.rdBit a 29 = true) ∧ ((s.chip c).spares = [] → t.rdBit a 30 = true) ∧
        Frame [.cmd] [a, Reg.CMD_IRQ_PENDING] [] s t)) ∧
  (∀ (s : State) (c : Fin 16) (bad : List (BitVec 32)) (m : PchMove), (s.chip c).move = some m →
    After (.pchCopyDone c bad) s fun t =>
      (t.chip c).phys m.channel = m.spare ∧ m.spare ∉ (t.chip c).spares ∧
      (∀ l, l ≠ m.channel.val → (t.chip c).phys l = (s.chip c).phys l) ∧
      t.ctr (bufReg c 0x820) = s.ctr (bufReg c 0x820) + 1 ∧ t.rdBit (bufReg c Reg.BUF_PCH_REPLACE) 31 = false ∧
      (∀ g ∈ bad, g ∈ ((s.chip c).region (segHold g)).used → t.isPoisoned c g = true) ∧
      Frame [.cmd, .flt, .brt, .chips] [bufReg c Reg.BUF_PCH_REPLACE, Reg.CMD_IRQ_PENDING]
        [bufReg c 0x820, bufReg c 0x808, bufReg c 0x810] s t) ∧
  ∀ (s : State) (c : Fin 16) (bad : List (BitVec 32)), (s.chip c).move = none → Leaves (.pchCopyDone c bad) s

/-- CREDIT_WITHDRAW (R346), CREDIT_RELEASE (R348), SHAPER_CFG_WRITE and SHAPER_HOLD_WRITE (R358, R364). -/
def Obligations.CreditsAndShapers : Prop :=
  (∀ (s : State) (c : Fin 16) (j : Fin 512) (k : Fin 8), (s.chip c).balance (jk j k) ≠ 0 →
    s.idleLimit c ≤ Sparse.get (fun _ => 0) (s.chip c).idle (jk j k) →
    After (.creditWithdraw c j k) s fun t =>
      let n := (s.chip c).balance (jk j k)
      (t.chip c).balance (jk j k) = 0 ∧
      (∀ x, x ≠ jk j k → (t.chip c).balance x = (s.chip c).balance x) ∧
      (t.credits c).withdrawn = (s.credits c).withdrawn + BitVec.ofNat 64 n ∧
      (t.credits c).issued = (s.credits c).issued ∧
      (t.credits c).consumed + (t.credits c).outstanding = (s.credits c).consumed + (s.credits c).outstanding ∧
      t.brt.mesh = s.brt.mesh ++
        (if s.chipAlive c && s.chipAlive (chipOf j) then [.release c j k n] else []) ∧
      (∀ d : Fin 16, d ≠ c → t.chip d = s.chip d ∧ t.credits d = s.credits d) ∧ Frame [.brt, .chips] [] [] s t) ∧
  (∀ (s : State) (c : Fin 16) (j : Fin 512) (k : Fin 8), (s.chip c).balance (jk j k) = 0 ∨
    Sparse.get (fun _ => 0) (s.chip c).idle (jk j k) < s.idleLimit c → Leaves (.creditWithdraw c j k) s) ∧
  (∀ (s : State) (c : Fin 16) (j : Fin 512) (k : Fin 8) (n : Nat) (rest : List Msg),
    Oldest (fun x => ∃ a, x = .release c j k a) s.brt.mesh (.release c j k n) rest →
    After (.creditRelease c j k) s fun t =>
      let x := s.chip (chipOf j)
      let y := t.chip (chipOf j)
      t.brt.mesh = rest ∧ y.occOf (jk j k) = x.occOf (jk j k) - n ∧ y.reserved = x.reserved - n ∧
      y.grantOutOf c (jk j k) = x.grantOutOf c (jk j k) - n ∧
      (∀ i, i ≠ jk j k → y.occOf i = x.occOf i) ∧ (∀ d, d ≠ chipOf j → t.chip d = s.chip d) ∧
      Frame [.brt, .chips] [] [] s t) ∧
  (∀ (s : State) (c : Fin 16) (j : Fin 512) (k : Fin 8), (∀ n, .release c j k n ∉ s.brt.mesh) →
    Leaves (.creditRelease c j k) s) ∧
  (∀ (s : State) (p : CmdPort) (k : Fin 512) (i : Fin 9) (v : Word), Permitted s p (quePort k (shaperOff i)) 1 →
    let a := quePort k (shaperOff i)
    (s.isLead k = true → After (.shaperCfgWrite p k i v) s fun t =>
      (t.port k).shaper i = ((s.port k).shaper i).configure s.tim.ticks (t.rd a)
        (min 800000000 (s.rd (a + 4)).toNat) (fld (s.rd (a + 8)) 23 0) ∧
      ((t.port k).shaper i).tokens ≤ ((fld (s.rd (a + 8)) 23 0 * 256 : Nat) : Int) ∧
      (∀ n, n ≠ i.val → (t.port k).shaper n = (s.port k).shaper n) ∧ (∀ j, j ≠ k.val → t.port j = s.port j) ∧
      t.rd a = (s.plainWrite p a v).rd a ∧ Frame [.ports] [a] [] s t) ∧
    (s.isLead k = false → Leaves (.shaperCfgWrite p k i v) s)) ∧
  ∀ (s : State) (p : CmdPort) (k : Fin 512) (i : Fin 9) (burst : Bool) (v : Word),
    Permitted s p (quePort k (shaperOff i + (if burst then 8 else 4))) 1 →
    let a := quePort k (shaperOff i + (if burst then 8 else 4))
    (s.isLead k = true → After (.shaperHoldWrite p k i burst v) s fun t =>
      t.rd a = (s.plainWrite p a v).rd a ∧ Frame [] [a] [] s t) ∧
    (s.isLead k = false → Leaves (.shaperHoldWrite p k i burst v) s)

/-- GATE_LIST_WRITE (R359), GATE_REQ and GATE_CANCEL (R360), GATE_EN_WRITE (R361), CANCEL first (R628),
GATE_TAKEOVER (R360, R361), GATE_ENTRY_ADVANCE (R362). -/
def Obligations.GatesChange : Prop :=
  let wrote (i : Instr) (s : State) (k : Fin 512) (w : Word) : Prop :=
    let a := quePort k Reg.QUE_GATE_CTRL
    let g := (s.port k).gates
    let early (t0 : Nat) : Bool := decide (s.tim.dt.units < t0 * 4294967296)
    let old := g.pending.filter fun t0 => bit w 0 && !(bit w 2 && early t0)
    let at_ := s.atTime (quePort k Reg.QUE_GATE_AT_SEC_LO) (quePort k Reg.QUE_GATE_AT_SEC_HI) (quePort k Reg.QUE_GATE_AT_NS)
    let late := (at_ : Int) * 4294967296 - s.tim.dt.units < 10000 * 4294967296
    let now (t : State) (p : Option Nat) : Prop :=
      (t.port k).gates = { g with on := g.on && bit w 0, pending := p } ∧
      (g.pending ≠ none → old = none → t.rdBit a 10 = true) ∧
      (∀ j, j ≠ k.val → t.port j = s.port j) ∧ Frame [.cmd, .ports] [a, Reg.CMD_IRQ_PENDING] [] s t
    (bit w 1 = true → old = none → ¬ late → After i s fun t => now t (some at_) ∧ t.rdBit a 1 = true) ∧
    (bit w 1 = true → old ≠ none ∨ late → After i s fun t =>
      now t old ∧ (old ≠ none → t.rdBit a 8 = true) ∧ (late → t.rdBit a 9 = true)) ∧
    (bit w 1 = false → After i s fun t => now t old ∧ (g.pending ≠ none → old = none → t.rdBit a 1 = false))
  (∀ (s : State) (p : CmdPort) (k : Fin 512) (v : Word), Permitted s p (quePort k Reg.QUE_GATE_CTRL) 1 →
    (s.isLead k = true → wrote (.gateReq p k v) s k (withBit v 1) ∧ wrote (.gateCancel p k v) s k (withBit v 2) ∧
      wrote (.gateEnWrite p k v) s k v) ∧
    (s.isLead k = false → Leaves (.gateReq p k v) s ∧ Leaves (.gateCancel p k v) s ∧ Leaves (.gateEnWrite p k v) s)) ∧
  (∀ (s : State) (p : CmdPort) (k : Fin 512) (x : Fin 2) (e : Option (Fin 256)) (v : Word) (a : Nat),
    (a = match e with
      | some i => queReg (chipOf k) (Reg.QUE_GATE_LIST + 0x800 * (k.val % 32) + 0x400 * x.val + 4 * i.val)
      | none => quePort k (Reg.QUE_GATE_LEN + 4 * x.val)) → Permitted s p a 1 →
    (s.isLead k = true → x ≠ (s.port k).gates.oper → (s.port k).gates.pending = none →
      After (.gateListWrite p k x e v) s fun t => t.rd a = (s.plainWrite p a v).rd a ∧ Frame [] [a] [] s t) ∧
    (s.isLead k = true → x = (s.port k).gates.oper ∨ (s.port k).gates.pending ≠ none →
      After (.gateListWrite p k x e v) s fun t =>
        t.rdBit (quePort k Reg.QUE_GATE_CTRL) 11 = true ∧ Frame [] [quePort k Reg.QUE_GATE_CTRL] [] s t) ∧
    (s.isLead k = false → Leaves (.gateListWrite p k x e v) s)) ∧
  (∀ (s : State) (k : Fin 512) (t0 : Nat), (s.port k).gates.pending = some t0 → t0 * 4294967296 ≤ s.tim.dt.units →
    After (.gateTakeover k) s fun t =>
      let g := (s.port k).gates
      (t.port k).gates = { g with
        on := s.rdBit (quePort k Reg.QUE_GATE_CTRL) 0, oper := g.oper + 1, entry := 0, since := t0, pending := none } ∧
      t.rdBit (quePort k Reg.QUE_GATE_CTRL) 1 = false ∧
      (∀ j, j ≠ k.val →
        t.port j = { s.port j with qDef := (t.port j).qDef, clsDef := (t.port j).clsDef }) ∧
      OnlyParts [.regs, .ctrs, .cmd, .brt, .pkts, .ports, .chips] s t) ∧
  (∀ (s : State) (k : Fin 512), (∀ t0, (s.port k).gates.pending = some t0 → s.tim.dt.units < t0 * 4294967296) →
    Leaves (.gateTakeover k) s) ∧
  ∀ (s : State) (k : Fin 512),
    let g := (s.port k).gates
    let stop := g.since + s.gateInterval k g.oper g.entry
    (g.on = true → stop * 4294967296 ≤ s.tim.dt.units →
      After (.gateEntryAdvance k) s fun t =>
        t.port k = { s.port k with
          gates := { g with entry := (g.entry + 1) % s.gateLen k g.oper, since := stop } } ∧
        (∀ j, j ≠ k.val → t.port j = s.port j) ∧ Frame [.ports] [] [] s t) ∧
    (g.on = false ∨ s.tim.dt.units < stop * 4294967296 → Leaves (.gateEntryAdvance k) s)

/-- TIMESCALE_TICK (R366, R368), ADJ_WRITE (R367), TS_LOAD and TS_STEP (R368, R369), SEL_WRITE and SLEW_DONE (R371, R373),
TIME_READ_LATCH (R382), FIFO_READ (R379). -/
def Obligations.TimeAdvances : Prop :=
  let loadOf (s : State) (x : Fin 2) : TimCmd :=
    .load (BitVec.ofNat 48 ((s.rd (timReg x 0x14)).toNat + s.rdFld (timReg x 0x18) 15 0 * 4294967296))
      (BitVec.ofNat 30 (s.rdFld (timReg x 0x1C) 29 0))
  let stepOf (s : State) (x : Fin 2) : TimCmd := .step (s.rd (timReg x 0x20))
  let waits (s t : State) (x : Fin 2) (l : List TimCmd) : Prop :=
    t.tim = (if x = 0 then { s.tim with todoA := s.tim.todoA ++ l } else { s.tim with todoB := s.tim.todoB ++ l }) ∧
    Frame [.tim] [timReg x 0x24] [] s t
  (∀ s : State, s.domOn 62 = true →
    After .timescaleTick s fun t =>
      (∃ a b : Clock,
        (a.units : Int) = ((s.tim.a.units : Int) + 5368709120 + s.adjOf 0) % clockMod ∧
        (b.units : Int) = ((s.tim.b.units : Int) + 5368709120 + s.adjOf 1) % clockMod ∧
        t.tim.a = s.tim.todoA.foldl Clock.take a ∧ t.tim.b = s.tim.todoB.foldl Clock.take b) ∧
      (s.slt.running = false → t.tim.dt = (if s.timeSel = 0 then t.tim.a else t.tim.b) ∧ t.tim.mode = .follow) ∧
      (s.slt.running = true → (t.tim.dt.units : Int) =
        ((s.tim.dt.units : Int) + 5368709120 + s.adjOf s.timeSel + s.slewGain) % clockMod) ∧
      t.tim.todoA = [] ∧ t.tim.todoB = [] ∧ t.tim.ticks = s.tim.ticks + 1 ∧ t.tim.fifo = s.tim.fifo ∧
      (∀ x : Fin 2, t.rdBit (timReg x 0x24) 0 = false ∧ t.rdBit (timReg x 0x24) 1 = false) ∧
      Frame [.tim] [timReg 0 0x24, timReg 1 0x24] [] s t) ∧
  (∀ (c : Clock) (sec : BitVec 48) (ns : BitVec 30) (d : Word),
    c.take (.load sec ns) = { sec := sec, ns := ns, frac := 0 } ∧
    ((c.take (.step d)).units : Int) = ((c.units : Int) + d.toInt * 4294967296) % clockMod) ∧
  (∀ s : State, s.domOn 62 = false → Leaves .timescaleTick s) ∧
  (∀ (s : State) (p : CmdPort) (x : Fin 2) (v : Word), Permitted s p (timReg x 0x10) 1 →
    After (.adjWrite p x v) s fun t => t.rd (timReg x 0x10) = v ∧ Frame [] [timReg x 0x10] [] s t) ∧
  (∀ (s : State) (p : CmdPort) (x : Fin 2) (v : Word), Permitted s p (timReg x 0x24) 1 →
    let a := timReg x 0x24
    let refused := 1000000000 ≤ s.rdFld (timReg x 0x1C) 29 0 ∨ (s.timeSel = x ∧ s.slt.running = true)
    let also (i : Nat) (c : TimCmd) : List TimCmd := if bit v i = true then [c] else []
    (¬refused →
      After (.tsLoad p x v) s (fun t => t.rdBit a 0 = true ∧ waits s t x (loadOf s x :: also 1 (stepOf s x))) ∧
      After (.tsStep p x v) s fun t => t.rdBit a 1 = true ∧ waits s t x (also 0 (loadOf s x) ++ [stepOf s x])) ∧
    (refused →
      After (.tsLoad p x v) s (fun t => t.rdBit a 8 = true ∧ waits s t x (also 1 (stepOf s x))) ∧
      After (.tsStep p x v) s fun t =>
        t.rdBit a 1 = true ∧ (bit v 0 = true → t.rdBit a 8 = true) ∧ waits s t x [stepOf s x])) ∧
  (∀ (s : State) (p : CmdPort) (v : Word), Permitted s p Reg.TIM_CTRL 1 →
    After (.selWrite p v) s fun t =>
      let u := s.plainWrite p Reg.TIM_CTRL v
      t.timeSel = (if bit v 0 then 1 else 0) ∧
      t.tim = (if s.tim.mode = .locked ∧ u.delta ≠ 0 then { s.tim with mode := .slewing } else s.tim) ∧
      Frame [.tim] [Reg.TIM_CTRL] [] s t) ∧
  (∀ s : State, s.tim.mode = .slewing → s.delta = 0 →
    After .slewDone s fun t =>
      t.tim = { s.tim with mode := .locked } ∧ Frame [.cmd, .tim] [Reg.CMD_IRQ_PENDING] [] s t) ∧
  (∀ s : State, s.tim.mode ≠ .slewing ∨ s.delta ≠ 0 → Leaves .slewDone s) ∧
  (∀ (s : State) (p : CmdPort) (k : TimClock), Permitted s p (secLoAddr k) 0 →
    After (.timeReadLatch p k) s fun t =>
      let c := match k with | .device => s.tim.dt | .a => s.tim.a | .b => s.tim.b
      t.cmd.rdData.toList.getD (portNum p) 0 = c.secLo ∧
      t.tim = (match k with
        | .device => { s.tim with latchDt := c } | .a => { s.tim with latchA := c } | .b => { s.tim with latchB := c }) ∧
      Frame [.cmd, .tim] [] [] s t) ∧
  (∀ (s : State) (p : CmdPort), Permitted s p 0x500200 0 →
    (∀ e rest, s.tim.fifo = e :: rest → After (.fifoRead p) s fun t =>
      t.cmd.rdData.toList.getD (portNum p) 0 = setBit e.data0 31 true ∧
      t.tim = { s.tim with fifo := rest, data1 := e.data1, data2 := e.data2 } ∧ Frame [.cmd, .tim] [] [] s t) ∧
    (s.tim.fifo = [] → After (.fifoRead p) s fun t =>
      t.cmd.rdData.toList.getD (portNum p) 0 = 0 ∧ Frame [.cmd] [] [] s t)) ∧
  ∀ (s : State) (p : CmdPort) (k : TimClock), s.allowed p 0 = false → s.glb.state ≠ .aon →
    After (.timeReadLatch p k) s (fun t => t.cmd.rdData.toList.getD (portNum p) 0 = 0 ∧ t.tim = s.tim) ∧
    After (.fifoRead p) s fun t => t.cmd.rdData.toList.getD (portNum p) 0 = 0 ∧ t.tim = s.tim

/-- CROSSING_TRANSFER (R593 to R597). -/
def Obligations.CrossingsDeliver : Prop :=
  (∀ (s : State) (x : BitVec 11) (n : Nat) (d : Int), x.toNat < 0x404 → (s.crossing x.toNat).flight = some d →
    After (.crossingTransfer x n) s fun t =>
      let c := s.crossing x.toNat
      t.crossing x.toNat = { c.deliver with pulses := if n = 0 then c.pulses else Fin.ofNat 16 (min 15 n) } ∧
      (t.crossing x.toNat).inFlight = c.inFlight - d ∧
      (∀ y, y ≠ x.toNat → t.crossing y = s.crossing y) ∧
      (if 0x200 ≤ x.toNat ∧ x.toNat < 0x400 then
        t.ledger (chipOf (x.toNat - 0x200)) =
          (s.ledger (chipOf (x.toNat - 0x200))).apply (.deliver (BitVec.ofInt 64 d))
      else t.brt = s.brt) ∧
      (15 < n → t.rdBit Reg.CLK_STATUS 4 = true ∧ t.rd 0x400028 = BitVec.ofNat 32 x.toNat ∧
        t.ctr 0x400024 = s.ctr 0x400024 + 1) ∧
      Frame [.cmd, .brt, .xing] (if 15 < n then [Reg.CLK_STATUS, 0x400028, Reg.CMD_IRQ_PENDING] else [])
        (if 15 < n then [0x400024] else []) s t) ∧
  (∀ (s : State) (x : BitVec 11) (n : Nat), x.toNat < 0x404 → (s.crossing x.toNat).flight = none → n ≠ 0 →
    After (.crossingTransfer x n) s fun t =>
      t.crossing x.toNat = { s.crossing x.toNat with pulses := Fin.ofNat 16 (min 15 n) } ∧ t.brt = s.brt ∧
      (∀ y, y ≠ x.toNat → t.crossing y = s.crossing y) ∧
      Frame [.cmd, .xing] [Reg.CLK_STATUS, 0x400028, Reg.CMD_IRQ_PENDING] [0x400024] s t) ∧
  ∀ (s : State) (x : BitVec 11) (n : Nat), 0x404 ≤ x.toNat ∨ ((s.crossing x.toNat).flight = none ∧ n = 0) →
    Leaves (.crossingTransfer x n) s

/-- LOUPE_ARM (R389, R396), LOUPE_STOP (R394), LOUPE_FORCE (R392), RD_PTR_WRITE (R397). -/
def Obligations.LoupeCommanded : Prop :=
  let others (s t : State) (u : Fin 8) : Prop := ∀ w, w ≠ u.val → t.loupe w = s.loupe w
  (∀ (s : State) (p : CmdPort) (u : Fin 8) (v : Word), Permitted s p (acqReg u 0) 1 → bit v 1 = false →
    let k0 := decide (s.loupeKind u = 0)
    ((s.loupe u).st = .idle → s.armRefusals u = [] → After (.loupeArm p u v) s fun t =>
      t.loupe u = { ({} : Loupe) with
        st := if k0 = true then .settle else .prefill, lendWait := k0, dec := s.loupeBase u, decNext := s.loupeBase u
        force := bit v 2 && !k0, stopCause := (s.loupe u).stopCause, lent := (s.loupe u).lent
        lentFor := (s.loupe u).lentFor, lendTick := (s.loupe u).lendTick, outWait := (s.loupe u).outWait
        driving := (s.loupe u).driving } ∧
      t.rd (acqReg u 0x24) = 0 ∧ others s t u ∧ Frame [.acq] [acqReg u 0, acqReg u 0x24] [] s t) ∧
    ((s.loupe u).st = .idle → s.armRefusals u ≠ [] → After (.loupeArm p u v) s fun t =>
      (∀ b ∈ s.armRefusals u, t.rdBit (acqReg u 4) b = true) ∧ (∀ w, t.loupe w = s.loupe w) ∧
      Frame [.cmd] [acqReg u 0, acqReg u 4, Reg.CMD_IRQ_PENDING] [] s t) ∧
    ((s.loupe u).st ≠ .idle → After (.loupeArm p u v) s fun t =>
      t.rdBit (acqReg u 4) 10 = true ∧
      t.loupe u = { s.loupe u with force := (s.loupe u).force || (bit v 2 && (s.loupe u).sampling) } ∧
      others s t u ∧ Frame [.cmd, .acq] [acqReg u 4, Reg.CMD_IRQ_PENDING] [] s t)) ∧
  (∀ (s : State) (p : CmdPort) (u : Fin 8) (v : Word), Permitted s p (acqReg u 0) 1 →
    ((s.loupe u).st ≠ .idle → After (.loupeStop p u v) s fun t =>
      (t.loupe u).st = .idle ∧ (t.loupe u).stopCause = 0 ∧ (t.loupe u).lendWait = false ∧
      t.ctr (acqReg u 0xC0) = s.ctr (acqReg u 0xC0) + (if (s.loupe u).st = .post then 1 else 0) ∧
      (t.loupe u).seq = (s.loupe u).seq + (if (s.loupe u).st = .post then 1 else 0) ∧ others s t u ∧
      Frame [.freeCtr, .cmd, .acq] [acqReg u 4, Reg.CMD_IRQ_PENDING] [acqReg u 0xC0, acqReg u 0xC8] s t) ∧
    ((s.loupe u).st = .idle → bit v 0 = false → After (.loupeStop p u v) s fun t =>
      t = s.plainWrite p (acqReg u 0) (withBit v 1) ∧ Frame [] [acqReg u 0] [] s t) ∧
    ((s.loupe u).st = .idle → bit v 0 = true → After (.loupeStop p u v) s fun t =>
      (t.loupe u).st = .idle ∧ (s.armRefusals u = [] → (t.loupe u).stopCause = 0) ∧ others s t u ∧
      Frame [.freeCtr, .cmd, .acq] [acqReg u 0, acqReg u 4, acqReg u 0x24, Reg.CMD_IRQ_PENDING] [] s t)) ∧
  (∀ (s : State) (p : CmdPort) (u : Fin 8) (v : Word), Permitted s p (acqReg u 0) 1 → bit v 0 = false → bit v 1 = false →
    ((s.loupe u).sampling = true → After (.loupeForce p u v) s fun t =>
      t.loupe u = { s.loupe u with force := true } ∧ others s t u ∧ Frame [.acq] [] [] s t) ∧
    ((s.loupe u).st = .settle → Leaves (.loupeForce p u v) s) ∧
    ((s.loupe u).st = .idle → After (.loupeForce p u v) s fun t =>
      t = s.plainWrite p (acqReg u 0) (withBit v 2) ∧ Frame [] [acqReg u 0] [] s t)) ∧
  ∀ (s : State) (p : CmdPort) (u : Fin 8) (v : Word), Permitted s p (acqReg u 0x24) 1 →
    After (.rdPtrWrite p u v) s fun t =>
      t.loupe u = { s.loupe u with
        occ := (s.loupe u).occ - (fld v 21 0 + 4194304 - s.rdFld (acqReg u 0x24) 21 0) % 4194304 } ∧
      t.rdFld (acqReg u 0x24) 21 0 = fld v 21 0 ∧ others s t u ∧ Frame [.acq] [acqReg u 0x24] [] s t

/-- SETTLE_DONE (R387), PREFILL_DONE (R394), TRIGGER_POINT (R393), RECORD_WRITTEN (R397, R398, R405), HOLDOFF_END (R395, R401),
LEND_LIMIT (R388), TRIG_ASSERT and TRIG_RELEASE (R406), TRIG_SENSE (R392, R407). Samples come with the command that ends a stage
(the model's choice, assumption 135). -/
def Obligations.LoupeRecords : Prop :=
  let others (s t : State) (u : Nat) : Prop := ∀ v, v ≠ u → t.loupe v = s.loupe v
  let only (s t : State) (u : Fin 8) : Prop := others s t u ∧ OnlyParts [.freeCtr, .regs, .ctrs, .cmd, .acq] s t
  (∀ (s : State) (u : Fin 8),
    let x := s.loupe u
    (x.st = .settle → x.lent ≠ none → x.lendTick + 120 ≤ s.tim.ticks → After (.settleDone u) s fun t =>
      t.loupe u = { x with st := .prefill } ∧ others s t u ∧ Frame [.acq] [] [] s t) ∧
    (x.st ≠ .settle ∨ x.lent = none ∨ s.tim.ticks < x.lendTick + 120 → Leaves (.settleDone u) s)) ∧
  (∀ (s : State) (u : Fin 8) (l : List (BitVec 16)),
    let w := s.loupeFeed u l
    let x := w.loupe u
    (x.st = .prefill → s.loupePre u ≤ x.buf.length → After (.prefillDone ⟨u, l⟩) s fun t =>
      t.loupe u = { x with st := .armed, hit := {} } ∧ only s t u) ∧
    (x.st ≠ .prefill ∨ x.buf.length < s.loupePre u → After (.prefillDone ⟨u, l⟩) s fun t => t = w ∧ only s t u)) ∧
  (∀ (s : State) (u : Fin 8) (l m : List (BitVec 16)) (c : BitVec 14) (o b : Bool),
    let w := s.loupeFeed u (l ++ tapSample c o b :: m)
    let x := w.loupe u
    let fits := x.occ + 32 + s.loupePre u + s.loupePost u ≤ 4194304
    let hit (t : State) : Prop :=
      let y := t.loupe u
      y.trig.mask = x.hit.mask ∧ y.trig.cause = lowestCond x.hit.mask ∧ y.trig.late = x.hit.late ∧
      y.trig.time = x.hit.time ∧ (x.hit.offset ≤ 19 → y.trig.offset = x.hit.offset) ∧
      y.outWait = x.outWait ++ s.outDue u x.hit.root ∧ only s t u
    (x.st = .armed → x.hit.mask ≠ 0 → fits → After (.triggerPoint u l c o b m) s fun t =>
      (t.loupe u).st = .post ∧ t.ctrs = w.ctrs ∧ hit t) ∧
    (x.st = .armed → x.hit.mask ≠ 0 → ¬fits → s.loupeMode u = 2 → After (.triggerPoint u l c o b m) s fun t =>
      (t.loupe u).st = .holdoff ∧ (t.loupe u).lostNew = min 65535 (x.lostNew + 1) ∧
      t.ctr (acqReg u 0xC4) = w.ctr (acqReg u 0xC4) + 1 ∧ hit t) ∧
    (x.st = .armed → x.hit.mask ≠ 0 → ¬fits → s.loupeMode u ≠ 2 → After (.triggerPoint u l c o b m) s fun t =>
      (t.loupe u).st = .idle ∧ (t.loupe u).stopCause = 3 ∧ t.ctrs = w.ctrs ∧ hit t) ∧
    (x.st ≠ .armed ∨ x.hit.mask = 0 → After (.triggerPoint u l c o b m) s fun t => t = w ∧ only s t u)) ∧
  (∀ (s : State) (u : Fin 8) (l : List (BitVec 16)),
    let w := s.loupeFeed u l
    let x := w.loupe u
    let len := x.trigIndex + s.loupePost u
    let viol := w.recordViolates u ((x.buf.take len).map fun b => b.1) = true
    let stops := s.rdBit (acqReg u 0) 6 = true
    (x.st = .post → len ≤ x.buf.length → After (.recordWritten u l) s fun t =>
      let y := t.loupe u
      y.seq = x.seq + 1 ∧ y.occ = x.occ + 32 + len ∧ y.wr = (x.wr + 32 + len) % 4194304 ∧ y.lostNew = 0 ∧
      t.ctr (acqReg u 0xC0) = w.ctr (acqReg u 0xC0) + 1 ∧
      t.ctr (acqReg u 0xC8) = w.ctr (acqReg u 0xC8) + (if viol then 1 else 0) ∧
      (viol → t.rdBit (acqReg u 4) 16 = true) ∧
      (viol → stops → y.st = .idle ∧ y.stopCause = 2) ∧
      (¬(viol ∧ stops) → s.loupeMode u = 0 → y.st = .idle ∧ y.stopCause = 1) ∧
      (¬(viol ∧ stops) → s.loupeMode u ≠ 0 → y.st = .holdoff) ∧ only s t u) ∧
    (x.st ≠ .post ∨ x.buf.length < len → After (.recordWritten u l) s fun t => t = w ∧ only s t u)) ∧
  (∀ (s : State) (u : Fin 8) (l : List (BitVec 16)),
    let w := s.loupeFeed u l
    let x := w.loupe u
    let due := if s.rdBit (acqReg u 0) 7 = true then (s.rd (acqReg u 0x18)).toNat ≤ x.ignored
      else x.trig.time + (s.rd (acqReg u 0x18)).toNat * 4294967296 ≤ w.nextInstant u
    (x.st = .holdoff → due → x.dec = x.decNext → After (.holdoffEnd u l) s fun t =>
      t.loupe u = { x with st := .armed, hit := {} } ∧ t.ctrs = w.ctrs ∧ only s t u) ∧
    (x.st = .holdoff → due → x.dec ≠ x.decNext → After (.holdoffEnd u l) s fun t =>
      t.loupe u = { x with st := .prefill, dec := x.decNext, buf := [], acc := [] } ∧ t.ctrs = w.ctrs ∧ only s t u) ∧
    (x.st ≠ .holdoff ∨ ¬due → After (.holdoffEnd u l) s fun t => t = w ∧ only s t u)) ∧
  (∀ (s : State) (u : Fin 8) (l : List (BitVec 16)),
    let w := s.loupeFeed u l
    let x := w.loupe u
    (∀ a, x.lent = some a → max 1 (s.rdFld (acqReg u 0x20) 15 0) ≤ x.lentFor → After (.lendLimit u l) s fun t =>
      (t.loupe u).lent = none ∧ (t.loupe u).st = .idle ∧ (x.st ≠ .idle → (t.loupe u).stopCause = 4) ∧
      (t.au a).lent = false ∧ (t.au (a + 1)).lent = false ∧ (t.au a).loopNext = true ∧ (t.au (a + 1)).loopNext = true ∧
      (∀ b, b ≠ a → b ≠ a + 1 → t.au b = s.au b) ∧ others s t u ∧
      OnlyParts [.freeCtr, .regs, .ctrs, .cmd, .adc, .acq] s t) ∧
    (x.lent = none ∨ x.lentFor < max 1 (s.rdFld (acqReg u 0x20) 15 0) →
      After (.lendLimit u l) s fun t => t = w ∧ only s t u)) ∧
  (∀ (s : State) (u : Fin 8),
    let x := s.loupe u
    let due (d : Nat) : Prop := d < 4 * s.tim.ticks + 4
    let only (t : State) : Prop := others s t u ∧ Frame [.acq] [] [] s t
    (∀ d l, x.outWait = d :: l → due d → s.trigActs = true → After (.trigAssert u) s fun t =>
      t.loupe u = { x with outWait := l, driving := some d } ∧ only t) ∧
    (x.outWait = [] ∨ (∃ d l, x.outWait = d :: l ∧ ¬due d) ∨ s.trigActs = false → Leaves (.trigAssert u) s) ∧
    (∀ r, x.driving = some r → due (r + 64) → After (.trigRelease u) s fun t =>
      t.loupe u = { x with driving := none } ∧ only t) ∧
    (x.driving = none ∨ (∃ r, x.driving = some r ∧ ¬due (r + 64)) → Leaves (.trigRelease u) s)) ∧
  ∀ (s : State) (n k : Fin 4),
    After (.trigSense n k) s fun t =>
      let at_ := s.dtAt k - (64 + s.rdFld (Reg.ACQ_TRIG + 4 * n.val) 7 0) * 1342177280
      Sparse.get (fun _ => 0) t.acq.trigTime n = at_ ∧
      (∀ u : Fin 8,
        let back := 64 * sampleStep (s.loupeKind u)
        t.loupe u = { s.loupe u with evs := (t.loupe u).evs } ∧
        ((s.loupe u).sampling = false → (t.loupe u).evs = (s.loupe u).evs) ∧
        ((s.loupe u).sampling = true → (t.loupe u).evs = (s.loupe u).evs ++ (s.condsFor u (0x50 + n.val)).map fun c =>
          { cond := c, time := at_, start := if at_ + back < s.dtAt k then s.dtAt k - back else at_
            late := decide (at_ + back < s.dtAt k) })) ∧
      t.tim = { s.tim with phase := k } ∧ Frame [.tim, .acq] [] [] s t

/-- ARBITRATION (R416), SWITCHOVER_START and SWITCHOVER_GAP_END (R418, R420), CONTROLLER_LOSS (R412, R419, R424). -/
def Obligations.ControllersSwitch : Prop :=
  let report (s : State) (c : Ctl) (cls : Fin 4) : SentFault :=
    { code := faultCode fbCtl (ctlNum c), cls := cls, sec := s.tim.dt.sec, ns := s.tim.dt.ns }
  (∀ (s : State) (m : List Nat) (ac sb : Ctl), s.red.arbM = some m → s.active? = some ac → s.standby? = some sb →
    let ca := s.consistent ac m s.red.arbAt
    let cb := s.consistent sb m s.red.arbAt
    let judged (t : State) : Prop :=
      t.red.arbM = none ∧ t.ctr 0x700028 = s.ctr 0x700028 + 1 ∧ (t.ctlRed ac).state = .active ∧
      OnlyParts [.freeCtr, .regs, .ctrs, .cmd, .flt, .red, .acq] s t
    (cb = true → ca = false → After .arbitration s fun t =>
      t.red = { s.red with arbM := none, pendingSw := some (.arbitration, s.red.arbAt + 1) } ∧ judged t) ∧
    (ca = true → cb = false → After .arbitration s fun t =>
      (t.ctlRed sb).state = .isolated ∧ t.flt.sent = s.flt.sent ++ [report s sb 2] ∧
      t.red.pendingSw = s.red.pendingSw ∧ judged t) ∧
    (ca = cb → After .arbitration s fun t =>
      (t.ctlRed sb).suspect = true ∧ (t.ctlRed sb).state = .standby ∧ t.red.pendingSw = s.red.pendingSw ∧
      t.ctr 0x700030 = s.ctr 0x700030 + (if (s.ctlRed sb).suspect then 0 else 1) ∧ judged t)) ∧
  (∀ s : State, s.red.arbM = none ∨ s.standby? = none → Leaves .arbitration s) ∧
  (∀ (s : State) (cause : SwCause) (n : Nat) (old : Ctl), s.red.pendingSw = some (cause, n) →
    n ≤ s.loopS.sample ∨ s.loopS.first = true → s.red.gapEnd = none → s.active? = some old →
    (∀ new, s.standby? = some new → After .switchoverStart s fun t =>
      (t.ctlRed new).state = .active ∧ (t.ctlRed new).suspect = false ∧
      (t.ctlRed old).state = (if cause = .host ∧ (s.ctlRed old).follow = none then .standby else .isolated) ∧
      t.red.gapEnd = some (s.loopS.sample + 2) ∧ t.red.pendingSw = none ∧ t.red.lastSwitch = s.switchWord cause new ∧
      t.ctr 0x70002C = s.ctr 0x70002C + 1 ∧ (cause ≠ .host → report s old 2 ∈ t.flt.sent) ∧
      OnlyParts [.freeCtr, .regs, .ctrs, .cmd, .flt, .glb, .loopS, .cal, .red, .acq, .slt, .brt] s t) ∧
    (s.standby? = none → cause = .host → After .switchoverStart s fun t =>
      t.red = { s.red with pendingSw := none } ∧ t.rdBit Reg.RED_CMD 16 = true ∧ Frame [.red] [Reg.RED_CMD] [] s t) ∧
    (s.standby? = none → cause = .loss ∨ cause = .activeFault → After .switchoverStart s fun t =>
      t.red = { s.red with pendingSw := none } ∧ t.flt.sent = s.flt.sent ++ [report s old 3] ∧
      Frame [.flt, .red] [] [] s t)) ∧
  (∀ s : State, s.red.pendingSw = none ∨ s.active? = none ∨ s.red.gapEnd ≠ none ∨ s.switchoverDue = false →
    Leaves .switchoverStart s) ∧
  (∀ (s : State) (n : Nat), s.red.gapEnd = some n → n ≤ s.loopS.sample ∨ s.loopS.first = true →
    After .switchoverGapEnd s fun t =>
      let u := { s with red := { s.red with gapEnd := none } }
      t.red = u.red ∧ (s.flt.safe = true → t.drv = s.drv) ∧
      (u.codesHeld = false → s.loopS.running = true → ∀ e, e < 5120 → (s.elem s.actCtl e).mode ≠ .off →
        (s.chan e).phase = .idle → s.domOn (50 + quadrantOf e) = true → s.isParked e = false →
        (t.chan e).latest = (s.elem s.actCtl e).heater) ∧
      Frame [.drv, .red] [] [] s t) ∧
  (∀ s : State, s.red.gapEnd = none ∨ (∃ n, s.red.gapEnd = some n ∧ s.loopS.sample < n ∧ s.loopS.first = false) →
    Leaves .switchoverGapEnd s) ∧
  (∀ (s : State) (c : Ctl), s.active? = some c →
    (s.red.gapEnd = none → s.standby? ≠ none → (s.red.pendingSw = none ∨ ∃ n, s.red.pendingSw = some (.host, n)) →
      After (.controllerLoss c) s fun t =>
        t.red = { s.red with pendingSw := some (.loss, s.loopS.sample + 1), arbM := none } ∧ Frame [.red] [] [] s t) ∧
    (s.red.gapEnd = none → s.standby? ≠ none → (∃ x n, s.red.pendingSw = some (x, n) ∧ x ≠ .host) →
      Leaves (.controllerLoss c) s) ∧
    (s.red.gapEnd ≠ none ∨ s.standby? = none → After (.controllerLoss c) s fun t =>
      t.flt.sent = s.flt.sent ++ [report s c 3] ∧ t.flt.signals = s.flt.signals ++ [faultCode fbCtl (ctlNum c)] ∧
      Frame [.flt] [] [] s t)) ∧
  ∀ (s : State) (c : Ctl), s.active? ≠ some c → Leaves (.controllerLoss c) s

/-- SWITCH, ISOLATE, SLEEP, RETURN and TEST of RED_CMD (R410, R418, R434), each request written alone. -/
def Obligations.ControllersCommanded : Prop :=
  let tgt (v : Word) : Ctl := if bit v 8 then .b else .a
  let switched (i : Instr) (s : State) (follow : Option Bool) : Prop :=
    (∀ ac, s.switchRefusals = [] → s.active? = some ac → After i s fun t =>
      t.red.pendingSw = some (.host, s.loopS.sample + 2) ∧ t.ctlRed ac = { s.ctlRed ac with follow := follow } ∧
      t.ctlRed (otherCtl ac) = s.ctlRed (otherCtl ac) ∧ Frame [.red] [Reg.RED_CMD] [] s t) ∧
    (s.switchRefusals ≠ [] → After i s fun t =>
      (∀ b ∈ s.switchRefusals, t.rdBit Reg.RED_CMD b = true) ∧ Frame [] [Reg.RED_CMD] [] s t)
  let refused (i : Instr) (s : State) : Prop :=
    After i s fun t => t.rdBit Reg.RED_CMD 16 = true ∧ Frame [] [Reg.RED_CMD] [] s t
  let parts : List Part := [.freeCtr, .regs, .ctrs, .cmd, .glb, .red, .acq]
  (∀ (s : State) (p : CmdPort) (v : Word), Permitted s p Reg.RED_CMD 1 → fld v 4 0 = 0 →
    let c := tgt v
    let st := (s.ctlRed c).state
    let kept (t : State) : Prop := t.ctlRed (otherCtl c) = s.ctlRed (otherCtl c) ∧ OnlyParts parts s t
    switched (.redSwitch p v) s none ∧
    (st = .active → switched (.redIsolate p v) s (some false) ∧ switched (.redSleep p v) s (some true)) ∧
    (st = .standby → After (.redIsolate p v) s fun t =>
      (t.ctlRed c).state = .isolated ∧ (t.ctlRed c).asleep = (s.ctlRed c).asleep ∧ t.glb = s.glb ∧ kept t) ∧
    (st = .standby ∨ st = .isolated → After (.redSleep p v) s fun t =>
      (t.ctlRed c).state = .isolated ∧ (t.ctlRed c).asleep = true ∧ t.domOn (ctlDomain c) = false ∧
      (∀ d, d < 64 → d ≠ ctlDomain c → t.domOn d = s.domOn d) ∧ kept t) ∧
    (st = .isolated → After (.redIsolate p v) s (fun t => Frame [] [Reg.RED_CMD] [] s t) ∧
      After (.redReturn p v) s fun t =>
        (t.ctlRed c).state = .testing ∧ (t.ctlRed c).asleep = false ∧ t.domOn (ctlDomain c) = true ∧ kept t ∧
        Frame [.cmd, .glb, .red] [Reg.RED_CMD, Reg.CMD_IRQ_PENDING] [] s t) ∧
    (st = .standby → After (.redTest p v) s fun t => (t.ctlRed c).state = .testing ∧ kept t) ∧
    (st = .testing ∨ st = .syncing → refused (.redIsolate p v) s ∧ refused (.redSleep p v) s) ∧
    (st ≠ .isolated → refused (.redReturn p v) s) ∧ (st ≠ .standby → refused (.redTest p v) s)) ∧
  ∀ (s : State) (p : CmdPort) (v : Word), Permitted s p Reg.RED_CMD 1 →
    After (.redSwitch p v) s (OnlyParts parts s) ∧ After (.redIsolate p v) s (OnlyParts parts s) ∧
    After (.redSleep p v) s (OnlyParts parts s) ∧ After (.redReturn p v) s (OnlyParts parts s) ∧
    After (.redTest p v) s (OnlyParts parts s)

/-- COPY_RECEIVED (R425, R427), COPY_LATE (R426), SUSPECT_CLEAR (R417), STANDBY_ENGINE_TEST (R429), CONTROLLER_SCRUB
(R430). -/
def Obligations.StandbyWatched : Prop :=
  let report (s : State) (c : Ctl) : SentFault :=
    { code := faultCode fbCtl (ctlNum c), cls := 2, sec := s.tim.dt.sec, ns := s.tim.dt.ns }
  (∀ (s : State) (n : Nat), s.red.copyOut ≠ 0 →
    let taken (t : State) : Prop :=
      t.red.copyOut = 0 ∧ t.ctr 0x700038 = s.ctr 0x700038 + BitVec.ofNat 64 n ∧
      t.ctr 0x200020 = s.ctr 0x200020 + BitVec.ofNat 64 n ∧
      t.red.lateRun = (if s.red.copyOut = 1 then 0 else s.red.lateRun) ∧
      t.red.copies = (if s.red.syncPhase = 2 ∧ s.red.fresh = false then s.red.copies + 1 else s.red.copies)
    (s.red.copyDiff = false → After (.copyReceived n) s fun t =>
      taken t ∧ t.red.a = s.red.a ∧ t.red.b = s.red.b ∧ t.red.dirty = s.red.dirty ∧
      Frame [.red] [] [0x700038, 0x200020] s t) ∧
    (s.red.copyDiff = true → After (.copyReceived n) s fun t =>
      taken t ∧ t.red.dirty = true ∧ t.ctr 0x700044 = s.ctr 0x700044 + 1 ∧
      (∀ sb, s.standby? = some sb → (t.ctlRed sb).suspect = true) ∧
      Frame [.cmd, .red] [Reg.CMD_IRQ_PENDING] [0x700030, 0x700038, 0x700044, 0x200020] s t)) ∧
  (∀ (s : State) (n : Nat), s.red.copyOut = 0 → Leaves (.copyReceived n) s) ∧
  (∀ (s : State) (m : Bool), s.red.copyOut = 1 →
    let late := s.loopS.sample :: s.red.lateAt.filter fun n => decide (s.loopS.sample < n + 64)
    (s.standby? = none ∨ s.red.lateRun + 1 < 16 → After (.copyLate m) s fun t =>
      t.ctr 0x700040 = s.ctr 0x700040 + 1 ∧
      t.red.copyOut = (if m then 0 else 2) ∧ t.red.lateAt = late ∧ t.red.lateRun = s.red.lateRun + 1 ∧
      t.red.dirty = true ∧ t.red.copies = (if s.red.syncPhase = 2 then 0 else s.red.copies) ∧
      (∀ sb, s.standby? = some sb → 3 ≤ late.length → (t.ctlRed sb).suspect = true) ∧
      (s.standby? = none ∨ late.length < 3 → t.red.a = s.red.a ∧ t.red.b = s.red.b) ∧
      Frame [.cmd, .red] [Reg.CMD_IRQ_PENDING] [0x700030, 0x700040] s t) ∧
    (∀ sb, s.standby? = some sb → 16 ≤ s.red.lateRun + 1 → After (.copyLate m) s fun t =>
      t.ctr 0x700040 = s.ctr 0x700040 + 1 ∧ (t.ctlRed sb).state = .isolated ∧
      t.flt.sent = s.flt.sent ++ [report s sb] ∧
      OnlyParts [.freeCtr, .regs, .ctrs, .cmd, .flt, .red, .acq] s t)) ∧
  (∀ (s : State) (m : Bool), s.red.copyOut ≠ 1 → Leaves (.copyLate m) s) ∧
  (∀ (s : State) (sb : Ctl), s.standby? = some sb → (s.ctlRed sb).suspect = true → 256 ≤ s.red.cleanRun →
    s.red.dirty = false → After .suspectClear s fun t =>
      t.ctlRed sb = { s.ctlRed sb with suspect := false } ∧ t.ctlRed (otherCtl sb) = s.ctlRed (otherCtl sb) ∧
      Frame [.red] [] [] s t) ∧
  (∀ s : State, s.standby? = none ∨ s.red.cleanRun < 256 ∨ s.red.dirty = true ∨
    (∃ sb, s.standby? = some sb ∧ (s.ctlRed sb).suspect = false) → Leaves .suspectClear s) ∧
  (∀ (s : State) (c : Ctl) (p : Nat) (pass : Bool), s.standby? = some c → s.red.bistDue = true → s.nextTest c = some p →
    let parts : List Part := [.regs, .ctrs, .cmd, .flt, .loopA, .loopB, .red]
    let tested (t : State) : Prop :=
      t.red.bistDue = false ∧ t.loops (otherCtl c) = s.loops (otherCtl c) ∧
      (t.ctlRed c).bistRuns = (s.ctlRed c).bistRuns + 1 ∧ (t.ctlRed c).bistPaused = false ∧
      (t.ctlRed c).bistFailed = ((s.ctlRed c).bistFailed || !pass) ∧ ((t.ctlRed c).bistEngine.val = (p + 1) % 52) ∧
      (pass = false → (t.engine c p).role = .faulty) ∧ OnlyParts parts s t
    ((s.engine c p).role ≠ .active → After (.standbyEngineTest pass) s fun t =>
      tested t ∧ (pass = true → t.loops c = s.loops c)) ∧
    (∀ q rest, (s.engine c p).role = .active → s.freeSpares c = q :: rest → After (.standbyEngineTest pass) s fun t =>
      tested t ∧ (t.engine c q).role = .active ∧ (t.engine c q).logical = (s.engine c p).logical ∧
      (pass = true → (t.engine c p).role = .spare)) ∧
    ((s.engine c p).role = .active → s.freeSpares c = [] → After (.standbyEngineTest pass) s fun t =>
      t.red.bistDue = false ∧ (t.ctlRed c).bistPaused = true ∧ (t.ctlRed c).bistRuns = (s.ctlRed c).bistRuns ∧
      Frame [.red] [] [] s t)) ∧
  (∀ (s : State) (pass : Bool), s.standby? = none ∨ s.red.bistDue = false → Leaves (.standbyEngineTest pass) s) ∧
  (∀ (s : State) (c : Ctl) (n : Nat), (s.ctlRed c).state.upright = true →
    (After (.controllerScrub c n false) s fun t =>
      t.ctlRed c = { s.ctlRed c with scrubCorrected := (s.ctlRed c).scrubCorrected + n } ∧
      t.ctlRed (otherCtl c) = s.ctlRed (otherCtl c) ∧
      t.ctr 0x200020 = s.ctr 0x200020 + BitVec.ofNat 64 n ∧ Frame [.red] [] [0x200020] s t) ∧
    After (.controllerScrub c n true) s fun t =>
      (t.ctlRed c).scrubCorrected = (s.ctlRed c).scrubCorrected + n ∧
      (t.ctlRed c).scrubUncorr = (s.ctlRed c).scrubUncorr + 1 ∧ t.flt.sent = s.flt.sent ++ [report s c] ∧
      (t.ctlRed c).state = (if (s.ctlRed c).state = .standby then .isolated else (s.ctlRed c).state) ∧
      t.ctlRed (otherCtl c) = s.ctlRed (otherCtl c) ∧
      OnlyParts [.freeCtr, .regs, .ctrs, .cmd, .flt, .red, .acq] s t) ∧
  ∀ (s : State) (c : Ctl) (n : Nat) (unc : Bool), (s.ctlRed c).state.upright = false → Leaves (.controllerScrub c n unc) s

/-- SELFTEST_DONE (R434), BULK_DONE, DELTA_DONE and SHADOW_DONE (R432), CONTROLLER_BIST_DONE (R411). -/
def Obligations.ControllersReturn : Prop :=
  (∀ (s : State) (c : Ctl), (s.ctlRed c).state = .testing →
    (After (.selftestDone c true) s fun t =>
      (t.ctlRed c).state = .syncing ∧ t.red.syncPhase = 1 ∧ t.ctlRed (otherCtl c) = s.ctlRed (otherCtl c) ∧
      Frame [.cmd, .red] [Reg.CMD_IRQ_PENDING] [] s t) ∧
    After (.selftestDone c false) s fun t =>
      (t.ctlRed c).state = .isolated ∧ t.flt.sent = s.flt.sent ++
        [{ code := faultCode fbCtl (ctlNum c), cls := 2, sec := s.tim.dt.sec, ns := s.tim.dt.ns }] ∧
      t.ctlRed (otherCtl c) = s.ctlRed (otherCtl c) ∧ Frame [.cmd, .flt, .red] [Reg.CMD_IRQ_PENDING] [] s t) ∧
  (∀ (s : State) (c : Ctl) (pass : Bool), (s.ctlRed c).state ≠ .testing → Leaves (.selftestDone c pass) s) ∧
  (∀ (s : State) (sb : Ctl) (n : Nat), s.syncing? = some sb → s.red.syncPhase = 1 →
    After (.bulkDone n) s fun t =>
      (∀ e, t.elem sb e = s.elem (otherCtl sb) e) ∧ t.loops (otherCtl sb) = s.loops (otherCtl sb) ∧
      (t.loops sb).engines = (s.loops sb).engines ∧ t.red = { s.red with syncPhase := 2, copies := 0, fresh := true } ∧
      t.ctr 0x700038 = s.ctr 0x700038 + BitVec.ofNat 64 n ∧
      t.ctr 0x200020 = s.ctr 0x200020 + BitVec.ofNat 64 n ∧ Frame [.loopA, .loopB, .red] [] [0x700038, 0x200020] s t) ∧
  (∀ (s : State) (n : Nat), s.syncing? = none ∨ s.red.syncPhase ≠ 1 → Leaves (.bulkDone n) s) ∧
  (∀ (s : State) (sb : Ctl), s.syncing? = some sb → s.red.syncPhase = 2 → 64 ≤ s.red.copies →
    After .deltaDone s fun t =>
      t.red = { s.red with syncPhase := 3, restarts := 0, cleanRun := 0, fresh := true, mism := [], dirty := false } ∧
      Frame [.red] [] [] s t) ∧
  (∀ s : State, s.syncing? = none ∨ s.red.syncPhase ≠ 2 ∨ s.red.copies < 64 → Leaves .deltaDone s) ∧
  (∀ (s : State) (sb : Ctl), s.syncing? = some sb → s.red.syncPhase = 3 → 256 ≤ s.red.cleanRun →
    After .shadowDone s fun t =>
      (t.ctlRed sb).state = .standby ∧ t.red.syncPhase = 0 ∧ t.ctlRed (otherCtl sb) = s.ctlRed (otherCtl sb) ∧
      Frame [.cmd, .red] [Reg.CMD_IRQ_PENDING] [] s t) ∧
  (∀ s : State, s.syncing? = none ∨ s.red.syncPhase ≠ 3 ∨ s.red.cleanRun < 256 → Leaves .shadowDone s) ∧
  (∀ (s : State) (pa pb : Bool), s.glb.state = .structured → s.glb.step = 5 → s.red.a.state = .isolated →
    s.red.b.state = .isolated →
    let okA := pa && s.domOn 48
    let okB := pb && s.domOn 49
    (okA = true ∨ okB = true → After (.controllerBistDone pa pb) s fun t =>
      t.red.a.state = (if okA = false then .isolated
        else if s.img.controller.preferB = true ∧ okB = true then .standby else .active) ∧
      t.red.b.state = (if okB = false then .isolated
        else if s.img.controller.preferB = true ∨ okA = false then .active else .standby) ∧
      Frame [.cmd, .red] [Reg.CMD_IRQ_PENDING] [] s t) ∧
    (okA = false → okB = false → After (.controllerBistDone pa pb) s fun t =>
      t.glb.state = .halted ∧ t.glb.haltCause = 1 ∧ t.red.a.state = .isolated ∧ t.red.b.state = .isolated ∧
      OnlyParts [.freeCtr, .regs, .ctrs, .cmd, .glb, .tim, .red, .acq, .slt, .brt] s t)) ∧
  ∀ (s : State) (pa pb : Bool), s.glb.state ≠ .structured ∨ s.glb.step ≠ 5 ∨ s.red.a.state ≠ .isolated ∨
    s.red.b.state ≠ .isolated → Leaves (.controllerBistDone pa pb) s

/-- FAULT_REPORT (R438 to R446), SAFE_STATE_ENTRY (R449), FAULT_CLEAR (R452), SAFE_STATE_EXIT (R454). -/
def Obligations.FaultsCollected : Prop :=
  let recorded (s t : State) (q : SentFault) (cls : Fin 4) (promoted : Bool) : Prop :=
    let k := s.reactionOf q.code cls
    match s.flt.openRec with
    | none =>
      let i := s.flt.nextSeq.toNat % 256
      let x := t.fltRecord i
      x.code = q.code ∧ x.cls = cls ∧ x.reaction = k ∧ x.isOpen = true ∧ x.promoted = promoted ∧ x.count = 1 ∧
      x.seq = s.flt.nextSeq ∧ x.detNs = q.ns ∧ x.entries = [] ∧ t.flt.nextSeq = s.flt.nextSeq + 1 ∧
      t.flt.openRec.map Fin.val = some i ∧ (∀ j, j ≠ i → t.fltRecord j = s.fltRecord j)
    | some i =>
      let e : FltEntry :=
        { code := q.code, cls := cls, promoted := promoted, persist := false, tsNs := BitVec.ofNat 32 q.time }
      t.fltRecord i.val = (s.fltRecord i.val).merge e k ∧ t.flt.openRec = some i ∧ t.flt.nextSeq = s.flt.nextSeq ∧
      (∀ j, j ≠ i.val → t.fltRecord j = s.fltRecord j)
  let lasting (s t : State) (q : SentFault) (promoted : Bool) : Prop :=
    recorded s t q 2 promoted ∧ t.ctr 0x200030 = s.ctr 0x200030 + 1 ∧
    (codeBlk q.code = fbElem0 → s.isParked (codeSrc q.code) = false →
      (∀ x ∈ s.mtx.pending, x.1 ≠ codeSrc q.code) →
      codeSrc q.code ∈ t.mtx.field ∧ ∃ b, (codeSrc q.code, b) ∈ t.mtx.pending) ∧
    (codeBlk q.code = fbCtl → (s.ctlRed (ctlOf (codeSrc q.code))).state = .standby →
      (t.ctlRed (ctlOf (codeSrc q.code))).state = .isolated) ∧
    OnlyParts [.freeCtr, .regs, .ctrs, .cmd, .flt, .loopA, .loopB, .mtx, .red, .acq] s t
  (∀ (s : State) (r : FaultRep) (q : SentFault) (rest : List SentFault),
    sortBy SentFault.before s.flt.sent = q :: rest → q.code = faultCode r.block.val r.src.toNat → q.cls = r.cls →
    let live := (s.flt.windows.find? fun w => decide (w.code = q.code)).filter fun w =>
      decide (q.time ≤ w.start + w.w * 1000000)
    let have_ := (live.map FltWindow.count).getD 0
    let need := (live.map FltWindow.n).getD (s.windowN q.code)
    (q.cls = 1 → q.code ∈ s.flt.promoted → After (.faultReport r) s fun t =>
      t.flt = { s.flt with sent := s.flt.sent.erase q } ∧ t.ctr 0x200028 = s.ctr 0x200028 + 1 ∧
      Frame [.flt] [] [0x200028] s t) ∧
    (q.cls = 1 → q.code ∉ s.flt.promoted → have_ + 1 < need → After (.faultReport r) s fun t =>
      recorded s t q 1 false ∧ t.flt.sent = s.flt.sent.erase q ∧ t.flt.promoted = s.flt.promoted ∧
      t.ctr 0x200028 = s.ctr 0x200028 + 1 ∧
      (∃ w ∈ t.flt.windows, w.code = q.code ∧ w.count = have_ + 1 ∧ w.n = need) ∧
      Frame [.cmd, .flt, .acq] [Reg.CMD_IRQ_PENDING] [0x200028] s t) ∧
    (q.cls = 1 → q.code ∉ s.flt.promoted → need ≤ have_ + 1 → After (.faultReport r) s fun t =>
      lasting s t q true ∧ q.code ∈ t.flt.promoted ∧ (∀ w ∈ t.flt.windows, w.code ≠ q.code) ∧
      t.ctr 0x200040 = s.ctr 0x200040 + 1) ∧
    (q.cls = 2 → After (.faultReport r) s fun t =>
      lasting s t q false ∧ t.flt.promoted = s.flt.promoted ∧ t.flt.windows = s.flt.windows) ∧
    (q.cls ≠ 1 → q.cls ≠ 2 → After (.faultReport r) s fun t =>
      recorded s t q q.cls false ∧ t.flt.sent = s.flt.sent.erase q ∧
      t.ctr (0x200020 + 8 * q.cls.val) = s.ctr (0x200020 + 8 * q.cls.val) + 1 ∧
      (q.cls = 3 → s.flt.openRec = none → t.rdBit Reg.CMD_IRQ_PENDING 0 = true) ∧
      Frame [.cmd, .flt, .acq] [Reg.CMD_IRQ_PENDING] [0x200020 + 8 * q.cls.val] s t)) ∧
  (∀ (s : State) (r : FaultRep),
    (∀ q rest, sortBy SentFault.before s.flt.sent = q :: rest → ¬(q.code = faultCode r.block.val r.src.toNat ∧ q.cls = r.cls)) →
    Leaves (.faultReport r) s) ∧
  (∀ s : State, s.flt.signals ≠ [] →
    After .safeStateEntry s fun t =>
      t.flt = { s.flt with safe := true, signals := [], safeEnding := false } ∧ t.glb.quiescing = false ∧
      (∀ k, k < 512 → s.flt.safe = false → s.isLead k = true → s.portActs k = true → (s.port k).tx = none →
        s.pfcTxEn k = false → (t.port k).txLf = true) ∧
      (s.img.phase = .drain → t.img.phase = .none ∧ t.img.err = 0xD ∧ t.glb.state = s.glb.rsReturn) ∧
      (s.img.phase ≠ .drain → t.img = s.img ∧ t.sec = s.sec ∧ t.glb.state = s.glb.state) ∧
      (s.glb.quiescing = true → t.rdBit Reg.GLB_CTRL 9 = true ∧ t.rdBit Reg.GLB_CTRL 2 = false) ∧
      Frame [.cmd, .sec, .flt, .glb, .img, .acq, .ports] [Reg.GLB_CTRL, Reg.CMD_IRQ_PENDING] [] s t) ∧
  (∀ s : State, s.flt.signals = [] → Leaves .safeStateEntry s) ∧
  (∀ (s : State) (p : CmdPort) (v : Word), Permitted s p Reg.FLT_CLEAR 1 →
    let u := s.plainWrite p Reg.FLT_CLEAR (withBit v 0)
    (s.flt.openRec = none → After (.faultClear p v) s fun t => t = u ∧ Frame [] [Reg.FLT_CLEAR] [] s t) ∧
    ∀ i, s.flt.openRec = some i →
      let r := s.fltRecord i.val
      let gone : Prop := u.causeGone r.code r.cls = true ∧ ∀ e ∈ r.entries, u.causeGone e.code e.cls = true
      (gone → After (.faultClear p v) s fun t =>
        t.flt.openRec = none ∧ (t.fltRecord i.val).isOpen = false ∧ (t.fltRecord i.val).code = r.code ∧
        (t.fltRecord i.val).clearedByRestart = false ∧ (t.fltRecord i.val).clrNs = s.tim.dt.ns ∧
        t.flt.promoted = [] ∧ t.flt.safe = s.flt.safe ∧ t.flt.sent = s.flt.sent ∧
        (r.safe = false → t.flt.safeEnding = s.flt.safeEnding) ∧
        (r.safe = true → s.flt.signals = [] → (∀ x ∈ s.flt.sent, x.cls ≠ 3) → t.flt.safeEnding = true) ∧
        Frame [.flt] [Reg.FLT_CLEAR] [] s t) ∧
      (¬ gone → After (.faultClear p v) s fun t =>
        t.flt.openRec = some i ∧ t.rdBit Reg.FLT_CLEAR 1 = true ∧ t.ctr 0x200044 = s.ctr 0x200044 + 1 ∧
        (t.fltRecord i.val).isOpen = r.isOpen ∧ (t.fltRecord i.val).persist = !u.causeGone r.code r.cls ∧
        Frame [.flt] [Reg.FLT_CLEAR] [0x200044] s t)) ∧
  (∀ s : State, s.flt.safe = true → s.flt.safeEnding = true → Sparse.wf (fun _ => {}) s.ports = true →
    After .safeStateExit s fun t =>
      t.flt = { s.flt with safe := false, safeEnding := false, outHeld := true } ∧
      (∀ k, t.port k = { s.port k with txLf := false }) ∧
      (∀ h, s.slt.hold = some h → h.g = none → t.slt.hold = some { h with g := some (s.slt.slot + 3) }) ∧
      (s.slt.hold = none → t.slt = s.slt ∧ t.brt = s.brt) ∧ OnlyParts [.flt, .slt, .brt, .ports] s t) ∧
  ∀ s : State, s.flt.safe = false ∨ s.flt.safeEnding = false → Leaves .safeStateExit s

/-- SENSOR_READING (R459 to R461), THRESHOLD_ASSERT and THRESHOLD_RELEASE (R463, R466, R467), EMITTER_THROTTLE_STEP (R465),
THROTTLE_OFF_PHASE (R464), NVM_WINDOW_OPEN (R469), THERMAL_RECORD_WRITE (R471). Dwells are counted in readings
(the model's choice, assumption 137). -/
def Obligations.ThermalSupervised : Prop :=
  let report (s : State) (z : Nat) (cls : Fin 4) : SentFault :=
    { code := faultCode fbThm z, cls := cls, sec := s.tim.dt.sec, ns := s.tim.dt.ns }
  let due (s : State) (z : Nat) (h : Threshold) : Prop :=
    (s.zone z).asserted h = false ∧ ((s.zone z).dwell h).up.lasted 5 = true ∧ s.glb.state ≠ .off
  let ends (s : State) (z : Nat) (h : Threshold) : Prop :=
    (s.zone z).asserted h = true ∧ ((s.zone z).dwell h).down.lasted 500 = true ∧ ¬(h = .shutdown ∧ zoneKind z ≠ 0)
  (∀ (s : State) (z : Fin 76) (k : Fin 2) (deg : Int) (frac : Fin 16), s.glb.state ≠ .off →
    let raw : Int := 16 * deg + frac.val
    let mine (x : Zone) : Sensor := if k = 0 then x.s0 else x.s1
    let other (x : Zone) : Sensor := if k = 0 then x.s1 else x.s0
    let was := mine (s.zone z)
    let old := other (s.zone z)
    let stuck : Prop := was.seen = true ∧ was.reading = raw ∧ 99 ≤ was.same
    let ok : Prop := was.cause = 0 ∧ -640 ≤ raw ∧ raw ≤ 2240 ∧ ¬stuck
    let apart : Prop := old.seen = true ∧ old.cause = 0 ∧ 160 < (raw - old.reading).natAbs
    let only (t : State) : Prop :=
      (∀ w, w ≠ z.val → t.zone w = s.zone w) ∧
      (∀ h, (t.zone z).dwell h = ((s.zone z).dwell h).step z h k (t.zone z).temp) ∧
      (z ≠ 63 ∨ (0 ≤ (t.zone 63).temp ∧ (t.zone 63).temp ≤ 1520) →
        t.thm.nvmOk = s.thm.nvmOk ∧ t.img = s.img ∧ t.cal = s.cal) ∧
      (z = 63 → (t.zone 63).temp < 0 → t.thm.nvmOk = false ∧ t.img = s.img ∧ t.cal = s.cal) ∧
      (z = 63 → 1520 < (t.zone 63).temp → t.thm.nvmOk = false ∧ t.img.commitBusy = false ∧
        t.img.commitWait = (s.img.commitWait || s.img.commitBusy) ∧ t.cal.storing = s.cal.storing ∧
        t.cal.storeWait = (s.cal.storeWait || s.cal.storing.isSome)) ∧
      Frame [.flt, .thm, .img, .cal] [] [] s t
    (ok → ¬apart → After (.sensorReading z k deg frac) s fun t =>
      (mine (t.zone z)).temp = raw ∧ (mine (t.zone z)).cause = 0 ∧ other (t.zone z) = old ∧ t.flt = s.flt ∧
      t.thm.events = s.thm.events ∧ only t) ∧
    (ok → apart → After (.sensorReading z k deg frac) s fun t =>
      (t.zone z).s0.temp = 2400 ∧ (t.zone z).s1.temp = 2400 ∧
      t.flt = { s.flt with sent := s.flt.sent ++ [report s z 2, report s z 2] } ∧ only t) ∧
    (¬ok → was.cause = 0 → After (.sensorReading z k deg frac) s fun t =>
      (mine (t.zone z)).temp = 2400 ∧ other (t.zone z) = old ∧
      t.flt = { s.flt with sent := s.flt.sent ++ [report s z 2] } ∧
      (s.thm.events.length < 16 → t.thm.events =
        s.thm.events ++ [{ kind := 1, zone := z, sec := s.tim.dt.sec, ns := s.tim.dt.ns }]) ∧ only t) ∧
    (was.cause ≠ 0 → After (.sensorReading z k deg frac) s fun t =>
      (mine (t.zone z)).temp = 2400 ∧ other (t.zone z) = old ∧ t.flt = s.flt ∧ t.thm.events = s.thm.events ∧ only t)) ∧
  (∀ (s : State) (z : Fin 76) (k : Fin 2) (deg : Int) (frac : Fin 16), s.glb.state = .off → Leaves (.sensorReading z k deg frac) s) ∧
  (∀ (s : State) (z : Fin 76), due s z .warning →
    After (.thresholdAssert z .warning) s fun t =>
      t.zone z = { s.zone z with warn := true } ∧ (∀ w, w ≠ z.val → t.zone w = s.zone w) ∧
      t.flt = { s.flt with sent := s.flt.sent ++ [report s z 1] } ∧
      Frame [.cmd, .flt, .thm] [Reg.CMD_IRQ_PENDING] [] s t) ∧
  (∀ (s : State) (z : Fin 76), due s z .throttle →
    let on (t : State) : Prop :=
      (t.zone z).throttle = true ∧
      (t.zone z).db.val = (if zoneKind z = 0 then (s.zone z).db.val else min 3 ((s.zone z).db.val + 1)) ∧
      (∀ w, w ≠ z.val → t.zone w = s.zone w) ∧ report s z 1 ∈ t.flt.sent
    (zoneKind z = 0 ∨ s.glb.state ≠ .calibrating → After (.thresholdAssert z .throttle) s fun t =>
      on t ∧ Frame [.cmd, .flt, .thm] [Reg.CMD_IRQ_PENDING] [] s t) ∧
    (zoneKind z ≠ 0 → s.glb.state = .calibrating → s.validAreas ≠ [] → After (.thresholdAssert z .throttle) s fun t =>
      on t ∧ t.cal.fullBusy = false ∧ t.glb.state = .locking) ∧
    (zoneKind z ≠ 0 → s.glb.state = .calibrating → s.validAreas = [] → After (.thresholdAssert z .throttle) s fun t =>
      on t ∧ t.cal.fullBusy = false ∧ t.glb.state = .halted ∧ t.glb.haltCause = 2)) ∧
  (∀ (s : State) (z : Fin 76), due s z .shutdown →
    let on (t : State) : Prop :=
      t.zone z = { s.zone z with shutdown := true } ∧ (∀ w, w ≠ z.val → t.zone w = s.zone w) ∧
      (s.thm.events.length < 16 → t.thm.events =
        s.thm.events ++ [{ kind := 0, zone := z, sec := s.tim.dt.sec, ns := s.tim.dt.ns }]) ∧
      (16 ≤ s.thm.events.length → t.thm.events = s.thm.events ∧ t.thm.lost = s.thm.lost + 1) ∧
      t.adc = s.adc ∧ t.highLatch = s.highLatch ∧ t.nextPkt = s.nextPkt
    (zoneKind z ≠ 0 → After (.thresholdAssert z .shutdown) s fun t =>
      on t ∧ report s z 3 ∈ t.flt.sent ∧ faultCode fbThm z ∈ t.flt.signals ∧ t.thm.picLatched = true ∧
      t.glb.state = .halted ∧ (s.glb.state ≠ .halted → t.glb.haltCause = 5) ∧ t.drv.picOff = true ∧ t.drv.sel = 0 ∧
      (Sparse.wf (fun _ => {}) s.mtx.emitters = true → ∀ n i, (t.emitter n i).on = false)) ∧
    (z = 62 ∨ z = 63 → After (.thresholdAssert z .shutdown) s fun t =>
      on t ∧ report s z 3 ∈ t.flt.sent ∧ t.thm.coreLatched = true ∧ t.glb.state = .halted ∧
      (s.glb.state ≠ .halted → t.glb.haltCause = 6) ∧
      (∀ d, d < 63 → t.domOn d = false) ∧ t.domOn 63 = s.domOn 63) ∧
    (zoneKind z = 0 → z ≠ 62 → z ≠ 63 → After (.thresholdAssert z .shutdown) s fun t =>
      on t ∧ t.domOn z = false ∧ report s z (if 50 ≤ z.val ∧ z.val < 54 then 3 else 2) ∈ t.flt.sent)) ∧
  (∀ (s : State) (z : Fin 76) (h : Threshold), ¬ due s z h → Leaves (.thresholdAssert z h) s) ∧
  (∀ (s : State) (z : Fin 76) (h : Threshold), ends s z h →
    After (.thresholdRelease z h) s fun t =>
      t.zone z = (s.zone z).mark h false ∧ (∀ w, w ≠ z.val → t.zone w = s.zone w) ∧
      (h = .throttle → ∀ c, c < 16 → t.chipThrottled c = false → t.thm.offPhase.getLsbD c = false) ∧
      (h ≠ .throttle → t.thm.offPhase = s.thm.offPhase) ∧
      Frame [.cmd, .thm] [Reg.CMD_IRQ_PENDING] [] s t) ∧
  (∀ (s : State) (z : Fin 76) (h : Threshold), ¬ ends s z h → Leaves (.thresholdRelease z h) s) ∧
  (∀ (s : State) (z : Fin 76), zoneKind z ≠ 0 →
    After (.emitterThrottleStep z) s fun t =>
      (t.zone z).db.val =
        (if (s.zone z).throttle then min 3 ((s.zone z).db.val + 1) else (s.zone z).db.val - 1) ∧
      t.zone z = { s.zone z with db := (t.zone z).db } ∧ (∀ w, w ≠ z.val → t.zone w = s.zone w) ∧
      Frame [.thm] [] [] s t) ∧
  (∀ (s : State) (z : Fin 76), zoneKind z = 0 → Leaves (.emitterThrottleStep z) s) ∧
  (∀ (s : State) (c : Fin 16) (off : Bool),
    After (.throttleOffPhase c off) s fun t =>
      t.thm = { s.thm with offPhase := t.thm.offPhase } ∧
      t.thm.offPhase.getLsbD c = (off && s.chipThrottled c) ∧
      (∀ d, d ≠ c.val → t.thm.offPhase.getLsbD d = s.thm.offPhase.getLsbD d) ∧ Frame [.thm] [] [] s t) ∧
  (∀ s : State, (s.zone 63).windowD.lasted 500 = true → s.glb.vin ≠ .collapsed →
    After .nvmWindowOpen s fun t =>
      t.thm = { s.thm with nvmOk := true } ∧
      t.flt = { s.flt with nvmLog := s.flt.nvmLog ++ s.flt.nvmWait, nvmWait := [] } ∧
      t.img = { s.img with commitBusy := s.img.commitBusy || s.img.commitWait, commitWait := false } ∧
      t.cal = { s.cal with storeWait := false } ∧ Frame [.flt, .thm, .img, .cal] [] [] s t) ∧
  (∀ s : State, (s.zone 63).windowD.lasted 500 = false ∨ s.glb.vin = .collapsed → Leaves .nvmWindowOpen s) ∧
  (∀ (s : State) (r : ThermalRec) (rest : List ThermalRec), s.thm.events = r :: rest → s.thm.nvmOk = true →
    s.thm.nvmLog.length ≤ 1024 →
    After .thermalRecordWrite s fun t =>
      t.thm.events = rest ∧
      t.thm.nvmLog = (if s.thm.nvmLog.length = 1024 then s.thm.nvmLog.tail else s.thm.nvmLog) ++ [r] ∧
      t.thm = { s.thm with events := t.thm.events, nvmLog := t.thm.nvmLog } ∧ Frame [.thm] [] [] s t) ∧
  ∀ s : State, s.thm.events = [] ∨ s.thm.nvmOk = false → Leaves .thermalRecordWrite s

/-- STAGE_OPEN, STAGE_DONE, DISCARD (R484, R485), STAGE_WRITE (R484), COMMIT and COMMIT_DONE (R486), IMAGE_VERIFY_DONE
(R480, R487, R488). -/
def Obligations.ImagesStaged : Prop :=
  let may (s : State) (p : CmdPort) (v : Word) : Prop :=
    Permitted s p Reg.GLB_IMG_CTRL 2 ∧ (s.img.owner = none ∨ s.img.owner = some p) ∧ v &&& 0x7F = 0
  let busy (s : State) : Prop :=
    s.img.stage = .verifying ∨ s.img.commitBusy = true ∨ s.img.commitWait = true ∨ s.img.phase ≠ .none
  let errs (s t : State) (e : BitVec 4) : Prop := t.img = { s.img with err := e } ∧ Frame [.img] [] [] s t
  let empty (s t : State) (g : StageSt) (o : Option CmdPort) : Prop :=
    t.img = { s.img with stage := g, owner := o, buf := [], stageLen := 0, staged := none } ∧ Frame [.img] [] [] s t
  let fails (s t : State) (e : BitVec 4) : Prop :=
    t.img = { s.img with err := e } ∧
    t.sec = (s.audit 0x12 s.imgPort 2 (BitVec.ofNat 32 Reg.GLB_IMG_CTRL) (e.setWidth 32)).sec ∧
    Frame [.cmd, .sec, .img] [Reg.CMD_IRQ_PENDING] [] s t
  let written (s t : State) : Prop :=
    let x : ImgSlot := { bytes := s.img.buf, len := s.img.stageLen, valid := true, passed := false }
    t.img = { s.img with
      slot0 := if s.img.bootSlot = 0 then s.img.slot0 else x, slot1 := if s.img.bootSlot = 0 then x else s.img.slot1
      commitBusy := false, bootSlot := if s.img.delivered then 0 else s.img.bootSlot, delivered := false }
  let boots (t : State) (m : Image) : Prop :=
    t.img.inForce = some m ∧ t.img.locked = true ∧ t.img.controller = imageController m ∧ t.glb.state = .structured ∧
    t.glb.powerOrder = powerOrderOf (imageController m)
  (∀ (s : State) (p : CmdPort) (v : Word), may s p v →
    (s.img.stage ≠ .opened → ¬busy s → After (.stageOpen p v) s fun t => empty s t .opened (some p)) ∧
    (s.img.stage = .opened ∨ busy s → After (.stageOpen p v) s fun t => errs s t 9) ∧
    (s.img.stage = .opened → s.img.verifying = none → After (.stageDone p v) s fun t =>
      t.img = { s.img with stage := .verifying, verifying := some .staged } ∧ Frame [.img] [] [] s t) ∧
    (s.img.stage = .opened → s.img.verifying ≠ none → After (.stageDone p v) s fun t =>
      t.img = { s.img with stage := .verifying } ∧ Frame [.img] [] [] s t) ∧
    (s.img.stage ≠ .opened → Leaves (.stageDone p v) s) ∧
    (¬busy s → After (.discard p v) s fun t => empty s t .empty none) ∧
    (busy s → After (.discard p v) s fun t => errs s t 9) ∧
    (s.img.commitBusy = false → s.img.commitWait = false → s.img.stage = .full → s.thm.nvmOk = true →
      After (.commit p v) s fun t => t.img = { s.img with commitBusy := true } ∧ Frame [.img] [] [] s t) ∧
    (s.img.commitBusy = false → s.img.commitWait = false → s.img.stage = .full → s.thm.nvmOk = false →
      After (.commit p v) s fun t => t.img = { s.img with commitWait := true } ∧ Frame [.img] [] [] s t) ∧
    (s.img.commitBusy = false → s.img.commitWait = false → s.img.stage = .overlay →
      After (.commit p v) s fun t => fails s t 0xA) ∧
    (s.img.commitBusy = false → s.img.commitWait = false → s.img.stage ≠ .overlay → s.img.stage ≠ .full →
      After (.commit p v) s fun t => fails s t 9) ∧
    (s.img.commitBusy = true ∨ s.img.commitWait = true → Leaves (.commit p v) s)) ∧
  (∀ (s : State) (p : CmdPort) (v : Word), Permitted s p Reg.GLB_IMG_CTRL 2 → s.img.owner ≠ none →
    s.img.owner ≠ some p → ∀ c ∈ [Instr.stageOpen p v, .stageDone p v, .discard p v, .commit p v],
    After c s fun t =>
      t.sec = (s.audit 0x03 (portNum p) 2 (BitVec.ofNat 32 Reg.GLB_IMG_CTRL) 0).sec ∧ Frame [.sec] [] [] s t) ∧
  (∀ (s : State) (p : CmdPort) (off : BitVec 25) (data : List Byte), Permitted s p (0x38000000 + off.toNat) 2 →
    let d := data.take (25165824 - off.toNat)
    let mine : Prop := s.img.owner = none ∨ s.img.owner = some p
    (mine → s.img.stage = .opened → d ≠ [] → After (.stageWrite p off data) s fun t =>
      (∀ i, Sparse.get (fun _ => 0) t.img.buf i =
        if off.toNat ≤ i ∧ i < off.toNat + d.length then d.getD (i - off.toNat) 0
        else Sparse.get (fun _ => 0) s.img.buf i) ∧
      t.img = { s.img with buf := t.img.buf, stageLen := max s.img.stageLen (off.toNat + d.length) } ∧
      Frame [.img] [] [] s t) ∧
    (¬mine → After (.stageWrite p off data) s fun t =>
      t.sec = (s.audit 0x03 (portNum p) 2 (BitVec.ofNat 32 (0x38000000 + off.toNat)) 0).sec ∧ Frame [.sec] [] [] s t) ∧
    (mine → s.img.stage ≠ .opened ∨ d = [] → Leaves (.stageWrite p off data) s)) ∧
  (∀ s : State, s.img.commitBusy = true → s.glb.restart ≠ .waiting →
    After .commitDone s fun t => written s t ∧ Frame [.cmd, .sec, .img] [Reg.CMD_IRQ_PENDING] [] s t) ∧
  (∀ s : State, s.img.commitBusy = true → s.glb.restart = .waiting → s.img.commitWait = false → s.sec.zeroizing = none →
    s.cal.storing = none → s.sec.fuse = none → s.sec.retirePending = none →
    After .commitDone s fun t =>
      t.glb.state = .aon ∧ (if s.img.bootSlot = 0 then t.img.slot1 else t.img.slot0).bytes = s.img.buf) ∧
  (∀ s : State, s.img.commitBusy = false → s.glb.restart ≠ .waiting → Leaves .commitDone s) ∧
  (∀ s : State, s.img.verifying = none → Leaves .imageVerifyDone s) ∧
  (∀ (s : State) (e : VErr), s.img.verifying = some .staged → s.verifyImage s.stagedBytes true = .error e →
    After .imageVerifyDone s fun t =>
      t.img = { s.img with
        verifying := none, stage := .failed, err := BitVec.ofNat 4 e.code, faultSection := BitVec.ofNat 5 e.sect
        faultOffset := BitVec.ofNat 24 e.off } ∧
      t.sec = (s.audit 0x11 s.imgPort 2 0 (BitVec.ofNat 32 e.code)).sec ∧
      Frame [.cmd, .sec, .img] [Reg.CMD_IRQ_PENDING] [] s t) ∧
  (∀ (s : State) (m : Image), s.img.verifying = some .staged → s.verifyImage s.stagedBytes true = .ok m →
    (s.glb.state = .boot → m.overlay = false → After .imageVerifyDone s fun t => boots t m) ∧
    (¬(s.glb.state = .boot ∧ m.overlay = false) → After .imageVerifyDone s fun t =>
      t.img = { s.img with
        verifying := none, stage := if m.overlay then .overlay else .full, staged := some m, err := 0 } ∧
      Frame [.cmd, .img] [Reg.CMD_IRQ_PENDING] [] s t)) ∧
  (∀ (s : State) (i : Fin 2) (m : Image), s.img.verifying = some (.slot i) →
    s.verifyImage (s.img.slot i).all false = .ok m → After .imageVerifyDone s fun t => boots t m) ∧
  ∀ (s : State) (i : Fin 2) (e : VErr), s.img.verifying = some (.slot i) →
    s.verifyImage (s.img.slot i).all false = .error e →
    After .imageVerifyDone s fun t =>
      t.img = { s.img with
        err := BitVec.ofNat 4 e.code, faultSection := BitVec.ofNat 5 e.sect, faultOffset := BitVec.ofNat 24 e.off
        verifying :=
          if s.img.firstTried = some i ∧ (s.img.slot (1 - i)).valid = true then some (.slot (1 - i))
          else if s.img.stage = .verifying then some .staged else none } ∧
      t.sec = (s.audit 0x11 0 0 0 (BitVec.ofNat 32 (e.code + 16))).sec ∧ Frame [.sec, .img] [] [] s t

/-- RESTRUCTURE (R492), DRAIN_END and APPLY_END (R493), RESTRUCTURE_SWITCH (R494, R496), DRAIN_LIMIT_EXPIRY and ABANDON
(R495), OVERLAY (R489, R490). -/
def Obligations.RestructureRuns : Prop :=
  let may (s : State) (p : CmdPort) (v : Word) : Prop :=
    Permitted s p Reg.GLB_IMG_CTRL 2 ∧ (s.img.owner = none ∨ s.img.owner = some p) ∧ v &&& 0x7F = 0
  let audited (s t : State) (code e : Nat) : Prop :=
    t.sec = (s.audit code s.imgPort 2 (BitVec.ofNat 32 Reg.GLB_IMG_CTRL) (BitVec.ofNat 32 e)).sec
  let fails (s t : State) (code e : Nat) : Prop :=
    t.img = { s.img with err := BitVec.ofNat 4 e } ∧ audited s t code e ∧
    Frame [.cmd, .sec, .img] [Reg.CMD_IRQ_PENDING] [] s t
  let inService (s : State) : Prop := s.glb.state = .service ∨ s.glb.state = .quiesced
  let ready (s : State) : Prop :=
    inService s ∧ s.img.stage = .full ∧ s.flt.safe = false ∧ s.red.a.state ≠ .syncing ∧ s.red.b.state ≠ .syncing
  let drainEnds (c : Instr) (s : State) : Prop :=
    (s.img.phase = .drain → s.glb.quiescing = false → After c s fun t =>
      t.img = { s.img with phase := .none, err := 0xD } ∧ t.glb.state = s.glb.rsReturn ∧ audited s t 0x13 0xD ∧
      Frame [.cmd, .sec, .glb, .img] [Reg.CMD_IRQ_PENDING] [] s t) ∧
    (s.img.phase ≠ .drain → s.glb.quiescing = true → After c s fun t =>
      t.glb = { s.glb with quiescing := false } ∧ t.rdBit Reg.GLB_CTRL 9 = true ∧ t.rdBit Reg.GLB_CTRL 2 = false ∧
      Frame [.glb] [Reg.GLB_CTRL] [] s t) ∧
    (s.img.phase ≠ .drain → s.glb.quiescing = false → Leaves c s)
  (∀ (s : State) (p : CmdPort) (v : Word), may s p v →
    (s.img.phase = .none → ready s → clocksBody s.img.staged = clocksBody s.img.inForce →
      After (.restructure p v) s fun t =>
        t.img = { s.img with phase := .drain } ∧ t.glb.state = .restructure ∧ t.glb.rsReturn = s.glb.state ∧
        Frame [.cmd, .glb, .img] [Reg.CMD_IRQ_PENDING] [] s t) ∧
    (s.img.phase = .none → ¬ready s → After (.restructure p v) s fun t => fails s t 0x13 9) ∧
    (s.img.phase = .none → ready s → clocksBody s.img.staged ≠ clocksBody s.img.inForce →
      After (.restructure p v) s fun t => fails s t 0x13 0xC) ∧
    (s.img.phase ≠ .none → Leaves (.restructure p v) s) ∧
    drainEnds (.abandon p v) s) ∧
  (∀ s : State, drainEnds .drainLimitExpiry s) ∧
  (∀ s : State, s.img.phase = .drain → s.drained = true →
    After .drainEnd s fun t =>
      t.img = { s.img with phase := .apply } ∧
      (∀ c : Fin 16, s.chipOn c = true → (t.chip c).swap = none ∧ (t.chip c).ucSwap = none ∧
        ((s.chip c).swap ≠ none → (t.chip c).active = 1 - (s.chip c).active ∧
          (t.chip c).epoch = (s.chip c).epoch + 1) ∧
        ((s.chip c).ucSwap ≠ none → (t.chip c).ucActive = 1 - (s.chip c).ucActive)) ∧
      (∀ c : Fin 16, s.chipOn c = false → t.chip c = s.chip c) ∧ OnlyParts [.freeCtr, .regs, .ctrs, .cmd, .flt, .img, .chips] s t) ∧
  (∀ s : State, s.img.phase ≠ .drain ∨ s.drained = false → Leaves .drainEnd s) ∧
  (∀ (s : State) (m : Image), s.img.phase = .apply → s.img.staged = some m →
    After .applyEnd s fun t =>
      t.img.phase = .switching ∧ t.img.locked = true ∧ t.img.controller = imageController m) ∧
  (∀ s : State, s.img.phase ≠ .apply ∨ s.img.staged = none → Leaves .applyEnd s) ∧
  (∀ (s : State) (m : Image), s.img.phase = .switching → s.img.staged = some m → s.slt.slot % 512 = 0 →
    s.flt.safe = false → s.red.gapEnd = none →
    After .restructureSwitch s fun t =>
      t.img = { s.img with
        ports := imagePorts m, tenants := imageTenants m, nextEngines := some (imageEngines m), inForce := some m
        phase := .none } ∧
      t.glb.state = s.glb.rsReturn ∧
      (match bodyOf m.sections secCalendar with
       | some _ => t.slt.activeArea = s.slt.activeArea + 1 ∧ t.slt.change = none
       | none => t.slt.activeArea = s.slt.activeArea ∧ t.slt.change = s.slt.change) ∧
      (∀ (c : Fin 16) (n : Nat) (x : Pkt), n ∈ (t.chip c).voq → t.pkt n = some x →
        t.imgEnables x.eg = true ∧ t.tenant x.eg = t.tenant x.ing) ∧
      t.brt.epochAll = s.brt.epochAll + 1 ∧
      OnlyParts [.regs, .ctrs, .cmd, .sec, .glb, .img, .slt, .brt, .pkts, .ports, .chips] s t) ∧
  (∀ s : State, s.img.phase ≠ .switching ∨ s.img.staged = none ∨ s.slt.slot % 512 ≠ 0 ∨ s.flt.safe = true ∨
    s.red.gapEnd ≠ none → Leaves .restructureSwitch s) ∧
  (∀ (s : State) (p : CmdPort) (v : Word), may s p v →
    s.img.staged = none ∨ ¬ inService s ∨ s.img.stage ≠ .overlay → After (.overlay p v) s fun t => fails s t 0x14 9) ∧
  (∀ (s : State) (p : CmdPort) (v : Word) (m : Image), may s p v → s.img.staged = some m → inService s →
    s.img.stage = .overlay →
    let us := ucodeSections m.sections
    let cal := bodyOf m.sections secCalendar
    let refused : Prop :=
      (∃ x ∈ us, ∃ c ∈ s.namedChips x, s.ucodeRefusals (swapSlotOf x.body) c ≠ []) ∨
      ∃ b, cal = some b ∧ s.calendarRefusals b ≠ []
    (¬refused → After (.overlay p v) s fun t =>
      t.img = s.img ∧ audited s t 0x14 0 ∧
      (∀ x ∈ us, ∀ c ∈ s.namedChips x, c < 16 → (t.chip c).ucSwap ≠ none ∧
        (t.chip c).ucActive = (s.chip c).ucActive) ∧
      (∀ y, cal = some y → t.slt = { s.slt with change := some (slotOf (takeoverOf y)) } ∧
        t.rdBit Reg.SLT_CHANGE_CTRL 0 = true) ∧ (cal = none → t.slt = s.slt) ∧
      OnlyParts [.regs, .cmd, .sec, .slt, .chips] s t) ∧
    (refused → After (.overlay p v) s fun t =>
      t.img = { s.img with err := 0xB } ∧ audited s t 0x14 0xB ∧
      (∀ x ∈ us, ∀ c ∈ s.namedChips x, ∀ b ∈ s.ucodeRefusals (swapSlotOf x.body) c,
        t.rdBit (prsReg c Reg.PRS_BANK_CTRL) b = true) ∧
      (∀ y, cal = some y → ∀ b ∈ s.calendarRefusals y, t.rdBit Reg.SLT_CHANGE_CTRL b = true) ∧
      OnlyParts [.regs, .cmd, .sec, .img] s t)) ∧
  ∀ (s : State) (p : CmdPort) (v : Word), Permitted s p Reg.GLB_IMG_CTRL 2 → s.img.owner ≠ none →
    s.img.owner ≠ some p → ∀ c ∈ [Instr.restructure p v, .overlay p v, .abandon p v],
    After c s fun t =>
      t.sec = (s.audit 0x03 (portNum p) 2 (BitVec.ofNat 32 Reg.GLB_IMG_CTRL) 0).sec ∧ Frame [.sec] [] [] s t

/-- R601, for COUNTER_LOW_READ and for the read of a high word that follows. -/
def Obligations.CountersReadInHalves : Prop :=
  let latch (s : State) (b : Blk) (p : CmdPort) : Word := Sparse.get (fun _ => 0) s.highLatch (latchKey b p)
  (∀ (s : State) (p : CmdPort) (a : BitVec 28) (b : Blk) (o : Nat), Permitted s p a.toNat 0 →
    locate a.toNat = some (b, o) → isLow64 b o = true →
    After (.counterLowRead p a) s fun t =>
      (t.lastRd p).toNat = (s.value64 b o).toNat % 4294967296 ∧
      (latch t b p).toNat = (s.value64 b o).toNat / 4294967296 ∧
      (∀ (h : BitVec 28), h.toNat = a.toNat + 4 →
        After (.counterLowRead p h) t fun u =>
          (u.lastRd p).toNat = (s.value64 b o).toNat / 4294967296 ∧ u.highLatch = t.highLatch) ∧
      (∀ q, q ≠ p → t.lastRd q = s.lastRd q) ∧
      (∀ (x : Nat) (b' : Blk) (o' : Nat) (q : CmdPort), locate x = some (b', o') → ¬(b' = b ∧ q = p) →
        latch t b' q = latch s b' q) ∧
      Frame [.highLatch, .cmd] [] [] s t) ∧
  ∀ (s : State) (p : CmdPort) (a : BitVec 28) (b : Blk) (o : Nat), Permitted s p a.toNat 0 →
    locate a.toNat = some (b, o) → isHigh64 b o = true →
    After (.counterLowRead p a) s fun t => t.lastRd p = latch s b p ∧ Frame [.cmd] [] [] s t

/-- REGISTER_WRITE (R13, R15, R476, R499, R500, R504, R518, R547), MALFORMED_ACCESS (R504), PCIE_RESET (R508),
BOUNDARY_SCAN_INSTRUCTION and JTAG_DEBUG_ACCESS (R514). -/
def Obligations.BusAnswered : Prop :=
  let plainAddr (a : Nat) : Prop := a % 4 = 0 ∧ a ≠ Reg.GLB_IMG_CTRL ∧ isMailbox a = false
  let rejected (s t : State) (p : CmdPort) (cls ev : Nat) (target : Word) : Prop :=
    t.ctr (0x100080 + 4 * portNum p) = s.ctr (0x100080 + 4 * portNum p) + 1 ∧
    t.rd 0x100060 = BitVec.ofNat 32 (ev + portNum p * 256 + cls * 1024) ∧ t.rd 0x100064 = target ∧
    t.sec = (s.audit ev (portNum p) cls target 0).sec ∧
    Frame [.cmd, .sec] [0x100060, 0x100064, Reg.CMD_IRQ_PENDING] [0x100080 + 4 * portNum p] s t
  (∀ (s : State) (p : CmdPort) (a : BitVec 28) (v : Word), plainAddr a.toNat →
    let c := Instr.registerWrite p a v
    let cls := writeClass a.toNat v
    (Permitted s p a.toNat cls → After c s fun t => t = s.regAct p a.toNat v) ∧
    (p = .smp → s.glb.state = .aon → Leaves c s) ∧
    (¬(p = .smp ∧ s.glb.state = .aon) → s.allowed p cls = false →
      After c s fun t => rejected s t p cls 1 (BitVec.ofNat 32 a.toNat)) ∧
    (¬(p = .smp ∧ s.glb.state = .aon) → s.allowed p cls = true → s.addrOn a.toNat = false →
      After c s fun t => t.ctr 0x100094 = s.ctr 0x100094 + 1 ∧ Frame [] [] [0x100094] s t)) ∧
  (∀ (s : State) (p : CmdPort) (a : BitVec 28) (v : Word) (b : Blk) (o : Nat) (r : RegRow),
    plainAddr a.toNat → Permitted s p a.toNat 1 → locate a.toNat = some (b, o) → b = .thm ∨ b = .clk →
    findRow b o = some r →
    let shut : Prop := s.img.locked = true ∧ (s.rd a.toNat ^^^ v) &&& r.rwl ≠ 0
    let open_ := if s.img.locked then r.rw else r.rw ||| r.rwl
    let takes (t : State) : Prop :=
      t.rd a.toNat = ((s.rd a.toNat &&& ~~~open_) ||| (v &&& open_)) &&& ~~~(v &&& r.w1c)
    (¬shut → After (.registerWrite p a v) s fun t => takes t ∧ Frame [] [a.toNat] [] s t) ∧
    (shut → After (.registerWrite p a v) s fun t =>
      takes t ∧ t.ctr 0x134 = s.ctr 0x134 + 1 ∧
      t.sec = (s.audit 0x02 (portNum p) 1 (BitVec.ofNat 32 a.toNat) 0).sec ∧ Frame [.sec] [a.toNat] [0x134] s t)) ∧
  (∀ (s : State) (p : CmdPort) (a : BitVec 28) (v : Word) (b : Blk) (o : Nat),
    plainAddr a.toNat → Permitted s p a.toNat 1 → locate a.toNat = some (b, o) → b = .thm ∨ b = .clk →
    findRow b o = none → Leaves (.registerWrite p a v) s) ∧
  (∀ (s : State) (p : CmdPort) (a : BitVec 28) (v : Word), a.toNat % 4 = 0 → Permitted s p a.toNat 1 →
    locate a.toNat = none → Leaves (.registerWrite p a v) s) ∧
  (∀ (s : State) (a : BitVec 28) (v : Word), a.toNat % 4 ≠ 0 →
    After (.registerWrite .pcie a v) s fun t => t.ctr 0x100090 = s.ctr 0x100090 + 1 ∧ Frame [] [] [0x100090] s t) ∧
  (∀ (s : State) (p : CmdPort) (a : BitVec 28) (v : Word), a.toNat % 4 ≠ 0 → p ≠ .pcie →
    Leaves (.registerWrite p a v) s) ∧
  (∀ (s : State) (p : CmdPort) (v : Word),
    let same (a n : Nat) (c : Instr) : Prop := exec (.registerWrite p (BitVec.ofNat 28 a) (withBit v n)) s = exec c s
    same Reg.GLB_CTRL 1 (.glbRelease p v) ∧ same Reg.GLB_CTRL 2 (.quiesce p v) ∧ same Reg.GLB_CTRL 3 (.resume p v) ∧
    same Reg.GLB_RESTART 0 (.deviceRestart p v) ∧ same Reg.GLB_DOMAIN_CTRL 31 (.domainRestart p v) ∧
    same Reg.GLB_IMG_CTRL 3 (.commit p v) ∧ same Reg.GLB_IMG_CTRL 5 (.overlay p v) ∧
    same Reg.FLT_CLEAR 0 (.faultClear p v) ∧ same Reg.RED_CMD 0 (.redSwitch p v) ∧
    same Reg.CAL_CMD 0 (.startFull p v) ∧ same Reg.CNV_RANGE_REQ 31 (.rangeRequest p v) ∧
    same Reg.LPE_SWAP_CTRL 0 (.swapReq p v) ∧ same Reg.LPE_MODE_REQ 31 (.modeRequest p v) ∧
    same Reg.MTX_PARK_REQ 31 (.parkRequest p v) ∧ same Reg.SLT_CHANGE_CTRL 0 (.changeReq p v) ∧
    same Reg.BRT_SNAP_CTRL 0 (.snapshotReq p v) ∧ same Reg.BRT_PHASE_SEL 31 (.phaseRead p v)) ∧
  (∀ (s : State) (w : Bool),
    After (.malformedAccess w) s fun t => t.ctr 0x100090 = s.ctr 0x100090 + 1 ∧ Frame [] [] [0x100090] s t) ∧
  (∀ s : State, After .pcieReset s fun t =>
    (∀ i, i < 128 → t.rd (Reg.CMD_MSIX + 4 * i) = if i % 4 = 3 then 1 else 0) ∧
    t.cmd = { s.cmd with msiPend := 0 } ∧
    (∀ a, a < Reg.CMD_MSIX ∨ Reg.CMD_MSIX + 512 ≤ a ∨ a % 4 ≠ 0 → t.rd a = s.rd a) ∧ OnlyParts [.regs, .cmd] s t) ∧
  (∀ s : State, Leaves (.boundaryScanInstruction true) s ∧
    After (.boundaryScanInstruction false) s fun t =>
      t.flt = { s.flt with
        sent := s.flt.sent ++ [{ code := faultCode fbSys 2, cls := 3, sec := s.tim.dt.sec, ns := s.tim.dt.ns }]
        signals := s.flt.signals ++ [faultCode fbSys 2] } ∧ Frame [.flt] [] [] s t) ∧
  (∀ (s : State) (x : JtagAccess), s.sec.variantH = true →
    After (.jtagDebugAccess x) s fun t =>
      rejected s t .jtag 5 5 (match x with | .read a => a.setWidth 32 | .memory a => a) ∧
      t.lastRd .jtag = s.lastRd .jtag) ∧
  (∀ (s : State) (a : BitVec 28), s.sec.variantH = false →
    exec (.jtagDebugAccess (.read a)) s = exec (.counterLowRead .jtag a) s) ∧
  ∀ (s : State) (a : Word), s.sec.variantH = false →
    (s.allowed .jtag 5 = true → After (.jtagDebugAccess (.memory a)) s fun t =>
      t.freeCtr = s.freeCtr + 1 ∧ t.lastRd .jtag = Config.debugWord s.freeCtr a ∧ Frame [.freeCtr, .cmd] [] [] s t) ∧
    (s.allowed .jtag 5 = false → After (.jtagDebugAccess (.memory a)) s fun t =>
      rejected s t .jtag 5 1 a ∧ t.lastRd .jtag = 0)

/-- ABEVO_READ, ABEVO_WRITE, ABEVO_MAILBOX (R510, R512, R515) and ABEVO_POLL (R511). That a READ with a status other than
OK carries no payload is the model's choice (assumption 36). -/
def Obligations.SmpFramesAnswered : Prop :=
  ∀ (s : State) (f : List Byte), ∀ c ∈ [Instr.abevoRead f, .abevoWrite f, .abevoMailbox f, .abevoPoll f],
    let a := abvHead f
    let smp := s.cmd.smp
    let whole : Prop := s.glb.state ≠ .off ∧ 16 ≤ f.length ∧ f.length = a.count
    let new : Prop := whole ∧ a.good f = true ∧ smp.busy = false ∧ smp.seq ≠ some (BitVec.ofNat 16 a.seq) ∧ a.op ≠ 4
    let act : Prop := new ∧ s.glb.state ≠ .aon
    let u := s.smpBegin a
    let onlySmp (t : State) (x : SmpSt) : Prop := t.cmd = { s.cmd with smp := x } ∧ Frame [.cmd] [] [] s t
    let ended (t : State) (st : Nat) (pl : List Byte) : Prop :=
      let r := a.response st pl
      t.cmd.smp = { smp with seq := some (BitVec.ofNat 16 a.seq), resp := r, answer := r, busy := false }
    (s.glb.state = .off → Leaves c s) ∧
    (s.glb.state ≠ .off → f.length < 16 ∨ f.length ≠ a.count →
      After c s fun t => t.ctr 0x10009C = s.ctr 0x10009C + 1 ∧ Frame [] [] [0x10009C] s t) ∧
    (whole → a.good f = false →
      After c s fun t =>
        t.ctr 0x100098 = s.ctr 0x100098 + 1 ∧ Frame [.cmd] [] [0x100098] s t ∧
        t.cmd = { s.cmd with smp :=
          if a.op = 4 then { smp with driven := a.response stCrcErr [] }
          else if smp.busy then smp else { smp with answer := a.response stCrcErr [] } }) ∧
    (whole → a.good f = true → a.op = 4 → After c s fun t => onlySmp t { smp with driven := smp.answer }) ∧
    (whole → a.good f = true → a.op ≠ 4 → smp.busy = true →
      After c s fun t => t.ctr 0x1000A0 = s.ctr 0x1000A0 + 1 ∧ Frame [] [] [0x1000A0] s t) ∧
    (whole → a.good f = true → a.op ≠ 4 → smp.busy = false → smp.seq = some (BitVec.ofNat 16 a.seq) →
      After c s fun t => onlySmp t { smp with answer := smp.resp }) ∧
    (new → s.glb.state = .aon →
      After c s fun t => ended t stDomainOff [] ∧ t.cmd = { s.cmd with smp := t.cmd.smp } ∧ Frame [.cmd] [] [] s t) ∧
    (act → a.op ≠ 1 → a.op ≠ 2 → a.op ≠ 3 →
      After c s fun t => ended t stBadOpcode [] ∧ t.cmd = { s.cmd with smp := t.cmd.smp } ∧ Frame [.cmd] [] [] s t) ∧
    (act → a.op = 1 ∨ a.op = 2 → a.argsGood = false →
      After c s fun t => ended t stBadArg [] ∧ t.cmd = { s.cmd with smp := t.cmd.smp } ∧ Frame [.cmd] [] [] s t) ∧
    (act → a.op = 1 → a.argsGood = true →
      After c s fun t =>
        let r := u.abvReads .smp a.space a.addr (a.len / 4)
        t = r.1.smpEnd (a.response r.2.2 (if r.2.2 = stOk then wordBytes r.2.1 else [])) ∧ t.cmd.smp.busy = false) ∧
    (act → a.op = 1 → a.argsGood = true → a.len = 4 → a.space = 0 →
      (Permitted s .smp a.addr 0 →
        After c s fun t => ended t stOk (bytesOf ((u.readReg .smp a.addr).lastRd .smp))) ∧
      (s.allowed .smp 0 = false → After c s fun t => ended t stDenied []) ∧
      (s.allowed .smp 0 = true → s.addrOn a.addr = false → After c s fun t => ended t stDomainOff [])) ∧
    (act → a.op = 2 → a.argsGood = true →
      After c s fun t =>
        let r := u.abvWrites .smp a.space a.addr (bytesWords (a.payload f))
        t = r.1.smpEnd (a.response r.2 []) ∧ t.cmd.smp.busy = false) ∧
    (act → a.op = 2 → a.argsGood = true → a.len = 4 → a.space = 0 →
      ∀ v, bytesWords (a.payload f) = [v] →
        After c s fun t =>
          t = (u.busWrite .smp a.addr v).smpEnd (a.response (u.writeStatus .smp 0 a.addr v) []) ∧
          (s.allowed .smp (writeClass a.addr v) = false → a.addr ≠ Reg.GLB_IMG_CTRL →
            u.writeStatus .smp 0 a.addr v = stDenied)) ∧
    (act → a.op = 3 →
      let w := bytesWords (a.payload f)
      let n := fld (w.getD 0 0) 14 8
      let op := fld (w.getD 0 0) 7 0
      let r := u.mbRun .smp op n ((w.drop 1).take n)
      (w = [] → After c s fun t =>
        ended t stBadArg [] ∧ t.cmd = { s.cmd with smp := t.cmd.smp } ∧ Frame [.cmd] [] [] s t) ∧
      (w ≠ [] → op = 0 → n ≤ 64 → s.allowed .smp 0 = true → After c s fun t =>
        ended t stOk [] ∧ t.cmd = { s.cmd with smp := t.cmd.smp } ∧ Frame [.cmd] [] [] s t) ∧
      (w ≠ [] → r.2 = .wait → After c s fun t => t = r.1 ∧ t.cmd.smp.busy = true) ∧
      (∀ st ws, w ≠ [] → r.2 = .done st ws → After c s fun t =>
        t = r.1.smpEnd (a.response st (wordBytes ws)) ∧ t.cmd.smp.busy = false))

/-- NOP, DEBUG_READ (R515), REPAIR_CLEAR and REPAIR_READ (R516), AUDIT_READ (R542), and the mailbox rules of all eleven rows
(R500, R512, R515). -/
def Obligations.MailboxAnswers : Prop :=
  let ready (s : State) (o : MbOwner) : Prop :=
    match o with
    | .pcie => s.mbBusy = false
    | .smp => s.cmd.smp.busy = false ∧ s.glb.state ≠ .aon
  let answered (t : State) (o : MbOwner) (st : Nat) (ws : List Word) : Prop :=
    match o with
    | .pcie =>
      t.rdFld Reg.CMD_MB_CTRL 19 16 = st ∧ t.rdBit Reg.CMD_MB_CTRL 21 = true ∧ t.rdBit Reg.CMD_MB_CTRL 31 = false ∧
      ∀ i, i < ws.length → t.rd (Reg.CMD_MB_DATA + 4 * i) = ws.getD i 0
    | .smp =>
      (∃ a : Abv, a.op = 3 ∧ t.cmd.smp.answer = a.response st (wordBytes ws)) ∧ t.cmd.smp.resp = t.cmd.smp.answer ∧
      t.cmd.smp.busy = false
  let quiet (s t : State) : Prop := OnlyParts [.regs, .cmd] s t
  let rows (p : CmdPort) (w1 w2 : Word) (l : List Word) : List (Instr × Nat × Nat) :=
    [(.mbNop p, 0, 0), (.repairClear p w1 w2, 4, 0x20), (.repairRead p w1 w2, 0, 0x21), (.debugRead p w1 w2, 5, 0x30),
     (.keyProvision p l w1, 3, 0x10), (.keyRevoke p w1, 3, 0x11), (.svnRaise p w1, 3, 0x12), (.imageKeySet p l, 3, 0x13),
     (.zeroize p, 3, 0x14), (.retire p w1, 3, 0x15), (.auditRead p w1, 3, 0x16)]
  (∀ (s : State) (o : MbOwner), ready s o → s.allowed o.port 0 = true →
    After (.mbNop o.port) s (fun t => answered t o stOk [] ∧ quiet s t) ∧
    ∀ kind n : Word,
      let l := s.repairEntries (fld kind 3 0)
      (∀ e, fld kind 3 0 ≤ 3 → l[n.toNat]? = some e → After (.repairRead o.port kind n) s fun t =>
        answered t o stOk [BitVec.ofNat 32 e.1, if e.2 then 3 else 1] ∧ quiet s t) ∧
      (fld kind 3 0 ≤ 3 → l.length ≤ n.toNat → After (.repairRead o.port kind n) s fun t =>
        answered t o stOk [0, 0] ∧ quiet s t) ∧
      (3 < fld kind 3 0 → After (.repairRead o.port kind n) s fun t => answered t o stBadArg [] ∧ quiet s t)) ∧
  (∀ (s : State) (o : MbOwner) (kw iw : Word), ready s o → s.allowed o.port 4 = true →
    let c := Instr.repairClear o.port kw iw
    let kind := fld kw 3 0
    let i := iw.toNat
    (kind = 0 → (i, false) ∈ s.repairEntries 0 → After c s fun t =>
      answered t o stOk [] ∧ t.mtx = { s.mtx with field := t.mtx.field } ∧
      (∀ e, e ∈ t.mtx.field ↔ e ∈ s.mtx.field ∧ e ≠ i) ∧ OnlyParts [.regs, .cmd, .mtx] s t) ∧
    (kind = 1 → (i, false) ∈ s.repairEntries 1 → After c s fun t =>
      answered t o stOk [] ∧ t.adc = { s.adc with map := t.adc.map } ∧
      (∀ u, u ∈ t.adc.map ↔ u ∈ s.adc.map ∧ u ≠ i) ∧ OnlyParts [.regs, .cmd, .adc] s t) ∧
    (kind = 2 → (i, false) ∈ s.repairEntries 2 → After c s fun t =>
      answered t o stOk [] ∧
      (∀ l, l < 512 → (t.chip (l / 32)).laneFailed.getLsbD (l % 32) =
        ((s.chip (l / 32)).laneFailed.getLsbD (l % 32) && decide (l ≠ i))) ∧ OnlyParts [.regs, .cmd, .chips] s t) ∧
    (kind = 3 → (i, false) ∈ s.repairEntries 3 → After c s fun t =>
      answered t o stOk [] ∧
      (∀ g ∈ (t.chip (i / 268435456)).pages, g.number (i / 268435456) = i → g.recorded = false) ∧
      (∀ d, d ≠ i / 268435456 → t.chip d = s.chip d) ∧ OnlyParts [.regs, .cmd, .chips] s t) ∧
    (kind ≤ 3 → (i, false) ∉ s.repairEntries kind → After c s fun t => answered t o stRefused [] ∧ quiet s t) ∧
    (3 < kind → After c s fun t => answered t o stBadArg [] ∧ quiet s t)) ∧
  (∀ (s : State) (o : MbOwner) (aw nw : Word), ready s o → s.allowed o.port 5 = true →
    let n := nw.toNat
    let bad : Prop := n = 0 ∨ 64 < n ∨ aw.toNat % 4 ≠ 0
    (¬bad → After (.debugRead o.port aw nw) s fun t =>
      answered t o stOk
        ((List.range n).map fun k => Config.debugWord (s.freeCtr + k) (BitVec.ofNat 32 (aw.toNat + 4 * k))) ∧
      t.freeCtr = s.freeCtr + n ∧ OnlyParts [.freeCtr, .regs, .cmd] s t) ∧
    (bad → After (.debugRead o.port aw nw) s fun t => answered t o stBadArg [] ∧ quiet s t)) ∧
  (∀ (s : State) (o : MbOwner) (n : Word), ready s o → s.allowed o.port 3 = true →
    After (.auditRead o.port n) s fun t =>
      let l := (s.sec.ring.filter fun r => decide (n.toNat ≤ r.seq.toNat)).take 7
      answered t o stOk (BitVec.ofNat 32 l.length :: l.flatMap AuditRec.words) ∧ quiet s t) ∧
  (∀ (s : State) (o : MbOwner) (w1 w2 : Word) (l : List Word), ready s o → ∀ x ∈ rows o.port w1 w2 l,
    s.allowed o.port x.2.1 = false →
    After x.1 s fun t =>
      answered t o stDenied [] ∧
      t.ctr (0x100080 + 4 * portNum o.port) = s.ctr (0x100080 + 4 * portNum o.port) + 1 ∧
      t.rd 0x100060 = BitVec.ofNat 32 (1 + portNum o.port * 256 + x.2.1 * 1024) ∧
      t.rd 0x100064 = BitVec.ofNat 32 x.2.2 ∧
      t.sec = (s.audit 1 (portNum o.port) x.2.1 (BitVec.ofNat 32 x.2.2) 0).sec ∧
      OnlyParts [.regs, .ctrs, .cmd, .sec] s t) ∧
  ∀ (s : State) (w1 w2 : Word) (l : List Word),
    (s.mbBusy = true → ∀ x ∈ rows .pcie w1 w2 l, After x.1 s fun t =>
      t.rdBit Reg.CMD_MB_CTRL 20 = true ∧ t.rdBit Reg.CMD_MB_CTRL 31 = true ∧ Frame [] [Reg.CMD_MB_CTRL] [] s t) ∧
    (s.cmd.smp.busy = true → ∀ x ∈ rows .smp w1 w2 l, After x.1 s fun t =>
      t.ctr 0x1000A0 = s.ctr 0x1000A0 + 1 ∧ Frame [] [] [0x1000A0] s t) ∧
    ∀ p : CmdPort, p = .inband ∨ p = .jtag → ∀ x ∈ rows p w1 w2 l, After x.1 s fun t =>
      t.sec = (s.audit 0x03 (portNum p) 1 (BitVec.ofNat 32 Reg.CMD_MB_CTRL) 0).sec ∧ Frame [.sec] [] [] s t

/-- KEY_PROVISION (R525), KEY_REVOKE (R526), SVN_RAISE (R527), IMAGE_KEY_SET (R529), ZEROIZE and ZEROIZE_PIN (R536, R538),
RETIRE (R523), FUSE_OPERATION_DONE (R531), ZEROIZATION_DONE (R337), AUDIT_RECORD_WRITE (R540). -/
def Obligations.SecurityOperates : Prop :=
  let ready (s : State) (o : MbOwner) : Prop :=
    s.allowed o.port 3 = true ∧
    match o with
    | .pcie => s.mbBusy = false
    | .smp => s.cmd.smp.busy = false ∧ s.glb.state ≠ .aon
  let answered (t : State) (o : MbOwner) (st : Nat) (ws : List Word) : Prop :=
    match o with
    | .pcie =>
      t.rdFld Reg.CMD_MB_CTRL 19 16 = st ∧ t.rdBit Reg.CMD_MB_CTRL 21 = true ∧ t.rdBit Reg.CMD_MB_CTRL 31 = false ∧
      ∀ i, i < ws.length → t.rd (Reg.CMD_MB_DATA + 4 * i) = ws.getD i 0
    | .smp =>
      (∃ a : Abv, t.cmd.smp.answer = a.response st (wordBytes ws)) ∧ t.cmd.smp.resp = t.cmd.smp.answer ∧
      t.cmd.smp.busy = false
  let waits (t : State) (o : MbOwner) : Prop :=
    match o with
    | .pcie => t.rdBit Reg.CMD_MB_CTRL 31 = true ∧ t.rdFld Reg.CMD_MB_CTRL 19 16 = stPending
    | .smp => t.cmd.smp.busy = true
  let ends (s t : State) (o : MbOwner) (op st v : Nat) : Prop :=
    answered t o st [] ∧ t.sec = (s.auditOp o op st v).sec ∧ OnlyParts [.regs, .cmd, .sec] s t
  let starts (s t : State) (o : MbOwner) (f : FuseOp) : Prop :=
    waits t o ∧ t.sec = { s.sec with fuse := some (f, o) } ∧ OnlyParts [.regs, .cmd, .sec] s t
  let shut (s : State) : Prop := s.thm.nvmOk = false ∨ s.sec.fuse ≠ none ∨ s.sec.retirePending ≠ none
  let triggers (c : Instr) (s : State) (cause : ZeroCause) (ps : List Part) (more : State → Prop) : Prop :=
    (s.sec.zeroizing = none → s.beforeTraining = false → After c s fun t =>
      t.sec.zeroizing = some cause ∧ t.sec.volKey = none ∧ t.sec.keyShut = true ∧ t.pkts = [] ∧ t.img.buf = [] ∧
      t.img.stage = .empty ∧ t.img.commitBusy = false ∧ faultCode fbSys 1 ∈ t.flt.signals ∧
      (∀ c, c < 16 → (t.ledger c).resident = 0) ∧ (∀ m ∈ t.brt.mesh, m.isRelease = true) ∧
      (∀ c : Fin 16, (t.chip c).zeroBusy = s.chipOn c ∧ (t.chip c).packet = {} ∧ (t.chip c).tbl = []) ∧
      OnlyParts ([.ctrs, .sec, .flt, .img, .brt, .pkts, .ports, .chips] ++ ps) s t ∧ more t) ∧
    (s.sec.zeroizing = none → s.beforeTraining = true → After c s fun t =>
      t.sec.zeroizing = none ∧ t.sec.zeroHeld = some (s.sec.zeroHeld.getD cause) ∧ OnlyParts (.sec :: ps) s t ∧ more t) ∧
    (s.sec.zeroizing ≠ none → After c s fun t =>
      t.sec.zeroizing = s.sec.zeroizing ∧ t.sec.zeroHeld = s.sec.zeroHeld ∧ OnlyParts (.sec :: ps) s t ∧ more t)
  (∀ (s : State) (o : MbOwner) (l : List Word) (w : Word), ready s o → s.sec.lifecycle = .retired →
    After (.keyProvision o.port l w) s (fun t => ends s t o 0x10 stRefused 0) ∧
    After (.keyRevoke o.port w) s (fun t => ends s t o 0x11 stRefused 0) ∧
    After (.svnRaise o.port w) s (fun t => ends s t o 0x12 stRefused 0) ∧
    After (.imageKeySet o.port l) s (fun t => ends s t o 0x13 stRefused 0) ∧
    After (.zeroize o.port) s (fun t => ends s t o 0x14 stRefused 0) ∧
    After (.retire o.port w) s fun t => ends s t o 0x15 stRefused 0) ∧
  (∀ (s : State) (o : MbOwner) (l : List Word) (w : Word), ready s o → s.sec.lifecycle ≠ .retired →
    (∀ i : Fin 4, w.toNat = i.val →
      let used : Prop := shut s ∨ s.sec.slots[i].programmed = true ∨ s.sec.slots[i].revoked = true
      (¬used → After (.keyProvision o.port l w) s fun t =>
        starts s t o (.provision i (Vector.ofFn fun k : Fin 12 => l.getD k.val 0))) ∧
      (used → After (.keyProvision o.port l w) s fun t => ends s t o 0x10 stRefused i) ∧
      (¬shut s → s.slotLeft i = true → After (.keyRevoke o.port w) s fun t => starts s t o (.revoke i)) ∧
      (shut s ∨ s.slotLeft i = false → After (.keyRevoke o.port w) s fun t => ends s t o 0x11 stRefused i)) ∧
    (4 ≤ w.toNat →
      After (.keyProvision o.port l w) s (fun t => ends s t o 0x10 stBadArg w.toNat) ∧
      After (.keyRevoke o.port w) s fun t => ends s t o 0x11 stBadArg w.toNat) ∧
    (∀ b, ¬shut s → s.sec.minSvn.toNat < w.toNat → w.toNat ≤ 255 → s.bootedSvn = some b → w.toNat ≤ b →
      After (.svnRaise o.port w) s fun t => starts s t o (.svn (BitVec.ofNat 8 w.toNat))) ∧
    (shut s ∨ w.toNat ≤ s.sec.minSvn.toNat ∨ 255 < w.toNat ∨ s.bootedSvn = none ∨
      (∃ b, s.bootedSvn = some b ∧ b < w.toNat) →
      After (.svnRaise o.port w) s fun t => ends s t o 0x12 stRefused w.toNat) ∧
    (¬shut s → s.sec.imageKey = .absent → After (.imageKeySet o.port l) s fun t =>
      starts s t o (.imageKey (Vector.ofFn fun k : Fin 8 => l.getD k.val 0))) ∧
    (shut s ∨ s.sec.imageKey ≠ .absent → After (.imageKeySet o.port l) s fun t => ends s t o 0x13 stRefused 0) ∧
    triggers (.zeroize o.port) s .command [.regs, .cmd] (fun t => answered t o stOk []) ∧
    (¬shut s → triggers (.retire o.port 0xC1E00D1E) s .retire [.regs, .cmd] fun t =>
      waits t o ∧ t.sec.retirePending = some o) ∧
    (w ≠ 0xC1E00D1E → After (.retire o.port w) s fun t => ends s t o 0x15 stBadArg 0) ∧
    (w = 0xC1E00D1E → shut s → After (.retire o.port w) s fun t => ends s t o 0x15 stRefused 0)) ∧
  (∀ s : State, s.sec.fuse = none → Leaves .fuseOperationDone s) ∧
  (∀ (s : State) (o : MbOwner), s.glb.restart ≠ .waiting →
    let done (t : State) (ws : List Word) : Prop := t.sec.fuse = none ∧ answered t o stOk ws
    (∀ i h, s.sec.fuse = some (.provision i h, o) → After .fuseOperationDone s fun t =>
      done t [] ∧ t.sec.slots[i].programmed = true ∧ t.sec.slots[i].hash = h ∧
      (∀ k, k ≠ i → t.sec.slots[k] = s.sec.slots[k]) ∧ OnlyParts [.regs, .cmd, .sec] s t) ∧
    (∀ i, s.sec.fuse = some (.revoke i, o) → After .fuseOperationDone s fun t =>
      done t [] ∧ t.sec.slots[i].revoked = true ∧ (∀ k, k ≠ i → t.sec.slots[k] = s.sec.slots[k]) ∧
      OnlyParts [.regs, .cmd, .sec] s t) ∧
    (∀ v, s.sec.fuse = some (.svn v, o) → After .fuseOperationDone s fun t =>
      done t [] ∧ t.sec.minSvn = v ∧ t.sec.slots = s.sec.slots ∧ OnlyParts [.regs, .cmd, .sec] s t) ∧
    (∀ k, s.sec.fuse = some (.imageKey k, o) → After .fuseOperationDone s fun t =>
      done t [Config.keyCheck k.toList] ∧ t.sec.imageKey = .present k ∧
      t.sec.volKey = (if s.sec.keyShut then s.sec.volKey else some k) ∧ t.sec.slots = s.sec.slots ∧
      OnlyParts [.regs, .cmd, .sec] s t) ∧
    (s.sec.fuse = some (.retire, o) → After .fuseOperationDone s fun t =>
      done t [] ∧ t.sec.lifecycle = .retired ∧ t.sec.imageKey = .destroyed ∧ t.sec.volKey = none ∧
      t.glb.state = .halted ∧ (∀ k : Fin 4, t.sec.slots[k].revoked = true) ∧
      (s.glb.state ≠ .halted → t.glb.haltCause = 4 ∧ t.slt.running = false) ∧
      OnlyParts [.regs, .cmd, .sec, .glb, .tim, .slt, .brt] s t)) ∧
  (∀ (s : State) (n : Nat),
    (450 ≤ n → s.sec.zpinEn = true → triggers (.zeroizePin n) s .pin [.regs, .glb] fun t =>
      t.glb = { s.glb with zeroizeN := false }) ∧
    (n < 450 ∨ s.sec.zpinEn = false → After (.zeroizePin n) s fun t =>
      t.glb = { s.glb with zeroizeN := decide (n = 0) } ∧ Frame [.glb] [] [] s t)) ∧
  (∀ (s : State) (failed : BitVec 16), s.sec.zeroizing = none → Leaves (.zeroizationDone failed) s) ∧
  (∀ (s : State) (failed : BitVec 16) (cause : ZeroCause), s.sec.zeroizing = some cause → s.glb.restart ≠ .waiting →
    let ended (t : State) : Prop :=
      t.sec.zeroizing = none ∧ t.sec.retirePending = none ∧ t.glb.state = .halted ∧
      (∀ c : Fin 16, t.chip c =
        { s.chip c with zeroBusy := false, zeroDone := !failed.getLsbD c, zeroIncomplete := failed.getLsbD c }) ∧
      (s.glb.state ≠ .halted →
        t.glb.haltCause = (if cause = .retire ∨ s.sec.retirePending ≠ none then 4 else 3) ∧ t.slt.running = false ∧
        t.slt.start = none ∧ t.tim.mode = .follow) ∧
      Frame [.cmd, .sec, .glb, .tim, .slt, .brt, .chips] [Reg.CMD_IRQ_PENDING] [] s t
    (∀ o, s.sec.retirePending = some o →
      After (.zeroizationDone failed) s fun t => ended t ∧ t.sec.fuse = some (.retire, o)) ∧
    (s.sec.retirePending = none → After (.zeroizationDone failed) s fun t => ended t ∧ t.sec.fuse = s.sec.fuse)) ∧
  (∀ (s : State) (r : AuditRec) (rest : List AuditRec), s.sec.sram = r :: rest → s.thm.nvmOk = true →
    After .auditRecordWrite s fun t =>
      t.sec = { s.sec with
        sram := rest
        ring := if s.sec.ring.length < 16384 then s.sec.ring ++ [r] else s.sec.ring.drop 1 ++ [r]
        overwritten := if s.sec.ring.length < 16384 then s.sec.overwritten else s.sec.overwritten + 1 } ∧
      Frame [.sec] [] [] s t) ∧
  ∀ s : State, s.sec.sram = [] ∨ s.thm.nvmOk = false → Leaves .auditRecordWrite s

/-- VIN_RISE (R577, R578), AON_UP (R556), PLL_LOCK_HELD (R547, R530, R487), DOMAIN_POWER_GOOD and DOMAIN_POWER_TIMEOUT
(R549), DRAM_TRAINING_DONE (R538, R550), LASER_LOW_POWER_END and LASER_NOMINAL (R551), LOCK_LIMIT (R553), GLB_RELEASE
(R554). The restart of a domain is stated with the global commands. -/
def Obligations.DeviceStarts : Prop :=
  let steps (s t : State) (k : Nat) : Prop := if s.glb.calReturn then t.glb.step = s.glb.step else t.glb.step = k
  let training (s : State) : Prop := s.glb.state = .structured ∧ s.glb.step = 5 ∧ s.active? ≠ none
  let lasers (s : State) : Prop := s.glb.state = .structured ∧ s.glb.step = 7
  (∀ s : State,
    (s.glb.state = .off → After .vinRise s fun t => t.glb = { s.glb with vin := .rising } ∧ Frame [.glb] [] [] s t) ∧
    (s.glb.state ≠ .off → s.glb.vin = .outOfRange → After .vinRise s fun t =>
      t.glb = { s.glb with vin := .good } ∧ t.flt = { s.flt with vinGood := true } ∧ Frame [.flt, .glb] [] [] s t) ∧
    (s.glb.state ≠ .off → s.glb.vin ≠ .outOfRange → Leaves .vinRise s)) ∧
  (∀ s : State,
    (s.glb.state = .off → s.glb.vin = .rising → After .aonUp s fun t =>
      t.glb.state = .aon ∧ t.glb.prev = .off ∧ t.glb.vin = .good ∧ (∀ d, t.domOn d = decide (d = 63)) ∧
      steps s t 2 ∧ Frame [.freeCtr, .glb] [] [] s t) ∧
    (s.glb.state ≠ .off ∨ s.glb.vin ≠ .rising → Leaves .aonUp s)) ∧
  (∀ (s : State) (straps : BitVec 4),
    let due : Prop := s.glb.state = .aon ∧ s.glb.pwrEn = true ∧ s.glb.vin = .good ∧ s.latched = false
    (due → After (.pllLockHeld straps) s fun t =>
      t.glb.state = .boot ∧ t.glb.prev = .aon ∧ t.glb.pllLock = true ∧ t.glb.straps = straps ∧ steps s t 3 ∧
      t.glb.pg = s.glb.pg ∧
      (∀ k, s.sec.imageKey = .present k → t.sec.volKey = some k) ∧
      ((∀ k, s.sec.imageKey ≠ .present k) → t.sec.volKey = none) ∧
      (s.sec.lifecycle = .retired → t.img = s.img) ∧
      (s.sec.lifecycle ≠ .retired →
        t.img = { s.img with verifying := s.img.firstSlot.map .slot, firstTried := s.img.firstSlot }) ∧
      (s.img.slot0.valid = true → s.img.slot1.valid = true →
        s.img.firstSlot = if s.img.slot1.u32 0x10 ≤ s.img.slot0.u32 0x10 then some 0 else some 1) ∧
      Frame [.freeCtr, .cmd, .sec, .glb, .img] [Reg.CMD_IRQ_PENDING] [] s t) ∧
    (¬due → Leaves (.pllLockHeld straps) s)) ∧
  (∀ (s : State) (d : Fin 64) (rest : List (Fin 64)), s.glb.powerOrder = d :: rest → s.glb.domRestart = none →
    After (.domainPowerGood d) s fun t =>
      t.domOn d = true ∧ (∀ e, e ≠ d.val → t.domOn e = s.domOn e) ∧ t.glb.powerOrder = rest ∧
      t.glb.state = s.glb.state ∧ (s.glb.state = .structured → rest = [] → steps s t 5) ∧
      (s.glb.state ≠ .structured ∨ rest ≠ [] → t.glb.step = s.glb.step) ∧ Frame [.freeCtr, .glb] [] [] s t) ∧
  (∀ (s : State) (d : Fin 64), s.glb.powerOrder.head? ≠ some d → s.glb.domRestart ≠ some d →
    Leaves (.domainPowerGood d) s) ∧
  (∀ (s : State) (d : Fin 64) (rest : List (Fin 64)), s.glb.powerOrder = d :: rest → s.glb.state = .structured →
    let c := Instr.domainPowerTimeout d
    let fault : SentFault := { code := faultCode fbPwr d, cls := 2, sec := s.tim.dt.sec, ns := s.tim.dt.ns }
    let sys : SentFault := { code := faultCode fbSys 3, cls := 3, sec := s.tim.dt.sec, ns := s.tim.dt.ns }
    let passed (t : State) (l : List (Fin 64)) : Prop :=
      t.glb.powerOrder = l ∧ (if l = [] then steps s t 5 else t.glb.step = s.glb.step)
    let isGroup : Prop := 54 ≤ d.val ∧ d.val < 62
    let isCore : Prop := 32 ≤ d.val ∧ d.val < 48
    let isVital : Prop := 50 ≤ d.val ∧ d.val < 54 ∨ d = 62
    (¬isGroup → ¬isCore → ¬isVital → After c s fun t =>
      passed t rest ∧ t.glb.pg = s.glb.pg ∧ t.flt = { s.flt with sent := s.flt.sent ++ [fault] } ∧
      Frame [.freeCtr, .flt, .glb] [] [] s t) ∧
    (isVital → After c s fun t =>
      passed t rest ∧ t.glb.pg = s.glb.pg ∧
      t.flt = { s.flt with
        sent := s.flt.sent ++ [sys, fault], signals := s.flt.signals ++ [faultCode fbSys 3] } ∧
      Frame [.freeCtr, .flt, .glb] [] [] s t) ∧
    (isGroup → After c s fun t =>
      passed t rest ∧ (∀ e, t.domOn e = (s.domOn e && decide (e ≠ d.val))) ∧ fault ∈ t.flt.sent ∧
      (∀ n, n / 4 = d.val - 54 →
        (∀ i, i < 16 → (t.bank n).dark.getLsbD i = true) ∧ ∀ i, i < 17 → (t.emitter n i).on = false) ∧
      OnlyParts [.freeCtr, .regs, .flt, .glb, .mtx] s t) ∧
    (isCore → After c s fun t =>
      let k := d.val - 32
      passed t (rest.filter fun x => decide (x.val / 2 ≠ k) || decide (32 ≤ x.val)) ∧
      t.domOn (2 * k) = false ∧ t.domOn (2 * k + 1) = false ∧ fault ∈ t.flt.sent ∧
      (∀ i, i < 32 → (t.port (32 * k + i)).ready = false ∧ (t.port (32 * k + i)).linkUp = false) ∧
      OnlyParts [.freeCtr, .regs, .ctrs, .flt, .glb, .brt, .pkts, .ports, .chips, .xing] s t)) ∧
  (∀ (s : State) (d : Fin 64), s.glb.powerOrder.head? ≠ some d ∨ s.glb.state ≠ .structured →
    Leaves (.domainPowerTimeout d) s) ∧
  (∀ (s : State) (repaired : List (Fin 16 × BitVec 32)), training s →
    let up (t : State) : Prop := ∀ c : Fin 16, (t.chip c).stackUp = (s.chipOn c || (s.chip c).stackUp)
    (s.sec.zeroHeld = none → After (.dramTrainingDone repaired) s fun t =>
      up t ∧ steps s t 7 ∧ t.sec = s.sec ∧
      (s.slt.start = none → t.mtx.parked = s.mtx.merged ∧ t.mtx.pending = []) ∧
      ∀ u, u < 100 → (t.au u).failed = s.adc.map.contains u) ∧
    ∀ cause, s.sec.zeroHeld = some cause → After (.dramTrainingDone repaired) s fun t =>
      up t ∧ t.sec.zeroizing = some cause ∧ t.pkts = [] ∧ steps s t 6) ∧
  (∀ (s : State) (repaired : List (Fin 16 × BitVec 32)), ¬ training s → s.glb.domRestart = none →
    Leaves (.dramTrainingDone repaired) s) ∧
  (∀ (s : State) (dim : List (Fin 544)),
    After (.laserLowPowerEnd dim) s fun t =>
      (∀ n ∈ s.risingBanks, ∀ i, i < 16 →
        (t.emitter n i).up = true ∧ (t.emitter n i).on = true ∧ (t.emitter n i).dB = 10 ∧
        (t.emitter n i).failed = dim.any fun x => decide (x.val = 17 * n + i)) ∧
      (∀ n ∈ s.risingBanks, ∀ x ∈ dim, x.val / 17 = n →
        { code := faultCode fbEmit x.val, cls := 2, sec := s.tim.dt.sec, ns := s.tim.dt.ns } ∈ t.flt.sent) ∧
      (∀ n, n < 32 → n ∉ s.risingBanks → t.bank n = s.bank n ∧ ∀ i, i < 17 → t.emitter n i = s.emitter n i) ∧
      OnlyParts [.freeCtr, .regs, .flt, .loopS, .drv, .mtx] s t) ∧
  (∀ (s : State) (dim : List (Fin 544)), s.risingBanks = [] → Leaves (.laserLowPowerEnd dim) s) ∧
  (∀ (s : State) (adc : List AdcMeas),
    let nominal (t : State) : Prop :=
      (∀ n ∈ s.risingBanks, ∀ i, i < 16 → t.emitter n i = { s.emitter n i with
        dB := if (s.emitter n i).up && (s.emitter n i).on then 0 else (s.emitter n i).dB }) ∧
      ∀ n, n < 32 → n ∉ s.risingBanks → t.bank n = s.bank n ∧ ∀ i, i < 17 → t.emitter n i = s.emitter n i
    (lasers s → After (.laserNominal adc) s fun t =>
      nominal t ∧
      (t.glb.state = .locking ∧ t.loopS.running = true ∧ steps s t 9 ∨
        t.glb.state = .calibrating ∧ t.cal.fullBusy = true ∧ steps s t 8) ∧
      OnlyParts [.freeCtr, .regs, .ctrs, .cmd, .flt, .glb, .tim, .loopA, .loopB, .loopS, .drv, .mtx, .cal, .acq, .slt,
        .brt, .ports] s t) ∧
    (¬lasers s → s.risingBanks ≠ [] → After (.laserNominal adc) s fun t =>
      nominal t ∧ t.glb = { s.glb with domRestart := none } ∧ Frame [.flt, .glb, .mtx] [] [] s t)) ∧
  (∀ (s : State) (adc : List AdcMeas), s.risingBanks = [] → ¬ lasers s → Leaves (.laserNominal adc) s) ∧
  (∀ (s : State) (e : Fin 5120),
    let open_ : Prop := s.glb.state = .locking ∧ (s.elem s.actCtl e).mode = .acquisition
    (open_ → After (.lockLimit e) s fun t =>
      t.flt = { s.flt with sent := s.flt.sent ++
        [{ code := elemCode e, cls := 2, sec := s.tim.dt.sec, ns := s.tim.dt.ns }] } ∧ Frame [.flt] [] [] s t) ∧
    (¬open_ → Leaves (.lockLimit e) s)) ∧
  ∀ (s : State) (p : CmdPort) (v : Word), Permitted s p Reg.GLB_CTRL 1 → v &&& 0xC = 0 →
    (s.slt.start = none → After (.glbRelease p v) s fun t =>
      t.rdBit Reg.GLB_CTRL 1 = true ∧ Frame [] [Reg.GLB_CTRL] [] s t) ∧
    (s.slt.start ≠ none → After (.glbRelease p v) s fun t =>
      t = s.plainWrite p Reg.GLB_CTRL (withBit v 1) ∧ Frame [] [Reg.GLB_CTRL] [] s t)

/-- QUIESCE, QUIESCE_DONE, RESUME (R557), DEVICE_RESTART (R560, R561), DOMAIN_RESTART (R563, R471, assumption 32), and DOMAIN_POWER_GOOD,
DRAM_TRAINING_DONE and DOMAIN_RESTART_FAILED in a domain restart (R564, R565). -/
def Obligations.RestartsRun : Prop :=
  let inService (s : State) : Prop := s.glb.state = .service ∨ s.glb.state = .quiesced
  let training (s : State) : Prop := s.glb.state = .structured ∧ s.glb.step = 5 ∧ s.active? ≠ none
  (∀ (s : State) (p : CmdPort) (v : Word), Permitted s p Reg.GLB_CTRL 1 →
    (v &&& 0xA = 0 → s.glb.state = .service → After (.quiesce p v) s fun t =>
      t.glb = { s.glb with quiescing := true } ∧ Frame [.glb] [Reg.GLB_CTRL] [] s t) ∧
    (v &&& 0xA = 0 → s.glb.state ≠ .service → After (.quiesce p v) s fun t =>
      t.rdBit Reg.GLB_CTRL 8 = true ∧ Frame [] [Reg.GLB_CTRL] [] s t) ∧
    (v &&& 0x6 = 0 → s.glb.state = .quiesced → After (.resume p v) s fun t =>
      t.glb = { s.glb with prev := .quiesced, state := .service } ∧
      Frame [.cmd, .glb] [Reg.GLB_CTRL, Reg.CMD_IRQ_PENDING] [] s t) ∧
    (v &&& 0x6 = 0 → s.glb.state ≠ .quiesced → After (.resume p v) s fun t =>
      t.rdBit Reg.GLB_CTRL 8 = true ∧ Frame [] [Reg.GLB_CTRL] [] s t)) ∧
  (∀ s : State, s.glb.quiescing = true → s.glb.state = .service →
    After (.quiesceDone true) s (fun t =>
      t.glb = { s.glb with quiescing := false } ∧ t.rdBit Reg.GLB_CTRL 9 = true ∧ t.rdBit Reg.GLB_CTRL 2 = false ∧
      Frame [.glb] [Reg.GLB_CTRL] [] s t) ∧
    (s.drained = true → After (.quiesceDone false) s fun t =>
      t.glb = { s.glb with quiescing := false, prev := .service, state := .quiesced } ∧
      Frame [.cmd, .glb] [Reg.CMD_IRQ_PENDING] [] s t) ∧
    (s.drained = false → Leaves (.quiesceDone false) s)) ∧
  (∀ (s : State) (abandoned : Bool), s.glb.quiescing = false ∨ s.glb.state ≠ .service →
    Leaves (.quiesceDone abandoned) s) ∧
  (∀ (s : State) (p : CmdPort) (v : Word), Permitted s p Reg.GLB_RESTART 2 →
    let free : Prop := s.sec.zeroizing = none ∧ s.img.commitBusy = false ∧ s.img.commitWait = false ∧
      s.cal.storing = none ∧ s.sec.fuse = none ∧ s.sec.retirePending = none
    (s.latched = false → free → After (.deviceRestart p v) s fun t =>
      t.glb.state = .aon ∧ t.glb.step = 2 ∧ t.glb.restart = .none ∧ (∀ d, t.domOn d = decide (d = 63)) ∧
      t.glb.vin = s.glb.vin ∧ t.glb.pwrEn = s.glb.pwrEn ∧ (∀ a, a ≠ Reg.CAL_CTRL → t.rd a = resetWord a) ∧
      t.ctrs = [] ∧ t.pkts = [] ∧ t.ports.all (fun x => decide (x.2.inbuf = [] ∧ x.2.linkUp = false)) = true ∧
      t.sec.volKey = none ∧ t.sec.slots = s.sec.slots ∧ t.sec.lifecycle = s.sec.lifecycle ∧
      t.flt.openRec = none ∧ t.flt.safe = false ∧ t.flt.nextSeq = s.flt.nextSeq ∧
      t.img.slot0.bytes = s.img.slot0.bytes ∧ t.img.slot1.bytes = s.img.slot1.bytes ∧ t.img.inForce = none ∧
      t.cal.sets = s.cal.sets ∧ t.mtx.field = s.mtx.field ∧ t.mtx.factory = s.mtx.factory ∧ t.adc.map = s.adc.map ∧
      t.thm.nvmLog = s.thm.nvmLog ∧ t.red.a.state = .isolated ∧ t.red.b.state = .isolated) ∧
    (s.latched = false → ¬free → After (.deviceRestart p v) s fun t =>
      t.glb.restart = .waiting ∧ t.flt.safe = true ∧ t.sec.zeroizing = s.sec.zeroizing ∧ t.sec.fuse = s.sec.fuse ∧
      OnlyParts [.regs, .cmd, .sec, .flt, .glb, .img, .acq, .ports] s t) ∧
    (s.latched = true → After (.deviceRestart p v) s fun t =>
      t.rdBit Reg.GLB_RESTART 1 = true ∧ Frame [] [Reg.GLB_RESTART] [] s t)) ∧
  (∀ (s : State) (p : CmdPort) (v : Word), Permitted s p Reg.GLB_DOMAIN_CTRL 1 →
    let d := fld v 5 0
    let kind : Prop := ¬(d < 48 ∨ 54 ≤ d ∧ d < 62)
    let phase : Prop := ¬inService s ∨ s.flt.safe = true ∨ s.domOn d = true
    let refused : Prop := kind ∨ phase ∨ s.restartBusy = true ∨ s.tooHot d = true
    (¬refused → After (.domainRestart p v) s fun t =>
      t.glb = { s.glb with domRestart := t.glb.domRestart, powerOrder := [] } ∧
      t.glb.domRestart.map Fin.val = some d ∧ Frame [.glb] [Reg.GLB_DOMAIN_CTRL] [] s t) ∧
    (refused → After (.domainRestart p v) s fun t =>
      (kind → t.rdBit Reg.GLB_DOMAIN_CTRL 8 = true) ∧ (phase → t.rdBit Reg.GLB_DOMAIN_CTRL 9 = true) ∧
      (s.restartBusy = true → t.rdBit Reg.GLB_DOMAIN_CTRL 10 = true) ∧
      (s.tooHot d = true → t.rdBit Reg.GLB_DOMAIN_CTRL 11 = true ∧
        (s.thm.events.length < 16 → t.thm.events =
          s.thm.events ++ [{ kind := 2, zone := d, sec := s.tim.dt.sec, ns := s.tim.dt.ns }])) ∧
      (s.tooHot d = false → t.thm = s.thm) ∧ Frame [.thm] [Reg.GLB_DOMAIN_CTRL] [] s t)) ∧
  (∀ (s : State) (d : Fin 64), s.glb.domRestart = some d → s.glb.powerOrder = [] → s.domOn d = false →
    let on (t : State) : Prop :=
      t.domOn d = true ∧ (∀ e, e ≠ d.val → t.domOn e = s.domOn e) ∧ t.glb.domRestart = some d
    (d.val < 32 ∨ 48 ≤ d.val → After (.domainPowerGood d) s fun t => on t ∧ Frame [.glb] [] [] s t) ∧
    (32 ≤ d.val → d.val < 48 → After (.domainPowerGood d) s fun t =>
      on t ∧ OnlyParts [.ctrs, .flt, .glb, .brt, .pkts, .chips] s t)) ∧
  (∀ (s : State) (d l : Fin 64) (rest : List (Fin 64)), s.glb.domRestart = some d → s.glb.powerOrder = l :: rest →
    l.val < 32 → s.glb.state ≠ .structured →
    After (.domainPowerGood l) s fun t =>
      t.domOn l = true ∧ (∀ e, e ≠ l.val → t.domOn e = s.domOn e) ∧
      t.glb = { s.glb with pg := t.glb.pg, powerOrder := rest } ∧ Frame [.glb] [] [] s t) ∧
  (∀ (s : State) (d : Fin 64) (repaired : List (Fin 16 × BitVec 32)), ¬ training s → s.glb.domRestart = some d →
    32 ≤ d.val → d.val < 48 → s.domOn d = true → (s.chip (d.val - 32)).stackUp = false →
    After (.dramTrainingDone repaired) s fun t =>
      t.glb.powerOrder.map Fin.val = [2 * (d.val - 32), 2 * (d.val - 32) + 1] ∧
      t.brt.mirrored.getLsbD (d.val - 32) = false) ∧
  (∀ (s : State) (d l : Fin 64), s.glb.domRestart = some d →
    s.glb.powerOrder.head? = some l ∨ (s.glb.powerOrder = [] ∧ s.domOn d = false ∧ l = d) →
    After .domainRestartFailed s fun t =>
      t.glb = { s.glb with
        powerOrder := s.glb.powerOrder.tail, domRestart := if s.glb.powerOrder = [] then none else some d } ∧
      t.rdBit Reg.GLB_DOMAIN_CTRL 12 = true ∧
      t.flt = { s.flt with sent := s.flt.sent ++
        [{ code := faultCode fbPwr l, cls := 2, sec := s.tim.dt.sec, ns := s.tim.dt.ns }] } ∧
      Frame [.flt, .glb] [Reg.GLB_DOMAIN_CTRL] [] s t) ∧
  ∀ s : State, s.glb.domRestart = none ∨
    (s.glb.powerOrder = [] ∧ ∀ d, s.glb.domRestart = some d → s.domOn d = true) → Leaves .domainRestartFailed s

/-- VIN_OUT_OF_RANGE (R578), VIN_COLLAPSE and HOLDUP_EXPIRY (R470, R532, R540, R580), PWR_EN_FALL and PWR_EN_RISE (R579),
DOMAIN_POWER_LOSS (R562, R616), PLL_UNLOCK and PLL_RELOCK (R590); the balls without power (R575). -/
def Obligations.PowerLost : Prop :=
  let sysFault (s : State) (n : Nat) : SentFault :=
    { code := faultCode fbSys n, cls := 3, sec := s.tim.dt.sec, ns := s.tim.dt.ns }
  let off (s t : State) : Prop :=
    t.glb.state = .off ∧ t.glb.pg = 0 ∧ t.pgood = .highZ ∧ t.alertN = .highZ ∧ t.thermN = .highZ ∧ t.glb.vin = .absent ∧ t.regs = [] ∧ t.ctrs = [] ∧ t.pkts = [] ∧
    t.sec.sram = [] ∧ t.sec.ring = s.sec.ring ∧ t.sec.fuse = none ∧ t.sec.volKey = none ∧
    t.img.slot0.bytes = s.img.slot0.bytes ∧ t.img.slot1.bytes = s.img.slot1.bytes ∧ t.cal.sets = s.cal.sets ∧
    t.mtx.field = s.mtx.field ∧ t.thm.nvmLog = s.thm.nvmLog ∧ t.drv = {} ∧
    (s.sec.fuse = none → t.sec.slots = s.sec.slots ∧ t.sec.minSvn = s.sec.minSvn ∧ t.sec.imageKey = s.sec.imageKey) ∧
    (∀ i h o, s.sec.fuse = some (.provision i h, o) →
      t.sec.slots[i].partly = true ∧ t.sec.slots[i].revoked = true ∧ t.sec.partialAt.getLsbD i = true)
  (∀ s : State,
    (s.glb.vin = .good → After .vinOutOfRange s fun t =>
      t.glb = { s.glb with vin := .outOfRange } ∧
      t.flt = { s.flt with
        vinGood := false, sent := s.flt.sent ++ [sysFault s 4], signals := s.flt.signals ++ [faultCode fbSys 4] } ∧
      Frame [.flt, .glb] [] [] s t) ∧
    (s.glb.vin ≠ .good → Leaves .vinOutOfRange s)) ∧
  (∀ s : State, s.glb.state ≠ .off →
    After .vinCollapse s fun t =>
      (∀ d, t.domOn d = (s.domOn d && decide (d = 63))) ∧ t.glb = { s.glb with vin := .collapsed, pg := t.glb.pg } ∧
      t.sec = { s.sec with sram := [] } ∧ t.thm = { s.thm with events := [], nvmOk := false } ∧
      t.img = { s.img with commitBusy := false, commitWait := false } ∧
      t.cal = { s.cal with storing := none, storeWait := false, storeNext := none } ∧
      (∀ n i, (t.emitter n i).on = false) ∧
      (∀ d, d < 32 → s.domOn d = true → ∀ i, i < 16 → (t.port (16 * d + i)).linkUp = false) ∧
      (Sparse.wf (fun _ => {}) s.drv.chans = true → ∀ e, e < 5120 →
        (t.chan e).out = 0 ∧ (t.chan e).outSb = 0 ∧ (t.chan e).levBar = 0 ∧ (t.chan e).levCross = 0) ∧
      Frame [.sec, .thm, .glb, .img, .drv, .mtx, .cal, .brt, .pkts, .ports, .chips, .xing] [] [] s t) ∧
  (∀ s : State, s.glb.state = .off → Leaves .vinCollapse s) ∧
  (∀ s : State,
    (s.glb.vin = .collapsed → After .holdupExpiry s fun t => off s t) ∧
    (s.glb.vin ≠ .collapsed → Leaves .holdupExpiry s)) ∧
  (∀ s : State,
    (s.glb.state = .off ∨ s.glb.state = .aon ∨ s.latched = true →
      After .pwrEnFall s fun t => t.glb = { s.glb with pwrEn := false } ∧ Frame [.glb] [] [] s t) ∧
    (s.glb.state ≠ .off → s.glb.state ≠ .aon → s.latched = false → s.mayPowerDown = true →
      After .pwrEnFall s fun t =>
        t.glb.pwrEn = false ∧ t.glb.state = .aon ∧ (∀ d, t.domOn d = decide (d = 63)) ∧ t.pkts = [] ∧
        t.sec.volKey = none) ∧
    (s.glb.state ≠ .off → s.glb.state ≠ .aon → s.latched = false → s.mayPowerDown = false →
      After .pwrEnFall s fun t =>
        t.glb.pwrEn = false ∧ t.glb.restart = .waiting ∧ t.flt.safe = true ∧
        OnlyParts [.regs, .cmd, .sec, .flt, .glb, .img, .acq, .ports] s t) ∧
    After .pwrEnRise s fun t => t.glb = { s.glb with pwrEn := true } ∧ Frame [.glb] [] [] s t) ∧
  (∀ (s : State) (d : Fin 64), s.domOn d = false → Leaves (.domainPowerLoss d) s) ∧
  (∀ s : State, s.domOn 63 = true → After (.domainPowerLoss 63) s fun t => off s t) ∧
  (∀ (s : State) (d : Fin 64), d ≠ 63 → s.domOn d = true →
    After (.domainPowerLoss d) s fun t =>
      t.domOn d = false ∧ (∀ e, e ≠ d.val → ¬(32 ≤ d.val ∧ d.val < 48) → t.domOn e = s.domOn e) ∧
      { code := faultCode fbPwr d, cls := 2, sec := s.tim.dt.sec, ns := s.tim.dt.ns } ∈ t.flt.sent ∧
      (50 ≤ d.val ∧ d.val < 54 ∨ d = 62 → sysFault s 3 ∈ t.flt.sent ∧ faultCode fbSys 3 ∈ t.flt.signals) ∧
      (s.glb.domRestart = some d → t.glb.domRestart = none) ∧
      (d.val < 32 → ∀ i, i < 16 → (t.port (16 * d + i)).ready = false ∧ (t.port (16 * d + i)).linkUp = false) ∧
      (32 ≤ d.val → d.val < 48 →
        t.domOn (2 * (d.val - 32)) = false ∧ t.domOn (2 * (d.val - 32) + 1) = false ∧ t.glb.quiescing = false ∧
        t.img.phase ≠ .drain) ∧
      (d = 48 → s.red.a.state ≠ .active → t.red.a.state = .isolated) ∧
      (d = 49 → s.red.b.state ≠ .active → t.red.b.state = .isolated) ∧
      (50 ≤ d.val → d.val < 54 → Sparse.wf (fun _ => {}) s.drv.chans = true → ∀ e, quadrantOf e = d.val - 50 →
        (t.chan e).out = 0 ∧ (t.chan e).outSb = 0 ∧ (t.chan e).levBar = 0 ∧ (t.chan e).levCross = 0) ∧
      (54 ≤ d.val → d.val < 62 → ∀ n, n / 4 = d.val - 54 → ∀ i, i < 17 → (t.emitter n i).on = false) ∧
      (s.domOn 63 = true → d ∈ powerOrderOf s.img.controller → t.pgood = .low) ∧
      OnlyParts [.freeCtr, .regs, .ctrs, .cmd, .sec, .flt, .glb, .img, .drv, .mtx, .red, .acq, .brt, .pkts, .ports,
        .chips, .xing] s t) ∧
  (∀ s : State, s.glb.pllLock = true →
    After .pllUnlock s fun t =>
      t.glb = { s.glb with pllLock := false, holdover := true, refclkOk := t.glb.refclkOk } ∧
      t.rdBit Reg.CLK_STATUS 3 = true ∧ t.ctr 0x400020 = s.ctr 0x400020 + 1 ∧
      t.flt = { s.flt with
        sent := s.flt.sent ++ [sysFault s 0], signals := s.flt.signals ++ [faultCode fbSys 0] } ∧
      Frame [.freeCtr, .cmd, .flt, .glb] [Reg.CLK_STATUS, Reg.CMD_IRQ_PENDING] [0x400020] s t) ∧
  (∀ s : State, s.glb.pllLock = false → Leaves .pllUnlock s) ∧
  ∀ s : State,
    (s.glb.holdover = true → After .pllRelock s fun t =>
      t.glb = { s.glb with pllLock := true, holdover := false, refclkOk := true } ∧ Frame [.glb] [] [] s t) ∧
    (s.glb.holdover = false → Leaves .pllRelock s)
end

