-- ==== Sys2Proof/Laws/Parts.lean ====
section
/-! SUPPORT. Which parts of the state an operation may change. A lemma f_parts says that f changes
only the parts it lists; with it, OnlyParts of a composed operation follows by chaining. Here are the chaining itself and
the plain updates of one or more parts. -/

namespace Sys2Proof

open Sys2Proof.Machine

theorem OnlyParts.refl {P : List Part} {s : State} : OnlyParts P s s := fun p _ => by cases p <;> rfl

theorem OnlyParts.trans {P : List Part} {s t u : State} (h : OnlyParts P s t) (h' : OnlyParts P t u) :
    OnlyParts P s u := by
  intro p hp
  have a := h p hp
  have b := h' p hp
  cases p <;> exact b.trans a

theorem OnlyParts.mono {P Q : List Part} {s t : State} (h : OnlyParts P s t) (hs : P ⊆ Q) : OnlyParts Q s t :=
  fun p hp => h p fun hq => hp (hs hq)

theorem OnlyParts.foldl {α : Type} {P : List Part} {s t : State} {f : State → α → State} {l : List α}
    (hf : ∀ u x, OnlyParts P s u → OnlyParts P s (f u x)) (h : OnlyParts P s t) : OnlyParts P s (l.foldl f t) := by
  induction l generalizing t with
  | nil => exact h
  | cons x l ih => exact ih (hf _ _ h)

theorem OnlyParts.foldl_fst {α β : Type} {P : List Part} {s : State} {t : State × β} {f : State × β → α → State × β}
    {l : List α} (hf : ∀ u x, OnlyParts P s u.1 → OnlyParts P s (f u x).1) (h : OnlyParts P s t.1) :
    OnlyParts P s (l.foldl f t).1 := by
  induction l generalizing t with
  | nil => exact h
  | cons x l ih => exact ih (hf _ _ h)

theorem OnlyParts.foldl_snd {α β : Type} {P : List Part} {s : State} {t : β × State} {f : β × State → α → β × State}
    {l : List α} (hf : ∀ u x, OnlyParts P s u.2 → OnlyParts P s (f u x).2) (h : OnlyParts P s t.2) :
    OnlyParts P s (l.foldl f t).2 := by
  induction l generalizing t with
  | nil => exact h
  | cons x l ih => exact ih (hf _ _ h)

theorem OnlyParts.set_pending {P : List Part} {s t : State} {v} (m : Part.pending ∈ P) (h : OnlyParts P s t) :
    OnlyParts P s { t with pending := v } := by
  intro p hp
  have := h p hp
  cases p <;> first | exact this | exact absurd m hp

theorem OnlyParts.set_freeCtr {P : List Part} {s t : State} {v} (m : Part.freeCtr ∈ P) (h : OnlyParts P s t) :
    OnlyParts P s { t with freeCtr := v } := by
  intro p hp
  have := h p hp
  cases p <;> first | exact this | exact absurd m hp

theorem OnlyParts.set_regs {P : List Part} {s t : State} {v} (m : Part.regs ∈ P) (h : OnlyParts P s t) :
    OnlyParts P s { t with regs := v } := by
  intro p hp
  have := h p hp
  cases p <;> first | exact this | exact absurd m hp

theorem OnlyParts.set_ctrs {P : List Part} {s t : State} {v} (m : Part.ctrs ∈ P) (h : OnlyParts P s t) :
    OnlyParts P s { t with ctrs := v } := by
  intro p hp
  have := h p hp
  cases p <;> first | exact this | exact absurd m hp

theorem OnlyParts.set_highLatch {P : List Part} {s t : State} {v} (m : Part.highLatch ∈ P) (h : OnlyParts P s t) :
    OnlyParts P s { t with highLatch := v } := by
  intro p hp
  have := h p hp
  cases p <;> first | exact this | exact absurd m hp

theorem OnlyParts.set_cmd {P : List Part} {s t : State} {v} (m : Part.cmd ∈ P) (h : OnlyParts P s t) :
    OnlyParts P s { t with cmd := v } := by
  intro p hp
  have := h p hp
  cases p <;> first | exact this | exact absurd m hp

theorem OnlyParts.set_sec {P : List Part} {s t : State} {v} (m : Part.sec ∈ P) (h : OnlyParts P s t) :
    OnlyParts P s { t with sec := v } := by
  intro p hp
  have := h p hp
  cases p <;> first | exact this | exact absurd m hp

theorem OnlyParts.set_flt {P : List Part} {s t : State} {v} (m : Part.flt ∈ P) (h : OnlyParts P s t) :
    OnlyParts P s { t with flt := v } := by
  intro p hp
  have := h p hp
  cases p <;> first | exact this | exact absurd m hp

theorem OnlyParts.set_thm {P : List Part} {s t : State} {v} (m : Part.thm ∈ P) (h : OnlyParts P s t) :
    OnlyParts P s { t with thm := v } := by
  intro p hp
  have := h p hp
  cases p <;> first | exact this | exact absurd m hp

theorem OnlyParts.set_glb {P : List Part} {s t : State} {v} (m : Part.glb ∈ P) (h : OnlyParts P s t) :
    OnlyParts P s { t with glb := v } := by
  intro p hp
  have := h p hp
  cases p <;> first | exact this | exact absurd m hp

theorem OnlyParts.set_img {P : List Part} {s t : State} {v} (m : Part.img ∈ P) (h : OnlyParts P s t) :
    OnlyParts P s { t with img := v } := by
  intro p hp
  have := h p hp
  cases p <;> first | exact this | exact absurd m hp

theorem OnlyParts.set_tim {P : List Part} {s t : State} {v} (m : Part.tim ∈ P) (h : OnlyParts P s t) :
    OnlyParts P s { t with tim := v } := by
  intro p hp
  have := h p hp
  cases p <;> first | exact this | exact absurd m hp

theorem OnlyParts.set_loopA {P : List Part} {s t : State} {v} (m : Part.loopA ∈ P) (h : OnlyParts P s t) :
    OnlyParts P s { t with loopA := v } := by
  intro p hp
  have := h p hp
  cases p <;> first | exact this | exact absurd m hp

theorem OnlyParts.set_loopB {P : List Part} {s t : State} {v} (m : Part.loopB ∈ P) (h : OnlyParts P s t) :
    OnlyParts P s { t with loopB := v } := by
  intro p hp
  have := h p hp
  cases p <;> first | exact this | exact absurd m hp

theorem OnlyParts.set_loopS {P : List Part} {s t : State} {v} (m : Part.loopS ∈ P) (h : OnlyParts P s t) :
    OnlyParts P s { t with loopS := v } := by
  intro p hp
  have := h p hp
  cases p <;> first | exact this | exact absurd m hp

theorem OnlyParts.set_drv {P : List Part} {s t : State} {v} (m : Part.drv ∈ P) (h : OnlyParts P s t) :
    OnlyParts P s { t with drv := v } := by
  intro p hp
  have := h p hp
  cases p <;> first | exact this | exact absurd m hp

theorem OnlyParts.set_adc {P : List Part} {s t : State} {v} (m : Part.adc ∈ P) (h : OnlyParts P s t) :
    OnlyParts P s { t with adc := v } := by
  intro p hp
  have := h p hp
  cases p <;> first | exact this | exact absurd m hp

theorem OnlyParts.set_mtx {P : List Part} {s t : State} {v} (m : Part.mtx ∈ P) (h : OnlyParts P s t) :
    OnlyParts P s { t with mtx := v } := by
  intro p hp
  have := h p hp
  cases p <;> first | exact this | exact absurd m hp

theorem OnlyParts.set_cal {P : List Part} {s t : State} {v} (m : Part.cal ∈ P) (h : OnlyParts P s t) :
    OnlyParts P s { t with cal := v } := by
  intro p hp
  have := h p hp
  cases p <;> first | exact this | exact absurd m hp

theorem OnlyParts.set_red {P : List Part} {s t : State} {v} (m : Part.red ∈ P) (h : OnlyParts P s t) :
    OnlyParts P s { t with red := v } := by
  intro p hp
  have := h p hp
  cases p <;> first | exact this | exact absurd m hp

theorem OnlyParts.set_acq {P : List Part} {s t : State} {v} (m : Part.acq ∈ P) (h : OnlyParts P s t) :
    OnlyParts P s { t with acq := v } := by
  intro p hp
  have := h p hp
  cases p <;> first | exact this | exact absurd m hp

theorem OnlyParts.set_slt {P : List Part} {s t : State} {v} (m : Part.slt ∈ P) (h : OnlyParts P s t) :
    OnlyParts P s { t with slt := v } := by
  intro p hp
  have := h p hp
  cases p <;> first | exact this | exact absurd m hp

theorem OnlyParts.set_brt {P : List Part} {s t : State} {v} (m : Part.brt ∈ P) (h : OnlyParts P s t) :
    OnlyParts P s { t with brt := v } := by
  intro p hp
  have := h p hp
  cases p <;> first | exact this | exact absurd m hp

theorem OnlyParts.set_pkts {P : List Part} {s t : State} {v} (m : Part.pkts ∈ P) (h : OnlyParts P s t) :
    OnlyParts P s { t with pkts := v } := by
  intro p hp
  have := h p hp
  cases p <;> first | exact this | exact absurd m hp

theorem OnlyParts.set_nextPkt {P : List Part} {s t : State} {v} (m : Part.nextPkt ∈ P) (h : OnlyParts P s t) :
    OnlyParts P s { t with nextPkt := v } := by
  intro p hp
  have := h p hp
  cases p <;> first | exact this | exact absurd m hp

theorem OnlyParts.set_ports {P : List Part} {s t : State} {v} (m : Part.ports ∈ P) (h : OnlyParts P s t) :
    OnlyParts P s { t with ports := v } := by
  intro p hp
  have := h p hp
  cases p <;> first | exact this | exact absurd m hp

theorem OnlyParts.set_chips {P : List Part} {s t : State} {v} (m : Part.chips ∈ P) (h : OnlyParts P s t) :
    OnlyParts P s { t with chips := v } := by
  intro p hp
  have := h p hp
  cases p <;> first | exact this | exact absurd m hp

theorem OnlyParts.set_xing {P : List Part} {s t : State} {v} (m : Part.xing ∈ P) (h : OnlyParts P s t) :
    OnlyParts P s { t with xing := v } := by
  intro p hp
  have := h p hp
  cases p <;> first | exact this | exact absurd m hp


theorem OnlyParts.set_adc_mtx {P : List Part} {s t : State} {v_adc v_mtx} (m_adc : Part.adc ∈ P) (m_mtx : Part.mtx ∈ P)
    (h : OnlyParts P s t) : OnlyParts P s { t with adc := v_adc, mtx := v_mtx } := by
  intro p hp
  have := h p hp
  cases p <;> first | exact this | (exact absurd (by assumption) hp)

theorem OnlyParts.set_cal_slt {P : List Part} {s t : State} {v_cal v_slt} (m_cal : Part.cal ∈ P) (m_slt : Part.slt ∈ P)
    (h : OnlyParts P s t) : OnlyParts P s { t with cal := v_cal, slt := v_slt } := by
  intro p hp
  have := h p hp
  cases p <;> first | exact this | (exact absurd (by assumption) hp)

theorem OnlyParts.set_cmd_img {P : List Part} {s t : State} {v_cmd v_img} (m_cmd : Part.cmd ∈ P) (m_img : Part.img ∈ P)
    (h : OnlyParts P s t) : OnlyParts P s { t with cmd := v_cmd, img := v_img } := by
  intro p hp
  have := h p hp
  cases p <;> first | exact this | (exact absurd (by assumption) hp)

theorem OnlyParts.set_ctrs_img {P : List Part} {s t : State} {v_ctrs v_img} (m_ctrs : Part.ctrs ∈ P) (m_img : Part.img ∈ P)
    (h : OnlyParts P s t) : OnlyParts P s { t with ctrs := v_ctrs, img := v_img } := by
  intro p hp
  have := h p hp
  cases p <;> first | exact this | (exact absurd (by assumption) hp)

theorem OnlyParts.set_drv_brt {P : List Part} {s t : State} {v_drv v_brt} (m_drv : Part.drv ∈ P) (m_brt : Part.brt ∈ P)
    (h : OnlyParts P s t) : OnlyParts P s { t with drv := v_drv, brt := v_brt } := by
  intro p hp
  have := h p hp
  cases p <;> first | exact this | (exact absurd (by assumption) hp)

theorem OnlyParts.set_drv_cal {P : List Part} {s t : State} {v_drv v_cal} (m_drv : Part.drv ∈ P) (m_cal : Part.cal ∈ P)
    (h : OnlyParts P s t) : OnlyParts P s { t with drv := v_drv, cal := v_cal } := by
  intro p hp
  have := h p hp
  cases p <;> first | exact this | (exact absurd (by assumption) hp)

theorem OnlyParts.set_flt_cal {P : List Part} {s t : State} {v_flt v_cal} (m_flt : Part.flt ∈ P) (m_cal : Part.cal ∈ P)
    (h : OnlyParts P s t) : OnlyParts P s { t with flt := v_flt, cal := v_cal } := by
  intro p hp
  have := h p hp
  cases p <;> first | exact this | (exact absurd (by assumption) hp)

theorem OnlyParts.set_flt_glb {P : List Part} {s t : State} {v_flt v_glb} (m_flt : Part.flt ∈ P) (m_glb : Part.glb ∈ P)
    (h : OnlyParts P s t) : OnlyParts P s { t with flt := v_flt, glb := v_glb } := by
  intro p hp
  have := h p hp
  cases p <;> first | exact this | (exact absurd (by assumption) hp)

theorem OnlyParts.set_flt_img {P : List Part} {s t : State} {v_flt v_img} (m_flt : Part.flt ∈ P) (m_img : Part.img ∈ P)
    (h : OnlyParts P s t) : OnlyParts P s { t with flt := v_flt, img := v_img } := by
  intro p hp
  have := h p hp
  cases p <;> first | exact this | (exact absurd (by assumption) hp)

theorem OnlyParts.set_flt_img_cal {P : List Part} {s t : State} {v_flt v_img v_cal} (m_flt : Part.flt ∈ P) (m_img : Part.img ∈ P) (m_cal : Part.cal ∈ P)
    (h : OnlyParts P s t) : OnlyParts P s { t with flt := v_flt, img := v_img, cal := v_cal } := by
  intro p hp
  have := h p hp
  cases p <;> first | exact this | (exact absurd (by assumption) hp)

theorem OnlyParts.set_flt_img_loopS {P : List Part} {s t : State} {v_flt v_img v_loopS} (m_flt : Part.flt ∈ P) (m_img : Part.img ∈ P) (m_loopS : Part.loopS ∈ P)
    (h : OnlyParts P s t) : OnlyParts P s { t with flt := v_flt, img := v_img, loopS := v_loopS } := by
  intro p hp
  have := h p hp
  cases p <;> first | exact this | (exact absurd (by assumption) hp)

theorem OnlyParts.set_flt_loopS {P : List Part} {s t : State} {v_flt v_loopS} (m_flt : Part.flt ∈ P) (m_loopS : Part.loopS ∈ P)
    (h : OnlyParts P s t) : OnlyParts P s { t with flt := v_flt, loopS := v_loopS } := by
  intro p hp
  have := h p hp
  cases p <;> first | exact this | (exact absurd (by assumption) hp)

theorem OnlyParts.set_flt_ports {P : List Part} {s t : State} {v_flt v_ports} (m_flt : Part.flt ∈ P) (m_ports : Part.ports ∈ P)
    (h : OnlyParts P s t) : OnlyParts P s { t with flt := v_flt, ports := v_ports } := by
  intro p hp
  have := h p hp
  cases p <;> first | exact this | (exact absurd (by assumption) hp)

theorem OnlyParts.set_flt_thm {P : List Part} {s t : State} {v_flt v_thm} (m_flt : Part.flt ∈ P) (m_thm : Part.thm ∈ P)
    (h : OnlyParts P s t) : OnlyParts P s { t with flt := v_flt, thm := v_thm } := by
  intro p hp
  have := h p hp
  cases p <;> first | exact this | (exact absurd (by assumption) hp)

theorem OnlyParts.set_flt_thm_cal {P : List Part} {s t : State} {v_flt v_thm v_cal} (m_flt : Part.flt ∈ P) (m_thm : Part.thm ∈ P) (m_cal : Part.cal ∈ P)
    (h : OnlyParts P s t) : OnlyParts P s { t with flt := v_flt, thm := v_thm, cal := v_cal } := by
  intro p hp
  have := h p hp
  cases p <;> first | exact this | (exact absurd (by assumption) hp)

theorem OnlyParts.set_flt_thm_img {P : List Part} {s t : State} {v_flt v_thm v_img} (m_flt : Part.flt ∈ P) (m_thm : Part.thm ∈ P) (m_img : Part.img ∈ P)
    (h : OnlyParts P s t) : OnlyParts P s { t with flt := v_flt, thm := v_thm, img := v_img } := by
  intro p hp
  have := h p hp
  cases p <;> first | exact this | (exact absurd (by assumption) hp)

theorem OnlyParts.set_flt_thm_img_cal {P : List Part} {s t : State} {v_flt v_thm v_img v_cal} (m_flt : Part.flt ∈ P) (m_thm : Part.thm ∈ P) (m_img : Part.img ∈ P) (m_cal : Part.cal ∈ P)
    (h : OnlyParts P s t) : OnlyParts P s { t with flt := v_flt, thm := v_thm, img := v_img, cal := v_cal } := by
  intro p hp
  have := h p hp
  cases p <;> first | exact this | (exact absurd (by assumption) hp)

theorem OnlyParts.set_freeCtr_loopS {P : List Part} {s t : State} {v_freeCtr v_loopS} (m_freeCtr : Part.freeCtr ∈ P) (m_loopS : Part.loopS ∈ P)
    (h : OnlyParts P s t) : OnlyParts P s { t with freeCtr := v_freeCtr, loopS := v_loopS } := by
  intro p hp
  have := h p hp
  cases p <;> first | exact this | (exact absurd (by assumption) hp)

theorem OnlyParts.set_glb_brt {P : List Part} {s t : State} {v_glb v_brt} (m_glb : Part.glb ∈ P) (m_brt : Part.brt ∈ P)
    (h : OnlyParts P s t) : OnlyParts P s { t with glb := v_glb, brt := v_brt } := by
  intro p hp
  have := h p hp
  cases p <;> first | exact this | (exact absurd (by assumption) hp)

theorem OnlyParts.set_glb_img {P : List Part} {s t : State} {v_glb v_img} (m_glb : Part.glb ∈ P) (m_img : Part.img ∈ P)
    (h : OnlyParts P s t) : OnlyParts P s { t with glb := v_glb, img := v_img } := by
  intro p hp
  have := h p hp
  cases p <;> first | exact this | (exact absurd (by assumption) hp)

theorem OnlyParts.set_img_cal {P : List Part} {s t : State} {v_img v_cal} (m_img : Part.img ∈ P) (m_cal : Part.cal ∈ P)
    (h : OnlyParts P s t) : OnlyParts P s { t with img := v_img, cal := v_cal } := by
  intro p hp
  have := h p hp
  cases p <;> first | exact this | (exact absurd (by assumption) hp)

theorem OnlyParts.set_img_loopS {P : List Part} {s t : State} {v_img v_loopS} (m_img : Part.img ∈ P) (m_loopS : Part.loopS ∈ P)
    (h : OnlyParts P s t) : OnlyParts P s { t with img := v_img, loopS := v_loopS } := by
  intro p hp
  have := h p hp
  cases p <;> first | exact this | (exact absurd (by assumption) hp)

theorem OnlyParts.set_loopA_loopB {P : List Part} {s t : State} {v_loopA v_loopB} (m_loopA : Part.loopA ∈ P) (m_loopB : Part.loopB ∈ P)
    (h : OnlyParts P s t) : OnlyParts P s { t with loopA := v_loopA, loopB := v_loopB } := by
  intro p hp
  have := h p hp
  cases p <;> first | exact this | (exact absurd (by assumption) hp)

theorem OnlyParts.set_loopS_adc {P : List Part} {s t : State} {v_loopS v_adc} (m_loopS : Part.loopS ∈ P) (m_adc : Part.adc ∈ P)
    (h : OnlyParts P s t) : OnlyParts P s { t with loopS := v_loopS, adc := v_adc } := by
  intro p hp
  have := h p hp
  cases p <;> first | exact this | (exact absurd (by assumption) hp)

theorem OnlyParts.set_loopS_cal {P : List Part} {s t : State} {v_loopS v_cal} (m_loopS : Part.loopS ∈ P) (m_cal : Part.cal ∈ P)
    (h : OnlyParts P s t) : OnlyParts P s { t with loopS := v_loopS, cal := v_cal } := by
  intro p hp
  have := h p hp
  cases p <;> first | exact this | (exact absurd (by assumption) hp)

theorem OnlyParts.set_loopS_drv {P : List Part} {s t : State} {v_loopS v_drv} (m_loopS : Part.loopS ∈ P) (m_drv : Part.drv ∈ P)
    (h : OnlyParts P s t) : OnlyParts P s { t with loopS := v_loopS, drv := v_drv } := by
  intro p hp
  have := h p hp
  cases p <;> first | exact this | (exact absurd (by assumption) hp)

theorem OnlyParts.set_loopS_drv_cal {P : List Part} {s t : State} {v_loopS v_drv v_cal} (m_loopS : Part.loopS ∈ P) (m_drv : Part.drv ∈ P) (m_cal : Part.cal ∈ P)
    (h : OnlyParts P s t) : OnlyParts P s { t with loopS := v_loopS, drv := v_drv, cal := v_cal } := by
  intro p hp
  have := h p hp
  cases p <;> first | exact this | (exact absurd (by assumption) hp)

theorem OnlyParts.set_regs_ctrs {P : List Part} {s t : State} {v_regs v_ctrs} (m_regs : Part.regs ∈ P) (m_ctrs : Part.ctrs ∈ P)
    (h : OnlyParts P s t) : OnlyParts P s { t with regs := v_regs, ctrs := v_ctrs } := by
  intro p hp
  have := h p hp
  cases p <;> first | exact this | (exact absurd (by assumption) hp)

theorem OnlyParts.set_regs_ctrs_highLatch_cmd_sec_flt_thm_glb_img_tim_loopA_loopB_loopS_drv_adc_mtx_cal_red_acq_slt_brt_pkts_nextPkt_ports_chips_xing {P : List Part} {s t : State} {v_regs v_ctrs v_highLatch v_cmd v_sec v_flt v_thm v_glb v_img v_tim v_loopA v_loopB v_loopS v_drv v_adc v_mtx v_cal v_red v_acq v_slt v_brt v_pkts v_nextPkt v_ports v_chips v_xing} (m_regs : Part.regs ∈ P) (m_ctrs : Part.ctrs ∈ P) (m_highLatch : Part.highLatch ∈ P) (m_cmd : Part.cmd ∈ P) (m_sec : Part.sec ∈ P) (m_flt : Part.flt ∈ P) (m_thm : Part.thm ∈ P) (m_glb : Part.glb ∈ P) (m_img : Part.img ∈ P) (m_tim : Part.tim ∈ P) (m_loopA : Part.loopA ∈ P) (m_loopB : Part.loopB ∈ P) (m_loopS : Part.loopS ∈ P) (m_drv : Part.drv ∈ P) (m_adc : Part.adc ∈ P) (m_mtx : Part.mtx ∈ P) (m_cal : Part.cal ∈ P) (m_red : Part.red ∈ P) (m_acq : Part.acq ∈ P) (m_slt : Part.slt ∈ P) (m_brt : Part.brt ∈ P) (m_pkts : Part.pkts ∈ P) (m_nextPkt : Part.nextPkt ∈ P) (m_ports : Part.ports ∈ P) (m_chips : Part.chips ∈ P) (m_xing : Part.xing ∈ P)
    (h : OnlyParts P s t) : OnlyParts P s { t with regs := v_regs, ctrs := v_ctrs, highLatch := v_highLatch, cmd := v_cmd, sec := v_sec, flt := v_flt, thm := v_thm, glb := v_glb, img := v_img, tim := v_tim, loopA := v_loopA, loopB := v_loopB, loopS := v_loopS, drv := v_drv, adc := v_adc, mtx := v_mtx, cal := v_cal, red := v_red, acq := v_acq, slt := v_slt, brt := v_brt, pkts := v_pkts, nextPkt := v_nextPkt, ports := v_ports, chips := v_chips, xing := v_xing } := by
  intro p hp
  have := h p hp
  cases p <;> first | exact this | (exact absurd (by assumption) hp)

theorem OnlyParts.set_regs_sec_flt_thm_glb_drv {P : List Part} {s t : State} {v_regs v_sec v_flt v_thm v_glb v_drv} (m_regs : Part.regs ∈ P) (m_sec : Part.sec ∈ P) (m_flt : Part.flt ∈ P) (m_thm : Part.thm ∈ P) (m_glb : Part.glb ∈ P) (m_drv : Part.drv ∈ P)
    (h : OnlyParts P s t) : OnlyParts P s { t with regs := v_regs, sec := v_sec, flt := v_flt, thm := v_thm, glb := v_glb, drv := v_drv } := by
  intro p hp
  have := h p hp
  cases p <;> first | exact this | (exact absurd (by assumption) hp)

theorem OnlyParts.set_sec_chips {P : List Part} {s t : State} {v_sec v_chips} (m_sec : Part.sec ∈ P) (m_chips : Part.chips ∈ P)
    (h : OnlyParts P s t) : OnlyParts P s { t with sec := v_sec, chips := v_chips } := by
  intro p hp
  have := h p hp
  cases p <;> first | exact this | (exact absurd (by assumption) hp)

theorem OnlyParts.set_sec_glb {P : List Part} {s t : State} {v_sec v_glb} (m_sec : Part.sec ∈ P) (m_glb : Part.glb ∈ P)
    (h : OnlyParts P s t) : OnlyParts P s { t with sec := v_sec, glb := v_glb } := by
  intro p hp
  have := h p hp
  cases p <;> first | exact this | (exact absurd (by assumption) hp)

theorem OnlyParts.set_sec_img_brt_pkts_ports_chips {P : List Part} {s t : State} {v_sec v_img v_brt v_pkts v_ports v_chips} (m_sec : Part.sec ∈ P) (m_img : Part.img ∈ P) (m_brt : Part.brt ∈ P) (m_pkts : Part.pkts ∈ P) (m_ports : Part.ports ∈ P) (m_chips : Part.chips ∈ P)
    (h : OnlyParts P s t) : OnlyParts P s { t with sec := v_sec, img := v_img, brt := v_brt, pkts := v_pkts, ports := v_ports, chips := v_chips } := by
  intro p hp
  have := h p hp
  cases p <;> first | exact this | (exact absurd (by assumption) hp)

theorem OnlyParts.set_sec_thm_glb_img_cal {P : List Part} {s t : State} {v_sec v_thm v_glb v_img v_cal} (m_sec : Part.sec ∈ P) (m_thm : Part.thm ∈ P) (m_glb : Part.glb ∈ P) (m_img : Part.img ∈ P) (m_cal : Part.cal ∈ P)
    (h : OnlyParts P s t) : OnlyParts P s { t with sec := v_sec, thm := v_thm, glb := v_glb, img := v_img, cal := v_cal } := by
  intro p hp
  have := h p hp
  cases p <;> first | exact this | (exact absurd (by assumption) hp)

theorem OnlyParts.set_slt_brt {P : List Part} {s t : State} {v_slt v_brt} (m_slt : Part.slt ∈ P) (m_brt : Part.brt ∈ P)
    (h : OnlyParts P s t) : OnlyParts P s { t with slt := v_slt, brt := v_brt } := by
  intro p hp
  have := h p hp
  cases p <;> first | exact this | (exact absurd (by assumption) hp)

theorem OnlyParts.set_thm_cal {P : List Part} {s t : State} {v_thm v_cal} (m_thm : Part.thm ∈ P) (m_cal : Part.cal ∈ P)
    (h : OnlyParts P s t) : OnlyParts P s { t with thm := v_thm, cal := v_cal } := by
  intro p hp
  have := h p hp
  cases p <;> first | exact this | (exact absurd (by assumption) hp)

theorem OnlyParts.set_thm_drv {P : List Part} {s t : State} {v_thm v_drv} (m_thm : Part.thm ∈ P) (m_drv : Part.drv ∈ P)
    (h : OnlyParts P s t) : OnlyParts P s { t with thm := v_thm, drv := v_drv } := by
  intro p hp
  have := h p hp
  cases p <;> first | exact this | (exact absurd (by assumption) hp)

theorem OnlyParts.set_thm_img {P : List Part} {s t : State} {v_thm v_img} (m_thm : Part.thm ∈ P) (m_img : Part.img ∈ P)
    (h : OnlyParts P s t) : OnlyParts P s { t with thm := v_thm, img := v_img } := by
  intro p hp
  have := h p hp
  cases p <;> first | exact this | (exact absurd (by assumption) hp)

theorem OnlyParts.set_thm_img_cal {P : List Part} {s t : State} {v_thm v_img v_cal} (m_thm : Part.thm ∈ P) (m_img : Part.img ∈ P) (m_cal : Part.cal ∈ P)
    (h : OnlyParts P s t) : OnlyParts P s { t with thm := v_thm, img := v_img, cal := v_cal } := by
  intro p hp
  have := h p hp
  cases p <;> first | exact this | (exact absurd (by assumption) hp)

theorem OnlyParts.set_tim_slt {P : List Part} {s t : State} {v_tim v_slt} (m_tim : Part.tim ∈ P) (m_slt : Part.slt ∈ P)
    (h : OnlyParts P s t) : OnlyParts P s { t with tim := v_tim, slt := v_slt } := by
  intro p hp
  have := h p hp
  cases p <;> first | exact this | (exact absurd (by assumption) hp)

end Sys2Proof
end

