-- ==== Sys2Proof/Laws/PartsShared.lean ====
section
/-! SUPPORT. What each operation of the shared operations, the loops, the drive-and-sense die and time may change: one lemma per operation. -/

namespace Sys2Proof.Machine

open Sys2Proof

theorem State.wr_parts {P : List Part} {s t : State} {a1 a2} (hP : [.regs] ⊆ P) (h : OnlyParts P s t) :
    OnlyParts P s (State.wr t a1 a2) := by
  have m_regs : Part.regs ∈ P := hP (by decide)
  unfold State.wr
  repeat' first
    | with_reducible exact h
    | dsimp only
    | with_reducible refine OnlyParts.set_regs m_regs ?_

theorem State.msiSend_parts {P : List Part} {s t : State} {a1} (hP : [.cmd] ⊆ P) (h : OnlyParts P s t) :
    OnlyParts P s (State.msiSend t a1) := by
  have m_cmd : Part.cmd ∈ P := hP (by decide)
  unfold State.msiSend
  repeat' first
    | with_reducible exact h
    | split
    | dsimp only
    | with_reducible refine OnlyParts.set_cmd m_cmd ?_

theorem State.irq_parts {P : List Part} {s t : State} {a1} (hP : [.regs, .cmd] ⊆ P) (h : OnlyParts P s t) :
    OnlyParts P s (State.irq t a1) := by
  have h0 : ([.regs] : List Part) ⊆ P := List.Subset.trans (by decide) hP
  have h1 : ([.cmd] : List Part) ⊆ P := List.Subset.trans (by decide) hP
  unfold State.irq
  repeat' first
    | with_reducible exact h
    | with_reducible refine State.wr_parts h0 ?_
    | with_reducible refine State.msiSend_parts h1 ?_
    | split
    | dsimp only

theorem State.irqIf_parts {P : List Part} {s t : State} {a1 a2 a3} (hP : [.regs, .cmd] ⊆ P) (h : OnlyParts P s t) :
    OnlyParts P s (State.irqIf t a1 a2 a3) := by
  have h0 : ([.regs, .cmd] : List Part) ⊆ P := List.Subset.trans (by decide) hP
  unfold State.irqIf
  repeat' first
    | with_reducible exact h
    | with_reducible refine State.irq_parts h0 ?_
    | split

theorem State.auditPut_parts {P : List Part} {s t : State} {a1 a2 a3 a4 a5} (hP : [.sec] ⊆ P) (h : OnlyParts P s t) :
    OnlyParts P s (State.auditPut t a1 a2 a3 a4 a5) := by
  have m_sec : Part.sec ∈ P := hP (by decide)
  unfold State.auditPut
  repeat' first
    | with_reducible exact h
    | split
    | dsimp only
    | with_reducible refine OnlyParts.set_sec m_sec ?_

theorem State.audit_parts {P : List Part} {s t : State} {a1 a2 a3 a4 a5} (hP : [.sec] ⊆ P) (h : OnlyParts P s t) :
    OnlyParts P s (State.audit t a1 a2 a3 a4 a5) := by
  have m_sec : Part.sec ∈ P := hP (by decide)
  have h0 : ([.sec] : List Part) ⊆ P := List.Subset.trans (by decide) hP
  unfold State.audit
  repeat' first
    | with_reducible exact h
    | with_reducible refine State.auditPut_parts h0 ?_
    | split
    | dsimp only
    | with_reducible refine OnlyParts.set_sec m_sec ?_

theorem State.setGState_parts {P : List Part} {s t : State} {a1}
    (hP : [.regs, .cmd, .glb] ⊆ P) (h : OnlyParts P s t) :
    OnlyParts P s (State.setGState t a1) := by
  have m_glb : Part.glb ∈ P := hP (by decide)
  have h0 : ([.regs, .cmd] : List Part) ⊆ P := List.Subset.trans (by decide) hP
  unfold State.setGState
  repeat' first
    | with_reducible exact h
    | with_reducible refine State.irqIf_parts h0 ?_
    | dsimp only
    | with_reducible refine OnlyParts.set_glb m_glb ?_

theorem State.wrBit_parts {P : List Part} {s t : State} {a1 a2 a3} (hP : [.regs] ⊆ P) (h : OnlyParts P s t) :
    OnlyParts P s (State.wrBit t a1 a2 a3) := by
  have h0 : ([.regs] : List Part) ⊆ P := List.Subset.trans (by decide) hP
  unfold State.wrBit
  repeat' first
    | with_reducible exact h
    | with_reducible refine State.wr_parts h0 ?_

theorem State.free_parts {P : List Part} {s t : State} (hP : [.freeCtr] ⊆ P) (h : OnlyParts P s t) :
    OnlyParts P s (State.free t).2 := by
  have m_freeCtr : Part.freeCtr ∈ P := hP (by decide)
  unfold State.free
  repeat' first
    | with_reducible exact h
    | dsimp only
    | with_reducible refine OnlyParts.set_freeCtr m_freeCtr ?_

theorem State.free_parts_eq {P : List Part} {s t v : State} {x0}
    (hP : [.freeCtr] ⊆ P) (e : State.free t = (x0, v)) (h : OnlyParts P s t) :
    OnlyParts P s v := by
  have := State.free_parts (P := P) (s := s) hP h
  rw [e] at this
  exact this

theorem State.setLoupe_parts {P : List Part} {s t : State} {a1 a2} (hP : [.acq] ⊆ P) (h : OnlyParts P s t) :
    OnlyParts P s (State.setLoupe t a1 a2) := by
  have m_acq : Part.acq ∈ P := hP (by decide)
  unfold State.setLoupe
  repeat' first
    | with_reducible exact h
    | dsimp only
    | with_reducible refine OnlyParts.set_acq m_acq ?_

theorem State.eventAt_parts {P : List Part} {s t : State} {a1 a2 a3} (hP : [.acq] ⊆ P) (h : OnlyParts P s t) :
    OnlyParts P s (State.eventAt t a1 a2 a3) := by
  have h0 : ([.acq] : List Part) ⊆ P := List.Subset.trans (by decide) hP
  unfold State.eventAt
  repeat' first
    | with_reducible exact h
    | with_reducible refine State.setLoupe_parts h0 ?_
    | split
    | dsimp only

theorem State.modeWatch_parts {P : List Part} {s t : State} {u0} (hP : [.acq] ⊆ P) (h : OnlyParts P s t) :
    OnlyParts P s (State.modeWatch u0 t) := by
  have h0 : ([.acq] : List Part) ⊆ P := List.Subset.trans (by decide) hP
  unfold State.modeWatch
  repeat' first
    | with_reducible exact h
    | with_reducible refine State.eventAt_parts h0 ?_
    | with_reducible assumption
    | with_reducible refine OnlyParts.foldl (fun _ _ _ => ?_) ?_
    | with_reducible refine OnlyParts.foldl_fst (fun _ _ _ => ?_) ?_
    | split
    | dsimp only

theorem State.setLoops_parts {P : List Part} {s t : State} {a1 a2} (hP : [.loopA, .loopB] ⊆ P) (h : OnlyParts P s t) :
    OnlyParts P s (State.setLoops t a1 a2) := by
  have m_loopB : Part.loopB ∈ P := hP (by decide)
  have m_loopA : Part.loopA ∈ P := hP (by decide)
  unfold State.setLoops
  repeat' first
    | with_reducible exact h
    | split
    | dsimp only
    | with_reducible refine OnlyParts.set_loopB m_loopB ?_
    | with_reducible refine OnlyParts.set_loopA m_loopA ?_

theorem State.setEmitter_parts {P : List Part} {s t : State} {a1 a2 a3} (hP : [.mtx] ⊆ P) (h : OnlyParts P s t) :
    OnlyParts P s (State.setEmitter t a1 a2 a3) := by
  have m_mtx : Part.mtx ∈ P := hP (by decide)
  unfold State.setEmitter
  repeat' first
    | with_reducible exact h
    | dsimp only
    | with_reducible refine OnlyParts.set_mtx m_mtx ?_

theorem State.setChan_parts {P : List Part} {s t : State} {a1 a2} (hP : [.drv] ⊆ P) (h : OnlyParts P s t) :
    OnlyParts P s (State.setChan t a1 a2) := by
  have m_drv : Part.drv ∈ P := hP (by decide)
  unfold State.setChan
  repeat' first
    | with_reducible exact h
    | dsimp only
    | with_reducible refine OnlyParts.set_drv m_drv ?_

theorem State.setElem_parts {P : List Part} {s t : State} {a1 a2 a3}
    (hP : [.loopA, .loopB] ⊆ P) (h : OnlyParts P s t) :
    OnlyParts P s (State.setElem t a1 a2 a3) := by
  have h0 : ([.loopA, .loopB] : List Part) ⊆ P := List.Subset.trans (by decide) hP
  unfold State.setElem
  repeat' first
    | with_reducible exact h
    | with_reducible refine State.setLoops_parts h0 ?_

theorem State.modElem_parts {P : List Part} {s t : State} {a1 a2} (hP : [.loopA, .loopB] ⊆ P) (h : OnlyParts P s t) :
    OnlyParts P s (State.modElem t a1 a2) := by
  have h0 : ([.loopA, .loopB] : List Part) ⊆ P := List.Subset.trans (by decide) hP
  unfold State.modElem
  repeat' first
    | with_reducible exact h
    | with_reducible refine State.setElem_parts h0 ?_

theorem State.setCalElem_parts {P : List Part} {s t : State} {a1 a2} (hP : [.cal] ⊆ P) (h : OnlyParts P s t) :
    OnlyParts P s (State.setCalElem t a1 a2) := by
  have m_cal : Part.cal ∈ P := hP (by decide)
  unfold State.setCalElem
  repeat' first
    | with_reducible exact h
    | dsimp only
    | with_reducible refine OnlyParts.set_cal m_cal ?_

theorem State.bump_parts {P : List Part} {s t : State} {a1 a2} (hP : [.ctrs] ⊆ P) (h : OnlyParts P s t) :
    OnlyParts P s (State.bump t a1 a2) := by
  have m_ctrs : Part.ctrs ∈ P := hP (by decide)
  unfold State.bump
  repeat' first
    | with_reducible exact h
    | dsimp only
    | with_reducible refine OnlyParts.set_ctrs m_ctrs ?_

theorem State.raise_parts {P : List Part} {s t : State} {a1 a2} (hP : [.ctrs, .flt] ⊆ P) (h : OnlyParts P s t) :
    OnlyParts P s (State.raise t a1 a2) := by
  have m_flt : Part.flt ∈ P := hP (by decide)
  have h0 : ([.ctrs] : List Part) ⊆ P := List.Subset.trans (by decide) hP
  unfold State.raise
  repeat' first
    | with_reducible exact h
    | with_reducible refine State.bump_parts h0 ?_
    | split
    | dsimp only
    | with_reducible refine OnlyParts.set_flt m_flt ?_

theorem State.reject_parts {P : List Part} {s t : State} {a1 a2 a3 a4}
    (hP : [.regs, .ctrs, .cmd, .sec] ⊆ P) (h : OnlyParts P s t) :
    OnlyParts P s (State.reject t a1 a2 a3 a4) := by
  have h0 : ([.regs, .cmd] : List Part) ⊆ P := List.Subset.trans (by decide) hP
  have h1 : ([.ctrs] : List Part) ⊆ P := List.Subset.trans (by decide) hP
  have h2 : ([.regs] : List Part) ⊆ P := List.Subset.trans (by decide) hP
  have h3 : ([.sec] : List Part) ⊆ P := List.Subset.trans (by decide) hP
  unfold State.reject
  repeat' first
    | with_reducible exact h
    | with_reducible refine State.irqIf_parts h0 ?_
    | with_reducible refine State.bump_parts h1 ?_
    | with_reducible refine State.wr_parts h2 ?_
    | with_reducible refine State.audit_parts h3 ?_

theorem State.setRd_parts {P : List Part} {s t : State} {a1 a2} (hP : [.cmd] ⊆ P) (h : OnlyParts P s t) :
    OnlyParts P s (State.setRd t a1 a2) := by
  have m_cmd : Part.cmd ∈ P := hP (by decide)
  unfold State.setRd
  repeat' first
    | with_reducible exact h
    | split
    | dsimp only
    | with_reducible refine OnlyParts.set_cmd m_cmd ?_

theorem State.judge_parts {P : List Part} {s t : State} {a1 a2 a3}
    (hP : [.regs, .ctrs, .cmd, .sec] ⊆ P) (h : OnlyParts P s t) :
    OnlyParts P s (State.judge t a1 a2 a3).2 := by
  have h0 : ([.ctrs] : List Part) ⊆ P := List.Subset.trans (by decide) hP
  have h1 : ([.regs, .ctrs, .cmd, .sec] : List Part) ⊆ P := List.Subset.trans (by decide) hP
  unfold State.judge
  repeat' first
    | with_reducible exact h
    | with_reducible refine State.bump_parts h0 ?_
    | with_reducible refine State.reject_parts h1 ?_
    | split

theorem State.judge_parts_eq {P : List Part} {s t v : State} {a1 a2 a3} {x0}
    (hP : [.regs, .ctrs, .cmd, .sec] ⊆ P) (e : State.judge t a1 a2 a3 = (x0, v)) (h : OnlyParts P s t) :
    OnlyParts P s v := by
  have := State.judge_parts (P := P) (s := s) (a1 := a1) (a2 := a2) (a3 := a3) hP h
  rw [e] at this
  exact this

theorem State.accessRead_parts {P : List Part} {s t : State} {a1 a2 a3}
    (hP : [.regs, .ctrs, .cmd, .sec] ⊆ P) (ha : ∀ u, OnlyParts P s u → OnlyParts P s (a3 u)) (h : OnlyParts P s t) :
    OnlyParts P s (State.accessRead t a1 a2 a3) := by
  have h0 : ([.regs, .ctrs, .cmd, .sec] : List Part) ⊆ P := List.Subset.trans (by decide) hP
  have h1 : ([.cmd] : List Part) ⊆ P := List.Subset.trans (by decide) hP
  unfold State.accessRead
  repeat' first
    | with_reducible exact h
    | refine ha _ ?_
    | with_reducible refine State.judge_parts h0 ?_
    | with_reducible refine State.judge_parts_eq h0 (by assumption) ?_
    | with_reducible refine State.setRd_parts h1 ?_
    | with_reducible assumption
    | split
    | dsimp only

theorem State.readSecLo_parts {P : List Part} {s t : State} {a1 a2} (hP : [.cmd, .tim] ⊆ P) (h : OnlyParts P s t) :
    OnlyParts P s (State.readSecLo t a1 a2) := by
  have m_tim : Part.tim ∈ P := hP (by decide)
  have h0 : ([.cmd] : List Part) ⊆ P := List.Subset.trans (by decide) hP
  unfold State.readSecLo
  repeat' first
    | with_reducible exact h
    | with_reducible refine State.setRd_parts h0 ?_
    | split
    | dsimp only
    | with_reducible refine OnlyParts.set_tim m_tim ?_

theorem State.readFifo_parts {P : List Part} {s t : State} {a1} (hP : [.cmd, .tim] ⊆ P) (h : OnlyParts P s t) :
    OnlyParts P s (State.readFifo t a1) := by
  have m_tim : Part.tim ∈ P := hP (by decide)
  have h0 : ([.cmd] : List Part) ⊆ P := List.Subset.trans (by decide) hP
  unfold State.readFifo
  repeat' first
    | with_reducible exact h
    | with_reducible refine State.setRd_parts h0 ?_
    | split
    | dsimp only
    | with_reducible refine OnlyParts.set_tim m_tim ?_

theorem State.setAu_parts {P : List Part} {s t : State} {a1 a2} (hP : [.adc] ⊆ P) (h : OnlyParts P s t) :
    OnlyParts P s (State.setAu t a1 a2) := by
  have m_adc : Part.adc ∈ P := hP (by decide)
  unfold State.setAu
  repeat' first
    | with_reducible exact h
    | dsimp only
    | with_reducible refine OnlyParts.set_adc m_adc ?_

theorem State.readAdcData_parts {P : List Part} {s t : State} {a1 a2} (hP : [.cmd, .adc] ⊆ P) (h : OnlyParts P s t) :
    OnlyParts P s (State.readAdcData t a1 a2) := by
  have h0 : ([.adc] : List Part) ⊆ P := List.Subset.trans (by decide) hP
  have h1 : ([.cmd] : List Part) ⊆ P := List.Subset.trans (by decide) hP
  unfold State.readAdcData
  repeat' first
    | with_reducible exact h
    | with_reducible refine State.setAu_parts h0 ?_
    | with_reducible refine State.setRd_parts h1 ?_

theorem State.plainWrite_parts {P : List Part} {s t : State} {a1 a2 a3}
    (hP : [.regs, .ctrs, .sec] ⊆ P) (h : OnlyParts P s t) :
    OnlyParts P s (State.plainWrite t a1 a2 a3) := by
  have h0 : ([.ctrs] : List Part) ⊆ P := List.Subset.trans (by decide) hP
  have h1 : ([.regs] : List Part) ⊆ P := List.Subset.trans (by decide) hP
  have h2 : ([.sec] : List Part) ⊆ P := List.Subset.trans (by decide) hP
  unfold State.plainWrite
  repeat' first
    | with_reducible exact h
    | with_reducible refine State.bump_parts h0 ?_
    | with_reducible refine State.wr_parts h1 ?_
    | with_reducible refine State.audit_parts h2 ?_
    | split
    | dsimp only

theorem State.writeModeReq_parts {P : List Part} {s t : State} {a1 a2}
    (hP : [.regs, .ctrs, .sec, .loopS] ⊆ P) (h : OnlyParts P s t) :
    OnlyParts P s (State.writeModeReq t a1 a2) := by
  have m_loopS : Part.loopS ∈ P := hP (by decide)
  have h0 : ([.regs] : List Part) ⊆ P := List.Subset.trans (by decide) hP
  have h1 : ([.regs, .ctrs, .sec] : List Part) ⊆ P := List.Subset.trans (by decide) hP
  unfold State.writeModeReq
  repeat' first
    | with_reducible exact h
    | with_reducible refine State.wrBit_parts h0 ?_
    | with_reducible refine State.plainWrite_parts h1 ?_
    | split
    | dsimp only
    | with_reducible refine OnlyParts.set_loopS m_loopS ?_

theorem State.writeRangeReq_parts {P : List Part} {s t : State} {a1 a2}
    (hP : [.regs, .ctrs, .sec, .drv] ⊆ P) (h : OnlyParts P s t) :
    OnlyParts P s (State.writeRangeReq t a1 a2) := by
  have m_drv : Part.drv ∈ P := hP (by decide)
  have h0 : ([.regs, .ctrs, .sec] : List Part) ⊆ P := List.Subset.trans (by decide) hP
  unfold State.writeRangeReq
  repeat' first
    | with_reducible exact h
    | with_reducible refine State.plainWrite_parts h0 ?_
    | split
    | dsimp only
    | with_reducible refine OnlyParts.set_drv m_drv ?_

theorem State.setCtlRed_parts {P : List Part} {s t : State} {a1 a2} (hP : [.red] ⊆ P) (h : OnlyParts P s t) :
    OnlyParts P s (State.setCtlRed t a1 a2) := by
  have m_red : Part.red ∈ P := hP (by decide)
  unfold State.setCtlRed
  repeat' first
    | with_reducible exact h
    | split
    | dsimp only
    | with_reducible refine OnlyParts.set_red m_red ?_

theorem State.setDom_parts {P : List Part} {s t : State} {a1 a2} (hP : [.glb] ⊆ P) (h : OnlyParts P s t) :
    OnlyParts P s (State.setDom t a1 a2) := by
  have m_glb : Part.glb ∈ P := hP (by decide)
  unfold State.setDom
  repeat' first
    | with_reducible exact h
    | split
    | dsimp only
    | with_reducible refine OnlyParts.set_glb m_glb ?_

theorem State.writeCoeff_parts {P : List Part} {s t : State} {a1 a2 a3 a4 a5}
    (hP : [.regs, .ctrs, .sec] ⊆ P) (h : OnlyParts P s t) :
    OnlyParts P s (State.writeCoeff t a1 a2 a3 a4 a5) := by
  have h0 : ([.regs] : List Part) ⊆ P := List.Subset.trans (by decide) hP
  have h1 : ([.regs, .ctrs, .sec] : List Part) ⊆ P := List.Subset.trans (by decide) hP
  unfold State.writeCoeff
  repeat' first
    | with_reducible exact h
    | with_reducible refine State.wrBit_parts h0 ?_
    | with_reducible refine State.plainWrite_parts h1 ?_
    | split

theorem State.setBank_parts {P : List Part} {s t : State} {a1 a2} (hP : [.mtx] ⊆ P) (h : OnlyParts P s t) :
    OnlyParts P s (State.setBank t a1 a2) := by
  have m_mtx : Part.mtx ∈ P := hP (by decide)
  unfold State.setBank
  repeat' first
    | with_reducible exact h
    | dsimp only
    | with_reducible refine OnlyParts.set_mtx m_mtx ?_

theorem State.applyAuCfg_parts {P : List Part} {s t : State} {a1 a2} (hP : [.adc] ⊆ P) (h : OnlyParts P s t) :
    OnlyParts P s (State.applyAuCfg t a1 a2) := by
  have h0 : ([.adc] : List Part) ⊆ P := List.Subset.trans (by decide) hP
  unfold State.applyAuCfg
  repeat' first
    | with_reducible exact h
    | with_reducible refine State.setAu_parts h0 ?_

theorem State.writeAuCfg_parts {P : List Part} {s t : State} {a1 a2 a3}
    (hP : [.regs, .ctrs, .sec, .adc] ⊆ P) (h : OnlyParts P s t) :
    OnlyParts P s (State.writeAuCfg t a1 a2 a3) := by
  have h0 : ([.adc] : List Part) ⊆ P := List.Subset.trans (by decide) hP
  have h1 : ([.regs] : List Part) ⊆ P := List.Subset.trans (by decide) hP
  have h2 : ([.regs, .ctrs, .sec] : List Part) ⊆ P := List.Subset.trans (by decide) hP
  unfold State.writeAuCfg
  repeat' first
    | with_reducible exact h
    | with_reducible refine State.applyAuCfg_parts h0 ?_
    | with_reducible refine State.wrBit_parts h1 ?_
    | with_reducible refine State.plainWrite_parts h2 ?_
    | with_reducible refine State.setAu_parts h0 ?_
    | split
    | dsimp only

theorem State.swapReqBit_parts {P : List Part} {s t : State} (hP : [.regs, .loopS] ⊆ P) (h : OnlyParts P s t) :
    OnlyParts P s (State.swapReqBit t) := by
  have m_loopS : Part.loopS ∈ P := hP (by decide)
  have h0 : ([.regs] : List Part) ⊆ P := List.Subset.trans (by decide) hP
  unfold State.swapReqBit
  repeat' first
    | with_reducible exact h
    | with_reducible refine State.wrBit_parts h0 ?_
    | with_reducible assumption
    | with_reducible refine OnlyParts.foldl (fun _ _ _ => ?_) ?_
    | with_reducible refine OnlyParts.foldl_fst (fun _ _ _ => ?_) ?_
    | split
    | dsimp only
    | with_reducible refine OnlyParts.set_loopS m_loopS ?_

theorem State.swapCancelBit_parts {P : List Part} {s t : State} (hP : [.regs, .loopS] ⊆ P) (h : OnlyParts P s t) :
    OnlyParts P s (State.swapCancelBit t) := by
  have m_loopS : Part.loopS ∈ P := hP (by decide)
  have h0 : ([.regs] : List Part) ⊆ P := List.Subset.trans (by decide) hP
  unfold State.swapCancelBit
  repeat' first
    | with_reducible exact h
    | with_reducible refine State.wrBit_parts h0 ?_
    | split
    | dsimp only
    | with_reducible refine OnlyParts.set_loopS m_loopS ?_

theorem State.writeSwapCtrl_parts {P : List Part} {s t : State} {a1 a2}
    (hP : [.regs, .ctrs, .sec, .loopS] ⊆ P) (h : OnlyParts P s t) :
    OnlyParts P s (State.writeSwapCtrl t a1 a2) := by
  have h0 : ([.regs, .loopS] : List Part) ⊆ P := List.Subset.trans (by decide) hP
  have h1 : ([.regs, .ctrs, .sec] : List Part) ⊆ P := List.Subset.trans (by decide) hP
  unfold State.writeSwapCtrl
  repeat' first
    | with_reducible exact h
    | with_reducible refine State.swapReqBit_parts h0 ?_
    | with_reducible refine State.plainWrite_parts h1 ?_
    | with_reducible refine State.swapCancelBit_parts h0 ?_
    | split

theorem State.writeTarget_parts {P : List Part} {s t : State} {a1 a2 a3}
    (hP : [.regs, .ctrs, .sec, .loopS] ⊆ P) (h : OnlyParts P s t) :
    OnlyParts P s (State.writeTarget t a1 a2 a3) := by
  have m_loopS : Part.loopS ∈ P := hP (by decide)
  have h0 : ([.regs, .ctrs, .sec] : List Part) ⊆ P := List.Subset.trans (by decide) hP
  unfold State.writeTarget
  repeat' first
    | with_reducible exact h
    | with_reducible refine State.plainWrite_parts h0 ?_
    | dsimp only
    | with_reducible refine OnlyParts.set_loopS m_loopS ?_

theorem State.acceptLoad_parts {P : List Part} {s t : State} {a1} (hP : [.regs, .tim] ⊆ P) (h : OnlyParts P s t) :
    OnlyParts P s (State.acceptLoad t a1) := by
  have m_tim : Part.tim ∈ P := hP (by decide)
  have h0 : ([.regs] : List Part) ⊆ P := List.Subset.trans (by decide) hP
  unfold State.acceptLoad
  repeat' first
    | with_reducible exact h
    | with_reducible refine State.wrBit_parts h0 ?_
    | split
    | dsimp only
    | with_reducible refine OnlyParts.set_tim m_tim ?_

theorem State.acceptStep_parts {P : List Part} {s t : State} {a1} (hP : [.regs, .tim] ⊆ P) (h : OnlyParts P s t) :
    OnlyParts P s (State.acceptStep t a1) := by
  have m_tim : Part.tim ∈ P := hP (by decide)
  have h0 : ([.regs] : List Part) ⊆ P := List.Subset.trans (by decide) hP
  unfold State.acceptStep
  repeat' first
    | with_reducible exact h
    | with_reducible refine State.wrBit_parts h0 ?_
    | dsimp only
    | with_reducible refine OnlyParts.set_tim m_tim ?_

theorem State.writeTimCmd_parts {P : List Part} {s t : State} {a1 a2 a3}
    (hP : [.regs, .ctrs, .sec, .tim] ⊆ P) (h : OnlyParts P s t) :
    OnlyParts P s (State.writeTimCmd t a1 a2 a3) := by
  have h0 : ([.regs, .tim] : List Part) ⊆ P := List.Subset.trans (by decide) hP
  have h1 : ([.regs, .ctrs, .sec] : List Part) ⊆ P := List.Subset.trans (by decide) hP
  unfold State.writeTimCmd
  repeat' first
    | with_reducible exact h
    | with_reducible refine State.acceptLoad_parts h0 ?_
    | with_reducible refine State.plainWrite_parts h1 ?_
    | with_reducible refine State.acceptStep_parts h0 ?_
    | split

theorem State.retarget_parts {P : List Part} {s t : State} (hP : [.tim] ⊆ P) (h : OnlyParts P s t) :
    OnlyParts P s (State.retarget t) := by
  have m_tim : Part.tim ∈ P := hP (by decide)
  unfold State.retarget
  repeat' first
    | with_reducible exact h
    | split
    | dsimp only
    | with_reducible refine OnlyParts.set_tim m_tim ?_

theorem State.writeTimCtrl_parts {P : List Part} {s t : State} {a1 a2}
    (hP : [.regs, .ctrs, .sec, .tim] ⊆ P) (h : OnlyParts P s t) :
    OnlyParts P s (State.writeTimCtrl t a1 a2) := by
  have h0 : ([.tim] : List Part) ⊆ P := List.Subset.trans (by decide) hP
  have h1 : ([.regs, .ctrs, .sec] : List Part) ⊆ P := List.Subset.trans (by decide) hP
  unfold State.writeTimCtrl
  repeat' first
    | with_reducible exact h
    | with_reducible refine State.retarget_parts h0 ?_
    | with_reducible refine State.plainWrite_parts h1 ?_

theorem State.eventAtTime_parts {P : List Part} {s t : State} {a1 a2} (hP : [.acq] ⊆ P) (h : OnlyParts P s t) :
    OnlyParts P s (State.eventAtTime t a1 a2) := by
  have h0 : ([.acq] : List Part) ⊆ P := List.Subset.trans (by decide) hP
  unfold State.eventAtTime
  repeat' first
    | with_reducible exact h
    | with_reducible refine State.eventAt_parts h0 ?_
    | with_reducible assumption
    | with_reducible refine OnlyParts.foldl (fun _ _ _ => ?_) ?_

theorem State.event_parts {P : List Part} {s t : State} {a1} (hP : [.acq] ⊆ P) (h : OnlyParts P s t) :
    OnlyParts P s (State.event t a1) := by
  have h0 : ([.acq] : List Part) ⊆ P := List.Subset.trans (by decide) hP
  unfold State.event
  repeat' first
    | with_reducible exact h
    | with_reducible refine State.eventAtTime_parts h0 ?_

theorem State.access_parts {P : List Part} {s t : State} {a1 a2 a3 a4}
    (hP : [.regs, .ctrs, .cmd, .sec] ⊆ P) (ha : ∀ u, OnlyParts P s u → OnlyParts P s (a4 u)) (h : OnlyParts P s t) :
    OnlyParts P s (State.access t a1 a2 a3 a4) := by
  have h0 : ([.regs, .ctrs, .cmd, .sec] : List Part) ⊆ P := List.Subset.trans (by decide) hP
  unfold State.access
  repeat' first
    | with_reducible exact h
    | refine ha _ ?_
    | with_reducible refine State.judge_parts h0 ?_
    | with_reducible refine State.judge_parts_eq h0 (by assumption) ?_
    | with_reducible assumption
    | split
    | dsimp only

theorem State.acqTimeout_parts {P : List Part} {s t : State} {a1 a2}
    (hP : [.ctrs, .flt, .loopA, .loopB] ⊆ P) (h : OnlyParts P s t) :
    OnlyParts P s (State.acqTimeout t a1 a2) := by
  have h0 : ([.ctrs, .flt] : List Part) ⊆ P := List.Subset.trans (by decide) hP
  have h1 : ([.loopA, .loopB] : List Part) ⊆ P := List.Subset.trans (by decide) hP
  unfold State.acqTimeout
  repeat' first
    | with_reducible exact h
    | with_reducible refine State.raise_parts h0 ?_
    | with_reducible refine State.setElem_parts h1 ?_
    | split
    | dsimp only

theorem State.applyModeDue_parts {P : List Part} {s t : State} (hP : [.loopA, .loopB] ⊆ P) (h : OnlyParts P s t) :
    OnlyParts P s (State.applyModeDue t) := by
  have m_loopB : Part.loopB ∈ P := hP (by decide)
  have m_loopA : Part.loopA ∈ P := hP (by decide)
  unfold State.applyModeDue
  repeat' first
    | with_reducible exact h
    | dsimp only
    | with_reducible refine OnlyParts.set_loopB m_loopB ?_
    | with_reducible refine OnlyParts.set_loopA m_loopA ?_
    | with_reducible refine OnlyParts.set_loopA_loopB m_loopA m_loopB ?_

theorem State.applyModeReq_parts {P : List Part} {s t : State}
    (hP : [.regs, .loopA, .loopB, .loopS] ⊆ P) (h : OnlyParts P s t) :
    OnlyParts P s (State.applyModeReq t) := by
  have m_loopS : Part.loopS ∈ P := hP (by decide)
  have h0 : ([.regs] : List Part) ⊆ P := List.Subset.trans (by decide) hP
  have h1 : ([.loopA, .loopB] : List Part) ⊆ P := List.Subset.trans (by decide) hP
  unfold State.applyModeReq
  repeat' first
    | with_reducible exact h
    | with_reducible refine State.wrBit_parts h0 ?_
    | with_reducible refine State.modElem_parts h1 ?_
    | split
    | dsimp only
    | with_reducible refine OnlyParts.set_loopS m_loopS ?_

theorem State.elemEvent_parts {P : List Part} {s t : State} {a1 a2 a3} (hP : [.acq] ⊆ P) (h : OnlyParts P s t) :
    OnlyParts P s (State.elemEvent t a1 a2 a3) := by
  have h0 : ([.acq] : List Part) ⊆ P := List.Subset.trans (by decide) hP
  unfold State.elemEvent
  repeat' first
    | with_reducible exact h
    | with_reducible refine State.eventAt_parts h0 ?_
    | with_reducible assumption
    | with_reducible refine OnlyParts.foldl (fun _ _ _ => ?_) ?_
    | with_reducible refine OnlyParts.foldl_fst (fun _ _ _ => ?_) ?_
    | split

theorem State.applyOut_parts {P : List Part} {s t : State} {a1 a2 a3}
    (hP : [.ctrs, .flt, .loopA, .loopB, .acq] ⊆ P) (h : OnlyParts P s t) :
    OnlyParts P s (State.applyOut t a1 a2 a3) := by
  have h0 : ([.loopA, .loopB] : List Part) ⊆ P := List.Subset.trans (by decide) hP
  have h1 : ([.ctrs, .flt] : List Part) ⊆ P := List.Subset.trans (by decide) hP
  have h2 : ([.acq] : List Part) ⊆ P := List.Subset.trans (by decide) hP
  unfold State.applyOut
  repeat' first
    | with_reducible exact h
    | with_reducible refine State.setLoops_parts h0 ?_
    | with_reducible refine State.raise_parts h1 ?_
    | with_reducible refine State.elemEvent_parts h2 ?_
    | split
    | dsimp only

theorem State.beginRange_parts {P : List Part} {s t : State} {a1 a2} (hP : [.drv] ⊆ P) (h : OnlyParts P s t) :
    OnlyParts P s (State.beginRange t a1 a2) := by
  have h0 : ([.drv] : List Part) ⊆ P := List.Subset.trans (by decide) hP
  unfold State.beginRange
  repeat' first
    | with_reducible exact h
    | with_reducible refine State.setChan_parts h0 ?_
    | split
    | dsimp only

theorem State.applyRangeReq_parts {P : List Part} {s t : State} (hP : [.regs, .drv] ⊆ P) (h : OnlyParts P s t) :
    OnlyParts P s (State.applyRangeReq t) := by
  have m_drv : Part.drv ∈ P := hP (by decide)
  have h0 : ([.regs] : List Part) ⊆ P := List.Subset.trans (by decide) hP
  have h1 : ([.drv] : List Part) ⊆ P := List.Subset.trans (by decide) hP
  unfold State.applyRangeReq
  repeat' first
    | with_reducible exact h
    | with_reducible refine State.wrBit_parts h0 ?_
    | with_reducible refine State.beginRange_parts h1 ?_
    | with_reducible assumption
    | with_reducible refine OnlyParts.foldl (fun _ _ _ => ?_) ?_
    | with_reducible refine OnlyParts.foldl_fst (fun _ _ _ => ?_) ?_
    | split
    | dsimp only
    | with_reducible refine OnlyParts.set_drv m_drv ?_

theorem State.raiseCtl_parts {P : List Part} {s t : State} {a1 a2} (hP : [.ctrs, .flt] ⊆ P) (h : OnlyParts P s t) :
    OnlyParts P s (State.raiseCtl t a1 a2) := by
  have h0 : ([.ctrs, .flt] : List Part) ⊆ P := List.Subset.trans (by decide) hP
  unfold State.raiseCtl
  repeat' first
    | with_reducible exact h
    | with_reducible refine State.raise_parts h0 ?_

theorem State.atPhase_parts {P : List Part} {s t : State} {a1} (hP : [.tim] ⊆ P) (h : OnlyParts P s t) :
    OnlyParts P s (State.atPhase t a1) := by
  have m_tim : Part.tim ∈ P := hP (by decide)
  unfold State.atPhase
  repeat' first
    | with_reducible exact h
    | dsimp only
    | with_reducible refine OnlyParts.set_tim m_tim ?_

theorem State.auConfigApply_parts {P : List Part} {s t : State} {a1} (hP : [.adc] ⊆ P) (h : OnlyParts P s t) :
    OnlyParts P s (State.auConfigApply t a1) := by
  have h0 : ([.adc] : List Part) ⊆ P := List.Subset.trans (by decide) hP
  unfold State.auConfigApply
  repeat' first
    | with_reducible exact h
    | with_reducible refine State.applyAuCfg_parts h0 ?_
    | split

theorem State.auFail_parts {P : List Part} {s t : State} {a1}
    (hP : [.regs, .ctrs, .cmd, .flt, .adc] ⊆ P) (h : OnlyParts P s t) :
    OnlyParts P s (State.auFail t a1) := by
  have m_adc : Part.adc ∈ P := hP (by decide)
  have h0 : ([.regs, .cmd] : List Part) ⊆ P := List.Subset.trans (by decide) hP
  have h1 : ([.ctrs, .flt] : List Part) ⊆ P := List.Subset.trans (by decide) hP
  have h2 : ([.adc] : List Part) ⊆ P := List.Subset.trans (by decide) hP
  unfold State.auFail
  repeat' first
    | with_reducible exact h
    | with_reducible refine State.irqIf_parts h0 ?_
    | with_reducible refine State.raise_parts h1 ?_
    | with_reducible refine State.setAu_parts h2 ?_
    | split
    | dsimp only
    | with_reducible refine OnlyParts.set_adc m_adc ?_

theorem State.moveTargets_parts {P : List Part} {s t : State} (hP : [.freeCtr, .loopS] ⊆ P) (h : OnlyParts P s t) :
    OnlyParts P s (State.moveTargets t) := by
  have m_freeCtr : Part.freeCtr ∈ P := hP (by decide)
  have m_loopS : Part.loopS ∈ P := hP (by decide)
  unfold State.moveTargets
  repeat' first
    | with_reducible exact h
    | dsimp only
    | with_reducible refine OnlyParts.set_freeCtr m_freeCtr ?_
    | with_reducible refine OnlyParts.set_loopS m_loopS ?_
    | with_reducible refine OnlyParts.set_freeCtr_loopS m_freeCtr m_loopS ?_

theorem State.setEngine_parts {P : List Part} {s t : State} {a1 a2 a3}
    (hP : [.loopA, .loopB] ⊆ P) (h : OnlyParts P s t) :
    OnlyParts P s (State.setEngine t a1 a2 a3) := by
  have h0 : ([.loopA, .loopB] : List Part) ⊆ P := List.Subset.trans (by decide) hP
  unfold State.setEngine
  repeat' first
    | with_reducible exact h
    | with_reducible refine State.setLoops_parts h0 ?_

theorem State.spareEngineTakeover_parts {P : List Part} {s t : State} {a1 a2}
    (hP : [.freeCtr, .loopA, .loopB, .loopS] ⊆ P) (h : OnlyParts P s t) :
    OnlyParts P s (State.spareEngineTakeover t a1 a2) := by
  have h0 : ([.freeCtr, .loopS] : List Part) ⊆ P := List.Subset.trans (by decide) hP
  have h1 : ([.loopA, .loopB] : List Part) ⊆ P := List.Subset.trans (by decide) hP
  unfold State.spareEngineTakeover
  repeat' first
    | with_reducible exact h
    | with_reducible refine State.moveTargets_parts h0 ?_
    | with_reducible refine State.setEngine_parts h1 ?_
    | split
    | dsimp only

theorem State.spareEngines_parts {P : List Part} {s t : State}
    (hP : [.freeCtr, .loopA, .loopB, .loopS] ⊆ P) (h : OnlyParts P s t) :
    OnlyParts P s (State.spareEngines t) := by
  have h0 : ([.freeCtr, .loopA, .loopB, .loopS] : List Part) ⊆ P := List.Subset.trans (by decide) hP
  unfold State.spareEngines
  repeat' first
    | with_reducible exact h
    | with_reducible refine State.spareEngineTakeover_parts h0 ?_
    | with_reducible assumption
    | with_reducible refine OnlyParts.foldl (fun _ _ _ => ?_) ?_
    | with_reducible refine OnlyParts.foldl_fst (fun _ _ _ => ?_) ?_
    | split

theorem State.countCorrected_parts {P : List Part} {s t : State} {a1} (hP : [.ctrs] ⊆ P) (h : OnlyParts P s t) :
    OnlyParts P s (State.countCorrected t a1) := by
  have h0 : ([.ctrs] : List Part) ⊆ P := List.Subset.trans (by decide) hP
  unfold State.countCorrected
  repeat' first
    | with_reducible exact h
    | with_reducible refine State.bump_parts h0 ?_

theorem State.pushFifo_parts {P : List Part} {s t : State} {a1}
    (hP : [.regs, .ctrs, .cmd, .tim] ⊆ P) (h : OnlyParts P s t) :
    OnlyParts P s (State.pushFifo t a1) := by
  have m_tim : Part.tim ∈ P := hP (by decide)
  have h0 : ([.regs, .cmd] : List Part) ⊆ P := List.Subset.trans (by decide) hP
  have h1 : ([.ctrs] : List Part) ⊆ P := List.Subset.trans (by decide) hP
  have h2 : ([.regs] : List Part) ⊆ P := List.Subset.trans (by decide) hP
  unfold State.pushFifo
  repeat' first
    | with_reducible exact h
    | with_reducible refine State.irqIf_parts h0 ?_
    | with_reducible refine State.bump_parts h1 ?_
    | with_reducible refine State.wrBit_parts h2 ?_
    | split
    | dsimp only
    | with_reducible refine OnlyParts.set_tim m_tim ?_

theorem State.captureOne_parts {P : List Part} {s t : State} {a1 a2 a3 a4 a5 a6}
    (hP : [.regs, .ctrs, .cmd, .tim] ⊆ P) (h : OnlyParts P s t) :
    OnlyParts P s (State.captureOne t a1 a2 a3 a4 a5 a6) := by
  have h0 : ([.regs, .ctrs, .cmd, .tim] : List Part) ⊆ P := List.Subset.trans (by decide) hP
  unfold State.captureOne
  repeat' first
    | with_reducible exact h
    | with_reducible refine State.pushFifo_parts h0 ?_
    | split
    | dsimp only

theorem State.capture_parts {P : List Part} {s t : State} {a1 a2 a3 a4 a5}
    (hP : [.regs, .ctrs, .cmd, .tim] ⊆ P) (h : OnlyParts P s t) :
    OnlyParts P s (State.capture t a1 a2 a3 a4 a5) := by
  have h0 : ([.regs, .ctrs, .cmd, .tim] : List Part) ⊆ P := List.Subset.trans (by decide) hP
  unfold State.capture
  repeat' first
    | with_reducible exact h
    | with_reducible refine State.captureOne_parts h0 ?_
    | split

theorem State.coeffBankSwap_parts {P : List Part} {s t : State} (hP : [.loopS, .acq] ⊆ P) (h : OnlyParts P s t) :
    OnlyParts P s (State.coeffBankSwap t) := by
  have m_loopS : Part.loopS ∈ P := hP (by decide)
  have h0 : ([.acq] : List Part) ⊆ P := List.Subset.trans (by decide) hP
  unfold State.coeffBankSwap
  repeat' first
    | with_reducible exact h
    | with_reducible refine State.event_parts h0 ?_
    | split
    | dsimp only
    | with_reducible refine OnlyParts.set_loopS m_loopS ?_

theorem State.mismatch_parts {P : List Part} {s t : State} {a1 a2}
    (hP : [.regs, .ctrs, .cmd, .red] ⊆ P) (h : OnlyParts P s t) :
    OnlyParts P s (State.mismatch t a1 a2) := by
  have m_red : Part.red ∈ P := hP (by decide)
  have h0 : ([.regs, .cmd] : List Part) ⊆ P := List.Subset.trans (by decide) hP
  have h1 : ([.ctrs] : List Part) ⊆ P := List.Subset.trans (by decide) hP
  unfold State.mismatch
  repeat' first
    | with_reducible exact h
    | with_reducible refine State.irqIf_parts h0 ?_
    | with_reducible refine State.bump_parts h1 ?_
    | split
    | dsimp only
    | with_reducible refine OnlyParts.set_red m_red ?_

theorem State.complianceSet_parts {P : List Part} {s t : State} {a1}
    (hP : [.regs, .ctrs, .cmd, .flt, .drv] ⊆ P) (h : OnlyParts P s t) :
    OnlyParts P s (State.complianceSet t a1) := by
  have h0 : ([.regs, .cmd] : List Part) ⊆ P := List.Subset.trans (by decide) hP
  have h1 : ([.ctrs] : List Part) ⊆ P := List.Subset.trans (by decide) hP
  have h2 : ([.drv] : List Part) ⊆ P := List.Subset.trans (by decide) hP
  have h3 : ([.ctrs, .flt] : List Part) ⊆ P := List.Subset.trans (by decide) hP
  unfold State.complianceSet
  repeat' first
    | with_reducible exact h
    | with_reducible refine State.irqIf_parts h0 ?_
    | with_reducible refine State.bump_parts h1 ?_
    | with_reducible refine State.setChan_parts h2 ?_
    | with_reducible refine State.raise_parts h3 ?_
    | split
    | dsimp only

theorem State.convertTap_parts {P : List Part} {s t : State} {a1 a2} (hP : [.ctrs, .adc] ⊆ P) (h : OnlyParts P s t) :
    OnlyParts P s (State.convertTap t a1 a2).2 := by
  have h0 : ([.ctrs] : List Part) ⊆ P := List.Subset.trans (by decide) hP
  have h1 : ([.adc] : List Part) ⊆ P := List.Subset.trans (by decide) hP
  unfold State.convertTap
  repeat' first
    | with_reducible exact h
    | with_reducible refine State.bump_parts h0 ?_
    | with_reducible refine State.setAu_parts h1 ?_
    | split
    | dsimp only

theorem State.convertTap_parts_eq {P : List Part} {s t v : State} {a1 a2} {x0}
    (hP : [.ctrs, .adc] ⊆ P) (e : State.convertTap t a1 a2 = (x0, v)) (h : OnlyParts P s t) :
    OnlyParts P s v := by
  have := State.convertTap_parts (P := P) (s := s) (a1 := a1) (a2 := a2) hP h
  rw [e] at this
  exact this

theorem State.directResult_parts {P : List Part} {s t : State} {a1 a2 a3}
    (hP : [.regs, .ctrs, .adc] ⊆ P) (h : OnlyParts P s t) :
    OnlyParts P s (State.directResult t a1 a2 a3) := by
  have h0 : ([.ctrs] : List Part) ⊆ P := List.Subset.trans (by decide) hP
  have h1 : ([.regs] : List Part) ⊆ P := List.Subset.trans (by decide) hP
  have h2 : ([.adc] : List Part) ⊆ P := List.Subset.trans (by decide) hP
  unfold State.directResult
  repeat' first
    | with_reducible exact h
    | with_reducible refine State.bump_parts h0 ?_
    | with_reducible refine State.wrBit_parts h1 ?_
    | with_reducible refine State.setAu_parts h2 ?_
    | split
    | dsimp only

theorem State.endHostReq_parts {P : List Part} {s t : State} {a1 a2 a3 a4} (hP : [.loopS] ⊆ P) (h : OnlyParts P s t) :
    OnlyParts P s (State.endHostReq t a1 a2 a3 a4) := by
  have m_loopS : Part.loopS ∈ P := hP (by decide)
  unfold State.endHostReq
  repeat' first
    | with_reducible exact h
    | split
    | dsimp only
    | with_reducible refine OnlyParts.set_loopS m_loopS ?_

theorem State.runIteration_parts {P : List Part} {s t : State} {a1 a2 a3}
    (hP : [.ctrs, .flt, .loopA, .loopB, .loopS, .acq] ⊆ P) (h : OnlyParts P s t) :
    OnlyParts P s (State.runIteration t a1 a2 a3) := by
  have h0 : ([.acq] : List Part) ⊆ P := List.Subset.trans (by decide) hP
  have h1 : ([.loopS] : List Part) ⊆ P := List.Subset.trans (by decide) hP
  have h2 : ([.ctrs, .flt, .loopA, .loopB, .acq] : List Part) ⊆ P := List.Subset.trans (by decide) hP
  have h3 : ([.loopA, .loopB] : List Part) ⊆ P := List.Subset.trans (by decide) hP
  unfold State.runIteration
  repeat' first
    | with_reducible exact h
    | with_reducible refine State.elemEvent_parts h0 ?_
    | with_reducible refine State.endHostReq_parts h1 ?_
    | with_reducible refine State.applyOut_parts h2 ?_
    | with_reducible refine State.setElem_parts h3 ?_
    | split
    | dsimp only

theorem State.elementIteration_parts {P : List Part} {s t : State} {a1 a2}
    (hP : [.ctrs, .flt, .loopA, .loopB, .loopS, .acq] ⊆ P) (h : OnlyParts P s t) :
    OnlyParts P s (State.elementIteration t a1 a2) := by
  have h0 : ([.ctrs, .flt, .loopA, .loopB, .loopS, .acq] : List Part) ⊆ P := List.Subset.trans (by decide) hP
  unfold State.elementIteration
  repeat' first
    | with_reducible exact h
    | with_reducible refine State.runIteration_parts h0 ?_
    | split

theorem State.markStale_parts {P : List Part} {s t : State} {a1 a2}
    (hP : [.loopA, .loopB] ⊆ P) (h : OnlyParts P s t) :
    OnlyParts P s (State.markStale t a1 a2) := by
  have h0 : ([.loopA, .loopB] : List Part) ⊆ P := List.Subset.trans (by decide) hP
  unfold State.markStale
  repeat' first
    | with_reducible exact h
    | with_reducible refine State.setElem_parts h0 ?_
    | with_reducible assumption
    | with_reducible refine OnlyParts.foldl (fun _ _ _ => ?_) ?_

theorem State.engineFaulty_parts {P : List Part} {s t : State} {a1 a2}
    (hP : [.regs, .ctrs, .cmd, .flt, .loopA, .loopB] ⊆ P) (h : OnlyParts P s t) :
    OnlyParts P s (State.engineFaulty t a1 a2) := by
  have h0 : ([.regs, .cmd] : List Part) ⊆ P := List.Subset.trans (by decide) hP
  have h1 : ([.loopA, .loopB] : List Part) ⊆ P := List.Subset.trans (by decide) hP
  have h2 : ([.ctrs, .flt] : List Part) ⊆ P := List.Subset.trans (by decide) hP
  unfold State.engineFaulty
  repeat' first
    | with_reducible exact h
    | with_reducible refine State.irqIf_parts h0 ?_
    | with_reducible refine State.setLoops_parts h1 ?_
    | with_reducible refine State.raiseCtl_parts h2 ?_
    | with_reducible refine State.raise_parts h2 ?_
    | with_reducible refine State.setEngine_parts h1 ?_
    | with_reducible refine State.markStale_parts h1 ?_
    | split
    | dsimp only

theorem State.spoilProbes_parts {P : List Part} {s t : State} (hP : [.loopA, .loopB] ⊆ P) (h : OnlyParts P s t) :
    OnlyParts P s (State.spoilProbes t) := by
  have m_loopB : Part.loopB ∈ P := hP (by decide)
  have m_loopA : Part.loopA ∈ P := hP (by decide)
  unfold State.spoilProbes
  repeat' first
    | with_reducible exact h
    | split
    | dsimp only
    | with_reducible refine OnlyParts.set_loopB m_loopB ?_
    | with_reducible refine OnlyParts.set_loopA m_loopA ?_
    | with_reducible refine OnlyParts.set_loopA_loopB m_loopA m_loopB ?_

theorem State.markOverrun_parts {P : List Part} {s t : State} {a1 a2}
    (hP : [.loopA, .loopB, .acq] ⊆ P) (h : OnlyParts P s t) :
    OnlyParts P s (State.markOverrun t a1 a2) := by
  have h0 : ([.acq] : List Part) ⊆ P := List.Subset.trans (by decide) hP
  have h1 : ([.loopA, .loopB] : List Part) ⊆ P := List.Subset.trans (by decide) hP
  unfold State.markOverrun
  repeat' first
    | with_reducible exact h
    | with_reducible refine State.elemEvent_parts h0 ?_
    | with_reducible refine State.setElem_parts h1 ?_
    | with_reducible assumption
    | with_reducible refine OnlyParts.foldl (fun _ _ _ => ?_) ?_

theorem State.openloadClear_parts {P : List Part} {s t : State} {a1} (hP : [.drv] ⊆ P) (h : OnlyParts P s t) :
    OnlyParts P s (State.openloadClear t a1) := by
  have h0 : ([.drv] : List Part) ⊆ P := List.Subset.trans (by decide) hP
  unfold State.openloadClear
  repeat' first
    | with_reducible exact h
    | with_reducible refine State.setChan_parts h0 ?_
    | split
    | dsimp only

theorem State.openloadSet_parts {P : List Part} {s t : State} {a1}
    (hP : [.regs, .ctrs, .cmd, .flt, .drv] ⊆ P) (h : OnlyParts P s t) :
    OnlyParts P s (State.openloadSet t a1) := by
  have h0 : ([.regs, .cmd] : List Part) ⊆ P := List.Subset.trans (by decide) hP
  have h1 : ([.ctrs] : List Part) ⊆ P := List.Subset.trans (by decide) hP
  have h2 : ([.drv] : List Part) ⊆ P := List.Subset.trans (by decide) hP
  have h3 : ([.ctrs, .flt] : List Part) ⊆ P := List.Subset.trans (by decide) hP
  unfold State.openloadSet
  repeat' first
    | with_reducible exact h
    | with_reducible refine State.irqIf_parts h0 ?_
    | with_reducible refine State.bump_parts h1 ?_
    | with_reducible refine State.setChan_parts h2 ?_
    | with_reducible refine State.raise_parts h3 ?_
    | split
    | dsimp only

theorem State.overrun_parts {P : List Part} {s t : State} {a1 a2}
    (hP : [.regs, .ctrs, .cmd, .flt, .loopA, .loopB, .acq] ⊆ P) (h : OnlyParts P s t) :
    OnlyParts P s (State.overrun t a1 a2) := by
  have h0 : ([.regs, .cmd] : List Part) ⊆ P := List.Subset.trans (by decide) hP
  have h1 : ([.loopA, .loopB] : List Part) ⊆ P := List.Subset.trans (by decide) hP
  have h2 : ([.regs, .ctrs, .cmd, .flt, .loopA, .loopB] : List Part) ⊆ P := List.Subset.trans (by decide) hP
  have h3 : ([.loopA, .loopB, .acq] : List Part) ⊆ P := List.Subset.trans (by decide) hP
  unfold State.overrun
  repeat' first
    | with_reducible exact h
    | with_reducible refine State.irqIf_parts h0 ?_
    | with_reducible refine State.setLoops_parts h1 ?_
    | with_reducible refine State.setEngine_parts h1 ?_
    | with_reducible refine State.engineFaulty_parts h2 ?_
    | with_reducible refine State.markOverrun_parts h3 ?_
    | split
    | dsimp only

theorem State.rangeChangeEnd_parts {P : List Part} {s t : State} {a1} (hP : [.drv, .cal] ⊆ P) (h : OnlyParts P s t) :
    OnlyParts P s (State.rangeChangeEnd t a1) := by
  have h0 : ([.cal] : List Part) ⊆ P := List.Subset.trans (by decide) hP
  have h1 : ([.drv] : List Part) ⊆ P := List.Subset.trans (by decide) hP
  unfold State.rangeChangeEnd
  repeat' first
    | with_reducible exact h
    | with_reducible refine State.setCalElem_parts h0 ?_
    | with_reducible refine State.setChan_parts h1 ?_
    | split
    | dsimp only

theorem State.rangeRampBack_parts {P : List Part} {s t : State} {a1} (hP : [.drv] ⊆ P) (h : OnlyParts P s t) :
    OnlyParts P s (State.rangeRampBack t a1) := by
  have h0 : ([.drv] : List Part) ⊆ P := List.Subset.trans (by decide) hP
  unfold State.rangeRampBack
  repeat' first
    | with_reducible exact h
    | with_reducible refine State.setChan_parts h0 ?_
    | split
    | dsimp only

theorem State.rangeSwitch_parts {P : List Part} {s t : State} {a1}
    (hP : [.loopA, .loopB, .drv, .cal] ⊆ P) (h : OnlyParts P s t) :
    OnlyParts P s (State.rangeSwitch t a1) := by
  have h0 : ([.cal] : List Part) ⊆ P := List.Subset.trans (by decide) hP
  have h1 : ([.drv] : List Part) ⊆ P := List.Subset.trans (by decide) hP
  have h2 : ([.loopA, .loopB] : List Part) ⊆ P := List.Subset.trans (by decide) hP
  unfold State.rangeSwitch
  repeat' first
    | with_reducible exact h
    | with_reducible refine State.setCalElem_parts h0 ?_
    | with_reducible refine State.setChan_parts h1 ?_
    | with_reducible refine State.modElem_parts h2 ?_
    | split
    | dsimp only

theorem State.selectorIteration_parts {P : List Part} {s t : State} {a1 a2}
    (hP : [.ctrs, .flt, .loopA, .loopB, .loopS, .acq] ⊆ P) (h : OnlyParts P s t) :
    OnlyParts P s (State.selectorIteration t a1 a2) := by
  have h0 : ([.ctrs, .flt, .loopA, .loopB, .loopS, .acq] : List Part) ⊆ P := List.Subset.trans (by decide) hP
  have h1 : ([.loopA, .loopB] : List Part) ⊆ P := List.Subset.trans (by decide) hP
  unfold State.selectorIteration
  repeat' first
    | with_reducible exact h
    | with_reducible refine State.runIteration_parts h0 ?_
    | with_reducible refine State.setLoops_parts h1 ?_
    | split

theorem State.slewDone_parts {P : List Part} {s t : State} (hP : [.regs, .cmd, .tim] ⊆ P) (h : OnlyParts P s t) :
    OnlyParts P s (State.slewDone t) := by
  have m_tim : Part.tim ∈ P := hP (by decide)
  have h0 : ([.regs, .cmd] : List Part) ⊆ P := List.Subset.trans (by decide) hP
  unfold State.slewDone
  repeat' first
    | with_reducible exact h
    | with_reducible refine State.irqIf_parts h0 ?_
    | split
    | dsimp only
    | with_reducible refine OnlyParts.set_tim m_tim ?_

theorem State.slewStep_parts {P : List Part} {s t : State} {a1}
    (hP : [.regs, .ctrs, .cmd, .drv, .red] ⊆ P) (h : OnlyParts P s t) :
    OnlyParts P s (State.slewStep t a1) := by
  have h0 : ([.drv] : List Part) ⊆ P := List.Subset.trans (by decide) hP
  have h1 : ([.regs, .ctrs, .cmd, .red] : List Part) ⊆ P := List.Subset.trans (by decide) hP
  unfold State.slewStep
  repeat' first
    | with_reducible exact h
    | with_reducible refine State.setChan_parts h0 ?_
    | with_reducible refine State.mismatch_parts h1 ?_
    | split
    | dsimp only

theorem State.sliceCorrection_parts {P : List Part} {s t : State} {a1 a2 a3 a4 a5}
    (hP : [.adc] ⊆ P) (h : OnlyParts P s t) :
    OnlyParts P s (State.sliceCorrection t a1 a2 a3 a4 a5) := by
  have h0 : ([.adc] : List Part) ⊆ P := List.Subset.trans (by decide) hP
  unfold State.sliceCorrection
  repeat' first
    | with_reducible exact h
    | with_reducible refine State.setAu_parts h0 ?_

theorem State.tapCapture_parts {P : List Part} {s t : State} (hP : [.loopS, .adc] ⊆ P) (h : OnlyParts P s t) :
    OnlyParts P s (State.tapCapture t) := by
  have m_adc : Part.adc ∈ P := hP (by decide)
  have m_loopS : Part.loopS ∈ P := hP (by decide)
  unfold State.tapCapture
  repeat' first
    | with_reducible exact h
    | split
    | dsimp only
    | with_reducible refine OnlyParts.set_adc m_adc ?_
    | with_reducible refine OnlyParts.set_loopS m_loopS ?_
    | with_reducible refine OnlyParts.set_loopS_adc m_loopS m_adc ?_

theorem State.tapReading_parts {P : List Part} {s t : State} {a1 a2}
    (hP : [.ctrs, .loopS, .adc] ⊆ P) (h : OnlyParts P s t) :
    OnlyParts P s (State.tapReading t a1 a2) := by
  have m_loopS : Part.loopS ∈ P := hP (by decide)
  have h0 : ([.ctrs, .adc] : List Part) ⊆ P := List.Subset.trans (by decide) hP
  unfold State.tapReading
  repeat' first
    | with_reducible exact h
    | with_reducible refine State.convertTap_parts h0 ?_
    | with_reducible refine State.convertTap_parts_eq h0 (by assumption) ?_
    | split
    | dsimp only
    | with_reducible refine OnlyParts.set_loopS m_loopS ?_

theorem State.tick_parts {P : List Part} {s t : State} (hP : [.regs, .tim] ⊆ P) (h : OnlyParts P s t) :
    OnlyParts P s (State.tick t) := by
  have m_tim : Part.tim ∈ P := hP (by decide)
  have h0 : ([.regs] : List Part) ⊆ P := List.Subset.trans (by decide) hP
  unfold State.tick
  repeat' first
    | with_reducible exact h
    | with_reducible refine State.wr_parts h0 ?_
    | split
    | dsimp only
    | with_reducible refine OnlyParts.set_tim m_tim ?_

end Sys2Proof.Machine
end

