-- ==== Sys2Proof/Laws/PartsMatrix.lean ====
section
/-! SUPPORT. What each operation of the matrix, Prism, the egress queues, the buffer and burst transport may change: one lemma per operation. -/

namespace Sys2Proof.Machine

open Sys2Proof

theorem State.recv_parts {P : List Part} {s t v : State} {ok : Msg → Bool} {m : Msg} (hP : [.brt] ⊆ P)
    (e : t.recv ok = some (m, v)) (h : OnlyParts P s t) : OnlyParts P s v := by
  unfold State.recv at e
  cases hh : takeMsg ok t.brt.mesh with
  | none => simp [hh] at e
  | some x =>
    simp [hh] at e
    obtain ⟨_, rfl⟩ := e
    exact OnlyParts.set_brt (hP (by decide)) h

theorem State.setHold_parts {P : List Part} {s t : State} {a1} (hP : [.slt, .brt] ⊆ P) (h : OnlyParts P s t) :
    OnlyParts P s (State.setHold t a1) := by
  have m_slt : Part.slt ∈ P := hP (by decide)
  have m_brt : Part.brt ∈ P := hP (by decide)
  unfold State.setHold
  repeat' first
    | with_reducible exact h
    | dsimp only
    | with_reducible refine OnlyParts.set_slt m_slt ?_
    | with_reducible refine OnlyParts.set_brt m_brt ?_
    | with_reducible refine OnlyParts.set_slt_brt m_slt m_brt ?_

theorem State.stopPrism_parts {P : List Part} {s t : State} (hP : [.tim, .slt, .brt] ⊆ P) (h : OnlyParts P s t) :
    OnlyParts P s (State.stopPrism t) := by
  have m_slt : Part.slt ∈ P := hP (by decide)
  have m_tim : Part.tim ∈ P := hP (by decide)
  have h0 : ([.slt, .brt] : List Part) ⊆ P := List.Subset.trans (by decide) hP
  unfold State.stopPrism
  repeat' first
    | with_reducible exact h
    | with_reducible refine State.setHold_parts h0 ?_
    | dsimp only
    | with_reducible refine OnlyParts.set_slt m_slt ?_
    | with_reducible refine OnlyParts.set_tim m_tim ?_
    | with_reducible refine OnlyParts.set_tim_slt m_tim m_slt ?_

theorem State.halt_parts {P : List Part} {s t : State} {a1}
    (hP : [.regs, .cmd, .glb, .tim, .slt, .brt] ⊆ P) (h : OnlyParts P s t) :
    OnlyParts P s (State.halt t a1) := by
  have m_glb : Part.glb ∈ P := hP (by decide)
  have h0 : ([.tim, .slt, .brt] : List Part) ⊆ P := List.Subset.trans (by decide) hP
  have h1 : ([.regs, .cmd, .glb] : List Part) ⊆ P := List.Subset.trans (by decide) hP
  unfold State.halt
  repeat' first
    | with_reducible exact h
    | with_reducible refine State.stopPrism_parts h0 ?_
    | with_reducible refine State.setGState_parts h1 ?_
    | split
    | dsimp only
    | with_reducible refine OnlyParts.set_glb m_glb ?_

theorem State.stepEnd_parts {P : List Part} {s t : State} {a1} (hP : [.freeCtr, .glb] ⊆ P) (h : OnlyParts P s t) :
    OnlyParts P s (State.stepEnd t a1) := by
  have m_glb : Part.glb ∈ P := hP (by decide)
  have h0 : ([.freeCtr] : List Part) ⊆ P := List.Subset.trans (by decide) hP
  unfold State.stepEnd
  repeat' first
    | with_reducible exact h
    | with_reducible refine State.free_parts h0 ?_
    | with_reducible refine State.free_parts_eq h0 (by assumption) ?_
    | split
    | dsimp only
    | with_reducible refine OnlyParts.set_glb m_glb ?_

theorem State.warmSpare_parts {P : List Part} {s t : State} {a1} (hP : [.mtx] ⊆ P) (h : OnlyParts P s t) :
    OnlyParts P s (State.warmSpare t a1) := by
  have h0 : ([.mtx] : List Part) ⊆ P := List.Subset.trans (by decide) hP
  unfold State.warmSpare
  repeat' first
    | with_reducible exact h
    | with_reducible refine State.setEmitter_parts h0 ?_
    | split
    | dsimp only

theorem State.tblFault_parts {P : List Part} {s t : State} {a1 a2} (hP : [.ctrs, .flt] ⊆ P) (h : OnlyParts P s t) :
    OnlyParts P s (State.tblFault t a1 a2) := by
  have h0 : ([.ctrs, .flt] : List Part) ⊆ P := List.Subset.trans (by decide) hP
  unfold State.tblFault
  repeat' first
    | with_reducible exact h
    | with_reducible refine State.raise_parts h0 ?_
    | split

theorem State.recordPark_parts {P : List Part} {s t : State} {a1}
    (hP : [.regs, .cmd, .mtx] ⊆ P) (h : OnlyParts P s t) :
    OnlyParts P s (State.recordPark t a1) := by
  have m_mtx : Part.mtx ∈ P := hP (by decide)
  have h0 : ([.regs, .cmd] : List Part) ⊆ P := List.Subset.trans (by decide) hP
  unfold State.recordPark
  repeat' first
    | with_reducible exact h
    | with_reducible refine State.irqIf_parts h0 ?_
    | split
    | dsimp only
    | with_reducible refine OnlyParts.set_mtx m_mtx ?_

theorem State.writeParkReq_parts {P : List Part} {s t : State} {a1}
    (hP : [.regs, .cmd, .mtx] ⊆ P) (h : OnlyParts P s t) :
    OnlyParts P s (State.writeParkReq t a1) := by
  have h0 : ([.regs, .cmd, .mtx] : List Part) ⊆ P := List.Subset.trans (by decide) hP
  unfold State.writeParkReq
  repeat' first
    | with_reducible exact h
    | with_reducible refine State.recordPark_parts h0 ?_
    | split

theorem State.writeSnapCtrl_parts {P : List Part} {s t : State} {a1 a2}
    (hP : [.regs, .ctrs, .cmd, .sec, .brt] ⊆ P) (h : OnlyParts P s t) :
    OnlyParts P s (State.writeSnapCtrl t a1 a2) := by
  have m_brt : Part.brt ∈ P := hP (by decide)
  have h0 : ([.regs, .cmd] : List Part) ⊆ P := List.Subset.trans (by decide) hP
  have h1 : ([.regs] : List Part) ⊆ P := List.Subset.trans (by decide) hP
  have h2 : ([.regs, .ctrs, .sec] : List Part) ⊆ P := List.Subset.trans (by decide) hP
  unfold State.writeSnapCtrl
  repeat' first
    | with_reducible exact h
    | with_reducible refine State.irqIf_parts h0 ?_
    | with_reducible refine State.wrBit_parts h1 ?_
    | with_reducible refine State.plainWrite_parts h2 ?_
    | split
    | dsimp only
    | with_reducible refine OnlyParts.set_brt m_brt ?_

theorem State.setPort_parts {P : List Part} {s t : State} {a1 a2} (hP : [.ports] ⊆ P) (h : OnlyParts P s t) :
    OnlyParts P s (State.setPort t a1 a2) := by
  have m_ports : Part.ports ∈ P := hP (by decide)
  unfold State.setPort
  repeat' first
    | with_reducible exact h
    | dsimp only
    | with_reducible refine OnlyParts.set_ports m_ports ?_

theorem State.dropPorts_parts {P : List Part} {s t : State} (hP : [.ports] ⊆ P) (h : OnlyParts P s t) :
    OnlyParts P s (State.dropPorts t) := by
  have h0 : ([.ports] : List Part) ⊆ P := List.Subset.trans (by decide) hP
  unfold State.dropPorts
  repeat' first
    | with_reducible exact h
    | with_reducible refine State.setPort_parts h0 ?_
    | with_reducible assumption
    | with_reducible refine OnlyParts.foldl (fun _ _ _ => ?_) ?_
    | with_reducible refine OnlyParts.foldl_fst (fun _ _ _ => ?_) ?_
    | split

theorem State.closePorts_parts {P : List Part} {s t : State} (hP : [.ports] ⊆ P) (h : OnlyParts P s t) :
    OnlyParts P s (State.closePorts t) := by
  have m_ports : Part.ports ∈ P := hP (by decide)
  have h0 : ([.ports] : List Part) ⊆ P := List.Subset.trans (by decide) hP
  unfold State.closePorts
  repeat' first
    | with_reducible exact h
    | with_reducible refine State.dropPorts_parts h0 ?_
    | dsimp only
    | with_reducible refine OnlyParts.set_ports m_ports ?_

theorem State.writeLbCfg_parts {P : List Part} {s t : State} {a1 a2 a3}
    (hP : [.regs, .ctrs, .sec, .mtx] ⊆ P) (h : OnlyParts P s t) :
    OnlyParts P s (State.writeLbCfg t a1 a2 a3) := by
  have h0 : ([.regs] : List Part) ⊆ P := List.Subset.trans (by decide) hP
  have h1 : ([.mtx] : List Part) ⊆ P := List.Subset.trans (by decide) hP
  have h2 : ([.regs, .ctrs, .sec] : List Part) ⊆ P := List.Subset.trans (by decide) hP
  unfold State.writeLbCfg
  repeat' first
    | with_reducible exact h
    | with_reducible refine State.wrBit_parts h0 ?_
    | with_reducible refine State.setBank_parts h1 ?_
    | with_reducible refine State.plainWrite_parts h2 ?_
    | split
    | dsimp only

theorem State.permRead_parts {P : List Part} {s t : State} {a1} (hP : [.slt] ⊆ P) (h : OnlyParts P s t) :
    OnlyParts P s (State.permRead t a1) := by
  have m_slt : Part.slt ∈ P := hP (by decide)
  unfold State.permRead
  repeat' first
    | with_reducible exact h
    | split
    | dsimp only
    | with_reducible refine OnlyParts.set_slt m_slt ?_

theorem State.writePhaseSel_parts {P : List Part} {s t : State} {a1 a2}
    (hP : [.regs, .ctrs, .sec, .brt] ⊆ P) (h : OnlyParts P s t) :
    OnlyParts P s (State.writePhaseSel t a1 a2) := by
  have m_brt : Part.brt ∈ P := hP (by decide)
  have h0 : ([.regs, .ctrs, .sec] : List Part) ⊆ P := List.Subset.trans (by decide) hP
  unfold State.writePhaseSel
  repeat' first
    | with_reducible exact h
    | with_reducible refine State.plainWrite_parts h0 ?_
    | split
    | dsimp only
    | with_reducible refine OnlyParts.set_brt m_brt ?_

theorem State.calRequest_parts {P : List Part} {s t : State} (hP : [.regs, .cmd, .slt] ⊆ P) (h : OnlyParts P s t) :
    OnlyParts P s (State.calRequest t) := by
  have m_slt : Part.slt ∈ P := hP (by decide)
  have h0 : ([.regs, .cmd] : List Part) ⊆ P := List.Subset.trans (by decide) hP
  have h1 : ([.regs] : List Part) ⊆ P := List.Subset.trans (by decide) hP
  unfold State.calRequest
  repeat' first
    | with_reducible exact h
    | with_reducible refine State.irqIf_parts h0 ?_
    | with_reducible refine State.wrBit_parts h1 ?_
    | with_reducible refine State.wr_parts h1 ?_
    | split
    | dsimp only
    | with_reducible refine OnlyParts.set_slt m_slt ?_

theorem State.calCancel_parts {P : List Part} {s t : State} (hP : [.regs, .slt] ⊆ P) (h : OnlyParts P s t) :
    OnlyParts P s (State.calCancel t) := by
  have m_slt : Part.slt ∈ P := hP (by decide)
  have h0 : ([.regs] : List Part) ⊆ P := List.Subset.trans (by decide) hP
  unfold State.calCancel
  repeat' first
    | with_reducible exact h
    | with_reducible refine State.wrBit_parts h0 ?_
    | split
    | dsimp only
    | with_reducible refine OnlyParts.set_slt m_slt ?_

theorem State.writeChangeCtrl_parts {P : List Part} {s t : State} {a1 a2}
    (hP : [.regs, .ctrs, .cmd, .sec, .slt] ⊆ P) (h : OnlyParts P s t) :
    OnlyParts P s (State.writeChangeCtrl t a1 a2) := by
  have h0 : ([.regs, .cmd, .slt] : List Part) ⊆ P := List.Subset.trans (by decide) hP
  have h1 : ([.regs, .slt] : List Part) ⊆ P := List.Subset.trans (by decide) hP
  have h2 : ([.regs, .ctrs, .sec] : List Part) ⊆ P := List.Subset.trans (by decide) hP
  unfold State.writeChangeCtrl
  repeat' first
    | with_reducible exact h
    | with_reducible refine State.calRequest_parts h0 ?_
    | with_reducible refine State.calCancel_parts h1 ?_
    | with_reducible refine State.plainWrite_parts h2 ?_
    | split

theorem State.calWrite_parts {P : List Part} {s t : State} {a1 a2 a3 a4}
    (hP : [.regs, .ctrs, .sec] ⊆ P) (h : OnlyParts P s t) :
    OnlyParts P s (State.calWrite t a1 a2 a3 a4) := by
  have h0 : ([.regs] : List Part) ⊆ P := List.Subset.trans (by decide) hP
  have h1 : ([.regs, .ctrs, .sec] : List Part) ⊆ P := List.Subset.trans (by decide) hP
  unfold State.calWrite
  repeat' first
    | with_reducible exact h
    | with_reducible refine State.wrBit_parts h0 ?_
    | with_reducible refine State.plainWrite_parts h1 ?_
    | split

theorem State.setChip_parts {P : List Part} {s t : State} {a1 a2} (hP : [.chips] ⊆ P) (h : OnlyParts P s t) :
    OnlyParts P s (State.setChip t a1 a2) := by
  have m_chips : Part.chips ∈ P := hP (by decide)
  unfold State.setChip
  repeat' first
    | with_reducible exact h
    | dsimp only
    | with_reducible refine OnlyParts.set_chips m_chips ?_

theorem State.dropGateChange_parts {P : List Part} {s t : State} {a1}
    (hP : [.regs, .ports] ⊆ P) (h : OnlyParts P s t) :
    OnlyParts P s (State.dropGateChange t a1) := by
  have h0 : ([.ports] : List Part) ⊆ P := List.Subset.trans (by decide) hP
  have h1 : ([.regs] : List Part) ⊆ P := List.Subset.trans (by decide) hP
  unfold State.dropGateChange
  repeat' first
    | with_reducible exact h
    | with_reducible refine State.setPort_parts h0 ?_
    | with_reducible refine State.wrBit_parts h1 ?_
    | split
    | dsimp only

theorem State.gateRequest_parts {P : List Part} {s t : State} {a1}
    (hP : [.regs, .cmd, .ports] ⊆ P) (h : OnlyParts P s t) :
    OnlyParts P s (State.gateRequest t a1) := by
  have h0 : ([.regs, .cmd] : List Part) ⊆ P := List.Subset.trans (by decide) hP
  have h1 : ([.ports] : List Part) ⊆ P := List.Subset.trans (by decide) hP
  have h2 : ([.regs] : List Part) ⊆ P := List.Subset.trans (by decide) hP
  unfold State.gateRequest
  repeat' first
    | with_reducible exact h
    | with_reducible refine State.irqIf_parts h0 ?_
    | with_reducible refine State.setPort_parts h1 ?_
    | with_reducible refine State.wrBit_parts h2 ?_
    | split
    | dsimp only

theorem State.gateCancel_parts {P : List Part} {s t : State} {a1} (hP : [.regs, .ports] ⊆ P) (h : OnlyParts P s t) :
    OnlyParts P s (State.gateCancel t a1) := by
  have h0 : ([.regs, .ports] : List Part) ⊆ P := List.Subset.trans (by decide) hP
  unfold State.gateCancel
  repeat' first
    | with_reducible exact h
    | with_reducible refine State.dropGateChange_parts h0 ?_
    | split

theorem State.writeGateCtrl_parts {P : List Part} {s t : State} {a1 a2 a3}
    (hP : [.regs, .ctrs, .cmd, .sec, .ports] ⊆ P) (h : OnlyParts P s t) :
    OnlyParts P s (State.writeGateCtrl t a1 a2 a3) := by
  have h0 : ([.ports] : List Part) ⊆ P := List.Subset.trans (by decide) hP
  have h1 : ([.regs, .ports] : List Part) ⊆ P := List.Subset.trans (by decide) hP
  have h2 : ([.regs, .ctrs, .sec] : List Part) ⊆ P := List.Subset.trans (by decide) hP
  have h3 : ([.regs, .cmd, .ports] : List Part) ⊆ P := List.Subset.trans (by decide) hP
  unfold State.writeGateCtrl
  repeat' first
    | with_reducible exact h
    | with_reducible refine State.setPort_parts h0 ?_
    | with_reducible refine State.dropGateChange_parts h1 ?_
    | with_reducible refine State.plainWrite_parts h2 ?_
    | with_reducible refine State.gateRequest_parts h3 ?_
    | with_reducible refine State.gateCancel_parts h1 ?_
    | split

theorem State.writeLead_parts {P : List Part} {s t : State} {a1 a2 a3 a4}
    (hP : [.regs, .ctrs, .sec] ⊆ P) (h : OnlyParts P s t) :
    OnlyParts P s (State.writeLead t a1 a2 a3 a4) := by
  have h0 : ([.regs, .ctrs, .sec] : List Part) ⊆ P := List.Subset.trans (by decide) hP
  unfold State.writeLead
  repeat' first
    | with_reducible exact h
    | with_reducible refine State.plainWrite_parts h0 ?_
    | split

theorem State.writeShaper_parts {P : List Part} {s t : State} {a1 a2 a3 a4}
    (hP : [.regs, .ctrs, .sec, .ports] ⊆ P) (h : OnlyParts P s t) :
    OnlyParts P s (State.writeShaper t a1 a2 a3 a4) := by
  have h0 : ([.ports] : List Part) ⊆ P := List.Subset.trans (by decide) hP
  have h1 : ([.regs, .ctrs, .sec] : List Part) ⊆ P := List.Subset.trans (by decide) hP
  unfold State.writeShaper
  repeat' first
    | with_reducible exact h
    | with_reducible refine State.setPort_parts h0 ?_
    | with_reducible refine State.plainWrite_parts h1 ?_
    | split

theorem State.writeGateList_parts {P : List Part} {s t : State} {a1 a2 a3 a4 a5}
    (hP : [.regs, .ctrs, .sec] ⊆ P) (h : OnlyParts P s t) :
    OnlyParts P s (State.writeGateList t a1 a2 a3 a4 a5) := by
  have h0 : ([.regs] : List Part) ⊆ P := List.Subset.trans (by decide) hP
  have h1 : ([.regs, .ctrs, .sec] : List Part) ⊆ P := List.Subset.trans (by decide) hP
  unfold State.writeGateList
  repeat' first
    | with_reducible exact h
    | with_reducible refine State.wrBit_parts h0 ?_
    | with_reducible refine State.plainWrite_parts h1 ?_
    | split
    | dsimp only

theorem State.startTraining_parts {P : List Part} {s t : State} {a1}
    (hP : [.regs, .ports] ⊆ P) (h : OnlyParts P s t) :
    OnlyParts P s (State.startTraining t a1) := by
  have h0 : ([.ports] : List Part) ⊆ P := List.Subset.trans (by decide) hP
  have h1 : ([.regs] : List Part) ⊆ P := List.Subset.trans (by decide) hP
  unfold State.startTraining
  repeat' first
    | with_reducible exact h
    | with_reducible refine State.setPort_parts h0 ?_
    | with_reducible refine State.wrBit_parts h1 ?_
    | split
    | dsimp only

theorem State.startReplace_parts {P : List Part} {s t : State} {a1 a2 a3}
    (hP : [.regs, .cmd, .chips] ⊆ P) (h : OnlyParts P s t) :
    OnlyParts P s (State.startReplace t a1 a2 a3) := by
  have h0 : ([.regs, .cmd] : List Part) ⊆ P := List.Subset.trans (by decide) hP
  have h1 : ([.chips] : List Part) ⊆ P := List.Subset.trans (by decide) hP
  unfold State.startReplace
  repeat' first
    | with_reducible exact h
    | with_reducible refine State.irqIf_parts h0 ?_
    | with_reducible refine State.setChip_parts h1 ?_

theorem State.writePchReplace_parts {P : List Part} {s t : State} {a1 a2 a3}
    (hP : [.regs, .ctrs, .cmd, .sec, .chips] ⊆ P) (h : OnlyParts P s t) :
    OnlyParts P s (State.writePchReplace t a1 a2 a3) := by
  have h0 : ([.regs, .cmd] : List Part) ⊆ P := List.Subset.trans (by decide) hP
  have h1 : ([.regs] : List Part) ⊆ P := List.Subset.trans (by decide) hP
  have h2 : ([.regs, .ctrs, .sec] : List Part) ⊆ P := List.Subset.trans (by decide) hP
  have h3 : ([.regs, .cmd, .chips] : List Part) ⊆ P := List.Subset.trans (by decide) hP
  unfold State.writePchReplace
  repeat' first
    | with_reducible exact h
    | with_reducible refine State.irqIf_parts h0 ?_
    | with_reducible refine State.wrBit_parts h1 ?_
    | with_reducible refine State.plainWrite_parts h2 ?_
    | with_reducible refine State.startReplace_parts h3 ?_
    | with_reducible assumption
    | with_reducible refine OnlyParts.foldl (fun _ _ _ => ?_) ?_
    | with_reducible refine OnlyParts.foldl_fst (fun _ _ _ => ?_) ?_
    | split
    | dsimp only

theorem State.freeHold_parts {P : List Part} {s t : State} {a1 a2} (hP : [.chips] ⊆ P) (h : OnlyParts P s t) :
    OnlyParts P s (State.freeHold t a1 a2) := by
  have h0 : ([.chips] : List Part) ⊆ P := List.Subset.trans (by decide) hP
  unfold State.freeHold
  repeat' first
    | with_reducible exact h
    | with_reducible refine State.setChip_parts h0 ?_

theorem State.unpin_parts {P : List Part} {s t : State} {a1 a2} (hP : [.ctrs, .chips] ⊆ P) (h : OnlyParts P s t) :
    OnlyParts P s (State.unpin t a1 a2) := by
  have h0 : ([.ctrs] : List Part) ⊆ P := List.Subset.trans (by decide) hP
  have h1 : ([.chips] : List Part) ⊆ P := List.Subset.trans (by decide) hP
  unfold State.unpin
  repeat' first
    | with_reducible exact h
    | with_reducible refine State.bump_parts h0 ?_
    | with_reducible refine State.setChip_parts h1 ?_
    | split

theorem State.send_parts {P : List Part} {s t : State} {a1} (hP : [.brt] ⊆ P) (h : OnlyParts P s t) :
    OnlyParts P s (State.send t a1) := by
  have m_brt : Part.brt ∈ P := hP (by decide)
  unfold State.send
  repeat' first
    | with_reducible exact h
    | split
    | dsimp only
    | with_reducible refine OnlyParts.set_brt m_brt ?_

theorem State.sendRelease_parts {P : List Part} {s t : State} {a1 a2 a3 a4} (hP : [.brt] ⊆ P) (h : OnlyParts P s t) :
    OnlyParts P s (State.sendRelease t a1 a2 a3 a4) := by
  have h0 : ([.brt] : List Part) ⊆ P := List.Subset.trans (by decide) hP
  unfold State.sendRelease
  repeat' first
    | with_reducible exact h
    | with_reducible refine State.send_parts h0 ?_
    | split

theorem State.ledgerEvent_parts {P : List Part} {s t : State} {a1 a2} (hP : [.brt] ⊆ P) (h : OnlyParts P s t) :
    OnlyParts P s (State.ledgerEvent t a1 a2) := by
  have m_brt : Part.brt ∈ P := hP (by decide)
  unfold State.ledgerEvent
  repeat' first
    | with_reducible exact h
    | dsimp only
    | with_reducible refine OnlyParts.set_brt m_brt ?_

theorem State.setEgrPair_parts {P : List Part} {s t : State} {a1 a2 a3} (hP : [.brt] ⊆ P) (h : OnlyParts P s t) :
    OnlyParts P s (State.setEgrPair t a1 a2 a3) := by
  have m_brt : Part.brt ∈ P := hP (by decide)
  unfold State.setEgrPair
  repeat' first
    | with_reducible exact h
    | dsimp only
    | with_reducible refine OnlyParts.set_brt m_brt ?_

theorem State.acceptBurst_parts {P : List Part} {s t : State} {a1} (hP : [.brt, .chips] ⊆ P) (h : OnlyParts P s t) :
    OnlyParts P s (State.acceptBurst t a1) := by
  have h0 : ([.brt] : List Part) ⊆ P := List.Subset.trans (by decide) hP
  have h1 : ([.chips] : List Part) ⊆ P := List.Subset.trans (by decide) hP
  unfold State.acceptBurst
  repeat' first
    | with_reducible exact h
    | with_reducible refine State.setEgrPair_parts h0 ?_
    | with_reducible refine State.setChip_parts h1 ?_

theorem State.setIngPair_parts {P : List Part} {s t : State} {a1 a2 a3} (hP : [.brt] ⊆ P) (h : OnlyParts P s t) :
    OnlyParts P s (State.setIngPair t a1 a2 a3) := by
  have m_brt : Part.brt ∈ P := hP (by decide)
  unfold State.setIngPair
  repeat' first
    | with_reducible exact h
    | dsimp only
    | with_reducible refine OnlyParts.set_brt m_brt ?_

theorem State.modBurst_parts {P : List Part} {s t : State} {a1 a2 a3 a4} (hP : [.brt] ⊆ P) (h : OnlyParts P s t) :
    OnlyParts P s (State.modBurst t a1 a2 a3 a4) := by
  have h0 : ([.brt] : List Part) ⊆ P := List.Subset.trans (by decide) hP
  unfold State.modBurst
  repeat' first
    | with_reducible exact h
    | with_reducible refine State.setIngPair_parts h0 ?_

theorem State.withdrawRepair_parts {P : List Part} {s t : State} {a1 a2 a3} (hP : [.slt] ⊆ P) (h : OnlyParts P s t) :
    OnlyParts P s (State.withdrawRepair t a1 a2 a3) := by
  have m_slt : Part.slt ∈ P := hP (by decide)
  unfold State.withdrawRepair
  repeat' first
    | with_reducible exact h
    | dsimp only
    | with_reducible refine OnlyParts.set_slt m_slt ?_

theorem State.ack_parts {P : List Part} {s t : State} {a1 a2} (hP : [.slt, .brt] ⊆ P) (h : OnlyParts P s t) :
    OnlyParts P s (State.ack t a1 a2) := by
  have h0 : ([.brt] : List Part) ⊆ P := List.Subset.trans (by decide) hP
  have h1 : ([.slt] : List Part) ⊆ P := List.Subset.trans (by decide) hP
  have hr : ([.brt] : List Part) ⊆ P := List.Subset.trans (by decide) hP
  unfold State.ack
  repeat' first
    | with_reducible exact h
    | with_reducible refine State.modBurst_parts h0 ?_
    | with_reducible refine State.recv_parts hr (by assumption) ?_
    | with_reducible refine State.withdrawRepair_parts h1 ?_
    | split

theorem State.raiseRepair_parts {P : List Part} {s t : State} {a1 a2 a3} (hP : [.slt] ⊆ P) (h : OnlyParts P s t) :
    OnlyParts P s (State.raiseRepair t a1 a2 a3) := by
  have m_slt : Part.slt ∈ P := hP (by decide)
  unfold State.raiseRepair
  repeat' first
    | with_reducible exact h
    | dsimp only
    | with_reducible refine OnlyParts.set_slt m_slt ?_

theorem State.askGap_parts {P : List Part} {s t : State} {a1 a2 a3 a4} (hP : [.brt] ⊆ P) (h : OnlyParts P s t) :
    OnlyParts P s (State.askGap t a1 a2 a3 a4) := by
  have h0 : ([.brt] : List Part) ⊆ P := List.Subset.trans (by decide) hP
  unfold State.askGap
  repeat' first
    | with_reducible exact h
    | with_reducible refine State.setIngPair_parts h0 ?_
    | with_reducible refine State.send_parts h0 ?_

theorem State.burstFailed_parts {P : List Part} {s t : State} {a1 a2 a3}
    (hP : [.slt, .brt] ⊆ P) (h : OnlyParts P s t) :
    OnlyParts P s (State.burstFailed t a1 a2 a3) := by
  have h0 : ([.brt] : List Part) ⊆ P := List.Subset.trans (by decide) hP
  have h1 : ([.slt] : List Part) ⊆ P := List.Subset.trans (by decide) hP
  unfold State.burstFailed
  repeat' first
    | with_reducible exact h
    | with_reducible refine State.modBurst_parts h0 ?_
    | with_reducible refine State.raiseRepair_parts h1 ?_
    | with_reducible refine State.askGap_parts h0 ?_
    | split

theorem State.ackTimeout_parts {P : List Part} {s t : State} {a1 a2}
    (hP : [.ctrs, .slt, .brt] ⊆ P) (h : OnlyParts P s t) :
    OnlyParts P s (State.ackTimeout t a1 a2) := by
  have h0 : ([.ctrs] : List Part) ⊆ P := List.Subset.trans (by decide) hP
  have h1 : ([.slt, .brt] : List Part) ⊆ P := List.Subset.trans (by decide) hP
  unfold State.ackTimeout
  repeat' first
    | with_reducible exact h
    | with_reducible refine State.bump_parts h0 ?_
    | with_reducible refine State.burstFailed_parts h1 ?_
    | split

theorem State.countDiscard_parts {P : List Part} {s t : State} {a1 a2} (hP : [.brt] ⊆ P) (h : OnlyParts P s t) :
    OnlyParts P s (State.countDiscard t a1 a2) := by
  have h0 : ([.brt] : List Part) ⊆ P := List.Subset.trans (by decide) hP
  unfold State.countDiscard
  repeat' first
    | with_reducible exact h
    | with_reducible refine State.ledgerEvent_parts h0 ?_

theorem State.dropPkt_parts {P : List Part} {s t : State} {a1} (hP : [.pkts] ⊆ P) (h : OnlyParts P s t) :
    OnlyParts P s (State.dropPkt t a1) := by
  have m_pkts : Part.pkts ∈ P := hP (by decide)
  unfold State.dropPkt
  repeat' first
    | with_reducible exact h
    | dsimp only
    | with_reducible refine OnlyParts.set_pkts m_pkts ?_

theorem State.setPkt_parts {P : List Part} {s t : State} {a1 a2} (hP : [.pkts] ⊆ P) (h : OnlyParts P s t) :
    OnlyParts P s (State.setPkt t a1 a2) := by
  have m_pkts : Part.pkts ∈ P := hP (by decide)
  unfold State.setPkt
  repeat' first
    | with_reducible exact h
    | dsimp only
    | with_reducible refine OnlyParts.set_pkts m_pkts ?_

theorem State.setCredits_parts {P : List Part} {s t : State} {a1 a2} (hP : [.brt] ⊆ P) (h : OnlyParts P s t) :
    OnlyParts P s (State.setCredits t a1 a2) := by
  have m_brt : Part.brt ∈ P := hP (by decide)
  unfold State.setCredits
  repeat' first
    | with_reducible exact h
    | dsimp only
    | with_reducible refine OnlyParts.set_brt m_brt ?_

theorem State.markBusy_parts {P : List Part} {s t : State} {a1 a2} (hP : [.chips] ⊆ P) (h : OnlyParts P s t) :
    OnlyParts P s (State.markBusy t a1 a2) := by
  have h0 : ([.chips] : List Part) ⊆ P := List.Subset.trans (by decide) hP
  unfold State.markBusy
  repeat' first
    | with_reducible exact h
    | with_reducible refine State.setChip_parts h0 ?_
    | split
    | dsimp only

theorem State.applyCredit_parts {P : List Part} {s t : State} {a1 a2 a3 a4}
    (hP : [.brt, .pkts, .chips] ⊆ P) (h : OnlyParts P s t) :
    OnlyParts P s (State.applyCredit t a1 a2 a3 a4) := by
  have hc : ([.chips] : List Part) ⊆ P := List.Subset.trans (by decide) hP
  have hb : ([.brt] : List Part) ⊆ P := List.Subset.trans (by decide) hP
  have hp : ([.pkts] : List Part) ⊆ P := List.Subset.trans (by decide) hP
  induction a4 generalizing t with
  | zero => exact h
  | succ f ih =>
    simp only [State.applyCredit]
    split
    · exact h
    · split
      · exact h
      · exact ih (State.markBusy_parts (List.Subset.trans (by decide) hP) (State.setPkt_parts hp (State.setCredits_parts hb (State.setChip_parts hc h))))

theorem State.applyCredits_parts {P : List Part} {s t : State} {a1 a2 a3}
    (hP : [.brt, .pkts, .chips] ⊆ P) (h : OnlyParts P s t) :
    OnlyParts P s (State.applyCredits t a1 a2 a3) := by
  have h0 : ([.brt, .pkts, .chips] : List Part) ⊆ P := List.Subset.trans (by decide) hP
  unfold State.applyCredits
  repeat' first
    | with_reducible exact h
    | with_reducible refine State.applyCredit_parts h0 ?_

theorem State.align_parts {P : List Part} {s t : State} {a1 a2} (hP : [.regs, .cmd, .slt] ⊆ P) (h : OnlyParts P s t) :
    OnlyParts P s (State.align t a1 a2) := by
  have m_slt : Part.slt ∈ P := hP (by decide)
  have h0 : ([.regs, .cmd] : List Part) ⊆ P := List.Subset.trans (by decide) hP
  unfold State.align
  repeat' first
    | with_reducible exact h
    | with_reducible refine State.irqIf_parts h0 ?_
    | split
    | dsimp only
    | with_reducible refine OnlyParts.set_slt m_slt ?_

theorem State.sendNack_parts {P : List Part} {s t : State} {a1 a2}
    (hP : [.regs, .ctrs, .cmd, .brt] ⊆ P) (h : OnlyParts P s t) :
    OnlyParts P s (State.sendNack t a1 a2) := by
  have h0 : ([.regs, .cmd] : List Part) ⊆ P := List.Subset.trans (by decide) hP
  have h1 : ([.ctrs] : List Part) ⊆ P := List.Subset.trans (by decide) hP
  have h2 : ([.brt] : List Part) ⊆ P := List.Subset.trans (by decide) hP
  unfold State.sendNack
  repeat' first
    | with_reducible exact h
    | with_reducible refine State.irqIf_parts h0 ?_
    | with_reducible refine State.bump_parts h1 ?_
    | with_reducible refine State.send_parts h2 ?_

theorem State.applyVerdict_parts {P : List Part} {s t : State} {a1 a2}
    (hP : [.regs, .ctrs, .cmd, .flt, .brt, .chips] ⊆ P) (h : OnlyParts P s t) :
    OnlyParts P s (State.applyVerdict t a1 a2) := by
  have h0 : ([.brt, .chips] : List Part) ⊆ P := List.Subset.trans (by decide) hP
  have h1 : ([.ctrs] : List Part) ⊆ P := List.Subset.trans (by decide) hP
  have h2 : ([.regs, .ctrs, .cmd, .brt] : List Part) ⊆ P := List.Subset.trans (by decide) hP
  have h3 : ([.ctrs, .flt] : List Part) ⊆ P := List.Subset.trans (by decide) hP
  have h4 : ([.brt] : List Part) ⊆ P := List.Subset.trans (by decide) hP
  unfold State.applyVerdict
  repeat' first
    | with_reducible exact h
    | with_reducible refine State.acceptBurst_parts h0 ?_
    | with_reducible refine State.bump_parts h1 ?_
    | with_reducible refine State.sendNack_parts h2 ?_
    | with_reducible refine State.raise_parts h3 ?_
    | with_reducible refine State.send_parts h4 ?_
    | split

theorem State.closeNotice_parts {P : List Part} {s t : State} {a1} (hP : [.brt] ⊆ P) (h : OnlyParts P s t) :
    OnlyParts P s (State.closeNotice t a1) := by
  have m_brt : Part.brt ∈ P := hP (by decide)
  have h0 : ([.brt] : List Part) ⊆ P := List.Subset.trans (by decide) hP
  unfold State.closeNotice
  repeat' first
    | with_reducible exact h
    | with_reducible refine State.setEgrPair_parts h0 ?_
    | split
    | dsimp only
    | with_reducible refine OnlyParts.set_brt m_brt ?_

theorem State.giveVerdict_parts {P : List Part} {s t : State} {a1 a2}
    (hP : [.regs, .ctrs, .cmd, .flt, .brt, .chips] ⊆ P) (h : OnlyParts P s t) :
    OnlyParts P s (State.giveVerdict t a1 a2) := by
  have h0 : ([.regs, .ctrs, .cmd, .flt, .brt, .chips] : List Part) ⊆ P := List.Subset.trans (by decide) hP
  have h1 : ([.brt] : List Part) ⊆ P := List.Subset.trans (by decide) hP
  unfold State.giveVerdict
  repeat' first
    | with_reducible exact h
    | with_reducible refine State.applyVerdict_parts h0 ?_
    | with_reducible refine State.closeNotice_parts h1 ?_

theorem State.answersDue_parts {P : List Part} {s t : State} {a1}
    (hP : [.regs, .ctrs, .cmd, .flt, .brt, .chips] ⊆ P) (h : OnlyParts P s t) :
    OnlyParts P s (State.answersDue t a1) := by
  have m_brt : Part.brt ∈ P := hP (by decide)
  have h0 : ([.regs, .ctrs, .cmd, .flt, .brt, .chips] : List Part) ⊆ P := List.Subset.trans (by decide) hP
  unfold State.answersDue
  repeat' first
    | with_reducible exact h
    | with_reducible refine State.giveVerdict_parts h0 ?_
    | with_reducible assumption
    | with_reducible refine OnlyParts.foldl (fun _ _ _ => ?_) ?_
    | with_reducible refine OnlyParts.foldl_fst (fun _ _ _ => ?_) ?_
    | split
    | dsimp only
    | with_reducible refine OnlyParts.set_brt m_brt ?_

theorem State.autoReplace_parts {P : List Part} {s t : State} {a1 a2}
    (hP : [.regs, .ctrs, .cmd, .flt, .chips] ⊆ P) (h : OnlyParts P s t) :
    OnlyParts P s (State.autoReplace t a1 a2) := by
  have h0 : ([.ctrs, .flt] : List Part) ⊆ P := List.Subset.trans (by decide) hP
  have h1 : ([.regs, .cmd, .chips] : List Part) ⊆ P := List.Subset.trans (by decide) hP
  have h2 : ([.chips] : List Part) ⊆ P := List.Subset.trans (by decide) hP
  unfold State.autoReplace
  repeat' first
    | with_reducible exact h
    | with_reducible refine State.raise_parts h0 ?_
    | with_reducible refine State.startReplace_parts h1 ?_
    | with_reducible refine State.setChip_parts h2 ?_
    | split
    | dsimp only

theorem State.discardLists_parts {P : List Part} {s t : State} (hP : [.slt] ⊆ P) (h : OnlyParts P s t) :
    OnlyParts P s (State.discardLists t) := by
  have m_slt : Part.slt ∈ P := hP (by decide)
  unfold State.discardLists
  repeat' first
    | with_reducible exact h
    | split
    | dsimp only
    | with_reducible refine OnlyParts.set_slt m_slt ?_

theorem State.beginSafeHold_parts {P : List Part} {s t : State} (hP : [.slt, .brt] ⊆ P) (h : OnlyParts P s t) :
    OnlyParts P s (State.beginSafeHold t) := by
  have h0 : ([.slt] : List Part) ⊆ P := List.Subset.trans (by decide) hP
  have h1 : ([.slt, .brt] : List Part) ⊆ P := List.Subset.trans (by decide) hP
  unfold State.beginSafeHold
  repeat' first
    | with_reducible exact h
    | with_reducible refine State.discardLists_parts h0 ?_
    | with_reducible refine State.setHold_parts h1 ?_
    | split

theorem State.beginSwitchHold_parts {P : List Part} {s t : State} (hP : [.slt, .brt] ⊆ P) (h : OnlyParts P s t) :
    OnlyParts P s (State.beginSwitchHold t) := by
  have h0 : ([.slt] : List Part) ⊆ P := List.Subset.trans (by decide) hP
  have h1 : ([.slt, .brt] : List Part) ⊆ P := List.Subset.trans (by decide) hP
  unfold State.beginSwitchHold
  repeat' first
    | with_reducible exact h
    | with_reducible refine State.discardLists_parts h0 ?_
    | with_reducible refine State.setHold_parts h1 ?_
    | split

theorem State.putWork_parts {P : List Part} {s t : State} {a1} (hP : [.slt] ⊆ P) (h : OnlyParts P s t) :
    OnlyParts P s (State.putWork t a1) := by
  have m_slt : Part.slt ∈ P := hP (by decide)
  unfold State.putWork
  repeat' first
    | with_reducible exact h
    | dsimp only
    | with_reducible refine OnlyParts.set_slt m_slt ?_

theorem State.beginWork_parts {P : List Part} {s t : State} {a1} (hP : [.slt] ⊆ P) (h : OnlyParts P s t) :
    OnlyParts P s (State.beginWork t a1) := by
  have m_slt : Part.slt ∈ P := hP (by decide)
  have h0 : ([.slt] : List Part) ⊆ P := List.Subset.trans (by decide) hP
  unfold State.beginWork
  repeat' first
    | with_reducible exact h
    | with_reducible refine State.putWork_parts h0 ?_
    | split
    | dsimp only
    | with_reducible refine OnlyParts.set_slt m_slt ?_

theorem State.setQueue_parts {P : List Part} {s t : State} {a1 a2 a3 a4} (hP : [.chips] ⊆ P) (h : OnlyParts P s t) :
    OnlyParts P s (State.setQueue t a1 a2 a3 a4) := by
  have h0 : ([.chips] : List Part) ⊆ P := List.Subset.trans (by decide) hP
  unfold State.setQueue
  repeat' first
    | with_reducible exact h
    | with_reducible refine State.setChip_parts h0 ?_

theorem State.loseDeficit_parts {P : List Part} {s t : State} {a1 a2 a3} (hP : [.ports] ⊆ P) (h : OnlyParts P s t) :
    OnlyParts P s (State.loseDeficit t a1 a2 a3) := by
  have h0 : ([.ports] : List Part) ⊆ P := List.Subset.trans (by decide) hP
  unfold State.loseDeficit
  repeat' first
    | with_reducible exact h
    | with_reducible refine State.setPort_parts h0 ?_

theorem State.discardEgress_parts {P : List Part} {s t : State} {a1 a2 a3 a4}
    (hP : [.brt, .pkts, .chips] ⊆ P) (h : OnlyParts P s t) :
    OnlyParts P s (State.discardEgress t a1 a2 a3 a4) := by
  have h0 : ([.pkts] : List Part) ⊆ P := List.Subset.trans (by decide) hP
  have h1 : ([.brt] : List Part) ⊆ P := List.Subset.trans (by decide) hP
  have h2 : ([.chips] : List Part) ⊆ P := List.Subset.trans (by decide) hP
  unfold State.discardEgress
  repeat' first
    | with_reducible exact h
    | with_reducible refine State.dropPkt_parts h0 ?_
    | with_reducible refine State.countDiscard_parts h1 ?_
    | with_reducible refine State.freeHold_parts h2 ?_

theorem State.headCheck_parts {P : List Part} {s t : State} {a1 a2 a3 a4}
    (hP : [.regs, .ctrs, .cmd, .brt, .pkts, .ports, .chips] ⊆ P) (h : OnlyParts P s t) :
    OnlyParts P s (State.headCheck t a1 a2 a3 a4) := by
  induction a4 generalizing t with
  | zero => exact h
  | succ f ih =>
    simp only [State.headCheck]
    split
    · exact h
    · split
      · exact ih (State.irqIf_parts (List.Subset.trans (by decide) hP) (State.bump_parts (List.Subset.trans (by decide) hP)
          (State.discardEgress_parts (List.Subset.trans (by decide) hP) (State.loseDeficit_parts (List.Subset.trans (by decide) hP)
          (State.setQueue_parts (List.Subset.trans (by decide) hP) h)))))
      · exact h

theorem State.checkHead_parts {P : List Part} {s t : State} {a1 a2 a3}
    (hP : [.regs, .ctrs, .cmd, .brt, .pkts, .ports, .chips] ⊆ P) (h : OnlyParts P s t) :
    OnlyParts P s (State.checkHead t a1 a2 a3) := by
  have h0 : ([.regs, .ctrs, .cmd, .brt, .pkts, .ports, .chips] : List Part) ⊆ P := List.Subset.trans (by decide) hP
  unfold State.checkHead
  repeat' first
    | with_reducible exact h
    | with_reducible refine State.headCheck_parts h0 ?_

theorem State.enqueue_parts {P : List Part} {s t : State} {a1 a2 a3 a4 a5}
    (hP : [.regs, .ctrs, .cmd, .brt, .pkts, .ports, .chips] ⊆ P) (h : OnlyParts P s t) :
    OnlyParts P s (State.enqueue t a1 a2 a3 a4 a5) := by
  have h0 : ([.chips] : List Part) ⊆ P := List.Subset.trans (by decide) hP
  have h1 : ([.regs, .ctrs, .cmd, .brt, .pkts, .ports, .chips] : List Part) ⊆ P := List.Subset.trans (by decide) hP
  unfold State.enqueue
  repeat' first
    | with_reducible exact h
    | with_reducible refine State.setQueue_parts h0 ?_
    | with_reducible refine State.checkHead_parts h1 ?_
    | split
    | dsimp only

theorem State.feed_parts {P : List Part} {s t : State} {a1 a2 a3}
    (hP : [.regs, .ctrs, .cmd, .brt, .pkts, .ports, .chips] ⊆ P) (h : OnlyParts P s t) :
    OnlyParts P s (State.feed t a1 a2 a3) := by
  have h0 : ([.pkts] : List Part) ⊆ P := List.Subset.trans (by decide) hP
  have h1 : ([.regs, .ctrs, .cmd, .brt, .pkts, .ports, .chips] : List Part) ⊆ P := List.Subset.trans (by decide) hP
  have h2 : ([.brt] : List Part) ⊆ P := List.Subset.trans (by decide) hP
  have h3 : ([.chips] : List Part) ⊆ P := List.Subset.trans (by decide) hP
  unfold State.feed
  repeat' first
    | with_reducible exact h
    | with_reducible refine State.dropPkt_parts h0 ?_
    | with_reducible refine State.enqueue_parts h1 ?_
    | with_reducible refine State.countDiscard_parts h2 ?_
    | with_reducible refine State.setEgrPair_parts h2 ?_
    | with_reducible refine State.freeHold_parts h3 ?_
    | split
    | dsimp only

theorem State.feedAll_parts {P : List Part} {s t : State} {a1 a2 a3}
    (hP : [.regs, .ctrs, .cmd, .brt, .pkts, .ports, .chips] ⊆ P) (h : OnlyParts P s t) :
    OnlyParts P s (State.feedAll t a1 a2 a3) := by
  have h0 : ([.regs, .ctrs, .cmd, .brt, .pkts, .ports, .chips] : List Part) ⊆ P := List.Subset.trans (by decide) hP
  unfold State.feedAll
  repeat' first
    | with_reducible exact h
    | with_reducible refine State.feed_parts h0 ?_
    | with_reducible assumption
    | with_reducible refine OnlyParts.foldl (fun _ _ _ => ?_) ?_

theorem State.release_parts {P : List Part} {s t : State} {a1 a2 a3}
    (hP : [.regs, .ctrs, .cmd, .brt, .pkts, .ports, .chips] ⊆ P) (h : OnlyParts P s t) :
    OnlyParts P s (State.release t a1 a2 a3) := by
  have hb : ([.brt] : List Part) ⊆ P := List.Subset.trans (by decide) hP
  induction a3 generalizing t with
  | zero => exact h
  | succ f ih =>
    simp only [State.release]
    split
    · exact h
    · exact ih (State.feedAll_parts (List.Subset.trans (by decide) hP) (State.setEgrPair_parts hb h))

theorem State.releaseAll_parts {P : List Part} {s t : State} {a1 a2}
    (hP : [.regs, .ctrs, .cmd, .brt, .pkts, .ports, .chips] ⊆ P) (h : OnlyParts P s t) :
    OnlyParts P s (State.releaseAll t a1 a2) := by
  have h0 : ([.regs, .ctrs, .cmd, .brt, .pkts, .ports, .chips] : List Part) ⊆ P := List.Subset.trans (by decide) hP
  unfold State.releaseAll
  repeat' first
    | with_reducible exact h
    | with_reducible refine State.release_parts h0 ?_

theorem State.gapPacket_parts {P : List Part} {s t : State} {a1 a2 a3}
    (hP : [.brt, .pkts] ⊆ P) (h : OnlyParts P s t) :
    OnlyParts P s (State.gapPacket t a1 a2 a3) := by
  have h0 : ([.pkts] : List Part) ⊆ P := List.Subset.trans (by decide) hP
  have h1 : ([.brt] : List Part) ⊆ P := List.Subset.trans (by decide) hP
  unfold State.gapPacket
  repeat' first
    | with_reducible exact h
    | with_reducible refine State.dropPkt_parts h0 ?_
    | with_reducible refine State.countDiscard_parts h1 ?_
    | with_reducible refine State.setPkt_parts h0 ?_
    | split

theorem State.declareGap_parts {P : List Part} {s t : State} {a1 a2}
    (hP : [.regs, .ctrs, .cmd, .brt, .pkts, .chips] ⊆ P) (h : OnlyParts P s t) :
    OnlyParts P s (State.declareGap t a1 a2) := by
  have h0 : ([.regs, .cmd] : List Part) ⊆ P := List.Subset.trans (by decide) hP
  have h1 : ([.ctrs] : List Part) ⊆ P := List.Subset.trans (by decide) hP
  have h2 : ([.brt] : List Part) ⊆ P := List.Subset.trans (by decide) hP
  have h3 : ([.brt, .pkts] : List Part) ⊆ P := List.Subset.trans (by decide) hP
  have h4 : ([.chips] : List Part) ⊆ P := List.Subset.trans (by decide) hP
  unfold State.declareGap
  repeat' first
    | with_reducible exact h
    | with_reducible refine State.irqIf_parts h0 ?_
    | with_reducible refine State.bump_parts h1 ?_
    | with_reducible refine State.setEgrPair_parts h2 ?_
    | with_reducible refine State.gapPacket_parts h3 ?_
    | with_reducible refine State.freeHold_parts h4 ?_
    | with_reducible refine State.send_parts h2 ?_
    | with_reducible assumption
    | with_reducible refine OnlyParts.foldl (fun _ _ _ => ?_) ?_

theorem State.gapDueNow_parts {P : List Part} {s t : State} {a1 a2 a3}
    (hP : [.regs, .ctrs, .cmd, .brt, .pkts, .chips] ⊆ P) (h : OnlyParts P s t) :
    OnlyParts P s (State.gapDueNow t a1 a2 a3) := by
  have h0 : ([.brt] : List Part) ⊆ P := List.Subset.trans (by decide) hP
  have h1 : ([.regs, .ctrs, .cmd, .brt, .pkts, .chips] : List Part) ⊆ P := List.Subset.trans (by decide) hP
  unfold State.gapDueNow
  repeat' first
    | with_reducible exact h
    | with_reducible refine State.setEgrPair_parts h0 ?_
    | with_reducible refine State.declareGap_parts h1 ?_
    | split
    | dsimp only

theorem State.gapAtBoundary_parts {P : List Part} {s t : State} {a1 a2 a3}
    (hP : [.regs, .ctrs, .cmd, .brt, .pkts, .ports, .chips] ⊆ P) (h : OnlyParts P s t) :
    OnlyParts P s (State.gapAtBoundary t a1 a2 a3) := by
  have h0 : ([.regs, .ctrs, .cmd, .brt, .pkts, .ports, .chips] : List Part) ⊆ P := List.Subset.trans (by decide) hP
  have h1 : ([.regs, .ctrs, .cmd, .brt, .pkts, .chips] : List Part) ⊆ P := List.Subset.trans (by decide) hP
  unfold State.gapAtBoundary
  repeat' first
    | with_reducible exact h
    | with_reducible refine State.releaseAll_parts h0 ?_
    | with_reducible refine State.gapDueNow_parts h1 ?_

theorem State.gapsWaiting_parts {P : List Part} {s t : State} {a1 a2}
    (hP : [.regs, .ctrs, .cmd, .brt, .pkts, .ports, .chips] ⊆ P) (h : OnlyParts P s t) :
    OnlyParts P s (State.gapsWaiting t a1 a2) := by
  have h0 : ([.regs, .ctrs, .cmd, .brt, .pkts, .ports, .chips] : List Part) ⊆ P := List.Subset.trans (by decide) hP
  have h1 : ([.brt] : List Part) ⊆ P := List.Subset.trans (by decide) hP
  unfold State.gapsWaiting
  repeat' first
    | with_reducible exact h
    | with_reducible refine State.gapAtBoundary_parts h0 ?_
    | with_reducible refine State.setEgrPair_parts h1 ?_
    | with_reducible assumption
    | with_reducible refine OnlyParts.foldl (fun _ _ _ => ?_) ?_
    | with_reducible refine OnlyParts.foldl_fst (fun _ _ _ => ?_) ?_
    | split
    | dsimp only

theorem State.freeSegs_parts {P : List Part} {s t : State} {a1 a2} (hP : [.chips] ⊆ P) (h : OnlyParts P s t) :
    OnlyParts P s (State.freeSegs t a1 a2) := by
  have h0 : ([.chips] : List Part) ⊆ P := List.Subset.trans (by decide) hP
  unfold State.freeSegs
  repeat' first
    | with_reducible exact h
    | with_reducible refine State.setChip_parts h0 ?_

theorem State.modPkt_parts {P : List Part} {s t : State} {a1 a2} (hP : [.pkts] ⊆ P) (h : OnlyParts P s t) :
    OnlyParts P s (State.modPkt t a1 a2) := by
  have h0 : ([.pkts] : List Part) ⊆ P := List.Subset.trans (by decide) hP
  unfold State.modPkt
  repeat' first
    | with_reducible exact h
    | with_reducible refine State.setPkt_parts h0 ?_
    | split

theorem State.movePkt_parts {P : List Part} {s t : State} {a1 a2} (hP : [.pkts, .chips] ⊆ P) (h : OnlyParts P s t) :
    OnlyParts P s (State.movePkt t a1 a2) := by
  have h0 : ([.pkts] : List Part) ⊆ P := List.Subset.trans (by decide) hP
  have h1 : ([.chips] : List Part) ⊆ P := List.Subset.trans (by decide) hP
  unfold State.movePkt
  repeat' first
    | with_reducible exact h
    | with_reducible refine State.modPkt_parts h0 ?_
    | with_reducible refine State.setChip_parts h1 ?_

theorem State.transfer_parts {P : List Part} {s t : State} {a1 a2 a3}
    (hP : [.slt, .brt, .pkts, .chips] ⊆ P) (h : OnlyParts P s t) :
    OnlyParts P s (State.transfer t a1 a2 a3) := by
  have h0 : ([.brt] : List Part) ⊆ P := List.Subset.trans (by decide) hP
  have h1 : ([.chips] : List Part) ⊆ P := List.Subset.trans (by decide) hP
  have h2 : ([.pkts, .chips] : List Part) ⊆ P := List.Subset.trans (by decide) hP
  have h3 : ([.slt] : List Part) ⊆ P := List.Subset.trans (by decide) hP
  unfold State.transfer
  repeat' first
    | with_reducible exact h
    | with_reducible refine State.setIngPair_parts h0 ?_
    | with_reducible refine State.freeSegs_parts h1 ?_
    | with_reducible refine State.setEgrPair_parts h0 ?_
    | with_reducible refine State.ledgerEvent_parts h0 ?_
    | with_reducible refine State.movePkt_parts h2 ?_
    | with_reducible refine State.withdrawRepair_parts h3 ?_
    | with_reducible assumption
    | with_reducible refine OnlyParts.foldl (fun _ _ _ => ?_) ?_
    | with_reducible refine OnlyParts.foldl_fst (fun _ _ _ => ?_) ?_
    | split

theorem State.pairBoundary_parts {P : List Part} {s t : State} {a1 a2}
    (hP : [.regs, .ctrs, .cmd, .slt, .brt, .pkts, .ports, .chips] ⊆ P) (h : OnlyParts P s t) :
    OnlyParts P s (State.pairBoundary t a1 a2) := by
  have h0 : ([.regs, .ctrs, .cmd, .brt, .pkts, .ports, .chips] : List Part) ⊆ P := List.Subset.trans (by decide) hP
  have h1 : ([.slt, .brt, .pkts, .chips] : List Part) ⊆ P := List.Subset.trans (by decide) hP
  unfold State.pairBoundary
  repeat' first
    | with_reducible exact h
    | with_reducible refine State.gapsWaiting_parts h0 ?_
    | with_reducible refine State.releaseAll_parts h0 ?_
    | with_reducible refine State.transfer_parts h1 ?_
    | with_reducible assumption
    | with_reducible refine OnlyParts.foldl (fun _ _ _ => ?_) ?_
    | with_reducible refine OnlyParts.foldl_fst (fun _ _ _ => ?_) ?_
    | split
    | dsimp only

theorem State.boundaries_parts {P : List Part} {s t : State} {a1}
    (hP : [.regs, .ctrs, .cmd, .flt, .slt, .brt, .pkts, .ports, .chips] ⊆ P) (h : OnlyParts P s t) :
    OnlyParts P s (State.boundaries t a1) := by
  have h0 : ([.regs, .ctrs, .cmd, .flt, .brt, .chips] : List Part) ⊆ P := List.Subset.trans (by decide) hP
  have h1 : ([.regs, .ctrs, .cmd, .slt, .brt, .pkts, .ports,
    .chips] : List Part) ⊆ P := List.Subset.trans (by decide) hP
  unfold State.boundaries
  repeat' first
    | with_reducible exact h
    | with_reducible refine State.answersDue_parts h0 ?_
    | with_reducible refine State.pairBoundary_parts h1 ?_
    | with_reducible assumption
    | with_reducible refine OnlyParts.foldl (fun _ _ _ => ?_) ?_

theorem State.setSel_parts {P : List Part} {s t : State} {a1 a2} (hP : [.drv] ⊆ P) (h : OnlyParts P s t) :
    OnlyParts P s (State.setSel t a1 a2) := by
  have m_drv : Part.drv ∈ P := hP (by decide)
  unfold State.setSel
  repeat' first
    | with_reducible exact h
    | split
    | dsimp only
    | with_reducible refine OnlyParts.set_drv m_drv ?_

theorem State.effectPark_parts {P : List Part} {s t : State} {a1}
    (hP : [.freeCtr, .loopA, .loopB, .loopS, .drv, .mtx] ⊆ P) (h : OnlyParts P s t) :
    OnlyParts P s (State.effectPark t a1) := by
  have m_mtx : Part.mtx ∈ P := hP (by decide)
  have h0 : ([.drv] : List Part) ⊆ P := List.Subset.trans (by decide) hP
  have h1 : ([.freeCtr, .loopS] : List Part) ⊆ P := List.Subset.trans (by decide) hP
  have h2 : ([.loopA, .loopB] : List Part) ⊆ P := List.Subset.trans (by decide) hP
  unfold State.effectPark
  repeat' first
    | with_reducible exact h
    | with_reducible refine State.setChan_parts h0 ?_
    | with_reducible refine State.moveTargets_parts h1 ?_
    | with_reducible refine State.setSel_parts h0 ?_
    | with_reducible refine State.modElem_parts h2 ?_
    | split
    | dsimp only
    | with_reducible refine OnlyParts.set_mtx m_mtx ?_

theorem State.dueParks_parts {P : List Part} {s t : State}
    (hP : [.freeCtr, .loopA, .loopB, .loopS, .drv, .mtx] ⊆ P) (h : OnlyParts P s t) :
    OnlyParts P s (State.dueParks t) := by
  have h0 : ([.freeCtr, .loopA, .loopB, .loopS, .drv, .mtx] : List Part) ⊆ P := List.Subset.trans (by decide) hP
  unfold State.dueParks
  repeat' first
    | with_reducible exact h
    | with_reducible refine State.effectPark_parts h0 ?_
    | with_reducible assumption
    | with_reducible refine OnlyParts.foldl (fun _ _ _ => ?_) ?_

theorem State.burstVerdict_parts {P : List Part} {s t : State} {a1 a2}
    (hP : [.regs, .ctrs, .cmd, .flt, .brt, .chips] ⊆ P) (h : OnlyParts P s t) :
    OnlyParts P s (State.burstVerdict t a1 a2) := by
  have h0 : ([.regs, .ctrs, .cmd, .flt, .brt, .chips] : List Part) ⊆ P := List.Subset.trans (by decide) hP
  unfold State.burstVerdict
  repeat' first
    | with_reducible exact h
    | with_reducible refine State.giveVerdict_parts h0 ?_
    | split

theorem State.takeCalendar_parts {P : List Part} {s t : State}
    (hP : [.regs, .cmd, .acq, .slt] ⊆ P) (h : OnlyParts P s t) :
    OnlyParts P s (State.takeCalendar t) := by
  have m_slt : Part.slt ∈ P := hP (by decide)
  have h0 : ([.regs, .cmd] : List Part) ⊆ P := List.Subset.trans (by decide) hP
  have h1 : ([.regs] : List Part) ⊆ P := List.Subset.trans (by decide) hP
  have h2 : ([.acq] : List Part) ⊆ P := List.Subset.trans (by decide) hP
  unfold State.takeCalendar
  repeat' first
    | with_reducible exact h
    | with_reducible refine State.irqIf_parts h0 ?_
    | with_reducible refine State.wrBit_parts h1 ?_
    | with_reducible refine State.eventAtTime_parts h2 ?_
    | split
    | dsimp only
    | with_reducible refine OnlyParts.set_slt m_slt ?_

theorem State.calendarTakeover_parts {P : List Part} {s t : State}
    (hP : [.regs, .cmd, .acq, .slt] ⊆ P) (h : OnlyParts P s t) :
    OnlyParts P s (State.calendarTakeover t) := by
  have h0 : ([.regs, .cmd, .acq, .slt] : List Part) ⊆ P := List.Subset.trans (by decide) hP
  unfold State.calendarTakeover
  repeat' first
    | with_reducible exact h
    | with_reducible refine State.takeCalendar_parts h0 ?_
    | split

theorem State.checkHeads_parts {P : List Part} {s t : State} {a1}
    (hP : [.regs, .ctrs, .cmd, .brt, .pkts, .ports, .chips] ⊆ P) (h : OnlyParts P s t) :
    OnlyParts P s (State.checkHeads t a1) := by
  have h0 : ([.regs, .ctrs, .cmd, .brt, .pkts, .ports, .chips] : List Part) ⊆ P := List.Subset.trans (by decide) hP
  unfold State.checkHeads
  repeat' first
    | with_reducible exact h
    | with_reducible refine State.checkHead_parts h0 ?_
    | with_reducible assumption
    | with_reducible refine OnlyParts.foldl (fun _ _ _ => ?_) ?_

theorem State.mirrorTakes_parts {P : List Part} {s t : State} {a1} (hP : [.brt] ⊆ P) (h : OnlyParts P s t) :
    OnlyParts P s (State.mirrorTakes t a1) := by
  have m_brt : Part.brt ∈ P := hP (by decide)
  unfold State.mirrorTakes
  repeat' first
    | with_reducible exact h
    | dsimp only
    | with_reducible refine OnlyParts.set_brt m_brt ?_

theorem State.dropUntransferred_parts {P : List Part} {s t : State} {a1 a2}
    (hP : [.brt, .chips] ⊆ P) (h : OnlyParts P s t) :
    OnlyParts P s (State.dropUntransferred t a1 a2) := by
  have h0 : ([.brt] : List Part) ⊆ P := List.Subset.trans (by decide) hP
  have h1 : ([.chips] : List Part) ⊆ P := List.Subset.trans (by decide) hP
  unfold State.dropUntransferred
  repeat' first
    | with_reducible exact h
    | with_reducible refine State.setEgrPair_parts h0 ?_
    | with_reducible refine State.freeHold_parts h1 ?_
    | with_reducible assumption
    | with_reducible refine OnlyParts.foldl (fun _ _ _ => ?_) ?_
    | with_reducible refine OnlyParts.foldl_fst (fun _ _ _ => ?_) ?_
    | split
    | dsimp only

theorem State.withdraw_parts {P : List Part} {s t : State} {a1 a2 a3}
    (hP : [.brt, .chips] ⊆ P) (h : OnlyParts P s t) :
    OnlyParts P s (State.withdraw t a1 a2 a3) := by
  have h0 : ([.brt] : List Part) ⊆ P := List.Subset.trans (by decide) hP
  have h1 : ([.chips] : List Part) ⊆ P := List.Subset.trans (by decide) hP
  unfold State.withdraw
  repeat' first
    | with_reducible exact h
    | with_reducible refine State.setCredits_parts h0 ?_
    | with_reducible refine State.sendRelease_parts h0 ?_
    | with_reducible refine State.setChip_parts h1 ?_
    | split
    | dsimp only

theorem State.withdrawFor_parts {P : List Part} {s t : State} {a1 a2}
    (hP : [.brt, .chips] ⊆ P) (h : OnlyParts P s t) :
    OnlyParts P s (State.withdrawFor t a1 a2) := by
  have h0 : ([.brt, .chips] : List Part) ⊆ P := List.Subset.trans (by decide) hP
  unfold State.withdrawFor
  repeat' first
    | with_reducible exact h
    | with_reducible refine State.withdraw_parts h0 ?_
    | with_reducible assumption
    | with_reducible refine OnlyParts.foldl (fun _ _ _ => ?_) ?_

theorem State.chipletLoss_parts {P : List Part} {s t : State} {a1}
    (hP : [.ctrs, .flt, .brt, .pkts, .chips] ⊆ P) (h : OnlyParts P s t) :
    OnlyParts P s (State.chipletLoss t a1) := by
  have m_brt : Part.brt ∈ P := hP (by decide)
  have h0 : ([.pkts] : List Part) ⊆ P := List.Subset.trans (by decide) hP
  have h1 : ([.brt] : List Part) ⊆ P := List.Subset.trans (by decide) hP
  have h2 : ([.brt, .chips] : List Part) ⊆ P := List.Subset.trans (by decide) hP
  have h3 : ([.ctrs, .flt] : List Part) ⊆ P := List.Subset.trans (by decide) hP
  have h4 : ([.chips] : List Part) ⊆ P := List.Subset.trans (by decide) hP
  unfold State.chipletLoss
  repeat' first
    | with_reducible exact h
    | with_reducible refine State.dropPkt_parts h0 ?_
    | with_reducible refine State.mirrorTakes_parts h1 ?_
    | with_reducible refine State.dropUntransferred_parts h2 ?_
    | with_reducible refine State.withdrawFor_parts h2 ?_
    | with_reducible refine State.raise_parts h3 ?_
    | with_reducible refine State.setChip_parts h4 ?_
    | with_reducible assumption
    | with_reducible refine OnlyParts.foldl (fun _ _ _ => ?_) ?_
    | with_reducible refine OnlyParts.foldl_fst (fun _ _ _ => ?_) ?_
    | split
    | dsimp only
    | with_reducible refine OnlyParts.set_brt m_brt ?_

theorem State.discardIngress_parts {P : List Part} {s t : State} {a1 a2}
    (hP : [.brt, .pkts, .chips] ⊆ P) (h : OnlyParts P s t) :
    OnlyParts P s (State.discardIngress t a1 a2) := by
  have h0 : ([.pkts] : List Part) ⊆ P := List.Subset.trans (by decide) hP
  have h1 : ([.brt] : List Part) ⊆ P := List.Subset.trans (by decide) hP
  have h2 : ([.chips] : List Part) ⊆ P := List.Subset.trans (by decide) hP
  unfold State.discardIngress
  repeat' first
    | with_reducible exact h
    | with_reducible refine State.dropPkt_parts h0 ?_
    | with_reducible refine State.countDiscard_parts h1 ?_
    | with_reducible refine State.sendRelease_parts h1 ?_
    | with_reducible refine State.setChip_parts h2 ?_
    | split

theorem State.gapBurst_parts {P : List Part} {s t : State} {a1 a2 a3 a4}
    (hP : [.slt, .brt, .pkts, .chips] ⊆ P) (h : OnlyParts P s t) :
    OnlyParts P s (State.gapBurst t a1 a2 a3 a4) := by
  have h0 : ([.brt] : List Part) ⊆ P := List.Subset.trans (by decide) hP
  have h1 : ([.chips] : List Part) ⊆ P := List.Subset.trans (by decide) hP
  have h2 : ([.brt, .pkts, .chips] : List Part) ⊆ P := List.Subset.trans (by decide) hP
  have h3 : ([.slt] : List Part) ⊆ P := List.Subset.trans (by decide) hP
  unfold State.gapBurst
  repeat' first
    | with_reducible exact h
    | with_reducible refine State.setIngPair_parts h0 ?_
    | with_reducible refine State.freeSegs_parts h1 ?_
    | with_reducible refine State.discardIngress_parts h2 ?_
    | with_reducible refine State.withdrawRepair_parts h3 ?_
    | with_reducible assumption
    | with_reducible refine OnlyParts.foldl (fun _ _ _ => ?_) ?_
    | with_reducible refine OnlyParts.foldl_fst (fun _ _ _ => ?_) ?_
    | split
    | dsimp only

theorem State.gapTaken_parts {P : List Part} {s t : State} {a1 a2 a3}
    (hP : [.slt, .brt, .pkts, .chips] ⊆ P) (h : OnlyParts P s t) :
    OnlyParts P s (State.gapTaken t a1 a2 a3) := by
  have h0 : ([.slt, .brt, .pkts, .chips] : List Part) ⊆ P := List.Subset.trans (by decide) hP
  unfold State.gapTaken
  repeat' first
    | with_reducible exact h
    | with_reducible refine State.gapBurst_parts h0 ?_
    | with_reducible assumption
    | with_reducible refine OnlyParts.foldl (fun _ _ _ => ?_) ?_
    | with_reducible refine OnlyParts.foldl_fst (fun _ _ _ => ?_) ?_
    | split

theorem State.renumber_parts {P : List Part} {s t : State} {a1 a2}
    (hP : [.regs, .ctrs, .cmd, .slt, .brt, .pkts, .ports, .chips] ⊆ P) (h : OnlyParts P s t) :
    OnlyParts P s (State.renumber t a1 a2) := by
  have m_brt : Part.brt ∈ P := hP (by decide)
  have h0 : ([.brt] : List Part) ⊆ P := List.Subset.trans (by decide) hP
  have h1 : ([.slt, .brt, .pkts, .chips] : List Part) ⊆ P := List.Subset.trans (by decide) hP
  have h2 : ([.pkts] : List Part) ⊆ P := List.Subset.trans (by decide) hP
  have h3 : ([.regs, .ctrs, .cmd, .brt, .pkts, .ports, .chips] : List Part) ⊆ P := List.Subset.trans (by decide) hP
  have h4 : ([.chips] : List Part) ⊆ P := List.Subset.trans (by decide) hP
  have h5 : ([.slt] : List Part) ⊆ P := List.Subset.trans (by decide) hP
  unfold State.renumber
  repeat' first
    | with_reducible exact h
    | with_reducible refine State.setIngPair_parts h0 ?_
    | with_reducible refine State.gapTaken_parts h1 ?_
    | with_reducible refine State.modPkt_parts h2 ?_
    | with_reducible refine State.setEgrPair_parts h0 ?_
    | with_reducible refine State.feedAll_parts h3 ?_
    | with_reducible refine State.freeHold_parts h4 ?_
    | with_reducible refine State.withdrawRepair_parts h5 ?_
    | with_reducible assumption
    | with_reducible refine OnlyParts.foldl (fun _ _ _ => ?_) ?_
    | with_reducible refine OnlyParts.foldl_fst (fun _ _ _ => ?_) ?_
    | split
    | dsimp only
    | with_reducible refine OnlyParts.set_brt m_brt ?_

theorem State.epochsOf_parts {P : List Part} {s t : State} {a1}
    (hP : [.regs, .ctrs, .cmd, .slt, .brt, .pkts, .ports, .chips] ⊆ P) (h : OnlyParts P s t) :
    OnlyParts P s (State.epochsOf t a1) := by
  have m_brt : Part.brt ∈ P := hP (by decide)
  have h0 : ([.regs, .ctrs, .cmd, .slt, .brt, .pkts, .ports,
    .chips] : List Part) ⊆ P := List.Subset.trans (by decide) hP
  unfold State.epochsOf
  repeat' first
    | with_reducible exact h
    | with_reducible refine State.renumber_parts h0 ?_
    | with_reducible assumption
    | with_reducible refine OnlyParts.foldl (fun _ _ _ => ?_) ?_
    | with_reducible refine OnlyParts.foldl_fst (fun _ _ _ => ?_) ?_
    | dsimp only
    | with_reducible refine OnlyParts.set_brt m_brt ?_

theorem State.setRx_parts {P : List Part} {s t : State} {a1 a2} (hP : [.brt] ⊆ P) (h : OnlyParts P s t) :
    OnlyParts P s (State.setRx t a1 a2) := by
  have m_brt : Part.brt ∈ P := hP (by decide)
  unfold State.setRx
  repeat' first
    | with_reducible exact h
    | dsimp only
    | with_reducible refine OnlyParts.set_brt m_brt ?_

theorem State.correctedRead_parts {P : List Part} {s t : State} {a1 a2}
    (hP : [.regs, .ctrs, .cmd, .flt, .chips] ⊆ P) (h : OnlyParts P s t) :
    OnlyParts P s (State.correctedRead t a1 a2) := by
  have h0 : ([.ctrs] : List Part) ⊆ P := List.Subset.trans (by decide) hP
  have h1 : ([.ctrs, .flt] : List Part) ⊆ P := List.Subset.trans (by decide) hP
  have h2 : ([.regs, .ctrs, .cmd, .flt, .chips] : List Part) ⊆ P := List.Subset.trans (by decide) hP
  have h3 : ([.chips] : List Part) ⊆ P := List.Subset.trans (by decide) hP
  unfold State.correctedRead
  repeat' first
    | with_reducible exact h
    | with_reducible refine State.bump_parts h0 ?_
    | with_reducible refine State.raise_parts h1 ?_
    | with_reducible refine State.autoReplace_parts h2 ?_
    | with_reducible refine State.setChip_parts h3 ?_
    | split
    | dsimp only

theorem State.countCarryDrops_parts {P : List Part} {s t : State} {a1}
    (hP : [.regs, .ctrs, .cmd] ⊆ P) (h : OnlyParts P s t) :
    OnlyParts P s (State.countCarryDrops t a1) := by
  have h0 : ([.regs, .cmd] : List Part) ⊆ P := List.Subset.trans (by decide) hP
  have h1 : ([.ctrs] : List Part) ⊆ P := List.Subset.trans (by decide) hP
  unfold State.countCarryDrops
  repeat' first
    | with_reducible exact h
    | with_reducible refine State.irqIf_parts h0 ?_
    | with_reducible refine State.bump_parts h1 ?_
    | split

theorem State.countGateWaits_parts {P : List Part} {s t : State} {a1}
    (hP : [.ctrs, .ports] ⊆ P) (h : OnlyParts P s t) :
    OnlyParts P s (State.countGateWaits t a1) := by
  have h0 : ([.ctrs] : List Part) ⊆ P := List.Subset.trans (by decide) hP
  have h1 : ([.ports] : List Part) ⊆ P := List.Subset.trans (by decide) hP
  unfold State.countGateWaits
  repeat' first
    | with_reducible exact h
    | with_reducible refine State.bump_parts h0 ?_
    | with_reducible refine State.setPort_parts h1 ?_
    | split
    | dsimp only

theorem State.countSlot_parts {P : List Part} {s t : State} {a1}
    (hP : [.regs, .ctrs, .cmd] ⊆ P) (h : OnlyParts P s t) :
    OnlyParts P s (State.countSlot t a1) := by
  have h0 : ([.regs, .cmd] : List Part) ⊆ P := List.Subset.trans (by decide) hP
  have h1 : ([.ctrs] : List Part) ⊆ P := List.Subset.trans (by decide) hP
  unfold State.countSlot
  repeat' first
    | with_reducible exact h
    | with_reducible refine State.irqIf_parts h0 ?_
    | with_reducible refine State.bump_parts h1 ?_
    | split
    | dsimp only

theorem State.countSplit_parts {P : List Part} {s t : State} {a1}
    (hP : [.regs, .ctrs, .cmd] ⊆ P) (h : OnlyParts P s t) :
    OnlyParts P s (State.countSplit t a1) := by
  have h0 : ([.regs, .cmd] : List Part) ⊆ P := List.Subset.trans (by decide) hP
  have h1 : ([.ctrs] : List Part) ⊆ P := List.Subset.trans (by decide) hP
  unfold State.countSplit
  repeat' first
    | with_reducible exact h
    | with_reducible refine State.irqIf_parts h0 ?_
    | with_reducible refine State.bump_parts h1 ?_
    | split

theorem State.creditRelease_parts {P : List Part} {s t : State} {a1 a2 a3}
    (hP : [.brt, .chips] ⊆ P) (h : OnlyParts P s t) :
    OnlyParts P s (State.creditRelease t a1 a2 a3) := by
  have h0 : ([.chips] : List Part) ⊆ P := List.Subset.trans (by decide) hP
  have hr : ([.brt] : List Part) ⊆ P := List.Subset.trans (by decide) hP
  unfold State.creditRelease
  repeat' first
    | with_reducible exact h
    | with_reducible refine State.setChip_parts h0 ?_
    | with_reducible refine State.recv_parts hr (by assumption) ?_
    | split

theorem State.grantEffect_parts {P : List Part} {s t : State} {a1 a2}
    (hP : [.brt, .pkts, .chips] ⊆ P) (h : OnlyParts P s t) :
    OnlyParts P s (State.grantEffect t a1 a2) := by
  have h0 : ([.brt] : List Part) ⊆ P := List.Subset.trans (by decide) hP
  have h1 : ([.chips] : List Part) ⊆ P := List.Subset.trans (by decide) hP
  have h2 : ([.brt, .pkts, .chips] : List Part) ⊆ P := List.Subset.trans (by decide) hP
  unfold State.grantEffect
  repeat' first
    | with_reducible exact h
    | with_reducible refine State.setCredits_parts h0 ?_
    | with_reducible refine State.setChip_parts h1 ?_
    | with_reducible refine State.applyCredits_parts h2 ?_
    | split
    | dsimp only

theorem State.grantStep_parts {P : List Part} {s t : State} {a1} (hP : [.chips] ⊆ P) (h : OnlyParts P s t) :
    OnlyParts P s (State.grantStep t a1) := by
  have h0 : ([.chips] : List Part) ⊆ P := List.Subset.trans (by decide) hP
  unfold State.grantStep
  repeat' first
    | with_reducible exact h
    | with_reducible refine State.setChip_parts h0 ?_

theorem State.idleStep_parts {P : List Part} {s t : State} {a1} (hP : [.chips] ⊆ P) (h : OnlyParts P s t) :
    OnlyParts P s (State.idleStep t a1) := by
  have h0 : ([.chips] : List Part) ⊆ P := List.Subset.trans (by decide) hP
  unfold State.idleStep
  repeat' first
    | with_reducible exact h
    | with_reducible refine State.setChip_parts h0 ?_

theorem State.drainCredits_parts {P : List Part} {s t : State} {a1}
    (hP : [.brt, .pkts, .chips] ⊆ P) (h : OnlyParts P s t) :
    OnlyParts P s (State.drainCredits t a1) := by
  have h0 : ([.pkts] : List Part) ⊆ P := List.Subset.trans (by decide) hP
  have h1 : ([.brt, .chips] : List Part) ⊆ P := List.Subset.trans (by decide) hP
  have h2 : ([.brt] : List Part) ⊆ P := List.Subset.trans (by decide) hP
  unfold State.drainCredits
  repeat' first
    | with_reducible exact h
    | with_reducible refine State.setPkt_parts h0 ?_
    | with_reducible refine State.withdraw_parts h1 ?_
    | with_reducible refine State.sendRelease_parts h2 ?_
    | with_reducible assumption
    | with_reducible refine OnlyParts.foldl (fun _ _ _ => ?_) ?_
    | with_reducible refine OnlyParts.foldl_fst (fun _ _ _ => ?_) ?_
    | split

theorem State.creditStep_parts {P : List Part} {s t : State} (hP : [.brt, .pkts, .chips] ⊆ P) (h : OnlyParts P s t) :
    OnlyParts P s (State.creditStep t) := by
  have h0 : ([.brt, .pkts, .chips] : List Part) ⊆ P := List.Subset.trans (by decide) hP
  have h1 : ([.chips] : List Part) ⊆ P := List.Subset.trans (by decide) hP
  unfold State.creditStep
  repeat' first
    | with_reducible exact h
    | with_reducible refine State.grantEffect_parts h0 ?_
    | with_reducible refine State.grantStep_parts h1 ?_
    | with_reducible refine State.idleStep_parts h1 ?_
    | with_reducible refine State.drainCredits_parts h0 ?_
    | with_reducible assumption
    | with_reducible refine OnlyParts.foldl (fun _ _ _ => ?_) ?_
    | with_reducible refine OnlyParts.foldl_fst (fun _ _ _ => ?_) ?_
    | split

theorem State.creditWithdraw_parts {P : List Part} {s t : State} {a1 a2 a3}
    (hP : [.brt, .chips] ⊆ P) (h : OnlyParts P s t) :
    OnlyParts P s (State.creditWithdraw t a1 a2 a3) := by
  have h0 : ([.brt, .chips] : List Part) ⊆ P := List.Subset.trans (by decide) hP
  unfold State.creditWithdraw
  repeat' first
    | with_reducible exact h
    | with_reducible refine State.withdraw_parts h0 ?_
    | split

theorem State.isolate_parts {P : List Part} {s t : State} {a1} (hP : [.ctrs, .flt, .mtx] ⊆ P) (h : OnlyParts P s t) :
    OnlyParts P s (State.isolate t a1) := by
  have m_mtx : Part.mtx ∈ P := hP (by decide)
  have h0 : ([.ctrs, .flt] : List Part) ⊆ P := List.Subset.trans (by decide) hP
  unfold State.isolate
  repeat' first
    | with_reducible exact h
    | with_reducible refine State.raise_parts h0 ?_
    | split
    | dsimp only
    | with_reducible refine OnlyParts.set_mtx m_mtx ?_

theorem State.relight_parts {P : List Part} {s t : State} {a1} (hP : [.mtx] ⊆ P) (h : OnlyParts P s t) :
    OnlyParts P s (State.relight t a1) := by
  have m_mtx : Part.mtx ∈ P := hP (by decide)
  unfold State.relight
  repeat' first
    | with_reducible exact h
    | split
    | dsimp only
    | with_reducible refine OnlyParts.set_mtx m_mtx ?_

theorem State.lightAt_parts {P : List Part} {s t : State} {a1 a2}
    (hP : [.ctrs, .flt, .mtx] ⊆ P) (h : OnlyParts P s t) :
    OnlyParts P s (State.lightAt t a1 a2) := by
  have h0 : ([.mtx] : List Part) ⊆ P := List.Subset.trans (by decide) hP
  have h1 : ([.ctrs, .flt, .mtx] : List Part) ⊆ P := List.Subset.trans (by decide) hP
  unfold State.lightAt
  repeat' first
    | with_reducible exact h
    | with_reducible refine State.setBank_parts h0 ?_
    | with_reducible refine State.isolate_parts h1 ?_
    | with_reducible refine State.relight_parts h0 ?_
    | split
    | dsimp only

theorem State.updateDark_parts {P : List Part} {s t : State} {a1}
    (hP : [.ctrs, .flt, .mtx] ⊆ P) (h : OnlyParts P s t) :
    OnlyParts P s (State.updateDark t a1) := by
  have h0 : ([.ctrs, .flt, .mtx] : List Part) ⊆ P := List.Subset.trans (by decide) hP
  unfold State.updateDark
  repeat' first
    | with_reducible exact h
    | with_reducible refine State.lightAt_parts h0 ?_
    | with_reducible assumption
    | with_reducible refine OnlyParts.foldl (fun _ _ _ => ?_) ?_

theorem State.emitterFail_parts {P : List Part} {s t : State} {a1 a2}
    (hP : [.regs, .ctrs, .flt, .mtx] ⊆ P) (h : OnlyParts P s t) :
    OnlyParts P s (State.emitterFail t a1 a2) := by
  have h0 : ([.regs] : List Part) ⊆ P := List.Subset.trans (by decide) hP
  have h1 : ([.mtx] : List Part) ⊆ P := List.Subset.trans (by decide) hP
  have h2 : ([.ctrs, .flt] : List Part) ⊆ P := List.Subset.trans (by decide) hP
  have h3 : ([.ctrs, .flt, .mtx] : List Part) ⊆ P := List.Subset.trans (by decide) hP
  unfold State.emitterFail
  repeat' first
    | with_reducible exact h
    | with_reducible refine State.wrBit_parts h0 ?_
    | with_reducible refine State.setBank_parts h1 ?_
    | with_reducible refine State.setEmitter_parts h1 ?_
    | with_reducible refine State.raise_parts h2 ?_
    | with_reducible refine State.updateDark_parts h3 ?_
    | split
    | dsimp only

theorem State.emitterFailed_parts {P : List Part} {s t : State} {a1 a2}
    (hP : [.regs, .ctrs, .flt, .mtx] ⊆ P) (h : OnlyParts P s t) :
    OnlyParts P s (State.emitterFailed t a1 a2) := by
  have h0 : ([.regs, .ctrs, .flt, .mtx] : List Part) ⊆ P := List.Subset.trans (by decide) hP
  unfold State.emitterFailed
  repeat' first
    | with_reducible exact h
    | with_reducible refine State.emitterFail_parts h0 ?_
    | split

theorem State.emitterRuns_parts {P : List Part} {s t : State} (hP : [.mtx] ⊆ P) (h : OnlyParts P s t) :
    OnlyParts P s (State.emitterRuns t) := by
  have m_mtx : Part.mtx ∈ P := hP (by decide)
  unfold State.emitterRuns
  repeat' first
    | with_reducible exact h
    | split
    | dsimp only
    | with_reducible refine OnlyParts.set_mtx m_mtx ?_

theorem State.endSafeHold_parts {P : List Part} {s t : State} {a1} (hP : [.slt, .brt] ⊆ P) (h : OnlyParts P s t) :
    OnlyParts P s (State.endSafeHold t a1) := by
  have h0 : ([.slt] : List Part) ⊆ P := List.Subset.trans (by decide) hP
  have h1 : ([.slt, .brt] : List Part) ⊆ P := List.Subset.trans (by decide) hP
  unfold State.endSafeHold
  repeat' first
    | with_reducible exact h
    | with_reducible refine State.beginWork_parts h0 ?_
    | with_reducible refine State.setHold_parts h1 ?_
    | split

theorem State.endSlot_parts {P : List Part} {s t : State} (hP : [.slt] ⊆ P) (h : OnlyParts P s t) :
    OnlyParts P s (State.endSlot t) := by
  have m_slt : Part.slt ∈ P := hP (by decide)
  unfold State.endSlot
  repeat' first
    | with_reducible exact h
    | split
    | dsimp only
    | with_reducible refine OnlyParts.set_slt m_slt ?_

theorem State.markReady_parts {P : List Part} {s t : State} {a1} (hP : [.ports] ⊆ P) (h : OnlyParts P s t) :
    OnlyParts P s (State.markReady t a1) := by
  have h0 : ([.ports] : List Part) ⊆ P := List.Subset.trans (by decide) hP
  unfold State.markReady
  repeat' first
    | with_reducible exact h
    | with_reducible refine State.setPort_parts h0 ?_
    | split

theorem State.startAll_parts {P : List Part} {s t : State} (hP : [.regs, .ports] ⊆ P) (h : OnlyParts P s t) :
    OnlyParts P s (State.startAll t) := by
  have h0 : ([.regs, .ports] : List Part) ⊆ P := List.Subset.trans (by decide) hP
  unfold State.startAll
  repeat' first
    | with_reducible exact h
    | with_reducible refine State.startTraining_parts h0 ?_
    | with_reducible assumption
    | with_reducible refine OnlyParts.foldl (fun _ _ _ => ?_) ?_
    | with_reducible refine OnlyParts.foldl_fst (fun _ _ _ => ?_) ?_
    | split

theorem State.leaveLocking_parts {P : List Part} {s t : State}
    (hP : [.freeCtr, .regs, .cmd, .glb] ⊆ P) (h : OnlyParts P s t) :
    OnlyParts P s (State.leaveLocking t) := by
  have m_glb : Part.glb ∈ P := hP (by decide)
  have h0 : ([.freeCtr] : List Part) ⊆ P := List.Subset.trans (by decide) hP
  have h1 : ([.freeCtr, .glb] : List Part) ⊆ P := List.Subset.trans (by decide) hP
  have h2 : ([.regs, .cmd, .glb] : List Part) ⊆ P := List.Subset.trans (by decide) hP
  unfold State.leaveLocking
  repeat' first
    | with_reducible exact h
    | with_reducible refine State.free_parts h0 ?_
    | with_reducible refine State.free_parts_eq h0 (by assumption) ?_
    | with_reducible refine State.stepEnd_parts h1 ?_
    | with_reducible refine State.setGState_parts h2 ?_
    | split
    | dsimp only
    | with_reducible refine OnlyParts.set_glb m_glb ?_

theorem State.entriesStep_parts {P : List Part} {s t : State} {a1}
    (hP : [.freeCtr, .regs, .cmd, .glb, .ports] ⊆ P) (h : OnlyParts P s t) :
    OnlyParts P s (State.entriesStep t a1) := by
  have h0 : ([.regs, .ports] : List Part) ⊆ P := List.Subset.trans (by decide) hP
  have h1 : ([.ports] : List Part) ⊆ P := List.Subset.trans (by decide) hP
  have h2 : ([.freeCtr, .regs, .cmd, .glb] : List Part) ⊆ P := List.Subset.trans (by decide) hP
  unfold State.entriesStep
  repeat' first
    | with_reducible exact h
    | with_reducible refine State.startTraining_parts h0 ?_
    | with_reducible refine State.markReady_parts h1 ?_
    | with_reducible refine State.startAll_parts h0 ?_
    | with_reducible refine State.leaveLocking_parts h2 ?_
    | with_reducible assumption
    | with_reducible refine OnlyParts.foldl (fun _ _ _ => ?_) ?_
    | with_reducible refine OnlyParts.foldl_fst (fun _ _ _ => ?_) ?_
    | split

theorem State.epochsAll_parts {P : List Part} {s t : State}
    (hP : [.regs, .ctrs, .cmd, .slt, .brt, .pkts, .ports, .chips] ⊆ P) (h : OnlyParts P s t) :
    OnlyParts P s (State.epochsAll t) := by
  have m_brt : Part.brt ∈ P := hP (by decide)
  have h0 : ([.regs, .ctrs, .cmd, .slt, .brt, .pkts, .ports,
    .chips] : List Part) ⊆ P := List.Subset.trans (by decide) hP
  unfold State.epochsAll
  repeat' first
    | with_reducible exact h
    | with_reducible refine State.renumber_parts h0 ?_
    | with_reducible assumption
    | with_reducible refine OnlyParts.foldl (fun _ _ _ => ?_) ?_
    | with_reducible refine OnlyParts.foldl_fst (fun _ _ _ => ?_) ?_
    | dsimp only
    | with_reducible refine OnlyParts.set_brt m_brt ?_

theorem State.stagePair_parts {P : List Part} {s t : State} {a1 a2 a3}
    (hP : [.brt, .pkts, .chips] ⊆ P) (h : OnlyParts P s t) :
    OnlyParts P s (State.stagePair t a1 a2 a3).1 := by
  induction a3 generalizing t with
  | zero => exact h
  | succ n ih =>
    simp only [State.stagePair]
    split
    · exact ih (State.discardIngress_parts hP h)
    · exact h

theorem State.stagePair_parts_eq {P : List Part} {s t v : State} {a1 a2 a3} {x1 x2}
    (hP : [.brt, .pkts, .chips] ⊆ P) (e : State.stagePair t a1 a2 a3 = (v, x1, x2)) (h : OnlyParts P s t) :
    OnlyParts P s v := by
  have := State.stagePair_parts (P := P) (s := s) (a1 := a1) (a2 := a2) (a3 := a3) hP h
  rw [e] at this
  exact this

theorem State.stage_parts {P : List Part} {s t : State} {a1 a2}
    (hP : [.brt, .pkts, .chips] ⊆ P) (h : OnlyParts P s t) :
    OnlyParts P s (State.stage t a1 a2).1 := by
  have h0 : ([.brt, .pkts, .chips] : List Part) ⊆ P := List.Subset.trans (by decide) hP
  unfold State.stage
  repeat' first
    | with_reducible exact h
    | with_reducible refine State.stagePair_parts h0 ?_

theorem State.stage_parts_eq {P : List Part} {s t v : State} {a1 a2} {x1 x2}
    (hP : [.brt, .pkts, .chips] ⊆ P) (e : State.stage t a1 a2 = (v, x1, x2)) (h : OnlyParts P s t) :
    OnlyParts P s v := by
  have := State.stage_parts (P := P) (s := s) (a1 := a1) (a2 := a2) hP h
  rw [e] at this
  exact this

theorem State.retirePage_parts {P : List Part} {s t : State} {a1 a2}
    (hP : [.regs, .ctrs, .cmd, .flt, .chips] ⊆ P) (h : OnlyParts P s t) :
    OnlyParts P s (State.retirePage t a1 a2) := by
  have h0 : ([.ctrs] : List Part) ⊆ P := List.Subset.trans (by decide) hP
  have h1 : ([.ctrs, .flt] : List Part) ⊆ P := List.Subset.trans (by decide) hP
  have h2 : ([.regs, .ctrs, .cmd, .flt, .chips] : List Part) ⊆ P := List.Subset.trans (by decide) hP
  have h3 : ([.chips] : List Part) ⊆ P := List.Subset.trans (by decide) hP
  unfold State.retirePage
  repeat' first
    | with_reducible exact h
    | with_reducible refine State.bump_parts h0 ?_
    | with_reducible refine State.raise_parts h1 ?_
    | with_reducible refine State.autoReplace_parts h2 ?_
    | with_reducible refine State.setChip_parts h3 ?_
    | split
    | dsimp only

theorem State.uncorrectable_parts {P : List Part} {s t : State} {a1 a2}
    (hP : [.regs, .ctrs, .cmd, .flt, .brt, .chips] ⊆ P) (h : OnlyParts P s t) :
    OnlyParts P s (State.uncorrectable t a1 a2) := by
  have h0 : ([.regs, .ctrs, .cmd, .flt, .chips] : List Part) ⊆ P := List.Subset.trans (by decide) hP
  have h1 : ([.regs, .cmd] : List Part) ⊆ P := List.Subset.trans (by decide) hP
  have h2 : ([.ctrs] : List Part) ⊆ P := List.Subset.trans (by decide) hP
  have h3 : ([.ctrs, .flt] : List Part) ⊆ P := List.Subset.trans (by decide) hP
  have h4 : ([.brt] : List Part) ⊆ P := List.Subset.trans (by decide) hP
  have h5 : ([.chips] : List Part) ⊆ P := List.Subset.trans (by decide) hP
  unfold State.uncorrectable
  repeat' first
    | with_reducible exact h
    | with_reducible refine State.retirePage_parts h0 ?_
    | with_reducible refine State.irqIf_parts h1 ?_
    | with_reducible refine State.bump_parts h2 ?_
    | with_reducible refine State.raise_parts h3 ?_
    | with_reducible refine State.askGap_parts h4 ?_
    | with_reducible refine State.setChip_parts h5 ?_
    | with_reducible assumption
    | with_reducible refine OnlyParts.foldl (fun _ _ _ => ?_) ?_
    | with_reducible refine OnlyParts.foldl_fst (fun _ _ _ => ?_) ?_
    | split
    | dsimp only

theorem State.segRead_parts {P : List Part} {s t : State} {a1 a2}
    (hP : [.regs, .ctrs, .cmd, .flt, .brt, .chips] ⊆ P) (h : OnlyParts P s t) :
    OnlyParts P s (State.segRead t a1 a2) := by
  have h0 : ([.regs, .ctrs, .cmd, .flt, .chips] : List Part) ⊆ P := List.Subset.trans (by decide) hP
  have h1 : ([.regs, .ctrs, .cmd, .flt, .brt, .chips] : List Part) ⊆ P := List.Subset.trans (by decide) hP
  unfold State.segRead
  repeat' first
    | with_reducible exact h
    | with_reducible refine State.correctedRead_parts h0 ?_
    | with_reducible refine State.uncorrectable_parts h1 ?_
    | split

theorem State.finalListDelivery_parts {P : List Part} {s t : State} {a1}
    (hP : [.regs, .ctrs, .cmd, .flt, .slt, .brt, .pkts, .chips] ⊆ P) (h : OnlyParts P s t) :
    OnlyParts P s (State.finalListDelivery t a1) := by
  have h0 : ([.brt, .pkts, .chips] : List Part) ⊆ P := List.Subset.trans (by decide) hP
  have h1 : ([.slt] : List Part) ⊆ P := List.Subset.trans (by decide) hP
  have h2 : ([.regs, .ctrs, .cmd, .flt, .brt, .chips] : List Part) ⊆ P := List.Subset.trans (by decide) hP
  unfold State.finalListDelivery
  repeat' first
    | with_reducible exact h
    | with_reducible refine State.stage_parts h0 ?_
    | with_reducible refine State.stage_parts_eq h0 (by assumption) ?_
    | with_reducible refine State.putWork_parts h1 ?_
    | with_reducible refine State.segRead_parts h2 ?_
    | with_reducible assumption
    | with_reducible refine OnlyParts.foldl (fun _ _ _ => ?_) ?_
    | with_reducible refine OnlyParts.foldl_fst (fun _ _ _ => ?_) ?_
    | split
    | dsimp only

theorem State.frame_parts {P : List Part} {s t : State} {a1} (hP : [.brt] ⊆ P) (h : OnlyParts P s t) :
    OnlyParts P s (State.frame t a1) := by
  have m_brt : Part.brt ∈ P := hP (by decide)
  have h0 : ([.brt] : List Part) ⊆ P := List.Subset.trans (by decide) hP
  unfold State.frame
  repeat' first
    | with_reducible exact h
    | with_reducible refine State.send_parts h0 ?_
    | dsimp only
    | with_reducible refine OnlyParts.set_brt m_brt ?_

theorem State.freezeBounds_parts {P : List Part} {s t : State} {a1} (hP : [.slt] ⊆ P) (h : OnlyParts P s t) :
    OnlyParts P s (State.freezeBounds t a1) := by
  have m_slt : Part.slt ∈ P := hP (by decide)
  unfold State.freezeBounds
  repeat' first
    | with_reducible exact h
    | split
    | dsimp only
    | with_reducible refine OnlyParts.set_slt m_slt ?_

theorem State.handOver_parts {P : List Part} {s t : State} {a1} (hP : [.ctrs, .slt] ⊆ P) (h : OnlyParts P s t) :
    OnlyParts P s (State.handOver t a1) := by
  have m_slt : Part.slt ∈ P := hP (by decide)
  have h0 : ([.ctrs] : List Part) ⊆ P := List.Subset.trans (by decide) hP
  have h1 : ([.slt] : List Part) ⊆ P := List.Subset.trans (by decide) hP
  unfold State.handOver
  repeat' first
    | with_reducible exact h
    | with_reducible refine State.bump_parts h0 ?_
    | with_reducible refine State.putWork_parts h1 ?_
    | split
    | dsimp only
    | with_reducible refine OnlyParts.set_slt m_slt ?_

theorem State.routeWork_parts {P : List Part} {s t : State} {a1}
    (hP : [.regs, .ctrs, .cmd, .slt] ⊆ P) (h : OnlyParts P s t) :
    OnlyParts P s (State.routeWork t a1) := by
  have m_slt : Part.slt ∈ P := hP (by decide)
  have h0 : ([.ctrs] : List Part) ⊆ P := List.Subset.trans (by decide) hP
  have h1 : ([.slt] : List Part) ⊆ P := List.Subset.trans (by decide) hP
  have h2 : ([.regs, .ctrs, .cmd] : List Part) ⊆ P := List.Subset.trans (by decide) hP
  unfold State.routeWork
  repeat' first
    | with_reducible exact h
    | with_reducible refine State.bump_parts h0 ?_
    | with_reducible refine State.putWork_parts h1 ?_
    | with_reducible refine State.countSplit_parts h2 ?_
    | with_reducible refine State.countCarryDrops_parts h2 ?_
    | with_reducible assumption
    | with_reducible refine OnlyParts.foldl (fun _ _ _ => ?_) ?_
    | with_reducible refine OnlyParts.foldl_fst (fun _ _ _ => ?_) ?_
    | split
    | dsimp only
    | with_reducible refine OnlyParts.set_slt m_slt ?_

theorem State.setSelector_parts {P : List Part} {s t : State} {a1 a2} (hP : [.drv] ⊆ P) (h : OnlyParts P s t) :
    OnlyParts P s (State.setSelector t a1 a2) := by
  have h0 : ([.drv] : List Part) ⊆ P := List.Subset.trans (by decide) hP
  unfold State.setSelector
  repeat' first
    | with_reducible exact h
    | with_reducible refine State.setSel_parts h0 ?_

theorem State.gap_parts {P : List Part} {s t : State} {a1 a2}
    (hP : [.slt, .brt, .pkts, .chips] ⊆ P) (h : OnlyParts P s t) :
    OnlyParts P s (State.gap t a1 a2) := by
  have h0 : ([.slt, .brt, .pkts, .chips] : List Part) ⊆ P := List.Subset.trans (by decide) hP
  have hr : ([.brt] : List Part) ⊆ P := List.Subset.trans (by decide) hP
  unfold State.gap
  repeat' first
    | with_reducible exact h
    | with_reducible refine State.gapTaken_parts h0 ?_
    | with_reducible refine State.recv_parts hr (by assumption) ?_
    | split

theorem State.gapRequest_parts {P : List Part} {s t : State} {a1 a2}
    (hP : [.regs, .ctrs, .cmd, .brt, .pkts, .chips] ⊆ P) (h : OnlyParts P s t) :
    OnlyParts P s (State.gapRequest t a1 a2) := by
  have h0 : ([.brt] : List Part) ⊆ P := List.Subset.trans (by decide) hP
  have h1 : ([.regs, .ctrs, .cmd, .brt, .pkts, .chips] : List Part) ⊆ P := List.Subset.trans (by decide) hP
  have hr : ([.brt] : List Part) ⊆ P := List.Subset.trans (by decide) hP
  unfold State.gapRequest
  repeat' first
    | with_reducible exact h
    | with_reducible refine State.setEgrPair_parts h0 ?_
    | with_reducible refine State.recv_parts hr (by assumption) ?_
    | with_reducible refine State.gapDueNow_parts h1 ?_
    | with_reducible refine State.send_parts h0 ?_
    | split
    | dsimp only

theorem State.gapTimeout_parts {P : List Part} {s t : State} {a1 a2}
    (hP : [.regs, .ctrs, .cmd, .brt, .pkts, .ports, .chips] ⊆ P) (h : OnlyParts P s t) :
    OnlyParts P s (State.gapTimeout t a1 a2) := by
  have h0 : ([.regs, .ctrs, .cmd, .brt, .pkts, .ports, .chips] : List Part) ⊆ P := List.Subset.trans (by decide) hP
  unfold State.gapTimeout
  repeat' first
    | with_reducible exact h
    | with_reducible refine State.gapAtBoundary_parts h0 ?_
    | split
    | dsimp only

theorem State.gateAdvance_parts {P : List Part} {s t : State} {a1} (hP : [.ports] ⊆ P) (h : OnlyParts P s t) :
    OnlyParts P s (State.gateAdvance t a1) := by
  have h0 : ([.ports] : List Part) ⊆ P := List.Subset.trans (by decide) hP
  unfold State.gateAdvance
  repeat' first
    | with_reducible exact h
    | with_reducible refine State.setPort_parts h0 ?_
    | split
    | dsimp only

theorem State.gateTakeover_parts {P : List Part} {s t : State} {a1}
    (hP : [.regs, .ctrs, .cmd, .brt, .pkts, .ports, .chips] ⊆ P) (h : OnlyParts P s t) :
    OnlyParts P s (State.gateTakeover t a1) := by
  have h0 : ([.regs, .cmd] : List Part) ⊆ P := List.Subset.trans (by decide) hP
  have h1 : ([.ports] : List Part) ⊆ P := List.Subset.trans (by decide) hP
  have h2 : ([.regs] : List Part) ⊆ P := List.Subset.trans (by decide) hP
  have h3 : ([.regs, .ctrs, .cmd, .brt, .pkts, .ports, .chips] : List Part) ⊆ P := List.Subset.trans (by decide) hP
  unfold State.gateTakeover
  repeat' first
    | with_reducible exact h
    | with_reducible refine State.irqIf_parts h0 ?_
    | with_reducible refine State.setPort_parts h1 ?_
    | with_reducible refine State.wrBit_parts h2 ?_
    | with_reducible refine State.checkHeads_parts h3 ?_
    | split
    | dsimp only

theorem State.markSent_parts {P : List Part} {s t : State} {a1} (hP : [.pkts] ⊆ P) (h : OnlyParts P s t) :
    OnlyParts P s (State.markSent t a1) := by
  have h0 : ([.pkts] : List Part) ⊆ P := List.Subset.trans (by decide) hP
  unfold State.markSent
  repeat' first
    | with_reducible exact h
    | with_reducible refine State.modPkt_parts h0 ?_
    | with_reducible assumption
    | with_reducible refine OnlyParts.foldl (fun _ _ _ => ?_) ?_

theorem State.newBurst_parts {P : List Part} {s t : State} {a1 a2 a3 a4}
    (hP : [.brt, .pkts] ⊆ P) (h : OnlyParts P s t) :
    OnlyParts P s (State.newBurst t a1 a2 a3 a4) := by
  have h0 : ([.brt] : List Part) ⊆ P := List.Subset.trans (by decide) hP
  have h1 : ([.pkts] : List Part) ⊆ P := List.Subset.trans (by decide) hP
  unfold State.newBurst
  repeat' first
    | with_reducible exact h
    | with_reducible refine State.setIngPair_parts h0 ?_
    | with_reducible refine State.frame_parts h0 ?_
    | with_reducible refine State.markSent_parts h1 ?_

theorem State.resend_parts {P : List Part} {s t : State} {a1} (hP : [.ctrs, .brt] ⊆ P) (h : OnlyParts P s t) :
    OnlyParts P s (State.resend t a1) := by
  have h0 : ([.brt] : List Part) ⊆ P := List.Subset.trans (by decide) hP
  have h1 : ([.ctrs] : List Part) ⊆ P := List.Subset.trans (by decide) hP
  unfold State.resend
  repeat' first
    | with_reducible exact h
    | with_reducible refine State.setIngPair_parts h0 ?_
    | with_reducible refine State.bump_parts h1 ?_
    | with_reducible refine State.frame_parts h0 ?_
    | with_reducible refine State.askGap_parts h0 ?_
    | split
    | dsimp only

theorem State.preamble_parts {P : List Part} {s t : State} {a1} (hP : [.brt] ⊆ P) (h : OnlyParts P s t) :
    OnlyParts P s (State.preamble t a1) := by
  have m_brt : Part.brt ∈ P := hP (by decide)
  unfold State.preamble
  repeat' first
    | with_reducible exact h
    | dsimp only
    | with_reducible refine OnlyParts.set_brt m_brt ?_

theorem State.launchPair_parts {P : List Part} {s t : State} {a1 a2}
    (hP : [.ctrs, .brt, .pkts, .chips] ⊆ P) (h : OnlyParts P s t) :
    OnlyParts P s (State.launchPair t a1 a2) := by
  have h0 : ([.brt, .pkts] : List Part) ⊆ P := List.Subset.trans (by decide) hP
  have h1 : ([.brt, .pkts, .chips] : List Part) ⊆ P := List.Subset.trans (by decide) hP
  have h2 : ([.ctrs, .brt] : List Part) ⊆ P := List.Subset.trans (by decide) hP
  have h3 : ([.brt] : List Part) ⊆ P := List.Subset.trans (by decide) hP
  unfold State.launchPair
  repeat' first
    | with_reducible exact h
    | with_reducible refine State.newBurst_parts h0 ?_
    | with_reducible refine State.stage_parts h1 ?_
    | with_reducible refine State.stage_parts_eq h1 (by assumption) ?_
    | with_reducible refine State.resend_parts h2 ?_
    | with_reducible refine State.preamble_parts h3 ?_
    | split
    | dsimp only

theorem State.launch_parts {P : List Part} {s t : State} {a1}
    (hP : [.ctrs, .brt, .pkts, .chips] ⊆ P) (h : OnlyParts P s t) :
    OnlyParts P s (State.launch t a1) := by
  have m_brt : Part.brt ∈ P := hP (by decide)
  have h0 : ([.ctrs, .brt, .pkts, .chips] : List Part) ⊆ P := List.Subset.trans (by decide) hP
  unfold State.launch
  repeat' first
    | with_reducible exact h
    | with_reducible refine State.launchPair_parts h0 ?_
    | with_reducible assumption
    | with_reducible refine OnlyParts.foldl (fun _ _ _ => ?_) ?_
    | with_reducible refine OnlyParts.foldl_fst (fun _ _ _ => ?_) ?_
    | split
    | dsimp only
    | with_reducible refine OnlyParts.set_brt m_brt ?_

theorem State.spareTakeover_parts {P : List Part} {s t : State} {a1}
    (hP : [.freeCtr, .regs, .ctrs, .flt, .loopS, .drv, .mtx] ⊆ P) (h : OnlyParts P s t) :
    OnlyParts P s (State.spareTakeover t a1) := by
  have h0 : ([.drv] : List Part) ⊆ P := List.Subset.trans (by decide) hP
  have h1 : ([.regs] : List Part) ⊆ P := List.Subset.trans (by decide) hP
  have h2 : ([.freeCtr, .loopS] : List Part) ⊆ P := List.Subset.trans (by decide) hP
  have h3 : ([.mtx] : List Part) ⊆ P := List.Subset.trans (by decide) hP
  have h4 : ([.ctrs, .flt, .mtx] : List Part) ⊆ P := List.Subset.trans (by decide) hP
  unfold State.spareTakeover
  repeat' first
    | with_reducible exact h
    | with_reducible refine State.setSelector_parts h0 ?_
    | with_reducible refine State.wrBit_parts h1 ?_
    | with_reducible refine State.moveTargets_parts h2 ?_
    | with_reducible refine State.setBank_parts h3 ?_
    | with_reducible refine State.setEmitter_parts h3 ?_
    | with_reducible refine State.updateDark_parts h4 ?_
    | with_reducible assumption
    | with_reducible refine OnlyParts.foldl (fun _ _ _ => ?_) ?_
    | with_reducible refine OnlyParts.foldl_fst (fun _ _ _ => ?_) ?_
    | split
    | dsimp only

theorem State.spareRelease_parts {P : List Part} {s t : State} {a1}
    (hP : [.ctrs, .flt, .drv, .mtx] ⊆ P) (h : OnlyParts P s t) :
    OnlyParts P s (State.spareRelease t a1) := by
  have h0 : ([.drv] : List Part) ⊆ P := List.Subset.trans (by decide) hP
  have h1 : ([.mtx] : List Part) ⊆ P := List.Subset.trans (by decide) hP
  have h2 : ([.ctrs, .flt, .mtx] : List Part) ⊆ P := List.Subset.trans (by decide) hP
  unfold State.spareRelease
  repeat' first
    | with_reducible exact h
    | with_reducible refine State.setSelector_parts h0 ?_
    | with_reducible refine State.setBank_parts h1 ?_
    | with_reducible refine State.updateDark_parts h2 ?_
    | split
    | dsimp only

theorem State.guardSpares_parts {P : List Part} {s t : State}
    (hP : [.freeCtr, .regs, .ctrs, .flt, .loopS, .drv, .mtx] ⊆ P) (h : OnlyParts P s t) :
    OnlyParts P s (State.guardSpares t) := by
  have h0 : ([.freeCtr, .regs, .ctrs, .flt, .loopS, .drv, .mtx] : List Part) ⊆ P := List.Subset.trans (by decide) hP
  have h1 : ([.ctrs, .flt, .drv, .mtx] : List Part) ⊆ P := List.Subset.trans (by decide) hP
  unfold State.guardSpares
  repeat' first
    | with_reducible exact h
    | with_reducible refine State.spareTakeover_parts h0 ?_
    | with_reducible refine State.spareRelease_parts h1 ?_
    | with_reducible assumption
    | with_reducible refine OnlyParts.foldl (fun _ _ _ => ?_) ?_
    | with_reducible refine OnlyParts.foldl_fst (fun _ _ _ => ?_) ?_
    | split

theorem State.mirrorStep_parts {P : List Part} {s t : State} (hP : [.brt] ⊆ P) (h : OnlyParts P s t) :
    OnlyParts P s (State.mirrorStep t) := by
  have m_brt : Part.brt ∈ P := hP (by decide)
  unfold State.mirrorStep
  repeat' first
    | with_reducible exact h
    | split
    | dsimp only
    | with_reducible refine OnlyParts.set_brt m_brt ?_

theorem State.guardEnd_parts {P : List Part} {s t : State} (hP : [.drv, .brt] ⊆ P) (h : OnlyParts P s t) :
    OnlyParts P s (State.guardEnd t) := by
  have m_drv : Part.drv ∈ P := hP (by decide)
  have m_brt : Part.brt ∈ P := hP (by decide)
  unfold State.guardEnd
  repeat' first
    | with_reducible exact h
    | split
    | dsimp only
    | with_reducible refine OnlyParts.set_drv m_drv ?_
    | with_reducible refine OnlyParts.set_brt m_brt ?_
    | with_reducible refine OnlyParts.set_drv_brt m_drv m_brt ?_

theorem State.keepTenants_parts {P : List Part} {s t : State} (hP : [.slt] ⊆ P) (h : OnlyParts P s t) :
    OnlyParts P s (State.keepTenants t) := by
  have m_slt : Part.slt ∈ P := hP (by decide)
  unfold State.keepTenants
  repeat' first
    | with_reducible exact h
    | dsimp only
    | with_reducible refine OnlyParts.set_slt m_slt ?_

theorem State.lightReturn_parts {P : List Part} {s t : State} {a1} (hP : [.mtx] ⊆ P) (h : OnlyParts P s t) :
    OnlyParts P s (State.lightReturn t a1) := by
  have m_mtx : Part.mtx ∈ P := hP (by decide)
  unfold State.lightReturn
  repeat' first
    | with_reducible exact h
    | split
    | dsimp only
    | with_reducible refine OnlyParts.set_mtx m_mtx ?_

theorem State.matrixRoute_parts {P : List Part} {s t : State}
    (hP : [.regs, .ctrs, .cmd, .slt] ⊆ P) (h : OnlyParts P s t) :
    OnlyParts P s (State.matrixRoute t) := by
  have h0 : ([.regs, .ctrs, .cmd, .slt] : List Part) ⊆ P := List.Subset.trans (by decide) hP
  unfold State.matrixRoute
  repeat' first
    | with_reducible exact h
    | with_reducible refine State.routeWork_parts h0 ?_
    | split

theorem State.nack_parts {P : List Part} {s t : State} {a1 a2} (hP : [.slt, .brt] ⊆ P) (h : OnlyParts P s t) :
    OnlyParts P s (State.nack t a1 a2) := by
  have h0 : ([.slt, .brt] : List Part) ⊆ P := List.Subset.trans (by decide) hP
  have hr : ([.brt] : List Part) ⊆ P := List.Subset.trans (by decide) hP
  unfold State.nack
  repeat' first
    | with_reducible exact h
    | with_reducible refine State.burstFailed_parts h0 ?_
    | with_reducible refine State.recv_parts hr (by assumption) ?_
    | split

theorem State.notice_parts {P : List Part} {s t : State} {a1 a2} (hP : [.brt] ⊆ P) (h : OnlyParts P s t) :
    OnlyParts P s (State.notice t a1 a2) := by
  have h0 : ([.brt] : List Part) ⊆ P := List.Subset.trans (by decide) hP
  have hr : ([.brt] : List Part) ⊆ P := List.Subset.trans (by decide) hP
  unfold State.notice
  repeat' first
    | with_reducible exact h
    | with_reducible refine State.setEgrPair_parts h0 ?_
    | with_reducible refine State.recv_parts hr (by assumption) ?_
    | split

theorem State.parkEffect_parts {P : List Part} {s t : State} {a1}
    (hP : [.freeCtr, .loopA, .loopB, .loopS, .drv, .mtx] ⊆ P) (h : OnlyParts P s t) :
    OnlyParts P s (State.parkEffect t a1) := by
  have h0 : ([.freeCtr, .loopA, .loopB, .loopS, .drv, .mtx] : List Part) ⊆ P := List.Subset.trans (by decide) hP
  unfold State.parkEffect
  repeat' first
    | with_reducible exact h
    | with_reducible refine State.effectPark_parts h0 ?_
    | split

theorem State.pchCopyDone_parts {P : List Part} {s t : State} {a1 a2}
    (hP : [.regs, .ctrs, .cmd, .flt, .brt, .chips] ⊆ P) (h : OnlyParts P s t) :
    OnlyParts P s (State.pchCopyDone t a1 a2) := by
  have h0 : ([.regs, .cmd] : List Part) ⊆ P := List.Subset.trans (by decide) hP
  have h1 : ([.ctrs] : List Part) ⊆ P := List.Subset.trans (by decide) hP
  have h2 : ([.regs] : List Part) ⊆ P := List.Subset.trans (by decide) hP
  have h3 : ([.regs, .ctrs, .cmd, .flt, .chips] : List Part) ⊆ P := List.Subset.trans (by decide) hP
  have h4 : ([.chips] : List Part) ⊆ P := List.Subset.trans (by decide) hP
  have h5 : ([.regs, .ctrs, .cmd, .flt, .brt, .chips] : List Part) ⊆ P := List.Subset.trans (by decide) hP
  unfold State.pchCopyDone
  repeat' first
    | with_reducible exact h
    | with_reducible refine State.irqIf_parts h0 ?_
    | with_reducible refine State.bump_parts h1 ?_
    | with_reducible refine State.wrBit_parts h2 ?_
    | with_reducible refine State.autoReplace_parts h3 ?_
    | with_reducible refine State.setChip_parts h4 ?_
    | with_reducible refine State.uncorrectable_parts h5 ?_
    | with_reducible assumption
    | with_reducible refine OnlyParts.foldl (fun _ _ _ => ?_) ?_
    | with_reducible refine OnlyParts.foldl_fst (fun _ _ _ => ?_) ?_
    | split
    | dsimp only

theorem State.phaseLoad_parts {P : List Part} {s t : State} (hP : [.brt] ⊆ P) (h : OnlyParts P s t) :
    OnlyParts P s (State.phaseLoad t) := by
  have m_brt : Part.brt ∈ P := hP (by decide)
  have h0 : ([.brt] : List Part) ⊆ P := List.Subset.trans (by decide) hP
  unfold State.phaseLoad
  repeat' first
    | with_reducible exact h
    | with_reducible refine State.setRx_parts h0 ?_
    | with_reducible assumption
    | with_reducible refine OnlyParts.foldl (fun _ _ _ => ?_) ?_
    | with_reducible refine OnlyParts.foldl_fst (fun _ _ _ => ?_) ?_
    | split
    | dsimp only
    | with_reducible refine OnlyParts.set_brt m_brt ?_

theorem State.preambleEnd_parts {P : List Part} {s t : State} {a1}
    (hP : [.freeCtr, .regs, .cmd, .glb, .brt, .ports] ⊆ P) (h : OnlyParts P s t) :
    OnlyParts P s (State.preambleEnd t a1) := by
  have h0 : ([.brt] : List Part) ⊆ P := List.Subset.trans (by decide) hP
  have h1 : ([.freeCtr, .regs, .cmd, .glb, .ports] : List Part) ⊆ P := List.Subset.trans (by decide) hP
  unfold State.preambleEnd
  repeat' first
    | with_reducible exact h
    | with_reducible refine State.setRx_parts h0 ?_
    | with_reducible refine State.entriesStep_parts h1 ?_
    | split
    | dsimp only

theorem State.prismStart_parts {P : List Part} {s t : State} (hP : [.regs, .slt] ⊆ P) (h : OnlyParts P s t) :
    OnlyParts P s (State.prismStart t) := by
  have m_slt : Part.slt ∈ P := hP (by decide)
  have h0 : ([.slt] : List Part) ⊆ P := List.Subset.trans (by decide) hP
  have h1 : ([.regs] : List Part) ⊆ P := List.Subset.trans (by decide) hP
  unfold State.prismStart
  repeat' first
    | with_reducible exact h
    | with_reducible refine State.beginWork_parts h0 ?_
    | with_reducible refine State.wrBit_parts h1 ?_
    | split
    | dsimp only
    | with_reducible refine OnlyParts.set_slt m_slt ?_

theorem State.registerReps_parts {P : List Part} {s t : State} (hP : [.slt] ⊆ P) (h : OnlyParts P s t) :
    OnlyParts P s (State.registerReps t) := by
  have m_slt : Part.slt ∈ P := hP (by decide)
  unfold State.registerReps
  repeat' first
    | with_reducible exact h
    | with_reducible assumption
    | with_reducible refine OnlyParts.foldl (fun _ _ _ => ?_) ?_
    | with_reducible refine OnlyParts.foldl_fst (fun _ _ _ => ?_) ?_
    | dsimp only
    | with_reducible refine OnlyParts.set_slt m_slt ?_

theorem State.retransmitRead_parts {P : List Part} {s t : State} {a1 a2 a3}
    (hP : [.regs, .ctrs, .cmd, .flt, .brt, .chips] ⊆ P) (h : OnlyParts P s t) :
    OnlyParts P s (State.retransmitRead t a1 a2 a3) := by
  have h0 : ([.regs, .ctrs, .cmd, .flt, .brt, .chips] : List Part) ⊆ P := List.Subset.trans (by decide) hP
  unfold State.retransmitRead
  repeat' first
    | with_reducible exact h
    | with_reducible refine State.segRead_parts h0 ?_
    | with_reducible assumption
    | with_reducible refine OnlyParts.foldl (fun _ _ _ => ?_) ?_
    | with_reducible refine OnlyParts.foldl_fst (fun _ _ _ => ?_) ?_
    | split

theorem State.rotationReroute_parts {P : List Part} {s t : State} (hP : [.mtx] ⊆ P) (h : OnlyParts P s t) :
    OnlyParts P s (State.rotationReroute t) := by
  have m_mtx : Part.mtx ∈ P := hP (by decide)
  unfold State.rotationReroute
  repeat' first
    | with_reducible exact h
    | split
    | dsimp only
    | with_reducible refine OnlyParts.set_mtx m_mtx ?_

theorem State.scrub_parts {P : List Part} {s t : State} {a1 a2 a3}
    (hP : [.regs, .ctrs, .cmd, .flt, .brt, .chips] ⊆ P) (h : OnlyParts P s t) :
    OnlyParts P s (State.scrub t a1 a2 a3) := by
  have h0 : ([.ctrs] : List Part) ⊆ P := List.Subset.trans (by decide) hP
  have h1 : ([.ctrs, .flt] : List Part) ⊆ P := List.Subset.trans (by decide) hP
  have h2 : ([.chips] : List Part) ⊆ P := List.Subset.trans (by decide) hP
  have h3 : ([.regs, .ctrs, .cmd, .flt, .brt, .chips] : List Part) ⊆ P := List.Subset.trans (by decide) hP
  unfold State.scrub
  repeat' first
    | with_reducible exact h
    | with_reducible refine State.bump_parts h0 ?_
    | with_reducible refine State.tblFault_parts h1 ?_
    | with_reducible refine State.setChip_parts h2 ?_
    | with_reducible refine State.segRead_parts h3 ?_
    | split
    | dsimp only

theorem State.snapshotLatch_parts {P : List Part} {s t : State} (hP : [.regs, .cmd, .brt] ⊆ P) (h : OnlyParts P s t) :
    OnlyParts P s (State.snapshotLatch t) := by
  have m_brt : Part.brt ∈ P := hP (by decide)
  have h0 : ([.regs, .cmd] : List Part) ⊆ P := List.Subset.trans (by decide) hP
  have h1 : ([.regs] : List Part) ⊆ P := List.Subset.trans (by decide) hP
  unfold State.snapshotLatch
  repeat' first
    | with_reducible exact h
    | with_reducible refine State.irqIf_parts h0 ?_
    | with_reducible refine State.wrBit_parts h1 ?_
    | split
    | dsimp only
    | with_reducible refine OnlyParts.set_brt m_brt ?_

theorem State.spareReleaseNow_parts {P : List Part} {s t : State} {a1}
    (hP : [.ctrs, .flt, .drv, .mtx] ⊆ P) (h : OnlyParts P s t) :
    OnlyParts P s (State.spareReleaseNow t a1) := by
  have h0 : ([.ctrs, .flt, .drv, .mtx] : List Part) ⊆ P := List.Subset.trans (by decide) hP
  unfold State.spareReleaseNow
  repeat' first
    | with_reducible exact h
    | with_reducible refine State.spareRelease_parts h0 ?_
    | split

theorem State.spareTakeoverNow_parts {P : List Part} {s t : State} {a1}
    (hP : [.freeCtr, .regs, .ctrs, .flt, .loopS, .drv, .mtx] ⊆ P) (h : OnlyParts P s t) :
    OnlyParts P s (State.spareTakeoverNow t a1) := by
  have h0 : ([.freeCtr, .regs, .ctrs, .flt, .loopS, .drv, .mtx] : List Part) ⊆ P := List.Subset.trans (by decide) hP
  unfold State.spareTakeoverNow
  repeat' first
    | with_reducible exact h
    | with_reducible refine State.spareTakeover_parts h0 ?_
    | split

theorem State.takeHead_parts {P : List Part} {s t : State} {a1 a2}
    (hP : [.regs, .ctrs, .cmd, .brt, .pkts, .ports, .chips] ⊆ P) (h : OnlyParts P s t) :
    OnlyParts P s (State.takeHead t a1 a2) := by
  have h0 : ([.chips] : List Part) ⊆ P := List.Subset.trans (by decide) hP
  have h1 : ([.ports] : List Part) ⊆ P := List.Subset.trans (by decide) hP
  have h2 : ([.regs, .ctrs, .cmd, .brt, .pkts, .ports, .chips] : List Part) ⊆ P := List.Subset.trans (by decide) hP
  unfold State.takeHead
  repeat' first
    | with_reducible exact h
    | with_reducible refine State.setQueue_parts h0 ?_
    | with_reducible refine State.setPort_parts h1 ?_
    | with_reducible refine State.checkHead_parts h2 ?_

end Sys2Proof.Machine
end

