-- ==== Sys2Proof/Laws/PartsUnits.lean ====
section
/-! SUPPORT. What each operation of the register views, Diopter, the Loupe units and redundancy may change: one lemma per operation. -/

namespace Sys2Proof.Machine

open Sys2Proof

theorem State.endStale_parts {P : List Part} {s t : State} {a1} (hP : [.loopS] ⊆ P) (h : OnlyParts P s t) :
    OnlyParts P s (State.endStale t a1) := by
  have m_loopS : Part.loopS ∈ P := hP (by decide)
  unfold State.endStale
  repeat' first
    | with_reducible exact h
    | dsimp only
    | with_reducible refine OnlyParts.set_loopS m_loopS ?_

theorem State.abandonStage_parts {P : List Part} {s t : State} (hP : [.loopS, .cal, .slt] ⊆ P) (h : OnlyParts P s t) :
    OnlyParts P s (State.abandonStage t) := by
  have m_slt : Part.slt ∈ P := hP (by decide)
  have m_cal : Part.cal ∈ P := hP (by decide)
  have h0 : ([.loopS] : List Part) ⊆ P := List.Subset.trans (by decide) hP
  unfold State.abandonStage
  repeat' first
    | with_reducible exact h
    | with_reducible refine State.endStale_parts h0 ?_
    | split
    | dsimp only
    | with_reducible refine OnlyParts.set_slt m_slt ?_
    | with_reducible refine OnlyParts.set_cal m_cal ?_
    | with_reducible refine OnlyParts.set_cal_slt m_cal m_slt ?_

theorem State.lockElems_parts {P : List Part} {s t : State} {a1} (hP : [.loopA, .loopB] ⊆ P) (h : OnlyParts P s t) :
    OnlyParts P s (State.lockElems t a1) := by
  have h0 : ([.loopA, .loopB] : List Part) ⊆ P := List.Subset.trans (by decide) hP
  unfold State.lockElems
  repeat' first
    | with_reducible exact h
    | with_reducible refine State.setLoops_parts h0 ?_

theorem State.enterLocking_parts {P : List Part} {s t : State}
    (hP : [.regs, .cmd, .glb, .loopA, .loopB, .loopS, .acq] ⊆ P) (h : OnlyParts P s t) :
    OnlyParts P s (State.enterLocking t) := by
  have m_loopS : Part.loopS ∈ P := hP (by decide)
  have h0 : ([.acq] : List Part) ⊆ P := List.Subset.trans (by decide) hP
  have h1 : ([.loopA, .loopB] : List Part) ⊆ P := List.Subset.trans (by decide) hP
  have h2 : ([.regs, .cmd, .glb] : List Part) ⊆ P := List.Subset.trans (by decide) hP
  unfold State.enterLocking
  repeat' first
    | with_reducible exact h
    | with_reducible refine State.modeWatch_parts h0 ?_
    | with_reducible refine State.lockElems_parts h1 ?_
    | with_reducible refine State.setGState_parts h2 ?_
    | dsimp only
    | with_reducible refine OnlyParts.set_loopS m_loopS ?_

theorem State.setEmitters_parts {P : List Part} {s t : State} {a1} (hP : [.mtx] ⊆ P) (h : OnlyParts P s t) :
    OnlyParts P s (State.setEmitters t a1) := by
  have h0 : ([.mtx] : List Part) ⊆ P := List.Subset.trans (by decide) hP
  unfold State.setEmitters
  repeat' first
    | with_reducible exact h
    | with_reducible refine State.setEmitter_parts h0 ?_
    | with_reducible assumption
    | with_reducible refine OnlyParts.foldl (fun _ _ _ => ?_) ?_
    | with_reducible refine OnlyParts.foldl_fst (fun _ _ _ => ?_) ?_
    | split
    | dsimp only

theorem State.restoreLight_parts {P : List Part} {s t : State} (hP : [.drv, .mtx] ⊆ P) (h : OnlyParts P s t) :
    OnlyParts P s (State.restoreLight t) := by
  have m_drv : Part.drv ∈ P := hP (by decide)
  have h0 : ([.mtx] : List Part) ⊆ P := List.Subset.trans (by decide) hP
  unfold State.restoreLight
  repeat' first
    | with_reducible exact h
    | with_reducible refine State.warmSpare_parts h0 ?_
    | with_reducible refine State.setEmitters_parts h0 ?_
    | with_reducible assumption
    | with_reducible refine OnlyParts.foldl (fun _ _ _ => ?_) ?_
    | with_reducible refine OnlyParts.foldl_fst (fun _ _ _ => ?_) ?_
    | dsimp only
    | with_reducible refine OnlyParts.set_drv m_drv ?_

theorem State.levelDelta_parts {P : List Part} {s t : State} {a1 a2 a3}
    (hP : [.loopA, .loopB, .drv] ⊆ P) (h : OnlyParts P s t) :
    OnlyParts P s (State.levelDelta t a1 a2 a3) := by
  have h0 : ([.drv] : List Part) ⊆ P := List.Subset.trans (by decide) hP
  have h1 : ([.loopA, .loopB] : List Part) ⊆ P := List.Subset.trans (by decide) hP
  unfold State.levelDelta
  repeat' first
    | with_reducible exact h
    | with_reducible refine State.setChan_parts h0 ?_
    | with_reducible refine State.modElem_parts h1 ?_

theorem State.interpElem_parts {P : List Part} {s t : State} {a1 a2}
    (hP : [.loopA, .loopB, .drv, .cal] ⊆ P) (h : OnlyParts P s t) :
    OnlyParts P s (State.interpElem t a1 a2) := by
  have h0 : ([.loopA, .loopB, .drv] : List Part) ⊆ P := List.Subset.trans (by decide) hP
  have h1 : ([.cal] : List Part) ⊆ P := List.Subset.trans (by decide) hP
  unfold State.interpElem
  repeat' first
    | with_reducible exact h
    | with_reducible refine State.levelDelta_parts h0 ?_
    | with_reducible refine State.setCalElem_parts h1 ?_
    | split

theorem State.interpolate_parts {P : List Part} {s t : State}
    (hP : [.regs, .cmd, .loopA, .loopB, .drv, .cal] ⊆ P) (h : OnlyParts P s t) :
    OnlyParts P s (State.interpolate t) := by
  have m_cal : Part.cal ∈ P := hP (by decide)
  have h0 : ([.regs, .cmd] : List Part) ⊆ P := List.Subset.trans (by decide) hP
  have h1 : ([.loopA, .loopB, .drv, .cal] : List Part) ⊆ P := List.Subset.trans (by decide) hP
  unfold State.interpolate
  repeat' first
    | with_reducible exact h
    | with_reducible refine State.irqIf_parts h0 ?_
    | with_reducible refine State.interpElem_parts h1 ?_
    | with_reducible assumption
    | with_reducible refine OnlyParts.foldl (fun _ _ _ => ?_) ?_
    | with_reducible refine OnlyParts.foldl_fst (fun _ _ _ => ?_) ?_
    | split
    | dsimp only
    | with_reducible refine OnlyParts.set_cal m_cal ?_

theorem State.setLatch_parts {P : List Part} {s t : State} {a1 a2 a3} (hP : [.highLatch] ⊆ P) (h : OnlyParts P s t) :
    OnlyParts P s (State.setLatch t a1 a2 a3) := by
  have m_highLatch : Part.highLatch ∈ P := hP (by decide)
  unfold State.setLatch
  repeat' first
    | with_reducible exact h
    | dsimp only
    | with_reducible refine OnlyParts.set_highLatch m_highLatch ?_

theorem State.readIn_parts {P : List Part} {s t : State} {a1 a2 a3}
    (hP : [.freeCtr, .highLatch, .cmd, .tim, .adc] ⊆ P) (h : OnlyParts P s t) :
    OnlyParts P s (State.readIn t a1 a2 a3) := by
  have h0 : ([.cmd, .tim] : List Part) ⊆ P := List.Subset.trans (by decide) hP
  have h1 : ([.freeCtr] : List Part) ⊆ P := List.Subset.trans (by decide) hP
  have h2 : ([.cmd, .adc] : List Part) ⊆ P := List.Subset.trans (by decide) hP
  have h3 : ([.highLatch] : List Part) ⊆ P := List.Subset.trans (by decide) hP
  have h4 : ([.cmd] : List Part) ⊆ P := List.Subset.trans (by decide) hP
  unfold State.readIn
  repeat' first
    | with_reducible exact h
    | with_reducible refine State.readSecLo_parts h0 ?_
    | with_reducible refine State.readFifo_parts h0 ?_
    | with_reducible refine State.free_parts h1 ?_
    | with_reducible refine State.free_parts_eq h1 (by assumption) ?_
    | with_reducible refine State.readAdcData_parts h2 ?_
    | with_reducible refine State.setLatch_parts h3 ?_
    | with_reducible refine State.setRd_parts h4 ?_
    | split

theorem State.readReg_parts {P : List Part} {s t : State} {a1 a2}
    (hP : [.freeCtr, .regs, .ctrs, .highLatch, .cmd, .sec, .tim, .adc] ⊆ P) (h : OnlyParts P s t) :
    OnlyParts P s (State.readReg t a1 a2) := by
  have h0 : ([.regs, .ctrs, .cmd, .sec] : List Part) ⊆ P := List.Subset.trans (by decide) hP
  have h1 : ([.cmd] : List Part) ⊆ P := List.Subset.trans (by decide) hP
  have h2 : ([.freeCtr, .highLatch, .cmd, .tim, .adc] : List Part) ⊆ P := List.Subset.trans (by decide) hP
  unfold State.readReg
  repeat' first
    | with_reducible exact h
    | with_reducible refine State.accessRead_parts h0 (fun _ _ => ?_) ?_
    | with_reducible refine State.setRd_parts h1 ?_
    | with_reducible refine State.readIn_parts h2 ?_
    | with_reducible assumption
    | split

theorem State.writeSetRead_parts {P : List Part} {s t : State} {a1 a2}
    (hP : [.regs, .ctrs, .sec, .cal] ⊆ P) (h : OnlyParts P s t) :
    OnlyParts P s (State.writeSetRead t a1 a2) := by
  have m_cal : Part.cal ∈ P := hP (by decide)
  have h0 : ([.regs, .ctrs, .sec] : List Part) ⊆ P := List.Subset.trans (by decide) hP
  unfold State.writeSetRead
  repeat' first
    | with_reducible exact h
    | with_reducible refine State.plainWrite_parts h0 ?_
    | split
    | dsimp only
    | with_reducible refine OnlyParts.set_cal m_cal ?_

theorem State.beginStore_parts {P : List Part} {s t : State} {a1 a2}
    (hP : [.regs, .cmd, .cal] ⊆ P) (h : OnlyParts P s t) :
    OnlyParts P s (State.beginStore t a1 a2) := by
  have m_cal : Part.cal ∈ P := hP (by decide)
  have h0 : ([.regs, .cmd] : List Part) ⊆ P := List.Subset.trans (by decide) hP
  have h1 : ([.regs] : List Part) ⊆ P := List.Subset.trans (by decide) hP
  unfold State.beginStore
  repeat' first
    | with_reducible exact h
    | with_reducible refine State.irqIf_parts h0 ?_
    | with_reducible refine State.wrBit_parts h1 ?_
    | split
    | dsimp only
    | with_reducible refine OnlyParts.set_cal m_cal ?_

theorem State.calStoreBit_parts {P : List Part} {s t : State} (hP : [.regs, .cmd, .cal] ⊆ P) (h : OnlyParts P s t) :
    OnlyParts P s (State.calStoreBit t) := by
  have h0 : ([.regs, .cmd] : List Part) ⊆ P := List.Subset.trans (by decide) hP
  have h1 : ([.regs, .cmd, .cal] : List Part) ⊆ P := List.Subset.trans (by decide) hP
  have h2 : ([.regs] : List Part) ⊆ P := List.Subset.trans (by decide) hP
  unfold State.calStoreBit
  repeat' first
    | with_reducible exact h
    | with_reducible refine State.irqIf_parts h0 ?_
    | with_reducible refine State.beginStore_parts h1 ?_
    | with_reducible refine State.wrBit_parts h2 ?_
    | with_reducible assumption
    | with_reducible refine OnlyParts.foldl (fun _ _ _ => ?_) ?_
    | with_reducible refine OnlyParts.foldl_fst (fun _ _ _ => ?_) ?_
    | split

theorem State.beginFull_parts {P : List Part} {s t : State}
    (hP : [.regs, .cmd, .glb, .tim, .loopS, .drv, .cal, .slt, .brt, .ports] ⊆ P) (h : OnlyParts P s t) :
    OnlyParts P s (State.beginFull t) := by
  have m_drv : Part.drv ∈ P := hP (by decide)
  have m_cal : Part.cal ∈ P := hP (by decide)
  have m_loopS : Part.loopS ∈ P := hP (by decide)
  have h0 : ([.ports] : List Part) ⊆ P := List.Subset.trans (by decide) hP
  have h1 : ([.tim, .slt, .brt] : List Part) ⊆ P := List.Subset.trans (by decide) hP
  have h2 : ([.regs, .cmd, .glb] : List Part) ⊆ P := List.Subset.trans (by decide) hP
  unfold State.beginFull
  repeat' first
    | with_reducible exact h
    | with_reducible refine State.closePorts_parts h0 ?_
    | with_reducible refine State.stopPrism_parts h1 ?_
    | with_reducible refine State.setGState_parts h2 ?_
    | dsimp only
    | with_reducible refine OnlyParts.set_drv m_drv ?_
    | with_reducible refine OnlyParts.set_cal m_cal ?_
    | with_reducible refine OnlyParts.set_loopS m_loopS ?_
    | with_reducible refine OnlyParts.set_loopS_drv_cal m_loopS m_drv m_cal ?_

theorem State.startFullBit_parts {P : List Part} {s t : State}
    (hP : [.regs, .cmd, .glb, .tim, .loopS, .drv, .cal, .slt, .brt, .ports] ⊆ P) (h : OnlyParts P s t) :
    OnlyParts P s (State.startFullBit t) := by
  have m_glb : Part.glb ∈ P := hP (by decide)
  have h0 : ([.regs] : List Part) ⊆ P := List.Subset.trans (by decide) hP
  have h1 : ([.regs, .cmd, .glb, .tim, .loopS, .drv, .cal, .slt, .brt,
    .ports] : List Part) ⊆ P := List.Subset.trans (by decide) hP
  unfold State.startFullBit
  repeat' first
    | with_reducible exact h
    | with_reducible refine State.wrBit_parts h0 ?_
    | with_reducible refine State.beginFull_parts h1 ?_
    | split
    | dsimp only
    | with_reducible refine OnlyParts.set_glb m_glb ?_

theorem State.setCalSet_parts {P : List Part} {s t : State} {a1 a2} (hP : [.cal] ⊆ P) (h : OnlyParts P s t) :
    OnlyParts P s (State.setCalSet t a1 a2) := by
  have m_cal : Part.cal ∈ P := hP (by decide)
  unfold State.setCalSet
  repeat' first
    | with_reducible exact h
    | dsimp only
    | with_reducible refine OnlyParts.set_cal m_cal ?_

theorem State.calDeleteBit_parts {P : List Part} {s t : State} (hP : [.regs, .cal] ⊆ P) (h : OnlyParts P s t) :
    OnlyParts P s (State.calDeleteBit t) := by
  have m_cal : Part.cal ∈ P := hP (by decide)
  have h0 : ([.cal] : List Part) ⊆ P := List.Subset.trans (by decide) hP
  have h1 : ([.regs] : List Part) ⊆ P := List.Subset.trans (by decide) hP
  unfold State.calDeleteBit
  repeat' first
    | with_reducible exact h
    | with_reducible refine State.setCalSet_parts h0 ?_
    | with_reducible refine State.wrBit_parts h1 ?_
    | split
    | dsimp only
    | with_reducible refine OnlyParts.set_cal m_cal ?_

theorem State.writeCalCmd_parts {P : List Part} {s t : State} {a1 a2}
    (hP : [.regs, .ctrs, .cmd, .sec, .glb, .tim, .loopS, .drv, .cal, .slt, .brt, .ports] ⊆ P) (h : OnlyParts P s t) :
    OnlyParts P s (State.writeCalCmd t a1 a2) := by
  have h0 : ([.regs, .cmd, .cal] : List Part) ⊆ P := List.Subset.trans (by decide) hP
  have h1 : ([.regs, .ctrs, .sec] : List Part) ⊆ P := List.Subset.trans (by decide) hP
  have h2 : ([.regs, .cmd, .glb, .tim, .loopS, .drv, .cal, .slt, .brt,
    .ports] : List Part) ⊆ P := List.Subset.trans (by decide) hP
  have h3 : ([.regs, .cal] : List Part) ⊆ P := List.Subset.trans (by decide) hP
  unfold State.writeCalCmd
  repeat' first
    | with_reducible exact h
    | with_reducible refine State.calStoreBit_parts h0 ?_
    | with_reducible refine State.plainWrite_parts h1 ?_
    | with_reducible refine State.startFullBit_parts h2 ?_
    | with_reducible refine State.calDeleteBit_parts h3 ?_
    | split

theorem State.clearCompare_parts {P : List Part} {s t : State} (hP : [.red] ⊆ P) (h : OnlyParts P s t) :
    OnlyParts P s (State.clearCompare t) := by
  have m_red : Part.red ∈ P := hP (by decide)
  unfold State.clearCompare
  repeat' first
    | with_reducible exact h
    | dsimp only
    | with_reducible refine OnlyParts.set_red m_red ?_

theorem State.loupeIrq_parts {P : List Part} {s t : State} {a1} (hP : [.regs, .cmd] ⊆ P) (h : OnlyParts P s t) :
    OnlyParts P s (State.loupeIrq t a1) := by
  have h0 : ([.regs, .cmd] : List Part) ⊆ P := List.Subset.trans (by decide) hP
  unfold State.loupeIrq
  repeat' first
    | with_reducible exact h
    | with_reducible refine State.irqIf_parts h0 ?_

theorem State.writeRecord_parts {P : List Part} {s t : State} {a1 a2 a3 a4}
    (hP : [.freeCtr, .regs, .ctrs, .cmd, .acq] ⊆ P) (h : OnlyParts P s t) :
    OnlyParts P s (State.writeRecord t a1 a2 a3 a4) := by
  have h0 : ([.ctrs] : List Part) ⊆ P := List.Subset.trans (by decide) hP
  have h1 : ([.acq] : List Part) ⊆ P := List.Subset.trans (by decide) hP
  have h2 : ([.regs, .cmd] : List Part) ⊆ P := List.Subset.trans (by decide) hP
  have h3 : ([.regs] : List Part) ⊆ P := List.Subset.trans (by decide) hP
  have h4 : ([.freeCtr] : List Part) ⊆ P := List.Subset.trans (by decide) hP
  unfold State.writeRecord
  repeat' first
    | with_reducible exact h
    | with_reducible refine State.bump_parts h0 ?_
    | with_reducible refine State.setLoupe_parts h1 ?_
    | with_reducible refine State.loupeIrq_parts h2 ?_
    | with_reducible refine State.wrBit_parts h3 ?_
    | with_reducible refine State.free_parts h4 ?_
    | with_reducible refine State.free_parts_eq h4 (by assumption) ?_
    | split
    | dsimp only

theorem State.freeSamples_parts {P : List Part} {s t : State} {a1} (hP : [.freeCtr] ⊆ P) (h : OnlyParts P s t) :
    OnlyParts P s (State.freeSamples t a1).2 := by
  have m_freeCtr : Part.freeCtr ∈ P := hP (by decide)
  unfold State.freeSamples
  repeat' first
    | with_reducible exact h
    | dsimp only
    | with_reducible refine OnlyParts.set_freeCtr m_freeCtr ?_

theorem State.freeSamples_parts_eq {P : List Part} {s t v : State} {a1} {x0}
    (hP : [.freeCtr] ⊆ P) (e : State.freeSamples t a1 = (x0, v)) (h : OnlyParts P s t) :
    OnlyParts P s v := by
  have := State.freeSamples_parts (P := P) (s := s) (a1 := a1) hP h
  rw [e] at this
  exact this

theorem State.takenData_parts {P : List Part} {s t : State} {a1 a2} (hP : [.freeCtr] ⊆ P) (h : OnlyParts P s t) :
    OnlyParts P s (State.takenData t a1 a2).2 := by
  have h0 : ([.freeCtr] : List Part) ⊆ P := List.Subset.trans (by decide) hP
  unfold State.takenData
  repeat' first
    | with_reducible exact h
    | with_reducible refine State.free_parts h0 ?_
    | with_reducible refine State.free_parts_eq h0 (by assumption) ?_
    | with_reducible refine State.freeSamples_parts h0 ?_
    | with_reducible refine State.freeSamples_parts_eq h0 (by assumption) ?_
    | split
    | dsimp only

theorem State.takenData_parts_eq {P : List Part} {s t v : State} {a1 a2} {x0}
    (hP : [.freeCtr] ⊆ P) (e : State.takenData t a1 a2 = (x0, v)) (h : OnlyParts P s t) :
    OnlyParts P s v := by
  have := State.takenData_parts (P := P) (s := s) (a1 := a1) (a2 := a2) hP h
  rw [e] at this
  exact this

theorem State.stopUnit_parts {P : List Part} {s t : State} {a1 a2 a3}
    (hP : [.freeCtr, .regs, .ctrs, .cmd, .acq] ⊆ P) (h : OnlyParts P s t) :
    OnlyParts P s (State.stopUnit t a1 a2 a3) := by
  have h0 : ([.freeCtr, .regs, .ctrs, .cmd, .acq] : List Part) ⊆ P := List.Subset.trans (by decide) hP
  have h1 : ([.freeCtr] : List Part) ⊆ P := List.Subset.trans (by decide) hP
  have h2 : ([.acq] : List Part) ⊆ P := List.Subset.trans (by decide) hP
  have h3 : ([.regs, .cmd] : List Part) ⊆ P := List.Subset.trans (by decide) hP
  unfold State.stopUnit
  repeat' first
    | with_reducible exact h
    | with_reducible refine State.writeRecord_parts h0 ?_
    | with_reducible refine State.takenData_parts h1 ?_
    | with_reducible refine State.takenData_parts_eq h1 (by assumption) ?_
    | with_reducible refine State.setLoupe_parts h2 ?_
    | with_reducible refine State.loupeIrq_parts h3 ?_
    | split
    | dsimp only

theorem State.stopLoupes_parts {P : List Part} {s t : State} {a1}
    (hP : [.freeCtr, .regs, .ctrs, .cmd, .acq] ⊆ P) (h : OnlyParts P s t) :
    OnlyParts P s (State.stopLoupes t a1) := by
  have h0 : ([.freeCtr, .regs, .ctrs, .cmd, .acq] : List Part) ⊆ P := List.Subset.trans (by decide) hP
  unfold State.stopLoupes
  repeat' first
    | with_reducible exact h
    | with_reducible refine State.stopUnit_parts h0 ?_
    | with_reducible assumption
    | with_reducible refine OnlyParts.foldl (fun _ _ _ => ?_) ?_
    | with_reducible refine OnlyParts.foldl_fst (fun _ _ _ => ?_) ?_
    | split

theorem State.setCtlState_parts {P : List Part} {s t : State} {a1 a2}
    (hP : [.freeCtr, .regs, .ctrs, .cmd, .red, .acq] ⊆ P) (h : OnlyParts P s t) :
    OnlyParts P s (State.setCtlState t a1 a2) := by
  have h0 : ([.red] : List Part) ⊆ P := List.Subset.trans (by decide) hP
  have h1 : ([.regs, .cmd] : List Part) ⊆ P := List.Subset.trans (by decide) hP
  have h2 : ([.freeCtr, .regs, .ctrs, .cmd, .acq] : List Part) ⊆ P := List.Subset.trans (by decide) hP
  unfold State.setCtlState
  repeat' first
    | with_reducible exact h
    | with_reducible refine State.setCtlRed_parts h0 ?_
    | with_reducible refine State.irqIf_parts h1 ?_
    | with_reducible refine State.stopLoupes_parts h2 ?_
    | split
    | dsimp only

theorem State.enterTesting_parts {P : List Part} {s t : State} {a1}
    (hP : [.freeCtr, .regs, .ctrs, .cmd, .glb, .red, .acq] ⊆ P) (h : OnlyParts P s t) :
    OnlyParts P s (State.enterTesting t a1) := by
  have h0 : ([.red] : List Part) ⊆ P := List.Subset.trans (by decide) hP
  have h1 : ([.freeCtr, .regs, .ctrs, .cmd, .red, .acq] : List Part) ⊆ P := List.Subset.trans (by decide) hP
  have h2 : ([.glb] : List Part) ⊆ P := List.Subset.trans (by decide) hP
  unfold State.enterTesting
  repeat' first
    | with_reducible exact h
    | with_reducible refine State.clearCompare_parts h0 ?_
    | with_reducible refine State.setCtlRed_parts h0 ?_
    | with_reducible refine State.setCtlState_parts h1 ?_
    | with_reducible refine State.setDom_parts h2 ?_

theorem State.isolateCtl_parts {P : List Part} {s t : State} {a1}
    (hP : [.freeCtr, .regs, .ctrs, .cmd, .red, .acq] ⊆ P) (h : OnlyParts P s t) :
    OnlyParts P s (State.isolateCtl t a1) := by
  have m_red : Part.red ∈ P := hP (by decide)
  have h0 : ([.red] : List Part) ⊆ P := List.Subset.trans (by decide) hP
  have h1 : ([.freeCtr, .regs, .ctrs, .cmd, .red, .acq] : List Part) ⊆ P := List.Subset.trans (by decide) hP
  unfold State.isolateCtl
  repeat' first
    | with_reducible exact h
    | with_reducible refine State.clearCompare_parts h0 ?_
    | with_reducible refine State.setCtlRed_parts h0 ?_
    | with_reducible refine State.setCtlState_parts h1 ?_
    | split
    | dsimp only
    | with_reducible refine OnlyParts.set_red m_red ?_

theorem State.switchBit_parts {P : List Part} {s t : State} {a1} (hP : [.regs, .red] ⊆ P) (h : OnlyParts P s t) :
    OnlyParts P s (State.switchBit t a1) := by
  have m_red : Part.red ∈ P := hP (by decide)
  have h0 : ([.red] : List Part) ⊆ P := List.Subset.trans (by decide) hP
  have h1 : ([.regs] : List Part) ⊆ P := List.Subset.trans (by decide) hP
  unfold State.switchBit
  repeat' first
    | with_reducible exact h
    | with_reducible refine State.setCtlRed_parts h0 ?_
    | with_reducible refine State.wrBit_parts h1 ?_
    | with_reducible assumption
    | with_reducible refine OnlyParts.foldl (fun _ _ _ => ?_) ?_
    | with_reducible refine OnlyParts.foldl_fst (fun _ _ _ => ?_) ?_
    | split
    | dsimp only
    | with_reducible refine OnlyParts.set_red m_red ?_

theorem State.isolateBit_parts {P : List Part} {s t : State} {a1 a2}
    (hP : [.freeCtr, .regs, .ctrs, .cmd, .glb, .red, .acq] ⊆ P) (h : OnlyParts P s t) :
    OnlyParts P s (State.isolateBit t a1 a2) := by
  have h0 : ([.red] : List Part) ⊆ P := List.Subset.trans (by decide) hP
  have h1 : ([.regs] : List Part) ⊆ P := List.Subset.trans (by decide) hP
  have h2 : ([.glb] : List Part) ⊆ P := List.Subset.trans (by decide) hP
  have h3 : ([.freeCtr, .regs, .ctrs, .cmd, .red, .acq] : List Part) ⊆ P := List.Subset.trans (by decide) hP
  have h4 : ([.regs, .red] : List Part) ⊆ P := List.Subset.trans (by decide) hP
  unfold State.isolateBit
  repeat' first
    | with_reducible exact h
    | with_reducible refine State.setCtlRed_parts h0 ?_
    | with_reducible refine State.wrBit_parts h1 ?_
    | with_reducible refine State.setDom_parts h2 ?_
    | with_reducible refine State.isolateCtl_parts h3 ?_
    | with_reducible refine State.switchBit_parts h4 ?_
    | split
    | dsimp only

theorem State.writeRedCmd_parts {P : List Part} {s t : State} {a1 a2}
    (hP : [.freeCtr, .regs, .ctrs, .cmd, .sec, .glb, .red, .acq] ⊆ P) (h : OnlyParts P s t) :
    OnlyParts P s (State.writeRedCmd t a1 a2) := by
  have h0 : ([.freeCtr, .regs, .ctrs, .cmd, .glb, .red, .acq] : List Part) ⊆ P := List.Subset.trans (by decide) hP
  have h1 : ([.regs] : List Part) ⊆ P := List.Subset.trans (by decide) hP
  have h2 : ([.regs, .ctrs, .sec] : List Part) ⊆ P := List.Subset.trans (by decide) hP
  have h3 : ([.regs, .red] : List Part) ⊆ P := List.Subset.trans (by decide) hP
  unfold State.writeRedCmd
  repeat' first
    | with_reducible exact h
    | with_reducible refine State.enterTesting_parts h0 ?_
    | with_reducible refine State.wrBit_parts h1 ?_
    | with_reducible refine State.plainWrite_parts h2 ?_
    | with_reducible refine State.isolateBit_parts h0 ?_
    | with_reducible refine State.switchBit_parts h3 ?_
    | split
    | dsimp only

theorem State.armBit_parts {P : List Part} {s t : State} {a1} (hP : [.regs, .cmd, .acq] ⊆ P) (h : OnlyParts P s t) :
    OnlyParts P s (State.armBit t a1) := by
  have h0 : ([.acq] : List Part) ⊆ P := List.Subset.trans (by decide) hP
  have h1 : ([.regs, .cmd] : List Part) ⊆ P := List.Subset.trans (by decide) hP
  have h2 : ([.regs] : List Part) ⊆ P := List.Subset.trans (by decide) hP
  unfold State.armBit
  repeat' first
    | with_reducible exact h
    | with_reducible refine State.setLoupe_parts h0 ?_
    | with_reducible refine State.loupeIrq_parts h1 ?_
    | with_reducible refine State.wrBit_parts h2 ?_
    | with_reducible refine State.wr_parts h2 ?_
    | with_reducible assumption
    | with_reducible refine OnlyParts.foldl (fun _ _ _ => ?_) ?_
    | with_reducible refine OnlyParts.foldl_fst (fun _ _ _ => ?_) ?_
    | split
    | dsimp only

theorem State.writeLoupeCtrl_parts {P : List Part} {s t : State} {a1 a2 a3}
    (hP : [.freeCtr, .regs, .ctrs, .cmd, .sec, .acq] ⊆ P) (h : OnlyParts P s t) :
    OnlyParts P s (State.writeLoupeCtrl t a1 a2 a3) := by
  have h0 : ([.acq] : List Part) ⊆ P := List.Subset.trans (by decide) hP
  have h1 : ([.regs] : List Part) ⊆ P := List.Subset.trans (by decide) hP
  have h2 : ([.freeCtr, .regs, .ctrs, .cmd, .acq] : List Part) ⊆ P := List.Subset.trans (by decide) hP
  have h3 : ([.regs, .cmd, .acq] : List Part) ⊆ P := List.Subset.trans (by decide) hP
  have h4 : ([.regs, .ctrs, .sec] : List Part) ⊆ P := List.Subset.trans (by decide) hP
  unfold State.writeLoupeCtrl
  repeat' first
    | with_reducible exact h
    | with_reducible refine State.setLoupe_parts h0 ?_
    | with_reducible refine State.wrBit_parts h1 ?_
    | with_reducible refine State.stopUnit_parts h2 ?_
    | with_reducible refine State.armBit_parts h3 ?_
    | with_reducible refine State.plainWrite_parts h4 ?_
    | split
    | dsimp only

theorem State.writeRdPtr_parts {P : List Part} {s t : State} {a1 a2 a3}
    (hP : [.regs, .ctrs, .sec, .acq] ⊆ P) (h : OnlyParts P s t) :
    OnlyParts P s (State.writeRdPtr t a1 a2 a3) := by
  have h0 : ([.acq] : List Part) ⊆ P := List.Subset.trans (by decide) hP
  have h1 : ([.regs, .ctrs, .sec] : List Part) ⊆ P := List.Subset.trans (by decide) hP
  unfold State.writeRdPtr
  repeat' first
    | with_reducible exact h
    | with_reducible refine State.setLoupe_parts h0 ?_
    | with_reducible refine State.plainWrite_parts h1 ?_

theorem State.writeAcq_parts {P : List Part} {s t : State} {a1 a2 a3}
    (hP : [.freeCtr, .regs, .ctrs, .cmd, .sec, .acq] ⊆ P) (h : OnlyParts P s t) :
    OnlyParts P s (State.writeAcq t a1 a2 a3) := by
  have h0 : ([.freeCtr, .regs, .ctrs, .cmd, .sec, .acq] : List Part) ⊆ P := List.Subset.trans (by decide) hP
  have h1 : ([.regs] : List Part) ⊆ P := List.Subset.trans (by decide) hP
  have h2 : ([.regs, .ctrs, .sec] : List Part) ⊆ P := List.Subset.trans (by decide) hP
  have h3 : ([.regs, .ctrs, .sec, .acq] : List Part) ⊆ P := List.Subset.trans (by decide) hP
  unfold State.writeAcq
  repeat' first
    | with_reducible exact h
    | with_reducible refine State.writeLoupeCtrl_parts h0 ?_
    | with_reducible refine State.wrBit_parts h1 ?_
    | with_reducible refine State.plainWrite_parts h2 ?_
    | with_reducible refine State.writeRdPtr_parts h3 ?_
    | split
    | dsimp only

theorem State.applyFit_parts {P : List Part} {s t : State} {a1}
    (hP : [.freeCtr, .loopA, .loopB, .drv, .cal] ⊆ P) (h : OnlyParts P s t) :
    OnlyParts P s (State.applyFit t a1) := by
  have h0 : ([.loopA, .loopB, .drv] : List Part) ⊆ P := List.Subset.trans (by decide) hP
  have h1 : ([.cal] : List Part) ⊆ P := List.Subset.trans (by decide) hP
  have h2 : ([.freeCtr] : List Part) ⊆ P := List.Subset.trans (by decide) hP
  unfold State.applyFit
  repeat' first
    | with_reducible exact h
    | with_reducible refine State.levelDelta_parts h0 ?_
    | with_reducible refine State.setCalElem_parts h1 ?_
    | with_reducible refine State.free_parts h2 ?_
    | with_reducible refine State.free_parts_eq h2 (by assumption) ?_
    | split

theorem State.applyHeater_parts {P : List Part} {s t : State} {a1} (hP : [.drv] ⊆ P) (h : OnlyParts P s t) :
    OnlyParts P s (State.applyHeater t a1) := by
  have h0 : ([.drv] : List Part) ⊆ P := List.Subset.trans (by decide) hP
  unfold State.applyHeater
  repeat' first
    | with_reducible exact h
    | with_reducible refine State.setChan_parts h0 ?_
    | split
    | dsimp only

theorem State.applyHeaters_parts {P : List Part} {s t : State} (hP : [.drv] ⊆ P) (h : OnlyParts P s t) :
    OnlyParts P s (State.applyHeaters t) := by
  have h0 : ([.drv] : List Part) ⊆ P := List.Subset.trans (by decide) hP
  unfold State.applyHeaters
  repeat' first
    | with_reducible exact h
    | with_reducible refine State.applyHeater_parts h0 ?_
    | with_reducible assumption
    | with_reducible refine OnlyParts.foldl (fun _ _ _ => ?_) ?_
    | with_reducible refine OnlyParts.foldl_fst (fun _ _ _ => ?_) ?_
    | split

theorem State.applyLc_parts {P : List Part} {s t : State} (hP : [.cal] ⊆ P) (h : OnlyParts P s t) :
    OnlyParts P s (State.applyLc t) := by
  have h0 : ([.cal] : List Part) ⊆ P := List.Subset.trans (by decide) hP
  unfold State.applyLc
  repeat' first
    | with_reducible exact h
    | with_reducible refine State.setCalElem_parts h0 ?_
    | with_reducible assumption
    | with_reducible refine OnlyParts.foldl (fun _ _ _ => ?_) ?_
    | with_reducible refine OnlyParts.foldl_fst (fun _ _ _ => ?_) ?_
    | split

theorem State.driveLevels_parts {P : List Part} {s t : State} {a1 a2 a3} (hP : [.drv] ⊆ P) (h : OnlyParts P s t) :
    OnlyParts P s (State.driveLevels t a1 a2 a3) := by
  have h0 : ([.drv] : List Part) ⊆ P := List.Subset.trans (by decide) hP
  unfold State.driveLevels
  repeat' first
    | with_reducible exact h
    | with_reducible refine State.setChan_parts h0 ?_

theorem State.applyLevels_parts {P : List Part} {s t : State} {a1 a2 a3}
    (hP : [.loopA, .loopB, .drv, .cal] ⊆ P) (h : OnlyParts P s t) :
    OnlyParts P s (State.applyLevels t a1 a2 a3) := by
  have h0 : ([.drv] : List Part) ⊆ P := List.Subset.trans (by decide) hP
  have h1 : ([.cal] : List Part) ⊆ P := List.Subset.trans (by decide) hP
  have h2 : ([.loopA, .loopB] : List Part) ⊆ P := List.Subset.trans (by decide) hP
  unfold State.applyLevels
  repeat' first
    | with_reducible exact h
    | with_reducible refine State.driveLevels_parts h0 ?_
    | with_reducible refine State.setCalElem_parts h1 ?_
    | with_reducible refine State.modElem_parts h2 ?_

theorem State.applyRefs_parts {P : List Part} {s t : State} {a1} (hP : [.cal] ⊆ P) (h : OnlyParts P s t) :
    OnlyParts P s (State.applyRefs t a1) := by
  have m_cal : Part.cal ∈ P := hP (by decide)
  unfold State.applyRefs
  repeat' first
    | with_reducible exact h
    | with_reducible assumption
    | with_reducible refine OnlyParts.foldl (fun _ _ _ => ?_) ?_
    | with_reducible refine OnlyParts.foldl_fst (fun _ _ _ => ?_) ?_
    | split
    | dsimp only
    | with_reducible refine OnlyParts.set_cal m_cal ?_

theorem State.applyResp_parts {P : List Part} {s t : State} {a1} (hP : [.cal] ⊆ P) (h : OnlyParts P s t) :
    OnlyParts P s (State.applyResp t a1) := by
  have m_cal : Part.cal ∈ P := hP (by decide)
  unfold State.applyResp
  repeat' first
    | with_reducible exact h
    | split
    | dsimp only
    | with_reducible refine OnlyParts.set_cal m_cal ?_

theorem State.applyStage_parts {P : List Part} {s t : State}
    (hP : [.freeCtr, .ctrs, .loopA, .loopB, .loopS, .drv, .cal] ⊆ P) (h : OnlyParts P s t) :
    OnlyParts P s (State.applyStage t) := by
  have m_cal : Part.cal ∈ P := hP (by decide)
  have m_loopS : Part.loopS ∈ P := hP (by decide)
  have h0 : ([.freeCtr, .loopA, .loopB, .drv, .cal] : List Part) ⊆ P := List.Subset.trans (by decide) hP
  have h1 : ([.ctrs] : List Part) ⊆ P := List.Subset.trans (by decide) hP
  unfold State.applyStage
  repeat' first
    | with_reducible exact h
    | with_reducible refine State.applyFit_parts h0 ?_
    | with_reducible refine State.bump_parts h1 ?_
    | with_reducible assumption
    | with_reducible refine OnlyParts.foldl (fun _ _ _ => ?_) ?_
    | with_reducible refine OnlyParts.foldl_fst (fun _ _ _ => ?_) ?_
    | split
    | dsimp only
    | with_reducible refine OnlyParts.set_cal m_cal ?_
    | with_reducible refine OnlyParts.set_loopS m_loopS ?_
    | with_reducible refine OnlyParts.set_loopS_cal m_loopS m_cal ?_

theorem State.skipElem_parts {P : List Part} {s t : State} {a1 a2}
    (hP : [.ctrs, .flt, .cal] ⊆ P) (h : OnlyParts P s t) :
    OnlyParts P s (State.skipElem t a1 a2) := by
  have m_cal : Part.cal ∈ P := hP (by decide)
  have h0 : ([.ctrs] : List Part) ⊆ P := List.Subset.trans (by decide) hP
  have h1 : ([.cal] : List Part) ⊆ P := List.Subset.trans (by decide) hP
  have h2 : ([.ctrs, .flt] : List Part) ⊆ P := List.Subset.trans (by decide) hP
  unfold State.skipElem
  repeat' first
    | with_reducible exact h
    | with_reducible refine State.bump_parts h0 ?_
    | with_reducible refine State.setCalElem_parts h1 ?_
    | with_reducible refine State.raise_parts h2 ?_
    | split
    | dsimp only
    | with_reducible refine OnlyParts.set_cal m_cal ?_

theorem State.driveHeater_parts {P : List Part} {s t : State} {a1 a2}
    (hP : [.loopA, .loopB, .drv] ⊆ P) (h : OnlyParts P s t) :
    OnlyParts P s (State.driveHeater t a1 a2) := by
  have h0 : ([.drv] : List Part) ⊆ P := List.Subset.trans (by decide) hP
  have h1 : ([.loopA, .loopB] : List Part) ⊆ P := List.Subset.trans (by decide) hP
  unfold State.driveHeater
  repeat' first
    | with_reducible exact h
    | with_reducible refine State.setChan_parts h0 ?_
    | with_reducible refine State.modElem_parts h1 ?_

theorem State.applySweep_parts {P : List Part} {s t : State} {a1}
    (hP : [.ctrs, .flt, .loopA, .loopB, .drv, .cal] ⊆ P) (h : OnlyParts P s t) :
    OnlyParts P s (State.applySweep t a1) := by
  have h0 : ([.ctrs, .flt, .cal] : List Part) ⊆ P := List.Subset.trans (by decide) hP
  have h1 : ([.cal] : List Part) ⊆ P := List.Subset.trans (by decide) hP
  have h2 : ([.loopA, .loopB, .drv] : List Part) ⊆ P := List.Subset.trans (by decide) hP
  unfold State.applySweep
  repeat' first
    | with_reducible exact h
    | with_reducible refine State.skipElem_parts h0 ?_
    | with_reducible refine State.setCalElem_parts h1 ?_
    | with_reducible refine State.driveHeater_parts h2 ?_
    | split
    | dsimp only

theorem State.isolateFaulty_parts {P : List Part} {s t : State} {a1}
    (hP : [.freeCtr, .regs, .ctrs, .cmd, .flt, .red, .acq] ⊆ P) (h : OnlyParts P s t) :
    OnlyParts P s (State.isolateFaulty t a1) := by
  have h0 : ([.ctrs, .flt] : List Part) ⊆ P := List.Subset.trans (by decide) hP
  have h1 : ([.freeCtr, .regs, .ctrs, .cmd, .red, .acq] : List Part) ⊆ P := List.Subset.trans (by decide) hP
  unfold State.isolateFaulty
  repeat' first
    | with_reducible exact h
    | with_reducible refine State.raiseCtl_parts h0 ?_
    | with_reducible refine State.isolateCtl_parts h1 ?_

theorem State.setSuspect_parts {P : List Part} {s t : State} {a1}
    (hP : [.regs, .ctrs, .cmd, .red] ⊆ P) (h : OnlyParts P s t) :
    OnlyParts P s (State.setSuspect t a1) := by
  have m_red : Part.red ∈ P := hP (by decide)
  have h0 : ([.red] : List Part) ⊆ P := List.Subset.trans (by decide) hP
  have h1 : ([.regs, .cmd] : List Part) ⊆ P := List.Subset.trans (by decide) hP
  have h2 : ([.ctrs] : List Part) ⊆ P := List.Subset.trans (by decide) hP
  unfold State.setSuspect
  repeat' first
    | with_reducible exact h
    | with_reducible refine State.setCtlRed_parts h0 ?_
    | with_reducible refine State.irqIf_parts h1 ?_
    | with_reducible refine State.bump_parts h2 ?_
    | split
    | dsimp only
    | with_reducible refine OnlyParts.set_red m_red ?_

theorem State.arbitrate_parts {P : List Part} {s t : State}
    (hP : [.freeCtr, .regs, .ctrs, .cmd, .flt, .red, .acq] ⊆ P) (h : OnlyParts P s t) :
    OnlyParts P s (State.arbitrate t) := by
  have m_red : Part.red ∈ P := hP (by decide)
  have h0 : ([.ctrs] : List Part) ⊆ P := List.Subset.trans (by decide) hP
  have h1 : ([.freeCtr, .regs, .ctrs, .cmd, .flt, .red, .acq] : List Part) ⊆ P := List.Subset.trans (by decide) hP
  have h2 : ([.regs, .ctrs, .cmd, .red] : List Part) ⊆ P := List.Subset.trans (by decide) hP
  unfold State.arbitrate
  repeat' first
    | with_reducible exact h
    | with_reducible refine State.bump_parts h0 ?_
    | with_reducible refine State.isolateFaulty_parts h1 ?_
    | with_reducible refine State.setSuspect_parts h2 ?_
    | split
    | dsimp only
    | with_reducible refine OnlyParts.set_red m_red ?_

theorem State.endLend_parts {P : List Part} {s t : State} {a1} (hP : [.adc, .acq] ⊆ P) (h : OnlyParts P s t) :
    OnlyParts P s (State.endLend t a1) := by
  have h0 : ([.acq] : List Part) ⊆ P := List.Subset.trans (by decide) hP
  have h1 : ([.adc] : List Part) ⊆ P := List.Subset.trans (by decide) hP
  unfold State.endLend
  repeat' first
    | with_reducible exact h
    | with_reducible refine State.setLoupe_parts h0 ?_
    | with_reducible refine State.setAu_parts h1 ?_
    | split
    | dsimp only

theorem State.auFailed_parts {P : List Part} {s t : State} {a1}
    (hP : [.freeCtr, .regs, .ctrs, .cmd, .flt, .adc, .acq] ⊆ P) (h : OnlyParts P s t) :
    OnlyParts P s (State.auFailed t a1) := by
  have h0 : ([.adc, .acq] : List Part) ⊆ P := List.Subset.trans (by decide) hP
  have h1 : ([.regs, .ctrs, .cmd, .flt, .adc] : List Part) ⊆ P := List.Subset.trans (by decide) hP
  have h2 : ([.freeCtr, .regs, .ctrs, .cmd, .acq] : List Part) ⊆ P := List.Subset.trans (by decide) hP
  unfold State.auFailed
  repeat' first
    | with_reducible exact h
    | with_reducible refine State.endLend_parts h0 ?_
    | with_reducible refine State.auFail_parts h1 ?_
    | with_reducible refine State.stopUnit_parts h2 ?_
    | with_reducible assumption
    | with_reducible refine OnlyParts.foldl (fun _ _ _ => ?_) ?_
    | with_reducible refine OnlyParts.foldl_fst (fun _ _ _ => ?_) ?_
    | split
    | dsimp only

theorem State.auJudge_parts {P : List Part} {s t : State} {a1 a2 a3 a4}
    (hP : [.freeCtr, .regs, .ctrs, .cmd, .flt, .adc, .acq] ⊆ P) (h : OnlyParts P s t) :
    OnlyParts P s (State.auJudge t a1 a2 a3 a4) := by
  have h0 : ([.freeCtr, .regs, .ctrs, .cmd, .flt, .adc, .acq] : List Part) ⊆ P := List.Subset.trans (by decide) hP
  unfold State.auJudge
  repeat' first
    | with_reducible exact h
    | with_reducible refine State.auFailed_parts h0 ?_
    | split

theorem State.beginPart_parts {P : List Part} {s t : State} {a1 a2} (hP : [.drv, .cal] ⊆ P) (h : OnlyParts P s t) :
    OnlyParts P s (State.beginPart t a1 a2) := by
  have m_cal : Part.cal ∈ P := hP (by decide)
  have h0 : ([.drv] : List Part) ⊆ P := List.Subset.trans (by decide) hP
  unfold State.beginPart
  repeat' first
    | with_reducible exact h
    | with_reducible refine State.beginRange_parts h0 ?_
    | with_reducible assumption
    | with_reducible refine OnlyParts.foldl (fun _ _ _ => ?_) ?_
    | with_reducible refine OnlyParts.foldl_fst (fun _ _ _ => ?_) ?_
    | split
    | dsimp only
    | with_reducible refine OnlyParts.set_cal m_cal ?_

theorem State.beginStep_parts {P : List Part} {s t : State} {a1} (hP : [.drv, .mtx, .cal] ⊆ P) (h : OnlyParts P s t) :
    OnlyParts P s (State.beginStep t a1) := by
  have m_cal : Part.cal ∈ P := hP (by decide)
  have h0 : ([.cal] : List Part) ⊆ P := List.Subset.trans (by decide) hP
  have h1 : ([.drv, .cal] : List Part) ⊆ P := List.Subset.trans (by decide) hP
  have h2 : ([.drv, .mtx] : List Part) ⊆ P := List.Subset.trans (by decide) hP
  unfold State.beginStep
  repeat' first
    | with_reducible exact h
    | with_reducible refine State.applyLc_parts h0 ?_
    | with_reducible refine State.beginPart_parts h1 ?_
    | with_reducible refine State.restoreLight_parts h2 ?_
    | split
    | dsimp only
    | with_reducible refine OnlyParts.set_cal m_cal ?_

theorem State.bistDone_parts {P : List Part} {s t : State} {a1 a2}
    (hP : [.freeCtr, .regs, .ctrs, .cmd, .glb, .tim, .red, .acq, .slt, .brt] ⊆ P) (h : OnlyParts P s t) :
    OnlyParts P s (State.bistDone t a1 a2) := by
  have h0 : ([.regs, .cmd, .glb, .tim, .slt, .brt] : List Part) ⊆ P := List.Subset.trans (by decide) hP
  have h1 : ([.freeCtr, .regs, .ctrs, .cmd, .red, .acq] : List Part) ⊆ P := List.Subset.trans (by decide) hP
  unfold State.bistDone
  repeat' first
    | with_reducible exact h
    | with_reducible refine State.halt_parts h0 ?_
    | with_reducible refine State.setCtlState_parts h1 ?_
    | split
    | dsimp only

theorem State.resentFrames_parts {P : List Part} {s t : State} {a1} (hP : [.ctrs] ⊆ P) (h : OnlyParts P s t) :
    OnlyParts P s (State.resentFrames t a1) := by
  have h0 : ([.ctrs] : List Part) ⊆ P := List.Subset.trans (by decide) hP
  unfold State.resentFrames
  repeat' first
    | with_reducible exact h
    | with_reducible refine State.countCorrected_parts h0 ?_
    | with_reducible refine State.bump_parts h0 ?_

theorem State.bulkDone_parts {P : List Part} {s t : State} {a1}
    (hP : [.ctrs, .loopA, .loopB, .red] ⊆ P) (h : OnlyParts P s t) :
    OnlyParts P s (State.bulkDone t a1) := by
  have m_red : Part.red ∈ P := hP (by decide)
  have h0 : ([.ctrs] : List Part) ⊆ P := List.Subset.trans (by decide) hP
  have h1 : ([.loopA, .loopB] : List Part) ⊆ P := List.Subset.trans (by decide) hP
  unfold State.bulkDone
  repeat' first
    | with_reducible exact h
    | with_reducible refine State.resentFrames_parts h0 ?_
    | with_reducible refine State.setLoops_parts h1 ?_
    | split
    | dsimp only
    | with_reducible refine OnlyParts.set_red m_red ?_

theorem State.calAdc_parts {P : List Part} {s t : State} {a1} (hP : [.freeCtr, .cal] ⊆ P) (h : OnlyParts P s t) :
    OnlyParts P s (State.calAdc t a1) := by
  have m_cal : Part.cal ∈ P := hP (by decide)
  have h0 : ([.freeCtr] : List Part) ⊆ P := List.Subset.trans (by decide) hP
  unfold State.calAdc
  repeat' first
    | with_reducible exact h
    | with_reducible refine State.free_parts h0 ?_
    | with_reducible refine State.free_parts_eq h0 (by assumption) ?_
    | split
    | dsimp only
    | with_reducible refine OnlyParts.set_cal m_cal ?_

theorem State.calInterpolation_parts {P : List Part} {s t : State}
    (hP : [.regs, .cmd, .loopA, .loopB, .drv, .cal] ⊆ P) (h : OnlyParts P s t) :
    OnlyParts P s (State.calInterpolation t) := by
  have h0 : ([.regs, .cmd, .loopA, .loopB, .drv, .cal] : List Part) ⊆ P := List.Subset.trans (by decide) hP
  unfold State.calInterpolation
  repeat' first
    | with_reducible exact h
    | with_reducible refine State.interpolate_parts h0 ?_
    | split

theorem State.checkPair_parts {P : List Part} {s t : State} {a1} (hP : [.cal] ⊆ P) (h : OnlyParts P s t) :
    OnlyParts P s (State.checkPair t a1) := by
  have h0 : ([.cal] : List Part) ⊆ P := List.Subset.trans (by decide) hP
  unfold State.checkPair
  repeat' first
    | with_reducible exact h
    | with_reducible refine State.setCalSet_parts h0 ?_
    | split
    | dsimp only

theorem State.checkSet_parts {P : List Part} {s t : State} {a1} (hP : [.ctrs, .flt, .cal] ⊆ P) (h : OnlyParts P s t) :
    OnlyParts P s (State.checkSet t a1) := by
  have h0 : ([.ctrs] : List Part) ⊆ P := List.Subset.trans (by decide) hP
  have h1 : ([.cal] : List Part) ⊆ P := List.Subset.trans (by decide) hP
  have h2 : ([.ctrs, .flt] : List Part) ⊆ P := List.Subset.trans (by decide) hP
  unfold State.checkSet
  repeat' first
    | with_reducible exact h
    | with_reducible refine State.bump_parts h0 ?_
    | with_reducible refine State.setCalSet_parts h1 ?_
    | with_reducible refine State.raise_parts h2 ?_
    | split
    | dsimp only

theorem State.checkSets_parts {P : List Part} {s t : State} (hP : [.ctrs, .flt, .cal] ⊆ P) (h : OnlyParts P s t) :
    OnlyParts P s (State.checkSets t) := by
  have h0 : ([.ctrs, .flt, .cal] : List Part) ⊆ P := List.Subset.trans (by decide) hP
  have h1 : ([.cal] : List Part) ⊆ P := List.Subset.trans (by decide) hP
  unfold State.checkSets
  repeat' first
    | with_reducible exact h
    | with_reducible refine State.checkSet_parts h0 ?_
    | with_reducible refine State.checkPair_parts h1 ?_
    | with_reducible assumption
    | with_reducible refine OnlyParts.foldl (fun _ _ _ => ?_) ?_

theorem State.clearOdd_parts {P : List Part} {s t : State} (hP : [.loopA, .loopB, .drv] ⊆ P) (h : OnlyParts P s t) :
    OnlyParts P s (State.clearOdd t) := by
  have h0 : ([.loopA, .loopB, .drv] : List Part) ⊆ P := List.Subset.trans (by decide) hP
  unfold State.clearOdd
  repeat' first
    | with_reducible exact h
    | with_reducible refine State.driveHeater_parts h0 ?_
    | with_reducible assumption
    | with_reducible refine OnlyParts.foldl (fun _ _ _ => ?_) ?_
    | with_reducible refine OnlyParts.foldl_fst (fun _ _ _ => ?_) ?_
    | split

theorem State.loseActive_parts {P : List Part} {s t : State} {a1}
    (hP : [.ctrs, .flt, .red] ⊆ P) (h : OnlyParts P s t) :
    OnlyParts P s (State.loseActive t a1) := by
  have m_red : Part.red ∈ P := hP (by decide)
  have h0 : ([.ctrs, .flt] : List Part) ⊆ P := List.Subset.trans (by decide) hP
  unfold State.loseActive
  repeat' first
    | with_reducible exact h
    | with_reducible refine State.raiseCtl_parts h0 ?_
    | split
    | dsimp only
    | with_reducible refine OnlyParts.set_red m_red ?_

theorem State.shadowRestart_parts {P : List Part} {s t : State} {a1}
    (hP : [.freeCtr, .regs, .ctrs, .cmd, .flt, .red, .acq] ⊆ P) (h : OnlyParts P s t) :
    OnlyParts P s (State.shadowRestart t a1) := by
  have m_red : Part.red ∈ P := hP (by decide)
  have h0 : ([.freeCtr, .regs, .ctrs, .cmd, .flt, .red, .acq] : List Part) ⊆ P := List.Subset.trans (by decide) hP
  unfold State.shadowRestart
  repeat' first
    | with_reducible exact h
    | with_reducible refine State.isolateFaulty_parts h0 ?_
    | split
    | dsimp only
    | with_reducible refine OnlyParts.set_red m_red ?_

theorem State.standbyMismatch_parts {P : List Part} {s t : State} {a1 a2}
    (hP : [.freeCtr, .regs, .ctrs, .cmd, .flt, .red, .acq] ⊆ P) (h : OnlyParts P s t) :
    OnlyParts P s (State.standbyMismatch t a1 a2) := by
  have m_red : Part.red ∈ P := hP (by decide)
  have h0 : ([.freeCtr, .regs, .ctrs, .cmd, .flt, .red, .acq] : List Part) ⊆ P := List.Subset.trans (by decide) hP
  unfold State.standbyMismatch
  repeat' first
    | with_reducible exact h
    | with_reducible refine State.isolateFaulty_parts h0 ?_
    | split
    | dsimp only
    | with_reducible refine OnlyParts.set_red m_red ?_

theorem State.compareEnd_parts {P : List Part} {s t : State}
    (hP : [.freeCtr, .regs, .ctrs, .cmd, .flt, .red, .acq] ⊆ P) (h : OnlyParts P s t) :
    OnlyParts P s (State.compareEnd t) := by
  have m_red : Part.red ∈ P := hP (by decide)
  have h0 : ([.freeCtr, .regs, .ctrs, .cmd, .flt, .red, .acq] : List Part) ⊆ P := List.Subset.trans (by decide) hP
  unfold State.compareEnd
  repeat' first
    | with_reducible exact h
    | with_reducible refine State.shadowRestart_parts h0 ?_
    | with_reducible refine State.standbyMismatch_parts h0 ?_
    | split
    | dsimp only
    | with_reducible refine OnlyParts.set_red m_red ?_

theorem State.controllerLoss_parts {P : List Part} {s t : State} {a1}
    (hP : [.ctrs, .flt, .red] ⊆ P) (h : OnlyParts P s t) :
    OnlyParts P s (State.controllerLoss t a1) := by
  have h0 : ([.ctrs, .flt, .red] : List Part) ⊆ P := List.Subset.trans (by decide) hP
  unfold State.controllerLoss
  repeat' first
    | with_reducible exact h
    | with_reducible refine State.loseActive_parts h0 ?_
    | split

theorem State.controllerScrub_parts {P : List Part} {s t : State} {a1 a2 a3}
    (hP : [.freeCtr, .regs, .ctrs, .cmd, .flt, .red, .acq] ⊆ P) (h : OnlyParts P s t) :
    OnlyParts P s (State.controllerScrub t a1 a2 a3) := by
  have h0 : ([.ctrs] : List Part) ⊆ P := List.Subset.trans (by decide) hP
  have h1 : ([.red] : List Part) ⊆ P := List.Subset.trans (by decide) hP
  have h2 : ([.ctrs, .flt] : List Part) ⊆ P := List.Subset.trans (by decide) hP
  have h3 : ([.freeCtr, .regs, .ctrs, .cmd, .flt, .red, .acq] : List Part) ⊆ P := List.Subset.trans (by decide) hP
  unfold State.controllerScrub
  repeat' first
    | with_reducible exact h
    | with_reducible refine State.countCorrected_parts h0 ?_
    | with_reducible refine State.setCtlRed_parts h1 ?_
    | with_reducible refine State.raiseCtl_parts h2 ?_
    | with_reducible refine State.isolateFaulty_parts h3 ?_
    | split
    | dsimp only

theorem State.convertAll_parts {P : List Part} {s t : State} {a1 a2} (hP : [.ctrs, .adc] ⊆ P) (h : OnlyParts P s t) :
    OnlyParts P s (State.convertAll t a1 a2).2 := by
  unfold State.convertAll
  exact OnlyParts.foldl_snd (fun u x hu => State.convertTap_parts hP hu) h

theorem State.convertAll_parts_eq {P : List Part} {s t v : State} {a1 a2} {x0}
    (hP : [.ctrs, .adc] ⊆ P) (e : State.convertAll t a1 a2 = (x0, v)) (h : OnlyParts P s t) :
    OnlyParts P s v := by
  have := State.convertAll_parts (P := P) (s := s) (a1 := a1) (a2 := a2) hP h
  rw [e] at this
  exact this

theorem State.copyLate_parts {P : List Part} {s t : State} {a1}
    (hP : [.freeCtr, .regs, .ctrs, .cmd, .flt, .red, .acq] ⊆ P) (h : OnlyParts P s t) :
    OnlyParts P s (State.copyLate t a1) := by
  have m_red : Part.red ∈ P := hP (by decide)
  have h0 : ([.ctrs] : List Part) ⊆ P := List.Subset.trans (by decide) hP
  have h1 : ([.freeCtr, .regs, .ctrs, .cmd, .flt, .red, .acq] : List Part) ⊆ P := List.Subset.trans (by decide) hP
  have h2 : ([.regs, .ctrs, .cmd, .red] : List Part) ⊆ P := List.Subset.trans (by decide) hP
  unfold State.copyLate
  repeat' first
    | with_reducible exact h
    | with_reducible refine State.bump_parts h0 ?_
    | with_reducible refine State.isolateFaulty_parts h1 ?_
    | with_reducible refine State.setSuspect_parts h2 ?_
    | split
    | dsimp only
    | with_reducible refine OnlyParts.set_red m_red ?_

theorem State.copyReceived_parts {P : List Part} {s t : State} {a1}
    (hP : [.regs, .ctrs, .cmd, .red] ⊆ P) (h : OnlyParts P s t) :
    OnlyParts P s (State.copyReceived t a1) := by
  have m_red : Part.red ∈ P := hP (by decide)
  have h0 : ([.ctrs] : List Part) ⊆ P := List.Subset.trans (by decide) hP
  have h1 : ([.regs, .ctrs, .cmd, .red] : List Part) ⊆ P := List.Subset.trans (by decide) hP
  unfold State.copyReceived
  repeat' first
    | with_reducible exact h
    | with_reducible refine State.bump_parts h0 ?_
    | with_reducible refine State.resentFrames_parts h0 ?_
    | with_reducible refine State.setSuspect_parts h1 ?_
    | split
    | dsimp only
    | with_reducible refine OnlyParts.set_red m_red ?_

theorem State.decAdjust_parts {P : List Part} {s t : State} {a1} (hP : [.acq] ⊆ P) (h : OnlyParts P s t) :
    OnlyParts P s (State.decAdjust t a1) := by
  have h0 : ([.acq] : List Part) ⊆ P := List.Subset.trans (by decide) hP
  unfold State.decAdjust
  repeat' first
    | with_reducible exact h
    | with_reducible refine State.setLoupe_parts h0 ?_
    | split
    | dsimp only

theorem State.deltaDone_parts {P : List Part} {s t : State} (hP : [.red] ⊆ P) (h : OnlyParts P s t) :
    OnlyParts P s (State.deltaDone t) := by
  have m_red : Part.red ∈ P := hP (by decide)
  unfold State.deltaDone
  repeat' first
    | with_reducible exact h
    | split
    | dsimp only
    | with_reducible refine OnlyParts.set_red m_red ?_

theorem State.drivePoint_parts {P : List Part} {s t : State} {a1}
    (hP : [.loopA, .loopB, .drv] ⊆ P) (h : OnlyParts P s t) :
    OnlyParts P s (State.drivePoint t a1) := by
  have h0 : ([.drv] : List Part) ⊆ P := List.Subset.trans (by decide) hP
  have h1 : ([.loopA, .loopB, .drv] : List Part) ⊆ P := List.Subset.trans (by decide) hP
  unfold State.drivePoint
  repeat' first
    | with_reducible exact h
    | with_reducible refine State.driveLevels_parts h0 ?_
    | with_reducible refine State.driveHeater_parts h1 ?_
    | split

theorem State.holdBest_parts {P : List Part} {s t : State} {a1}
    (hP : [.loopA, .loopB, .drv] ⊆ P) (h : OnlyParts P s t) :
    OnlyParts P s (State.holdBest t a1) := by
  have h0 : ([.loopA, .loopB, .drv] : List Part) ⊆ P := List.Subset.trans (by decide) hP
  unfold State.holdBest
  repeat' first
    | with_reducible exact h
    | with_reducible refine State.driveHeater_parts h0 ?_
    | split

theorem State.setMeas_parts {P : List Part} {s t : State} {a1 a2} (hP : [.cal] ⊆ P) (h : OnlyParts P s t) :
    OnlyParts P s (State.setMeas t a1 a2) := by
  have m_cal : Part.cal ∈ P := hP (by decide)
  unfold State.setMeas
  repeat' first
    | with_reducible exact h
    | dsimp only
    | with_reducible refine OnlyParts.set_cal m_cal ?_

theorem State.endElem_parts {P : List Part} {s t : State} {a1}
    (hP : [.ctrs, .flt, .loopA, .loopB, .drv, .cal] ⊆ P) (h : OnlyParts P s t) :
    OnlyParts P s (State.endElem t a1) := by
  have h0 : ([.cal] : List Part) ⊆ P := List.Subset.trans (by decide) hP
  have h1 : ([.ctrs, .flt, .loopA, .loopB, .drv, .cal] : List Part) ⊆ P := List.Subset.trans (by decide) hP
  have h2 : ([.loopA, .loopB, .drv] : List Part) ⊆ P := List.Subset.trans (by decide) hP
  have h3 : ([.loopA, .loopB, .drv, .cal] : List Part) ⊆ P := List.Subset.trans (by decide) hP
  unfold State.endElem
  repeat' first
    | with_reducible exact h
    | with_reducible refine State.applyResp_parts h0 ?_
    | with_reducible refine State.applySweep_parts h1 ?_
    | with_reducible refine State.holdBest_parts h2 ?_
    | with_reducible refine State.applyLevels_parts h3 ?_
    | with_reducible refine State.setMeas_parts h0 ?_
    | split

theorem State.settleRange_parts {P : List Part} {s t : State} {a1} (hP : [.drv, .cal] ⊆ P) (h : OnlyParts P s t) :
    OnlyParts P s (State.settleRange t a1) := by
  have h0 : ([.cal] : List Part) ⊆ P := List.Subset.trans (by decide) hP
  have h1 : ([.drv] : List Part) ⊆ P := List.Subset.trans (by decide) hP
  unfold State.settleRange
  repeat' first
    | with_reducible exact h
    | with_reducible refine State.setCalElem_parts h0 ?_
    | with_reducible refine State.beginRange_parts h1 ?_
    | split
    | dsimp only

theorem State.endPart_parts {P : List Part} {s t : State}
    (hP : [.ctrs, .flt, .loopA, .loopB, .drv, .cal] ⊆ P) (h : OnlyParts P s t) :
    OnlyParts P s (State.endPart t) := by
  have m_cal : Part.cal ∈ P := hP (by decide)
  have h0 : ([.ctrs, .flt, .loopA, .loopB, .drv, .cal] : List Part) ⊆ P := List.Subset.trans (by decide) hP
  have h1 : ([.drv, .cal] : List Part) ⊆ P := List.Subset.trans (by decide) hP
  unfold State.endPart
  repeat' first
    | with_reducible exact h
    | with_reducible refine State.endElem_parts h0 ?_
    | with_reducible refine State.settleRange_parts h1 ?_
    | with_reducible refine State.beginPart_parts h1 ?_
    | with_reducible assumption
    | with_reducible refine OnlyParts.foldl (fun _ _ _ => ?_) ?_
    | with_reducible refine OnlyParts.foldl_fst (fun _ _ _ => ?_) ?_
    | split
    | dsimp only
    | with_reducible refine OnlyParts.set_cal m_cal ?_

theorem State.engineTest_parts {P : List Part} {s t : State} {a1}
    (hP : [.regs, .ctrs, .cmd, .flt, .loopA, .loopB, .red] ⊆ P) (h : OnlyParts P s t) :
    OnlyParts P s (State.engineTest t a1) := by
  have m_red : Part.red ∈ P := hP (by decide)
  have h0 : ([.red] : List Part) ⊆ P := List.Subset.trans (by decide) hP
  have h1 : ([.loopA, .loopB] : List Part) ⊆ P := List.Subset.trans (by decide) hP
  have h2 : ([.regs, .ctrs, .cmd, .flt, .loopA, .loopB] : List Part) ⊆ P := List.Subset.trans (by decide) hP
  unfold State.engineTest
  repeat' first
    | with_reducible exact h
    | with_reducible refine State.setCtlRed_parts h0 ?_
    | with_reducible refine State.setEngine_parts h1 ?_
    | with_reducible refine State.engineFaulty_parts h2 ?_
    | split
    | dsimp only
    | with_reducible refine OnlyParts.set_red m_red ?_

theorem State.healthReport_parts {P : List Part} {s t : State} (hP : [.red] ⊆ P) (h : OnlyParts P s t) :
    OnlyParts P s (State.healthReport t) := by
  have m_red : Part.red ∈ P := hP (by decide)
  unfold State.healthReport
  repeat' first
    | with_reducible exact h
    | dsimp only
    | with_reducible refine OnlyParts.set_red m_red ?_

theorem State.updateCalTemp_parts {P : List Part} {s t : State} (hP : [.cal] ⊆ P) (h : OnlyParts P s t) :
    OnlyParts P s (State.updateCalTemp t) := by
  have m_cal : Part.cal ∈ P := hP (by decide)
  unfold State.updateCalTemp
  repeat' first
    | with_reducible exact h
    | split
    | dsimp only
    | with_reducible refine OnlyParts.set_cal m_cal ?_

theorem State.toHoldoff_parts {P : List Part} {s t : State} {a1} (hP : [.acq] ⊆ P) (h : OnlyParts P s t) :
    OnlyParts P s (State.toHoldoff t a1) := by
  have h0 : ([.acq] : List Part) ⊆ P := List.Subset.trans (by decide) hP
  unfold State.toHoldoff
  repeat' first
    | with_reducible exact h
    | with_reducible refine State.setLoupe_parts h0 ?_
    | with_reducible refine State.decAdjust_parts h0 ?_

theorem State.trigOffset_parts {P : List Part} {s t : State} {a1} (hP : [.freeCtr] ⊆ P) (h : OnlyParts P s t) :
    OnlyParts P s (State.trigOffset t a1).2 := by
  have h0 : ([.freeCtr] : List Part) ⊆ P := List.Subset.trans (by decide) hP
  unfold State.trigOffset
  repeat' first
    | with_reducible exact h
    | with_reducible refine State.free_parts h0 ?_
    | with_reducible refine State.free_parts_eq h0 (by assumption) ?_
    | split

theorem State.trigOffset_parts_eq {P : List Part} {s t v : State} {a1} {x0}
    (hP : [.freeCtr] ⊆ P) (e : State.trigOffset t a1 = (x0, v)) (h : OnlyParts P s t) :
    OnlyParts P s v := by
  have := State.trigOffset_parts (P := P) (s := s) (a1 := a1) hP h
  rw [e] at this
  exact this

theorem State.fire_parts {P : List Part} {s t : State} {a1}
    (hP : [.freeCtr, .regs, .ctrs, .cmd, .acq] ⊆ P) (h : OnlyParts P s t) :
    OnlyParts P s (State.fire t a1) := by
  have h0 : ([.ctrs] : List Part) ⊆ P := List.Subset.trans (by decide) hP
  have h1 : ([.acq] : List Part) ⊆ P := List.Subset.trans (by decide) hP
  have h2 : ([.freeCtr, .regs, .ctrs, .cmd, .acq] : List Part) ⊆ P := List.Subset.trans (by decide) hP
  have h3 : ([.freeCtr] : List Part) ⊆ P := List.Subset.trans (by decide) hP
  unfold State.fire
  repeat' first
    | with_reducible exact h
    | with_reducible refine State.bump_parts h0 ?_
    | with_reducible refine State.setLoupe_parts h1 ?_
    | with_reducible refine State.toHoldoff_parts h1 ?_
    | with_reducible refine State.stopUnit_parts h2 ?_
    | with_reducible refine State.trigOffset_parts h3 ?_
    | with_reducible refine State.trigOffset_parts_eq h3 (by assumption) ?_
    | split
    | dsimp only

theorem State.followSwitch_parts {P : List Part} {s t : State} {a1}
    (hP : [.freeCtr, .regs, .ctrs, .cmd, .glb, .red, .acq] ⊆ P) (h : OnlyParts P s t) :
    OnlyParts P s (State.followSwitch t a1) := by
  have h0 : ([.red] : List Part) ⊆ P := List.Subset.trans (by decide) hP
  have h1 : ([.glb] : List Part) ⊆ P := List.Subset.trans (by decide) hP
  have h2 : ([.freeCtr, .regs, .ctrs, .cmd, .red, .acq] : List Part) ⊆ P := List.Subset.trans (by decide) hP
  unfold State.followSwitch
  repeat' first
    | with_reducible exact h
    | with_reducible refine State.setCtlRed_parts h0 ?_
    | with_reducible refine State.setDom_parts h1 ?_
    | with_reducible refine State.isolateCtl_parts h2 ?_
    | split

theorem State.fullDone_parts {P : List Part} {s t : State}
    (hP : [.freeCtr, .regs, .cmd, .glb, .loopA, .loopB, .loopS, .cal, .acq] ⊆ P) (h : OnlyParts P s t) :
    OnlyParts P s (State.fullDone t) := by
  have m_cal : Part.cal ∈ P := hP (by decide)
  have h0 : ([.regs, .cmd, .cal] : List Part) ⊆ P := List.Subset.trans (by decide) hP
  have h1 : ([.freeCtr, .glb] : List Part) ⊆ P := List.Subset.trans (by decide) hP
  have h2 : ([.regs, .cmd, .glb, .loopA, .loopB, .loopS, .acq] : List Part) ⊆ P := List.Subset.trans (by decide) hP
  unfold State.fullDone
  repeat' first
    | with_reducible exact h
    | with_reducible refine State.beginStore_parts h0 ?_
    | with_reducible refine State.stepEnd_parts h1 ?_
    | with_reducible refine State.enterLocking_parts h2 ?_
    | split
    | dsimp only
    | with_reducible refine OnlyParts.set_cal m_cal ?_

theorem State.nextPoint_parts {P : List Part} {s t : State}
    (hP : [.ctrs, .flt, .loopA, .loopB, .drv, .cal] ⊆ P) (h : OnlyParts P s t) :
    OnlyParts P s (State.nextPoint t) := by
  have m_cal : Part.cal ∈ P := hP (by decide)
  have h0 : ([.ctrs, .flt, .loopA, .loopB, .drv, .cal] : List Part) ⊆ P := List.Subset.trans (by decide) hP
  unfold State.nextPoint
  repeat' first
    | with_reducible exact h
    | with_reducible refine State.endPart_parts h0 ?_
    | split
    | dsimp only
    | with_reducible refine OnlyParts.set_cal m_cal ?_

theorem State.measureTaps_parts {P : List Part} {s t : State} {a1}
    (hP : [.ctrs, .flt, .loopA, .loopB, .drv, .cal] ⊆ P) (h : OnlyParts P s t) :
    OnlyParts P s (State.measureTaps t a1) := by
  have m_cal : Part.cal ∈ P := hP (by decide)
  have h0 : ([.ctrs, .flt, .cal] : List Part) ⊆ P := List.Subset.trans (by decide) hP
  have h1 : ([.ctrs, .flt, .loopA, .loopB, .drv, .cal] : List Part) ⊆ P := List.Subset.trans (by decide) hP
  have h2 : ([.cal] : List Part) ⊆ P := List.Subset.trans (by decide) hP
  unfold State.measureTaps
  repeat' first
    | with_reducible exact h
    | with_reducible refine State.skipElem_parts h0 ?_
    | with_reducible refine State.nextPoint_parts h1 ?_
    | with_reducible refine State.applyRefs_parts h2 ?_
    | with_reducible refine State.setMeas_parts h2 ?_
    | with_reducible assumption
    | with_reducible refine OnlyParts.foldl (fun _ _ _ => ?_) ?_
    | with_reducible refine OnlyParts.foldl_fst (fun _ _ _ => ?_) ?_
    | split
    | dsimp only
    | with_reducible refine OnlyParts.set_cal m_cal ?_

theorem State.pointSelects_parts {P : List Part} {s t : State} (hP : [.drv] ⊆ P) (h : OnlyParts P s t) :
    OnlyParts P s (State.pointSelects t) := by
  have m_drv : Part.drv ∈ P := hP (by decide)
  have h0 : ([.drv] : List Part) ⊆ P := List.Subset.trans (by decide) hP
  unfold State.pointSelects
  repeat' first
    | with_reducible exact h
    | with_reducible refine State.setSelector_parts h0 ?_
    | with_reducible assumption
    | with_reducible refine OnlyParts.foldl (fun _ _ _ => ?_) ?_
    | with_reducible refine OnlyParts.foldl_fst (fun _ _ _ => ?_) ?_
    | split
    | dsimp only
    | with_reducible refine OnlyParts.set_drv m_drv ?_

theorem State.pointEmitters_parts {P : List Part} {s t : State} (hP : [.mtx] ⊆ P) (h : OnlyParts P s t) :
    OnlyParts P s (State.pointEmitters t) := by
  have h0 : ([.mtx] : List Part) ⊆ P := List.Subset.trans (by decide) hP
  unfold State.pointEmitters
  repeat' first
    | with_reducible exact h
    | with_reducible refine State.setEmitters_parts h0 ?_
    | split

theorem State.setPoint_parts {P : List Part} {s t : State}
    (hP : [.loopA, .loopB, .drv, .mtx, .cal] ⊆ P) (h : OnlyParts P s t) :
    OnlyParts P s (State.setPoint t) := by
  have m_cal : Part.cal ∈ P := hP (by decide)
  have h0 : ([.drv] : List Part) ⊆ P := List.Subset.trans (by decide) hP
  have h1 : ([.loopA, .loopB, .drv] : List Part) ⊆ P := List.Subset.trans (by decide) hP
  have h2 : ([.mtx] : List Part) ⊆ P := List.Subset.trans (by decide) hP
  unfold State.setPoint
  repeat' first
    | with_reducible exact h
    | with_reducible refine State.pointSelects_parts h0 ?_
    | with_reducible refine State.drivePoint_parts h1 ?_
    | with_reducible refine State.clearOdd_parts h1 ?_
    | with_reducible refine State.pointEmitters_parts h2 ?_
    | with_reducible assumption
    | with_reducible refine OnlyParts.foldl (fun _ _ _ => ?_) ?_
    | with_reducible refine OnlyParts.foldl_fst (fun _ _ _ => ?_) ?_
    | dsimp only
    | with_reducible refine OnlyParts.set_cal m_cal ?_

theorem State.fullSample_parts {P : List Part} {s t : State}
    (hP : [.ctrs, .flt, .loopA, .loopB, .drv, .mtx, .cal] ⊆ P) (h : OnlyParts P s t) :
    OnlyParts P s (State.fullSample t) := by
  have h0 : ([.ctrs, .flt, .loopA, .loopB, .drv, .cal] : List Part) ⊆ P := List.Subset.trans (by decide) hP
  have h1 : ([.loopA, .loopB, .drv, .mtx, .cal] : List Part) ⊆ P := List.Subset.trans (by decide) hP
  unfold State.fullSample
  repeat' first
    | with_reducible exact h
    | with_reducible refine State.measureTaps_parts h0 ?_
    | with_reducible refine State.setPoint_parts h1 ?_
    | split
    | dsimp only

theorem State.fullStep_parts {P : List Part} {s t : State} {a1}
    (hP : [.freeCtr, .drv, .mtx, .cal] ⊆ P) (h : OnlyParts P s t) :
    OnlyParts P s (State.fullStep t a1) := by
  have m_cal : Part.cal ∈ P := hP (by decide)
  have h0 : ([.freeCtr, .cal] : List Part) ⊆ P := List.Subset.trans (by decide) hP
  have h1 : ([.drv, .mtx, .cal] : List Part) ⊆ P := List.Subset.trans (by decide) hP
  unfold State.fullStep
  repeat' first
    | with_reducible exact h
    | with_reducible refine State.calAdc_parts h0 ?_
    | with_reducible refine State.beginStep_parts h1 ?_
    | with_reducible assumption
    | with_reducible refine OnlyParts.foldl (fun _ _ _ => ?_) ?_
    | with_reducible refine OnlyParts.foldl_fst (fun _ _ _ => ?_) ?_
    | split
    | dsimp only
    | with_reducible refine OnlyParts.set_cal m_cal ?_

theorem State.gapEnds_parts {P : List Part} {s t : State} (hP : [.drv, .red] ⊆ P) (h : OnlyParts P s t) :
    OnlyParts P s (State.gapEnds t) := by
  have m_red : Part.red ∈ P := hP (by decide)
  have h0 : ([.drv] : List Part) ⊆ P := List.Subset.trans (by decide) hP
  unfold State.gapEnds
  repeat' first
    | with_reducible exact h
    | with_reducible refine State.applyHeaters_parts h0 ?_
    | split
    | dsimp only
    | with_reducible refine OnlyParts.set_red m_red ?_

theorem State.prefillDone_parts {P : List Part} {s t : State} {a1} (hP : [.acq] ⊆ P) (h : OnlyParts P s t) :
    OnlyParts P s (State.prefillDone t a1) := by
  have h0 : ([.acq] : List Part) ⊆ P := List.Subset.trans (by decide) hP
  unfold State.prefillDone
  repeat' first
    | with_reducible exact h
    | with_reducible refine State.setLoupe_parts h0 ?_
    | split
    | dsimp only

theorem State.rearm_parts {P : List Part} {s t : State} {a1} (hP : [.acq] ⊆ P) (h : OnlyParts P s t) :
    OnlyParts P s (State.rearm t a1) := by
  have h0 : ([.acq] : List Part) ⊆ P := List.Subset.trans (by decide) hP
  unfold State.rearm
  repeat' first
    | with_reducible exact h
    | with_reducible refine State.setLoupe_parts h0 ?_
    | split
    | dsimp only

theorem State.holdoffEnd_parts {P : List Part} {s t : State} {a1 a2} (hP : [.acq] ⊆ P) (h : OnlyParts P s t) :
    OnlyParts P s (State.holdoffEnd t a1 a2) := by
  have h0 : ([.acq] : List Part) ⊆ P := List.Subset.trans (by decide) hP
  unfold State.holdoffEnd
  repeat' first
    | with_reducible exact h
    | with_reducible refine State.rearm_parts h0 ?_
    | split

theorem State.recordWritten_parts {P : List Part} {s t : State} {a1}
    (hP : [.freeCtr, .regs, .ctrs, .cmd, .acq] ⊆ P) (h : OnlyParts P s t) :
    OnlyParts P s (State.recordWritten t a1) := by
  have h0 : ([.freeCtr, .regs, .ctrs, .cmd, .acq] : List Part) ⊆ P := List.Subset.trans (by decide) hP
  have h1 : ([.acq] : List Part) ⊆ P := List.Subset.trans (by decide) hP
  have h2 : ([.regs, .cmd] : List Part) ⊆ P := List.Subset.trans (by decide) hP
  unfold State.recordWritten
  repeat' first
    | with_reducible exact h
    | with_reducible refine State.writeRecord_parts h0 ?_
    | with_reducible refine State.setLoupe_parts h1 ?_
    | with_reducible refine State.toHoldoff_parts h1 ?_
    | with_reducible refine State.loupeIrq_parts h2 ?_
    | split
    | dsimp only

theorem State.stageOver_parts {P : List Part} {s t : State} {a1 a2}
    (hP : [.freeCtr, .regs, .ctrs, .cmd, .acq] ⊆ P) (h : OnlyParts P s t) :
    OnlyParts P s (State.stageOver t a1 a2) := by
  have h0 : ([.freeCtr, .regs, .ctrs, .cmd, .acq] : List Part) ⊆ P := List.Subset.trans (by decide) hP
  have h1 : ([.acq] : List Part) ⊆ P := List.Subset.trans (by decide) hP
  unfold State.stageOver
  repeat' first
    | with_reducible exact h
    | with_reducible refine State.fire_parts h0 ?_
    | with_reducible refine State.prefillDone_parts h1 ?_
    | with_reducible refine State.holdoffEnd_parts h1 ?_
    | with_reducible refine State.recordWritten_parts h0 ?_
    | split

theorem State.sampleIn_parts {P : List Part} {s t : State} {a1 a2} (hP : [.ctrs, .acq] ⊆ P) (h : OnlyParts P s t) :
    OnlyParts P s (State.sampleIn t a1 a2) := by
  have h0 : ([.ctrs] : List Part) ⊆ P := List.Subset.trans (by decide) hP
  have h1 : ([.acq] : List Part) ⊆ P := List.Subset.trans (by decide) hP
  unfold State.sampleIn
  repeat' first
    | with_reducible exact h
    | with_reducible refine State.bump_parts h0 ?_
    | with_reducible refine State.setLoupe_parts h1 ?_
    | split
    | dsimp only

theorem State.sourceSample_parts {P : List Part} {s t : State} {a1 a2}
    (hP : [.freeCtr, .regs, .ctrs, .cmd, .acq] ⊆ P) (h : OnlyParts P s t) :
    OnlyParts P s (State.sourceSample t a1 a2) := by
  have h0 : ([.freeCtr, .regs, .ctrs, .cmd, .acq] : List Part) ⊆ P := List.Subset.trans (by decide) hP
  have h1 : ([.ctrs, .acq] : List Part) ⊆ P := List.Subset.trans (by decide) hP
  unfold State.sourceSample
  repeat' first
    | with_reducible exact h
    | with_reducible refine State.stageOver_parts h0 ?_
    | with_reducible refine State.sampleIn_parts h1 ?_
    | split
    | dsimp only

theorem State.slotSampleAt_parts {P : List Part} {s t : State} {a1}
    (hP : [.freeCtr, .regs, .ctrs, .cmd, .acq] ⊆ P) (h : OnlyParts P s t) :
    OnlyParts P s (State.slotSampleAt t a1) := by
  have h0 : ([.freeCtr, .regs, .ctrs, .cmd, .acq] : List Part) ⊆ P := List.Subset.trans (by decide) hP
  unfold State.slotSampleAt
  repeat' first
    | with_reducible exact h
    | with_reducible refine State.sourceSample_parts h0 ?_
    | split
    | dsimp only

theorem State.lateUnits_parts {P : List Part} {s t : State}
    (hP : [.freeCtr, .regs, .ctrs, .cmd, .flt, .adc, .acq] ⊆ P) (h : OnlyParts P s t) :
    OnlyParts P s (State.lateUnits t) := by
  have m_adc : Part.adc ∈ P := hP (by decide)
  have h0 : ([.freeCtr, .regs, .ctrs, .cmd, .flt, .adc, .acq] : List Part) ⊆ P := List.Subset.trans (by decide) hP
  unfold State.lateUnits
  repeat' first
    | with_reducible exact h
    | with_reducible refine State.auFailed_parts h0 ?_
    | with_reducible assumption
    | with_reducible refine OnlyParts.foldl (fun _ _ _ => ?_) ?_
    | with_reducible refine OnlyParts.foldl_fst (fun _ _ _ => ?_) ?_
    | split
    | dsimp only
    | with_reducible refine OnlyParts.set_adc m_adc ?_

theorem State.lentRan_parts {P : List Part} {s t : State} {a1} (hP : [.adc] ⊆ P) (h : OnlyParts P s t) :
    OnlyParts P s (State.lentRan t a1) := by
  have h0 : ([.adc] : List Part) ⊆ P := List.Subset.trans (by decide) hP
  unfold State.lentRan
  repeat' first
    | with_reducible exact h
    | with_reducible refine State.setAu_parts h0 ?_
    | split

theorem State.lendBoundary_parts {P : List Part} {s t : State} {a1} (hP : [.adc, .acq] ⊆ P) (h : OnlyParts P s t) :
    OnlyParts P s (State.lendBoundary t a1) := by
  have h0 : ([.adc, .acq] : List Part) ⊆ P := List.Subset.trans (by decide) hP
  have h1 : ([.acq] : List Part) ⊆ P := List.Subset.trans (by decide) hP
  have h2 : ([.adc] : List Part) ⊆ P := List.Subset.trans (by decide) hP
  unfold State.lendBoundary
  repeat' first
    | with_reducible exact h
    | with_reducible refine State.endLend_parts h0 ?_
    | with_reducible refine State.setLoupe_parts h1 ?_
    | with_reducible refine State.lentRan_parts h2 ?_
    | with_reducible refine State.setAu_parts h2 ?_
    | split
    | dsimp only

theorem State.lendLimit_parts {P : List Part} {s t : State} {a1}
    (hP : [.freeCtr, .regs, .ctrs, .cmd, .adc, .acq] ⊆ P) (h : OnlyParts P s t) :
    OnlyParts P s (State.lendLimit t a1) := by
  have h0 : ([.adc, .acq] : List Part) ⊆ P := List.Subset.trans (by decide) hP
  have h1 : ([.freeCtr, .regs, .ctrs, .cmd, .acq] : List Part) ⊆ P := List.Subset.trans (by decide) hP
  unfold State.lendLimit
  repeat' first
    | with_reducible exact h
    | with_reducible refine State.endLend_parts h0 ?_
    | with_reducible refine State.stopUnit_parts h1 ?_
    | split
    | dsimp only

theorem State.loadLatest_parts {P : List Part} {s t : State} (hP : [.drv, .cal] ⊆ P) (h : OnlyParts P s t) :
    OnlyParts P s (State.loadLatest t) := by
  have m_cal : Part.cal ∈ P := hP (by decide)
  have h0 : ([.drv] : List Part) ⊆ P := List.Subset.trans (by decide) hP
  unfold State.loadLatest
  repeat' first
    | with_reducible exact h
    | with_reducible refine State.setChan_parts h0 ?_
    | with_reducible assumption
    | with_reducible refine OnlyParts.foldl (fun _ _ _ => ?_) ?_
    | with_reducible refine OnlyParts.foldl_fst (fun _ _ _ => ?_) ?_
    | split
    | dsimp only
    | with_reducible refine OnlyParts.set_cal m_cal ?_

theorem State.loopSampleAt_parts {P : List Part} {s t : State} {a1}
    (hP : [.freeCtr, .regs, .ctrs, .cmd, .acq] ⊆ P) (h : OnlyParts P s t) :
    OnlyParts P s (State.loopSampleAt t a1) := by
  have h0 : ([.freeCtr, .regs, .ctrs, .cmd, .acq] : List Part) ⊆ P := List.Subset.trans (by decide) hP
  unfold State.loopSampleAt
  repeat' first
    | with_reducible exact h
    | with_reducible refine State.sourceSample_parts h0 ?_
    | split
    | dsimp only

theorem State.nameStage_parts {P : List Part} {s t : State} (hP : [.loopS, .cal, .slt] ⊆ P) (h : OnlyParts P s t) :
    OnlyParts P s (State.nameStage t) := by
  have m_cal : Part.cal ∈ P := hP (by decide)
  have m_loopS : Part.loopS ∈ P := hP (by decide)
  have h0 : ([.loopS, .cal, .slt] : List Part) ⊆ P := List.Subset.trans (by decide) hP
  unfold State.nameStage
  repeat' first
    | with_reducible exact h
    | with_reducible refine State.abandonStage_parts h0 ?_
    | split
    | dsimp only
    | with_reducible refine OnlyParts.set_cal m_cal ?_
    | with_reducible refine OnlyParts.set_loopS m_loopS ?_
    | with_reducible refine OnlyParts.set_loopS_cal m_loopS m_cal ?_

theorem State.sendCopy_parts {P : List Part} {s t : State} (hP : [.loopA, .loopB, .red] ⊆ P) (h : OnlyParts P s t) :
    OnlyParts P s (State.sendCopy t) := by
  have m_red : Part.red ∈ P := hP (by decide)
  have h0 : ([.loopA, .loopB] : List Part) ⊆ P := List.Subset.trans (by decide) hP
  unfold State.sendCopy
  repeat' first
    | with_reducible exact h
    | with_reducible refine State.setLoops_parts h0 ?_
    | split
    | dsimp only
    | with_reducible refine OnlyParts.set_red m_red ?_

theorem State.loupeFeed_parts {P : List Part} {s t : State} {a1 a2}
    (hP : [.freeCtr, .regs, .ctrs, .cmd, .acq] ⊆ P) (h : OnlyParts P s t) :
    OnlyParts P s (State.loupeFeed t a1 a2) := by
  induction a2 generalizing t with
  | nil => exact h
  | cons w l ih =>
    simp only [State.loupeFeed]
    split
    · exact ih (State.sourceSample_parts hP h)
    · exact h

theorem State.selftestDone_parts {P : List Part} {s t : State} {a1 a2}
    (hP : [.freeCtr, .regs, .ctrs, .cmd, .flt, .red, .acq] ⊆ P) (h : OnlyParts P s t) :
    OnlyParts P s (State.selftestDone t a1 a2) := by
  have m_red : Part.red ∈ P := hP (by decide)
  have h0 : ([.freeCtr, .regs, .ctrs, .cmd, .flt, .red, .acq] : List Part) ⊆ P := List.Subset.trans (by decide) hP
  have h1 : ([.freeCtr, .regs, .ctrs, .cmd, .red, .acq] : List Part) ⊆ P := List.Subset.trans (by decide) hP
  unfold State.selftestDone
  repeat' first
    | with_reducible exact h
    | with_reducible refine State.isolateFaulty_parts h0 ?_
    | with_reducible refine State.setCtlState_parts h1 ?_
    | split
    | dsimp only
    | with_reducible refine OnlyParts.set_red m_red ?_

theorem State.settleDone_parts {P : List Part} {s t : State} {a1} (hP : [.acq] ⊆ P) (h : OnlyParts P s t) :
    OnlyParts P s (State.settleDone t a1) := by
  have h0 : ([.acq] : List Part) ⊆ P := List.Subset.trans (by decide) hP
  unfold State.settleDone
  repeat' first
    | with_reducible exact h
    | with_reducible refine State.setLoupe_parts h0 ?_
    | split
    | dsimp only

theorem State.shadowDone_parts {P : List Part} {s t : State}
    (hP : [.freeCtr, .regs, .ctrs, .cmd, .red, .acq] ⊆ P) (h : OnlyParts P s t) :
    OnlyParts P s (State.shadowDone t) := by
  have m_red : Part.red ∈ P := hP (by decide)
  have h0 : ([.freeCtr, .regs, .ctrs, .cmd, .red, .acq] : List Part) ⊆ P := List.Subset.trans (by decide) hP
  unfold State.shadowDone
  repeat' first
    | with_reducible exact h
    | with_reducible refine State.setCtlState_parts h0 ?_
    | split
    | dsimp only
    | with_reducible refine OnlyParts.set_red m_red ?_

theorem State.sliceEvent_parts {P : List Part} {s t : State} {a1 a2 a3 a4 a5}
    (hP : [.freeCtr, .regs, .ctrs, .cmd, .flt, .adc, .acq] ⊆ P) (h : OnlyParts P s t) :
    OnlyParts P s (State.sliceEvent t a1 a2 a3 a4 a5) := by
  have h0 : ([.freeCtr, .regs, .ctrs, .cmd, .flt, .adc, .acq] : List Part) ⊆ P := List.Subset.trans (by decide) hP
  have h1 : ([.adc] : List Part) ⊆ P := List.Subset.trans (by decide) hP
  unfold State.sliceEvent
  repeat' first
    | with_reducible exact h
    | with_reducible refine State.auFailed_parts h0 ?_
    | with_reducible refine State.sliceCorrection_parts h1 ?_
    | split

theorem State.trialsEnd_parts {P : List Part} {s t : State} (hP : [.loopS, .cal] ⊆ P) (h : OnlyParts P s t) :
    OnlyParts P s (State.trialsEnd t) := by
  have m_cal : Part.cal ∈ P := hP (by decide)
  have h0 : ([.loopS] : List Part) ⊆ P := List.Subset.trans (by decide) hP
  unfold State.trialsEnd
  repeat' first
    | with_reducible exact h
    | with_reducible refine State.endStale_parts h0 ?_
    | split
    | dsimp only
    | with_reducible refine OnlyParts.set_cal m_cal ?_

theorem State.stageApply_parts {P : List Part} {s t : State}
    (hP : [.freeCtr, .ctrs, .loopA, .loopB, .loopS, .drv, .cal] ⊆ P) (h : OnlyParts P s t) :
    OnlyParts P s (State.stageApply t) := by
  have h0 : ([.freeCtr, .ctrs, .loopA, .loopB, .loopS, .drv,
    .cal] : List Part) ⊆ P := List.Subset.trans (by decide) hP
  unfold State.stageApply
  repeat' first
    | with_reducible exact h
    | with_reducible refine State.applyStage_parts h0 ?_
    | split

theorem State.storeComplete_parts {P : List Part} {s t : State} (hP : [.regs, .cmd, .cal] ⊆ P) (h : OnlyParts P s t) :
    OnlyParts P s (State.storeComplete t) := by
  have m_cal : Part.cal ∈ P := hP (by decide)
  have h0 : ([.regs, .cmd] : List Part) ⊆ P := List.Subset.trans (by decide) hP
  have h1 : ([.regs, .cmd, .cal] : List Part) ⊆ P := List.Subset.trans (by decide) hP
  have h2 : ([.cal] : List Part) ⊆ P := List.Subset.trans (by decide) hP
  unfold State.storeComplete
  repeat' first
    | with_reducible exact h
    | with_reducible refine State.irqIf_parts h0 ?_
    | with_reducible refine State.beginStore_parts h1 ?_
    | with_reducible refine State.setCalSet_parts h2 ?_
    | split
    | dsimp only
    | with_reducible refine OnlyParts.set_cal m_cal ?_

theorem State.suspectClear_parts {P : List Part} {s t : State} (hP : [.red] ⊆ P) (h : OnlyParts P s t) :
    OnlyParts P s (State.suspectClear t) := by
  have h0 : ([.red] : List Part) ⊆ P := List.Subset.trans (by decide) hP
  unfold State.suspectClear
  repeat' first
    | with_reducible exact h
    | with_reducible refine State.setCtlRed_parts h0 ?_
    | split

theorem State.switchTo_parts {P : List Part} {s t : State} {a1 a2 a3}
    (hP : [.freeCtr, .regs, .ctrs, .cmd, .flt, .glb, .loopS, .cal, .red, .acq, .slt, .brt] ⊆ P)
    (h : OnlyParts P s t) :
    OnlyParts P s (State.switchTo t a1 a2 a3) := by
  have m_red : Part.red ∈ P := hP (by decide)
  have h0 : ([.freeCtr, .regs, .ctrs, .cmd, .glb, .red, .acq] : List Part) ⊆ P := List.Subset.trans (by decide) hP
  have h1 : ([.red] : List Part) ⊆ P := List.Subset.trans (by decide) hP
  have h2 : ([.regs, .cmd] : List Part) ⊆ P := List.Subset.trans (by decide) hP
  have h3 : ([.ctrs] : List Part) ⊆ P := List.Subset.trans (by decide) hP
  have h4 : ([.loopS, .cal, .slt] : List Part) ⊆ P := List.Subset.trans (by decide) hP
  have h5 : ([.ctrs, .flt] : List Part) ⊆ P := List.Subset.trans (by decide) hP
  have h6 : ([.slt, .brt] : List Part) ⊆ P := List.Subset.trans (by decide) hP
  have h7 : ([.freeCtr, .regs, .ctrs, .cmd, .red, .acq] : List Part) ⊆ P := List.Subset.trans (by decide) hP
  have h8 : ([.acq] : List Part) ⊆ P := List.Subset.trans (by decide) hP
  unfold State.switchTo
  repeat' first
    | with_reducible exact h
    | with_reducible refine State.followSwitch_parts h0 ?_
    | with_reducible refine State.clearCompare_parts h1 ?_
    | with_reducible refine State.setCtlRed_parts h1 ?_
    | with_reducible refine State.irqIf_parts h2 ?_
    | with_reducible refine State.bump_parts h3 ?_
    | with_reducible refine State.abandonStage_parts h4 ?_
    | with_reducible refine State.raiseCtl_parts h5 ?_
    | with_reducible refine State.beginSwitchHold_parts h6 ?_
    | with_reducible refine State.setCtlState_parts h7 ?_
    | with_reducible refine State.event_parts h8 ?_
    | split
    | dsimp only
    | with_reducible refine OnlyParts.set_red m_red ?_

theorem State.switchoverStart_parts {P : List Part} {s t : State}
    (hP : [.freeCtr, .regs, .ctrs, .cmd, .flt, .glb, .loopS, .cal, .red, .acq, .slt, .brt] ⊆ P)
    (h : OnlyParts P s t) :
    OnlyParts P s (State.switchoverStart t) := by
  have m_red : Part.red ∈ P := hP (by decide)
  have h0 : ([.regs] : List Part) ⊆ P := List.Subset.trans (by decide) hP
  have h1 : ([.ctrs, .flt] : List Part) ⊆ P := List.Subset.trans (by decide) hP
  have h2 : ([.freeCtr, .regs, .ctrs, .cmd, .flt, .glb, .loopS, .cal, .red, .acq, .slt,
    .brt] : List Part) ⊆ P := List.Subset.trans (by decide) hP
  unfold State.switchoverStart
  repeat' first
    | with_reducible exact h
    | with_reducible refine State.wrBit_parts h0 ?_
    | with_reducible refine State.raiseCtl_parts h1 ?_
    | with_reducible refine State.switchTo_parts h2 ?_
    | split
    | dsimp only
    | with_reducible refine OnlyParts.set_red m_red ?_

theorem State.trialRecord_parts {P : List Part} {s t : State} {a1}
    (hP : [.ctrs, .flt, .cal] ⊆ P) (h : OnlyParts P s t) :
    OnlyParts P s (State.trialRecord t a1) := by
  have m_cal : Part.cal ∈ P := hP (by decide)
  have h0 : ([.ctrs, .flt, .cal] : List Part) ⊆ P := List.Subset.trans (by decide) hP
  unfold State.trialRecord
  repeat' first
    | with_reducible exact h
    | with_reducible refine State.skipElem_parts h0 ?_
    | with_reducible assumption
    | with_reducible refine OnlyParts.foldl (fun _ _ _ => ?_) ?_
    | with_reducible refine OnlyParts.foldl_fst (fun _ _ _ => ?_) ?_
    | split
    | dsimp only
    | with_reducible refine OnlyParts.set_cal m_cal ?_

theorem State.trialCapture_parts {P : List Part} {s t : State} {a1 a2}
    (hP : [.freeCtr, .ctrs, .flt, .adc, .cal, .slt] ⊆ P) (h : OnlyParts P s t) :
    OnlyParts P s (State.trialCapture t a1 a2) := by
  have m_slt : Part.slt ∈ P := hP (by decide)
  have h0 : ([.freeCtr, .cal] : List Part) ⊆ P := List.Subset.trans (by decide) hP
  have h1 : ([.ctrs, .flt, .cal] : List Part) ⊆ P := List.Subset.trans (by decide) hP
  have h2 : ([.ctrs, .adc] : List Part) ⊆ P := List.Subset.trans (by decide) hP
  unfold State.trialCapture
  repeat' first
    | with_reducible exact h
    | with_reducible refine State.calAdc_parts h0 ?_
    | with_reducible refine State.trialRecord_parts h1 ?_
    | with_reducible refine State.convertAll_parts h2 ?_
    | with_reducible refine State.convertAll_parts_eq h2 (by assumption) ?_
    | with_reducible assumption
    | with_reducible refine OnlyParts.foldl (fun _ _ _ => ?_) ?_
    | with_reducible refine OnlyParts.foldl_fst (fun _ _ _ => ?_) ?_
    | split
    | dsimp only
    | with_reducible refine OnlyParts.set_slt m_slt ?_

theorem State.trigAssert_parts {P : List Part} {s t : State} {a1} (hP : [.acq] ⊆ P) (h : OnlyParts P s t) :
    OnlyParts P s (State.trigAssert t a1) := by
  have h0 : ([.acq] : List Part) ⊆ P := List.Subset.trans (by decide) hP
  unfold State.trigAssert
  repeat' first
    | with_reducible exact h
    | with_reducible refine State.setLoupe_parts h0 ?_
    | split
    | dsimp only

theorem State.trigRelease_parts {P : List Part} {s t : State} {a1} (hP : [.acq] ⊆ P) (h : OnlyParts P s t) :
    OnlyParts P s (State.trigRelease t a1) := by
  have h0 : ([.acq] : List Part) ⊆ P := List.Subset.trans (by decide) hP
  unfold State.trigRelease
  repeat' first
    | with_reducible exact h
    | with_reducible refine State.setLoupe_parts h0 ?_
    | split
    | dsimp only

theorem State.trigSense_parts {P : List Part} {s t : State} {a1} (hP : [.acq] ⊆ P) (h : OnlyParts P s t) :
    OnlyParts P s (State.trigSense t a1) := by
  have m_acq : Part.acq ∈ P := hP (by decide)
  have h0 : ([.acq] : List Part) ⊆ P := List.Subset.trans (by decide) hP
  unfold State.trigSense
  repeat' first
    | with_reducible exact h
    | with_reducible refine State.eventAtTime_parts h0 ?_
    | dsimp only
    | with_reducible refine OnlyParts.set_acq m_acq ?_

end Sys2Proof.Machine
end

