-- ==== Sys2Proof/Laws/PartsPorts.lean ====
section
/-! SUPPORT. What each operation of the ports, classification and metering may change: one lemma per operation. -/

namespace Sys2Proof.Machine

open Sys2Proof

theorem State.readBar2_parts {P : List Part} {s t : State} {a1 a2}
    (hP : [.freeCtr, .regs, .ctrs, .cmd, .sec, .flt] ⊆ P) (h : OnlyParts P s t) :
    OnlyParts P s (State.readBar2 t a1 a2) := by
  have h0 : ([.ctrs] : List Part) ⊆ P := List.Subset.trans (by decide) hP
  have h1 : ([.ctrs, .flt] : List Part) ⊆ P := List.Subset.trans (by decide) hP
  have h2 : ([.regs, .ctrs, .cmd, .sec] : List Part) ⊆ P := List.Subset.trans (by decide) hP
  have h3 : ([.freeCtr] : List Part) ⊆ P := List.Subset.trans (by decide) hP
  have h4 : ([.cmd] : List Part) ⊆ P := List.Subset.trans (by decide) hP
  unfold State.readBar2
  repeat' first
    | with_reducible exact h
    | with_reducible refine State.bump_parts h0 ?_
    | with_reducible refine State.tblFault_parts h1 ?_
    | with_reducible refine State.reject_parts h2 ?_
    | with_reducible refine State.free_parts h3 ?_
    | with_reducible refine State.free_parts_eq h3 (by assumption) ?_
    | with_reducible refine State.setRd_parts h4 ?_
    | split
    | dsimp only

theorem State.abvReads_parts {P : List Part} {s t : State} {a1 a2 a3 a4}
    (hP : [.freeCtr, .regs, .ctrs, .highLatch, .cmd, .sec, .flt, .tim, .adc] ⊆ P) (h : OnlyParts P s t) :
    OnlyParts P s (State.abvReads t a1 a2 a3 a4).1 := by
  induction a4 generalizing t a3 with
  | zero => exact h
  | succ n ih =>
    simp only [State.abvReads]
    apply ih
    split
    · exact State.readReg_parts (List.Subset.trans (by decide) hP) h
    · exact State.readBar2_parts (List.Subset.trans (by decide) hP) h

theorem State.abvReads_parts_eq {P : List Part} {s t v : State} {a1 a2 a3 a4} {x1 x2}
    (hP : [.freeCtr, .regs, .ctrs, .highLatch, .cmd, .sec, .flt, .tim,
      .adc] ⊆ P) (e : State.abvReads t a1 a2 a3 a4 = (v, x1, x2))
    (h : OnlyParts P s t) :
    OnlyParts P s v := by
  have := State.abvReads_parts (P := P) (s := s) (a1 := a1) (a2 := a2) (a3 := a3) (a4 := a4) hP h
  rw [e] at this
  exact this

theorem State.abvRead_parts {P : List Part} {s t : State} {a1 a2}
    (hP : [.freeCtr, .regs, .ctrs, .highLatch, .cmd, .sec, .flt, .tim, .adc] ⊆ P) (h : OnlyParts P s t) :
    OnlyParts P s (State.abvRead t a1 a2).1 := by
  have h0 : ([.freeCtr, .regs, .ctrs, .highLatch, .cmd, .sec, .flt, .tim,
    .adc] : List Part) ⊆ P := List.Subset.trans (by decide) hP
  unfold State.abvRead
  repeat' first
    | with_reducible exact h
    | with_reducible refine State.abvReads_parts h0 ?_
    | with_reducible refine State.abvReads_parts_eq h0 (by assumption) ?_
    | split

theorem State.abvRead_parts_eq {P : List Part} {s t v : State} {a1 a2} {x1}
    (hP : [.freeCtr, .regs, .ctrs, .highLatch, .cmd, .sec, .flt, .tim,
      .adc] ⊆ P) (e : State.abvRead t a1 a2 = (v, x1))
    (h : OnlyParts P s t) :
    OnlyParts P s v := by
  have := State.abvRead_parts (P := P) (s := s) (a1 := a1) (a2 := a2) hP h
  rw [e] at this
  exact this

theorem State.readHeader_parts {P : List Part} {s t : State} {a1 a2}
    (hP : [.freeCtr, .ctrs, .flt] ⊆ P) (h : OnlyParts P s t) :
    OnlyParts P s (State.readHeader t a1 a2).2 := by
  have m_freeCtr : Part.freeCtr ∈ P := hP (by decide)
  have h0 : ([.ctrs, .flt] : List Part) ⊆ P := List.Subset.trans (by decide) hP
  unfold State.readHeader
  repeat' first
    | with_reducible exact h
    | with_reducible refine State.tblFault_parts h0 ?_
    | split
    | dsimp only
    | with_reducible refine OnlyParts.set_freeCtr m_freeCtr ?_

theorem State.readHeader_parts_eq {P : List Part} {s t v : State} {a1 a2} {x0}
    (hP : [.freeCtr, .ctrs, .flt] ⊆ P) (e : State.readHeader t a1 a2 = (x0, v)) (h : OnlyParts P s t) :
    OnlyParts P s v := by
  have := State.readHeader_parts (P := P) (s := s) (a1 := a1) (a2 := a2) hP h
  rw [e] at this
  exact this

theorem State.bankSwap_parts {P : List Part} {s t : State} {a1}
    (hP : [.freeCtr, .regs, .ctrs, .cmd, .flt, .chips] ⊆ P) (h : OnlyParts P s t) :
    OnlyParts P s (State.bankSwap t a1) := by
  have h0 : ([.regs, .cmd] : List Part) ⊆ P := List.Subset.trans (by decide) hP
  have h1 : ([.regs] : List Part) ⊆ P := List.Subset.trans (by decide) hP
  have h2 : ([.chips] : List Part) ⊆ P := List.Subset.trans (by decide) hP
  have h3 : ([.freeCtr, .ctrs, .flt] : List Part) ⊆ P := List.Subset.trans (by decide) hP
  unfold State.bankSwap
  repeat' first
    | with_reducible exact h
    | with_reducible refine State.irqIf_parts h0 ?_
    | with_reducible refine State.wrBit_parts h1 ?_
    | with_reducible refine State.setChip_parts h2 ?_
    | with_reducible refine State.readHeader_parts h3 ?_

theorem State.writeBankCtrl_parts {P : List Part} {s t : State} {a1 a2 a3}
    (hP : [.freeCtr, .regs, .ctrs, .cmd, .sec, .flt, .chips] ⊆ P) (h : OnlyParts P s t) :
    OnlyParts P s (State.writeBankCtrl t a1 a2 a3) := by
  have h0 : ([.regs, .cmd] : List Part) ⊆ P := List.Subset.trans (by decide) hP
  have h1 : ([.freeCtr, .regs, .ctrs, .cmd, .flt, .chips] : List Part) ⊆ P := List.Subset.trans (by decide) hP
  have h2 : ([.regs] : List Part) ⊆ P := List.Subset.trans (by decide) hP
  have h3 : ([.regs, .ctrs, .sec] : List Part) ⊆ P := List.Subset.trans (by decide) hP
  have h4 : ([.chips] : List Part) ⊆ P := List.Subset.trans (by decide) hP
  have h5 : ([.freeCtr, .ctrs, .flt] : List Part) ⊆ P := List.Subset.trans (by decide) hP
  unfold State.writeBankCtrl
  repeat' first
    | with_reducible exact h
    | with_reducible refine State.irqIf_parts h0 ?_
    | with_reducible refine State.bankSwap_parts h1 ?_
    | with_reducible refine State.wrBit_parts h2 ?_
    | with_reducible refine State.plainWrite_parts h3 ?_
    | with_reducible refine State.setChip_parts h4 ?_
    | with_reducible refine State.readHeader_parts h5 ?_
    | with_reducible refine State.readHeader_parts_eq h5 (by assumption) ?_
    | split
    | dsimp only

theorem State.writePortCtrl_parts {P : List Part} {s t : State} {a1 a2 a3}
    (hP : [.regs, .ctrs, .sec, .ports] ⊆ P) (h : OnlyParts P s t) :
    OnlyParts P s (State.writePortCtrl t a1 a2 a3) := by
  have h0 : ([.ports] : List Part) ⊆ P := List.Subset.trans (by decide) hP
  have h1 : ([.regs] : List Part) ⊆ P := List.Subset.trans (by decide) hP
  have h2 : ([.regs, .ports] : List Part) ⊆ P := List.Subset.trans (by decide) hP
  have h3 : ([.regs, .ctrs, .sec] : List Part) ⊆ P := List.Subset.trans (by decide) hP
  unfold State.writePortCtrl
  repeat' first
    | with_reducible exact h
    | with_reducible refine State.setPort_parts h0 ?_
    | with_reducible refine State.wrBit_parts h1 ?_
    | with_reducible refine State.startTraining_parts h2 ?_
    | with_reducible refine State.plainWrite_parts h3 ?_
    | split
    | dsimp only

theorem State.writeTrace_parts {P : List Part} {s t : State} {a1 a2 a3}
    (hP : [.regs, .ctrs, .sec, .chips] ⊆ P) (h : OnlyParts P s t) :
    OnlyParts P s (State.writeTrace t a1 a2 a3) := by
  have h0 : ([.regs] : List Part) ⊆ P := List.Subset.trans (by decide) hP
  have h1 : ([.regs, .ctrs, .sec] : List Part) ⊆ P := List.Subset.trans (by decide) hP
  have h2 : ([.chips] : List Part) ⊆ P := List.Subset.trans (by decide) hP
  unfold State.writeTrace
  repeat' first
    | with_reducible exact h
    | with_reducible refine State.wrBit_parts h0 ?_
    | with_reducible refine State.plainWrite_parts h1 ?_
    | with_reducible refine State.setChip_parts h2 ?_
    | split

theorem State.writeMtrCtrl_parts {P : List Part} {s t : State} {a1 a2 a3}
    (hP : [.regs, .ctrs, .sec, .chips] ⊆ P) (h : OnlyParts P s t) :
    OnlyParts P s (State.writeMtrCtrl t a1 a2 a3) := by
  have h0 : ([.regs, .ctrs, .sec] : List Part) ⊆ P := List.Subset.trans (by decide) hP
  have h1 : ([.chips] : List Part) ⊆ P := List.Subset.trans (by decide) hP
  unfold State.writeMtrCtrl
  repeat' first
    | with_reducible exact h
    | with_reducible refine State.plainWrite_parts h0 ?_
    | with_reducible refine State.setChip_parts h1 ?_

theorem State.writeLanPort_parts {P : List Part} {s t : State} {a1 a2 a3 a4 a5}
    (hP : [.regs, .ctrs, .sec, .ports] ⊆ P) (h : OnlyParts P s t) :
    OnlyParts P s (State.writeLanPort t a1 a2 a3 a4 a5) := by
  have h0 : ([.ports] : List Part) ⊆ P := List.Subset.trans (by decide) hP
  have h1 : ([.regs, .ctrs, .sec] : List Part) ⊆ P := List.Subset.trans (by decide) hP
  unfold State.writeLanPort
  repeat' first
    | with_reducible exact h
    | with_reducible refine State.setPort_parts h0 ?_
    | with_reducible refine State.plainWrite_parts h1 ?_
    | split

theorem State.refillMeter_parts {P : List Part} {s t : State} {a1 a2} (hP : [.chips] ⊆ P) (h : OnlyParts P s t) :
    OnlyParts P s (State.refillMeter t a1 a2) := by
  have h0 : ([.chips] : List Part) ⊆ P := List.Subset.trans (by decide) hP
  unfold State.refillMeter
  repeat' first
    | with_reducible exact h
    | with_reducible refine State.setChip_parts h0 ?_

theorem State.meterLoad_parts {P : List Part} {s t : State} {a1 a2} (hP : [.regs, .chips] ⊆ P) (h : OnlyParts P s t) :
    OnlyParts P s (State.meterLoad t a1 a2) := by
  have h0 : ([.regs] : List Part) ⊆ P := List.Subset.trans (by decide) hP
  have h1 : ([.chips] : List Part) ⊆ P := List.Subset.trans (by decide) hP
  unfold State.meterLoad
  repeat' first
    | with_reducible exact h
    | with_reducible refine State.wr_parts h0 ?_
    | with_reducible refine State.setChip_parts h1 ?_

theorem State.meterProfile_parts {P : List Part} {s t : State} {a1 a2 a3} (hP : [.chips] ⊆ P) (h : OnlyParts P s t) :
    OnlyParts P s (State.meterProfile t a1 a2 a3) := by
  have h0 : ([.chips] : List Part) ⊆ P := List.Subset.trans (by decide) hP
  unfold State.meterProfile
  repeat' first
    | with_reducible exact h
    | with_reducible refine State.setChip_parts h0 ?_

theorem State.writeMeterSel_parts {P : List Part} {s t : State} {a1 a2 a3}
    (hP : [.regs, .ctrs, .sec, .chips] ⊆ P) (h : OnlyParts P s t) :
    OnlyParts P s (State.writeMeterSel t a1 a2 a3) := by
  have h0 : ([.chips] : List Part) ⊆ P := List.Subset.trans (by decide) hP
  have h1 : ([.regs, .chips] : List Part) ⊆ P := List.Subset.trans (by decide) hP
  have h2 : ([.regs, .ctrs, .sec] : List Part) ⊆ P := List.Subset.trans (by decide) hP
  unfold State.writeMeterSel
  repeat' first
    | with_reducible exact h
    | with_reducible refine State.refillMeter_parts h0 ?_
    | with_reducible refine State.meterLoad_parts h1 ?_
    | with_reducible refine State.plainWrite_parts h2 ?_
    | with_reducible refine State.meterProfile_parts h0 ?_
    | split

theorem State.lanBump_parts {P : List Part} {s t : State} {a1 a2} (hP : [.ctrs] ⊆ P) (h : OnlyParts P s t) :
    OnlyParts P s (State.lanBump t a1 a2) := by
  have h0 : ([.ctrs] : List Part) ⊆ P := List.Subset.trans (by decide) hP
  unfold State.lanBump
  repeat' first
    | with_reducible exact h
    | with_reducible refine State.bump_parts h0 ?_

theorem State.writeRemap_parts {P : List Part} {s t : State} {a1 a2 a3 a4}
    (hP : [.regs, .ctrs, .sec, .ports, .chips] ⊆ P) (h : OnlyParts P s t) :
    OnlyParts P s (State.writeRemap t a1 a2 a3 a4) := by
  have h0 : ([.ctrs] : List Part) ⊆ P := List.Subset.trans (by decide) hP
  have h1 : ([.ports] : List Part) ⊆ P := List.Subset.trans (by decide) hP
  have h2 : ([.regs] : List Part) ⊆ P := List.Subset.trans (by decide) hP
  have h3 : ([.regs, .ctrs, .sec] : List Part) ⊆ P := List.Subset.trans (by decide) hP
  have h4 : ([.chips] : List Part) ⊆ P := List.Subset.trans (by decide) hP
  unfold State.writeRemap
  repeat' first
    | with_reducible exact h
    | with_reducible refine State.lanBump_parts h0 ?_
    | with_reducible refine State.setPort_parts h1 ?_
    | with_reducible refine State.wrBit_parts h2 ?_
    | with_reducible refine State.plainWrite_parts h3 ?_
    | with_reducible refine State.setChip_parts h4 ?_
    | split
    | dsimp only

theorem State.applyProfile_parts {P : List Part} {s t : State} {a1 a2} (hP : [.chips] ⊆ P) (h : OnlyParts P s t) :
    OnlyParts P s (State.applyProfile t a1 a2) := by
  have h0 : ([.chips] : List Part) ⊆ P := List.Subset.trans (by decide) hP
  unfold State.applyProfile
  repeat' first
    | with_reducible exact h
    | with_reducible refine State.setChip_parts h0 ?_

theorem State.writeProfile0_parts {P : List Part} {s t : State} {a1 a2 a3 a4}
    (hP : [.regs, .ctrs, .sec, .chips] ⊆ P) (h : OnlyParts P s t) :
    OnlyParts P s (State.writeProfile0 t a1 a2 a3 a4) := by
  have h0 : ([.chips] : List Part) ⊆ P := List.Subset.trans (by decide) hP
  have h1 : ([.regs, .ctrs, .sec] : List Part) ⊆ P := List.Subset.trans (by decide) hP
  unfold State.writeProfile0
  repeat' first
    | with_reducible exact h
    | with_reducible refine State.applyProfile_parts h0 ?_
    | with_reducible refine State.plainWrite_parts h1 ?_

theorem State.startLf_parts {P : List Part} {s t : State} {a1} (hP : [.ports] ⊆ P) (h : OnlyParts P s t) :
    OnlyParts P s (State.startLf t a1) := by
  have h0 : ([.ports] : List Part) ⊆ P := List.Subset.trans (by decide) hP
  unfold State.startLf
  repeat' first
    | with_reducible exact h
    | with_reducible refine State.setPort_parts h0 ?_
    | split
    | dsimp only

theorem State.tblStore_parts {P : List Part} {s t : State} {a1 a2 a3} (hP : [.chips] ⊆ P) (h : OnlyParts P s t) :
    OnlyParts P s (State.tblStore t a1 a2 a3) := by
  have h0 : ([.chips] : List Part) ⊆ P := List.Subset.trans (by decide) hP
  unfold State.tblStore
  repeat' first
    | with_reducible exact h
    | with_reducible refine State.setChip_parts h0 ?_

theorem State.tblWrite_parts {P : List Part} {s t : State} {a1 a2 a3}
    (hP : [.regs, .chips] ⊆ P) (h : OnlyParts P s t) :
    OnlyParts P s (State.tblWrite t a1 a2 a3) := by
  have h0 : ([.chips] : List Part) ⊆ P := List.Subset.trans (by decide) hP
  have h1 : ([.regs] : List Part) ⊆ P := List.Subset.trans (by decide) hP
  unfold State.tblWrite
  repeat' first
    | with_reducible exact h
    | with_reducible refine State.tblStore_parts h0 ?_
    | with_reducible refine State.wrBit_parts h1 ?_
    | split
    | dsimp only

theorem State.admitDiscard_parts {P : List Part} {s t : State} {a1 a2} (hP : [.brt] ⊆ P) (h : OnlyParts P s t) :
    OnlyParts P s (State.admitDiscard t a1 a2) := by
  have h0 : ([.brt] : List Part) ⊆ P := List.Subset.trans (by decide) hP
  unfold State.admitDiscard
  repeat' first
    | with_reducible exact h
    | with_reducible refine State.countDiscard_parts h0 ?_
    | with_reducible refine State.ledgerEvent_parts h0 ?_

theorem State.admitDrop_parts {P : List Part} {s t : State} {a1 a2 a3}
    (hP : [.regs, .cmd, .brt, .pkts, .chips] ⊆ P) (h : OnlyParts P s t) :
    OnlyParts P s (State.admitDrop t a1 a2 a3) := by
  have h0 : ([.pkts] : List Part) ⊆ P := List.Subset.trans (by decide) hP
  have h1 : ([.regs, .cmd] : List Part) ⊆ P := List.Subset.trans (by decide) hP
  have h2 : ([.brt] : List Part) ⊆ P := List.Subset.trans (by decide) hP
  have h3 : ([.chips] : List Part) ⊆ P := List.Subset.trans (by decide) hP
  unfold State.admitDrop
  repeat' first
    | with_reducible exact h
    | with_reducible refine State.dropPkt_parts h0 ?_
    | with_reducible refine State.irq_parts h1 ?_
    | with_reducible refine State.countDiscard_parts h2 ?_
    | with_reducible refine State.setChip_parts h3 ?_
    | split
    | dsimp only

theorem State.admitTake_parts {P : List Part} {s t : State} {a1 a2 a3 a4}
    (hP : [.ctrs, .brt, .pkts, .chips] ⊆ P) (h : OnlyParts P s t) :
    OnlyParts P s (State.admitTake t a1 a2 a3 a4) := by
  have h0 : ([.ctrs] : List Part) ⊆ P := List.Subset.trans (by decide) hP
  have h1 : ([.pkts] : List Part) ⊆ P := List.Subset.trans (by decide) hP
  have h2 : ([.chips] : List Part) ⊆ P := List.Subset.trans (by decide) hP
  have h3 : ([.brt, .pkts, .chips] : List Part) ⊆ P := List.Subset.trans (by decide) hP
  unfold State.admitTake
  repeat' first
    | with_reducible exact h
    | with_reducible refine State.bump_parts h0 ?_
    | with_reducible refine State.setPkt_parts h1 ?_
    | with_reducible refine State.setChip_parts h2 ?_
    | with_reducible refine State.applyCredits_parts h3 ?_
    | split

theorem State.restartTraining_parts {P : List Part} {s t : State} {a1} (hP : [.ports] ⊆ P) (h : OnlyParts P s t) :
    OnlyParts P s (State.restartTraining t a1) := by
  have h0 : ([.ports] : List Part) ⊆ P := List.Subset.trans (by decide) hP
  unfold State.restartTraining
  repeat' first
    | with_reducible exact h
    | with_reducible refine State.setPort_parts h0 ?_

theorem State.clsDrop_parts {P : List Part} {s t : State} {a1 a2 a3 a4}
    (hP : [.ctrs, .brt, .pkts, .chips] ⊆ P) (h : OnlyParts P s t) :
    OnlyParts P s (State.clsDrop t a1 a2 a3 a4) := by
  have h0 : ([.pkts] : List Part) ⊆ P := List.Subset.trans (by decide) hP
  have h1 : ([.brt] : List Part) ⊆ P := List.Subset.trans (by decide) hP
  have h2 : ([.ctrs, .chips] : List Part) ⊆ P := List.Subset.trans (by decide) hP
  unfold State.clsDrop
  repeat' first
    | with_reducible exact h
    | with_reducible refine State.dropPkt_parts h0 ?_
    | with_reducible refine State.countDiscard_parts h1 ?_
    | with_reducible refine State.unpin_parts h2 ?_

theorem State.meterEvent_parts {P : List Part} {s t : State} {a1 a2 a3 a4}
    (hP : [.ctrs, .chips] ⊆ P) (h : OnlyParts P s t) :
    OnlyParts P s (State.meterEvent t a1 a2 a3 a4).2 := by
  have h0 : ([.ctrs] : List Part) ⊆ P := List.Subset.trans (by decide) hP
  have h1 : ([.chips] : List Part) ⊆ P := List.Subset.trans (by decide) hP
  unfold State.meterEvent
  repeat' first
    | with_reducible exact h
    | with_reducible refine State.bump_parts h0 ?_
    | with_reducible refine State.setChip_parts h1 ?_

theorem State.meterEvent_parts_eq {P : List Part} {s t v : State} {a1 a2 a3 a4} {x0}
    (hP : [.ctrs, .chips] ⊆ P) (e : State.meterEvent t a1 a2 a3 a4 = (x0, v)) (h : OnlyParts P s t) :
    OnlyParts P s v := by
  have := State.meterEvent_parts (P := P) (s := s) (a1 := a1) (a2 := a2) (a3 := a3) (a4 := a4) hP h
  rw [e] at this
  exact this

theorem State.enter_parts {P : List Part} {s t : State} {a1 a2}
    (hP : [.regs, .ctrs, .cmd, .brt, .pkts, .chips] ⊆ P) (h : OnlyParts P s t) :
    OnlyParts P s (State.enter t a1 a2) := by
  have h0 : ([.ctrs, .brt, .pkts, .chips] : List Part) ⊆ P := List.Subset.trans (by decide) hP
  have h1 : ([.regs, .cmd, .brt, .pkts, .chips] : List Part) ⊆ P := List.Subset.trans (by decide) hP
  unfold State.enter
  repeat' first
    | with_reducible exact h
    | with_reducible refine State.admitTake_parts h0 ?_
    | with_reducible refine State.admitDrop_parts h1 ?_
    | split
    | dsimp only

theorem State.meterAdmit_parts {P : List Part} {s t : State} {a1 a2 a3 a4}
    (hP : [.regs, .ctrs, .cmd, .brt, .pkts, .chips] ⊆ P) (h : OnlyParts P s t) :
    OnlyParts P s (State.meterAdmit t a1 a2 a3 a4) := by
  have h0 : ([.pkts] : List Part) ⊆ P := List.Subset.trans (by decide) hP
  have h1 : ([.ctrs, .chips] : List Part) ⊆ P := List.Subset.trans (by decide) hP
  have h2 : ([.brt] : List Part) ⊆ P := List.Subset.trans (by decide) hP
  have h3 : ([.regs, .ctrs, .cmd, .brt, .pkts, .chips] : List Part) ⊆ P := List.Subset.trans (by decide) hP
  unfold State.meterAdmit
  repeat' first
    | with_reducible exact h
    | with_reducible refine State.dropPkt_parts h0 ?_
    | with_reducible refine State.meterEvent_parts h1 ?_
    | with_reducible refine State.meterEvent_parts_eq h1 (by assumption) ?_
    | with_reducible refine State.countDiscard_parts h2 ?_
    | with_reducible refine State.setPkt_parts h0 ?_
    | with_reducible refine State.unpin_parts h1 ?_
    | with_reducible refine State.enter_parts h3 ?_
    | split
    | dsimp only

theorem State.excCount_parts {P : List Part} {s t : State} {a1 a2}
    (hP : [.regs, .ctrs, .cmd] ⊆ P) (h : OnlyParts P s t) :
    OnlyParts P s (State.excCount t a1 a2) := by
  have h0 : ([.regs, .cmd] : List Part) ⊆ P := List.Subset.trans (by decide) hP
  have h1 : ([.ctrs] : List Part) ⊆ P := List.Subset.trans (by decide) hP
  unfold State.excCount
  repeat' first
    | with_reducible exact h
    | with_reducible refine State.irqIf_parts h0 ?_
    | with_reducible refine State.bump_parts h1 ?_
    | split

theorem State.spoilUnit_parts {P : List Part} {s t : State} {a1 a2} (hP : [.chips] ⊆ P) (h : OnlyParts P s t) :
    OnlyParts P s (State.spoilUnit t a1 a2) := by
  have h0 : ([.chips] : List Part) ⊆ P := List.Subset.trans (by decide) hP
  unfold State.spoilUnit
  repeat' first
    | with_reducible exact h
    | with_reducible refine State.setChip_parts h0 ?_
    | split
    | dsimp only

theorem State.indEntry_parts {P : List Part} {s t : State} {a1 a2 a3 a4}
    (hP : [.freeCtr, .ctrs, .flt, .chips] ⊆ P) (h : OnlyParts P s t) :
    OnlyParts P s (State.indEntry t a1 a2 a3 a4).2 := by
  have h0 : ([.chips] : List Part) ⊆ P := List.Subset.trans (by decide) hP
  have h1 : ([.ctrs, .flt] : List Part) ⊆ P := List.Subset.trans (by decide) hP
  have h2 : ([.freeCtr] : List Part) ⊆ P := List.Subset.trans (by decide) hP
  unfold State.indEntry
  repeat' first
    | with_reducible exact h
    | with_reducible refine State.spoilUnit_parts h0 ?_
    | with_reducible refine State.tblFault_parts h1 ?_
    | with_reducible refine State.free_parts h2 ?_
    | with_reducible refine State.free_parts_eq h2 (by assumption) ?_
    | split
    | dsimp only

theorem State.indEntry_parts_eq {P : List Part} {s t v : State} {a1 a2 a3 a4} {x0}
    (hP : [.freeCtr, .ctrs, .flt, .chips] ⊆ P) (e : State.indEntry t a1 a2 a3 a4 = (x0, v)) (h : OnlyParts P s t) :
    OnlyParts P s v := by
  have := State.indEntry_parts (P := P) (s := s) (a1 := a1) (a2 := a2) (a3 := a3) (a4 := a4) hP h
  rw [e] at this
  exact this

theorem State.resolveEgress_parts {P : List Part} {s t : State} {a1 a2 a3 a4 a5}
    (hP : [.freeCtr, .ctrs, .flt, .chips] ⊆ P) (h : OnlyParts P s t) :
    OnlyParts P s (State.resolveEgress t a1 a2 a3 a4 a5).2 := by
  have h0 : ([.freeCtr, .ctrs, .flt, .chips] : List Part) ⊆ P := List.Subset.trans (by decide) hP
  unfold State.resolveEgress
  repeat' first
    | with_reducible exact h
    | with_reducible refine State.indEntry_parts h0 ?_
    | with_reducible refine State.indEntry_parts_eq h0 (by assumption) ?_
    | split
    | dsimp only

theorem State.resolveEgress_parts_eq {P : List Part} {s t v : State} {a1 a2 a3 a4 a5} {x0}
    (hP : [.freeCtr, .ctrs, .flt, .chips] ⊆ P) (e : State.resolveEgress t a1 a2 a3 a4 a5 = (x0, v))
    (h : OnlyParts P s t) :
    OnlyParts P s v := by
  have := State.resolveEgress_parts (P := P) (s := s) (a1 := a1) (a2 := a2) (a3 := a3) (a4 := a4) (a5 := a5) hP h
  rw [e] at this
  exact this

theorem State.applyExcResult_parts {P : List Part} {s t : State} {a1 a2 a3 a4 a5 a6}
    (hP : [.freeCtr, .regs, .ctrs, .cmd, .flt, .brt, .pkts, .chips] ⊆ P) (h : OnlyParts P s t) :
    OnlyParts P s (State.applyExcResult t a1 a2 a3 a4 a5 a6) := by
  have h0 : ([.ctrs, .brt, .pkts, .chips] : List Part) ⊆ P := List.Subset.trans (by decide) hP
  have h1 : ([.regs, .ctrs, .cmd, .brt, .pkts, .chips] : List Part) ⊆ P := List.Subset.trans (by decide) hP
  have h2 : ([.regs, .ctrs, .cmd] : List Part) ⊆ P := List.Subset.trans (by decide) hP
  have h3 : ([.freeCtr, .ctrs, .flt, .chips] : List Part) ⊆ P := List.Subset.trans (by decide) hP
  unfold State.applyExcResult
  repeat' first
    | with_reducible exact h
    | with_reducible refine State.clsDrop_parts h0 ?_
    | with_reducible refine State.meterAdmit_parts h1 ?_
    | with_reducible refine State.excCount_parts h2 ?_
    | with_reducible refine State.resolveEgress_parts h3 ?_
    | with_reducible refine State.resolveEgress_parts_eq h3 (by assumption) ?_
    | split
    | dsimp only

theorem State.exception_parts {P : List Part} {s t : State} {a1 a2 a3 a4 a5}
    (hP : [.freeCtr, .regs, .ctrs, .cmd, .flt, .brt, .pkts, .chips] ⊆ P) (h : OnlyParts P s t) :
    OnlyParts P s (State.exception t a1 a2 a3 a4 a5) := by
  have h0 : ([.ctrs, .brt, .pkts, .chips] : List Part) ⊆ P := List.Subset.trans (by decide) hP
  have h1 : ([.regs, .ctrs, .cmd] : List Part) ⊆ P := List.Subset.trans (by decide) hP
  have h2 : ([.freeCtr, .regs, .ctrs, .cmd, .flt, .brt, .pkts,
    .chips] : List Part) ⊆ P := List.Subset.trans (by decide) hP
  unfold State.exception
  repeat' first
    | with_reducible exact h
    | with_reducible refine State.clsDrop_parts h0 ?_
    | with_reducible refine State.excCount_parts h1 ?_
    | with_reducible refine State.applyExcResult_parts h2 ?_
    | split
    | dsimp only

theorem State.applyResult_parts {P : List Part} {s t : State} {a1 a2 a3 a4 a5 a6}
    (hP : [.freeCtr, .regs, .ctrs, .cmd, .flt, .brt, .pkts, .chips] ⊆ P) (h : OnlyParts P s t) :
    OnlyParts P s (State.applyResult t a1 a2 a3 a4 a5 a6) := by
  have h0 : ([.ctrs, .brt, .pkts, .chips] : List Part) ⊆ P := List.Subset.trans (by decide) hP
  have h1 : ([.regs, .ctrs, .cmd, .brt, .pkts, .chips] : List Part) ⊆ P := List.Subset.trans (by decide) hP
  have h2 : ([.freeCtr, .regs, .ctrs, .cmd, .flt, .brt, .pkts,
    .chips] : List Part) ⊆ P := List.Subset.trans (by decide) hP
  have h3 : ([.pkts] : List Part) ⊆ P := List.Subset.trans (by decide) hP
  have h4 : ([.chips] : List Part) ⊆ P := List.Subset.trans (by decide) hP
  have h5 : ([.freeCtr, .ctrs, .flt, .chips] : List Part) ⊆ P := List.Subset.trans (by decide) hP
  unfold State.applyResult
  repeat' first
    | with_reducible exact h
    | with_reducible refine State.clsDrop_parts h0 ?_
    | with_reducible refine State.meterAdmit_parts h1 ?_
    | with_reducible refine State.exception_parts h2 ?_
    | with_reducible refine State.setPkt_parts h3 ?_
    | with_reducible refine State.setChip_parts h4 ?_
    | with_reducible refine State.resolveEgress_parts h5 ?_
    | with_reducible refine State.resolveEgress_parts_eq h5 (by assumption) ?_
    | split
    | dsimp only

theorem State.autoNegDone_parts {P : List Part} {s t : State} {a1} (hP : [.ports] ⊆ P) (h : OnlyParts P s t) :
    OnlyParts P s (State.autoNegDone t a1) := by
  have h0 : ([.ports] : List Part) ⊆ P := List.Subset.trans (by decide) hP
  unfold State.autoNegDone
  repeat' first
    | with_reducible exact h
    | with_reducible refine State.setPort_parts h0 ?_
    | split
    | dsimp only

theorem State.commandReply_parts {P : List Part} {s t : State} {a1} (hP : [.ctrs, .ports] ⊆ P) (h : OnlyParts P s t) :
    OnlyParts P s (State.commandReply t a1) := by
  have h0 : ([.ctrs] : List Part) ⊆ P := List.Subset.trans (by decide) hP
  have h1 : ([.ports] : List Part) ⊆ P := List.Subset.trans (by decide) hP
  unfold State.commandReply
  repeat' first
    | with_reducible exact h
    | with_reducible refine State.lanBump_parts h0 ?_
    | with_reducible refine State.setPort_parts h1 ?_
    | split
    | dsimp only

theorem State.fillMeters_parts {P : List Part} {s t : State} {a1} (hP : [.chips] ⊆ P) (h : OnlyParts P s t) :
    OnlyParts P s (State.fillMeters t a1) := by
  have h0 : ([.chips] : List Part) ⊆ P := List.Subset.trans (by decide) hP
  unfold State.fillMeters
  repeat' first
    | with_reducible exact h
    | with_reducible refine State.setChip_parts h0 ?_

theorem State.setCrossing_parts {P : List Part} {s t : State} {a1 a2} (hP : [.xing] ⊆ P) (h : OnlyParts P s t) :
    OnlyParts P s (State.setCrossing t a1 a2) := by
  have m_xing : Part.xing ∈ P := hP (by decide)
  unfold State.setCrossing
  repeat' first
    | with_reducible exact h
    | dsimp only
    | with_reducible refine OnlyParts.set_xing m_xing ?_

theorem State.delivered_parts {P : List Part} {s t : State} {a1 a2} (hP : [.brt] ⊆ P) (h : OnlyParts P s t) :
    OnlyParts P s (State.delivered t a1 a2) := by
  have h0 : ([.brt] : List Part) ⊆ P := List.Subset.trans (by decide) hP
  unfold State.delivered
  repeat' first
    | with_reducible exact h
    | with_reducible refine State.ledgerEvent_parts h0 ?_
    | split

theorem State.pulses_parts {P : List Part} {s t : State} {a1 a2}
    (hP : [.regs, .ctrs, .cmd, .xing] ⊆ P) (h : OnlyParts P s t) :
    OnlyParts P s (State.pulses t a1 a2) := by
  have h0 : ([.regs, .cmd] : List Part) ⊆ P := List.Subset.trans (by decide) hP
  have h1 : ([.ctrs] : List Part) ⊆ P := List.Subset.trans (by decide) hP
  have h2 : ([.xing] : List Part) ⊆ P := List.Subset.trans (by decide) hP
  have h3 : ([.regs] : List Part) ⊆ P := List.Subset.trans (by decide) hP
  unfold State.pulses
  repeat' first
    | with_reducible exact h
    | with_reducible refine State.irqIf_parts h0 ?_
    | with_reducible refine State.bump_parts h1 ?_
    | with_reducible refine State.setCrossing_parts h2 ?_
    | with_reducible refine State.wrBit_parts h3 ?_
    | with_reducible refine State.wr_parts h3 ?_
    | split

theorem State.crossTransfer_parts {P : List Part} {s t : State} {a1 a2}
    (hP : [.regs, .ctrs, .cmd, .brt, .xing] ⊆ P) (h : OnlyParts P s t) :
    OnlyParts P s (State.crossTransfer t a1 a2) := by
  have h0 : ([.xing] : List Part) ⊆ P := List.Subset.trans (by decide) hP
  have h1 : ([.brt] : List Part) ⊆ P := List.Subset.trans (by decide) hP
  have h2 : ([.regs, .ctrs, .cmd, .xing] : List Part) ⊆ P := List.Subset.trans (by decide) hP
  unfold State.crossTransfer
  repeat' first
    | with_reducible exact h
    | with_reducible refine State.setCrossing_parts h0 ?_
    | with_reducible refine State.delivered_parts h1 ?_
    | with_reducible refine State.pulses_parts h2 ?_
    | split
    | dsimp only

theorem State.giveResults_parts {P : List Part} {s t : State} {a1 a2}
    (hP : [.freeCtr, .regs, .ctrs, .cmd, .flt, .brt, .pkts, .chips] ⊆ P) (h : OnlyParts P s t) :
    OnlyParts P s (State.giveResults t a1 a2) := by
  induction a2 generalizing t with
  | zero => exact h
  | succ f ih =>
    simp only [State.giveResults]
    split
    · exact h
    · split
      · exact ih (State.applyExcResult_parts hP (State.setChip_parts (List.Subset.trans (by decide) hP) h))
      · exact State.setChip_parts (List.Subset.trans (by decide) hP) h

theorem State.drainResults_parts {P : List Part} {s t : State} {a1}
    (hP : [.freeCtr, .regs, .ctrs, .cmd, .flt, .brt, .pkts, .chips] ⊆ P) (h : OnlyParts P s t) :
    OnlyParts P s (State.drainResults t a1) := by
  have h0 : ([.freeCtr, .regs, .ctrs, .cmd, .flt, .brt, .pkts,
    .chips] : List Part) ⊆ P := List.Subset.trans (by decide) hP
  unfold State.drainResults
  repeat' first
    | with_reducible exact h
    | with_reducible refine State.giveResults_parts h0 ?_

theorem State.handToParse_parts {P : List Part} {s t : State} {a1 a2 a3}
    (hP : [.regs, .ctrs, .cmd, .brt, .pkts, .nextPkt, .ports] ⊆ P) (h : OnlyParts P s t) :
    OnlyParts P s (State.handToParse t a1 a2 a3) := by
  have m_nextPkt : Part.nextPkt ∈ P := hP (by decide)
  have h0 : ([.regs, .cmd] : List Part) ⊆ P := List.Subset.trans (by decide) hP
  have h1 : ([.ctrs] : List Part) ⊆ P := List.Subset.trans (by decide) hP
  have h2 : ([.ports] : List Part) ⊆ P := List.Subset.trans (by decide) hP
  have h3 : ([.pkts] : List Part) ⊆ P := List.Subset.trans (by decide) hP
  have h4 : ([.brt] : List Part) ⊆ P := List.Subset.trans (by decide) hP
  unfold State.handToParse
  repeat' first
    | with_reducible exact h
    | with_reducible refine State.irqIf_parts h0 ?_
    | with_reducible refine State.bump_parts h1 ?_
    | with_reducible refine State.setPort_parts h2 ?_
    | with_reducible refine State.setPkt_parts h3 ?_
    | with_reducible refine State.admitDiscard_parts h4 ?_
    | with_reducible refine State.ledgerEvent_parts h4 ?_
    | split
    | dsimp only
    | with_reducible refine OnlyParts.set_nextPkt m_nextPkt ?_

theorem State.inbandRequest_parts {P : List Part} {s t : State} {a1}
    (hP : [.freeCtr, .regs, .ctrs, .highLatch, .cmd, .sec, .flt, .tim, .adc] ⊆ P) (h : OnlyParts P s t) :
    OnlyParts P s (State.inbandRequest t a1).1 := by
  have h0 : ([.regs, .ctrs, .cmd, .sec] : List Part) ⊆ P := List.Subset.trans (by decide) hP
  have h1 : ([.freeCtr, .regs, .ctrs, .highLatch, .cmd, .sec, .flt, .tim,
    .adc] : List Part) ⊆ P := List.Subset.trans (by decide) hP
  unfold State.inbandRequest
  repeat' first
    | with_reducible exact h
    | with_reducible refine State.reject_parts h0 ?_
    | with_reducible refine State.abvRead_parts h1 ?_
    | with_reducible refine State.abvRead_parts_eq h1 (by assumption) ?_
    | split
    | dsimp only

theorem State.inbandRequest_parts_eq {P : List Part} {s t v : State} {a1} {x1}
    (hP : [.freeCtr, .regs, .ctrs, .highLatch, .cmd, .sec, .flt, .tim,
      .adc] ⊆ P) (e : State.inbandRequest t a1 = (v, x1))
    (h : OnlyParts P s t) :
    OnlyParts P s v := by
  have := State.inbandRequest_parts (P := P) (s := s) (a1 := a1) hP h
  rw [e] at this
  exact this

theorem State.replyFrame_parts {P : List Part} {s t : State} {a1 a2 a3 a4}
    (hP : [.freeCtr] ⊆ P) (h : OnlyParts P s t) :
    OnlyParts P s (State.replyFrame t a1 a2 a3 a4).2 := by
  have h0 : ([.freeCtr] : List Part) ⊆ P := List.Subset.trans (by decide) hP
  unfold State.replyFrame
  repeat' first
    | with_reducible exact h
    | with_reducible refine State.free_parts h0 ?_

theorem State.replyFrame_parts_eq {P : List Part} {s t v : State} {a1 a2 a3 a4} {x0}
    (hP : [.freeCtr] ⊆ P) (e : State.replyFrame t a1 a2 a3 a4 = (x0, v)) (h : OnlyParts P s t) :
    OnlyParts P s v := by
  have := State.replyFrame_parts (P := P) (s := s) (a1 := a1) (a2 := a2) (a3 := a3) (a4 := a4) hP h
  rw [e] at this
  exact this

theorem State.inbandFrame_parts {P : List Part} {s t : State} {a1 a2}
    (hP : [.freeCtr, .regs, .ctrs, .highLatch, .cmd, .sec, .flt, .tim, .adc, .ports] ⊆ P) (h : OnlyParts P s t) :
    OnlyParts P s (State.inbandFrame t a1 a2) := by
  have h0 : ([.ctrs] : List Part) ⊆ P := List.Subset.trans (by decide) hP
  have h1 : ([.ports] : List Part) ⊆ P := List.Subset.trans (by decide) hP
  have h2 : ([.freeCtr, .regs, .ctrs, .highLatch, .cmd, .sec, .flt, .tim,
    .adc] : List Part) ⊆ P := List.Subset.trans (by decide) hP
  have h3 : ([.freeCtr] : List Part) ⊆ P := List.Subset.trans (by decide) hP
  unfold State.inbandFrame
  repeat' first
    | with_reducible exact h
    | with_reducible refine State.lanBump_parts h0 ?_
    | with_reducible refine State.setPort_parts h1 ?_
    | with_reducible refine State.inbandRequest_parts h2 ?_
    | with_reducible refine State.inbandRequest_parts_eq h2 (by assumption) ?_
    | with_reducible refine State.replyFrame_parts h3 ?_

theorem State.goodFrame_parts {P : List Part} {s t : State} {a1 a2}
    (hP : [.freeCtr, .regs, .ctrs, .highLatch, .cmd, .sec, .flt, .tim, .adc, .brt, .pkts, .nextPkt, .ports] ⊆ P)
    (h : OnlyParts P s t) :
    OnlyParts P s (State.goodFrame t a1 a2) := by
  have h0 : ([.ctrs] : List Part) ⊆ P := List.Subset.trans (by decide) hP
  have h1 : ([.ports] : List Part) ⊆ P := List.Subset.trans (by decide) hP
  have h2 : ([.regs, .ctrs, .cmd, .brt, .pkts, .nextPkt, .ports] : List Part) ⊆ P := List.Subset.trans (by decide) hP
  have h3 : ([.brt] : List Part) ⊆ P := List.Subset.trans (by decide) hP
  have h4 : ([.sec] : List Part) ⊆ P := List.Subset.trans (by decide) hP
  have h5 : ([.freeCtr, .regs, .ctrs, .highLatch, .cmd, .sec, .flt, .tim, .adc,
    .ports] : List Part) ⊆ P := List.Subset.trans (by decide) hP
  have h6 : ([.regs, .ctrs, .cmd, .tim] : List Part) ⊆ P := List.Subset.trans (by decide) hP
  unfold State.goodFrame
  repeat' first
    | with_reducible exact h
    | with_reducible refine State.lanBump_parts h0 ?_
    | with_reducible refine State.setPort_parts h1 ?_
    | with_reducible refine State.handToParse_parts h2 ?_
    | with_reducible refine State.admitDiscard_parts h3 ?_
    | with_reducible refine State.audit_parts h4 ?_
    | with_reducible refine State.inbandFrame_parts h5 ?_
    | with_reducible refine State.capture_parts h6 ?_
    | split
    | dsimp only

theorem State.frameReceived_parts {P : List Part} {s t : State} {a1 a2}
    (hP : [.freeCtr, .regs, .ctrs, .highLatch, .cmd, .sec, .flt, .tim, .adc, .brt, .pkts, .nextPkt, .ports] ⊆ P)
    (h : OnlyParts P s t) :
    OnlyParts P s (State.frameReceived t a1 a2) := by
  have h0 : ([.ctrs] : List Part) ⊆ P := List.Subset.trans (by decide) hP
  have h1 : ([.freeCtr, .regs, .ctrs, .highLatch, .cmd, .sec, .flt, .tim, .adc, .brt, .pkts, .nextPkt,
    .ports] : List Part) ⊆ P := List.Subset.trans (by decide) hP
  unfold State.frameReceived
  repeat' first
    | with_reducible exact h
    | with_reducible refine State.countCorrected_parts h0 ?_
    | with_reducible refine State.lanBump_parts h0 ?_
    | with_reducible refine State.bump_parts h0 ?_
    | with_reducible refine State.goodFrame_parts h1 ?_
    | split
    | dsimp only

theorem State.launchDelivered_parts {P : List Part} {s t : State} {a1 a2} (hP : [.xing] ⊆ P) (h : OnlyParts P s t) :
    OnlyParts P s (State.launchDelivered t a1 a2) := by
  have h0 : ([.xing] : List Part) ⊆ P := List.Subset.trans (by decide) hP
  unfold State.launchDelivered
  repeat' first
    | with_reducible exact h
    | with_reducible refine State.setCrossing_parts h0 ?_

theorem State.frameSent_parts {P : List Part} {s t : State} {a1}
    (hP : [.ctrs, .pkts, .ports, .chips, .xing] ⊆ P) (h : OnlyParts P s t) :
    OnlyParts P s (State.frameSent t a1) := by
  have h0 : ([.pkts] : List Part) ⊆ P := List.Subset.trans (by decide) hP
  have h1 : ([.ctrs] : List Part) ⊆ P := List.Subset.trans (by decide) hP
  have h2 : ([.ports] : List Part) ⊆ P := List.Subset.trans (by decide) hP
  have h3 : ([.xing] : List Part) ⊆ P := List.Subset.trans (by decide) hP
  have h4 : ([.chips] : List Part) ⊆ P := List.Subset.trans (by decide) hP
  unfold State.frameSent
  repeat' first
    | with_reducible exact h
    | with_reducible refine State.dropPkt_parts h0 ?_
    | with_reducible refine State.lanBump_parts h1 ?_
    | with_reducible refine State.setPort_parts h2 ?_
    | with_reducible refine State.launchDelivered_parts h3 ?_
    | with_reducible refine State.startLf_parts h2 ?_
    | with_reducible refine State.freeHold_parts h4 ?_
    | split
    | dsimp only

theorem State.linkComesUp_parts {P : List Part} {s t : State} {a1} (hP : [.ports, .chips] ⊆ P) (h : OnlyParts P s t) :
    OnlyParts P s (State.linkComesUp t a1) := by
  have h0 : ([.ports] : List Part) ⊆ P := List.Subset.trans (by decide) hP
  have h1 : ([.chips] : List Part) ⊆ P := List.Subset.trans (by decide) hP
  unfold State.linkComesUp
  repeat' first
    | with_reducible exact h
    | with_reducible refine State.setPort_parts h0 ?_
    | with_reducible refine State.startLf_parts h0 ?_
    | with_reducible refine State.setChip_parts h1 ?_
    | split
    | dsimp only

theorem State.linkDown_parts {P : List Part} {s t : State} {a1 a2} (hP : [.ctrs, .ports] ⊆ P) (h : OnlyParts P s t) :
    OnlyParts P s (State.linkDown t a1 a2) := by
  have h0 : ([.ctrs] : List Part) ⊆ P := List.Subset.trans (by decide) hP
  have h1 : ([.ports] : List Part) ⊆ P := List.Subset.trans (by decide) hP
  unfold State.linkDown
  repeat' first
    | with_reducible exact h
    | with_reducible refine State.lanBump_parts h0 ?_
    | with_reducible refine State.restartTraining_parts h1 ?_
    | split

theorem State.linkFault_parts {P : List Part} {s t : State} {a1 a2} (hP : [.ports] ⊆ P) (h : OnlyParts P s t) :
    OnlyParts P s (State.linkFault t a1 a2) := by
  have h0 : ([.ports] : List Part) ⊆ P := List.Subset.trans (by decide) hP
  unfold State.linkFault
  repeat' first
    | with_reducible exact h
    | with_reducible refine State.setPort_parts h0 ?_
    | with_reducible refine State.startLf_parts h0 ?_
    | split

theorem State.linkFaultEnd_parts {P : List Part} {s t : State} {a1 a2} (hP : [.ports] ⊆ P) (h : OnlyParts P s t) :
    OnlyParts P s (State.linkFaultEnd t a1 a2) := by
  have h0 : ([.ports] : List Part) ⊆ P := List.Subset.trans (by decide) hP
  unfold State.linkFaultEnd
  repeat' first
    | with_reducible exact h
    | with_reducible refine State.setPort_parts h0 ?_
    | split

theorem State.pinBank_parts {P : List Part} {s t : State} {a1 a2 a3}
    (hP : [.ctrs, .pkts, .chips] ⊆ P) (h : OnlyParts P s t) :
    OnlyParts P s (State.pinBank t a1 a2 a3).1 := by
  have h0 : ([.ctrs] : List Part) ⊆ P := List.Subset.trans (by decide) hP
  have h1 : ([.pkts] : List Part) ⊆ P := List.Subset.trans (by decide) hP
  have h2 : ([.chips] : List Part) ⊆ P := List.Subset.trans (by decide) hP
  unfold State.pinBank
  repeat' first
    | with_reducible exact h
    | with_reducible refine State.bump_parts h0 ?_
    | with_reducible refine State.setPkt_parts h1 ?_
    | with_reducible refine State.setChip_parts h2 ?_
    | split

theorem State.pinBank_parts_eq {P : List Part} {s t v : State} {a1 a2 a3} {x1}
    (hP : [.ctrs, .pkts, .chips] ⊆ P) (e : State.pinBank t a1 a2 a3 = (v, x1)) (h : OnlyParts P s t) :
    OnlyParts P s v := by
  have := State.pinBank_parts (P := P) (s := s) (a1 := a1) (a2 := a2) (a3 := a3) hP h
  rw [e] at this
  exact this

theorem State.traceLookup_parts {P : List Part} {s t : State} {a1 a2 a3 a4 a5}
    (hP : [.regs, .chips] ⊆ P) (h : OnlyParts P s t) :
    OnlyParts P s (State.traceLookup t a1 a2 a3 a4 a5) := by
  have h0 : ([.regs] : List Part) ⊆ P := List.Subset.trans (by decide) hP
  have h1 : ([.chips] : List Part) ⊆ P := List.Subset.trans (by decide) hP
  unfold State.traceLookup
  repeat' first
    | with_reducible exact h
    | with_reducible refine State.wrBit_parts h0 ?_
    | with_reducible refine State.setChip_parts h1 ?_
    | split
    | dsimp only

theorem Walk.read_parts {P : List Part} {s : State} {w : Walk} {c b ecc unit pin} (hP : [.ctrs, .flt, .chips] ⊆ P)
    (h : OnlyParts P s w.s) : OnlyParts P s (w.read c b ecc unit pin).2.s := by
  have h0 : ([.chips] : List Part) ⊆ P := List.Subset.trans (by decide) hP
  have h1 : ([.ctrs] : List Part) ⊆ P := List.Subset.trans (by decide) hP
  have h2 : ([.ctrs, .flt] : List Part) ⊆ P := List.Subset.trans (by decide) hP
  have e : OnlyParts P s ((w.s.setChip c ((w.s.chip c).visit b unit pin).2).bump (prsReg c 0x818) 1) :=
    State.bump_parts h1 (State.setChip_parts h0 h)
  simp only [Walk.read]
  split
  · refine State.tblFault_parts h2 (State.spoilUnit_parts h0 (State.setChip_parts h0 ?_))
    split
    · exact e
    · exact State.bump_parts h1 e
  · split
    · exact e
    · exact State.bump_parts h1 e

theorem Walk.leaf_parts {P : List Part} {s : State} {w : Walk} {c b ecc h' key node n i}
    (hP : [.ctrs, .flt, .chips] ⊆ P)
    (h : OnlyParts P s w.s) : OnlyParts P s (Walk.leaf c b ecc h' key node n i w).2.s := by
  induction n generalizing i w with
  | zero => exact h
  | succ n ih =>
    simp only [Walk.leaf]
    repeat' split
    · exact h
    · exact Walk.read_parts hP h
    · exact Walk.read_parts hP h
    · exact ih (Walk.read_parts hP h)

theorem Walk.tree_parts {P : List Part} {s : State} {w : Walk} {c b ecc h' key f n} (hP : [.ctrs, .flt, .chips] ⊆ P)
    (h : OnlyParts P s w.s) : OnlyParts P s (Walk.tree c b ecc h' key f n w).2.s := by
  induction f generalizing n w with
  | zero => exact h
  | succ f ih =>
    simp only [Walk.tree]
    repeat' split
    · exact h
    · exact Walk.read_parts hP h
    · exact Walk.read_parts hP h
    · exact Walk.read_parts hP h
    · exact ih (Walk.read_parts hP h)
    · exact Walk.leaf_parts hP (Walk.read_parts hP h)
    · exact Walk.read_parts hP h

theorem State.lookup_parts {P : List Part} {s t : State} {a1 a2}
    (hP : [.freeCtr, .regs, .ctrs, .cmd, .flt, .brt, .pkts, .chips] ⊆ P) (h : OnlyParts P s t) :
    OnlyParts P s (State.lookup t a1 a2) := by
  have hw : ([.ctrs, .flt, .chips] : List Part) ⊆ P := List.Subset.trans (by decide) hP
  have hc : ([.chips] : List Part) ⊆ P := List.Subset.trans (by decide) hP
  have hb : ([.ctrs] : List Part) ⊆ P := List.Subset.trans (by decide) hP
  have hk : ([.ctrs, .pkts, .chips] : List Part) ⊆ P := List.Subset.trans (by decide) hP
  unfold State.lookup
  dsimp only
  split
  · exact h
  · split
    · exact State.setChip_parts hc h
    · refine State.drainResults_parts (List.Subset.trans (by decide) hP) ?_
      split
      · refine State.applyResult_parts (List.Subset.trans (by decide) hP) (State.traceLookup_parts (List.Subset.trans (by decide) hP) ?_)
        refine Walk.tree_parts hw (State.bump_parts hb (State.pinBank_parts hk (State.setChip_parts hc h)))
      · refine State.applyResult_parts (List.Subset.trans (by decide) hP) (State.traceLookup_parts (List.Subset.trans (by decide) hP) ?_)
        refine Walk.tree_parts hw (State.bump_parts hb (State.pinBank_parts hk (State.setChip_parts hc h)))
      · refine State.exception_parts (List.Subset.trans (by decide) hP) (State.traceLookup_parts (List.Subset.trans (by decide) hP) ?_)
        refine Walk.tree_parts hw (State.bump_parts hb (State.pinBank_parts hk (State.setChip_parts hc h)))

theorem State.pinUcode_parts {P : List Part} {s t : State} {a1 a2} (hP : [.pkts, .chips] ⊆ P) (h : OnlyParts P s t) :
    OnlyParts P s (State.pinUcode t a1 a2) := by
  have h0 : ([.pkts] : List Part) ⊆ P := List.Subset.trans (by decide) hP
  have h1 : ([.chips] : List Part) ⊆ P := List.Subset.trans (by decide) hP
  unfold State.pinUcode
  repeat' first
    | with_reducible exact h
    | with_reducible refine State.modPkt_parts h0 ?_
    | with_reducible refine State.setChip_parts h1 ?_

theorem State.parseDispatch_parts {P : List Part} {s t : State} {a1 a2 a3}
    (hP : [.ctrs, .pkts, .ports, .chips] ⊆ P) (h : OnlyParts P s t) :
    OnlyParts P s (State.parseDispatch t a1 a2 a3) := by
  have h0 : ([.ctrs] : List Part) ⊆ P := List.Subset.trans (by decide) hP
  have h1 : ([.ports] : List Part) ⊆ P := List.Subset.trans (by decide) hP
  have h2 : ([.pkts, .chips] : List Part) ⊆ P := List.Subset.trans (by decide) hP
  have h3 : ([.chips] : List Part) ⊆ P := List.Subset.trans (by decide) hP
  unfold State.parseDispatch
  repeat' first
    | with_reducible exact h
    | with_reducible refine State.bump_parts h0 ?_
    | with_reducible refine State.setPort_parts h1 ?_
    | with_reducible refine State.pinUcode_parts h2 ?_
    | with_reducible refine State.setChip_parts h3 ?_
    | split
    | dsimp only

theorem State.resolveParse_parts {P : List Part} {s t : State} {a1 a2 a3 a4}
    (hP : [.ctrs, .brt, .pkts, .chips] ⊆ P) (h : OnlyParts P s t) :
    OnlyParts P s (State.resolveParse t a1 a2 a3 a4) := by
  have h0 : ([.ctrs, .brt, .pkts, .chips] : List Part) ⊆ P := List.Subset.trans (by decide) hP
  have h1 : ([.pkts] : List Part) ⊆ P := List.Subset.trans (by decide) hP
  have h2 : ([.chips] : List Part) ⊆ P := List.Subset.trans (by decide) hP
  unfold State.resolveParse
  repeat' first
    | with_reducible exact h
    | with_reducible refine State.clsDrop_parts h0 ?_
    | with_reducible refine State.setPkt_parts h1 ?_
    | with_reducible refine State.setChip_parts h2 ?_
    | split

theorem State.parsePassEnd_parts {P : List Part} {s t : State} {a1 a2}
    (hP : [.freeCtr, .regs, .ctrs, .cmd, .flt, .brt, .pkts, .chips] ⊆ P) (h : OnlyParts P s t) :
    OnlyParts P s (State.parsePassEnd t a1 a2) := by
  have h0 : ([.ctrs] : List Part) ⊆ P := List.Subset.trans (by decide) hP
  have h1 : ([.ctrs, .brt, .pkts, .chips] : List Part) ⊆ P := List.Subset.trans (by decide) hP
  have h2 : ([.freeCtr, .regs, .ctrs, .cmd, .flt, .brt, .pkts,
    .chips] : List Part) ⊆ P := List.Subset.trans (by decide) hP
  have h3 : ([.pkts] : List Part) ⊆ P := List.Subset.trans (by decide) hP
  have h4 : ([.regs, .ctrs, .cmd] : List Part) ⊆ P := List.Subset.trans (by decide) hP
  have h5 : ([.chips] : List Part) ⊆ P := List.Subset.trans (by decide) hP
  unfold State.parsePassEnd
  repeat' first
    | with_reducible exact h
    | with_reducible refine State.bump_parts h0 ?_
    | with_reducible refine State.resolveParse_parts h1 ?_
    | with_reducible refine State.drainResults_parts h2 ?_
    | with_reducible refine State.setPkt_parts h3 ?_
    | with_reducible refine State.excCount_parts h4 ?_
    | with_reducible refine State.setChip_parts h5 ?_
    | split
    | dsimp only

theorem State.pauseExpiry_parts {P : List Part} {s t : State} {a1 a2} (hP : [.ports] ⊆ P) (h : OnlyParts P s t) :
    OnlyParts P s (State.pauseExpiry t a1 a2) := by
  have h0 : ([.ports] : List Part) ⊆ P := List.Subset.trans (by decide) hP
  unfold State.pauseExpiry
  repeat' first
    | with_reducible exact h
    | with_reducible refine State.setPort_parts h0 ?_

theorem State.pfcFrame_parts {P : List Part} {s t : State} {a1} (hP : [.freeCtr] ⊆ P) (h : OnlyParts P s t) :
    OnlyParts P s (State.pfcFrame t a1).2 := by
  have h0 : ([.freeCtr] : List Part) ⊆ P := List.Subset.trans (by decide) hP
  unfold State.pfcFrame
  repeat' first
    | with_reducible exact h
    | with_reducible refine State.free_parts h0 ?_

theorem State.pfcFrame_parts_eq {P : List Part} {s t v : State} {a1} {x0}
    (hP : [.freeCtr] ⊆ P) (e : State.pfcFrame t a1 = (x0, v)) (h : OnlyParts P s t) :
    OnlyParts P s v := by
  have := State.pfcFrame_parts (P := P) (s := s) (a1 := a1) hP h
  rw [e] at this
  exact this

theorem State.sendPfc_parts {P : List Part} {s t : State} {a1}
    (hP : [.freeCtr, .ctrs, .ports] ⊆ P) (h : OnlyParts P s t) :
    OnlyParts P s (State.sendPfc t a1) := by
  have h0 : ([.ctrs] : List Part) ⊆ P := List.Subset.trans (by decide) hP
  have h1 : ([.ports] : List Part) ⊆ P := List.Subset.trans (by decide) hP
  have h2 : ([.freeCtr] : List Part) ⊆ P := List.Subset.trans (by decide) hP
  unfold State.sendPfc
  repeat' first
    | with_reducible exact h
    | with_reducible refine State.lanBump_parts h0 ?_
    | with_reducible refine State.setPort_parts h1 ?_
    | with_reducible refine State.pfcFrame_parts h2 ?_

theorem State.pfcRefresh_parts {P : List Part} {s t : State} {a1}
    (hP : [.freeCtr, .ctrs, .ports] ⊆ P) (h : OnlyParts P s t) :
    OnlyParts P s (State.pfcRefresh t a1) := by
  have h0 : ([.freeCtr, .ctrs, .ports] : List Part) ⊆ P := List.Subset.trans (by decide) hP
  unfold State.pfcRefresh
  repeat' first
    | with_reducible exact h
    | with_reducible refine State.sendPfc_parts h0 ?_
    | split

theorem State.pfcSend_parts {P : List Part} {s t : State} {a1}
    (hP : [.freeCtr, .ctrs, .ports] ⊆ P) (h : OnlyParts P s t) :
    OnlyParts P s (State.pfcSend t a1) := by
  have h0 : ([.ports] : List Part) ⊆ P := List.Subset.trans (by decide) hP
  have h1 : ([.freeCtr, .ctrs, .ports] : List Part) ⊆ P := List.Subset.trans (by decide) hP
  unfold State.pfcSend
  repeat' first
    | with_reducible exact h
    | with_reducible refine State.startLf_parts h0 ?_
    | with_reducible refine State.sendPfc_parts h1 ?_
    | split

theorem State.remapSwitch_parts {P : List Part} {s t : State} {a1}
    (hP : [.regs, .ports, .chips] ⊆ P) (h : OnlyParts P s t) :
    OnlyParts P s (State.remapSwitch t a1) := by
  have h0 : ([.ports] : List Part) ⊆ P := List.Subset.trans (by decide) hP
  have h1 : ([.regs, .ports] : List Part) ⊆ P := List.Subset.trans (by decide) hP
  have h2 : ([.chips] : List Part) ⊆ P := List.Subset.trans (by decide) hP
  unfold State.remapSwitch
  repeat' first
    | with_reducible exact h
    | with_reducible refine State.setPort_parts h0 ?_
    | with_reducible refine State.startTraining_parts h1 ?_
    | with_reducible refine State.setChip_parts h2 ?_
    | split
    | dsimp only

theorem State.ruleBankSwap_parts {P : List Part} {s t : State} {a1}
    (hP : [.freeCtr, .regs, .ctrs, .cmd, .flt, .chips] ⊆ P) (h : OnlyParts P s t) :
    OnlyParts P s (State.ruleBankSwap t a1) := by
  have h0 : ([.freeCtr, .regs, .ctrs, .cmd, .flt, .chips] : List Part) ⊆ P := List.Subset.trans (by decide) hP
  unfold State.ruleBankSwap
  repeat' first
    | with_reducible exact h
    | with_reducible refine State.bankSwap_parts h0 ?_
    | split

theorem State.sentFrame_parts {P : List Part} {s t : State} {a1 a2 a3}
    (hP : [.regs, .ctrs, .cmd, .tim] ⊆ P) (h : OnlyParts P s t) :
    OnlyParts P s (State.sentFrame t a1 a2 a3).2 := by
  have h0 : ([.ctrs] : List Part) ⊆ P := List.Subset.trans (by decide) hP
  have h1 : ([.regs, .ctrs, .cmd, .tim] : List Part) ⊆ P := List.Subset.trans (by decide) hP
  unfold State.sentFrame
  repeat' first
    | with_reducible exact h
    | with_reducible refine State.lanBump_parts h0 ?_
    | with_reducible refine State.capture_parts h1 ?_
    | split
    | dsimp only

theorem State.sentFrame_parts_eq {P : List Part} {s t v : State} {a1 a2 a3} {x0}
    (hP : [.regs, .ctrs, .cmd, .tim] ⊆ P) (e : State.sentFrame t a1 a2 a3 = (x0, v)) (h : OnlyParts P s t) :
    OnlyParts P s v := by
  have := State.sentFrame_parts (P := P) (s := s) (a1 := a1) (a2 := a2) (a3 := a3) hP h
  rw [e] at this
  exact this

theorem State.startFrame_parts {P : List Part} {s t : State} {a1 a2 a3 a4}
    (hP : [.regs, .ctrs, .cmd, .tim, .brt, .pkts, .ports, .chips] ⊆ P) (h : OnlyParts P s t) :
    OnlyParts P s (State.startFrame t a1 a2 a3 a4) := by
  have h0 : ([.ports] : List Part) ⊆ P := List.Subset.trans (by decide) hP
  have h1 : ([.regs, .ctrs, .cmd, .tim] : List Part) ⊆ P := List.Subset.trans (by decide) hP
  have h2 : ([.regs, .ctrs, .cmd, .brt, .pkts, .ports, .chips] : List Part) ⊆ P := List.Subset.trans (by decide) hP
  unfold State.startFrame
  repeat' first
    | with_reducible exact h
    | with_reducible refine State.setPort_parts h0 ?_
    | with_reducible refine State.sentFrame_parts h1 ?_
    | with_reducible refine State.sentFrame_parts_eq h1 (by assumption) ?_
    | with_reducible refine State.takeHead_parts h2 ?_
    | split
    | dsimp only

theorem State.trainingRetry_parts {P : List Part} {s t : State} {a1} (hP : [.ports] ⊆ P) (h : OnlyParts P s t) :
    OnlyParts P s (State.trainingRetry t a1) := by
  have h0 : ([.ports] : List Part) ⊆ P := List.Subset.trans (by decide) hP
  unfold State.trainingRetry
  repeat' first
    | with_reducible exact h
    | with_reducible refine State.setPort_parts h0 ?_
    | split
    | dsimp only

theorem State.transmitStart_parts {P : List Part} {s t : State} {a1 a2 a3 a4}
    (hP : [.regs, .ctrs, .cmd, .flt, .tim, .brt, .pkts, .ports, .chips] ⊆ P) (h : OnlyParts P s t) :
    OnlyParts P s (State.transmitStart t a1 a2 a3 a4) := by
  have h0 : ([.chips] : List Part) ⊆ P := List.Subset.trans (by decide) hP
  have h1 : ([.regs, .ctrs, .cmd, .tim, .brt, .pkts, .ports,
    .chips] : List Part) ⊆ P := List.Subset.trans (by decide) hP
  have h2 : ([.regs, .ctrs, .cmd, .brt, .pkts, .ports, .chips] : List Part) ⊆ P := List.Subset.trans (by decide) hP
  have h3 : ([.ports] : List Part) ⊆ P := List.Subset.trans (by decide) hP
  have h4 : ([.brt, .pkts, .chips] : List Part) ⊆ P := List.Subset.trans (by decide) hP
  have h5 : ([.regs, .ctrs, .cmd, .flt, .brt, .chips] : List Part) ⊆ P := List.Subset.trans (by decide) hP
  have h6 : ([.ctrs, .ports] : List Part) ⊆ P := List.Subset.trans (by decide) hP
  unfold State.transmitStart
  repeat' first
    | with_reducible exact h
    | with_reducible refine State.setQueue_parts h0 ?_
    | with_reducible refine State.startFrame_parts h1 ?_
    | with_reducible refine State.checkHead_parts h2 ?_
    | with_reducible refine State.loseDeficit_parts h3 ?_
    | with_reducible refine State.discardEgress_parts h4 ?_
    | with_reducible refine State.segRead_parts h5 ?_
    | with_reducible refine State.countGateWaits_parts h6 ?_
    | with_reducible assumption
    | with_reducible refine OnlyParts.foldl (fun _ _ _ => ?_) ?_
    | with_reducible refine OnlyParts.foldl_fst (fun _ _ _ => ?_) ?_
    | split
    | dsimp only

theorem State.ucodeSwap_parts {P : List Part} {s t : State} {a1} (hP : [.chips] ⊆ P) (h : OnlyParts P s t) :
    OnlyParts P s (State.ucodeSwap t a1) := by
  have h0 : ([.chips] : List Part) ⊆ P := List.Subset.trans (by decide) hP
  unfold State.ucodeSwap
  repeat' first
    | with_reducible exact h
    | with_reducible refine State.setChip_parts h0 ?_
    | split
    | dsimp only

end Sys2Proof.Machine
end

