-- ==== Sys2Proof/Laws/PartsSystem.lean ====
section
/-! SUPPORT. What each operation of the structure image, faults, power, heat, security and the command ports may change: one lemma per operation. -/

namespace Sys2Proof.Machine

open Sys2Proof

theorem State.imgErr_parts {P : List Part} {s t : State} {a1} (hP : [.img] ⊆ P) (h : OnlyParts P s t) :
    OnlyParts P s (State.imgErr t a1) := by
  have m_img : Part.img ∈ P := hP (by decide)
  unfold State.imgErr
  repeat' first
    | with_reducible exact h
    | dsimp only
    | with_reducible refine OnlyParts.set_img m_img ?_

theorem State.imgIrq_parts {P : List Part} {s t : State} (hP : [.regs, .cmd] ⊆ P) (h : OnlyParts P s t) :
    OnlyParts P s (State.imgIrq t) := by
  have h0 : ([.regs, .cmd] : List Part) ⊆ P := List.Subset.trans (by decide) hP
  unfold State.imgIrq
  repeat' first
    | with_reducible exact h
    | with_reducible refine State.irqIf_parts h0 ?_

theorem State.imgEnds_parts {P : List Part} {s t : State} {a1 a2}
    (hP : [.regs, .cmd, .sec] ⊆ P) (h : OnlyParts P s t) :
    OnlyParts P s (State.imgEnds t a1 a2) := by
  have h0 : ([.regs, .cmd] : List Part) ⊆ P := List.Subset.trans (by decide) hP
  have h1 : ([.sec] : List Part) ⊆ P := List.Subset.trans (by decide) hP
  unfold State.imgEnds
  repeat' first
    | with_reducible exact h
    | with_reducible refine State.imgIrq_parts h0 ?_
    | with_reducible refine State.audit_parts h1 ?_

theorem State.imgFails_parts {P : List Part} {s t : State} {a1 a2}
    (hP : [.regs, .cmd, .sec, .img] ⊆ P) (h : OnlyParts P s t) :
    OnlyParts P s (State.imgFails t a1 a2) := by
  have h0 : ([.img] : List Part) ⊆ P := List.Subset.trans (by decide) hP
  have h1 : ([.regs, .cmd, .sec] : List Part) ⊆ P := List.Subset.trans (by decide) hP
  unfold State.imgFails
  repeat' first
    | with_reducible exact h
    | with_reducible refine State.imgErr_parts h0 ?_
    | with_reducible refine State.imgEnds_parts h1 ?_

theorem State.abandonRestructure_parts {P : List Part} {s t : State}
    (hP : [.regs, .cmd, .sec, .glb, .img] ⊆ P) (h : OnlyParts P s t) :
    OnlyParts P s (State.abandonRestructure t) := by
  have m_img : Part.img ∈ P := hP (by decide)
  have h0 : ([.regs, .cmd, .sec, .img] : List Part) ⊆ P := List.Subset.trans (by decide) hP
  have h1 : ([.regs, .cmd, .glb] : List Part) ⊆ P := List.Subset.trans (by decide) hP
  unfold State.abandonRestructure
  repeat' first
    | with_reducible exact h
    | with_reducible refine State.imgFails_parts h0 ?_
    | with_reducible refine State.setGState_parts h1 ?_
    | split
    | dsimp only
    | with_reducible refine OnlyParts.set_img m_img ?_

theorem State.abandonQuiesce_parts {P : List Part} {s t : State} (hP : [.regs, .glb] ⊆ P) (h : OnlyParts P s t) :
    OnlyParts P s (State.abandonQuiesce t) := by
  have m_glb : Part.glb ∈ P := hP (by decide)
  have h0 : ([.regs] : List Part) ⊆ P := List.Subset.trans (by decide) hP
  unfold State.abandonQuiesce
  repeat' first
    | with_reducible exact h
    | with_reducible refine State.wrBit_parts h0 ?_
    | split
    | dsimp only
    | with_reducible refine OnlyParts.set_glb m_glb ?_

theorem State.abandonDrains_parts {P : List Part} {s t : State}
    (hP : [.regs, .cmd, .sec, .glb, .img] ⊆ P) (h : OnlyParts P s t) :
    OnlyParts P s (State.abandonDrains t) := by
  have h0 : ([.regs, .cmd, .sec, .glb, .img] : List Part) ⊆ P := List.Subset.trans (by decide) hP
  have h1 : ([.regs, .glb] : List Part) ⊆ P := List.Subset.trans (by decide) hP
  unfold State.abandonDrains
  repeat' first
    | with_reducible exact h
    | with_reducible refine State.abandonRestructure_parts h0 ?_
    | with_reducible refine State.abandonQuiesce_parts h1 ?_

theorem State.abortFull_parts {P : List Part} {s t : State}
    (hP : [.freeCtr, .regs, .cmd, .glb, .tim, .loopA, .loopB, .loopS, .drv, .mtx, .cal, .acq, .slt, .brt] ⊆ P)
    (h : OnlyParts P s t) :
    OnlyParts P s (State.abortFull t) := by
  have m_cal : Part.cal ∈ P := hP (by decide)
  have h0 : ([.regs, .cmd, .glb, .tim, .slt, .brt] : List Part) ⊆ P := List.Subset.trans (by decide) hP
  have h1 : ([.freeCtr, .glb] : List Part) ⊆ P := List.Subset.trans (by decide) hP
  have h2 : ([.regs, .cmd, .glb, .loopA, .loopB, .loopS, .acq] : List Part) ⊆ P := List.Subset.trans (by decide) hP
  have h3 : ([.drv, .mtx] : List Part) ⊆ P := List.Subset.trans (by decide) hP
  have h4 : ([.regs, .cmd, .loopA, .loopB, .drv, .cal] : List Part) ⊆ P := List.Subset.trans (by decide) hP
  unfold State.abortFull
  repeat' first
    | with_reducible exact h
    | with_reducible refine State.halt_parts h0 ?_
    | with_reducible refine State.stepEnd_parts h1 ?_
    | with_reducible refine State.enterLocking_parts h2 ?_
    | with_reducible refine State.restoreLight_parts h3 ?_
    | with_reducible refine State.interpolate_parts h4 ?_
    | split
    | dsimp only
    | with_reducible refine OnlyParts.set_cal m_cal ?_

theorem State.abortNvm_parts {P : List Part} {s t : State} (hP : [.img, .cal] ⊆ P) (h : OnlyParts P s t) :
    OnlyParts P s (State.abortNvm t) := by
  have m_img : Part.img ∈ P := hP (by decide)
  have m_cal : Part.cal ∈ P := hP (by decide)
  unfold State.abortNvm
  repeat' first
    | with_reducible exact h
    | dsimp only
    | with_reducible refine OnlyParts.set_img m_img ?_
    | with_reducible refine OnlyParts.set_cal m_cal ?_
    | with_reducible refine OnlyParts.set_img_cal m_img m_cal ?_

theorem State.actControl_parts {P : List Part} {s t : State} {a1 a2 a3 a4 a5}
    (hP : [.freeCtr, .regs, .ctrs, .cmd, .sec, .glb, .tim, .loopS, .drv, .adc, .mtx, .cal, .red, .acq, .slt,
      .brt, .ports] ⊆ P)
    (h : OnlyParts P s t) :
    OnlyParts P s (State.actControl t a1 a2 a3 a4 a5) := by
  have h0 : ([.regs, .ctrs, .sec, .loopS] : List Part) ⊆ P := List.Subset.trans (by decide) hP
  have h1 : ([.regs, .ctrs, .sec, .cal] : List Part) ⊆ P := List.Subset.trans (by decide) hP
  have h2 : ([.mtx] : List Part) ⊆ P := List.Subset.trans (by decide) hP
  have h3 : ([.regs, .cmd, .mtx] : List Part) ⊆ P := List.Subset.trans (by decide) hP
  have h4 : ([.regs, .ctrs, .sec, .drv] : List Part) ⊆ P := List.Subset.trans (by decide) hP
  have h5 : ([.regs, .ctrs, .cmd, .sec, .brt] : List Part) ⊆ P := List.Subset.trans (by decide) hP
  have h6 : ([.regs, .ctrs, .cmd, .sec, .glb, .tim, .loopS, .drv, .cal, .slt, .brt,
    .ports] : List Part) ⊆ P := List.Subset.trans (by decide) hP
  have h7 : ([.freeCtr, .regs, .ctrs, .cmd, .sec, .glb, .red,
    .acq] : List Part) ⊆ P := List.Subset.trans (by decide) hP
  have h8 : ([.regs, .ctrs, .sec] : List Part) ⊆ P := List.Subset.trans (by decide) hP
  have h9 : ([.regs, .ctrs, .sec, .mtx] : List Part) ⊆ P := List.Subset.trans (by decide) hP
  have h10 : ([.slt] : List Part) ⊆ P := List.Subset.trans (by decide) hP
  have h11 : ([.regs, .ctrs, .sec, .adc] : List Part) ⊆ P := List.Subset.trans (by decide) hP
  have h12 : ([.regs, .ctrs, .sec, .brt] : List Part) ⊆ P := List.Subset.trans (by decide) hP
  have h13 : ([.regs, .ctrs, .cmd, .sec, .slt] : List Part) ⊆ P := List.Subset.trans (by decide) hP
  have h14 : ([.freeCtr, .regs, .ctrs, .cmd, .sec, .acq] : List Part) ⊆ P := List.Subset.trans (by decide) hP
  unfold State.actControl
  repeat' first
    | with_reducible exact h
    | with_reducible refine State.writeModeReq_parts h0 ?_
    | with_reducible refine State.writeSetRead_parts h1 ?_
    | with_reducible refine State.warmSpare_parts h2 ?_
    | with_reducible refine State.writeParkReq_parts h3 ?_
    | with_reducible refine State.writeRangeReq_parts h4 ?_
    | with_reducible refine State.writeSnapCtrl_parts h5 ?_
    | with_reducible refine State.writeCalCmd_parts h6 ?_
    | with_reducible refine State.writeRedCmd_parts h7 ?_
    | with_reducible refine State.plainWrite_parts h8 ?_
    | with_reducible refine State.writeCoeff_parts h8 ?_
    | with_reducible refine State.writeLbCfg_parts h9 ?_
    | with_reducible refine State.permRead_parts h10 ?_
    | with_reducible refine State.writeAuCfg_parts h11 ?_
    | with_reducible refine State.writePhaseSel_parts h12 ?_
    | with_reducible refine State.writeChangeCtrl_parts h13 ?_
    | with_reducible refine State.calWrite_parts h8 ?_
    | with_reducible refine State.writeSwapCtrl_parts h0 ?_
    | with_reducible refine State.writeAcq_parts h14 ?_
    | with_reducible refine State.writeTarget_parts h0 ?_
    | with_reducible assumption
    | with_reducible refine OnlyParts.foldl (fun _ _ _ => ?_) ?_
    | with_reducible refine OnlyParts.foldl_fst (fun _ _ _ => ?_) ?_
    | split

theorem State.actQuePort_parts {P : List Part} {s t : State} {a1 a2 a3 a4 a5}
    (hP : [.regs, .ctrs, .cmd, .sec, .ports] ⊆ P) (h : OnlyParts P s t) :
    OnlyParts P s (State.actQuePort t a1 a2 a3 a4 a5) := by
  have h0 : ([.regs, .ctrs, .cmd, .sec, .ports] : List Part) ⊆ P := List.Subset.trans (by decide) hP
  have h1 : ([.regs, .ctrs, .sec] : List Part) ⊆ P := List.Subset.trans (by decide) hP
  have h2 : ([.regs, .ctrs, .sec, .ports] : List Part) ⊆ P := List.Subset.trans (by decide) hP
  unfold State.actQuePort
  repeat' first
    | with_reducible exact h
    | with_reducible refine State.writeGateCtrl_parts h0 ?_
    | with_reducible refine State.plainWrite_parts h1 ?_
    | with_reducible refine State.writeLead_parts h1 ?_
    | with_reducible refine State.writeShaper_parts h2 ?_
    | with_reducible refine State.writeGateList_parts h1 ?_
    | split

theorem State.actChip_parts {P : List Part} {s t : State} {a1 a2 a3 a4 a5}
    (hP : [.freeCtr, .regs, .ctrs, .cmd, .sec, .flt, .ports, .chips] ⊆ P) (h : OnlyParts P s t) :
    OnlyParts P s (State.actChip t a1 a2 a3 a4 a5) := by
  have h0 : ([.freeCtr, .regs, .ctrs, .cmd, .sec, .flt, .chips] : List Part) ⊆ P := List.Subset.trans (by decide) hP
  have h1 : ([.regs, .ctrs, .cmd, .sec, .ports] : List Part) ⊆ P := List.Subset.trans (by decide) hP
  have h2 : ([.regs, .ctrs, .sec, .ports] : List Part) ⊆ P := List.Subset.trans (by decide) hP
  have h3 : ([.regs, .ctrs, .cmd, .sec, .chips] : List Part) ⊆ P := List.Subset.trans (by decide) hP
  have h4 : ([.regs, .ctrs, .sec] : List Part) ⊆ P := List.Subset.trans (by decide) hP
  have h5 : ([.regs, .ctrs, .sec, .chips] : List Part) ⊆ P := List.Subset.trans (by decide) hP
  have h6 : ([.regs, .ctrs, .sec, .ports, .chips] : List Part) ⊆ P := List.Subset.trans (by decide) hP
  unfold State.actChip
  repeat' first
    | with_reducible exact h
    | with_reducible refine State.writeBankCtrl_parts h0 ?_
    | with_reducible refine State.actQuePort_parts h1 ?_
    | with_reducible refine State.writePortCtrl_parts h2 ?_
    | with_reducible refine State.writePchReplace_parts h3 ?_
    | with_reducible refine State.plainWrite_parts h4 ?_
    | with_reducible refine State.writeTrace_parts h5 ?_
    | with_reducible refine State.writeMtrCtrl_parts h5 ?_
    | with_reducible refine State.writeGateList_parts h4 ?_
    | with_reducible refine State.writeLanPort_parts h2 ?_
    | with_reducible refine State.writeMeterSel_parts h5 ?_
    | with_reducible refine State.writeRemap_parts h6 ?_
    | with_reducible refine State.writeProfile0_parts h5 ?_
    | split

theorem State.writeBlockCfg_parts {P : List Part} {s t : State} {a1 a2 a3}
    (hP : [.regs, .ctrs, .sec, .flt] ⊆ P) (h : OnlyParts P s t) :
    OnlyParts P s (State.writeBlockCfg t a1 a2 a3) := by
  have m_flt : Part.flt ∈ P := hP (by decide)
  have h0 : ([.regs, .ctrs, .sec] : List Part) ⊆ P := List.Subset.trans (by decide) hP
  unfold State.writeBlockCfg
  repeat' first
    | with_reducible exact h
    | with_reducible refine State.plainWrite_parts h0 ?_
    | split
    | dsimp only
    | with_reducible refine OnlyParts.set_flt m_flt ?_

theorem State.resumeBit_parts {P : List Part} {s t : State} (hP : [.regs, .cmd, .glb] ⊆ P) (h : OnlyParts P s t) :
    OnlyParts P s (State.resumeBit t) := by
  have h0 : ([.regs] : List Part) ⊆ P := List.Subset.trans (by decide) hP
  have h1 : ([.regs, .cmd, .glb] : List Part) ⊆ P := List.Subset.trans (by decide) hP
  unfold State.resumeBit
  repeat' first
    | with_reducible exact h
    | with_reducible refine State.wrBit_parts h0 ?_
    | with_reducible refine State.setGState_parts h1 ?_
    | split

theorem State.releaseBit_parts {P : List Part} {s t : State} (hP : [.regs] ⊆ P) (h : OnlyParts P s t) :
    OnlyParts P s (State.releaseBit t) := by
  have h0 : ([.regs] : List Part) ⊆ P := List.Subset.trans (by decide) hP
  unfold State.releaseBit
  repeat' first
    | with_reducible exact h
    | with_reducible refine State.wrBit_parts h0 ?_
    | split

theorem State.quiesceBit_parts {P : List Part} {s t : State} (hP : [.regs, .glb] ⊆ P) (h : OnlyParts P s t) :
    OnlyParts P s (State.quiesceBit t) := by
  have m_glb : Part.glb ∈ P := hP (by decide)
  have h0 : ([.regs] : List Part) ⊆ P := List.Subset.trans (by decide) hP
  unfold State.quiesceBit
  repeat' first
    | with_reducible exact h
    | with_reducible refine State.wrBit_parts h0 ?_
    | split
    | dsimp only
    | with_reducible refine OnlyParts.set_glb m_glb ?_

theorem State.writeGlbCtrl_parts {P : List Part} {s t : State} {a1 a2}
    (hP : [.regs, .ctrs, .cmd, .sec, .glb] ⊆ P) (h : OnlyParts P s t) :
    OnlyParts P s (State.writeGlbCtrl t a1 a2) := by
  have h0 : ([.regs, .ctrs, .sec] : List Part) ⊆ P := List.Subset.trans (by decide) hP
  have h1 : ([.regs, .cmd, .glb] : List Part) ⊆ P := List.Subset.trans (by decide) hP
  have h2 : ([.regs] : List Part) ⊆ P := List.Subset.trans (by decide) hP
  have h3 : ([.regs, .glb] : List Part) ⊆ P := List.Subset.trans (by decide) hP
  unfold State.writeGlbCtrl
  repeat' first
    | with_reducible exact h
    | with_reducible refine State.plainWrite_parts h0 ?_
    | with_reducible refine State.resumeBit_parts h1 ?_
    | with_reducible refine State.releaseBit_parts h2 ?_
    | with_reducible refine State.quiesceBit_parts h3 ?_
    | split

theorem State.writeMsix_parts {P : List Part} {s t : State} {a1 a2 a3}
    (hP : [.regs, .ctrs, .cmd, .sec] ⊆ P) (h : OnlyParts P s t) :
    OnlyParts P s (State.writeMsix t a1 a2 a3) := by
  have m_cmd : Part.cmd ∈ P := hP (by decide)
  have h0 : ([.regs, .ctrs, .sec] : List Part) ⊆ P := List.Subset.trans (by decide) hP
  have h1 : ([.cmd] : List Part) ⊆ P := List.Subset.trans (by decide) hP
  unfold State.writeMsix
  repeat' first
    | with_reducible exact h
    | with_reducible refine State.plainWrite_parts h0 ?_
    | with_reducible refine State.msiSend_parts h1 ?_
    | split
    | dsimp only
    | with_reducible refine OnlyParts.set_cmd m_cmd ?_

theorem State.enterSafe_parts {P : List Part} {s t : State}
    (hP : [.regs, .cmd, .sec, .flt, .glb, .img, .acq, .ports] ⊆ P) (h : OnlyParts P s t) :
    OnlyParts P s (State.enterSafe t) := by
  have m_flt : Part.flt ∈ P := hP (by decide)
  have h0 : ([.ports] : List Part) ⊆ P := List.Subset.trans (by decide) hP
  have h1 : ([.regs, .cmd, .sec, .glb, .img] : List Part) ⊆ P := List.Subset.trans (by decide) hP
  have h2 : ([.acq] : List Part) ⊆ P := List.Subset.trans (by decide) hP
  unfold State.enterSafe
  repeat' first
    | with_reducible exact h
    | with_reducible refine State.startLf_parts h0 ?_
    | with_reducible refine State.abandonDrains_parts h1 ?_
    | with_reducible refine State.event_parts h2 ?_
    | with_reducible assumption
    | with_reducible refine OnlyParts.foldl (fun _ _ _ => ?_) ?_
    | with_reducible refine OnlyParts.foldl_fst (fun _ _ _ => ?_) ?_
    | split
    | dsimp only
    | with_reducible refine OnlyParts.set_flt m_flt ?_

theorem State.setFltRecord_parts {P : List Part} {s t : State} {a1 a2} (hP : [.flt] ⊆ P) (h : OnlyParts P s t) :
    OnlyParts P s (State.setFltRecord t a1 a2) := by
  have m_flt : Part.flt ∈ P := hP (by decide)
  unfold State.setFltRecord
  repeat' first
    | with_reducible exact h
    | dsimp only
    | with_reducible refine OnlyParts.set_flt m_flt ?_

theorem State.closeRecord_parts {P : List Part} {s t : State} {a1 a2} (hP : [.flt] ⊆ P) (h : OnlyParts P s t) :
    OnlyParts P s (State.closeRecord t a1 a2) := by
  have m_flt : Part.flt ∈ P := hP (by decide)
  have h0 : ([.flt] : List Part) ⊆ P := List.Subset.trans (by decide) hP
  unfold State.closeRecord
  repeat' first
    | with_reducible exact h
    | with_reducible refine State.setFltRecord_parts h0 ?_
    | split
    | dsimp only
    | with_reducible refine OnlyParts.set_flt m_flt ?_

theorem State.powerDown_parts {P : List Part} {s t : State}
    (hP : [.regs, .ctrs, .highLatch, .cmd, .sec, .flt, .thm, .glb, .img, .tim, .loopA, .loopB, .loopS, .drv,
      .adc, .mtx, .cal, .red, .acq, .slt, .brt, .pkts, .nextPkt, .ports, .chips, .xing] ⊆ P)
    (h : OnlyParts P s t) :
    OnlyParts P s (State.powerDown t) := by
  have h1 : ([.flt] : List Part) ⊆ P := List.Subset.trans (by decide) hP
  have h1 : ∀ i b, (t.closeRecord i b).pending = t.pending ∧ (t.closeRecord i b).freeCtr = t.freeCtr := by
    intro i b
    have e : OnlyParts [.regs, .flt] t (t.closeRecord i b) := State.closeRecord_parts (by decide) OnlyParts.refl
    exact ⟨e .pending (by decide), e .freeCtr (by decide)⟩
  intro p hp
  have h2 := h p hp
  cases p
  case pending =>
    refine Eq.trans ?_ h2
    unfold State.powerDown State.wrBit State.wr
    dsimp only
    split
    · exact (h1 _ _).1
    · rfl
  case freeCtr =>
    refine Eq.trans ?_ h2
    unfold State.powerDown State.wrBit State.wr
    dsimp only
    split
    · exact (h1 _ _).2
    · rfl
  all_goals exact absurd (hP (by decide)) hp

theorem State.restartIfReady_parts {P : List Part} {s t : State}
    (hP : [.regs, .ctrs, .highLatch, .cmd, .sec, .flt, .thm, .glb, .img, .tim, .loopA, .loopB, .loopS, .drv,
      .adc, .mtx, .cal, .red, .acq, .slt, .brt, .pkts, .nextPkt, .ports, .chips, .xing] ⊆ P)
    (h : OnlyParts P s t) :
    OnlyParts P s (State.restartIfReady t) := by
  have h0 : ([.regs, .ctrs, .highLatch, .cmd, .sec, .flt, .thm, .glb, .img, .tim, .loopA, .loopB, .loopS, .drv,
    .adc, .mtx, .cal, .red, .acq, .slt, .brt, .pkts, .nextPkt, .ports, .chips, .xing] : List Part) ⊆ P := List.Subset.trans (by decide) hP
  unfold State.restartIfReady
  repeat' first
    | with_reducible exact h
    | with_reducible refine State.powerDown_parts h0 ?_
    | split

theorem State.beginRestart_parts {P : List Part} {s t : State}
    (hP : [.regs, .ctrs, .highLatch, .cmd, .sec, .flt, .thm, .glb, .img, .tim, .loopA, .loopB, .loopS, .drv,
      .adc, .mtx, .cal, .red, .acq, .slt, .brt, .pkts, .nextPkt, .ports, .chips, .xing] ⊆ P)
    (h : OnlyParts P s t) :
    OnlyParts P s (State.beginRestart t) := by
  have m_glb : Part.glb ∈ P := hP (by decide)
  have h0 : ([.regs, .cmd, .sec, .flt, .glb, .img, .acq, .ports] : List Part) ⊆ P := List.Subset.trans (by decide) hP
  have h1 : ([.regs, .ctrs, .highLatch, .cmd, .sec, .flt, .thm, .glb, .img, .tim, .loopA, .loopB, .loopS, .drv,
    .adc, .mtx, .cal, .red, .acq, .slt, .brt, .pkts, .nextPkt, .ports, .chips, .xing] : List Part) ⊆ P := List.Subset.trans (by decide) hP
  unfold State.beginRestart
  repeat' first
    | with_reducible exact h
    | with_reducible refine State.enterSafe_parts h0 ?_
    | with_reducible refine State.restartIfReady_parts h1 ?_
    | dsimp only
    | with_reducible refine OnlyParts.set_glb m_glb ?_

theorem State.writeRestart_parts {P : List Part} {s t : State} {a1 a2}
    (hP : [.regs, .ctrs, .highLatch, .cmd, .sec, .flt, .thm, .glb, .img, .tim, .loopA, .loopB, .loopS, .drv,
      .adc, .mtx, .cal, .red, .acq, .slt, .brt, .pkts, .nextPkt, .ports, .chips, .xing] ⊆ P)
    (h : OnlyParts P s t) :
    OnlyParts P s (State.writeRestart t a1 a2) := by
  have h0 : ([.regs] : List Part) ⊆ P := List.Subset.trans (by decide) hP
  have h1 : ([.regs, .ctrs, .highLatch, .cmd, .sec, .flt, .thm, .glb, .img, .tim, .loopA, .loopB, .loopS, .drv,
    .adc, .mtx, .cal, .red, .acq, .slt, .brt, .pkts, .nextPkt, .ports, .chips, .xing] : List Part) ⊆ P := List.Subset.trans (by decide) hP
  have h2 : ([.regs, .ctrs, .sec] : List Part) ⊆ P := List.Subset.trans (by decide) hP
  unfold State.writeRestart
  repeat' first
    | with_reducible exact h
    | with_reducible refine State.wrBit_parts h0 ?_
    | with_reducible refine State.beginRestart_parts h1 ?_
    | with_reducible refine State.plainWrite_parts h2 ?_
    | split
    | dsimp only

theorem State.thermalEvent_parts {P : List Part} {s t : State} {a1 a2} (hP : [.thm] ⊆ P) (h : OnlyParts P s t) :
    OnlyParts P s (State.thermalEvent t a1 a2) := by
  have m_thm : Part.thm ∈ P := hP (by decide)
  unfold State.thermalEvent
  repeat' first
    | with_reducible exact h
    | split
    | dsimp only
    | with_reducible refine OnlyParts.set_thm m_thm ?_

theorem State.domainGo_parts {P : List Part} {s t : State} {a1} (hP : [.regs, .thm, .glb] ⊆ P) (h : OnlyParts P s t) :
    OnlyParts P s (State.domainGo t a1) := by
  have m_glb : Part.glb ∈ P := hP (by decide)
  have h0 : ([.regs] : List Part) ⊆ P := List.Subset.trans (by decide) hP
  have h1 : ([.thm] : List Part) ⊆ P := List.Subset.trans (by decide) hP
  unfold State.domainGo
  repeat' first
    | with_reducible exact h
    | with_reducible refine State.wrBit_parts h0 ?_
    | with_reducible refine State.thermalEvent_parts h1 ?_
    | with_reducible assumption
    | with_reducible refine OnlyParts.foldl (fun _ _ _ => ?_) ?_
    | with_reducible refine OnlyParts.foldl_fst (fun _ _ _ => ?_) ?_
    | split
    | dsimp only
    | with_reducible refine OnlyParts.set_glb m_glb ?_

theorem State.writeDomainCtrl_parts {P : List Part} {s t : State} {a1 a2}
    (hP : [.regs, .ctrs, .sec, .thm, .glb] ⊆ P) (h : OnlyParts P s t) :
    OnlyParts P s (State.writeDomainCtrl t a1 a2) := by
  have h0 : ([.regs, .thm, .glb] : List Part) ⊆ P := List.Subset.trans (by decide) hP
  have h1 : ([.regs, .ctrs, .sec] : List Part) ⊆ P := List.Subset.trans (by decide) hP
  unfold State.writeDomainCtrl
  repeat' first
    | with_reducible exact h
    | with_reducible refine State.domainGo_parts h0 ?_
    | with_reducible refine State.plainWrite_parts h1 ?_
    | split

theorem State.clearRecord_parts {P : List Part} {s t : State} (hP : [.regs, .ctrs, .flt] ⊆ P) (h : OnlyParts P s t) :
    OnlyParts P s (State.clearRecord t) := by
  have h0 : ([.flt] : List Part) ⊆ P := List.Subset.trans (by decide) hP
  have h1 : ([.ctrs] : List Part) ⊆ P := List.Subset.trans (by decide) hP
  have h2 : ([.regs] : List Part) ⊆ P := List.Subset.trans (by decide) hP
  unfold State.clearRecord
  repeat' first
    | with_reducible exact h
    | with_reducible refine State.setFltRecord_parts h0 ?_
    | with_reducible refine State.bump_parts h1 ?_
    | with_reducible refine State.wrBit_parts h2 ?_
    | with_reducible refine State.closeRecord_parts h0 ?_
    | split
    | dsimp only

theorem State.writeClear_parts {P : List Part} {s t : State} {a1 a2}
    (hP : [.regs, .ctrs, .sec, .flt] ⊆ P) (h : OnlyParts P s t) :
    OnlyParts P s (State.writeClear t a1 a2) := by
  have h0 : ([.regs, .ctrs, .sec] : List Part) ⊆ P := List.Subset.trans (by decide) hP
  have h1 : ([.regs, .ctrs, .flt] : List Part) ⊆ P := List.Subset.trans (by decide) hP
  unfold State.writeClear
  repeat' first
    | with_reducible exact h
    | with_reducible refine State.plainWrite_parts h0 ?_
    | with_reducible refine State.clearRecord_parts h1 ?_
    | split

theorem State.actGlobal_parts {P : List Part} {s t : State} {a1 a2 a3 a4 a5}
    (hP : [.regs, .ctrs, .highLatch, .cmd, .sec, .flt, .thm, .glb, .img, .tim, .loopA, .loopB, .loopS, .drv,
      .adc, .mtx, .cal, .red, .acq, .slt, .brt, .pkts, .nextPkt, .ports, .chips, .xing] ⊆ P)
    (h : OnlyParts P s t) :
    OnlyParts P s (State.actGlobal t a1 a2 a3 a4 a5) := by
  have h0 : ([.regs, .ctrs, .sec, .flt] : List Part) ⊆ P := List.Subset.trans (by decide) hP
  have h1 : ([.regs, .ctrs, .cmd, .sec, .glb] : List Part) ⊆ P := List.Subset.trans (by decide) hP
  have h2 : ([.regs, .ctrs, .cmd, .sec] : List Part) ⊆ P := List.Subset.trans (by decide) hP
  have h3 : ([.regs, .ctrs, .sec, .tim] : List Part) ⊆ P := List.Subset.trans (by decide) hP
  have h4 : ([.regs, .ctrs, .sec] : List Part) ⊆ P := List.Subset.trans (by decide) hP
  have h5 : ([.regs, .ctrs, .highLatch, .cmd, .sec, .flt, .thm, .glb, .img, .tim, .loopA, .loopB, .loopS, .drv,
    .adc, .mtx, .cal, .red, .acq, .slt, .brt, .pkts, .nextPkt, .ports, .chips, .xing] : List Part) ⊆ P := List.Subset.trans (by decide) hP
  have h6 : ([.regs, .ctrs, .sec, .thm, .glb] : List Part) ⊆ P := List.Subset.trans (by decide) hP
  unfold State.actGlobal
  repeat' first
    | with_reducible exact h
    | with_reducible refine State.writeBlockCfg_parts h0 ?_
    | with_reducible refine State.writeGlbCtrl_parts h1 ?_
    | with_reducible refine State.writeMsix_parts h2 ?_
    | with_reducible refine State.writeTimCmd_parts h3 ?_
    | with_reducible refine State.plainWrite_parts h4 ?_
    | with_reducible refine State.writeTimCtrl_parts h3 ?_
    | with_reducible refine State.writeRestart_parts h5 ?_
    | with_reducible refine State.writeDomainCtrl_parts h6 ?_
    | with_reducible refine State.writeClear_parts h0 ?_
    | split

theorem State.regAct_parts {P : List Part} {s t : State} {a1 a2 a3}
    (hP : [.freeCtr, .regs, .ctrs, .highLatch, .cmd, .sec, .flt, .thm, .glb, .img, .tim, .loopA, .loopB,
      .loopS, .drv, .adc, .mtx, .cal, .red, .acq, .slt, .brt, .pkts, .nextPkt, .ports, .chips, .xing] ⊆ P)
    (h : OnlyParts P s t) :
    OnlyParts P s (State.regAct t a1 a2 a3) := by
  have h0 : ([.freeCtr, .regs, .ctrs, .cmd, .sec, .glb, .tim, .loopS, .drv, .adc, .mtx, .cal, .red, .acq, .slt,
    .brt, .ports] : List Part) ⊆ P := List.Subset.trans (by decide) hP
  have h1 : ([.freeCtr, .regs, .ctrs, .cmd, .sec, .flt, .ports,
    .chips] : List Part) ⊆ P := List.Subset.trans (by decide) hP
  have h2 : ([.regs, .ctrs, .highLatch, .cmd, .sec, .flt, .thm, .glb, .img, .tim, .loopA, .loopB, .loopS, .drv,
    .adc, .mtx, .cal, .red, .acq, .slt, .brt, .pkts, .nextPkt, .ports, .chips, .xing] : List Part) ⊆ P := List.Subset.trans (by decide) hP
  unfold State.regAct
  repeat' first
    | with_reducible exact h
    | with_reducible refine State.actControl_parts h0 ?_
    | with_reducible refine State.actChip_parts h1 ?_
    | with_reducible refine State.actGlobal_parts h2 ?_
    | split

theorem State.stageDone_parts {P : List Part} {s t : State} (hP : [.img] ⊆ P) (h : OnlyParts P s t) :
    OnlyParts P s (State.stageDone t) := by
  have m_img : Part.img ∈ P := hP (by decide)
  unfold State.stageDone
  repeat' first
    | with_reducible exact h
    | split
    | dsimp only
    | with_reducible refine OnlyParts.set_img m_img ?_

theorem State.imgAccess_parts {P : List Part} {s t : State} {a1 a2}
    (hP : [.regs, .ctrs, .cmd, .sec] ⊆ P) (ha : ∀ u, OnlyParts P s u → OnlyParts P s (a2 u)) (h : OnlyParts P s t) :
    OnlyParts P s (State.imgAccess t a1 a2) := by
  have h0 : ([.sec] : List Part) ⊆ P := List.Subset.trans (by decide) hP
  have h1 : ([.regs, .ctrs, .cmd, .sec] : List Part) ⊆ P := List.Subset.trans (by decide) hP
  unfold State.imgAccess
  repeat' first
    | with_reducible exact h
    | refine ha _ ?_
    | with_reducible refine State.audit_parts h0 ?_
    | with_reducible refine State.access_parts h1 (fun _ _ => ?_) ?_
    | with_reducible assumption
    | split

theorem State.stageDiscard_parts {P : List Part} {s t : State} (hP : [.img] ⊆ P) (h : OnlyParts P s t) :
    OnlyParts P s (State.stageDiscard t) := by
  have m_img : Part.img ∈ P := hP (by decide)
  have h0 : ([.img] : List Part) ⊆ P := List.Subset.trans (by decide) hP
  unfold State.stageDiscard
  repeat' first
    | with_reducible exact h
    | with_reducible refine State.imgErr_parts h0 ?_
    | split
    | dsimp only
    | with_reducible refine OnlyParts.set_img m_img ?_

theorem State.restructure_parts {P : List Part} {s t : State}
    (hP : [.regs, .cmd, .sec, .glb, .img] ⊆ P) (h : OnlyParts P s t) :
    OnlyParts P s (State.restructure t) := by
  have m_img : Part.img ∈ P := hP (by decide)
  have m_glb : Part.glb ∈ P := hP (by decide)
  have h0 : ([.regs, .cmd, .sec, .img] : List Part) ⊆ P := List.Subset.trans (by decide) hP
  have h1 : ([.regs, .cmd, .glb] : List Part) ⊆ P := List.Subset.trans (by decide) hP
  unfold State.restructure
  repeat' first
    | with_reducible exact h
    | with_reducible refine State.imgFails_parts h0 ?_
    | with_reducible refine State.setGState_parts h1 ?_
    | split
    | dsimp only
    | with_reducible refine OnlyParts.set_img m_img ?_
    | with_reducible refine OnlyParts.set_glb m_glb ?_
    | with_reducible refine OnlyParts.set_glb_img m_glb m_img ?_

theorem State.stageOpen_parts {P : List Part} {s t : State} {a1} (hP : [.img] ⊆ P) (h : OnlyParts P s t) :
    OnlyParts P s (State.stageOpen t a1) := by
  have m_img : Part.img ∈ P := hP (by decide)
  have h0 : ([.img] : List Part) ⊆ P := List.Subset.trans (by decide) hP
  unfold State.stageOpen
  repeat' first
    | with_reducible exact h
    | with_reducible refine State.imgErr_parts h0 ?_
    | split
    | dsimp only
    | with_reducible refine OnlyParts.set_img m_img ?_

theorem State.setBits_parts {P : List Part} {s t : State} {a1 a2} (hP : [.regs] ⊆ P) (h : OnlyParts P s t) :
    OnlyParts P s (State.setBits t a1 a2) := by
  have h0 : ([.regs] : List Part) ⊆ P := List.Subset.trans (by decide) hP
  unfold State.setBits
  repeat' first
    | with_reducible exact h
    | with_reducible refine State.wrBit_parts h0 ?_
    | with_reducible assumption
    | with_reducible refine OnlyParts.foldl (fun _ _ _ => ?_) ?_

theorem State.putCalendar_parts {P : List Part} {s t : State} {a1 a2} (hP : [.regs] ⊆ P) (h : OnlyParts P s t) :
    OnlyParts P s (State.putCalendar t a1 a2) := by
  have h0 : ([.regs] : List Part) ⊆ P := List.Subset.trans (by decide) hP
  unfold State.putCalendar
  repeat' first
    | with_reducible exact h
    | with_reducible refine State.wr_parts h0 ?_
    | with_reducible assumption
    | with_reducible refine OnlyParts.foldl (fun _ _ _ => ?_) ?_

theorem State.overlayCalendar_parts {P : List Part} {s t : State} {a1}
    (hP : [.regs, .slt] ⊆ P) (h : OnlyParts P s t) :
    OnlyParts P s (State.overlayCalendar t a1) := by
  have m_slt : Part.slt ∈ P := hP (by decide)
  have h0 : ([.regs] : List Part) ⊆ P := List.Subset.trans (by decide) hP
  unfold State.overlayCalendar
  repeat' first
    | with_reducible exact h
    | with_reducible refine State.wrBit_parts h0 ?_
    | with_reducible refine State.putCalendar_parts h0 ?_
    | dsimp only
    | with_reducible refine OnlyParts.set_slt m_slt ?_

theorem State.overlayUcode_parts {P : List Part} {s t : State} {a1} (hP : [.chips] ⊆ P) (h : OnlyParts P s t) :
    OnlyParts P s (State.overlayUcode t a1) := by
  have h0 : ([.chips] : List Part) ⊆ P := List.Subset.trans (by decide) hP
  unfold State.overlayUcode
  repeat' first
    | with_reducible exact h
    | with_reducible refine State.setChip_parts h0 ?_
    | with_reducible assumption
    | with_reducible refine OnlyParts.foldl (fun _ _ _ => ?_) ?_

theorem State.overlay_parts {P : List Part} {s t : State}
    (hP : [.regs, .cmd, .sec, .img, .slt, .chips] ⊆ P) (h : OnlyParts P s t) :
    OnlyParts P s (State.overlay t) := by
  have h0 : ([.regs, .cmd] : List Part) ⊆ P := List.Subset.trans (by decide) hP
  have h1 : ([.regs] : List Part) ⊆ P := List.Subset.trans (by decide) hP
  have h2 : ([.regs, .slt] : List Part) ⊆ P := List.Subset.trans (by decide) hP
  have h3 : ([.chips] : List Part) ⊆ P := List.Subset.trans (by decide) hP
  have h4 : ([.regs, .cmd, .sec] : List Part) ⊆ P := List.Subset.trans (by decide) hP
  have h5 : ([.regs, .cmd, .sec, .img] : List Part) ⊆ P := List.Subset.trans (by decide) hP
  unfold State.overlay
  repeat' first
    | with_reducible exact h
    | with_reducible refine State.irqIf_parts h0 ?_
    | with_reducible refine State.setBits_parts h1 ?_
    | with_reducible refine State.overlayCalendar_parts h2 ?_
    | with_reducible refine State.overlayUcode_parts h3 ?_
    | with_reducible refine State.imgEnds_parts h4 ?_
    | with_reducible refine State.imgFails_parts h5 ?_
    | with_reducible assumption
    | with_reducible refine OnlyParts.foldl (fun _ _ _ => ?_) ?_
    | with_reducible refine OnlyParts.foldl_fst (fun _ _ _ => ?_) ?_
    | split
    | dsimp only

theorem State.commit_parts {P : List Part} {s t : State} (hP : [.regs, .cmd, .sec, .img] ⊆ P) (h : OnlyParts P s t) :
    OnlyParts P s (State.commit t) := by
  have m_img : Part.img ∈ P := hP (by decide)
  have h0 : ([.regs, .cmd, .sec, .img] : List Part) ⊆ P := List.Subset.trans (by decide) hP
  unfold State.commit
  repeat' first
    | with_reducible exact h
    | with_reducible refine State.imgFails_parts h0 ?_
    | split
    | dsimp only
    | with_reducible refine OnlyParts.set_img m_img ?_

theorem State.writeImgCtrl_parts {P : List Part} {s t : State} {a1 a2}
    (hP : [.regs, .ctrs, .cmd, .sec, .glb, .img, .slt, .chips] ⊆ P) (h : OnlyParts P s t) :
    OnlyParts P s (State.writeImgCtrl t a1 a2) := by
  have h0 : ([.img] : List Part) ⊆ P := List.Subset.trans (by decide) hP
  have h1 : ([.regs, .ctrs, .cmd, .sec] : List Part) ⊆ P := List.Subset.trans (by decide) hP
  have h2 : ([.regs, .cmd, .sec, .glb, .img] : List Part) ⊆ P := List.Subset.trans (by decide) hP
  have h3 : ([.regs, .cmd, .sec, .img, .slt, .chips] : List Part) ⊆ P := List.Subset.trans (by decide) hP
  have h4 : ([.regs, .cmd, .sec, .img] : List Part) ⊆ P := List.Subset.trans (by decide) hP
  unfold State.writeImgCtrl
  repeat' first
    | with_reducible exact h
    | with_reducible refine State.stageDone_parts h0 ?_
    | with_reducible refine State.imgAccess_parts h1 (fun _ _ => ?_) ?_
    | with_reducible refine State.stageDiscard_parts h0 ?_
    | with_reducible refine State.restructure_parts h2 ?_
    | with_reducible refine State.abandonDrains_parts h2 ?_
    | with_reducible refine State.stageOpen_parts h0 ?_
    | with_reducible refine State.overlay_parts h3 ?_
    | with_reducible refine State.commit_parts h4 ?_
    | with_reducible assumption
    | split

theorem State.putMbData_parts {P : List Part} {s t : State} {a1} (hP : [.regs] ⊆ P) (h : OnlyParts P s t) :
    OnlyParts P s (State.putMbData t a1) := by
  have h0 : ([.regs] : List Part) ⊆ P := List.Subset.trans (by decide) hP
  unfold State.putMbData
  repeat' first
    | with_reducible exact h
    | with_reducible refine State.wr_parts h0 ?_
    | with_reducible assumption
    | with_reducible refine OnlyParts.foldl (fun _ _ _ => ?_) ?_

theorem State.mbAnswer_parts {P : List Part} {s t : State} {a1 a2} (hP : [.regs, .cmd] ⊆ P) (h : OnlyParts P s t) :
    OnlyParts P s (State.mbAnswer t a1 a2) := by
  have h0 : ([.regs, .cmd] : List Part) ⊆ P := List.Subset.trans (by decide) hP
  have h1 : ([.regs] : List Part) ⊆ P := List.Subset.trans (by decide) hP
  unfold State.mbAnswer
  repeat' first
    | with_reducible exact h
    | with_reducible refine State.irqIf_parts h0 ?_
    | with_reducible refine State.putMbData_parts h1 ?_
    | with_reducible refine State.wr_parts h1 ?_

theorem State.emptyHolds_parts {P : List Part} {s t : State} (hP : [.chips] ⊆ P) (h : OnlyParts P s t) :
    OnlyParts P s (State.emptyHolds t) := by
  have h0 : ([.chips] : List Part) ⊆ P := List.Subset.trans (by decide) hP
  unfold State.emptyHolds
  repeat' first
    | with_reducible exact h
    | with_reducible refine State.freeHold_parts h0 ?_
    | with_reducible assumption
    | with_reducible refine OnlyParts.foldl (fun _ _ _ => ?_) ?_
    | with_reducible refine OnlyParts.foldl_fst (fun _ _ _ => ?_) ?_
    | split

theorem State.zeroPkt_parts {P : List Part} {s t : State} {a1}
    (hP : [.ctrs, .brt, .chips] ⊆ P) (h : OnlyParts P s t) :
    OnlyParts P s (State.zeroPkt t a1) := by
  have h0 : ([.ctrs, .chips] : List Part) ⊆ P := List.Subset.trans (by decide) hP
  have h1 : ([.brt] : List Part) ⊆ P := List.Subset.trans (by decide) hP
  unfold State.zeroPkt
  repeat' first
    | with_reducible exact h
    | with_reducible refine State.unpin_parts h0 ?_
    | with_reducible refine State.sendRelease_parts h1 ?_
    | split

theorem State.raiseSys_parts {P : List Part} {s t : State} {a1} (hP : [.ctrs, .flt] ⊆ P) (h : OnlyParts P s t) :
    OnlyParts P s (State.raiseSys t a1) := by
  have h0 : ([.ctrs, .flt] : List Part) ⊆ P := List.Subset.trans (by decide) hP
  unfold State.raiseSys
  repeat' first
    | with_reducible exact h
    | with_reducible refine State.raise_parts h0 ?_

theorem State.zeroize_parts {P : List Part} {s t : State} {a1}
    (hP : [.regs, .ctrs, .sec, .flt, .img, .brt, .pkts, .ports, .chips] ⊆ P) (h : OnlyParts P s t) :
    OnlyParts P s (State.zeroize t a1) := by
  have m_ports : Part.ports ∈ P := hP (by decide)
  have m_img : Part.img ∈ P := hP (by decide)
  have m_brt : Part.brt ∈ P := hP (by decide)
  have m_pkts : Part.pkts ∈ P := hP (by decide)
  have m_sec : Part.sec ∈ P := hP (by decide)
  have m_chips : Part.chips ∈ P := hP (by decide)
  have h0 : ([.chips] : List Part) ⊆ P := List.Subset.trans (by decide) hP
  have h1 : ([.regs] : List Part) ⊆ P := List.Subset.trans (by decide) hP
  have h2 : ([.ctrs, .brt, .chips] : List Part) ⊆ P := List.Subset.trans (by decide) hP
  have h3 : ([.ctrs, .flt] : List Part) ⊆ P := List.Subset.trans (by decide) hP
  have h4 : ([.brt] : List Part) ⊆ P := List.Subset.trans (by decide) hP
  unfold State.zeroize
  repeat' first
    | with_reducible exact h
    | with_reducible refine State.emptyHolds_parts h0 ?_
    | with_reducible refine State.wr_parts h1 ?_
    | with_reducible refine State.zeroPkt_parts h2 ?_
    | with_reducible refine State.raiseSys_parts h3 ?_
    | with_reducible refine State.ledgerEvent_parts h4 ?_
    | with_reducible assumption
    | with_reducible refine OnlyParts.foldl (fun _ _ _ => ?_) ?_
    | with_reducible refine OnlyParts.foldl_fst (fun _ _ _ => ?_) ?_
    | split
    | dsimp only
    | with_reducible refine OnlyParts.set_ports m_ports ?_
    | with_reducible refine OnlyParts.set_img m_img ?_
    | with_reducible refine OnlyParts.set_brt m_brt ?_
    | with_reducible refine OnlyParts.set_pkts m_pkts ?_
    | with_reducible refine OnlyParts.set_sec m_sec ?_
    | with_reducible refine OnlyParts.set_chips m_chips ?_
    | with_reducible refine OnlyParts.set_sec_img_brt_pkts_ports_chips m_sec m_img m_brt m_pkts m_ports m_chips ?_

theorem State.trigger_parts {P : List Part} {s t : State} {a1 a2 a3 a4}
    (hP : [.regs, .ctrs, .sec, .flt, .img, .brt, .pkts, .ports, .chips] ⊆ P) (h : OnlyParts P s t) :
    OnlyParts P s (State.trigger t a1 a2 a3 a4) := by
  have m_sec : Part.sec ∈ P := hP (by decide)
  have h0 : ([.sec] : List Part) ⊆ P := List.Subset.trans (by decide) hP
  have h1 : ([.regs, .ctrs, .sec, .flt, .img, .brt, .pkts, .ports,
    .chips] : List Part) ⊆ P := List.Subset.trans (by decide) hP
  unfold State.trigger
  repeat' first
    | with_reducible exact h
    | with_reducible refine State.audit_parts h0 ?_
    | with_reducible refine State.zeroize_parts h1 ?_
    | split
    | dsimp only
    | with_reducible refine OnlyParts.set_sec m_sec ?_

theorem State.mbZeroize_parts {P : List Part} {s t : State} {a1}
    (hP : [.regs, .ctrs, .sec, .flt, .img, .brt, .pkts, .ports, .chips] ⊆ P) (h : OnlyParts P s t) :
    OnlyParts P s (State.mbZeroize t a1).1 := by
  have h0 : ([.regs, .ctrs, .sec, .flt, .img, .brt, .pkts, .ports,
    .chips] : List Part) ⊆ P := List.Subset.trans (by decide) hP
  unfold State.mbZeroize
  repeat' first
    | with_reducible exact h
    | with_reducible refine State.trigger_parts h0 ?_

theorem State.mbZeroize_parts_eq {P : List Part} {s t v : State} {a1} {x1}
    (hP : [.regs, .ctrs, .sec, .flt, .img, .brt, .pkts, .ports, .chips] ⊆ P) (e : State.mbZeroize t a1 = (v, x1))
    (h : OnlyParts P s t) :
    OnlyParts P s v := by
  have := State.mbZeroize_parts (P := P) (s := s) (a1 := a1) hP h
  rw [e] at this
  exact this

theorem State.startFuse_parts {P : List Part} {s t : State} {a1 a2} (hP : [.sec] ⊆ P) (h : OnlyParts P s t) :
    OnlyParts P s (State.startFuse t a1 a2).1 := by
  have m_sec : Part.sec ∈ P := hP (by decide)
  unfold State.startFuse
  repeat' first
    | with_reducible exact h
    | dsimp only
    | with_reducible refine OnlyParts.set_sec m_sec ?_

theorem State.startFuse_parts_eq {P : List Part} {s t v : State} {a1 a2} {x1}
    (hP : [.sec] ⊆ P) (e : State.startFuse t a1 a2 = (v, x1)) (h : OnlyParts P s t) :
    OnlyParts P s v := by
  have := State.startFuse_parts (P := P) (s := s) (a1 := a1) (a2 := a2) hP h
  rw [e] at this
  exact this

theorem State.auditOp_parts {P : List Part} {s t : State} {a1 a2 a3 a4} (hP : [.sec] ⊆ P) (h : OnlyParts P s t) :
    OnlyParts P s (State.auditOp t a1 a2 a3 a4) := by
  have h0 : ([.sec] : List Part) ⊆ P := List.Subset.trans (by decide) hP
  unfold State.auditOp
  repeat' first
    | with_reducible exact h
    | with_reducible refine State.audit_parts h0 ?_

theorem State.opEnds_parts {P : List Part} {s t : State} {a1 a2 a3 a4} (hP : [.sec] ⊆ P) (h : OnlyParts P s t) :
    OnlyParts P s (State.opEnds t a1 a2 a3 a4).1 := by
  have h0 : ([.sec] : List Part) ⊆ P := List.Subset.trans (by decide) hP
  unfold State.opEnds
  repeat' first
    | with_reducible exact h
    | with_reducible refine State.auditOp_parts h0 ?_

theorem State.opEnds_parts_eq {P : List Part} {s t v : State} {a1 a2 a3 a4} {x1}
    (hP : [.sec] ⊆ P) (e : State.opEnds t a1 a2 a3 a4 = (v, x1)) (h : OnlyParts P s t) :
    OnlyParts P s v := by
  have := State.opEnds_parts (P := P) (s := s) (a1 := a1) (a2 := a2) (a3 := a3) (a4 := a4) hP h
  rw [e] at this
  exact this

theorem State.mbImageKey_parts {P : List Part} {s t : State} {a1 a2} (hP : [.sec] ⊆ P) (h : OnlyParts P s t) :
    OnlyParts P s (State.mbImageKey t a1 a2).1 := by
  have h0 : ([.sec] : List Part) ⊆ P := List.Subset.trans (by decide) hP
  unfold State.mbImageKey
  repeat' first
    | with_reducible exact h
    | with_reducible refine State.startFuse_parts h0 ?_
    | with_reducible refine State.startFuse_parts_eq h0 (by assumption) ?_
    | with_reducible refine State.opEnds_parts h0 ?_
    | with_reducible refine State.opEnds_parts_eq h0 (by assumption) ?_
    | split

theorem State.mbImageKey_parts_eq {P : List Part} {s t v : State} {a1 a2} {x1}
    (hP : [.sec] ⊆ P) (e : State.mbImageKey t a1 a2 = (v, x1)) (h : OnlyParts P s t) :
    OnlyParts P s v := by
  have := State.mbImageKey_parts (P := P) (s := s) (a1 := a1) (a2 := a2) hP h
  rw [e] at this
  exact this

theorem State.mbRevoke_parts {P : List Part} {s t : State} {a1 a2} (hP : [.sec] ⊆ P) (h : OnlyParts P s t) :
    OnlyParts P s (State.mbRevoke t a1 a2).1 := by
  have h0 : ([.sec] : List Part) ⊆ P := List.Subset.trans (by decide) hP
  unfold State.mbRevoke
  repeat' first
    | with_reducible exact h
    | with_reducible refine State.startFuse_parts h0 ?_
    | with_reducible refine State.startFuse_parts_eq h0 (by assumption) ?_
    | with_reducible refine State.opEnds_parts h0 ?_
    | with_reducible refine State.opEnds_parts_eq h0 (by assumption) ?_
    | split

theorem State.mbRevoke_parts_eq {P : List Part} {s t v : State} {a1 a2} {x1}
    (hP : [.sec] ⊆ P) (e : State.mbRevoke t a1 a2 = (v, x1)) (h : OnlyParts P s t) :
    OnlyParts P s v := by
  have := State.mbRevoke_parts (P := P) (s := s) (a1 := a1) (a2 := a2) hP h
  rw [e] at this
  exact this

theorem State.mbRetire_parts {P : List Part} {s t : State} {a1 a2}
    (hP : [.regs, .ctrs, .sec, .flt, .img, .brt, .pkts, .ports, .chips] ⊆ P) (h : OnlyParts P s t) :
    OnlyParts P s (State.mbRetire t a1 a2).1 := by
  have m_sec : Part.sec ∈ P := hP (by decide)
  have h0 : ([.regs, .ctrs, .sec, .flt, .img, .brt, .pkts, .ports,
    .chips] : List Part) ⊆ P := List.Subset.trans (by decide) hP
  have h1 : ([.sec] : List Part) ⊆ P := List.Subset.trans (by decide) hP
  unfold State.mbRetire
  repeat' first
    | with_reducible exact h
    | with_reducible refine State.trigger_parts h0 ?_
    | with_reducible refine State.opEnds_parts h1 ?_
    | with_reducible refine State.opEnds_parts_eq h1 (by assumption) ?_
    | split
    | dsimp only
    | with_reducible refine OnlyParts.set_sec m_sec ?_

theorem State.mbRetire_parts_eq {P : List Part} {s t v : State} {a1 a2} {x1}
    (hP : [.regs, .ctrs, .sec, .flt, .img, .brt, .pkts, .ports, .chips] ⊆ P) (e : State.mbRetire t a1 a2 = (v, x1))
    (h : OnlyParts P s t) :
    OnlyParts P s v := by
  have := State.mbRetire_parts (P := P) (s := s) (a1 := a1) (a2 := a2) hP h
  rw [e] at this
  exact this

theorem State.mbProvision_parts {P : List Part} {s t : State} {a1 a2} (hP : [.sec] ⊆ P) (h : OnlyParts P s t) :
    OnlyParts P s (State.mbProvision t a1 a2).1 := by
  have h0 : ([.sec] : List Part) ⊆ P := List.Subset.trans (by decide) hP
  unfold State.mbProvision
  repeat' first
    | with_reducible exact h
    | with_reducible refine State.startFuse_parts h0 ?_
    | with_reducible refine State.startFuse_parts_eq h0 (by assumption) ?_
    | with_reducible refine State.opEnds_parts h0 ?_
    | with_reducible refine State.opEnds_parts_eq h0 (by assumption) ?_
    | split

theorem State.mbProvision_parts_eq {P : List Part} {s t v : State} {a1 a2} {x1}
    (hP : [.sec] ⊆ P) (e : State.mbProvision t a1 a2 = (v, x1)) (h : OnlyParts P s t) :
    OnlyParts P s v := by
  have := State.mbProvision_parts (P := P) (s := s) (a1 := a1) (a2 := a2) hP h
  rw [e] at this
  exact this

theorem State.mbSvn_parts {P : List Part} {s t : State} {a1 a2} (hP : [.sec] ⊆ P) (h : OnlyParts P s t) :
    OnlyParts P s (State.mbSvn t a1 a2).1 := by
  have h0 : ([.sec] : List Part) ⊆ P := List.Subset.trans (by decide) hP
  unfold State.mbSvn
  repeat' first
    | with_reducible exact h
    | with_reducible refine State.startFuse_parts h0 ?_
    | with_reducible refine State.startFuse_parts_eq h0 (by assumption) ?_
    | with_reducible refine State.opEnds_parts h0 ?_
    | with_reducible refine State.opEnds_parts_eq h0 (by assumption) ?_
    | split
    | dsimp only

theorem State.mbSvn_parts_eq {P : List Part} {s t v : State} {a1 a2} {x1}
    (hP : [.sec] ⊆ P) (e : State.mbSvn t a1 a2 = (v, x1)) (h : OnlyParts P s t) :
    OnlyParts P s v := by
  have := State.mbSvn_parts (P := P) (s := s) (a1 := a1) (a2 := a2) hP h
  rw [e] at this
  exact this

theorem State.mbSecurity_parts {P : List Part} {s t : State} {a1 a2 a3}
    (hP : [.regs, .ctrs, .sec, .flt, .img, .brt, .pkts, .ports, .chips] ⊆ P) (h : OnlyParts P s t) :
    OnlyParts P s (State.mbSecurity t a1 a2 a3).1 := by
  have h0 : ([.regs, .ctrs, .sec, .flt, .img, .brt, .pkts, .ports,
    .chips] : List Part) ⊆ P := List.Subset.trans (by decide) hP
  have h1 : ([.sec] : List Part) ⊆ P := List.Subset.trans (by decide) hP
  unfold State.mbSecurity
  repeat' first
    | with_reducible exact h
    | with_reducible refine State.mbZeroize_parts h0 ?_
    | with_reducible refine State.mbZeroize_parts_eq h0 (by assumption) ?_
    | with_reducible refine State.mbImageKey_parts h1 ?_
    | with_reducible refine State.mbImageKey_parts_eq h1 (by assumption) ?_
    | with_reducible refine State.mbRevoke_parts h1 ?_
    | with_reducible refine State.mbRevoke_parts_eq h1 (by assumption) ?_
    | with_reducible refine State.mbRetire_parts h0 ?_
    | with_reducible refine State.mbRetire_parts_eq h0 (by assumption) ?_
    | with_reducible refine State.opEnds_parts h1 ?_
    | with_reducible refine State.opEnds_parts_eq h1 (by assumption) ?_
    | with_reducible refine State.mbProvision_parts h1 ?_
    | with_reducible refine State.mbProvision_parts_eq h1 (by assumption) ?_
    | with_reducible refine State.mbSvn_parts h1 ?_
    | with_reducible refine State.mbSvn_parts_eq h1 (by assumption) ?_
    | split

theorem State.mbSecurity_parts_eq {P : List Part} {s t v : State} {a1 a2 a3} {x1}
    (hP : [.regs, .ctrs, .sec, .flt, .img, .brt, .pkts, .ports,
      .chips] ⊆ P) (e : State.mbSecurity t a1 a2 a3 = (v, x1))
    (h : OnlyParts P s t) :
    OnlyParts P s v := by
  have := State.mbSecurity_parts (P := P) (s := s) (a1 := a1) (a2 := a2) (a3 := a3) hP h
  rw [e] at this
  exact this

theorem State.debugWords_parts {P : List Part} {s t : State} {a1 a2} (hP : [.freeCtr] ⊆ P) (h : OnlyParts P s t) :
    OnlyParts P s (State.debugWords t a1 a2).1 := by
  induction a2 generalizing t a1 with
  | zero => exact h
  | succ n ih =>
    simp only [State.debugWords]
    exact ih (OnlyParts.set_freeCtr (hP (by decide)) h)

theorem State.debugWords_parts_eq {P : List Part} {s t v : State} {a1 a2} {x1}
    (hP : [.freeCtr] ⊆ P) (e : State.debugWords t a1 a2 = (v, x1)) (h : OnlyParts P s t) :
    OnlyParts P s v := by
  have := State.debugWords_parts (P := P) (s := s) (a1 := a1) (a2 := a2) hP h
  rw [e] at this
  exact this

theorem State.mbDebugRead_parts {P : List Part} {s t : State} {a1} (hP : [.freeCtr] ⊆ P) (h : OnlyParts P s t) :
    OnlyParts P s (State.mbDebugRead t a1).1 := by
  have h0 : ([.freeCtr] : List Part) ⊆ P := List.Subset.trans (by decide) hP
  unfold State.mbDebugRead
  repeat' first
    | with_reducible exact h
    | with_reducible refine State.debugWords_parts h0 ?_
    | with_reducible refine State.debugWords_parts_eq h0 (by assumption) ?_
    | split
    | dsimp only

theorem State.mbDebugRead_parts_eq {P : List Part} {s t v : State} {a1} {x1}
    (hP : [.freeCtr] ⊆ P) (e : State.mbDebugRead t a1 = (v, x1)) (h : OnlyParts P s t) :
    OnlyParts P s v := by
  have := State.mbDebugRead_parts (P := P) (s := s) (a1 := a1) hP h
  rw [e] at this
  exact this

theorem State.repairRemove_parts {P : List Part} {s t : State} {a1 a2}
    (hP : [.adc, .mtx, .chips] ⊆ P) (h : OnlyParts P s t) :
    OnlyParts P s (State.repairRemove t a1 a2) := by
  have m_mtx : Part.mtx ∈ P := hP (by decide)
  have m_adc : Part.adc ∈ P := hP (by decide)
  have h0 : ([.chips] : List Part) ⊆ P := List.Subset.trans (by decide) hP
  unfold State.repairRemove
  repeat' first
    | with_reducible exact h
    | with_reducible refine State.setChip_parts h0 ?_
    | split
    | dsimp only
    | with_reducible refine OnlyParts.set_mtx m_mtx ?_
    | with_reducible refine OnlyParts.set_adc m_adc ?_

theorem State.mbRepairClear_parts {P : List Part} {s t : State} {a1}
    (hP : [.adc, .mtx, .chips] ⊆ P) (h : OnlyParts P s t) :
    OnlyParts P s (State.mbRepairClear t a1).1 := by
  have h0 : ([.adc, .mtx, .chips] : List Part) ⊆ P := List.Subset.trans (by decide) hP
  unfold State.mbRepairClear
  repeat' first
    | with_reducible exact h
    | with_reducible refine State.repairRemove_parts h0 ?_
    | split
    | dsimp only

theorem State.mbRepairClear_parts_eq {P : List Part} {s t v : State} {a1} {x1}
    (hP : [.adc, .mtx, .chips] ⊆ P) (e : State.mbRepairClear t a1 = (v, x1)) (h : OnlyParts P s t) :
    OnlyParts P s v := by
  have := State.mbRepairClear_parts (P := P) (s := s) (a1 := a1) hP h
  rw [e] at this
  exact this

theorem State.mbRun_parts {P : List Part} {s t : State} {a1 a2 a3 a4}
    (hP : [.freeCtr, .regs, .ctrs, .cmd, .sec, .flt, .img, .adc, .mtx, .brt, .pkts, .ports, .chips] ⊆ P)
    (h : OnlyParts P s t) :
    OnlyParts P s (State.mbRun t a1 a2 a3 a4).1 := by
  have h0 : ([.regs, .ctrs, .sec, .flt, .img, .brt, .pkts, .ports,
    .chips] : List Part) ⊆ P := List.Subset.trans (by decide) hP
  have h1 : ([.regs, .ctrs, .cmd, .sec] : List Part) ⊆ P := List.Subset.trans (by decide) hP
  have h2 : ([.freeCtr] : List Part) ⊆ P := List.Subset.trans (by decide) hP
  have h3 : ([.adc, .mtx, .chips] : List Part) ⊆ P := List.Subset.trans (by decide) hP
  unfold State.mbRun
  repeat' first
    | with_reducible exact h
    | with_reducible refine State.mbSecurity_parts h0 ?_
    | with_reducible refine State.mbSecurity_parts_eq h0 (by assumption) ?_
    | with_reducible refine State.reject_parts h1 ?_
    | with_reducible refine State.mbDebugRead_parts h2 ?_
    | with_reducible refine State.mbDebugRead_parts_eq h2 (by assumption) ?_
    | with_reducible refine State.mbRepairClear_parts h3 ?_
    | with_reducible refine State.mbRepairClear_parts_eq h3 (by assumption) ?_
    | split

theorem State.mbRun_parts_eq {P : List Part} {s t v : State} {a1 a2 a3 a4} {x1}
    (hP : [.freeCtr, .regs, .ctrs, .cmd, .sec, .flt, .img, .adc, .mtx, .brt, .pkts, .ports,
      .chips] ⊆ P) (e : State.mbRun t a1 a2 a3 a4 = (v, x1))
    (h : OnlyParts P s t) :
    OnlyParts P s v := by
  have := State.mbRun_parts (P := P) (s := s) (a1 := a1) (a2 := a2) (a3 := a3) (a4 := a4) hP h
  rw [e] at this
  exact this

theorem State.mbGo_parts {P : List Part} {s t : State} {a1}
    (hP : [.freeCtr, .regs, .ctrs, .cmd, .sec, .flt, .img, .adc, .mtx, .brt, .pkts, .ports, .chips] ⊆ P)
    (h : OnlyParts P s t) :
    OnlyParts P s (State.mbGo t a1) := by
  have h0 : ([.regs, .cmd] : List Part) ⊆ P := List.Subset.trans (by decide) hP
  have h1 : ([.regs] : List Part) ⊆ P := List.Subset.trans (by decide) hP
  have h2 : ([.freeCtr, .regs, .ctrs, .cmd, .sec, .flt, .img, .adc, .mtx, .brt, .pkts, .ports,
    .chips] : List Part) ⊆ P := List.Subset.trans (by decide) hP
  unfold State.mbGo
  repeat' first
    | with_reducible exact h
    | with_reducible refine State.mbAnswer_parts h0 ?_
    | with_reducible refine State.wr_parts h1 ?_
    | with_reducible refine State.mbRun_parts h2 ?_
    | with_reducible refine State.mbRun_parts_eq h2 (by assumption) ?_
    | split
    | dsimp only

theorem State.writeMailbox_parts {P : List Part} {s t : State} {a1 a2 a3}
    (hP : [.freeCtr, .regs, .ctrs, .cmd, .sec, .flt, .img, .adc, .mtx, .brt, .pkts, .ports, .chips] ⊆ P)
    (h : OnlyParts P s t) :
    OnlyParts P s (State.writeMailbox t a1 a2 a3) := by
  have h0 : ([.freeCtr, .regs, .ctrs, .cmd, .sec, .flt, .img, .adc, .mtx, .brt, .pkts, .ports,
    .chips] : List Part) ⊆ P := List.Subset.trans (by decide) hP
  have h1 : ([.regs] : List Part) ⊆ P := List.Subset.trans (by decide) hP
  have h2 : ([.regs, .ctrs, .cmd, .sec] : List Part) ⊆ P := List.Subset.trans (by decide) hP
  have h3 : ([.regs, .ctrs, .sec] : List Part) ⊆ P := List.Subset.trans (by decide) hP
  have h4 : ([.sec] : List Part) ⊆ P := List.Subset.trans (by decide) hP
  unfold State.writeMailbox
  repeat' first
    | with_reducible exact h
    | with_reducible refine State.mbGo_parts h0 ?_
    | with_reducible refine State.wrBit_parts h1 ?_
    | with_reducible refine State.reject_parts h2 ?_
    | with_reducible refine State.plainWrite_parts h3 ?_
    | with_reducible refine State.audit_parts h4 ?_
    | split

theorem State.busWrite_parts {P : List Part} {s t : State} {a1 a2 a3}
    (hP : [.freeCtr, .regs, .ctrs, .highLatch, .cmd, .sec, .flt, .thm, .glb, .img, .tim, .loopA, .loopB,
      .loopS, .drv, .adc, .mtx, .cal, .red, .acq, .slt, .brt, .pkts, .nextPkt, .ports, .chips, .xing] ⊆ P)
    (h : OnlyParts P s t) :
    OnlyParts P s (State.busWrite t a1 a2 a3) := by
  have h0 : ([.ctrs] : List Part) ⊆ P := List.Subset.trans (by decide) hP
  have h1 : ([.freeCtr, .regs, .ctrs, .highLatch, .cmd, .sec, .flt, .thm, .glb, .img, .tim, .loopA, .loopB,
    .loopS, .drv, .adc, .mtx, .cal, .red, .acq, .slt, .brt, .pkts, .nextPkt, .ports, .chips, .xing] : List Part) ⊆ P := List.Subset.trans (by decide) hP
  have h2 : ([.regs, .ctrs, .cmd, .sec, .glb, .img, .slt, .chips] : List Part) ⊆ P := List.Subset.trans (by decide) hP
  have h3 : ([.freeCtr, .regs, .ctrs, .cmd, .sec, .flt, .img, .adc, .mtx, .brt, .pkts, .ports,
    .chips] : List Part) ⊆ P := List.Subset.trans (by decide) hP
  have h4 : ([.regs, .ctrs, .cmd, .sec] : List Part) ⊆ P := List.Subset.trans (by decide) hP
  unfold State.busWrite
  repeat' first
    | with_reducible exact h
    | with_reducible refine State.bump_parts h0 ?_
    | with_reducible refine State.regAct_parts h1 ?_
    | with_reducible refine State.writeImgCtrl_parts h2 ?_
    | with_reducible refine State.writeMailbox_parts h3 ?_
    | with_reducible refine State.access_parts h4 (fun _ _ => ?_) ?_
    | with_reducible assumption
    | split

theorem State.stageWrite_parts {P : List Part} {s t : State} {a1 a2 a3}
    (hP : [.regs, .ctrs, .cmd, .sec, .img] ⊆ P) (h : OnlyParts P s t) :
    OnlyParts P s (State.stageWrite t a1 a2 a3) := by
  have m_img : Part.img ∈ P := hP (by decide)
  have h0 : ([.sec] : List Part) ⊆ P := List.Subset.trans (by decide) hP
  have h1 : ([.regs, .ctrs, .cmd, .sec] : List Part) ⊆ P := List.Subset.trans (by decide) hP
  unfold State.stageWrite
  repeat' first
    | with_reducible exact h
    | with_reducible refine State.audit_parts h0 ?_
    | with_reducible refine State.access_parts h1 (fun _ _ => ?_) ?_
    | with_reducible assumption
    | split
    | dsimp only
    | with_reducible refine OnlyParts.set_img m_img ?_

theorem State.bar2Write_parts {P : List Part} {s t : State} {a1 a2 a3}
    (hP : [.regs, .ctrs, .cmd, .sec, .img, .chips] ⊆ P) (h : OnlyParts P s t) :
    OnlyParts P s (State.bar2Write t a1 a2 a3) := by
  have h0 : ([.ctrs] : List Part) ⊆ P := List.Subset.trans (by decide) hP
  have h1 : ([.regs, .ctrs, .cmd, .sec] : List Part) ⊆ P := List.Subset.trans (by decide) hP
  have h2 : ([.regs, .chips] : List Part) ⊆ P := List.Subset.trans (by decide) hP
  have h3 : ([.regs, .ctrs, .cmd, .sec, .img] : List Part) ⊆ P := List.Subset.trans (by decide) hP
  unfold State.bar2Write
  repeat' first
    | with_reducible exact h
    | with_reducible refine State.bump_parts h0 ?_
    | with_reducible refine State.reject_parts h1 ?_
    | with_reducible refine State.tblWrite_parts h2 ?_
    | with_reducible refine State.stageWrite_parts h3 ?_
    | split

theorem State.abvWrites_parts {P : List Part} {s t : State} {a1 a2 a3 a4}
    (hP : [.freeCtr, .regs, .ctrs, .highLatch, .cmd, .sec, .flt, .thm, .glb, .img, .tim, .loopA, .loopB,
      .loopS, .drv, .adc, .mtx, .cal, .red, .acq, .slt, .brt, .pkts, .nextPkt, .ports, .chips, .xing] ⊆ P)
    (h : OnlyParts P s t) :
    OnlyParts P s (State.abvWrites t a1 a2 a3 a4).1 := by
  induction a4 generalizing t a3 with
  | nil => exact h
  | cons v l ih =>
    simp only [State.abvWrites]
    apply ih
    split
    · exact State.busWrite_parts (List.Subset.trans (by decide) hP) h
    · exact State.bar2Write_parts (List.Subset.trans (by decide) hP) h

theorem State.abvWrites_parts_eq {P : List Part} {s t v : State} {a1 a2 a3 a4} {x1}
    (hP : [.freeCtr, .regs, .ctrs, .highLatch, .cmd, .sec, .flt, .thm, .glb, .img, .tim, .loopA, .loopB,
      .loopS, .drv, .adc, .mtx, .cal, .red, .acq, .slt, .brt, .pkts, .nextPkt, .ports, .chips, .xing] ⊆ P) (e : State.abvWrites t a1 a2 a3 a4 = (v, x1))
    (h : OnlyParts P s t) :
    OnlyParts P s v := by
  have := State.abvWrites_parts (P := P) (s := s) (a1 := a1) (a2 := a2) (a3 := a3) (a4 := a4) hP h
  rw [e] at this
  exact this

theorem State.smpEnd_parts {P : List Part} {s t : State} {a1} (hP : [.cmd] ⊆ P) (h : OnlyParts P s t) :
    OnlyParts P s (State.smpEnd t a1) := by
  have m_cmd : Part.cmd ∈ P := hP (by decide)
  unfold State.smpEnd
  repeat' first
    | with_reducible exact h
    | dsimp only
    | with_reducible refine OnlyParts.set_cmd m_cmd ?_

theorem State.answerTo_parts {P : List Part} {s t : State} {a1 a2 a3} (hP : [.regs, .cmd] ⊆ P) (h : OnlyParts P s t) :
    OnlyParts P s (State.answerTo t a1 a2 a3) := by
  have h0 : ([.cmd] : List Part) ⊆ P := List.Subset.trans (by decide) hP
  have h1 : ([.regs, .cmd] : List Part) ⊆ P := List.Subset.trans (by decide) hP
  unfold State.answerTo
  repeat' first
    | with_reducible exact h
    | with_reducible refine State.smpEnd_parts h0 ?_
    | with_reducible refine State.mbAnswer_parts h1 ?_
    | split

theorem State.aonUp_parts {P : List Part} {s t : State} (hP : [.freeCtr, .glb] ⊆ P) (h : OnlyParts P s t) :
    OnlyParts P s (State.aonUp t) := by
  have m_glb : Part.glb ∈ P := hP (by decide)
  have h0 : ([.freeCtr, .glb] : List Part) ⊆ P := List.Subset.trans (by decide) hP
  unfold State.aonUp
  repeat' first
    | with_reducible exact h
    | with_reducible refine State.stepEnd_parts h0 ?_
    | split
    | dsimp only
    | with_reducible refine OnlyParts.set_glb m_glb ?_

theorem State.putDefaultCalendar_parts {P : List Part} {s t : State} {a1} (hP : [.regs] ⊆ P) (h : OnlyParts P s t) :
    OnlyParts P s (State.putDefaultCalendar t a1) := by
  have h0 : ([.regs] : List Part) ⊆ P := List.Subset.trans (by decide) hP
  unfold State.putDefaultCalendar
  repeat' first
    | with_reducible exact h
    | with_reducible refine State.wr_parts h0 ?_
    | with_reducible assumption
    | with_reducible refine OnlyParts.foldl (fun _ _ _ => ?_) ?_

theorem State.auditWrite_parts {P : List Part} {s t : State} (hP : [.sec] ⊆ P) (h : OnlyParts P s t) :
    OnlyParts P s (State.auditWrite t) := by
  have m_sec : Part.sec ∈ P := hP (by decide)
  unfold State.auditWrite
  repeat' first
    | with_reducible exact h
    | split
    | dsimp only
    | with_reducible refine OnlyParts.set_sec m_sec ?_

theorem State.fltIrq_parts {P : List Part} {s t : State} {a1 a2} (hP : [.regs, .cmd] ⊆ P) (h : OnlyParts P s t) :
    OnlyParts P s (State.fltIrq t a1 a2) := by
  have h0 : ([.regs, .cmd] : List Part) ⊆ P := List.Subset.trans (by decide) hP
  unfold State.fltIrq
  repeat' first
    | with_reducible exact h
    | with_reducible refine State.irqIf_parts h0 ?_
    | with_reducible refine State.irq_parts h0 ?_
    | split

theorem State.record_parts {P : List Part} {s t : State} {a1 a2 a3}
    (hP : [.regs, .cmd, .flt, .acq] ⊆ P) (h : OnlyParts P s t) :
    OnlyParts P s (State.record t a1 a2 a3) := by
  have m_flt : Part.flt ∈ P := hP (by decide)
  have h0 : ([.flt] : List Part) ⊆ P := List.Subset.trans (by decide) hP
  have h1 : ([.regs, .cmd] : List Part) ⊆ P := List.Subset.trans (by decide) hP
  have h2 : ([.acq] : List Part) ⊆ P := List.Subset.trans (by decide) hP
  unfold State.record
  repeat' first
    | with_reducible exact h
    | with_reducible refine State.setFltRecord_parts h0 ?_
    | with_reducible refine State.fltIrq_parts h1 ?_
    | with_reducible refine State.eventAtTime_parts h2 ?_
    | split
    | dsimp only
    | with_reducible refine OnlyParts.set_flt m_flt ?_

theorem State.holdSelector_parts {P : List Part} {s t : State} {a1}
    (hP : [.ctrs, .flt, .loopA, .loopB] ⊆ P) (h : OnlyParts P s t) :
    OnlyParts P s (State.holdSelector t a1) := by
  have h0 : ([.ctrs, .flt] : List Part) ⊆ P := List.Subset.trans (by decide) hP
  have h1 : ([.loopA, .loopB] : List Part) ⊆ P := List.Subset.trans (by decide) hP
  unfold State.holdSelector
  repeat' first
    | with_reducible exact h
    | with_reducible refine State.raise_parts h0 ?_
    | with_reducible refine State.modElem_parts h1 ?_

theorem State.lastingAction_parts {P : List Part} {s t : State} {a1}
    (hP : [.freeCtr, .regs, .ctrs, .cmd, .flt, .loopA, .loopB, .mtx, .red, .acq] ⊆ P) (h : OnlyParts P s t) :
    OnlyParts P s (State.lastingAction t a1) := by
  have h0 : ([.ctrs, .flt, .red] : List Part) ⊆ P := List.Subset.trans (by decide) hP
  have h1 : ([.ctrs, .flt, .loopA, .loopB] : List Part) ⊆ P := List.Subset.trans (by decide) hP
  have h2 : ([.regs, .cmd, .mtx] : List Part) ⊆ P := List.Subset.trans (by decide) hP
  have h3 : ([.freeCtr, .regs, .ctrs, .cmd, .red, .acq] : List Part) ⊆ P := List.Subset.trans (by decide) hP
  unfold State.lastingAction
  repeat' first
    | with_reducible exact h
    | with_reducible refine State.loseActive_parts h0 ?_
    | with_reducible refine State.holdSelector_parts h1 ?_
    | with_reducible refine State.recordPark_parts h2 ?_
    | with_reducible refine State.isolateCtl_parts h3 ?_
    | split
    | dsimp only

theorem State.countClass_parts {P : List Part} {s t : State} {a1} (hP : [.ctrs] ⊆ P) (h : OnlyParts P s t) :
    OnlyParts P s (State.countClass t a1) := by
  have h0 : ([.ctrs] : List Part) ⊆ P := List.Subset.trans (by decide) hP
  unfold State.countClass
  repeat' first
    | with_reducible exact h
    | with_reducible refine State.bump_parts h0 ?_

theorem State.collectLasting_parts {P : List Part} {s t : State} {a1 a2}
    (hP : [.freeCtr, .regs, .ctrs, .cmd, .flt, .loopA, .loopB, .mtx, .red, .acq] ⊆ P) (h : OnlyParts P s t) :
    OnlyParts P s (State.collectLasting t a1 a2) := by
  have h0 : ([.regs, .cmd, .flt, .acq] : List Part) ⊆ P := List.Subset.trans (by decide) hP
  have h1 : ([.freeCtr, .regs, .ctrs, .cmd, .flt, .loopA, .loopB, .mtx, .red,
    .acq] : List Part) ⊆ P := List.Subset.trans (by decide) hP
  have h2 : ([.ctrs] : List Part) ⊆ P := List.Subset.trans (by decide) hP
  unfold State.collectLasting
  repeat' first
    | with_reducible exact h
    | with_reducible refine State.record_parts h0 ?_
    | with_reducible refine State.lastingAction_parts h1 ?_
    | with_reducible refine State.countClass_parts h2 ?_

theorem State.occurrence_parts {P : List Part} {s t : State} {a1} (hP : [.flt] ⊆ P) (h : OnlyParts P s t) :
    OnlyParts P s (State.occurrence t a1).2 := by
  have m_flt : Part.flt ∈ P := hP (by decide)
  unfold State.occurrence
  repeat' first
    | with_reducible exact h
    | split
    | dsimp only
    | with_reducible refine OnlyParts.set_flt m_flt ?_

theorem State.occurrence_parts_eq {P : List Part} {s t v : State} {a1} {x0}
    (hP : [.flt] ⊆ P) (e : State.occurrence t a1 = (x0, v)) (h : OnlyParts P s t) :
    OnlyParts P s v := by
  have := State.occurrence_parts (P := P) (s := s) (a1 := a1) hP h
  rw [e] at this
  exact this

theorem State.collect_parts {P : List Part} {s t : State} {a1}
    (hP : [.freeCtr, .regs, .ctrs, .cmd, .flt, .loopA, .loopB, .mtx, .red, .acq] ⊆ P) (h : OnlyParts P s t) :
    OnlyParts P s (State.collect t a1) := by
  have h0 : ([.ctrs] : List Part) ⊆ P := List.Subset.trans (by decide) hP
  have h1 : ([.regs, .cmd, .flt, .acq] : List Part) ⊆ P := List.Subset.trans (by decide) hP
  have h2 : ([.freeCtr, .regs, .ctrs, .cmd, .flt, .loopA, .loopB, .mtx, .red,
    .acq] : List Part) ⊆ P := List.Subset.trans (by decide) hP
  have h3 : ([.flt] : List Part) ⊆ P := List.Subset.trans (by decide) hP
  unfold State.collect
  repeat' first
    | with_reducible exact h
    | with_reducible refine State.bump_parts h0 ?_
    | with_reducible refine State.record_parts h1 ?_
    | with_reducible refine State.collectLasting_parts h2 ?_
    | with_reducible refine State.countClass_parts h0 ?_
    | with_reducible refine State.occurrence_parts h3 ?_
    | with_reducible refine State.occurrence_parts_eq h3 (by assumption) ?_
    | split
    | dsimp only

theorem State.commitDone_parts {P : List Part} {s t : State}
    (hP : [.regs, .cmd, .sec, .img] ⊆ P) (h : OnlyParts P s t) :
    OnlyParts P s (State.commitDone t) := by
  have m_img : Part.img ∈ P := hP (by decide)
  have h0 : ([.regs, .cmd, .sec] : List Part) ⊆ P := List.Subset.trans (by decide) hP
  unfold State.commitDone
  repeat' first
    | with_reducible exact h
    | with_reducible refine State.imgEnds_parts h0 ?_
    | split
    | dsimp only
    | with_reducible refine OnlyParts.set_img m_img ?_

theorem State.emittersOff_parts {P : List Part} {s t : State} (hP : [.mtx] ⊆ P) (h : OnlyParts P s t) :
    OnlyParts P s (State.emittersOff t) := by
  have m_mtx : Part.mtx ∈ P := hP (by decide)
  unfold State.emittersOff
  repeat' first
    | with_reducible exact h
    | dsimp only
    | with_reducible refine OnlyParts.set_mtx m_mtx ?_

theorem State.dropLane_parts {P : List Part} {s t : State} {a1} (hP : [.brt, .ports] ⊆ P) (h : OnlyParts P s t) :
    OnlyParts P s (State.dropLane t a1) := by
  have h0 : ([.brt] : List Part) ⊆ P := List.Subset.trans (by decide) hP
  have h1 : ([.ports] : List Part) ⊆ P := List.Subset.trans (by decide) hP
  unfold State.dropLane
  repeat' first
    | with_reducible exact h
    | with_reducible refine State.setRx_parts h0 ?_
    | with_reducible refine State.setPort_parts h1 ?_

theorem State.txAbort_parts {P : List Part} {s t : State} {a1}
    (hP : [.brt, .pkts, .ports, .chips, .xing] ⊆ P) (h : OnlyParts P s t) :
    OnlyParts P s (State.txAbort t a1) := by
  have h0 : ([.pkts] : List Part) ⊆ P := List.Subset.trans (by decide) hP
  have h1 : ([.ports] : List Part) ⊆ P := List.Subset.trans (by decide) hP
  have h2 : ([.xing] : List Part) ⊆ P := List.Subset.trans (by decide) hP
  have h3 : ([.brt] : List Part) ⊆ P := List.Subset.trans (by decide) hP
  have h4 : ([.chips] : List Part) ⊆ P := List.Subset.trans (by decide) hP
  unfold State.txAbort
  repeat' first
    | with_reducible exact h
    | with_reducible refine State.dropPkt_parts h0 ?_
    | with_reducible refine State.setPort_parts h1 ?_
    | with_reducible refine State.setCrossing_parts h2 ?_
    | with_reducible refine State.countDiscard_parts h3 ?_
    | with_reducible refine State.ledgerEvent_parts h3 ?_
    | with_reducible refine State.freeHold_parts h4 ?_
    | split

theorem State.loseLane_parts {P : List Part} {s t : State} {a1}
    (hP : [.glb, .brt, .pkts, .ports, .chips, .xing] ⊆ P) (h : OnlyParts P s t) :
    OnlyParts P s (State.loseLane t a1) := by
  have h0 : ([.brt, .ports] : List Part) ⊆ P := List.Subset.trans (by decide) hP
  have h1 : ([.xing] : List Part) ⊆ P := List.Subset.trans (by decide) hP
  have h2 : ([.brt, .pkts, .ports, .chips, .xing] : List Part) ⊆ P := List.Subset.trans (by decide) hP
  have h3 : ([.glb] : List Part) ⊆ P := List.Subset.trans (by decide) hP
  unfold State.loseLane
  repeat' first
    | with_reducible exact h
    | with_reducible refine State.dropLane_parts h0 ?_
    | with_reducible refine State.setCrossing_parts h1 ?_
    | with_reducible refine State.txAbort_parts h2 ?_
    | with_reducible refine State.setDom_parts h3 ?_
    | with_reducible assumption
    | with_reducible refine OnlyParts.foldl (fun _ _ _ => ?_) ?_
    | with_reducible refine OnlyParts.foldl_fst (fun _ _ _ => ?_) ?_
    | split

theorem State.darkQuadrant_parts {P : List Part} {s t : State} {a1} (hP : [.glb, .drv] ⊆ P) (h : OnlyParts P s t) :
    OnlyParts P s (State.darkQuadrant t a1) := by
  have m_drv : Part.drv ∈ P := hP (by decide)
  have h0 : ([.glb] : List Part) ⊆ P := List.Subset.trans (by decide) hP
  unfold State.darkQuadrant
  repeat' first
    | with_reducible exact h
    | with_reducible refine State.setDom_parts h0 ?_
    | split
    | dsimp only
    | with_reducible refine OnlyParts.set_drv m_drv ?_

theorem State.domainsOff_parts {P : List Part} {s t : State}
    (hP : [.glb, .drv, .mtx, .brt, .pkts, .ports, .chips, .xing] ⊆ P) (h : OnlyParts P s t) :
    OnlyParts P s (State.domainsOff t) := by
  have m_glb : Part.glb ∈ P := hP (by decide)
  have h0 : ([.mtx] : List Part) ⊆ P := List.Subset.trans (by decide) hP
  have h1 : ([.glb, .brt, .pkts, .ports, .chips, .xing] : List Part) ⊆ P := List.Subset.trans (by decide) hP
  have h2 : ([.glb, .drv] : List Part) ⊆ P := List.Subset.trans (by decide) hP
  unfold State.domainsOff
  repeat' first
    | with_reducible exact h
    | with_reducible refine State.emittersOff_parts h0 ?_
    | with_reducible refine State.loseLane_parts h1 ?_
    | with_reducible refine State.darkQuadrant_parts h2 ?_
    | with_reducible assumption
    | with_reducible refine OnlyParts.foldl (fun _ _ _ => ?_) ?_
    | with_reducible refine OnlyParts.foldl_fst (fun _ _ _ => ?_) ?_
    | split
    | dsimp only
    | with_reducible refine OnlyParts.set_glb m_glb ?_

theorem State.coreShutdown_parts {P : List Part} {s t : State}
    (hP : [.regs, .cmd, .thm, .glb, .tim, .drv, .mtx, .slt, .brt, .pkts, .ports, .chips, .xing] ⊆ P)
    (h : OnlyParts P s t) :
    OnlyParts P s (State.coreShutdown t) := by
  have m_thm : Part.thm ∈ P := hP (by decide)
  have h0 : ([.regs, .cmd, .glb, .tim, .slt, .brt] : List Part) ⊆ P := List.Subset.trans (by decide) hP
  have h1 : ([.glb, .drv, .mtx, .brt, .pkts, .ports, .chips,
    .xing] : List Part) ⊆ P := List.Subset.trans (by decide) hP
  unfold State.coreShutdown
  repeat' first
    | with_reducible exact h
    | with_reducible refine State.halt_parts h0 ?_
    | with_reducible refine State.domainsOff_parts h1 ?_
    | dsimp only
    | with_reducible refine OnlyParts.set_thm m_thm ?_

theorem State.cutFuse_parts {P : List Part} {s t : State} (hP : [.freeCtr, .sec] ⊆ P) (h : OnlyParts P s t) :
    OnlyParts P s (State.cutFuse t) := by
  have m_sec : Part.sec ∈ P := hP (by decide)
  have h0 : ([.freeCtr] : List Part) ⊆ P := List.Subset.trans (by decide) hP
  unfold State.cutFuse
  repeat' first
    | with_reducible exact h
    | with_reducible refine State.free_parts h0 ?_
    | with_reducible refine State.free_parts_eq h0 (by assumption) ?_
    | split
    | dsimp only
    | with_reducible refine OnlyParts.set_sec m_sec ?_

theorem State.loseLasers_parts {P : List Part} {s t : State} {a1}
    (hP : [.regs, .ctrs, .flt, .glb, .mtx] ⊆ P) (h : OnlyParts P s t) :
    OnlyParts P s (State.loseLasers t a1) := by
  have h0 : ([.regs] : List Part) ⊆ P := List.Subset.trans (by decide) hP
  have h1 : ([.mtx] : List Part) ⊆ P := List.Subset.trans (by decide) hP
  have h2 : ([.glb] : List Part) ⊆ P := List.Subset.trans (by decide) hP
  have h3 : ([.ctrs, .flt, .mtx] : List Part) ⊆ P := List.Subset.trans (by decide) hP
  unfold State.loseLasers
  repeat' first
    | with_reducible exact h
    | with_reducible refine State.wrBit_parts h0 ?_
    | with_reducible refine State.setBank_parts h1 ?_
    | with_reducible refine State.setEmitter_parts h1 ?_
    | with_reducible refine State.setDom_parts h2 ?_
    | with_reducible refine State.updateDark_parts h3 ?_
    | with_reducible assumption
    | with_reducible refine OnlyParts.foldl (fun _ _ _ => ?_) ?_
    | with_reducible refine OnlyParts.foldl_fst (fun _ _ _ => ?_) ?_
    | split

theorem State.loseCore_parts {P : List Part} {s t : State} {a1}
    (hP : [.regs, .cmd, .sec, .glb, .img, .brt, .pkts, .ports, .chips, .xing] ⊆ P) (h : OnlyParts P s t) :
    OnlyParts P s (State.loseCore t a1) := by
  have h0 : ([.glb, .brt, .pkts, .ports, .chips, .xing] : List Part) ⊆ P := List.Subset.trans (by decide) hP
  have h1 : ([.regs, .cmd, .sec, .glb, .img] : List Part) ⊆ P := List.Subset.trans (by decide) hP
  have h2 : ([.glb] : List Part) ⊆ P := List.Subset.trans (by decide) hP
  unfold State.loseCore
  repeat' first
    | with_reducible exact h
    | with_reducible refine State.loseLane_parts h0 ?_
    | with_reducible refine State.abandonDrains_parts h1 ?_
    | with_reducible refine State.setDom_parts h2 ?_

theorem State.loseCtl_parts {P : List Part} {s t : State} {a1}
    (hP : [.freeCtr, .regs, .ctrs, .cmd, .glb, .red, .acq] ⊆ P) (h : OnlyParts P s t) :
    OnlyParts P s (State.loseCtl t a1) := by
  have h0 : ([.glb] : List Part) ⊆ P := List.Subset.trans (by decide) hP
  have h1 : ([.freeCtr, .regs, .ctrs, .cmd, .acq] : List Part) ⊆ P := List.Subset.trans (by decide) hP
  have h2 : ([.freeCtr, .regs, .ctrs, .cmd, .red, .acq] : List Part) ⊆ P := List.Subset.trans (by decide) hP
  unfold State.loseCtl
  repeat' first
    | with_reducible exact h
    | with_reducible refine State.setDom_parts h0 ?_
    | with_reducible refine State.stopLoupes_parts h1 ?_
    | with_reducible refine State.isolateCtl_parts h2 ?_
    | split

theorem State.loseDomain_parts {P : List Part} {s t : State} {a1}
    (hP : [.freeCtr, .regs, .ctrs, .cmd, .sec, .flt, .glb, .img, .drv, .mtx, .red, .acq, .brt, .pkts, .ports,
      .chips, .xing] ⊆ P)
    (h : OnlyParts P s t) :
    OnlyParts P s (State.loseDomain t a1) := by
  have m_glb : Part.glb ∈ P := hP (by decide)
  have h0 : ([.glb, .brt, .pkts, .ports, .chips, .xing] : List Part) ⊆ P := List.Subset.trans (by decide) hP
  have h1 : ([.regs, .ctrs, .flt, .glb, .mtx] : List Part) ⊆ P := List.Subset.trans (by decide) hP
  have h2 : ([.regs, .cmd, .sec, .glb, .img, .brt, .pkts, .ports, .chips,
    .xing] : List Part) ⊆ P := List.Subset.trans (by decide) hP
  have h3 : ([.freeCtr, .regs, .ctrs, .cmd, .glb, .red, .acq] : List Part) ⊆ P := List.Subset.trans (by decide) hP
  have h4 : ([.glb] : List Part) ⊆ P := List.Subset.trans (by decide) hP
  have h5 : ([.glb, .drv] : List Part) ⊆ P := List.Subset.trans (by decide) hP
  unfold State.loseDomain
  repeat' first
    | with_reducible exact h
    | with_reducible refine State.loseLane_parts h0 ?_
    | with_reducible refine State.loseLasers_parts h1 ?_
    | with_reducible refine State.loseCore_parts h2 ?_
    | with_reducible refine State.loseCtl_parts h3 ?_
    | with_reducible refine State.setDom_parts h4 ?_
    | with_reducible refine State.darkQuadrant_parts h5 ?_
    | split
    | dsimp only
    | with_reducible refine OnlyParts.set_glb m_glb ?_

theorem State.powerOff_parts {P : List Part} {s t : State}
    (hP : [.freeCtr, .regs, .ctrs, .highLatch, .cmd, .sec, .flt, .thm, .glb, .img, .tim, .loopA, .loopB,
      .loopS, .drv, .adc, .mtx, .cal, .red, .acq, .slt, .brt, .pkts, .nextPkt, .ports, .chips, .xing] ⊆ P)
    (h : OnlyParts P s t) :
    OnlyParts P s (State.powerOff t) := by
  have m_drv : Part.drv ∈ P := hP (by decide)
  have m_flt : Part.flt ∈ P := hP (by decide)
  have m_regs : Part.regs ∈ P := hP (by decide)
  have m_thm : Part.thm ∈ P := hP (by decide)
  have m_glb : Part.glb ∈ P := hP (by decide)
  have m_sec : Part.sec ∈ P := hP (by decide)
  have h0 : ([.regs, .ctrs, .highLatch, .cmd, .sec, .flt, .thm, .glb, .img, .tim, .loopA, .loopB, .loopS, .drv,
    .adc, .mtx, .cal, .red, .acq, .slt, .brt, .pkts, .nextPkt, .ports, .chips, .xing] : List Part) ⊆ P := List.Subset.trans (by decide) hP
  have h1 : ([.freeCtr, .sec] : List Part) ⊆ P := List.Subset.trans (by decide) hP
  unfold State.powerOff
  repeat' first
    | with_reducible exact h
    | with_reducible refine State.powerDown_parts h0 ?_
    | with_reducible refine State.cutFuse_parts h1 ?_
    | dsimp only
    | with_reducible refine OnlyParts.set_drv m_drv ?_
    | with_reducible refine OnlyParts.set_flt m_flt ?_
    | with_reducible refine OnlyParts.set_regs m_regs ?_
    | with_reducible refine OnlyParts.set_thm m_thm ?_
    | with_reducible refine OnlyParts.set_glb m_glb ?_
    | with_reducible refine OnlyParts.set_sec m_sec ?_
    | with_reducible refine OnlyParts.set_regs_sec_flt_thm_glb_drv m_regs m_sec m_flt m_thm m_glb m_drv ?_

theorem State.raisePwr_parts {P : List Part} {s t : State} {a1} (hP : [.ctrs, .flt] ⊆ P) (h : OnlyParts P s t) :
    OnlyParts P s (State.raisePwr t a1) := by
  have h0 : ([.ctrs, .flt] : List Part) ⊆ P := List.Subset.trans (by decide) hP
  unfold State.raisePwr
  repeat' first
    | with_reducible exact h
    | with_reducible refine State.raise_parts h0 ?_

theorem State.domainPowerLoss_parts {P : List Part} {s t : State} {a1}
    (hP : [.freeCtr, .regs, .ctrs, .highLatch, .cmd, .sec, .flt, .thm, .glb, .img, .tim, .loopA, .loopB,
      .loopS, .drv, .adc, .mtx, .cal, .red, .acq, .slt, .brt, .pkts, .nextPkt, .ports, .chips, .xing] ⊆ P)
    (h : OnlyParts P s t) :
    OnlyParts P s (State.domainPowerLoss t a1) := by
  have h0 : ([.freeCtr, .regs, .ctrs, .cmd, .sec, .flt, .glb, .img, .drv, .mtx, .red, .acq, .brt, .pkts,
    .ports, .chips, .xing] : List Part) ⊆ P := List.Subset.trans (by decide) hP
  have h1 : ([.freeCtr, .regs, .ctrs, .highLatch, .cmd, .sec, .flt, .thm, .glb, .img, .tim, .loopA, .loopB,
    .loopS, .drv, .adc, .mtx, .cal, .red, .acq, .slt, .brt, .pkts, .nextPkt, .ports, .chips, .xing] : List Part) ⊆ P := List.Subset.trans (by decide) hP
  have h2 : ([.ctrs, .flt] : List Part) ⊆ P := List.Subset.trans (by decide) hP
  unfold State.domainPowerLoss
  repeat' first
    | with_reducible exact h
    | with_reducible refine State.loseDomain_parts h0 ?_
    | with_reducible refine State.powerOff_parts h1 ?_
    | with_reducible refine State.raiseSys_parts h2 ?_
    | with_reducible refine State.raisePwr_parts h2 ?_
    | split

theorem State.forceSwaps_parts {P : List Part} {s t : State} {a1}
    (hP : [.freeCtr, .regs, .ctrs, .cmd, .flt, .chips] ⊆ P) (h : OnlyParts P s t) :
    OnlyParts P s (State.forceSwaps t a1) := by
  have h0 : ([.freeCtr, .regs, .ctrs, .cmd, .flt, .chips] : List Part) ⊆ P := List.Subset.trans (by decide) hP
  have h1 : ([.chips] : List Part) ⊆ P := List.Subset.trans (by decide) hP
  unfold State.forceSwaps
  repeat' first
    | with_reducible exact h
    | with_reducible refine State.bankSwap_parts h0 ?_
    | with_reducible refine State.setChip_parts h1 ?_
    | split
    | dsimp only

theorem State.drainEnd_parts {P : List Part} {s t : State}
    (hP : [.freeCtr, .regs, .ctrs, .cmd, .flt, .img, .chips] ⊆ P) (h : OnlyParts P s t) :
    OnlyParts P s (State.drainEnd t) := by
  have m_img : Part.img ∈ P := hP (by decide)
  have h0 : ([.freeCtr, .regs, .ctrs, .cmd, .flt, .chips] : List Part) ⊆ P := List.Subset.trans (by decide) hP
  unfold State.drainEnd
  repeat' first
    | with_reducible exact h
    | with_reducible refine State.forceSwaps_parts h0 ?_
    | with_reducible assumption
    | with_reducible refine OnlyParts.foldl (fun _ _ _ => ?_) ?_
    | with_reducible refine OnlyParts.foldl_fst (fun _ _ _ => ?_) ?_
    | split
    | dsimp only
    | with_reducible refine OnlyParts.set_img m_img ?_

theorem State.setOffPhase_parts {P : List Part} {s t : State} {a1 a2} (hP : [.thm] ⊆ P) (h : OnlyParts P s t) :
    OnlyParts P s (State.setOffPhase t a1 a2) := by
  have m_thm : Part.thm ∈ P := hP (by decide)
  unfold State.setOffPhase
  repeat' first
    | with_reducible exact h
    | split
    | dsimp only
    | with_reducible refine OnlyParts.set_thm m_thm ?_

theorem State.endOffPhases_parts {P : List Part} {s t : State} (hP : [.thm] ⊆ P) (h : OnlyParts P s t) :
    OnlyParts P s (State.endOffPhases t) := by
  have h0 : ([.thm] : List Part) ⊆ P := List.Subset.trans (by decide) hP
  unfold State.endOffPhases
  repeat' first
    | with_reducible exact h
    | with_reducible refine State.setOffPhase_parts h0 ?_
    | with_reducible assumption
    | with_reducible refine OnlyParts.foldl (fun _ _ _ => ?_) ?_
    | with_reducible refine OnlyParts.foldl_fst (fun _ _ _ => ?_) ?_
    | split

theorem State.faultReport_parts {P : List Part} {s t : State} {a1}
    (hP : [.freeCtr, .regs, .ctrs, .cmd, .flt, .loopA, .loopB, .mtx, .red, .acq] ⊆ P) (h : OnlyParts P s t) :
    OnlyParts P s (State.faultReport t a1) := by
  have m_flt : Part.flt ∈ P := hP (by decide)
  have h0 : ([.freeCtr, .regs, .ctrs, .cmd, .flt, .loopA, .loopB, .mtx, .red,
    .acq] : List Part) ⊆ P := List.Subset.trans (by decide) hP
  unfold State.faultReport
  repeat' first
    | with_reducible exact h
    | with_reducible refine State.collect_parts h0 ?_
    | split
    | dsimp only
    | with_reducible refine OnlyParts.set_flt m_flt ?_

theorem State.fuseDone_parts {P : List Part} {s t : State} {a1}
    (hP : [.regs, .cmd, .sec, .glb, .tim, .slt, .brt] ⊆ P) (h : OnlyParts P s t) :
    OnlyParts P s (State.fuseDone t a1).1 := by
  have m_sec : Part.sec ∈ P := hP (by decide)
  have h0 : ([.regs, .cmd, .glb, .tim, .slt, .brt] : List Part) ⊆ P := List.Subset.trans (by decide) hP
  unfold State.fuseDone
  repeat' first
    | with_reducible exact h
    | with_reducible refine State.halt_parts h0 ?_
    | split
    | dsimp only
    | with_reducible refine OnlyParts.set_sec m_sec ?_

theorem State.fuseDone_parts_eq {P : List Part} {s t v : State} {a1} {x1 x2 x3}
    (hP : [.regs, .cmd, .sec, .glb, .tim, .slt, .brt] ⊆ P) (e : State.fuseDone t a1 = (v, x1, x2, x3))
    (h : OnlyParts P s t) :
    OnlyParts P s v := by
  have := State.fuseDone_parts (P := P) (s := s) (a1 := a1) hP h
  rw [e] at this
  exact this

theorem State.fuseEnd_parts {P : List Part} {s t : State}
    (hP : [.regs, .ctrs, .highLatch, .cmd, .sec, .flt, .thm, .glb, .img, .tim, .loopA, .loopB, .loopS, .drv,
      .adc, .mtx, .cal, .red, .acq, .slt, .brt, .pkts, .nextPkt, .ports, .chips, .xing] ⊆ P)
    (h : OnlyParts P s t) :
    OnlyParts P s (State.fuseEnd t) := by
  have m_sec : Part.sec ∈ P := hP (by decide)
  have h0 : ([.regs, .cmd, .sec, .glb, .tim, .slt, .brt] : List Part) ⊆ P := List.Subset.trans (by decide) hP
  have h1 : ([.sec] : List Part) ⊆ P := List.Subset.trans (by decide) hP
  have h2 : ([.regs, .cmd] : List Part) ⊆ P := List.Subset.trans (by decide) hP
  have h3 : ([.regs, .ctrs, .highLatch, .cmd, .sec, .flt, .thm, .glb, .img, .tim, .loopA, .loopB, .loopS, .drv,
    .adc, .mtx, .cal, .red, .acq, .slt, .brt, .pkts, .nextPkt, .ports, .chips, .xing] : List Part) ⊆ P := List.Subset.trans (by decide) hP
  unfold State.fuseEnd
  repeat' first
    | with_reducible exact h
    | with_reducible refine State.fuseDone_parts h0 ?_
    | with_reducible refine State.fuseDone_parts_eq h0 (by assumption) ?_
    | with_reducible refine State.auditOp_parts h1 ?_
    | with_reducible refine State.answerTo_parts h2 ?_
    | with_reducible refine State.restartIfReady_parts h3 ?_
    | split
    | dsimp only
    | with_reducible refine OnlyParts.set_sec m_sec ?_

theorem State.holdupExpiry_parts {P : List Part} {s t : State}
    (hP : [.freeCtr, .regs, .ctrs, .highLatch, .cmd, .sec, .flt, .thm, .glb, .img, .tim, .loopA, .loopB,
      .loopS, .drv, .adc, .mtx, .cal, .red, .acq, .slt, .brt, .pkts, .nextPkt, .ports, .chips, .xing] ⊆ P)
    (h : OnlyParts P s t) :
    OnlyParts P s (State.holdupExpiry t) := by
  have h0 : ([.freeCtr, .regs, .ctrs, .highLatch, .cmd, .sec, .flt, .thm, .glb, .img, .tim, .loopA, .loopB,
    .loopS, .drv, .adc, .mtx, .cal, .red, .acq, .slt, .brt, .pkts, .nextPkt, .ports, .chips, .xing] : List Part) ⊆ P := List.Subset.trans (by decide) hP
  unfold State.holdupExpiry
  repeat' first
    | with_reducible exact h
    | with_reducible refine State.powerOff_parts h0 ?_
    | split

theorem State.jtagAccess_parts {P : List Part} {s t : State} {a1}
    (hP : [.freeCtr, .regs, .ctrs, .highLatch, .cmd, .sec, .tim, .adc] ⊆ P) (h : OnlyParts P s t) :
    OnlyParts P s (State.jtagAccess t a1) := by
  have m_freeCtr : Part.freeCtr ∈ P := hP (by decide)
  have h0 : ([.freeCtr, .regs, .ctrs, .highLatch, .cmd, .sec, .tim,
    .adc] : List Part) ⊆ P := List.Subset.trans (by decide) hP
  have h1 : ([.regs, .ctrs, .cmd, .sec] : List Part) ⊆ P := List.Subset.trans (by decide) hP
  have h2 : ([.cmd] : List Part) ⊆ P := List.Subset.trans (by decide) hP
  unfold State.jtagAccess
  repeat' first
    | with_reducible exact h
    | with_reducible refine State.readReg_parts h0 ?_
    | with_reducible refine State.reject_parts h1 ?_
    | with_reducible refine State.setRd_parts h2 ?_
    | with_reducible assumption
    | split
    | dsimp only
    | with_reducible refine OnlyParts.set_freeCtr m_freeCtr ?_

theorem State.smpBegin_parts {P : List Part} {s t : State} {a1} (hP : [.cmd] ⊆ P) (h : OnlyParts P s t) :
    OnlyParts P s (State.smpBegin t a1) := by
  have m_cmd : Part.cmd ∈ P := hP (by decide)
  unfold State.smpBegin
  repeat' first
    | with_reducible exact h
    | dsimp only
    | with_reducible refine OnlyParts.set_cmd m_cmd ?_

theorem State.smpMailbox_parts {P : List Part} {s t : State} {a1 a2}
    (hP : [.freeCtr, .regs, .ctrs, .cmd, .sec, .flt, .img, .adc, .mtx, .brt, .pkts, .ports, .chips] ⊆ P)
    (h : OnlyParts P s t) :
    OnlyParts P s (State.smpMailbox t a1 a2) := by
  have h0 : ([.cmd] : List Part) ⊆ P := List.Subset.trans (by decide) hP
  have h1 : ([.freeCtr, .regs, .ctrs, .cmd, .sec, .flt, .img, .adc, .mtx, .brt, .pkts, .ports,
    .chips] : List Part) ⊆ P := List.Subset.trans (by decide) hP
  unfold State.smpMailbox
  repeat' first
    | with_reducible exact h
    | with_reducible refine State.smpEnd_parts h0 ?_
    | with_reducible refine State.mbRun_parts h1 ?_
    | with_reducible refine State.mbRun_parts_eq h1 (by assumption) ?_
    | with_reducible refine State.smpBegin_parts h0 ?_
    | split
    | dsimp only

theorem State.mailbox_parts {P : List Part} {s t : State} {a1 a2 a3}
    (hP : [.freeCtr, .regs, .ctrs, .cmd, .sec, .flt, .img, .adc, .mtx, .brt, .pkts, .ports, .chips] ⊆ P)
    (h : OnlyParts P s t) :
    OnlyParts P s (State.mailbox t a1 a2 a3) := by
  have h0 : ([.ctrs] : List Part) ⊆ P := List.Subset.trans (by decide) hP
  have h1 : ([.cmd] : List Part) ⊆ P := List.Subset.trans (by decide) hP
  have h2 : ([.regs] : List Part) ⊆ P := List.Subset.trans (by decide) hP
  have h3 : ([.freeCtr, .regs, .ctrs, .cmd, .sec, .flt, .img, .adc, .mtx, .brt, .pkts, .ports,
    .chips] : List Part) ⊆ P := List.Subset.trans (by decide) hP
  unfold State.mailbox
  repeat' first
    | with_reducible exact h
    | with_reducible refine State.bump_parts h0 ?_
    | with_reducible refine State.smpEnd_parts h1 ?_
    | with_reducible refine State.wrBit_parts h2 ?_
    | with_reducible refine State.putMbData_parts h2 ?_
    | with_reducible refine State.smpBegin_parts h1 ?_
    | with_reducible refine State.smpMailbox_parts h3 ?_
    | with_reducible refine State.writeMailbox_parts h3 ?_
    | split

theorem State.nvmOpen_parts {P : List Part} {s t : State} (hP : [.flt, .thm, .img, .cal] ⊆ P) (h : OnlyParts P s t) :
    OnlyParts P s (State.nvmOpen t) := by
  have m_flt : Part.flt ∈ P := hP (by decide)
  have m_img : Part.img ∈ P := hP (by decide)
  have m_cal : Part.cal ∈ P := hP (by decide)
  have m_thm : Part.thm ∈ P := hP (by decide)
  unfold State.nvmOpen
  repeat' first
    | with_reducible exact h
    | split
    | dsimp only
    | with_reducible refine OnlyParts.set_flt m_flt ?_
    | with_reducible refine OnlyParts.set_img m_img ?_
    | with_reducible refine OnlyParts.set_cal m_cal ?_
    | with_reducible refine OnlyParts.set_thm m_thm ?_
    | with_reducible refine OnlyParts.set_flt_thm_img_cal m_flt m_thm m_img m_cal ?_

theorem State.shutNvm_parts {P : List Part} {s t : State} (hP : [.thm] ⊆ P) (h : OnlyParts P s t) :
    OnlyParts P s (State.shutNvm t) := by
  have m_thm : Part.thm ∈ P := hP (by decide)
  unfold State.shutNvm
  repeat' first
    | with_reducible exact h
    | dsimp only
    | with_reducible refine OnlyParts.set_thm m_thm ?_

theorem State.nvmTemp_parts {P : List Part} {s t : State} {a1} (hP : [.thm, .img, .cal] ⊆ P) (h : OnlyParts P s t) :
    OnlyParts P s (State.nvmTemp t a1) := by
  have h0 : ([.thm] : List Part) ⊆ P := List.Subset.trans (by decide) hP
  have h1 : ([.img, .cal] : List Part) ⊆ P := List.Subset.trans (by decide) hP
  unfold State.nvmTemp
  repeat' first
    | with_reducible exact h
    | with_reducible refine State.shutNvm_parts h0 ?_
    | with_reducible refine State.abortNvm_parts h1 ?_
    | split

theorem State.pcieReset_parts {P : List Part} {s t : State} (hP : [.regs, .cmd] ⊆ P) (h : OnlyParts P s t) :
    OnlyParts P s (State.pcieReset t) := by
  have m_cmd : Part.cmd ∈ P := hP (by decide)
  have h0 : ([.regs] : List Part) ⊆ P := List.Subset.trans (by decide) hP
  unfold State.pcieReset
  repeat' first
    | with_reducible exact h
    | with_reducible refine State.wr_parts h0 ?_
    | with_reducible assumption
    | with_reducible refine OnlyParts.foldl (fun _ _ _ => ?_) ?_
    | with_reducible refine OnlyParts.foldl_fst (fun _ _ _ => ?_) ?_
    | dsimp only
    | with_reducible refine OnlyParts.set_cmd m_cmd ?_

theorem State.picSettle_parts {P : List Part} {s t : State} (hP : [.glb, .drv] ⊆ P) (h : OnlyParts P s t) :
    OnlyParts P s (State.picSettle t) := by
  have h0 : ([.glb, .drv] : List Part) ⊆ P := List.Subset.trans (by decide) hP
  unfold State.picSettle
  repeat' first
    | with_reducible exact h
    | with_reducible refine State.darkQuadrant_parts h0 ?_
    | with_reducible assumption
    | with_reducible refine OnlyParts.foldl (fun _ _ _ => ?_) ?_
    | with_reducible refine OnlyParts.foldl_fst (fun _ _ _ => ?_) ?_
    | split

theorem State.picShutdown_parts {P : List Part} {s t : State}
    (hP : [.regs, .cmd, .thm, .glb, .tim, .drv, .mtx, .slt, .brt] ⊆ P) (h : OnlyParts P s t) :
    OnlyParts P s (State.picShutdown t) := by
  have m_drv : Part.drv ∈ P := hP (by decide)
  have m_thm : Part.thm ∈ P := hP (by decide)
  have h0 : ([.mtx] : List Part) ⊆ P := List.Subset.trans (by decide) hP
  have h1 : ([.regs, .cmd, .glb, .tim, .slt, .brt] : List Part) ⊆ P := List.Subset.trans (by decide) hP
  have h2 : ([.glb, .drv] : List Part) ⊆ P := List.Subset.trans (by decide) hP
  unfold State.picShutdown
  repeat' first
    | with_reducible exact h
    | with_reducible refine State.emittersOff_parts h0 ?_
    | with_reducible refine State.halt_parts h1 ?_
    | with_reducible refine State.picSettle_parts h2 ?_
    | dsimp only
    | with_reducible refine OnlyParts.set_drv m_drv ?_
    | with_reducible refine OnlyParts.set_thm m_thm ?_
    | with_reducible refine OnlyParts.set_thm_drv m_thm m_drv ?_

theorem State.pllRelock_parts {P : List Part} {s t : State} (hP : [.glb] ⊆ P) (h : OnlyParts P s t) :
    OnlyParts P s (State.pllRelock t) := by
  have m_glb : Part.glb ∈ P := hP (by decide)
  unfold State.pllRelock
  repeat' first
    | with_reducible exact h
    | split
    | dsimp only
    | with_reducible refine OnlyParts.set_glb m_glb ?_

theorem State.pllUnlock_parts {P : List Part} {s t : State}
    (hP : [.freeCtr, .regs, .ctrs, .cmd, .flt, .glb] ⊆ P) (h : OnlyParts P s t) :
    OnlyParts P s (State.pllUnlock t) := by
  have m_glb : Part.glb ∈ P := hP (by decide)
  have h0 : ([.regs, .cmd] : List Part) ⊆ P := List.Subset.trans (by decide) hP
  have h1 : ([.ctrs] : List Part) ⊆ P := List.Subset.trans (by decide) hP
  have h2 : ([.regs] : List Part) ⊆ P := List.Subset.trans (by decide) hP
  have h3 : ([.ctrs, .flt] : List Part) ⊆ P := List.Subset.trans (by decide) hP
  have h4 : ([.freeCtr] : List Part) ⊆ P := List.Subset.trans (by decide) hP
  unfold State.pllUnlock
  repeat' first
    | with_reducible exact h
    | with_reducible refine State.irqIf_parts h0 ?_
    | with_reducible refine State.bump_parts h1 ?_
    | with_reducible refine State.wrBit_parts h2 ?_
    | with_reducible refine State.raiseSys_parts h3 ?_
    | with_reducible refine State.free_parts h4 ?_
    | with_reducible refine State.free_parts_eq h4 (by assumption) ?_
    | split
    | dsimp only
    | with_reducible refine OnlyParts.set_glb m_glb ?_

theorem State.pwrEnFall_parts {P : List Part} {s t : State}
    (hP : [.regs, .ctrs, .highLatch, .cmd, .sec, .flt, .thm, .glb, .img, .tim, .loopA, .loopB, .loopS, .drv,
      .adc, .mtx, .cal, .red, .acq, .slt, .brt, .pkts, .nextPkt, .ports, .chips, .xing] ⊆ P)
    (h : OnlyParts P s t) :
    OnlyParts P s (State.pwrEnFall t) := by
  have m_glb : Part.glb ∈ P := hP (by decide)
  have h0 : ([.regs, .ctrs, .highLatch, .cmd, .sec, .flt, .thm, .glb, .img, .tim, .loopA, .loopB, .loopS, .drv,
    .adc, .mtx, .cal, .red, .acq, .slt, .brt, .pkts, .nextPkt, .ports, .chips, .xing] : List Part) ⊆ P := List.Subset.trans (by decide) hP
  unfold State.pwrEnFall
  repeat' first
    | with_reducible exact h
    | with_reducible refine State.beginRestart_parts h0 ?_
    | split
    | dsimp only
    | with_reducible refine OnlyParts.set_glb m_glb ?_

theorem State.quiesceEnd_parts {P : List Part} {s t : State} {a1}
    (hP : [.regs, .cmd, .glb] ⊆ P) (h : OnlyParts P s t) :
    OnlyParts P s (State.quiesceEnd t a1) := by
  have m_glb : Part.glb ∈ P := hP (by decide)
  have h0 : ([.regs, .glb] : List Part) ⊆ P := List.Subset.trans (by decide) hP
  have h1 : ([.regs, .cmd, .glb] : List Part) ⊆ P := List.Subset.trans (by decide) hP
  unfold State.quiesceEnd
  repeat' first
    | with_reducible exact h
    | with_reducible refine State.abandonQuiesce_parts h0 ?_
    | with_reducible refine State.setGState_parts h1 ?_
    | split
    | dsimp only
    | with_reducible refine OnlyParts.set_glb m_glb ?_

theorem State.raiseThm_parts {P : List Part} {s t : State} {a1 a2} (hP : [.ctrs, .flt] ⊆ P) (h : OnlyParts P s t) :
    OnlyParts P s (State.raiseThm t a1 a2) := by
  have h0 : ([.ctrs, .flt] : List Part) ⊆ P := List.Subset.trans (by decide) hP
  unfold State.raiseThm
  repeat' first
    | with_reducible exact h
    | with_reducible refine State.raise_parts h0 ?_

theorem State.restartFailed_parts {P : List Part} {s t : State}
    (hP : [.regs, .ctrs, .flt, .glb] ⊆ P) (h : OnlyParts P s t) :
    OnlyParts P s (State.restartFailed t) := by
  have m_glb : Part.glb ∈ P := hP (by decide)
  have h0 : ([.regs] : List Part) ⊆ P := List.Subset.trans (by decide) hP
  have h1 : ([.ctrs, .flt] : List Part) ⊆ P := List.Subset.trans (by decide) hP
  unfold State.restartFailed
  repeat' first
    | with_reducible exact h
    | with_reducible refine State.wrBit_parts h0 ?_
    | with_reducible refine State.raisePwr_parts h1 ?_
    | split
    | dsimp only
    | with_reducible refine OnlyParts.set_glb m_glb ?_

theorem State.safeEntry_parts {P : List Part} {s t : State}
    (hP : [.regs, .cmd, .sec, .flt, .glb, .img, .acq, .ports] ⊆ P) (h : OnlyParts P s t) :
    OnlyParts P s (State.safeEntry t) := by
  have m_flt : Part.flt ∈ P := hP (by decide)
  have h0 : ([.regs, .cmd, .sec, .flt, .glb, .img, .acq, .ports] : List Part) ⊆ P := List.Subset.trans (by decide) hP
  unfold State.safeEntry
  repeat' first
    | with_reducible exact h
    | with_reducible refine State.enterSafe_parts h0 ?_
    | split
    | dsimp only
    | with_reducible refine OnlyParts.set_flt m_flt ?_

theorem State.safeExit_parts {P : List Part} {s t : State}
    (hP : [.flt, .slt, .brt, .ports] ⊆ P) (h : OnlyParts P s t) :
    OnlyParts P s (State.safeExit t) := by
  have m_flt : Part.flt ∈ P := hP (by decide)
  have m_ports : Part.ports ∈ P := hP (by decide)
  have h0 : ([.slt, .brt] : List Part) ⊆ P := List.Subset.trans (by decide) hP
  unfold State.safeExit
  repeat' first
    | with_reducible exact h
    | with_reducible refine State.endSafeHold_parts h0 ?_
    | split
    | dsimp only
    | with_reducible refine OnlyParts.set_flt m_flt ?_
    | with_reducible refine OnlyParts.set_ports m_ports ?_
    | with_reducible refine OnlyParts.set_flt_ports m_flt m_ports ?_

theorem State.sensorBreaks_parts {P : List Part} {s t : State} {a1}
    (hP : [.ctrs, .flt, .thm] ⊆ P) (h : OnlyParts P s t) :
    OnlyParts P s (State.sensorBreaks t a1) := by
  have h0 : ([.ctrs, .flt] : List Part) ⊆ P := List.Subset.trans (by decide) hP
  have h1 : ([.thm] : List Part) ⊆ P := List.Subset.trans (by decide) hP
  unfold State.sensorBreaks
  repeat' first
    | with_reducible exact h
    | with_reducible refine State.raiseThm_parts h0 ?_
    | with_reducible refine State.thermalEvent_parts h1 ?_

theorem State.setZone_parts {P : List Part} {s t : State} {a1 a2} (hP : [.thm] ⊆ P) (h : OnlyParts P s t) :
    OnlyParts P s (State.setZone t a1 a2) := by
  have m_thm : Part.thm ∈ P := hP (by decide)
  unfold State.setZone
  repeat' first
    | with_reducible exact h
    | dsimp only
    | with_reducible refine OnlyParts.set_thm m_thm ?_

theorem State.sensorReading_parts {P : List Part} {s t : State} {a1 a2 a3}
    (hP : [.ctrs, .flt, .thm, .img, .cal] ⊆ P) (h : OnlyParts P s t) :
    OnlyParts P s (State.sensorReading t a1 a2 a3) := by
  have h0 : ([.thm] : List Part) ⊆ P := List.Subset.trans (by decide) hP
  have h1 : ([.ctrs, .flt, .thm] : List Part) ⊆ P := List.Subset.trans (by decide) hP
  have h2 : ([.thm, .img, .cal] : List Part) ⊆ P := List.Subset.trans (by decide) hP
  unfold State.sensorReading
  repeat' first
    | with_reducible exact h
    | with_reducible refine State.setZone_parts h0 ?_
    | with_reducible refine State.sensorBreaks_parts h1 ?_
    | with_reducible refine State.nvmTemp_parts h2 ?_
    | with_reducible assumption
    | with_reducible refine OnlyParts.foldl (fun _ _ _ => ?_) ?_
    | with_reducible refine OnlyParts.foldl_fst (fun _ _ _ => ?_) ?_
    | split

theorem State.shutdownAct_parts {P : List Part} {s t : State} {a1}
    (hP : [.freeCtr, .regs, .ctrs, .cmd, .sec, .flt, .thm, .glb, .img, .tim, .drv, .mtx, .red, .acq, .slt,
      .brt, .pkts, .ports, .chips, .xing] ⊆ P)
    (h : OnlyParts P s t) :
    OnlyParts P s (State.shutdownAct t a1) := by
  have h0 : ([.regs, .cmd, .thm, .glb, .tim, .drv, .mtx, .slt, .brt, .pkts, .ports, .chips,
    .xing] : List Part) ⊆ P := List.Subset.trans (by decide) hP
  have h1 : ([.freeCtr, .regs, .ctrs, .cmd, .sec, .flt, .glb, .img, .drv, .mtx, .red, .acq, .brt, .pkts,
    .ports, .chips, .xing] : List Part) ⊆ P := List.Subset.trans (by decide) hP
  have h2 : ([.regs, .cmd, .thm, .glb, .tim, .drv, .mtx, .slt,
    .brt] : List Part) ⊆ P := List.Subset.trans (by decide) hP
  have h3 : ([.ctrs, .flt] : List Part) ⊆ P := List.Subset.trans (by decide) hP
  unfold State.shutdownAct
  repeat' first
    | with_reducible exact h
    | with_reducible refine State.coreShutdown_parts h0 ?_
    | with_reducible refine State.loseDomain_parts h1 ?_
    | with_reducible refine State.picShutdown_parts h2 ?_
    | with_reducible refine State.raiseThm_parts h3 ?_
    | split

theorem State.smpBad_parts {P : List Part} {s t : State} {a1} (hP : [.ctrs, .cmd] ⊆ P) (h : OnlyParts P s t) :
    OnlyParts P s (State.smpBad t a1) := by
  have m_cmd : Part.cmd ∈ P := hP (by decide)
  have h0 : ([.ctrs] : List Part) ⊆ P := List.Subset.trans (by decide) hP
  unfold State.smpBad
  repeat' first
    | with_reducible exact h
    | with_reducible refine State.bump_parts h0 ?_
    | split
    | dsimp only
    | with_reducible refine OnlyParts.set_cmd m_cmd ?_

theorem State.smpWrite_parts {P : List Part} {s t : State} {a1 a2}
    (hP : [.freeCtr, .regs, .ctrs, .highLatch, .cmd, .sec, .flt, .thm, .glb, .img, .tim, .loopA, .loopB,
      .loopS, .drv, .adc, .mtx, .cal, .red, .acq, .slt, .brt, .pkts, .nextPkt, .ports, .chips, .xing] ⊆ P)
    (h : OnlyParts P s t) :
    OnlyParts P s (State.smpWrite t a1 a2) := by
  have h0 : ([.cmd] : List Part) ⊆ P := List.Subset.trans (by decide) hP
  have h1 : ([.freeCtr, .regs, .ctrs, .highLatch, .cmd, .sec, .flt, .thm, .glb, .img, .tim, .loopA, .loopB,
    .loopS, .drv, .adc, .mtx, .cal, .red, .acq, .slt, .brt, .pkts, .nextPkt, .ports, .chips, .xing] : List Part) ⊆ P := List.Subset.trans (by decide) hP
  unfold State.smpWrite
  repeat' first
    | with_reducible exact h
    | with_reducible refine State.smpEnd_parts h0 ?_
    | with_reducible refine State.abvWrites_parts h1 ?_
    | with_reducible refine State.abvWrites_parts_eq h1 (by assumption) ?_
    | with_reducible refine State.smpBegin_parts h0 ?_
    | split

theorem State.smpRead_parts {P : List Part} {s t : State} {a1}
    (hP : [.freeCtr, .regs, .ctrs, .highLatch, .cmd, .sec, .flt, .tim, .adc] ⊆ P) (h : OnlyParts P s t) :
    OnlyParts P s (State.smpRead t a1) := by
  have h0 : ([.cmd] : List Part) ⊆ P := List.Subset.trans (by decide) hP
  have h1 : ([.freeCtr, .regs, .ctrs, .highLatch, .cmd, .sec, .flt, .tim,
    .adc] : List Part) ⊆ P := List.Subset.trans (by decide) hP
  unfold State.smpRead
  repeat' first
    | with_reducible exact h
    | with_reducible refine State.smpEnd_parts h0 ?_
    | with_reducible refine State.smpBegin_parts h0 ?_
    | with_reducible refine State.abvRead_parts h1 ?_

theorem State.smpExecute_parts {P : List Part} {s t : State} {a1 a2}
    (hP : [.freeCtr, .regs, .ctrs, .highLatch, .cmd, .sec, .flt, .thm, .glb, .img, .tim, .loopA, .loopB,
      .loopS, .drv, .adc, .mtx, .cal, .red, .acq, .slt, .brt, .pkts, .nextPkt, .ports, .chips, .xing] ⊆ P)
    (h : OnlyParts P s t) :
    OnlyParts P s (State.smpExecute t a1 a2) := by
  have h0 : ([.cmd] : List Part) ⊆ P := List.Subset.trans (by decide) hP
  have h1 : ([.freeCtr, .regs, .ctrs, .highLatch, .cmd, .sec, .flt, .thm, .glb, .img, .tim, .loopA, .loopB,
    .loopS, .drv, .adc, .mtx, .cal, .red, .acq, .slt, .brt, .pkts, .nextPkt, .ports, .chips, .xing] : List Part) ⊆ P := List.Subset.trans (by decide) hP
  have h2 : ([.freeCtr, .regs, .ctrs, .cmd, .sec, .flt, .img, .adc, .mtx, .brt, .pkts, .ports,
    .chips] : List Part) ⊆ P := List.Subset.trans (by decide) hP
  have h3 : ([.freeCtr, .regs, .ctrs, .highLatch, .cmd, .sec, .flt, .tim,
    .adc] : List Part) ⊆ P := List.Subset.trans (by decide) hP
  unfold State.smpExecute
  repeat' first
    | with_reducible exact h
    | with_reducible refine State.smpEnd_parts h0 ?_
    | with_reducible refine State.smpWrite_parts h1 ?_
    | with_reducible refine State.smpBegin_parts h0 ?_
    | with_reducible refine State.smpMailbox_parts h2 ?_
    | with_reducible refine State.smpRead_parts h3 ?_
    | split

theorem State.smpPoll_parts {P : List Part} {s t : State} (hP : [.cmd] ⊆ P) (h : OnlyParts P s t) :
    OnlyParts P s (State.smpPoll t) := by
  have m_cmd : Part.cmd ∈ P := hP (by decide)
  unfold State.smpPoll
  repeat' first
    | with_reducible exact h
    | dsimp only
    | with_reducible refine OnlyParts.set_cmd m_cmd ?_

theorem State.smpFrame_parts {P : List Part} {s t : State} {a1}
    (hP : [.freeCtr, .regs, .ctrs, .highLatch, .cmd, .sec, .flt, .thm, .glb, .img, .tim, .loopA, .loopB,
      .loopS, .drv, .adc, .mtx, .cal, .red, .acq, .slt, .brt, .pkts, .nextPkt, .ports, .chips, .xing] ⊆ P)
    (h : OnlyParts P s t) :
    OnlyParts P s (State.smpFrame t a1) := by
  have m_cmd : Part.cmd ∈ P := hP (by decide)
  have h0 : ([.ctrs] : List Part) ⊆ P := List.Subset.trans (by decide) hP
  have h1 : ([.cmd] : List Part) ⊆ P := List.Subset.trans (by decide) hP
  have h2 : ([.ctrs, .cmd] : List Part) ⊆ P := List.Subset.trans (by decide) hP
  have h3 : ([.freeCtr, .regs, .ctrs, .highLatch, .cmd, .sec, .flt, .thm, .glb, .img, .tim, .loopA, .loopB,
    .loopS, .drv, .adc, .mtx, .cal, .red, .acq, .slt, .brt, .pkts, .nextPkt, .ports, .chips, .xing] : List Part) ⊆ P := List.Subset.trans (by decide) hP
  unfold State.smpFrame
  repeat' first
    | with_reducible exact h
    | with_reducible refine State.bump_parts h0 ?_
    | with_reducible refine State.smpPoll_parts h1 ?_
    | with_reducible refine State.smpBad_parts h2 ?_
    | with_reducible refine State.smpExecute_parts h3 ?_
    | split
    | dsimp only
    | with_reducible refine OnlyParts.set_cmd m_cmd ?_

theorem State.thermalWrite_parts {P : List Part} {s t : State} (hP : [.thm] ⊆ P) (h : OnlyParts P s t) :
    OnlyParts P s (State.thermalWrite t) := by
  have m_thm : Part.thm ∈ P := hP (by decide)
  unfold State.thermalWrite
  repeat' first
    | with_reducible exact h
    | split
    | dsimp only
    | with_reducible refine OnlyParts.set_thm m_thm ?_

theorem State.throttleStep_parts {P : List Part} {s t : State} {a1} (hP : [.thm] ⊆ P) (h : OnlyParts P s t) :
    OnlyParts P s (State.throttleStep t a1) := by
  have h0 : ([.thm] : List Part) ⊆ P := List.Subset.trans (by decide) hP
  unfold State.throttleStep
  repeat' first
    | with_reducible exact h
    | with_reducible refine State.setZone_parts h0 ?_
    | split

theorem State.throttleOn_parts {P : List Part} {s t : State} {a1}
    (hP : [.freeCtr, .regs, .ctrs, .cmd, .flt, .thm, .glb, .tim, .loopA, .loopB, .loopS, .drv, .mtx, .cal,
      .acq, .slt, .brt] ⊆ P)
    (h : OnlyParts P s t) :
    OnlyParts P s (State.throttleOn t a1) := by
  have h0 : ([.regs, .cmd] : List Part) ⊆ P := List.Subset.trans (by decide) hP
  have h1 : ([.freeCtr, .regs, .cmd, .glb, .tim, .loopA, .loopB, .loopS, .drv, .mtx, .cal, .acq, .slt,
    .brt] : List Part) ⊆ P := List.Subset.trans (by decide) hP
  have h2 : ([.thm] : List Part) ⊆ P := List.Subset.trans (by decide) hP
  have h3 : ([.ctrs, .flt] : List Part) ⊆ P := List.Subset.trans (by decide) hP
  unfold State.throttleOn
  repeat' first
    | with_reducible exact h
    | with_reducible refine State.irqIf_parts h0 ?_
    | with_reducible refine State.abortFull_parts h1 ?_
    | with_reducible refine State.throttleStep_parts h2 ?_
    | with_reducible refine State.raiseThm_parts h3 ?_
    | split

theorem State.thresholdAssert_parts {P : List Part} {s t : State} {a1 a2}
    (hP : [.freeCtr, .regs, .ctrs, .cmd, .sec, .flt, .thm, .glb, .img, .tim, .loopA, .loopB, .loopS, .drv,
      .mtx, .cal, .red, .acq, .slt, .brt, .pkts, .ports, .chips, .xing] ⊆ P)
    (h : OnlyParts P s t) :
    OnlyParts P s (State.thresholdAssert t a1 a2) := by
  have h0 : ([.thm] : List Part) ⊆ P := List.Subset.trans (by decide) hP
  have h1 : ([.regs, .cmd] : List Part) ⊆ P := List.Subset.trans (by decide) hP
  have h2 : ([.freeCtr, .regs, .ctrs, .cmd, .flt, .thm, .glb, .tim, .loopA, .loopB, .loopS, .drv, .mtx, .cal,
    .acq, .slt, .brt] : List Part) ⊆ P := List.Subset.trans (by decide) hP
  have h3 : ([.freeCtr, .regs, .ctrs, .cmd, .sec, .flt, .thm, .glb, .img, .tim, .drv, .mtx, .red, .acq, .slt,
    .brt, .pkts, .ports, .chips, .xing] : List Part) ⊆ P := List.Subset.trans (by decide) hP
  have h4 : ([.ctrs, .flt] : List Part) ⊆ P := List.Subset.trans (by decide) hP
  unfold State.thresholdAssert
  repeat' first
    | with_reducible exact h
    | with_reducible refine State.setZone_parts h0 ?_
    | with_reducible refine State.irqIf_parts h1 ?_
    | with_reducible refine State.irq_parts h1 ?_
    | with_reducible refine State.throttleOn_parts h2 ?_
    | with_reducible refine State.shutdownAct_parts h3 ?_
    | with_reducible refine State.raiseThm_parts h4 ?_
    | with_reducible refine State.thermalEvent_parts h0 ?_
    | split
    | dsimp only

theorem State.thresholdRelease_parts {P : List Part} {s t : State} {a1 a2}
    (hP : [.regs, .cmd, .thm] ⊆ P) (h : OnlyParts P s t) :
    OnlyParts P s (State.thresholdRelease t a1 a2) := by
  have h0 : ([.thm] : List Part) ⊆ P := List.Subset.trans (by decide) hP
  have h1 : ([.regs, .cmd] : List Part) ⊆ P := List.Subset.trans (by decide) hP
  unfold State.thresholdRelease
  repeat' first
    | with_reducible exact h
    | with_reducible refine State.setZone_parts h0 ?_
    | with_reducible refine State.irqIf_parts h1 ?_
    | with_reducible refine State.endOffPhases_parts h0 ?_
    | split
    | dsimp only

theorem State.vinBad_parts {P : List Part} {s t : State} (hP : [.ctrs, .flt, .glb] ⊆ P) (h : OnlyParts P s t) :
    OnlyParts P s (State.vinBad t) := by
  have m_flt : Part.flt ∈ P := hP (by decide)
  have m_glb : Part.glb ∈ P := hP (by decide)
  have h0 : ([.ctrs, .flt] : List Part) ⊆ P := List.Subset.trans (by decide) hP
  unfold State.vinBad
  repeat' first
    | with_reducible exact h
    | with_reducible refine State.raiseSys_parts h0 ?_
    | split
    | dsimp only
    | with_reducible refine OnlyParts.set_flt m_flt ?_
    | with_reducible refine OnlyParts.set_glb m_glb ?_
    | with_reducible refine OnlyParts.set_flt_glb m_flt m_glb ?_

theorem State.vinCollapse_parts {P : List Part} {s t : State}
    (hP : [.sec, .thm, .glb, .img, .drv, .mtx, .cal, .brt, .pkts, .ports, .chips, .xing] ⊆ P) (h : OnlyParts P s t) :
    OnlyParts P s (State.vinCollapse t) := by
  have m_img : Part.img ∈ P := hP (by decide)
  have m_cal : Part.cal ∈ P := hP (by decide)
  have m_thm : Part.thm ∈ P := hP (by decide)
  have m_glb : Part.glb ∈ P := hP (by decide)
  have m_sec : Part.sec ∈ P := hP (by decide)
  have h0 : ([.glb, .drv, .mtx, .brt, .pkts, .ports, .chips,
    .xing] : List Part) ⊆ P := List.Subset.trans (by decide) hP
  unfold State.vinCollapse
  repeat' first
    | with_reducible exact h
    | with_reducible refine State.domainsOff_parts h0 ?_
    | split
    | dsimp only
    | with_reducible refine OnlyParts.set_img m_img ?_
    | with_reducible refine OnlyParts.set_cal m_cal ?_
    | with_reducible refine OnlyParts.set_thm m_thm ?_
    | with_reducible refine OnlyParts.set_glb m_glb ?_
    | with_reducible refine OnlyParts.set_sec m_sec ?_
    | with_reducible refine OnlyParts.set_sec_thm_glb_img_cal m_sec m_thm m_glb m_img m_cal ?_

theorem State.vinRise_parts {P : List Part} {s t : State} (hP : [.flt, .glb] ⊆ P) (h : OnlyParts P s t) :
    OnlyParts P s (State.vinRise t) := by
  have m_flt : Part.flt ∈ P := hP (by decide)
  have m_glb : Part.glb ∈ P := hP (by decide)
  unfold State.vinRise
  repeat' first
    | with_reducible exact h
    | split
    | dsimp only
    | with_reducible refine OnlyParts.set_flt m_flt ?_
    | with_reducible refine OnlyParts.set_glb m_glb ?_
    | with_reducible refine OnlyParts.set_flt_glb m_flt m_glb ?_

theorem State.zeroEnd_parts {P : List Part} {s t : State} {a1}
    (hP : [.regs, .ctrs, .highLatch, .cmd, .sec, .flt, .thm, .glb, .img, .tim, .loopA, .loopB, .loopS, .drv,
      .adc, .mtx, .cal, .red, .acq, .slt, .brt, .pkts, .nextPkt, .ports, .chips, .xing] ⊆ P)
    (h : OnlyParts P s t) :
    OnlyParts P s (State.zeroEnd t a1) := by
  have m_sec : Part.sec ∈ P := hP (by decide)
  have m_chips : Part.chips ∈ P := hP (by decide)
  have h0 : ([.regs, .cmd, .glb, .tim, .slt, .brt] : List Part) ⊆ P := List.Subset.trans (by decide) hP
  have h1 : ([.sec] : List Part) ⊆ P := List.Subset.trans (by decide) hP
  have h2 : ([.regs, .ctrs, .highLatch, .cmd, .sec, .flt, .thm, .glb, .img, .tim, .loopA, .loopB, .loopS, .drv,
    .adc, .mtx, .cal, .red, .acq, .slt, .brt, .pkts, .nextPkt, .ports, .chips, .xing] : List Part) ⊆ P := List.Subset.trans (by decide) hP
  unfold State.zeroEnd
  repeat' first
    | with_reducible exact h
    | with_reducible refine State.halt_parts h0 ?_
    | with_reducible refine State.audit_parts h1 ?_
    | with_reducible refine State.restartIfReady_parts h2 ?_
    | split
    | dsimp only
    | with_reducible refine OnlyParts.set_sec m_sec ?_
    | with_reducible refine OnlyParts.set_chips m_chips ?_
    | with_reducible refine OnlyParts.set_sec_chips m_sec m_chips ?_

theorem State.zeroizePin_parts {P : List Part} {s t : State} {a1}
    (hP : [.regs, .ctrs, .sec, .flt, .glb, .img, .brt, .pkts, .ports, .chips] ⊆ P) (h : OnlyParts P s t) :
    OnlyParts P s (State.zeroizePin t a1) := by
  have m_glb : Part.glb ∈ P := hP (by decide)
  have h0 : ([.regs, .ctrs, .sec, .flt, .img, .brt, .pkts, .ports,
    .chips] : List Part) ⊆ P := List.Subset.trans (by decide) hP
  unfold State.zeroizePin
  repeat' first
    | with_reducible exact h
    | with_reducible refine State.trigger_parts h0 ?_
    | split
    | dsimp only
    | with_reducible refine OnlyParts.set_glb m_glb ?_

end Sys2Proof.Machine
end

