-- ==== Sys2Proof/Laws/PartsRun.lean ====
section
/-! SUPPORT. What each operation of applying an image, start-up, and the sample and slot boundaries may change: one lemma per operation. -/

namespace Sys2Proof.Machine

open Sys2Proof

theorem State.applyAdcMap_parts {P : List Part} {s t : State} (hP : [.ctrs, .flt, .adc] ⊆ P) (h : OnlyParts P s t) :
    OnlyParts P s (State.applyAdcMap t) := by
  have h0 : ([.ctrs, .flt] : List Part) ⊆ P := List.Subset.trans (by decide) hP
  have h1 : ([.adc] : List Part) ⊆ P := List.Subset.trans (by decide) hP
  unfold State.applyAdcMap
  repeat' first
    | with_reducible exact h
    | with_reducible refine State.raise_parts h0 ?_
    | with_reducible refine State.setAu_parts h1 ?_
    | with_reducible assumption
    | with_reducible refine OnlyParts.foldl (fun _ _ _ => ?_) ?_
    | with_reducible refine OnlyParts.foldl_fst (fun _ _ _ => ?_) ?_
    | split
    | dsimp only

theorem State.applyAuth_parts {P : List Part} {s t : State} {a1} (hP : [.cmd, .sec, .img] ⊆ P) (h : OnlyParts P s t) :
    OnlyParts P s (State.applyAuth t a1) := by
  have m_img : Part.img ∈ P := hP (by decide)
  have m_cmd : Part.cmd ∈ P := hP (by decide)
  have h0 : ([.sec] : List Part) ⊆ P := List.Subset.trans (by decide) hP
  unfold State.applyAuth
  repeat' first
    | with_reducible exact h
    | with_reducible refine State.audit_parts h0 ?_
    | split
    | dsimp only
    | with_reducible refine OnlyParts.set_img m_img ?_
    | with_reducible refine OnlyParts.set_cmd m_cmd ?_
    | with_reducible refine OnlyParts.set_cmd_img m_cmd m_img ?_

theorem State.applyCalendar_parts {P : List Part} {s t : State} {a1} (hP : [.regs] ⊆ P) (h : OnlyParts P s t) :
    OnlyParts P s (State.applyCalendar t a1) := by
  have h0 : ([.regs] : List Part) ⊆ P := List.Subset.trans (by decide) hP
  unfold State.applyCalendar
  repeat' first
    | with_reducible exact h
    | with_reducible refine State.putCalendar_parts h0 ?_
    | with_reducible refine State.putDefaultCalendar_parts h0 ?_
    | split

theorem State.wrRwl_parts {P : List Part} {s t : State} {a1 a2 a3} (hP : [.regs] ⊆ P) (h : OnlyParts P s t) :
    OnlyParts P s (State.wrRwl t a1 a2 a3) := by
  have h0 : ([.regs] : List Part) ⊆ P := List.Subset.trans (by decide) hP
  unfold State.wrRwl
  repeat' first
    | with_reducible exact h
    | with_reducible refine State.wr_parts h0 ?_

theorem State.applyClocks_parts {P : List Part} {s t : State} {a1} (hP : [.regs] ⊆ P) (h : OnlyParts P s t) :
    OnlyParts P s (State.applyClocks t a1) := by
  have h0 : ([.regs] : List Part) ⊆ P := List.Subset.trans (by decide) hP
  unfold State.applyClocks
  repeat' first
    | with_reducible exact h
    | with_reducible refine State.wrRwl_parts h0 ?_

theorem State.applySecurity_parts {P : List Part} {s t : State} {a1} (hP : [.sec] ⊆ P) (h : OnlyParts P s t) :
    OnlyParts P s (State.applySecurity t a1) := by
  have m_sec : Part.sec ∈ P := hP (by decide)
  unfold State.applySecurity
  repeat' first
    | with_reducible exact h
    | dsimp only
    | with_reducible refine OnlyParts.set_sec m_sec ?_

theorem State.applyUcodeAt_parts {P : List Part} {s t : State} {a1 a2 a3} (hP : [.chips] ⊆ P) (h : OnlyParts P s t) :
    OnlyParts P s (State.applyUcodeAt t a1 a2 a3) := by
  have h0 : ([.chips] : List Part) ⊆ P := List.Subset.trans (by decide) hP
  unfold State.applyUcodeAt
  repeat' first
    | with_reducible exact h
    | with_reducible refine State.setChip_parts h0 ?_
    | split

theorem State.applyQueuesAt_parts {P : List Part} {s t : State} {a1 a2} (hP : [.regs] ⊆ P) (h : OnlyParts P s t) :
    OnlyParts P s (State.applyQueuesAt t a1 a2) := by
  have h0 : ([.regs] : List Part) ⊆ P := List.Subset.trans (by decide) hP
  unfold State.applyQueuesAt
  repeat' first
    | with_reducible exact h
    | with_reducible refine State.wrRwl_parts h0 ?_
    | with_reducible assumption
    | with_reducible refine OnlyParts.foldl (fun _ _ _ => ?_) ?_
    | with_reducible refine OnlyParts.foldl_fst (fun _ _ _ => ?_) ?_
    | split

theorem State.resetRwl_parts {P : List Part} {s t : State} (hP : [.regs] ⊆ P) (h : OnlyParts P s t) :
    OnlyParts P s (State.resetRwl t) := by
  have m_regs : Part.regs ∈ P := hP (by decide)
  unfold State.resetRwl
  repeat' first
    | with_reducible exact h
    | dsimp only
    | with_reducible refine OnlyParts.set_regs m_regs ?_

theorem State.applyOverlay_parts {P : List Part} {s t : State} {a1}
    (hP : [.adc, .mtx, .chips] ⊆ P) (h : OnlyParts P s t) :
    OnlyParts P s (State.applyOverlay t a1) := by
  have m_mtx : Part.mtx ∈ P := hP (by decide)
  have m_adc : Part.adc ∈ P := hP (by decide)
  have h0 : ([.adc, .mtx, .chips] : List Part) ⊆ P := List.Subset.trans (by decide) hP
  unfold State.applyOverlay
  repeat' first
    | with_reducible exact h
    | with_reducible refine State.repairRemove_parts h0 ?_
    | with_reducible assumption
    | with_reducible refine OnlyParts.foldl (fun _ _ _ => ?_) ?_
    | with_reducible refine OnlyParts.foldl_fst (fun _ _ _ => ?_) ?_
    | dsimp only
    | with_reducible refine OnlyParts.set_mtx m_mtx ?_
    | with_reducible refine OnlyParts.set_adc m_adc ?_
    | with_reducible refine OnlyParts.set_adc_mtx m_adc m_mtx ?_

theorem State.applyPort_parts {P : List Part} {s t : State} {a1 a2} (hP : [.regs] ⊆ P) (h : OnlyParts P s t) :
    OnlyParts P s (State.applyPort t a1 a2) := by
  have h0 : ([.regs] : List Part) ⊆ P := List.Subset.trans (by decide) hP
  unfold State.applyPort
  repeat' first
    | with_reducible exact h
    | with_reducible refine State.wrRwl_parts h0 ?_

theorem State.applyPair_parts {P : List Part} {s t : State} {a1 a2}
    (hP : [.freeCtr, .regs, .ctrs, .highLatch, .cmd, .sec, .flt, .thm, .glb, .img, .tim, .loopA, .loopB,
      .loopS, .drv, .adc, .mtx, .cal, .red, .acq, .slt, .brt, .pkts, .nextPkt, .ports, .chips, .xing] ⊆ P)
    (h : OnlyParts P s t) :
    OnlyParts P s (State.applyPair t a1 a2) := by
  have h0 : ([.ctrs] : List Part) ⊆ P := List.Subset.trans (by decide) hP
  have h1 : ([.freeCtr, .regs, .ctrs, .highLatch, .cmd, .sec, .flt, .thm, .glb, .img, .tim, .loopA, .loopB,
    .loopS, .drv, .adc, .mtx, .cal, .red, .acq, .slt, .brt, .pkts, .nextPkt, .ports, .chips, .xing] : List Part) ⊆ P := List.Subset.trans (by decide) hP
  have h2 : ([.regs, .ctrs, .sec] : List Part) ⊆ P := List.Subset.trans (by decide) hP
  unfold State.applyPair
  repeat' first
    | with_reducible exact h
    | with_reducible refine State.bump_parts h0 ?_
    | with_reducible refine State.regAct_parts h1 ?_
    | with_reducible refine State.plainWrite_parts h2 ?_
    | split

theorem State.applySections_parts {P : List Part} {s t : State} {a1 a2}
    (hP : [.freeCtr, .regs, .ctrs, .highLatch, .cmd, .sec, .flt, .thm, .glb, .img, .tim, .loopA, .loopB,
      .loopS, .drv, .adc, .mtx, .cal, .red, .acq, .slt, .brt, .pkts, .nextPkt, .ports, .chips, .xing] ⊆ P)
    (h : OnlyParts P s t) :
    OnlyParts P s (State.applySections t a1 a2) := by
  have m_ctrs : Part.ctrs ∈ P := hP (by decide)
  have m_img : Part.img ∈ P := hP (by decide)
  have h0 : ([.regs] : List Part) ⊆ P := List.Subset.trans (by decide) hP
  have h1 : ([.sec] : List Part) ⊆ P := List.Subset.trans (by decide) hP
  have h2 : ([.chips] : List Part) ⊆ P := List.Subset.trans (by decide) hP
  have h3 : ([.cmd, .sec, .img] : List Part) ⊆ P := List.Subset.trans (by decide) hP
  have h4 : ([.adc, .mtx, .chips] : List Part) ⊆ P := List.Subset.trans (by decide) hP
  have h5 : ([.freeCtr, .regs, .ctrs, .highLatch, .cmd, .sec, .flt, .thm, .glb, .img, .tim, .loopA, .loopB,
    .loopS, .drv, .adc, .mtx, .cal, .red, .acq, .slt, .brt, .pkts, .nextPkt, .ports, .chips, .xing] : List Part) ⊆ P := List.Subset.trans (by decide) hP
  unfold State.applySections
  repeat' first
    | with_reducible exact h
    | with_reducible refine State.applyCalendar_parts h0 ?_
    | with_reducible refine State.applySecurity_parts h1 ?_
    | with_reducible refine State.applyUcodeAt_parts h2 ?_
    | with_reducible refine State.applyQueuesAt_parts h0 ?_
    | with_reducible refine State.resetRwl_parts h0 ?_
    | with_reducible refine State.applyAuth_parts h3 ?_
    | with_reducible refine State.applyOverlay_parts h4 ?_
    | with_reducible refine State.applyClocks_parts h0 ?_
    | with_reducible refine State.applyPort_parts h0 ?_
    | with_reducible refine State.applyPair_parts h5 ?_
    | with_reducible assumption
    | with_reducible refine OnlyParts.foldl (fun _ _ _ => ?_) ?_
    | with_reducible refine OnlyParts.foldl_fst (fun _ _ _ => ?_) ?_
    | split
    | dsimp only
    | with_reducible refine OnlyParts.set_ctrs m_ctrs ?_
    | with_reducible refine OnlyParts.set_img m_img ?_
    | with_reducible refine OnlyParts.set_ctrs_img m_ctrs m_img ?_

theorem State.applyPages_parts {P : List Part} {s t : State} {a1} (hP : [.chips] ⊆ P) (h : OnlyParts P s t) :
    OnlyParts P s (State.applyPages t a1) := by
  have h0 : ([.chips] : List Part) ⊆ P := List.Subset.trans (by decide) hP
  unfold State.applyPages
  repeat' first
    | with_reducible exact h
    | with_reducible refine State.setChip_parts h0 ?_

theorem State.applyLane_parts {P : List Part} {s t : State} {a1 a2} (hP : [.ports] ⊆ P) (h : OnlyParts P s t) :
    OnlyParts P s (State.applyLane t a1 a2) := by
  have h0 : ([.ports] : List Part) ⊆ P := List.Subset.trans (by decide) hP
  unfold State.applyLane
  repeat' first
    | with_reducible exact h
    | with_reducible refine State.setPort_parts h0 ?_
    | split
    | dsimp only

theorem State.applyParks_parts {P : List Part} {s t : State} (hP : [.mtx] ⊆ P) (h : OnlyParts P s t) :
    OnlyParts P s (State.applyParks t) := by
  have m_mtx : Part.mtx ∈ P := hP (by decide)
  unfold State.applyParks
  repeat' first
    | with_reducible exact h
    | split
    | dsimp only
    | with_reducible refine OnlyParts.set_mtx m_mtx ?_

theorem State.applyRepairMap_parts {P : List Part} {s t : State} {a1}
    (hP : [.ctrs, .flt, .adc, .mtx, .ports, .chips] ⊆ P) (h : OnlyParts P s t) :
    OnlyParts P s (State.applyRepairMap t a1) := by
  have h0 : ([.chips] : List Part) ⊆ P := List.Subset.trans (by decide) hP
  have h1 : ([.ctrs, .flt, .adc] : List Part) ⊆ P := List.Subset.trans (by decide) hP
  have h2 : ([.ports] : List Part) ⊆ P := List.Subset.trans (by decide) hP
  have h3 : ([.mtx] : List Part) ⊆ P := List.Subset.trans (by decide) hP
  unfold State.applyRepairMap
  repeat' first
    | with_reducible exact h
    | with_reducible refine State.applyPages_parts h0 ?_
    | with_reducible refine State.applyAdcMap_parts h1 ?_
    | with_reducible refine State.applyLane_parts h2 ?_
    | with_reducible refine State.applyParks_parts h3 ?_
    | with_reducible assumption
    | with_reducible refine OnlyParts.foldl (fun _ _ _ => ?_) ?_

theorem State.retrainChanged_parts {P : List Part} {s t : State} {u1 a2} (hP : [.ports] ⊆ P) (h : OnlyParts P s t) :
    OnlyParts P s (State.retrainChanged t u1 a2) := by
  have h0 : ([.ports] : List Part) ⊆ P := List.Subset.trans (by decide) hP
  unfold State.retrainChanged
  repeat' first
    | with_reducible exact h
    | with_reducible refine State.setPort_parts h0 ?_
    | with_reducible refine State.restartTraining_parts h0 ?_
    | split

theorem State.applyEnd_parts {P : List Part} {s t : State}
    (hP : [.freeCtr, .regs, .ctrs, .highLatch, .cmd, .sec, .flt, .thm, .glb, .img, .tim, .loopA, .loopB,
      .loopS, .drv, .adc, .mtx, .cal, .red, .acq, .slt, .brt, .pkts, .nextPkt, .ports, .chips, .xing] ⊆ P)
    (h : OnlyParts P s t) :
    OnlyParts P s (State.applyEnd t) := by
  have m_img : Part.img ∈ P := hP (by decide)
  have h0 : ([.freeCtr, .regs, .ctrs, .highLatch, .cmd, .sec, .flt, .thm, .glb, .img, .tim, .loopA, .loopB,
    .loopS, .drv, .adc, .mtx, .cal, .red, .acq, .slt, .brt, .pkts, .nextPkt, .ports, .chips, .xing] : List Part) ⊆ P := List.Subset.trans (by decide) hP
  have h1 : ([.ctrs, .flt, .adc, .mtx, .ports, .chips] : List Part) ⊆ P := List.Subset.trans (by decide) hP
  have h2 : ([.ports] : List Part) ⊆ P := List.Subset.trans (by decide) hP
  unfold State.applyEnd
  repeat' first
    | with_reducible exact h
    | with_reducible refine State.applySections_parts h0 ?_
    | with_reducible refine State.applyRepairMap_parts h1 ?_
    | with_reducible refine State.retrainChanged_parts h2 ?_
    | with_reducible assumption
    | with_reducible refine OnlyParts.foldl (fun _ _ _ => ?_) ?_
    | with_reducible refine OnlyParts.foldl_fst (fun _ _ _ => ?_) ?_
    | split
    | dsimp only
    | with_reducible refine OnlyParts.set_img m_img ?_

theorem State.applyLevels0_parts {P : List Part} {s t : State} (hP : [.drv] ⊆ P) (h : OnlyParts P s t) :
    OnlyParts P s (State.applyLevels0 t) := by
  have m_drv : Part.drv ∈ P := hP (by decide)
  have h0 : ([.drv] : List Part) ⊆ P := List.Subset.trans (by decide) hP
  unfold State.applyLevels0
  repeat' first
    | with_reducible exact h
    | with_reducible refine State.setChan_parts h0 ?_
    | with_reducible assumption
    | with_reducible refine OnlyParts.foldl (fun _ _ _ => ?_) ?_
    | with_reducible refine OnlyParts.foldl_fst (fun _ _ _ => ?_) ?_
    | split
    | dsimp only
    | with_reducible refine OnlyParts.set_drv m_drv ?_

theorem State.applySelects_parts {P : List Part} {s t : State} {a1} (hP : [.drv] ⊆ P) (h : OnlyParts P s t) :
    OnlyParts P s (State.applySelects t a1) := by
  have m_drv : Part.drv ∈ P := hP (by decide)
  unfold State.applySelects
  repeat' first
    | with_reducible exact h
    | split
    | dsimp only
    | with_reducible refine OnlyParts.set_drv m_drv ?_

theorem State.auditPartial_parts {P : List Part} {s t : State} (hP : [.sec] ⊆ P) (h : OnlyParts P s t) :
    OnlyParts P s (State.auditPartial t) := by
  have h0 : ([.sec] : List Part) ⊆ P := List.Subset.trans (by decide) hP
  unfold State.auditPartial
  repeat' first
    | with_reducible exact h
    | with_reducible refine State.audit_parts h0 ?_
    | with_reducible assumption
    | with_reducible refine OnlyParts.foldl (fun _ _ _ => ?_) ?_
    | with_reducible refine OnlyParts.foldl_fst (fun _ _ _ => ?_) ?_
    | split

theorem State.beginBoot_parts {P : List Part} {s t : State} (hP : [.img] ⊆ P) (h : OnlyParts P s t) :
    OnlyParts P s (State.beginBoot t) := by
  have m_img : Part.img ∈ P := hP (by decide)
  unfold State.beginBoot
  repeat' first
    | with_reducible exact h
    | split
    | dsimp only
    | with_reducible refine OnlyParts.set_img m_img ?_

theorem State.boot_parts {P : List Part} {s t : State} {a1}
    (hP : [.freeCtr, .regs, .ctrs, .highLatch, .cmd, .sec, .flt, .thm, .glb, .img, .tim, .loopA, .loopB,
      .loopS, .drv, .adc, .mtx, .cal, .red, .acq, .slt, .brt, .pkts, .nextPkt, .ports, .chips, .xing] ⊆ P)
    (h : OnlyParts P s t) :
    OnlyParts P s (State.boot t a1) := by
  have m_img : Part.img ∈ P := hP (by decide)
  have m_glb : Part.glb ∈ P := hP (by decide)
  have h0 : ([.freeCtr, .regs, .ctrs, .highLatch, .cmd, .sec, .flt, .thm, .glb, .img, .tim, .loopA, .loopB,
    .loopS, .drv, .adc, .mtx, .cal, .red, .acq, .slt, .brt, .pkts, .nextPkt, .ports, .chips, .xing] : List Part) ⊆ P := List.Subset.trans (by decide) hP
  have h1 : ([.freeCtr, .glb] : List Part) ⊆ P := List.Subset.trans (by decide) hP
  have h2 : ([.regs, .cmd, .glb] : List Part) ⊆ P := List.Subset.trans (by decide) hP
  unfold State.boot
  repeat' first
    | with_reducible exact h
    | with_reducible refine State.applySections_parts h0 ?_
    | with_reducible refine State.stepEnd_parts h1 ?_
    | with_reducible refine State.setGState_parts h2 ?_
    | dsimp only
    | with_reducible refine OnlyParts.set_img m_img ?_
    | with_reducible refine OnlyParts.set_glb m_glb ?_
    | with_reducible refine OnlyParts.set_glb_img m_glb m_img ?_

theorem State.boundaryWork_parts {P : List Part} {s t : State}
    (hP : [.freeCtr, .loopA, .loopB, .loopS, .drv, .mtx] ⊆ P) (h : OnlyParts P s t) :
    OnlyParts P s (State.boundaryWork t) := by
  have h0 : ([.freeCtr, .loopA, .loopB, .loopS, .drv, .mtx] : List Part) ⊆ P := List.Subset.trans (by decide) hP
  have h1 : ([.freeCtr, .loopA, .loopB, .loopS] : List Part) ⊆ P := List.Subset.trans (by decide) hP
  unfold State.boundaryWork
  repeat' first
    | with_reducible exact h
    | with_reducible refine State.dueParks_parts h0 ?_
    | with_reducible refine State.spareEngines_parts h1 ?_
    | split

theorem State.changeModes_parts {P : List Part} {s t : State}
    (hP : [.regs, .loopA, .loopB, .loopS, .acq] ⊆ P) (h : OnlyParts P s t) :
    OnlyParts P s (State.changeModes t) := by
  have h0 : ([.loopA, .loopB] : List Part) ⊆ P := List.Subset.trans (by decide) hP
  have h1 : ([.acq] : List Part) ⊆ P := List.Subset.trans (by decide) hP
  have h2 : ([.regs, .loopA, .loopB, .loopS] : List Part) ⊆ P := List.Subset.trans (by decide) hP
  unfold State.changeModes
  repeat' first
    | with_reducible exact h
    | with_reducible refine State.applyModeDue_parts h0 ?_
    | with_reducible refine State.modeWatch_parts h1 ?_
    | with_reducible refine State.applyModeReq_parts h2 ?_

theorem State.chansAtBoundary_parts {P : List Part} {s t : State} (hP : [.drv] ⊆ P) (h : OnlyParts P s t) :
    OnlyParts P s (State.chansAtBoundary t) := by
  have m_drv : Part.drv ∈ P := hP (by decide)
  unfold State.chansAtBoundary
  repeat' first
    | with_reducible exact h
    | dsimp only
    | with_reducible refine OnlyParts.set_drv m_drv ?_

theorem State.claim_parts {P : List Part} {s t : State} {a1} (hP : [.slt] ⊆ P) (h : OnlyParts P s t) :
    OnlyParts P s (State.claim t a1) := by
  have m_slt : Part.slt ∈ P := hP (by decide)
  unfold State.claim
  repeat' first
    | with_reducible exact h
    | split
    | dsimp only
    | with_reducible refine OnlyParts.set_slt m_slt ?_

theorem State.compareLevels_parts {P : List Part} {s t : State}
    (hP : [.regs, .ctrs, .cmd, .red] ⊆ P) (h : OnlyParts P s t) :
    OnlyParts P s (State.compareLevels t) := by
  have h0 : ([.regs, .ctrs, .cmd, .red] : List Part) ⊆ P := List.Subset.trans (by decide) hP
  unfold State.compareLevels
  repeat' first
    | with_reducible exact h
    | with_reducible refine State.mismatch_parts h0 ?_
    | with_reducible assumption
    | with_reducible refine OnlyParts.foldl (fun _ _ _ => ?_) ?_
    | with_reducible refine OnlyParts.foldl_fst (fun _ _ _ => ?_) ?_
    | split

theorem State.connectSlot_parts {P : List Part} {s t : State} (hP : [.slt] ⊆ P) (h : OnlyParts P s t) :
    OnlyParts P s (State.connectSlot t) := by
  have m_slt : Part.slt ∈ P := hP (by decide)
  unfold State.connectSlot
  repeat' first
    | with_reducible exact h
    | split
    | dsimp only
    | with_reducible refine OnlyParts.set_slt m_slt ?_

theorem State.coreReset_parts {P : List Part} {s t : State} {a1}
    (hP : [.regs, .ctrs, .ports] ⊆ P) (h : OnlyParts P s t) :
    OnlyParts P s (State.coreReset t a1) := by
  have m_ctrs : Part.ctrs ∈ P := hP (by decide)
  have m_regs : Part.regs ∈ P := hP (by decide)
  have h0 : ([.ports] : List Part) ⊆ P := List.Subset.trans (by decide) hP
  unfold State.coreReset
  repeat' first
    | with_reducible exact h
    | with_reducible refine State.setPort_parts h0 ?_
    | with_reducible assumption
    | with_reducible refine OnlyParts.foldl (fun _ _ _ => ?_) ?_
    | with_reducible refine OnlyParts.foldl_fst (fun _ _ _ => ?_) ?_
    | dsimp only
    | with_reducible refine OnlyParts.set_ctrs m_ctrs ?_
    | with_reducible refine OnlyParts.set_regs m_regs ?_
    | with_reducible refine OnlyParts.set_regs_ctrs m_regs m_ctrs ?_

theorem State.repairPage_parts {P : List Part} {s t : State} {a1} (hP : [.chips] ⊆ P) (h : OnlyParts P s t) :
    OnlyParts P s (State.repairPage t a1) := by
  have h0 : ([.chips] : List Part) ⊆ P := List.Subset.trans (by decide) hP
  unfold State.repairPage
  repeat' first
    | with_reducible exact h
    | with_reducible refine State.setChip_parts h0 ?_

theorem State.trainStack_parts {P : List Part} {s t : State} {a1} (hP : [.chips] ⊆ P) (h : OnlyParts P s t) :
    OnlyParts P s (State.trainStack t a1) := by
  have h0 : ([.chips] : List Part) ⊆ P := List.Subset.trans (by decide) hP
  unfold State.trainStack
  repeat' first
    | with_reducible exact h
    | with_reducible refine State.fillMeters_parts h0 ?_
    | with_reducible refine State.setChip_parts h0 ?_
    | split

theorem State.reapply_parts {P : List Part} {s t : State} {a1}
    (hP : [.freeCtr, .regs, .ctrs, .highLatch, .cmd, .sec, .flt, .thm, .glb, .img, .tim, .loopA, .loopB,
      .loopS, .drv, .adc, .mtx, .cal, .red, .acq, .slt, .brt, .pkts, .nextPkt, .ports, .chips, .xing] ⊆ P)
    (h : OnlyParts P s t) :
    OnlyParts P s (State.reapply t a1) := by
  have m_img : Part.img ∈ P := hP (by decide)
  have h0 : ([.chips] : List Part) ⊆ P := List.Subset.trans (by decide) hP
  have h1 : ([.ports] : List Part) ⊆ P := List.Subset.trans (by decide) hP
  have h2 : ([.regs] : List Part) ⊆ P := List.Subset.trans (by decide) hP
  have h3 : ([.freeCtr, .regs, .ctrs, .highLatch, .cmd, .sec, .flt, .thm, .glb, .img, .tim, .loopA, .loopB,
    .loopS, .drv, .adc, .mtx, .cal, .red, .acq, .slt, .brt, .pkts, .nextPkt, .ports, .chips, .xing] : List Part) ⊆ P := List.Subset.trans (by decide) hP
  unfold State.reapply
  repeat' first
    | with_reducible exact h
    | with_reducible refine State.applyUcodeAt_parts h0 ?_
    | with_reducible refine State.applyLane_parts h1 ?_
    | with_reducible refine State.applyQueuesAt_parts h2 ?_
    | with_reducible refine State.applyPort_parts h2 ?_
    | with_reducible refine State.applyPair_parts h3 ?_
    | with_reducible assumption
    | with_reducible refine OnlyParts.foldl (fun _ _ _ => ?_) ?_
    | with_reducible refine OnlyParts.foldl_fst (fun _ _ _ => ?_) ?_
    | split
    | dsimp only
    | with_reducible refine OnlyParts.set_img m_img ?_

theorem State.coreRestarts_parts {P : List Part} {s t : State} {a1 a2}
    (hP : [.freeCtr, .regs, .ctrs, .highLatch, .cmd, .sec, .flt, .thm, .glb, .img, .tim, .loopA, .loopB,
      .loopS, .drv, .adc, .mtx, .cal, .red, .acq, .slt, .brt, .pkts, .nextPkt, .ports, .chips, .xing] ⊆ P)
    (h : OnlyParts P s t) :
    OnlyParts P s (State.coreRestarts t a1 a2) := by
  have m_brt : Part.brt ∈ P := hP (by decide)
  have m_glb : Part.glb ∈ P := hP (by decide)
  have h0 : ([.regs, .ctrs, .ports] : List Part) ⊆ P := List.Subset.trans (by decide) hP
  have h1 : ([.chips] : List Part) ⊆ P := List.Subset.trans (by decide) hP
  have h2 : ([.regs, .ctrs, .cmd, .slt, .brt, .pkts, .ports,
    .chips] : List Part) ⊆ P := List.Subset.trans (by decide) hP
  have h3 : ([.freeCtr, .regs, .ctrs, .highLatch, .cmd, .sec, .flt, .thm, .glb, .img, .tim, .loopA, .loopB,
    .loopS, .drv, .adc, .mtx, .cal, .red, .acq, .slt, .brt, .pkts, .nextPkt, .ports, .chips, .xing] : List Part) ⊆ P := List.Subset.trans (by decide) hP
  unfold State.coreRestarts
  repeat' first
    | with_reducible exact h
    | with_reducible refine State.coreReset_parts h0 ?_
    | with_reducible refine State.fillMeters_parts h1 ?_
    | with_reducible refine State.applyPages_parts h1 ?_
    | with_reducible refine State.repairPage_parts h1 ?_
    | with_reducible refine State.trainStack_parts h1 ?_
    | with_reducible refine State.epochsOf_parts h2 ?_
    | with_reducible refine State.setChip_parts h1 ?_
    | with_reducible refine State.reapply_parts h3 ?_
    | with_reducible assumption
    | with_reducible refine OnlyParts.foldl (fun _ _ _ => ?_) ?_
    | with_reducible refine OnlyParts.foldl_fst (fun _ _ _ => ?_) ?_
    | dsimp only
    | with_reducible refine OnlyParts.set_brt m_brt ?_
    | with_reducible refine OnlyParts.set_glb m_glb ?_

theorem State.coreUp_parts {P : List Part} {s t : State} {a1}
    (hP : [.ctrs, .flt, .glb, .brt, .pkts, .chips] ⊆ P) (h : OnlyParts P s t) :
    OnlyParts P s (State.coreUp t a1) := by
  have h0 : ([.ctrs, .flt, .brt, .pkts, .chips] : List Part) ⊆ P := List.Subset.trans (by decide) hP
  have h1 : ([.glb] : List Part) ⊆ P := List.Subset.trans (by decide) hP
  unfold State.coreUp
  repeat' first
    | with_reducible exact h
    | with_reducible refine State.chipletLoss_parts h0 ?_
    | with_reducible refine State.setDom_parts h1 ?_
    | split

theorem State.trainingEnds_parts {P : List Part} {s t : State} {a1}
    (hP : [.freeCtr, .regs, .ctrs, .sec, .flt, .glb, .img, .adc, .mtx, .brt, .pkts, .ports, .chips] ⊆ P)
    (h : OnlyParts P s t) :
    OnlyParts P s (State.trainingEnds t a1) := by
  have h0 : ([.chips] : List Part) ⊆ P := List.Subset.trans (by decide) hP
  have h1 : ([.ctrs, .flt, .adc, .mtx, .ports, .chips] : List Part) ⊆ P := List.Subset.trans (by decide) hP
  have h2 : ([.regs, .ctrs, .sec, .flt, .img, .brt, .pkts, .ports,
    .chips] : List Part) ⊆ P := List.Subset.trans (by decide) hP
  have h3 : ([.freeCtr, .glb] : List Part) ⊆ P := List.Subset.trans (by decide) hP
  unfold State.trainingEnds
  repeat' first
    | with_reducible exact h
    | with_reducible refine State.repairPage_parts h0 ?_
    | with_reducible refine State.trainStack_parts h0 ?_
    | with_reducible refine State.applyRepairMap_parts h1 ?_
    | with_reducible refine State.zeroize_parts h2 ?_
    | with_reducible refine State.stepEnd_parts h3 ?_
    | with_reducible assumption
    | with_reducible refine OnlyParts.foldl (fun _ _ _ => ?_) ?_
    | with_reducible refine OnlyParts.foldl_fst (fun _ _ _ => ?_) ?_
    | split
    | dsimp only

theorem State.dramTrained_parts {P : List Part} {s t : State} {a1}
    (hP : [.freeCtr, .regs, .ctrs, .highLatch, .cmd, .sec, .flt, .thm, .glb, .img, .tim, .loopA, .loopB,
      .loopS, .drv, .adc, .mtx, .cal, .red, .acq, .slt, .brt, .pkts, .nextPkt, .ports, .chips, .xing] ⊆ P)
    (h : OnlyParts P s t) :
    OnlyParts P s (State.dramTrained t a1) := by
  have h0 : ([.freeCtr, .regs, .ctrs, .highLatch, .cmd, .sec, .flt, .thm, .glb, .img, .tim, .loopA, .loopB,
    .loopS, .drv, .adc, .mtx, .cal, .red, .acq, .slt, .brt, .pkts, .nextPkt, .ports, .chips, .xing] : List Part) ⊆ P := List.Subset.trans (by decide) hP
  have h1 : ([.freeCtr, .regs, .ctrs, .sec, .flt, .glb, .img, .adc, .mtx, .brt, .pkts, .ports,
    .chips] : List Part) ⊆ P := List.Subset.trans (by decide) hP
  unfold State.dramTrained
  repeat' first
    | with_reducible exact h
    | with_reducible refine State.coreRestarts_parts h0 ?_
    | with_reducible refine State.trainingEnds_parts h1 ?_
    | split

theorem State.emittersNominal_parts {P : List Part} {s t : State} {a1}
    (hP : [.ctrs, .flt, .mtx] ⊆ P) (h : OnlyParts P s t) :
    OnlyParts P s (State.emittersNominal t a1) := by
  have h0 : ([.mtx] : List Part) ⊆ P := List.Subset.trans (by decide) hP
  have h1 : ([.ctrs, .flt, .mtx] : List Part) ⊆ P := List.Subset.trans (by decide) hP
  unfold State.emittersNominal
  repeat' first
    | with_reducible exact h
    | with_reducible refine State.warmSpare_parts h0 ?_
    | with_reducible refine State.setEmitter_parts h0 ?_
    | with_reducible refine State.updateDark_parts h1 ?_
    | with_reducible assumption
    | with_reducible refine OnlyParts.foldl (fun _ _ _ => ?_) ?_
    | with_reducible refine OnlyParts.foldl_fst (fun _ _ _ => ?_) ?_
    | split
    | dsimp only

theorem State.emittersUp_parts {P : List Part} {s t : State} {a1}
    (hP : [.ctrs, .flt, .mtx] ⊆ P) (h : OnlyParts P s t) :
    OnlyParts P s (State.emittersUp t a1) := by
  have h0 : ([.mtx] : List Part) ⊆ P := List.Subset.trans (by decide) hP
  have h1 : ([.ctrs, .flt, .mtx] : List Part) ⊆ P := List.Subset.trans (by decide) hP
  unfold State.emittersUp
  repeat' first
    | with_reducible exact h
    | with_reducible refine State.setBank_parts h0 ?_
    | with_reducible refine State.setEmitter_parts h0 ?_
    | with_reducible refine State.updateDark_parts h1 ?_
    | with_reducible assumption
    | with_reducible refine OnlyParts.foldl (fun _ _ _ => ?_) ?_

theorem State.every256_parts {P : List Part} {s t : State} (hP : [.cal, .red] ⊆ P) (h : OnlyParts P s t) :
    OnlyParts P s (State.every256 t) := by
  have h0 : ([.red] : List Part) ⊆ P := List.Subset.trans (by decide) hP
  have h1 : ([.cal] : List Part) ⊆ P := List.Subset.trans (by decide) hP
  unfold State.every256
  repeat' first
    | with_reducible exact h
    | with_reducible refine State.healthReport_parts h0 ?_
    | with_reducible refine State.updateCalTemp_parts h1 ?_
    | split

theorem State.freshSlot_parts {P : List Part} {s t : State} {a1}
    (hP : [.regs, .ctrs, .cmd, .slt] ⊆ P) (h : OnlyParts P s t) :
    OnlyParts P s (State.freshSlot t a1).1 := by
  have m_slt : Part.slt ∈ P := hP (by decide)
  have h0 : ([.ctrs, .slt] : List Part) ⊆ P := List.Subset.trans (by decide) hP
  have h1 : ([.regs, .ctrs, .cmd, .slt] : List Part) ⊆ P := List.Subset.trans (by decide) hP
  unfold State.freshSlot
  repeat' first
    | with_reducible exact h
    | with_reducible refine State.handOver_parts h0 ?_
    | with_reducible refine State.routeWork_parts h1 ?_
    | split
    | dsimp only
    | with_reducible refine OnlyParts.set_slt m_slt ?_

theorem State.freshSlot_parts_eq {P : List Part} {s t v : State} {a1} {x1 x2 x3}
    (hP : [.regs, .ctrs, .cmd, .slt] ⊆ P) (e : State.freshSlot t a1 = (v, x1, x2, x3)) (h : OnlyParts P s t) :
    OnlyParts P s v := by
  have := State.freshSlot_parts (P := P) (s := s) (a1 := a1) hP h
  rw [e] at this
  exact this

theorem State.holdStep_parts {P : List Part} {s t : State} {a1} (hP : [.slt, .brt] ⊆ P) (h : OnlyParts P s t) :
    OnlyParts P s (State.holdStep t a1) := by
  have h0 : ([.slt, .brt] : List Part) ⊆ P := List.Subset.trans (by decide) hP
  unfold State.holdStep
  repeat' first
    | with_reducible exact h
    | with_reducible refine State.beginSafeHold_parts h0 ?_
    | with_reducible refine State.setHold_parts h0 ?_
    | split
    | dsimp only

theorem State.takeSlot_parts {P : List Part} {s t : State} {a1}
    (hP : [.freeCtr, .regs, .ctrs, .cmd, .acq, .slt] ⊆ P) (h : OnlyParts P s t) :
    OnlyParts P s (State.takeSlot t a1).1 := by
  have m_slt : Part.slt ∈ P := hP (by decide)
  have h0 : ([.freeCtr, .regs, .ctrs, .cmd, .acq] : List Part) ⊆ P := List.Subset.trans (by decide) hP
  have h1 : ([.slt] : List Part) ⊆ P := List.Subset.trans (by decide) hP
  have h2 : ([.regs, .ctrs, .cmd] : List Part) ⊆ P := List.Subset.trans (by decide) hP
  have h3 : ([.regs, .ctrs, .cmd, .slt] : List Part) ⊆ P := List.Subset.trans (by decide) hP
  have h4 : ([.acq] : List Part) ⊆ P := List.Subset.trans (by decide) hP
  unfold State.takeSlot
  repeat' first
    | with_reducible exact h
    | with_reducible refine State.slotSampleAt_parts h0 ?_
    | with_reducible refine State.freezeBounds_parts h1 ?_
    | with_reducible refine State.countSlot_parts h2 ?_
    | with_reducible refine State.freshSlot_parts h3 ?_
    | with_reducible refine State.freshSlot_parts_eq h3 (by assumption) ?_
    | with_reducible refine State.event_parts h4 ?_
    | with_reducible assumption
    | with_reducible refine OnlyParts.foldl (fun _ _ _ => ?_) ?_
    | with_reducible refine OnlyParts.foldl_fst (fun _ _ _ => ?_) ?_
    | split
    | dsimp only
    | with_reducible refine OnlyParts.set_slt m_slt ?_

theorem State.takeSlot_parts_eq {P : List Part} {s t v : State} {a1} {x1 x2}
    (hP : [.freeCtr, .regs, .ctrs, .cmd, .acq, .slt] ⊆ P) (e : State.takeSlot t a1 = (v, x1, x2))
    (h : OnlyParts P s t) :
    OnlyParts P s v := by
  have := State.takeSlot_parts (P := P) (s := s) (a1 := a1) hP h
  rw [e] at this
  exact this

theorem State.guard_parts {P : List Part} {s t : State} {a1}
    (hP : [.freeCtr, .regs, .ctrs, .cmd, .flt, .loopA, .loopB, .loopS, .drv, .mtx, .cal, .red, .acq, .slt,
      .brt, .pkts, .ports, .chips] ⊆ P)
    (h : OnlyParts P s t) :
    OnlyParts P s (State.guard t a1) := by
  have m_drv : Part.drv ∈ P := hP (by decide)
  have h0 : ([.slt, .brt] : List Part) ⊆ P := List.Subset.trans (by decide) hP
  have h1 : ([.slt] : List Part) ⊆ P := List.Subset.trans (by decide) hP
  have h2 : ([.ctrs, .brt, .pkts, .chips] : List Part) ⊆ P := List.Subset.trans (by decide) hP
  have h3 : ([.freeCtr, .loopA, .loopB, .loopS, .drv, .mtx] : List Part) ⊆ P := List.Subset.trans (by decide) hP
  have h4 : ([.freeCtr, .regs, .ctrs, .flt, .loopS, .drv, .mtx] : List Part) ⊆ P := List.Subset.trans (by decide) hP
  have h5 : ([.brt] : List Part) ⊆ P := List.Subset.trans (by decide) hP
  have h6 : ([.freeCtr, .regs, .ctrs, .cmd, .acq, .slt] : List Part) ⊆ P := List.Subset.trans (by decide) hP
  have h7 : ([.drv] : List Part) ⊆ P := List.Subset.trans (by decide) hP
  have h8 : ([.freeCtr, .ctrs, .loopA, .loopB, .loopS, .drv,
    .cal] : List Part) ⊆ P := List.Subset.trans (by decide) hP
  have h9 : ([.brt, .pkts, .chips] : List Part) ⊆ P := List.Subset.trans (by decide) hP
  have h10 : ([.regs, .ctrs, .cmd, .red] : List Part) ⊆ P := List.Subset.trans (by decide) hP
  have h11 : ([.regs, .ctrs, .cmd, .flt, .slt, .brt, .pkts, .ports,
    .chips] : List Part) ⊆ P := List.Subset.trans (by decide) hP
  unfold State.guard
  repeat' first
    | with_reducible exact h
    | with_reducible refine State.holdStep_parts h0 ?_
    | with_reducible refine State.connectSlot_parts h1 ?_
    | with_reducible refine State.launch_parts h2 ?_
    | with_reducible refine State.dueParks_parts h3 ?_
    | with_reducible refine State.guardSpares_parts h4 ?_
    | with_reducible refine State.mirrorStep_parts h5 ?_
    | with_reducible refine State.takeSlot_parts h6 ?_
    | with_reducible refine State.takeSlot_parts_eq h6 (by assumption) ?_
    | with_reducible refine State.applySelects_parts h7 ?_
    | with_reducible refine State.applyStage_parts h8 ?_
    | with_reducible refine State.creditStep_parts h9 ?_
    | with_reducible refine State.compareLevels_parts h10 ?_
    | with_reducible refine State.applyLevels0_parts h7 ?_
    | with_reducible refine State.boundaries_parts h11 ?_
    | dsimp only
    | with_reducible refine OnlyParts.set_drv m_drv ?_

theorem State.heatersAtBoundary_parts {P : List Part} {s t : State} (hP : [.drv] ⊆ P) (h : OnlyParts P s t) :
    OnlyParts P s (State.heatersAtBoundary t) := by
  have h0 : ([.drv] : List Part) ⊆ P := List.Subset.trans (by decide) hP
  unfold State.heatersAtBoundary
  repeat' first
    | with_reducible exact h
    | with_reducible refine State.applyHeaters_parts h0 ?_
    | split

theorem State.verifyFails_parts {P : List Part} {s t : State} {a1} (hP : [.img] ⊆ P) (h : OnlyParts P s t) :
    OnlyParts P s (State.verifyFails t a1) := by
  have m_img : Part.img ∈ P := hP (by decide)
  unfold State.verifyFails
  repeat' first
    | with_reducible exact h
    | dsimp only
    | with_reducible refine OnlyParts.set_img m_img ?_

theorem State.nextVerify_parts {P : List Part} {s t : State} (hP : [.img] ⊆ P) (h : OnlyParts P s t) :
    OnlyParts P s (State.nextVerify t) := by
  have m_img : Part.img ∈ P := hP (by decide)
  unfold State.nextVerify
  repeat' first
    | with_reducible exact h
    | split
    | dsimp only
    | with_reducible refine OnlyParts.set_img m_img ?_

theorem State.slotVerified_parts {P : List Part} {s t : State} {a1}
    (hP : [.freeCtr, .regs, .ctrs, .highLatch, .cmd, .sec, .flt, .thm, .glb, .img, .tim, .loopA, .loopB,
      .loopS, .drv, .adc, .mtx, .cal, .red, .acq, .slt, .brt, .pkts, .nextPkt, .ports, .chips, .xing] ⊆ P)
    (h : OnlyParts P s t) :
    OnlyParts P s (State.slotVerified t a1) := by
  have m_img : Part.img ∈ P := hP (by decide)
  have h0 : ([.img] : List Part) ⊆ P := List.Subset.trans (by decide) hP
  have h1 : ([.freeCtr, .regs, .ctrs, .highLatch, .cmd, .sec, .flt, .thm, .glb, .img, .tim, .loopA, .loopB,
    .loopS, .drv, .adc, .mtx, .cal, .red, .acq, .slt, .brt, .pkts, .nextPkt, .ports, .chips, .xing] : List Part) ⊆ P := List.Subset.trans (by decide) hP
  have h2 : ([.sec] : List Part) ⊆ P := List.Subset.trans (by decide) hP
  unfold State.slotVerified
  repeat' first
    | with_reducible exact h
    | with_reducible refine State.verifyFails_parts h0 ?_
    | with_reducible refine State.boot_parts h1 ?_
    | with_reducible refine State.audit_parts h2 ?_
    | with_reducible refine State.nextVerify_parts h0 ?_
    | split
    | dsimp only
    | with_reducible refine OnlyParts.set_img m_img ?_

theorem State.stagedVerified_parts {P : List Part} {s t : State}
    (hP : [.freeCtr, .regs, .ctrs, .highLatch, .cmd, .sec, .flt, .thm, .glb, .img, .tim, .loopA, .loopB,
      .loopS, .drv, .adc, .mtx, .cal, .red, .acq, .slt, .brt, .pkts, .nextPkt, .ports, .chips, .xing] ⊆ P)
    (h : OnlyParts P s t) :
    OnlyParts P s (State.stagedVerified t) := by
  have m_img : Part.img ∈ P := hP (by decide)
  have h0 : ([.img] : List Part) ⊆ P := List.Subset.trans (by decide) hP
  have h1 : ([.regs, .cmd] : List Part) ⊆ P := List.Subset.trans (by decide) hP
  have h2 : ([.freeCtr, .regs, .ctrs, .highLatch, .cmd, .sec, .flt, .thm, .glb, .img, .tim, .loopA, .loopB,
    .loopS, .drv, .adc, .mtx, .cal, .red, .acq, .slt, .brt, .pkts, .nextPkt, .ports, .chips, .xing] : List Part) ⊆ P := List.Subset.trans (by decide) hP
  have h3 : ([.sec] : List Part) ⊆ P := List.Subset.trans (by decide) hP
  unfold State.stagedVerified
  repeat' first
    | with_reducible exact h
    | with_reducible refine State.verifyFails_parts h0 ?_
    | with_reducible refine State.imgIrq_parts h1 ?_
    | with_reducible refine State.boot_parts h2 ?_
    | with_reducible refine State.audit_parts h3 ?_
    | split
    | dsimp only
    | with_reducible refine OnlyParts.set_img m_img ?_

theorem State.imageVerified_parts {P : List Part} {s t : State}
    (hP : [.freeCtr, .regs, .ctrs, .highLatch, .cmd, .sec, .flt, .thm, .glb, .img, .tim, .loopA, .loopB,
      .loopS, .drv, .adc, .mtx, .cal, .red, .acq, .slt, .brt, .pkts, .nextPkt, .ports, .chips, .xing] ⊆ P)
    (h : OnlyParts P s t) :
    OnlyParts P s (State.imageVerified t) := by
  have h0 : ([.freeCtr, .regs, .ctrs, .highLatch, .cmd, .sec, .flt, .thm, .glb, .img, .tim, .loopA, .loopB,
    .loopS, .drv, .adc, .mtx, .cal, .red, .acq, .slt, .brt, .pkts, .nextPkt, .ports, .chips, .xing] : List Part) ⊆ P := List.Subset.trans (by decide) hP
  unfold State.imageVerified
  repeat' first
    | with_reducible exact h
    | with_reducible refine State.slotVerified_parts h0 ?_
    | with_reducible refine State.stagedVerified_parts h0 ?_
    | split

theorem State.latchLevel_parts {P : List Part} {s t : State} {a1} (hP : [.drv] ⊆ P) (h : OnlyParts P s t) :
    OnlyParts P s (State.latchLevel t a1) := by
  have h0 : ([.drv] : List Part) ⊆ P := List.Subset.trans (by decide) hP
  unfold State.latchLevel
  repeat' first
    | with_reducible exact h
    | with_reducible refine State.setChan_parts h0 ?_
    | split

theorem State.latchLevels_parts {P : List Part} {s t : State} (hP : [.drv] ⊆ P) (h : OnlyParts P s t) :
    OnlyParts P s (State.latchLevels t) := by
  have m_drv : Part.drv ∈ P := hP (by decide)
  have h0 : ([.drv] : List Part) ⊆ P := List.Subset.trans (by decide) hP
  unfold State.latchLevels
  repeat' first
    | with_reducible exact h
    | with_reducible refine State.latchLevel_parts h0 ?_
    | with_reducible assumption
    | with_reducible refine OnlyParts.foldl (fun _ _ _ => ?_) ?_
    | with_reducible refine OnlyParts.foldl_fst (fun _ _ _ => ?_) ?_
    | split
    | dsimp only
    | with_reducible refine OnlyParts.set_drv m_drv ?_

theorem State.lockLimit_parts {P : List Part} {s t : State} {a1} (hP : [.ctrs, .flt] ⊆ P) (h : OnlyParts P s t) :
    OnlyParts P s (State.lockLimit t a1) := by
  have h0 : ([.ctrs, .flt] : List Part) ⊆ P := List.Subset.trans (by decide) hP
  unfold State.lockLimit
  repeat' first
    | with_reducible exact h
    | with_reducible refine State.raise_parts h0 ?_
    | split

theorem State.sampleBegins_parts {P : List Part} {s t : State}
    (hP : [.freeCtr, .regs, .flt, .img, .loopA, .loopB, .loopS, .drv, .adc, .mtx, .cal, .red, .acq, .slt] ⊆ P)
    (h : OnlyParts P s t) :
    OnlyParts P s (State.sampleBegins t) := by
  have m_flt : Part.flt ∈ P := hP (by decide)
  have m_img : Part.img ∈ P := hP (by decide)
  have m_loopS : Part.loopS ∈ P := hP (by decide)
  have h0 : ([.regs, .loopA, .loopB, .loopS, .acq] : List Part) ⊆ P := List.Subset.trans (by decide) hP
  have h1 : ([.regs, .drv] : List Part) ⊆ P := List.Subset.trans (by decide) hP
  have h2 : ([.drv] : List Part) ⊆ P := List.Subset.trans (by decide) hP
  have h3 : ([.adc, .acq] : List Part) ⊆ P := List.Subset.trans (by decide) hP
  have h4 : ([.loopS, .acq] : List Part) ⊆ P := List.Subset.trans (by decide) hP
  have h5 : ([.freeCtr, .loopA, .loopB, .loopS, .drv, .mtx] : List Part) ⊆ P := List.Subset.trans (by decide) hP
  have h6 : ([.loopS, .cal, .slt] : List Part) ⊆ P := List.Subset.trans (by decide) hP
  have h7 : ([.cal, .red] : List Part) ⊆ P := List.Subset.trans (by decide) hP
  unfold State.sampleBegins
  repeat' first
    | with_reducible exact h
    | with_reducible refine State.changeModes_parts h0 ?_
    | with_reducible refine State.applyRangeReq_parts h1 ?_
    | with_reducible refine State.heatersAtBoundary_parts h2 ?_
    | with_reducible refine State.lendBoundary_parts h3 ?_
    | with_reducible refine State.latchLevels_parts h2 ?_
    | with_reducible refine State.coeffBankSwap_parts h4 ?_
    | with_reducible refine State.boundaryWork_parts h5 ?_
    | with_reducible refine State.nameStage_parts h6 ?_
    | with_reducible refine State.every256_parts h7 ?_
    | with_reducible assumption
    | with_reducible refine OnlyParts.foldl (fun _ _ _ => ?_) ?_
    | with_reducible refine OnlyParts.foldl_fst (fun _ _ _ => ?_) ?_
    | dsimp only
    | with_reducible refine OnlyParts.set_flt m_flt ?_
    | with_reducible refine OnlyParts.set_img m_img ?_
    | with_reducible refine OnlyParts.set_loopS m_loopS ?_
    | with_reducible refine OnlyParts.set_flt_img_loopS m_flt m_img m_loopS ?_

theorem State.sampleEnds_parts {P : List Part} {s t : State}
    (hP : [.freeCtr, .regs, .ctrs, .cmd, .flt, .loopA, .loopB, .drv, .adc, .mtx, .cal, .red, .acq] ⊆ P)
    (h : OnlyParts P s t) :
    OnlyParts P s (State.sampleEnds t) := by
  have h0 : ([.mtx] : List Part) ⊆ P := List.Subset.trans (by decide) hP
  have h1 : ([.drv] : List Part) ⊆ P := List.Subset.trans (by decide) hP
  have h2 : ([.loopA, .loopB, .red] : List Part) ⊆ P := List.Subset.trans (by decide) hP
  have h3 : ([.freeCtr, .regs, .ctrs, .cmd, .flt, .red, .acq] : List Part) ⊆ P := List.Subset.trans (by decide) hP
  have h4 : ([.ctrs, .flt, .loopA, .loopB, .drv, .mtx, .cal] : List Part) ⊆ P := List.Subset.trans (by decide) hP
  have h5 : ([.freeCtr, .regs, .ctrs, .cmd, .acq] : List Part) ⊆ P := List.Subset.trans (by decide) hP
  have h6 : ([.freeCtr, .regs, .ctrs, .cmd, .flt, .adc, .acq] : List Part) ⊆ P := List.Subset.trans (by decide) hP
  have h7 : ([.loopA, .loopB] : List Part) ⊆ P := List.Subset.trans (by decide) hP
  unfold State.sampleEnds
  repeat' first
    | with_reducible exact h
    | with_reducible refine State.emitterRuns_parts h0 ?_
    | with_reducible refine State.chansAtBoundary_parts h1 ?_
    | with_reducible refine State.sendCopy_parts h2 ?_
    | with_reducible refine State.compareEnd_parts h3 ?_
    | with_reducible refine State.fullSample_parts h4 ?_
    | with_reducible refine State.loopSampleAt_parts h5 ?_
    | with_reducible refine State.lateUnits_parts h6 ?_
    | with_reducible refine State.spoilProbes_parts h7 ?_
    | with_reducible assumption
    | with_reducible refine OnlyParts.foldl (fun _ _ _ => ?_) ?_

theorem State.loopSampleBoundary_parts {P : List Part} {s t : State}
    (hP : [.freeCtr, .regs, .ctrs, .cmd, .flt, .img, .tim, .loopA, .loopB, .loopS, .drv, .adc, .mtx, .cal,
      .red, .acq, .slt] ⊆ P)
    (h : OnlyParts P s t) :
    OnlyParts P s (State.loopSampleBoundary t) := by
  have h0 : ([.tim] : List Part) ⊆ P := List.Subset.trans (by decide) hP
  have h1 : ([.freeCtr, .regs, .flt, .img, .loopA, .loopB, .loopS, .drv, .adc, .mtx, .cal, .red, .acq,
    .slt] : List Part) ⊆ P := List.Subset.trans (by decide) hP
  have h2 : ([.freeCtr, .regs, .ctrs, .cmd, .flt, .loopA, .loopB, .drv, .adc, .mtx, .cal, .red,
    .acq] : List Part) ⊆ P := List.Subset.trans (by decide) hP
  unfold State.loopSampleBoundary
  repeat' first
    | with_reducible exact h
    | with_reducible refine State.atPhase_parts h0 ?_
    | with_reducible refine State.sampleBegins_parts h1 ?_
    | with_reducible refine State.sampleEnds_parts h2 ?_

theorem State.lowPowerEnd_parts {P : List Part} {s t : State} {a1}
    (hP : [.freeCtr, .regs, .ctrs, .flt, .loopS, .drv, .mtx] ⊆ P) (h : OnlyParts P s t) :
    OnlyParts P s (State.lowPowerEnd t a1) := by
  have h0 : ([.ctrs, .flt, .mtx] : List Part) ⊆ P := List.Subset.trans (by decide) hP
  have h1 : ([.freeCtr, .regs, .ctrs, .flt, .loopS, .drv, .mtx] : List Part) ⊆ P := List.Subset.trans (by decide) hP
  have h2 : ([.regs, .ctrs, .flt, .mtx] : List Part) ⊆ P := List.Subset.trans (by decide) hP
  unfold State.lowPowerEnd
  repeat' first
    | with_reducible exact h
    | with_reducible refine State.emittersUp_parts h0 ?_
    | with_reducible refine State.spareTakeover_parts h1 ?_
    | with_reducible refine State.emitterFail_parts h2 ?_
    | with_reducible assumption
    | with_reducible refine OnlyParts.foldl (fun _ _ _ => ?_) ?_
    | with_reducible refine OnlyParts.foldl_fst (fun _ _ _ => ?_) ?_
    | split
    | dsimp only

theorem State.startRunning_parts {P : List Part} {s t : State}
    (hP : [.freeCtr, .regs, .cmd, .glb, .tim, .slt] ⊆ P) (h : OnlyParts P s t) :
    OnlyParts P s (State.startRunning t) := by
  have m_slt : Part.slt ∈ P := hP (by decide)
  have m_tim : Part.tim ∈ P := hP (by decide)
  have h0 : ([.regs, .cmd] : List Part) ⊆ P := List.Subset.trans (by decide) hP
  have h1 : ([.freeCtr, .glb] : List Part) ⊆ P := List.Subset.trans (by decide) hP
  unfold State.startRunning
  repeat' first
    | with_reducible exact h
    | with_reducible refine State.irqIf_parts h0 ?_
    | with_reducible refine State.stepEnd_parts h1 ?_
    | dsimp only
    | with_reducible refine OnlyParts.set_slt m_slt ?_
    | with_reducible refine OnlyParts.set_tim m_tim ?_
    | with_reducible refine OnlyParts.set_tim_slt m_tim m_slt ?_

theorem State.nextSlot_parts {P : List Part} {s t : State} {a1}
    (hP : [.freeCtr, .regs, .cmd, .glb, .tim, .slt] ⊆ P) (h : OnlyParts P s t) :
    OnlyParts P s (State.nextSlot t a1) := by
  have m_slt : Part.slt ∈ P := hP (by decide)
  have h0 : ([.freeCtr, .regs, .cmd, .glb, .tim, .slt] : List Part) ⊆ P := List.Subset.trans (by decide) hP
  unfold State.nextSlot
  repeat' first
    | with_reducible exact h
    | with_reducible refine State.startRunning_parts h0 ?_
    | split
    | dsimp only
    | with_reducible refine OnlyParts.set_slt m_slt ?_

theorem State.stepEight_parts {P : List Part} {s t : State} {a1}
    (hP : [.freeCtr, .regs, .ctrs, .cmd, .flt, .glb, .tim, .loopA, .loopB, .loopS, .drv, .cal, .acq, .slt,
      .brt, .ports] ⊆ P)
    (h : OnlyParts P s t) :
    OnlyParts P s (State.stepEight t a1) := by
  have h0 : ([.drv, .cal] : List Part) ⊆ P := List.Subset.trans (by decide) hP
  have h1 : ([.freeCtr, .cal] : List Part) ⊆ P := List.Subset.trans (by decide) hP
  have h2 : ([.cal] : List Part) ⊆ P := List.Subset.trans (by decide) hP
  have h3 : ([.ctrs, .flt, .cal] : List Part) ⊆ P := List.Subset.trans (by decide) hP
  have h4 : ([.regs, .cmd, .glb, .tim, .loopS, .drv, .cal, .slt, .brt,
    .ports] : List Part) ⊆ P := List.Subset.trans (by decide) hP
  have h5 : ([.freeCtr, .glb] : List Part) ⊆ P := List.Subset.trans (by decide) hP
  have h6 : ([.regs, .cmd, .glb, .loopA, .loopB, .loopS, .acq] : List Part) ⊆ P := List.Subset.trans (by decide) hP
  have h7 : ([.regs, .cmd, .loopA, .loopB, .drv, .cal] : List Part) ⊆ P := List.Subset.trans (by decide) hP
  unfold State.stepEight
  repeat' first
    | with_reducible exact h
    | with_reducible refine State.loadLatest_parts h0 ?_
    | with_reducible refine State.calAdc_parts h1 ?_
    | with_reducible refine State.updateCalTemp_parts h2 ?_
    | with_reducible refine State.checkSets_parts h3 ?_
    | with_reducible refine State.beginFull_parts h4 ?_
    | with_reducible refine State.stepEnd_parts h5 ?_
    | with_reducible refine State.enterLocking_parts h6 ?_
    | with_reducible refine State.interpolate_parts h7 ?_
    | with_reducible assumption
    | with_reducible refine OnlyParts.foldl (fun _ _ _ => ?_) ?_
    | with_reducible refine OnlyParts.foldl_fst (fun _ _ _ => ?_) ?_
    | split
    | dsimp only

theorem State.nominal_parts {P : List Part} {s t : State} {a1}
    (hP : [.freeCtr, .regs, .ctrs, .cmd, .flt, .glb, .tim, .loopA, .loopB, .loopS, .drv, .mtx, .cal, .acq,
      .slt, .brt, .ports] ⊆ P)
    (h : OnlyParts P s t) :
    OnlyParts P s (State.nominal t a1) := by
  have m_glb : Part.glb ∈ P := hP (by decide)
  have h0 : ([.freeCtr, .regs, .ctrs, .cmd, .flt, .glb, .tim, .loopA, .loopB, .loopS, .drv, .cal, .acq, .slt,
    .brt, .ports] : List Part) ⊆ P := List.Subset.trans (by decide) hP
  have h1 : ([.ctrs, .flt, .mtx] : List Part) ⊆ P := List.Subset.trans (by decide) hP
  have h2 : ([.freeCtr, .glb] : List Part) ⊆ P := List.Subset.trans (by decide) hP
  unfold State.nominal
  repeat' first
    | with_reducible exact h
    | with_reducible refine State.stepEight_parts h0 ?_
    | with_reducible refine State.emittersNominal_parts h1 ?_
    | with_reducible refine State.stepEnd_parts h2 ?_
    | with_reducible assumption
    | with_reducible refine OnlyParts.foldl (fun _ _ _ => ?_) ?_
    | with_reducible refine OnlyParts.foldl_fst (fun _ _ _ => ?_) ?_
    | split
    | dsimp only
    | with_reducible refine OnlyParts.set_glb m_glb ?_

theorem State.pipeline_parts {P : List Part} {s t : State} {a1} (hP : [.ctrs, .slt] ⊆ P) (h : OnlyParts P s t) :
    OnlyParts P s (State.pipeline t a1) := by
  have h0 : ([.ctrs, .slt] : List Part) ⊆ P := List.Subset.trans (by decide) hP
  have h1 : ([.slt] : List Part) ⊆ P := List.Subset.trans (by decide) hP
  unfold State.pipeline
  repeat' first
    | with_reducible exact h
    | with_reducible refine State.handOver_parts h0 ?_
    | with_reducible refine State.beginWork_parts h1 ?_
    | with_reducible refine State.claim_parts h1 ?_
    | split
    | dsimp only

theorem State.pllHeld_parts {P : List Part} {s t : State} {a1}
    (hP : [.freeCtr, .regs, .cmd, .sec, .glb, .img] ⊆ P) (h : OnlyParts P s t) :
    OnlyParts P s (State.pllHeld t a1) := by
  have m_glb : Part.glb ∈ P := hP (by decide)
  have m_sec : Part.sec ∈ P := hP (by decide)
  have h0 : ([.sec] : List Part) ⊆ P := List.Subset.trans (by decide) hP
  have h1 : ([.freeCtr, .glb] : List Part) ⊆ P := List.Subset.trans (by decide) hP
  have h2 : ([.img] : List Part) ⊆ P := List.Subset.trans (by decide) hP
  have h3 : ([.regs, .cmd, .glb] : List Part) ⊆ P := List.Subset.trans (by decide) hP
  unfold State.pllHeld
  repeat' first
    | with_reducible exact h
    | with_reducible refine State.auditPartial_parts h0 ?_
    | with_reducible refine State.stepEnd_parts h1 ?_
    | with_reducible refine State.beginBoot_parts h2 ?_
    | with_reducible refine State.setGState_parts h3 ?_
    | split
    | dsimp only
    | with_reducible refine OnlyParts.set_glb m_glb ?_
    | with_reducible refine OnlyParts.set_sec m_sec ?_
    | with_reducible refine OnlyParts.set_sec_glb m_sec m_glb ?_

theorem State.powerStep_parts {P : List Part} {s t : State} (hP : [.freeCtr, .glb] ⊆ P) (h : OnlyParts P s t) :
    OnlyParts P s (State.powerStep t) := by
  have m_glb : Part.glb ∈ P := hP (by decide)
  have h0 : ([.freeCtr, .glb] : List Part) ⊆ P := List.Subset.trans (by decide) hP
  unfold State.powerStep
  repeat' first
    | with_reducible exact h
    | with_reducible refine State.stepEnd_parts h0 ?_
    | split
    | dsimp only
    | with_reducible refine OnlyParts.set_glb m_glb ?_

theorem State.powerGood_parts {P : List Part} {s t : State} {a1}
    (hP : [.freeCtr, .ctrs, .flt, .glb, .brt, .pkts, .chips] ⊆ P) (h : OnlyParts P s t) :
    OnlyParts P s (State.powerGood t a1) := by
  have h0 : ([.freeCtr, .glb] : List Part) ⊆ P := List.Subset.trans (by decide) hP
  have h1 : ([.ctrs, .flt, .glb, .brt, .pkts, .chips] : List Part) ⊆ P := List.Subset.trans (by decide) hP
  unfold State.powerGood
  repeat' first
    | with_reducible exact h
    | with_reducible refine State.powerStep_parts h0 ?_
    | with_reducible refine State.coreUp_parts h1 ?_
    | split

theorem State.staysOff_parts {P : List Part} {s t : State} {a1}
    (hP : [.regs, .ctrs, .flt, .glb, .mtx, .brt, .pkts, .ports, .chips, .xing] ⊆ P) (h : OnlyParts P s t) :
    OnlyParts P s (State.staysOff t a1) := by
  have m_glb : Part.glb ∈ P := hP (by decide)
  have h0 : ([.glb, .brt, .pkts, .ports, .chips, .xing] : List Part) ⊆ P := List.Subset.trans (by decide) hP
  have h1 : ([.regs, .ctrs, .flt, .glb, .mtx] : List Part) ⊆ P := List.Subset.trans (by decide) hP
  have h2 : ([.ctrs, .flt] : List Part) ⊆ P := List.Subset.trans (by decide) hP
  unfold State.staysOff
  repeat' first
    | with_reducible exact h
    | with_reducible refine State.loseLane_parts h0 ?_
    | with_reducible refine State.loseLasers_parts h1 ?_
    | with_reducible refine State.raiseSys_parts h2 ?_
    | split
    | dsimp only
    | with_reducible refine OnlyParts.set_glb m_glb ?_

theorem State.powerTimeout_parts {P : List Part} {s t : State} {a1}
    (hP : [.freeCtr, .regs, .ctrs, .flt, .glb, .mtx, .brt, .pkts, .ports, .chips, .xing] ⊆ P) (h : OnlyParts P s t) :
    OnlyParts P s (State.powerTimeout t a1) := by
  have h0 : ([.regs, .ctrs, .flt, .glb, .mtx, .brt, .pkts, .ports, .chips,
    .xing] : List Part) ⊆ P := List.Subset.trans (by decide) hP
  have h1 : ([.freeCtr, .glb] : List Part) ⊆ P := List.Subset.trans (by decide) hP
  have h2 : ([.ctrs, .flt] : List Part) ⊆ P := List.Subset.trans (by decide) hP
  unfold State.powerTimeout
  repeat' first
    | with_reducible exact h
    | with_reducible refine State.staysOff_parts h0 ?_
    | with_reducible refine State.powerStep_parts h1 ?_
    | with_reducible refine State.raisePwr_parts h2 ?_
    | split

theorem State.switchDiscard_parts {P : List Part} {s t : State} {a1}
    (hP : [.brt, .pkts, .chips] ⊆ P) (h : OnlyParts P s t) :
    OnlyParts P s (State.switchDiscard t a1) := by
  have h0 : ([.brt, .pkts, .chips] : List Part) ⊆ P := List.Subset.trans (by decide) hP
  unfold State.switchDiscard
  repeat' first
    | with_reducible exact h
    | with_reducible refine State.discardIngress_parts h0 ?_
    | split

theorem State.switchCalendar_parts {P : List Part} {s t : State} {a1} (hP : [.regs, .slt] ⊆ P) (h : OnlyParts P s t) :
    OnlyParts P s (State.switchCalendar t a1) := by
  have m_slt : Part.slt ∈ P := hP (by decide)
  have h0 : ([.regs] : List Part) ⊆ P := List.Subset.trans (by decide) hP
  unfold State.switchCalendar
  repeat' first
    | with_reducible exact h
    | with_reducible refine State.wrBit_parts h0 ?_
    | with_reducible refine State.putCalendar_parts h0 ?_
    | split
    | dsimp only
    | with_reducible refine OnlyParts.set_slt m_slt ?_

theorem State.restructureSwitch_parts {P : List Part} {s t : State}
    (hP : [.regs, .ctrs, .cmd, .sec, .glb, .img, .slt, .brt, .pkts, .ports, .chips] ⊆ P) (h : OnlyParts P s t) :
    OnlyParts P s (State.restructureSwitch t) := by
  have m_img : Part.img ∈ P := hP (by decide)
  have h0 : ([.ports] : List Part) ⊆ P := List.Subset.trans (by decide) hP
  have h1 : ([.slt] : List Part) ⊆ P := List.Subset.trans (by decide) hP
  have h2 : ([.regs, .cmd, .sec] : List Part) ⊆ P := List.Subset.trans (by decide) hP
  have h3 : ([.regs, .ctrs, .cmd, .slt, .brt, .pkts, .ports,
    .chips] : List Part) ⊆ P := List.Subset.trans (by decide) hP
  have h4 : ([.regs, .ports] : List Part) ⊆ P := List.Subset.trans (by decide) hP
  have h5 : ([.brt, .pkts, .chips] : List Part) ⊆ P := List.Subset.trans (by decide) hP
  have h6 : ([.regs, .slt] : List Part) ⊆ P := List.Subset.trans (by decide) hP
  have h7 : ([.regs, .cmd, .glb] : List Part) ⊆ P := List.Subset.trans (by decide) hP
  unfold State.restructureSwitch
  repeat' first
    | with_reducible exact h
    | with_reducible refine State.dropPorts_parts h0 ?_
    | with_reducible refine State.keepTenants_parts h1 ?_
    | with_reducible refine State.imgEnds_parts h2 ?_
    | with_reducible refine State.epochsAll_parts h3 ?_
    | with_reducible refine State.startAll_parts h4 ?_
    | with_reducible refine State.switchDiscard_parts h5 ?_
    | with_reducible refine State.switchCalendar_parts h6 ?_
    | with_reducible refine State.setGState_parts h7 ?_
    | with_reducible assumption
    | with_reducible refine OnlyParts.foldl (fun _ _ _ => ?_) ?_
    | with_reducible refine OnlyParts.foldl_fst (fun _ _ _ => ?_) ?_
    | split
    | dsimp only
    | with_reducible refine OnlyParts.set_img m_img ?_

theorem State.slotCalendar_parts {P : List Part} {s t : State}
    (hP : [.regs, .cmd, .acq, .slt] ⊆ P) (h : OnlyParts P s t) :
    OnlyParts P s (State.slotCalendar t) := by
  have m_slt : Part.slt ∈ P := hP (by decide)
  have h0 : ([.regs, .cmd, .acq, .slt] : List Part) ⊆ P := List.Subset.trans (by decide) hP
  unfold State.slotCalendar
  repeat' first
    | with_reducible exact h
    | with_reducible refine State.takeCalendar_parts h0 ?_
    | split
    | dsimp only
    | with_reducible refine OnlyParts.set_slt m_slt ?_

theorem State.slotBoundary_parts {P : List Part} {s t : State} {a1}
    (hP : [.freeCtr, .regs, .ctrs, .cmd, .flt, .glb, .tim, .loopA, .loopB, .loopS, .drv, .mtx, .cal, .red,
      .acq, .slt, .brt, .pkts, .ports, .chips] ⊆ P)
    (h : OnlyParts P s t) :
    OnlyParts P s (State.slotBoundary t a1) := by
  have h0 : ([.tim] : List Part) ⊆ P := List.Subset.trans (by decide) hP
  have h1 : ([.regs, .cmd, .slt] : List Part) ⊆ P := List.Subset.trans (by decide) hP
  have h2 : ([.regs, .cmd, .acq, .slt] : List Part) ⊆ P := List.Subset.trans (by decide) hP
  have h3 : ([.loopS, .cal] : List Part) ⊆ P := List.Subset.trans (by decide) hP
  have h4 : ([.ctrs, .slt] : List Part) ⊆ P := List.Subset.trans (by decide) hP
  have h5 : ([.slt] : List Part) ⊆ P := List.Subset.trans (by decide) hP
  have h6 : ([.freeCtr, .regs, .cmd, .glb, .tim, .slt] : List Part) ⊆ P := List.Subset.trans (by decide) hP
  have h7 : ([.freeCtr, .regs, .ctrs, .cmd, .flt, .loopA, .loopB, .loopS, .drv, .mtx, .cal, .red, .acq, .slt,
    .brt, .pkts, .ports, .chips] : List Part) ⊆ P := List.Subset.trans (by decide) hP
  unfold State.slotBoundary
  repeat' first
    | with_reducible exact h
    | with_reducible refine State.atPhase_parts h0 ?_
    | with_reducible refine State.align_parts h1 ?_
    | with_reducible refine State.slotCalendar_parts h2 ?_
    | with_reducible refine State.trialsEnd_parts h3 ?_
    | with_reducible refine State.pipeline_parts h4 ?_
    | with_reducible refine State.registerReps_parts h5 ?_
    | with_reducible refine State.endSlot_parts h5 ?_
    | with_reducible refine State.nextSlot_parts h6 ?_
    | with_reducible refine State.guard_parts h7 ?_
    | split

end Sys2Proof.Machine
end

