-- ==== Sys2Proof/Laws/Sparse.lean ====
section
/-! SUPPORT. The laws of the sparse maps: a read after a write gives the value written, a write leaves every other key
alone, and every operation keeps the canonical form. -/

namespace Sys2Proof

variable {α : Type}

@[simp] theorem Sparse.get_nil (d : Nat → α) (k : Nat) : Sparse.get d [] k = d k := rfl

theorem Sparse.get_put (d : Nat → α) (m : Sparse α) (k j : Nat) (v : α) :
    Sparse.get d (Sparse.put m k v) j = if j = k then v else Sparse.get d m j := by
  induction m with
  | nil => simp [Sparse.put, Sparse.get]
  | cons p t ih =>
    obtain ⟨k', v'⟩ := p
    simp only [Sparse.put]
    split
    · simp only [Sparse.get]
    · split
      · rename_i h
        subst h
        simp only [Sparse.get]
        split <;> rfl
      · simp only [Sparse.get, ih]
        split
        · split
          · omega
          · rfl
        · rfl

theorem Sparse.get_erase (d : Nat → α) (m : Sparse α) (k j : Nat) :
    Sparse.get d (Sparse.erase m k) j = if j = k then d k else Sparse.get d m j := by
  induction m with
  | nil =>
    simp only [Sparse.erase, Sparse.get]
    split
    · rename_i h
      rw [h]
    · rfl
  | cons p t ih =>
    obtain ⟨k', v'⟩ := p
    simp only [Sparse.erase]
    split
    · rename_i h
      subst h
      rw [ih]
      split
      · rfl
      · rename_i h
        simp only [Sparse.get, if_neg h]
    · simp only [Sparse.get, ih]
      split
      · split
        · omega
        · rfl
      · rfl

/-- A read after a write, of any key. -/
theorem Sparse.get_set [DecidableEq α] (d : Nat → α) (m : Sparse α) (k j : Nat) (v : α) :
    Sparse.get d (Sparse.set d m k v) j = if j = k then v else Sparse.get d m j := by
  unfold Sparse.set
  split
  · rename_i h
    rw [Sparse.get_erase, h]
  · exact Sparse.get_put d m k j v

@[simp] theorem Sparse.get_set_same [DecidableEq α] (d : Nat → α) (m : Sparse α) (k : Nat) (v : α) :
    Sparse.get d (Sparse.set d m k v) k = v := by
  rw [Sparse.get_set, if_pos rfl]

theorem Sparse.get_set_other [DecidableEq α] (d : Nat → α) (m : Sparse α) {k j : Nat} (v : α) (h : j ≠ k) :
    Sparse.get d (Sparse.set d m k v) j = Sparse.get d m j := by
  rw [Sparse.get_set, if_neg h]

/-! ### The canonical form -/

variable [DecidableEq α]

theorem Sparse.wfFrom_mono {d : Nat → α} {m : Sparse α} {a b : Nat} (h : b ≤ a) (w : Sparse.wfFrom d a m = true) :
    Sparse.wfFrom d b m = true := by
  cases m with
  | nil => rfl
  | cons p t =>
    simp only [Sparse.wfFrom, Bool.and_eq_true, decide_eq_true_eq] at w ⊢
    exact ⟨⟨le_trans h w.1.1, w.1.2⟩, w.2⟩

theorem Sparse.wfFrom_put {d : Nat → α} {m : Sparse α} {a k : Nat} {v : α} (hk : a ≤ k) (hv : v ≠ d k)
    (w : Sparse.wfFrom d a m = true) : Sparse.wfFrom d a (Sparse.put m k v) = true := by
  induction m generalizing a with
  | nil => simp [Sparse.put, Sparse.wfFrom, hk, hv]
  | cons p t ih =>
    obtain ⟨k', v'⟩ := p
    simp only [Sparse.wfFrom, Bool.and_eq_true, decide_eq_true_eq] at w
    simp only [Sparse.put]
    split
    · rename_i h
      simp only [Sparse.wfFrom, Bool.and_eq_true, decide_eq_true_eq]
      exact ⟨⟨hk, hv⟩, ⟨by omega, w.1.2⟩, w.2⟩
    · split
      · rename_i h
        subst h
        simp only [Sparse.wfFrom, Bool.and_eq_true, decide_eq_true_eq]
        exact ⟨⟨hk, hv⟩, w.2⟩
      · simp only [Sparse.wfFrom, Bool.and_eq_true, decide_eq_true_eq]
        exact ⟨w.1, ih (by omega) w.2⟩

theorem Sparse.wfFrom_erase {d : Nat → α} {m : Sparse α} {a k : Nat} (w : Sparse.wfFrom d a m = true) :
    Sparse.wfFrom d a (Sparse.erase m k) = true := by
  induction m generalizing a with
  | nil => rfl
  | cons p t ih =>
    obtain ⟨k', v'⟩ := p
    simp only [Sparse.wfFrom, Bool.and_eq_true, decide_eq_true_eq] at w
    simp only [Sparse.erase]
    split
    · exact ih (Sparse.wfFrom_mono (by omega) w.2)
    · simp only [Sparse.wfFrom, Bool.and_eq_true, decide_eq_true_eq]
      exact ⟨w.1, ih w.2⟩

/-- A write keeps the canonical form. -/
theorem Sparse.wf_set {d : Nat → α} {m : Sparse α} {k : Nat} {v : α} (w : Sparse.wf d m = true) :
    Sparse.wf d (Sparse.set d m k v) = true := by
  unfold Sparse.set
  split
  · exact Sparse.wfFrom_erase w
  · rename_i h
    exact Sparse.wfFrom_put (Nat.zero_le k) h w

theorem Sparse.wfFrom_mapVals {d : Nat → α} {f : α → α} {m : Sparse α} {a : Nat} (w : Sparse.wfFrom d a m = true) :
    Sparse.wfFrom d a (Sparse.mapVals d f m) = true := by
  induction m generalizing a with
  | nil => rfl
  | cons p t ih =>
    obtain ⟨k, v⟩ := p
    simp only [Sparse.wfFrom, Bool.and_eq_true, decide_eq_true_eq] at w
    simp only [Sparse.mapVals]
    split
    · exact ih (Sparse.wfFrom_mono (by omega) w.2)
    · rename_i h
      simp only [Sparse.wfFrom, Bool.and_eq_true, decide_eq_true_eq]
      exact ⟨⟨w.1.1, h⟩, ih w.2⟩

/-- A change of every listed value keeps the canonical form. -/
theorem Sparse.wf_mapVals {d : Nat → α} {f : α → α} {m : Sparse α} (w : Sparse.wf d m = true) :
    Sparse.wf d (Sparse.mapVals d f m) = true := Sparse.wfFrom_mapVals w

theorem Sparse.wfFrom_mapWith {d : Nat → α} {f : Nat → α → α} {m : Sparse α} {a : Nat}
    (w : Sparse.wfFrom d a m = true) : Sparse.wfFrom d a (Sparse.mapWith d f m) = true := by
  induction m generalizing a with
  | nil => rfl
  | cons p t ih =>
    obtain ⟨k, v⟩ := p
    simp only [Sparse.wfFrom, Bool.and_eq_true, decide_eq_true_eq] at w
    simp only [Sparse.mapWith]
    split
    · exact ih (Sparse.wfFrom_mono (by omega) w.2)
    · rename_i h
      simp only [Sparse.wfFrom, Bool.and_eq_true, decide_eq_true_eq]
      exact ⟨⟨w.1.1, h⟩, ih w.2⟩

/-- A change of every listed value by its key keeps the canonical form. -/
theorem Sparse.wf_mapWith {d : Nat → α} {f : Nat → α → α} {m : Sparse α} (w : Sparse.wf d m = true) :
    Sparse.wf d (Sparse.mapWith d f m) = true := Sparse.wfFrom_mapWith w

theorem Sparse.get_of_lt {d : Nat → α} {m : Sparse α} {a k : Nat} (w : Sparse.wfFrom d a m = true) (h : k < a) :
    Sparse.get d m k = d k := by
  induction m generalizing a with
  | nil => rfl
  | cons p t ih =>
    obtain ⟨k', v'⟩ := p
    simp only [Sparse.wfFrom, Bool.and_eq_true, decide_eq_true_eq] at w
    simp only [Sparse.get]
    rw [if_neg (by omega)]
    exact ih w.2 (by omega)

theorem Sparse.get_mapWith_from {d : Nat → α} {f : Nat → α → α} {m : Sparse α} {a j : Nat} (hd : f j (d j) = d j)
    (w : Sparse.wfFrom d a m = true) : Sparse.get d (Sparse.mapWith d f m) j = f j (Sparse.get d m j) := by
  induction m generalizing a with
  | nil => exact hd.symm
  | cons p t ih =>
    obtain ⟨k, v⟩ := p
    simp only [Sparse.wfFrom, Bool.and_eq_true, decide_eq_true_eq] at w
    simp only [Sparse.mapWith, Sparse.get]
    split
    · rename_i e
      rw [ih w.2]
      split
      · rename_i h
        subst h
        rw [Sparse.get_of_lt w.2 (Nat.lt_succ_self j), hd, e]
      · rfl
    · simp only [Sparse.get]
      split
      · rename_i h
        rw [h]
      · exact ih w.2

/-- What a change of every listed value by its key gives, where it leaves the default alone. -/
theorem Sparse.get_mapWith {d : Nat → α} {f : Nat → α → α} {m : Sparse α} {j : Nat} (hd : f j (d j) = d j)
    (w : Sparse.wf d m = true) : Sparse.get d (Sparse.mapWith d f m) j = f j (Sparse.get d m j) :=
  Sparse.get_mapWith_from hd w

theorem Sparse.mapVals_eq {d : Nat → α} {f : α → α} {m : Sparse α} :
    Sparse.mapVals d f m = Sparse.mapWith d (fun _ => f) m := by
  induction m with
  | nil => rfl
  | cons p t ih => simp only [Sparse.mapVals, Sparse.mapWith, ih]

/-- What a change of every listed value gives, where it leaves the default alone. -/
theorem Sparse.get_mapVals {d : Nat → α} {f : α → α} {m : Sparse α} {j : Nat} (hd : f (d j) = d j)
    (w : Sparse.wf d m = true) : Sparse.get d (Sparse.mapVals d f m) j = f (Sparse.get d m j) := by
  rw [Sparse.mapVals_eq]
  exact Sparse.get_mapWith hd w

end Sys2Proof
end

