-- ==== Sys2Proof/Laws/State.lean ====
section
/-! SUPPORT. The laws of the updates of State: for each update, one lemma for every field that it leaves alone, and what
a read of the thing written gives. -/

namespace Sys2Proof.Machine

open Sys2Proof

/-! ### The fields that an update leaves alone -/

@[simp] theorem State.wr_pending {s : State} {a1 a2} : (State.wr s a1 a2).pending = s.pending := rfl
@[simp] theorem State.wr_freeCtr {s : State} {a1 a2} : (State.wr s a1 a2).freeCtr = s.freeCtr := rfl
@[simp] theorem State.wr_ctrs {s : State} {a1 a2} : (State.wr s a1 a2).ctrs = s.ctrs := rfl
@[simp] theorem State.wr_highLatch {s : State} {a1 a2} : (State.wr s a1 a2).highLatch = s.highLatch := rfl
@[simp] theorem State.wr_cmd {s : State} {a1 a2} : (State.wr s a1 a2).cmd = s.cmd := rfl
@[simp] theorem State.wr_sec {s : State} {a1 a2} : (State.wr s a1 a2).sec = s.sec := rfl
@[simp] theorem State.wr_flt {s : State} {a1 a2} : (State.wr s a1 a2).flt = s.flt := rfl
@[simp] theorem State.wr_thm {s : State} {a1 a2} : (State.wr s a1 a2).thm = s.thm := rfl
@[simp] theorem State.wr_glb {s : State} {a1 a2} : (State.wr s a1 a2).glb = s.glb := rfl
@[simp] theorem State.wr_img {s : State} {a1 a2} : (State.wr s a1 a2).img = s.img := rfl
@[simp] theorem State.wr_tim {s : State} {a1 a2} : (State.wr s a1 a2).tim = s.tim := rfl
@[simp] theorem State.wr_loopA {s : State} {a1 a2} : (State.wr s a1 a2).loopA = s.loopA := rfl
@[simp] theorem State.wr_loopB {s : State} {a1 a2} : (State.wr s a1 a2).loopB = s.loopB := rfl
@[simp] theorem State.wr_loopS {s : State} {a1 a2} : (State.wr s a1 a2).loopS = s.loopS := rfl
@[simp] theorem State.wr_drv {s : State} {a1 a2} : (State.wr s a1 a2).drv = s.drv := rfl
@[simp] theorem State.wr_adc {s : State} {a1 a2} : (State.wr s a1 a2).adc = s.adc := rfl
@[simp] theorem State.wr_mtx {s : State} {a1 a2} : (State.wr s a1 a2).mtx = s.mtx := rfl
@[simp] theorem State.wr_cal {s : State} {a1 a2} : (State.wr s a1 a2).cal = s.cal := rfl
@[simp] theorem State.wr_red {s : State} {a1 a2} : (State.wr s a1 a2).red = s.red := rfl
@[simp] theorem State.wr_acq {s : State} {a1 a2} : (State.wr s a1 a2).acq = s.acq := rfl
@[simp] theorem State.wr_slt {s : State} {a1 a2} : (State.wr s a1 a2).slt = s.slt := rfl
@[simp] theorem State.wr_brt {s : State} {a1 a2} : (State.wr s a1 a2).brt = s.brt := rfl
@[simp] theorem State.wr_pkts {s : State} {a1 a2} : (State.wr s a1 a2).pkts = s.pkts := rfl
@[simp] theorem State.wr_nextPkt {s : State} {a1 a2} : (State.wr s a1 a2).nextPkt = s.nextPkt := rfl
@[simp] theorem State.wr_ports {s : State} {a1 a2} : (State.wr s a1 a2).ports = s.ports := rfl
@[simp] theorem State.wr_chips {s : State} {a1 a2} : (State.wr s a1 a2).chips = s.chips := rfl
@[simp] theorem State.wr_xing {s : State} {a1 a2} : (State.wr s a1 a2).xing = s.xing := rfl
@[simp] theorem State.bump_pending {s : State} {a1 a2} : (State.bump s a1 a2).pending = s.pending := rfl
@[simp] theorem State.bump_freeCtr {s : State} {a1 a2} : (State.bump s a1 a2).freeCtr = s.freeCtr := rfl
@[simp] theorem State.bump_regs {s : State} {a1 a2} : (State.bump s a1 a2).regs = s.regs := rfl
@[simp] theorem State.bump_highLatch {s : State} {a1 a2} : (State.bump s a1 a2).highLatch = s.highLatch := rfl
@[simp] theorem State.bump_cmd {s : State} {a1 a2} : (State.bump s a1 a2).cmd = s.cmd := rfl
@[simp] theorem State.bump_sec {s : State} {a1 a2} : (State.bump s a1 a2).sec = s.sec := rfl
@[simp] theorem State.bump_flt {s : State} {a1 a2} : (State.bump s a1 a2).flt = s.flt := rfl
@[simp] theorem State.bump_thm {s : State} {a1 a2} : (State.bump s a1 a2).thm = s.thm := rfl
@[simp] theorem State.bump_glb {s : State} {a1 a2} : (State.bump s a1 a2).glb = s.glb := rfl
@[simp] theorem State.bump_img {s : State} {a1 a2} : (State.bump s a1 a2).img = s.img := rfl
@[simp] theorem State.bump_tim {s : State} {a1 a2} : (State.bump s a1 a2).tim = s.tim := rfl
@[simp] theorem State.bump_loopA {s : State} {a1 a2} : (State.bump s a1 a2).loopA = s.loopA := rfl
@[simp] theorem State.bump_loopB {s : State} {a1 a2} : (State.bump s a1 a2).loopB = s.loopB := rfl
@[simp] theorem State.bump_loopS {s : State} {a1 a2} : (State.bump s a1 a2).loopS = s.loopS := rfl
@[simp] theorem State.bump_drv {s : State} {a1 a2} : (State.bump s a1 a2).drv = s.drv := rfl
@[simp] theorem State.bump_adc {s : State} {a1 a2} : (State.bump s a1 a2).adc = s.adc := rfl
@[simp] theorem State.bump_mtx {s : State} {a1 a2} : (State.bump s a1 a2).mtx = s.mtx := rfl
@[simp] theorem State.bump_cal {s : State} {a1 a2} : (State.bump s a1 a2).cal = s.cal := rfl
@[simp] theorem State.bump_red {s : State} {a1 a2} : (State.bump s a1 a2).red = s.red := rfl
@[simp] theorem State.bump_acq {s : State} {a1 a2} : (State.bump s a1 a2).acq = s.acq := rfl
@[simp] theorem State.bump_slt {s : State} {a1 a2} : (State.bump s a1 a2).slt = s.slt := rfl
@[simp] theorem State.bump_brt {s : State} {a1 a2} : (State.bump s a1 a2).brt = s.brt := rfl
@[simp] theorem State.bump_pkts {s : State} {a1 a2} : (State.bump s a1 a2).pkts = s.pkts := rfl
@[simp] theorem State.bump_nextPkt {s : State} {a1 a2} : (State.bump s a1 a2).nextPkt = s.nextPkt := rfl
@[simp] theorem State.bump_ports {s : State} {a1 a2} : (State.bump s a1 a2).ports = s.ports := rfl
@[simp] theorem State.bump_chips {s : State} {a1 a2} : (State.bump s a1 a2).chips = s.chips := rfl
@[simp] theorem State.bump_xing {s : State} {a1 a2} : (State.bump s a1 a2).xing = s.xing := rfl
@[simp] theorem State.setRd_pending {s : State} {a1 a2} : (State.setRd s a1 a2).pending = s.pending := rfl
@[simp] theorem State.setRd_freeCtr {s : State} {a1 a2} : (State.setRd s a1 a2).freeCtr = s.freeCtr := rfl
@[simp] theorem State.setRd_regs {s : State} {a1 a2} : (State.setRd s a1 a2).regs = s.regs := rfl
@[simp] theorem State.setRd_ctrs {s : State} {a1 a2} : (State.setRd s a1 a2).ctrs = s.ctrs := rfl
@[simp] theorem State.setRd_highLatch {s : State} {a1 a2} : (State.setRd s a1 a2).highLatch = s.highLatch := rfl
@[simp] theorem State.setRd_sec {s : State} {a1 a2} : (State.setRd s a1 a2).sec = s.sec := rfl
@[simp] theorem State.setRd_flt {s : State} {a1 a2} : (State.setRd s a1 a2).flt = s.flt := rfl
@[simp] theorem State.setRd_thm {s : State} {a1 a2} : (State.setRd s a1 a2).thm = s.thm := rfl
@[simp] theorem State.setRd_glb {s : State} {a1 a2} : (State.setRd s a1 a2).glb = s.glb := rfl
@[simp] theorem State.setRd_img {s : State} {a1 a2} : (State.setRd s a1 a2).img = s.img := rfl
@[simp] theorem State.setRd_tim {s : State} {a1 a2} : (State.setRd s a1 a2).tim = s.tim := rfl
@[simp] theorem State.setRd_loopA {s : State} {a1 a2} : (State.setRd s a1 a2).loopA = s.loopA := rfl
@[simp] theorem State.setRd_loopB {s : State} {a1 a2} : (State.setRd s a1 a2).loopB = s.loopB := rfl
@[simp] theorem State.setRd_loopS {s : State} {a1 a2} : (State.setRd s a1 a2).loopS = s.loopS := rfl
@[simp] theorem State.setRd_drv {s : State} {a1 a2} : (State.setRd s a1 a2).drv = s.drv := rfl
@[simp] theorem State.setRd_adc {s : State} {a1 a2} : (State.setRd s a1 a2).adc = s.adc := rfl
@[simp] theorem State.setRd_mtx {s : State} {a1 a2} : (State.setRd s a1 a2).mtx = s.mtx := rfl
@[simp] theorem State.setRd_cal {s : State} {a1 a2} : (State.setRd s a1 a2).cal = s.cal := rfl
@[simp] theorem State.setRd_red {s : State} {a1 a2} : (State.setRd s a1 a2).red = s.red := rfl
@[simp] theorem State.setRd_acq {s : State} {a1 a2} : (State.setRd s a1 a2).acq = s.acq := rfl
@[simp] theorem State.setRd_slt {s : State} {a1 a2} : (State.setRd s a1 a2).slt = s.slt := rfl
@[simp] theorem State.setRd_brt {s : State} {a1 a2} : (State.setRd s a1 a2).brt = s.brt := rfl
@[simp] theorem State.setRd_pkts {s : State} {a1 a2} : (State.setRd s a1 a2).pkts = s.pkts := rfl
@[simp] theorem State.setRd_nextPkt {s : State} {a1 a2} : (State.setRd s a1 a2).nextPkt = s.nextPkt := rfl
@[simp] theorem State.setRd_ports {s : State} {a1 a2} : (State.setRd s a1 a2).ports = s.ports := rfl
@[simp] theorem State.setRd_chips {s : State} {a1 a2} : (State.setRd s a1 a2).chips = s.chips := rfl
@[simp] theorem State.setRd_xing {s : State} {a1 a2} : (State.setRd s a1 a2).xing = s.xing := rfl
@[simp] theorem State.setChan_pending {s : State} {a1 a2} : (State.setChan s a1 a2).pending = s.pending := rfl
@[simp] theorem State.setChan_freeCtr {s : State} {a1 a2} : (State.setChan s a1 a2).freeCtr = s.freeCtr := rfl
@[simp] theorem State.setChan_regs {s : State} {a1 a2} : (State.setChan s a1 a2).regs = s.regs := rfl
@[simp] theorem State.setChan_ctrs {s : State} {a1 a2} : (State.setChan s a1 a2).ctrs = s.ctrs := rfl
@[simp] theorem State.setChan_highLatch {s : State} {a1 a2} : (State.setChan s a1 a2).highLatch = s.highLatch := rfl
@[simp] theorem State.setChan_cmd {s : State} {a1 a2} : (State.setChan s a1 a2).cmd = s.cmd := rfl
@[simp] theorem State.setChan_sec {s : State} {a1 a2} : (State.setChan s a1 a2).sec = s.sec := rfl
@[simp] theorem State.setChan_flt {s : State} {a1 a2} : (State.setChan s a1 a2).flt = s.flt := rfl
@[simp] theorem State.setChan_thm {s : State} {a1 a2} : (State.setChan s a1 a2).thm = s.thm := rfl
@[simp] theorem State.setChan_glb {s : State} {a1 a2} : (State.setChan s a1 a2).glb = s.glb := rfl
@[simp] theorem State.setChan_img {s : State} {a1 a2} : (State.setChan s a1 a2).img = s.img := rfl
@[simp] theorem State.setChan_tim {s : State} {a1 a2} : (State.setChan s a1 a2).tim = s.tim := rfl
@[simp] theorem State.setChan_loopA {s : State} {a1 a2} : (State.setChan s a1 a2).loopA = s.loopA := rfl
@[simp] theorem State.setChan_loopB {s : State} {a1 a2} : (State.setChan s a1 a2).loopB = s.loopB := rfl
@[simp] theorem State.setChan_loopS {s : State} {a1 a2} : (State.setChan s a1 a2).loopS = s.loopS := rfl
@[simp] theorem State.setChan_adc {s : State} {a1 a2} : (State.setChan s a1 a2).adc = s.adc := rfl
@[simp] theorem State.setChan_mtx {s : State} {a1 a2} : (State.setChan s a1 a2).mtx = s.mtx := rfl
@[simp] theorem State.setChan_cal {s : State} {a1 a2} : (State.setChan s a1 a2).cal = s.cal := rfl
@[simp] theorem State.setChan_red {s : State} {a1 a2} : (State.setChan s a1 a2).red = s.red := rfl
@[simp] theorem State.setChan_acq {s : State} {a1 a2} : (State.setChan s a1 a2).acq = s.acq := rfl
@[simp] theorem State.setChan_slt {s : State} {a1 a2} : (State.setChan s a1 a2).slt = s.slt := rfl
@[simp] theorem State.setChan_brt {s : State} {a1 a2} : (State.setChan s a1 a2).brt = s.brt := rfl
@[simp] theorem State.setChan_pkts {s : State} {a1 a2} : (State.setChan s a1 a2).pkts = s.pkts := rfl
@[simp] theorem State.setChan_nextPkt {s : State} {a1 a2} : (State.setChan s a1 a2).nextPkt = s.nextPkt := rfl
@[simp] theorem State.setChan_ports {s : State} {a1 a2} : (State.setChan s a1 a2).ports = s.ports := rfl
@[simp] theorem State.setChan_chips {s : State} {a1 a2} : (State.setChan s a1 a2).chips = s.chips := rfl
@[simp] theorem State.setChan_xing {s : State} {a1 a2} : (State.setChan s a1 a2).xing = s.xing := rfl
@[simp] theorem State.setCalElem_pending {s : State} {a1 a2} : (State.setCalElem s a1 a2).pending = s.pending := rfl
@[simp] theorem State.setCalElem_freeCtr {s : State} {a1 a2} : (State.setCalElem s a1 a2).freeCtr = s.freeCtr := rfl
@[simp] theorem State.setCalElem_regs {s : State} {a1 a2} : (State.setCalElem s a1 a2).regs = s.regs := rfl
@[simp] theorem State.setCalElem_ctrs {s : State} {a1 a2} : (State.setCalElem s a1 a2).ctrs = s.ctrs := rfl
@[simp] theorem State.setCalElem_highLatch {s : State} {a1 a2} :
    (State.setCalElem s a1 a2).highLatch = s.highLatch := rfl
@[simp] theorem State.setCalElem_cmd {s : State} {a1 a2} : (State.setCalElem s a1 a2).cmd = s.cmd := rfl
@[simp] theorem State.setCalElem_sec {s : State} {a1 a2} : (State.setCalElem s a1 a2).sec = s.sec := rfl
@[simp] theorem State.setCalElem_flt {s : State} {a1 a2} : (State.setCalElem s a1 a2).flt = s.flt := rfl
@[simp] theorem State.setCalElem_thm {s : State} {a1 a2} : (State.setCalElem s a1 a2).thm = s.thm := rfl
@[simp] theorem State.setCalElem_glb {s : State} {a1 a2} : (State.setCalElem s a1 a2).glb = s.glb := rfl
@[simp] theorem State.setCalElem_img {s : State} {a1 a2} : (State.setCalElem s a1 a2).img = s.img := rfl
@[simp] theorem State.setCalElem_tim {s : State} {a1 a2} : (State.setCalElem s a1 a2).tim = s.tim := rfl
@[simp] theorem State.setCalElem_loopA {s : State} {a1 a2} : (State.setCalElem s a1 a2).loopA = s.loopA := rfl
@[simp] theorem State.setCalElem_loopB {s : State} {a1 a2} : (State.setCalElem s a1 a2).loopB = s.loopB := rfl
@[simp] theorem State.setCalElem_loopS {s : State} {a1 a2} : (State.setCalElem s a1 a2).loopS = s.loopS := rfl
@[simp] theorem State.setCalElem_drv {s : State} {a1 a2} : (State.setCalElem s a1 a2).drv = s.drv := rfl
@[simp] theorem State.setCalElem_adc {s : State} {a1 a2} : (State.setCalElem s a1 a2).adc = s.adc := rfl
@[simp] theorem State.setCalElem_mtx {s : State} {a1 a2} : (State.setCalElem s a1 a2).mtx = s.mtx := rfl
@[simp] theorem State.setCalElem_red {s : State} {a1 a2} : (State.setCalElem s a1 a2).red = s.red := rfl
@[simp] theorem State.setCalElem_acq {s : State} {a1 a2} : (State.setCalElem s a1 a2).acq = s.acq := rfl
@[simp] theorem State.setCalElem_slt {s : State} {a1 a2} : (State.setCalElem s a1 a2).slt = s.slt := rfl
@[simp] theorem State.setCalElem_brt {s : State} {a1 a2} : (State.setCalElem s a1 a2).brt = s.brt := rfl
@[simp] theorem State.setCalElem_pkts {s : State} {a1 a2} : (State.setCalElem s a1 a2).pkts = s.pkts := rfl
@[simp] theorem State.setCalElem_nextPkt {s : State} {a1 a2} : (State.setCalElem s a1 a2).nextPkt = s.nextPkt := rfl
@[simp] theorem State.setCalElem_ports {s : State} {a1 a2} : (State.setCalElem s a1 a2).ports = s.ports := rfl
@[simp] theorem State.setCalElem_chips {s : State} {a1 a2} : (State.setCalElem s a1 a2).chips = s.chips := rfl
@[simp] theorem State.setCalElem_xing {s : State} {a1 a2} : (State.setCalElem s a1 a2).xing = s.xing := rfl
@[simp] theorem State.setAu_pending {s : State} {a1 a2} : (State.setAu s a1 a2).pending = s.pending := rfl
@[simp] theorem State.setAu_freeCtr {s : State} {a1 a2} : (State.setAu s a1 a2).freeCtr = s.freeCtr := rfl
@[simp] theorem State.setAu_regs {s : State} {a1 a2} : (State.setAu s a1 a2).regs = s.regs := rfl
@[simp] theorem State.setAu_ctrs {s : State} {a1 a2} : (State.setAu s a1 a2).ctrs = s.ctrs := rfl
@[simp] theorem State.setAu_highLatch {s : State} {a1 a2} : (State.setAu s a1 a2).highLatch = s.highLatch := rfl
@[simp] theorem State.setAu_cmd {s : State} {a1 a2} : (State.setAu s a1 a2).cmd = s.cmd := rfl
@[simp] theorem State.setAu_sec {s : State} {a1 a2} : (State.setAu s a1 a2).sec = s.sec := rfl
@[simp] theorem State.setAu_flt {s : State} {a1 a2} : (State.setAu s a1 a2).flt = s.flt := rfl
@[simp] theorem State.setAu_thm {s : State} {a1 a2} : (State.setAu s a1 a2).thm = s.thm := rfl
@[simp] theorem State.setAu_glb {s : State} {a1 a2} : (State.setAu s a1 a2).glb = s.glb := rfl
@[simp] theorem State.setAu_img {s : State} {a1 a2} : (State.setAu s a1 a2).img = s.img := rfl
@[simp] theorem State.setAu_tim {s : State} {a1 a2} : (State.setAu s a1 a2).tim = s.tim := rfl
@[simp] theorem State.setAu_loopA {s : State} {a1 a2} : (State.setAu s a1 a2).loopA = s.loopA := rfl
@[simp] theorem State.setAu_loopB {s : State} {a1 a2} : (State.setAu s a1 a2).loopB = s.loopB := rfl
@[simp] theorem State.setAu_loopS {s : State} {a1 a2} : (State.setAu s a1 a2).loopS = s.loopS := rfl
@[simp] theorem State.setAu_drv {s : State} {a1 a2} : (State.setAu s a1 a2).drv = s.drv := rfl
@[simp] theorem State.setAu_mtx {s : State} {a1 a2} : (State.setAu s a1 a2).mtx = s.mtx := rfl
@[simp] theorem State.setAu_cal {s : State} {a1 a2} : (State.setAu s a1 a2).cal = s.cal := rfl
@[simp] theorem State.setAu_red {s : State} {a1 a2} : (State.setAu s a1 a2).red = s.red := rfl
@[simp] theorem State.setAu_acq {s : State} {a1 a2} : (State.setAu s a1 a2).acq = s.acq := rfl
@[simp] theorem State.setAu_slt {s : State} {a1 a2} : (State.setAu s a1 a2).slt = s.slt := rfl
@[simp] theorem State.setAu_brt {s : State} {a1 a2} : (State.setAu s a1 a2).brt = s.brt := rfl
@[simp] theorem State.setAu_pkts {s : State} {a1 a2} : (State.setAu s a1 a2).pkts = s.pkts := rfl
@[simp] theorem State.setAu_nextPkt {s : State} {a1 a2} : (State.setAu s a1 a2).nextPkt = s.nextPkt := rfl
@[simp] theorem State.setAu_ports {s : State} {a1 a2} : (State.setAu s a1 a2).ports = s.ports := rfl
@[simp] theorem State.setAu_chips {s : State} {a1 a2} : (State.setAu s a1 a2).chips = s.chips := rfl
@[simp] theorem State.setAu_xing {s : State} {a1 a2} : (State.setAu s a1 a2).xing = s.xing := rfl
@[simp] theorem State.setEmitter_pending {s : State} {a1 a2 a3} :
    (State.setEmitter s a1 a2 a3).pending = s.pending := rfl
@[simp] theorem State.setEmitter_freeCtr {s : State} {a1 a2 a3} :
    (State.setEmitter s a1 a2 a3).freeCtr = s.freeCtr := rfl
@[simp] theorem State.setEmitter_regs {s : State} {a1 a2 a3} : (State.setEmitter s a1 a2 a3).regs = s.regs := rfl
@[simp] theorem State.setEmitter_ctrs {s : State} {a1 a2 a3} : (State.setEmitter s a1 a2 a3).ctrs = s.ctrs := rfl
@[simp] theorem State.setEmitter_highLatch {s : State} {a1 a2 a3} :
    (State.setEmitter s a1 a2 a3).highLatch = s.highLatch := rfl
@[simp] theorem State.setEmitter_cmd {s : State} {a1 a2 a3} : (State.setEmitter s a1 a2 a3).cmd = s.cmd := rfl
@[simp] theorem State.setEmitter_sec {s : State} {a1 a2 a3} : (State.setEmitter s a1 a2 a3).sec = s.sec := rfl
@[simp] theorem State.setEmitter_flt {s : State} {a1 a2 a3} : (State.setEmitter s a1 a2 a3).flt = s.flt := rfl
@[simp] theorem State.setEmitter_thm {s : State} {a1 a2 a3} : (State.setEmitter s a1 a2 a3).thm = s.thm := rfl
@[simp] theorem State.setEmitter_glb {s : State} {a1 a2 a3} : (State.setEmitter s a1 a2 a3).glb = s.glb := rfl
@[simp] theorem State.setEmitter_img {s : State} {a1 a2 a3} : (State.setEmitter s a1 a2 a3).img = s.img := rfl
@[simp] theorem State.setEmitter_tim {s : State} {a1 a2 a3} : (State.setEmitter s a1 a2 a3).tim = s.tim := rfl
@[simp] theorem State.setEmitter_loopA {s : State} {a1 a2 a3} : (State.setEmitter s a1 a2 a3).loopA = s.loopA := rfl
@[simp] theorem State.setEmitter_loopB {s : State} {a1 a2 a3} : (State.setEmitter s a1 a2 a3).loopB = s.loopB := rfl
@[simp] theorem State.setEmitter_loopS {s : State} {a1 a2 a3} : (State.setEmitter s a1 a2 a3).loopS = s.loopS := rfl
@[simp] theorem State.setEmitter_drv {s : State} {a1 a2 a3} : (State.setEmitter s a1 a2 a3).drv = s.drv := rfl
@[simp] theorem State.setEmitter_adc {s : State} {a1 a2 a3} : (State.setEmitter s a1 a2 a3).adc = s.adc := rfl
@[simp] theorem State.setEmitter_cal {s : State} {a1 a2 a3} : (State.setEmitter s a1 a2 a3).cal = s.cal := rfl
@[simp] theorem State.setEmitter_red {s : State} {a1 a2 a3} : (State.setEmitter s a1 a2 a3).red = s.red := rfl
@[simp] theorem State.setEmitter_acq {s : State} {a1 a2 a3} : (State.setEmitter s a1 a2 a3).acq = s.acq := rfl
@[simp] theorem State.setEmitter_slt {s : State} {a1 a2 a3} : (State.setEmitter s a1 a2 a3).slt = s.slt := rfl
@[simp] theorem State.setEmitter_brt {s : State} {a1 a2 a3} : (State.setEmitter s a1 a2 a3).brt = s.brt := rfl
@[simp] theorem State.setEmitter_pkts {s : State} {a1 a2 a3} : (State.setEmitter s a1 a2 a3).pkts = s.pkts := rfl
@[simp] theorem State.setEmitter_nextPkt {s : State} {a1 a2 a3} :
    (State.setEmitter s a1 a2 a3).nextPkt = s.nextPkt := rfl
@[simp] theorem State.setEmitter_ports {s : State} {a1 a2 a3} : (State.setEmitter s a1 a2 a3).ports = s.ports := rfl
@[simp] theorem State.setEmitter_chips {s : State} {a1 a2 a3} : (State.setEmitter s a1 a2 a3).chips = s.chips := rfl
@[simp] theorem State.setEmitter_xing {s : State} {a1 a2 a3} : (State.setEmitter s a1 a2 a3).xing = s.xing := rfl
@[simp] theorem State.setBank_pending {s : State} {a1 a2} : (State.setBank s a1 a2).pending = s.pending := rfl
@[simp] theorem State.setBank_freeCtr {s : State} {a1 a2} : (State.setBank s a1 a2).freeCtr = s.freeCtr := rfl
@[simp] theorem State.setBank_regs {s : State} {a1 a2} : (State.setBank s a1 a2).regs = s.regs := rfl
@[simp] theorem State.setBank_ctrs {s : State} {a1 a2} : (State.setBank s a1 a2).ctrs = s.ctrs := rfl
@[simp] theorem State.setBank_highLatch {s : State} {a1 a2} : (State.setBank s a1 a2).highLatch = s.highLatch := rfl
@[simp] theorem State.setBank_cmd {s : State} {a1 a2} : (State.setBank s a1 a2).cmd = s.cmd := rfl
@[simp] theorem State.setBank_sec {s : State} {a1 a2} : (State.setBank s a1 a2).sec = s.sec := rfl
@[simp] theorem State.setBank_flt {s : State} {a1 a2} : (State.setBank s a1 a2).flt = s.flt := rfl
@[simp] theorem State.setBank_thm {s : State} {a1 a2} : (State.setBank s a1 a2).thm = s.thm := rfl
@[simp] theorem State.setBank_glb {s : State} {a1 a2} : (State.setBank s a1 a2).glb = s.glb := rfl
@[simp] theorem State.setBank_img {s : State} {a1 a2} : (State.setBank s a1 a2).img = s.img := rfl
@[simp] theorem State.setBank_tim {s : State} {a1 a2} : (State.setBank s a1 a2).tim = s.tim := rfl
@[simp] theorem State.setBank_loopA {s : State} {a1 a2} : (State.setBank s a1 a2).loopA = s.loopA := rfl
@[simp] theorem State.setBank_loopB {s : State} {a1 a2} : (State.setBank s a1 a2).loopB = s.loopB := rfl
@[simp] theorem State.setBank_loopS {s : State} {a1 a2} : (State.setBank s a1 a2).loopS = s.loopS := rfl
@[simp] theorem State.setBank_drv {s : State} {a1 a2} : (State.setBank s a1 a2).drv = s.drv := rfl
@[simp] theorem State.setBank_adc {s : State} {a1 a2} : (State.setBank s a1 a2).adc = s.adc := rfl
@[simp] theorem State.setBank_cal {s : State} {a1 a2} : (State.setBank s a1 a2).cal = s.cal := rfl
@[simp] theorem State.setBank_red {s : State} {a1 a2} : (State.setBank s a1 a2).red = s.red := rfl
@[simp] theorem State.setBank_acq {s : State} {a1 a2} : (State.setBank s a1 a2).acq = s.acq := rfl
@[simp] theorem State.setBank_slt {s : State} {a1 a2} : (State.setBank s a1 a2).slt = s.slt := rfl
@[simp] theorem State.setBank_brt {s : State} {a1 a2} : (State.setBank s a1 a2).brt = s.brt := rfl
@[simp] theorem State.setBank_pkts {s : State} {a1 a2} : (State.setBank s a1 a2).pkts = s.pkts := rfl
@[simp] theorem State.setBank_nextPkt {s : State} {a1 a2} : (State.setBank s a1 a2).nextPkt = s.nextPkt := rfl
@[simp] theorem State.setBank_ports {s : State} {a1 a2} : (State.setBank s a1 a2).ports = s.ports := rfl
@[simp] theorem State.setBank_chips {s : State} {a1 a2} : (State.setBank s a1 a2).chips = s.chips := rfl
@[simp] theorem State.setBank_xing {s : State} {a1 a2} : (State.setBank s a1 a2).xing = s.xing := rfl
@[simp] theorem State.setDom_pending {s : State} {a1 a2} : (State.setDom s a1 a2).pending = s.pending := rfl
@[simp] theorem State.setDom_freeCtr {s : State} {a1 a2} : (State.setDom s a1 a2).freeCtr = s.freeCtr := rfl
@[simp] theorem State.setDom_regs {s : State} {a1 a2} : (State.setDom s a1 a2).regs = s.regs := rfl
@[simp] theorem State.setDom_ctrs {s : State} {a1 a2} : (State.setDom s a1 a2).ctrs = s.ctrs := rfl
@[simp] theorem State.setDom_highLatch {s : State} {a1 a2} : (State.setDom s a1 a2).highLatch = s.highLatch := rfl
@[simp] theorem State.setDom_cmd {s : State} {a1 a2} : (State.setDom s a1 a2).cmd = s.cmd := rfl
@[simp] theorem State.setDom_sec {s : State} {a1 a2} : (State.setDom s a1 a2).sec = s.sec := rfl
@[simp] theorem State.setDom_flt {s : State} {a1 a2} : (State.setDom s a1 a2).flt = s.flt := rfl
@[simp] theorem State.setDom_thm {s : State} {a1 a2} : (State.setDom s a1 a2).thm = s.thm := rfl
@[simp] theorem State.setDom_img {s : State} {a1 a2} : (State.setDom s a1 a2).img = s.img := rfl
@[simp] theorem State.setDom_tim {s : State} {a1 a2} : (State.setDom s a1 a2).tim = s.tim := rfl
@[simp] theorem State.setDom_loopA {s : State} {a1 a2} : (State.setDom s a1 a2).loopA = s.loopA := rfl
@[simp] theorem State.setDom_loopB {s : State} {a1 a2} : (State.setDom s a1 a2).loopB = s.loopB := rfl
@[simp] theorem State.setDom_loopS {s : State} {a1 a2} : (State.setDom s a1 a2).loopS = s.loopS := rfl
@[simp] theorem State.setDom_drv {s : State} {a1 a2} : (State.setDom s a1 a2).drv = s.drv := rfl
@[simp] theorem State.setDom_adc {s : State} {a1 a2} : (State.setDom s a1 a2).adc = s.adc := rfl
@[simp] theorem State.setDom_mtx {s : State} {a1 a2} : (State.setDom s a1 a2).mtx = s.mtx := rfl
@[simp] theorem State.setDom_cal {s : State} {a1 a2} : (State.setDom s a1 a2).cal = s.cal := rfl
@[simp] theorem State.setDom_red {s : State} {a1 a2} : (State.setDom s a1 a2).red = s.red := rfl
@[simp] theorem State.setDom_acq {s : State} {a1 a2} : (State.setDom s a1 a2).acq = s.acq := rfl
@[simp] theorem State.setDom_slt {s : State} {a1 a2} : (State.setDom s a1 a2).slt = s.slt := rfl
@[simp] theorem State.setDom_brt {s : State} {a1 a2} : (State.setDom s a1 a2).brt = s.brt := rfl
@[simp] theorem State.setDom_pkts {s : State} {a1 a2} : (State.setDom s a1 a2).pkts = s.pkts := rfl
@[simp] theorem State.setDom_nextPkt {s : State} {a1 a2} : (State.setDom s a1 a2).nextPkt = s.nextPkt := rfl
@[simp] theorem State.setDom_ports {s : State} {a1 a2} : (State.setDom s a1 a2).ports = s.ports := rfl
@[simp] theorem State.setDom_chips {s : State} {a1 a2} : (State.setDom s a1 a2).chips = s.chips := rfl
@[simp] theorem State.setDom_xing {s : State} {a1 a2} : (State.setDom s a1 a2).xing = s.xing := rfl
@[simp] theorem State.setLoupe_pending {s : State} {a1 a2} : (State.setLoupe s a1 a2).pending = s.pending := rfl
@[simp] theorem State.setLoupe_freeCtr {s : State} {a1 a2} : (State.setLoupe s a1 a2).freeCtr = s.freeCtr := rfl
@[simp] theorem State.setLoupe_regs {s : State} {a1 a2} : (State.setLoupe s a1 a2).regs = s.regs := rfl
@[simp] theorem State.setLoupe_ctrs {s : State} {a1 a2} : (State.setLoupe s a1 a2).ctrs = s.ctrs := rfl
@[simp] theorem State.setLoupe_highLatch {s : State} {a1 a2} : (State.setLoupe s a1 a2).highLatch = s.highLatch := rfl
@[simp] theorem State.setLoupe_cmd {s : State} {a1 a2} : (State.setLoupe s a1 a2).cmd = s.cmd := rfl
@[simp] theorem State.setLoupe_sec {s : State} {a1 a2} : (State.setLoupe s a1 a2).sec = s.sec := rfl
@[simp] theorem State.setLoupe_flt {s : State} {a1 a2} : (State.setLoupe s a1 a2).flt = s.flt := rfl
@[simp] theorem State.setLoupe_thm {s : State} {a1 a2} : (State.setLoupe s a1 a2).thm = s.thm := rfl
@[simp] theorem State.setLoupe_glb {s : State} {a1 a2} : (State.setLoupe s a1 a2).glb = s.glb := rfl
@[simp] theorem State.setLoupe_img {s : State} {a1 a2} : (State.setLoupe s a1 a2).img = s.img := rfl
@[simp] theorem State.setLoupe_tim {s : State} {a1 a2} : (State.setLoupe s a1 a2).tim = s.tim := rfl
@[simp] theorem State.setLoupe_loopA {s : State} {a1 a2} : (State.setLoupe s a1 a2).loopA = s.loopA := rfl
@[simp] theorem State.setLoupe_loopB {s : State} {a1 a2} : (State.setLoupe s a1 a2).loopB = s.loopB := rfl
@[simp] theorem State.setLoupe_loopS {s : State} {a1 a2} : (State.setLoupe s a1 a2).loopS = s.loopS := rfl
@[simp] theorem State.setLoupe_drv {s : State} {a1 a2} : (State.setLoupe s a1 a2).drv = s.drv := rfl
@[simp] theorem State.setLoupe_adc {s : State} {a1 a2} : (State.setLoupe s a1 a2).adc = s.adc := rfl
@[simp] theorem State.setLoupe_mtx {s : State} {a1 a2} : (State.setLoupe s a1 a2).mtx = s.mtx := rfl
@[simp] theorem State.setLoupe_cal {s : State} {a1 a2} : (State.setLoupe s a1 a2).cal = s.cal := rfl
@[simp] theorem State.setLoupe_red {s : State} {a1 a2} : (State.setLoupe s a1 a2).red = s.red := rfl
@[simp] theorem State.setLoupe_slt {s : State} {a1 a2} : (State.setLoupe s a1 a2).slt = s.slt := rfl
@[simp] theorem State.setLoupe_brt {s : State} {a1 a2} : (State.setLoupe s a1 a2).brt = s.brt := rfl
@[simp] theorem State.setLoupe_pkts {s : State} {a1 a2} : (State.setLoupe s a1 a2).pkts = s.pkts := rfl
@[simp] theorem State.setLoupe_nextPkt {s : State} {a1 a2} : (State.setLoupe s a1 a2).nextPkt = s.nextPkt := rfl
@[simp] theorem State.setLoupe_ports {s : State} {a1 a2} : (State.setLoupe s a1 a2).ports = s.ports := rfl
@[simp] theorem State.setLoupe_chips {s : State} {a1 a2} : (State.setLoupe s a1 a2).chips = s.chips := rfl
@[simp] theorem State.setLoupe_xing {s : State} {a1 a2} : (State.setLoupe s a1 a2).xing = s.xing := rfl
@[simp] theorem State.setChip_pending {s : State} {a1 a2} : (State.setChip s a1 a2).pending = s.pending := rfl
@[simp] theorem State.setChip_freeCtr {s : State} {a1 a2} : (State.setChip s a1 a2).freeCtr = s.freeCtr := rfl
@[simp] theorem State.setChip_regs {s : State} {a1 a2} : (State.setChip s a1 a2).regs = s.regs := rfl
@[simp] theorem State.setChip_ctrs {s : State} {a1 a2} : (State.setChip s a1 a2).ctrs = s.ctrs := rfl
@[simp] theorem State.setChip_highLatch {s : State} {a1 a2} : (State.setChip s a1 a2).highLatch = s.highLatch := rfl
@[simp] theorem State.setChip_cmd {s : State} {a1 a2} : (State.setChip s a1 a2).cmd = s.cmd := rfl
@[simp] theorem State.setChip_sec {s : State} {a1 a2} : (State.setChip s a1 a2).sec = s.sec := rfl
@[simp] theorem State.setChip_flt {s : State} {a1 a2} : (State.setChip s a1 a2).flt = s.flt := rfl
@[simp] theorem State.setChip_thm {s : State} {a1 a2} : (State.setChip s a1 a2).thm = s.thm := rfl
@[simp] theorem State.setChip_glb {s : State} {a1 a2} : (State.setChip s a1 a2).glb = s.glb := rfl
@[simp] theorem State.setChip_img {s : State} {a1 a2} : (State.setChip s a1 a2).img = s.img := rfl
@[simp] theorem State.setChip_tim {s : State} {a1 a2} : (State.setChip s a1 a2).tim = s.tim := rfl
@[simp] theorem State.setChip_loopA {s : State} {a1 a2} : (State.setChip s a1 a2).loopA = s.loopA := rfl
@[simp] theorem State.setChip_loopB {s : State} {a1 a2} : (State.setChip s a1 a2).loopB = s.loopB := rfl
@[simp] theorem State.setChip_loopS {s : State} {a1 a2} : (State.setChip s a1 a2).loopS = s.loopS := rfl
@[simp] theorem State.setChip_drv {s : State} {a1 a2} : (State.setChip s a1 a2).drv = s.drv := rfl
@[simp] theorem State.setChip_adc {s : State} {a1 a2} : (State.setChip s a1 a2).adc = s.adc := rfl
@[simp] theorem State.setChip_mtx {s : State} {a1 a2} : (State.setChip s a1 a2).mtx = s.mtx := rfl
@[simp] theorem State.setChip_cal {s : State} {a1 a2} : (State.setChip s a1 a2).cal = s.cal := rfl
@[simp] theorem State.setChip_red {s : State} {a1 a2} : (State.setChip s a1 a2).red = s.red := rfl
@[simp] theorem State.setChip_acq {s : State} {a1 a2} : (State.setChip s a1 a2).acq = s.acq := rfl
@[simp] theorem State.setChip_slt {s : State} {a1 a2} : (State.setChip s a1 a2).slt = s.slt := rfl
@[simp] theorem State.setChip_brt {s : State} {a1 a2} : (State.setChip s a1 a2).brt = s.brt := rfl
@[simp] theorem State.setChip_pkts {s : State} {a1 a2} : (State.setChip s a1 a2).pkts = s.pkts := rfl
@[simp] theorem State.setChip_nextPkt {s : State} {a1 a2} : (State.setChip s a1 a2).nextPkt = s.nextPkt := rfl
@[simp] theorem State.setChip_ports {s : State} {a1 a2} : (State.setChip s a1 a2).ports = s.ports := rfl
@[simp] theorem State.setChip_xing {s : State} {a1 a2} : (State.setChip s a1 a2).xing = s.xing := rfl
@[simp] theorem State.setPort_pending {s : State} {a1 a2} : (State.setPort s a1 a2).pending = s.pending := rfl
@[simp] theorem State.setPort_freeCtr {s : State} {a1 a2} : (State.setPort s a1 a2).freeCtr = s.freeCtr := rfl
@[simp] theorem State.setPort_regs {s : State} {a1 a2} : (State.setPort s a1 a2).regs = s.regs := rfl
@[simp] theorem State.setPort_ctrs {s : State} {a1 a2} : (State.setPort s a1 a2).ctrs = s.ctrs := rfl
@[simp] theorem State.setPort_highLatch {s : State} {a1 a2} : (State.setPort s a1 a2).highLatch = s.highLatch := rfl
@[simp] theorem State.setPort_cmd {s : State} {a1 a2} : (State.setPort s a1 a2).cmd = s.cmd := rfl
@[simp] theorem State.setPort_sec {s : State} {a1 a2} : (State.setPort s a1 a2).sec = s.sec := rfl
@[simp] theorem State.setPort_flt {s : State} {a1 a2} : (State.setPort s a1 a2).flt = s.flt := rfl
@[simp] theorem State.setPort_thm {s : State} {a1 a2} : (State.setPort s a1 a2).thm = s.thm := rfl
@[simp] theorem State.setPort_glb {s : State} {a1 a2} : (State.setPort s a1 a2).glb = s.glb := rfl
@[simp] theorem State.setPort_img {s : State} {a1 a2} : (State.setPort s a1 a2).img = s.img := rfl
@[simp] theorem State.setPort_tim {s : State} {a1 a2} : (State.setPort s a1 a2).tim = s.tim := rfl
@[simp] theorem State.setPort_loopA {s : State} {a1 a2} : (State.setPort s a1 a2).loopA = s.loopA := rfl
@[simp] theorem State.setPort_loopB {s : State} {a1 a2} : (State.setPort s a1 a2).loopB = s.loopB := rfl
@[simp] theorem State.setPort_loopS {s : State} {a1 a2} : (State.setPort s a1 a2).loopS = s.loopS := rfl
@[simp] theorem State.setPort_drv {s : State} {a1 a2} : (State.setPort s a1 a2).drv = s.drv := rfl
@[simp] theorem State.setPort_adc {s : State} {a1 a2} : (State.setPort s a1 a2).adc = s.adc := rfl
@[simp] theorem State.setPort_mtx {s : State} {a1 a2} : (State.setPort s a1 a2).mtx = s.mtx := rfl
@[simp] theorem State.setPort_cal {s : State} {a1 a2} : (State.setPort s a1 a2).cal = s.cal := rfl
@[simp] theorem State.setPort_red {s : State} {a1 a2} : (State.setPort s a1 a2).red = s.red := rfl
@[simp] theorem State.setPort_acq {s : State} {a1 a2} : (State.setPort s a1 a2).acq = s.acq := rfl
@[simp] theorem State.setPort_slt {s : State} {a1 a2} : (State.setPort s a1 a2).slt = s.slt := rfl
@[simp] theorem State.setPort_brt {s : State} {a1 a2} : (State.setPort s a1 a2).brt = s.brt := rfl
@[simp] theorem State.setPort_pkts {s : State} {a1 a2} : (State.setPort s a1 a2).pkts = s.pkts := rfl
@[simp] theorem State.setPort_nextPkt {s : State} {a1 a2} : (State.setPort s a1 a2).nextPkt = s.nextPkt := rfl
@[simp] theorem State.setPort_chips {s : State} {a1 a2} : (State.setPort s a1 a2).chips = s.chips := rfl
@[simp] theorem State.setPort_xing {s : State} {a1 a2} : (State.setPort s a1 a2).xing = s.xing := rfl
@[simp] theorem State.setPkt_pending {s : State} {a1 a2} : (State.setPkt s a1 a2).pending = s.pending := rfl
@[simp] theorem State.setPkt_freeCtr {s : State} {a1 a2} : (State.setPkt s a1 a2).freeCtr = s.freeCtr := rfl
@[simp] theorem State.setPkt_regs {s : State} {a1 a2} : (State.setPkt s a1 a2).regs = s.regs := rfl
@[simp] theorem State.setPkt_ctrs {s : State} {a1 a2} : (State.setPkt s a1 a2).ctrs = s.ctrs := rfl
@[simp] theorem State.setPkt_highLatch {s : State} {a1 a2} : (State.setPkt s a1 a2).highLatch = s.highLatch := rfl
@[simp] theorem State.setPkt_cmd {s : State} {a1 a2} : (State.setPkt s a1 a2).cmd = s.cmd := rfl
@[simp] theorem State.setPkt_sec {s : State} {a1 a2} : (State.setPkt s a1 a2).sec = s.sec := rfl
@[simp] theorem State.setPkt_flt {s : State} {a1 a2} : (State.setPkt s a1 a2).flt = s.flt := rfl
@[simp] theorem State.setPkt_thm {s : State} {a1 a2} : (State.setPkt s a1 a2).thm = s.thm := rfl
@[simp] theorem State.setPkt_glb {s : State} {a1 a2} : (State.setPkt s a1 a2).glb = s.glb := rfl
@[simp] theorem State.setPkt_img {s : State} {a1 a2} : (State.setPkt s a1 a2).img = s.img := rfl
@[simp] theorem State.setPkt_tim {s : State} {a1 a2} : (State.setPkt s a1 a2).tim = s.tim := rfl
@[simp] theorem State.setPkt_loopA {s : State} {a1 a2} : (State.setPkt s a1 a2).loopA = s.loopA := rfl
@[simp] theorem State.setPkt_loopB {s : State} {a1 a2} : (State.setPkt s a1 a2).loopB = s.loopB := rfl
@[simp] theorem State.setPkt_loopS {s : State} {a1 a2} : (State.setPkt s a1 a2).loopS = s.loopS := rfl
@[simp] theorem State.setPkt_drv {s : State} {a1 a2} : (State.setPkt s a1 a2).drv = s.drv := rfl
@[simp] theorem State.setPkt_adc {s : State} {a1 a2} : (State.setPkt s a1 a2).adc = s.adc := rfl
@[simp] theorem State.setPkt_mtx {s : State} {a1 a2} : (State.setPkt s a1 a2).mtx = s.mtx := rfl
@[simp] theorem State.setPkt_cal {s : State} {a1 a2} : (State.setPkt s a1 a2).cal = s.cal := rfl
@[simp] theorem State.setPkt_red {s : State} {a1 a2} : (State.setPkt s a1 a2).red = s.red := rfl
@[simp] theorem State.setPkt_acq {s : State} {a1 a2} : (State.setPkt s a1 a2).acq = s.acq := rfl
@[simp] theorem State.setPkt_slt {s : State} {a1 a2} : (State.setPkt s a1 a2).slt = s.slt := rfl
@[simp] theorem State.setPkt_brt {s : State} {a1 a2} : (State.setPkt s a1 a2).brt = s.brt := rfl
@[simp] theorem State.setPkt_nextPkt {s : State} {a1 a2} : (State.setPkt s a1 a2).nextPkt = s.nextPkt := rfl
@[simp] theorem State.setPkt_ports {s : State} {a1 a2} : (State.setPkt s a1 a2).ports = s.ports := rfl
@[simp] theorem State.setPkt_chips {s : State} {a1 a2} : (State.setPkt s a1 a2).chips = s.chips := rfl
@[simp] theorem State.setPkt_xing {s : State} {a1 a2} : (State.setPkt s a1 a2).xing = s.xing := rfl
@[simp] theorem State.dropPkt_pending {s : State} {a1} : (State.dropPkt s a1).pending = s.pending := rfl
@[simp] theorem State.dropPkt_freeCtr {s : State} {a1} : (State.dropPkt s a1).freeCtr = s.freeCtr := rfl
@[simp] theorem State.dropPkt_regs {s : State} {a1} : (State.dropPkt s a1).regs = s.regs := rfl
@[simp] theorem State.dropPkt_ctrs {s : State} {a1} : (State.dropPkt s a1).ctrs = s.ctrs := rfl
@[simp] theorem State.dropPkt_highLatch {s : State} {a1} : (State.dropPkt s a1).highLatch = s.highLatch := rfl
@[simp] theorem State.dropPkt_cmd {s : State} {a1} : (State.dropPkt s a1).cmd = s.cmd := rfl
@[simp] theorem State.dropPkt_sec {s : State} {a1} : (State.dropPkt s a1).sec = s.sec := rfl
@[simp] theorem State.dropPkt_flt {s : State} {a1} : (State.dropPkt s a1).flt = s.flt := rfl
@[simp] theorem State.dropPkt_thm {s : State} {a1} : (State.dropPkt s a1).thm = s.thm := rfl
@[simp] theorem State.dropPkt_glb {s : State} {a1} : (State.dropPkt s a1).glb = s.glb := rfl
@[simp] theorem State.dropPkt_img {s : State} {a1} : (State.dropPkt s a1).img = s.img := rfl
@[simp] theorem State.dropPkt_tim {s : State} {a1} : (State.dropPkt s a1).tim = s.tim := rfl
@[simp] theorem State.dropPkt_loopA {s : State} {a1} : (State.dropPkt s a1).loopA = s.loopA := rfl
@[simp] theorem State.dropPkt_loopB {s : State} {a1} : (State.dropPkt s a1).loopB = s.loopB := rfl
@[simp] theorem State.dropPkt_loopS {s : State} {a1} : (State.dropPkt s a1).loopS = s.loopS := rfl
@[simp] theorem State.dropPkt_drv {s : State} {a1} : (State.dropPkt s a1).drv = s.drv := rfl
@[simp] theorem State.dropPkt_adc {s : State} {a1} : (State.dropPkt s a1).adc = s.adc := rfl
@[simp] theorem State.dropPkt_mtx {s : State} {a1} : (State.dropPkt s a1).mtx = s.mtx := rfl
@[simp] theorem State.dropPkt_cal {s : State} {a1} : (State.dropPkt s a1).cal = s.cal := rfl
@[simp] theorem State.dropPkt_red {s : State} {a1} : (State.dropPkt s a1).red = s.red := rfl
@[simp] theorem State.dropPkt_acq {s : State} {a1} : (State.dropPkt s a1).acq = s.acq := rfl
@[simp] theorem State.dropPkt_slt {s : State} {a1} : (State.dropPkt s a1).slt = s.slt := rfl
@[simp] theorem State.dropPkt_brt {s : State} {a1} : (State.dropPkt s a1).brt = s.brt := rfl
@[simp] theorem State.dropPkt_nextPkt {s : State} {a1} : (State.dropPkt s a1).nextPkt = s.nextPkt := rfl
@[simp] theorem State.dropPkt_ports {s : State} {a1} : (State.dropPkt s a1).ports = s.ports := rfl
@[simp] theorem State.dropPkt_chips {s : State} {a1} : (State.dropPkt s a1).chips = s.chips := rfl
@[simp] theorem State.dropPkt_xing {s : State} {a1} : (State.dropPkt s a1).xing = s.xing := rfl
@[simp] theorem State.setCredits_pending {s : State} {a1 a2} : (State.setCredits s a1 a2).pending = s.pending := rfl
@[simp] theorem State.setCredits_freeCtr {s : State} {a1 a2} : (State.setCredits s a1 a2).freeCtr = s.freeCtr := rfl
@[simp] theorem State.setCredits_regs {s : State} {a1 a2} : (State.setCredits s a1 a2).regs = s.regs := rfl
@[simp] theorem State.setCredits_ctrs {s : State} {a1 a2} : (State.setCredits s a1 a2).ctrs = s.ctrs := rfl
@[simp] theorem State.setCredits_highLatch {s : State} {a1 a2} :
    (State.setCredits s a1 a2).highLatch = s.highLatch := rfl
@[simp] theorem State.setCredits_cmd {s : State} {a1 a2} : (State.setCredits s a1 a2).cmd = s.cmd := rfl
@[simp] theorem State.setCredits_sec {s : State} {a1 a2} : (State.setCredits s a1 a2).sec = s.sec := rfl
@[simp] theorem State.setCredits_flt {s : State} {a1 a2} : (State.setCredits s a1 a2).flt = s.flt := rfl
@[simp] theorem State.setCredits_thm {s : State} {a1 a2} : (State.setCredits s a1 a2).thm = s.thm := rfl
@[simp] theorem State.setCredits_glb {s : State} {a1 a2} : (State.setCredits s a1 a2).glb = s.glb := rfl
@[simp] theorem State.setCredits_img {s : State} {a1 a2} : (State.setCredits s a1 a2).img = s.img := rfl
@[simp] theorem State.setCredits_tim {s : State} {a1 a2} : (State.setCredits s a1 a2).tim = s.tim := rfl
@[simp] theorem State.setCredits_loopA {s : State} {a1 a2} : (State.setCredits s a1 a2).loopA = s.loopA := rfl
@[simp] theorem State.setCredits_loopB {s : State} {a1 a2} : (State.setCredits s a1 a2).loopB = s.loopB := rfl
@[simp] theorem State.setCredits_loopS {s : State} {a1 a2} : (State.setCredits s a1 a2).loopS = s.loopS := rfl
@[simp] theorem State.setCredits_drv {s : State} {a1 a2} : (State.setCredits s a1 a2).drv = s.drv := rfl
@[simp] theorem State.setCredits_adc {s : State} {a1 a2} : (State.setCredits s a1 a2).adc = s.adc := rfl
@[simp] theorem State.setCredits_mtx {s : State} {a1 a2} : (State.setCredits s a1 a2).mtx = s.mtx := rfl
@[simp] theorem State.setCredits_cal {s : State} {a1 a2} : (State.setCredits s a1 a2).cal = s.cal := rfl
@[simp] theorem State.setCredits_red {s : State} {a1 a2} : (State.setCredits s a1 a2).red = s.red := rfl
@[simp] theorem State.setCredits_acq {s : State} {a1 a2} : (State.setCredits s a1 a2).acq = s.acq := rfl
@[simp] theorem State.setCredits_slt {s : State} {a1 a2} : (State.setCredits s a1 a2).slt = s.slt := rfl
@[simp] theorem State.setCredits_pkts {s : State} {a1 a2} : (State.setCredits s a1 a2).pkts = s.pkts := rfl
@[simp] theorem State.setCredits_nextPkt {s : State} {a1 a2} : (State.setCredits s a1 a2).nextPkt = s.nextPkt := rfl
@[simp] theorem State.setCredits_ports {s : State} {a1 a2} : (State.setCredits s a1 a2).ports = s.ports := rfl
@[simp] theorem State.setCredits_chips {s : State} {a1 a2} : (State.setCredits s a1 a2).chips = s.chips := rfl
@[simp] theorem State.setCredits_xing {s : State} {a1 a2} : (State.setCredits s a1 a2).xing = s.xing := rfl
@[simp] theorem State.setEgrPair_pending {s : State} {a1 a2 a3} :
    (State.setEgrPair s a1 a2 a3).pending = s.pending := rfl
@[simp] theorem State.setEgrPair_freeCtr {s : State} {a1 a2 a3} :
    (State.setEgrPair s a1 a2 a3).freeCtr = s.freeCtr := rfl
@[simp] theorem State.setEgrPair_regs {s : State} {a1 a2 a3} : (State.setEgrPair s a1 a2 a3).regs = s.regs := rfl
@[simp] theorem State.setEgrPair_ctrs {s : State} {a1 a2 a3} : (State.setEgrPair s a1 a2 a3).ctrs = s.ctrs := rfl
@[simp] theorem State.setEgrPair_highLatch {s : State} {a1 a2 a3} :
    (State.setEgrPair s a1 a2 a3).highLatch = s.highLatch := rfl
@[simp] theorem State.setEgrPair_cmd {s : State} {a1 a2 a3} : (State.setEgrPair s a1 a2 a3).cmd = s.cmd := rfl
@[simp] theorem State.setEgrPair_sec {s : State} {a1 a2 a3} : (State.setEgrPair s a1 a2 a3).sec = s.sec := rfl
@[simp] theorem State.setEgrPair_flt {s : State} {a1 a2 a3} : (State.setEgrPair s a1 a2 a3).flt = s.flt := rfl
@[simp] theorem State.setEgrPair_thm {s : State} {a1 a2 a3} : (State.setEgrPair s a1 a2 a3).thm = s.thm := rfl
@[simp] theorem State.setEgrPair_glb {s : State} {a1 a2 a3} : (State.setEgrPair s a1 a2 a3).glb = s.glb := rfl
@[simp] theorem State.setEgrPair_img {s : State} {a1 a2 a3} : (State.setEgrPair s a1 a2 a3).img = s.img := rfl
@[simp] theorem State.setEgrPair_tim {s : State} {a1 a2 a3} : (State.setEgrPair s a1 a2 a3).tim = s.tim := rfl
@[simp] theorem State.setEgrPair_loopA {s : State} {a1 a2 a3} : (State.setEgrPair s a1 a2 a3).loopA = s.loopA := rfl
@[simp] theorem State.setEgrPair_loopB {s : State} {a1 a2 a3} : (State.setEgrPair s a1 a2 a3).loopB = s.loopB := rfl
@[simp] theorem State.setEgrPair_loopS {s : State} {a1 a2 a3} : (State.setEgrPair s a1 a2 a3).loopS = s.loopS := rfl
@[simp] theorem State.setEgrPair_drv {s : State} {a1 a2 a3} : (State.setEgrPair s a1 a2 a3).drv = s.drv := rfl
@[simp] theorem State.setEgrPair_adc {s : State} {a1 a2 a3} : (State.setEgrPair s a1 a2 a3).adc = s.adc := rfl
@[simp] theorem State.setEgrPair_mtx {s : State} {a1 a2 a3} : (State.setEgrPair s a1 a2 a3).mtx = s.mtx := rfl
@[simp] theorem State.setEgrPair_cal {s : State} {a1 a2 a3} : (State.setEgrPair s a1 a2 a3).cal = s.cal := rfl
@[simp] theorem State.setEgrPair_red {s : State} {a1 a2 a3} : (State.setEgrPair s a1 a2 a3).red = s.red := rfl
@[simp] theorem State.setEgrPair_acq {s : State} {a1 a2 a3} : (State.setEgrPair s a1 a2 a3).acq = s.acq := rfl
@[simp] theorem State.setEgrPair_slt {s : State} {a1 a2 a3} : (State.setEgrPair s a1 a2 a3).slt = s.slt := rfl
@[simp] theorem State.setEgrPair_pkts {s : State} {a1 a2 a3} : (State.setEgrPair s a1 a2 a3).pkts = s.pkts := rfl
@[simp] theorem State.setEgrPair_nextPkt {s : State} {a1 a2 a3} :
    (State.setEgrPair s a1 a2 a3).nextPkt = s.nextPkt := rfl
@[simp] theorem State.setEgrPair_ports {s : State} {a1 a2 a3} : (State.setEgrPair s a1 a2 a3).ports = s.ports := rfl
@[simp] theorem State.setEgrPair_chips {s : State} {a1 a2 a3} : (State.setEgrPair s a1 a2 a3).chips = s.chips := rfl
@[simp] theorem State.setEgrPair_xing {s : State} {a1 a2 a3} : (State.setEgrPair s a1 a2 a3).xing = s.xing := rfl
@[simp] theorem State.setIngPair_pending {s : State} {a1 a2 a3} :
    (State.setIngPair s a1 a2 a3).pending = s.pending := rfl
@[simp] theorem State.setIngPair_freeCtr {s : State} {a1 a2 a3} :
    (State.setIngPair s a1 a2 a3).freeCtr = s.freeCtr := rfl
@[simp] theorem State.setIngPair_regs {s : State} {a1 a2 a3} : (State.setIngPair s a1 a2 a3).regs = s.regs := rfl
@[simp] theorem State.setIngPair_ctrs {s : State} {a1 a2 a3} : (State.setIngPair s a1 a2 a3).ctrs = s.ctrs := rfl
@[simp] theorem State.setIngPair_highLatch {s : State} {a1 a2 a3} :
    (State.setIngPair s a1 a2 a3).highLatch = s.highLatch := rfl
@[simp] theorem State.setIngPair_cmd {s : State} {a1 a2 a3} : (State.setIngPair s a1 a2 a3).cmd = s.cmd := rfl
@[simp] theorem State.setIngPair_sec {s : State} {a1 a2 a3} : (State.setIngPair s a1 a2 a3).sec = s.sec := rfl
@[simp] theorem State.setIngPair_flt {s : State} {a1 a2 a3} : (State.setIngPair s a1 a2 a3).flt = s.flt := rfl
@[simp] theorem State.setIngPair_thm {s : State} {a1 a2 a3} : (State.setIngPair s a1 a2 a3).thm = s.thm := rfl
@[simp] theorem State.setIngPair_glb {s : State} {a1 a2 a3} : (State.setIngPair s a1 a2 a3).glb = s.glb := rfl
@[simp] theorem State.setIngPair_img {s : State} {a1 a2 a3} : (State.setIngPair s a1 a2 a3).img = s.img := rfl
@[simp] theorem State.setIngPair_tim {s : State} {a1 a2 a3} : (State.setIngPair s a1 a2 a3).tim = s.tim := rfl
@[simp] theorem State.setIngPair_loopA {s : State} {a1 a2 a3} : (State.setIngPair s a1 a2 a3).loopA = s.loopA := rfl
@[simp] theorem State.setIngPair_loopB {s : State} {a1 a2 a3} : (State.setIngPair s a1 a2 a3).loopB = s.loopB := rfl
@[simp] theorem State.setIngPair_loopS {s : State} {a1 a2 a3} : (State.setIngPair s a1 a2 a3).loopS = s.loopS := rfl
@[simp] theorem State.setIngPair_drv {s : State} {a1 a2 a3} : (State.setIngPair s a1 a2 a3).drv = s.drv := rfl
@[simp] theorem State.setIngPair_adc {s : State} {a1 a2 a3} : (State.setIngPair s a1 a2 a3).adc = s.adc := rfl
@[simp] theorem State.setIngPair_mtx {s : State} {a1 a2 a3} : (State.setIngPair s a1 a2 a3).mtx = s.mtx := rfl
@[simp] theorem State.setIngPair_cal {s : State} {a1 a2 a3} : (State.setIngPair s a1 a2 a3).cal = s.cal := rfl
@[simp] theorem State.setIngPair_red {s : State} {a1 a2 a3} : (State.setIngPair s a1 a2 a3).red = s.red := rfl
@[simp] theorem State.setIngPair_acq {s : State} {a1 a2 a3} : (State.setIngPair s a1 a2 a3).acq = s.acq := rfl
@[simp] theorem State.setIngPair_slt {s : State} {a1 a2 a3} : (State.setIngPair s a1 a2 a3).slt = s.slt := rfl
@[simp] theorem State.setIngPair_pkts {s : State} {a1 a2 a3} : (State.setIngPair s a1 a2 a3).pkts = s.pkts := rfl
@[simp] theorem State.setIngPair_nextPkt {s : State} {a1 a2 a3} :
    (State.setIngPair s a1 a2 a3).nextPkt = s.nextPkt := rfl
@[simp] theorem State.setIngPair_ports {s : State} {a1 a2 a3} : (State.setIngPair s a1 a2 a3).ports = s.ports := rfl
@[simp] theorem State.setIngPair_chips {s : State} {a1 a2 a3} : (State.setIngPair s a1 a2 a3).chips = s.chips := rfl
@[simp] theorem State.setIngPair_xing {s : State} {a1 a2 a3} : (State.setIngPair s a1 a2 a3).xing = s.xing := rfl
@[simp] theorem State.setRx_pending {s : State} {a1 a2} : (State.setRx s a1 a2).pending = s.pending := rfl
@[simp] theorem State.setRx_freeCtr {s : State} {a1 a2} : (State.setRx s a1 a2).freeCtr = s.freeCtr := rfl
@[simp] theorem State.setRx_regs {s : State} {a1 a2} : (State.setRx s a1 a2).regs = s.regs := rfl
@[simp] theorem State.setRx_ctrs {s : State} {a1 a2} : (State.setRx s a1 a2).ctrs = s.ctrs := rfl
@[simp] theorem State.setRx_highLatch {s : State} {a1 a2} : (State.setRx s a1 a2).highLatch = s.highLatch := rfl
@[simp] theorem State.setRx_cmd {s : State} {a1 a2} : (State.setRx s a1 a2).cmd = s.cmd := rfl
@[simp] theorem State.setRx_sec {s : State} {a1 a2} : (State.setRx s a1 a2).sec = s.sec := rfl
@[simp] theorem State.setRx_flt {s : State} {a1 a2} : (State.setRx s a1 a2).flt = s.flt := rfl
@[simp] theorem State.setRx_thm {s : State} {a1 a2} : (State.setRx s a1 a2).thm = s.thm := rfl
@[simp] theorem State.setRx_glb {s : State} {a1 a2} : (State.setRx s a1 a2).glb = s.glb := rfl
@[simp] theorem State.setRx_img {s : State} {a1 a2} : (State.setRx s a1 a2).img = s.img := rfl
@[simp] theorem State.setRx_tim {s : State} {a1 a2} : (State.setRx s a1 a2).tim = s.tim := rfl
@[simp] theorem State.setRx_loopA {s : State} {a1 a2} : (State.setRx s a1 a2).loopA = s.loopA := rfl
@[simp] theorem State.setRx_loopB {s : State} {a1 a2} : (State.setRx s a1 a2).loopB = s.loopB := rfl
@[simp] theorem State.setRx_loopS {s : State} {a1 a2} : (State.setRx s a1 a2).loopS = s.loopS := rfl
@[simp] theorem State.setRx_drv {s : State} {a1 a2} : (State.setRx s a1 a2).drv = s.drv := rfl
@[simp] theorem State.setRx_adc {s : State} {a1 a2} : (State.setRx s a1 a2).adc = s.adc := rfl
@[simp] theorem State.setRx_mtx {s : State} {a1 a2} : (State.setRx s a1 a2).mtx = s.mtx := rfl
@[simp] theorem State.setRx_cal {s : State} {a1 a2} : (State.setRx s a1 a2).cal = s.cal := rfl
@[simp] theorem State.setRx_red {s : State} {a1 a2} : (State.setRx s a1 a2).red = s.red := rfl
@[simp] theorem State.setRx_acq {s : State} {a1 a2} : (State.setRx s a1 a2).acq = s.acq := rfl
@[simp] theorem State.setRx_slt {s : State} {a1 a2} : (State.setRx s a1 a2).slt = s.slt := rfl
@[simp] theorem State.setRx_pkts {s : State} {a1 a2} : (State.setRx s a1 a2).pkts = s.pkts := rfl
@[simp] theorem State.setRx_nextPkt {s : State} {a1 a2} : (State.setRx s a1 a2).nextPkt = s.nextPkt := rfl
@[simp] theorem State.setRx_ports {s : State} {a1 a2} : (State.setRx s a1 a2).ports = s.ports := rfl
@[simp] theorem State.setRx_chips {s : State} {a1 a2} : (State.setRx s a1 a2).chips = s.chips := rfl
@[simp] theorem State.setRx_xing {s : State} {a1 a2} : (State.setRx s a1 a2).xing = s.xing := rfl
@[simp] theorem State.setZone_pending {s : State} {a1 a2} : (State.setZone s a1 a2).pending = s.pending := rfl
@[simp] theorem State.setZone_freeCtr {s : State} {a1 a2} : (State.setZone s a1 a2).freeCtr = s.freeCtr := rfl
@[simp] theorem State.setZone_regs {s : State} {a1 a2} : (State.setZone s a1 a2).regs = s.regs := rfl
@[simp] theorem State.setZone_ctrs {s : State} {a1 a2} : (State.setZone s a1 a2).ctrs = s.ctrs := rfl
@[simp] theorem State.setZone_highLatch {s : State} {a1 a2} : (State.setZone s a1 a2).highLatch = s.highLatch := rfl
@[simp] theorem State.setZone_cmd {s : State} {a1 a2} : (State.setZone s a1 a2).cmd = s.cmd := rfl
@[simp] theorem State.setZone_sec {s : State} {a1 a2} : (State.setZone s a1 a2).sec = s.sec := rfl
@[simp] theorem State.setZone_flt {s : State} {a1 a2} : (State.setZone s a1 a2).flt = s.flt := rfl
@[simp] theorem State.setZone_glb {s : State} {a1 a2} : (State.setZone s a1 a2).glb = s.glb := rfl
@[simp] theorem State.setZone_img {s : State} {a1 a2} : (State.setZone s a1 a2).img = s.img := rfl
@[simp] theorem State.setZone_tim {s : State} {a1 a2} : (State.setZone s a1 a2).tim = s.tim := rfl
@[simp] theorem State.setZone_loopA {s : State} {a1 a2} : (State.setZone s a1 a2).loopA = s.loopA := rfl
@[simp] theorem State.setZone_loopB {s : State} {a1 a2} : (State.setZone s a1 a2).loopB = s.loopB := rfl
@[simp] theorem State.setZone_loopS {s : State} {a1 a2} : (State.setZone s a1 a2).loopS = s.loopS := rfl
@[simp] theorem State.setZone_drv {s : State} {a1 a2} : (State.setZone s a1 a2).drv = s.drv := rfl
@[simp] theorem State.setZone_adc {s : State} {a1 a2} : (State.setZone s a1 a2).adc = s.adc := rfl
@[simp] theorem State.setZone_mtx {s : State} {a1 a2} : (State.setZone s a1 a2).mtx = s.mtx := rfl
@[simp] theorem State.setZone_cal {s : State} {a1 a2} : (State.setZone s a1 a2).cal = s.cal := rfl
@[simp] theorem State.setZone_red {s : State} {a1 a2} : (State.setZone s a1 a2).red = s.red := rfl
@[simp] theorem State.setZone_acq {s : State} {a1 a2} : (State.setZone s a1 a2).acq = s.acq := rfl
@[simp] theorem State.setZone_slt {s : State} {a1 a2} : (State.setZone s a1 a2).slt = s.slt := rfl
@[simp] theorem State.setZone_brt {s : State} {a1 a2} : (State.setZone s a1 a2).brt = s.brt := rfl
@[simp] theorem State.setZone_pkts {s : State} {a1 a2} : (State.setZone s a1 a2).pkts = s.pkts := rfl
@[simp] theorem State.setZone_nextPkt {s : State} {a1 a2} : (State.setZone s a1 a2).nextPkt = s.nextPkt := rfl
@[simp] theorem State.setZone_ports {s : State} {a1 a2} : (State.setZone s a1 a2).ports = s.ports := rfl
@[simp] theorem State.setZone_chips {s : State} {a1 a2} : (State.setZone s a1 a2).chips = s.chips := rfl
@[simp] theorem State.setZone_xing {s : State} {a1 a2} : (State.setZone s a1 a2).xing = s.xing := rfl
@[simp] theorem State.setFltRecord_pending {s : State} {a1 a2} :
    (State.setFltRecord s a1 a2).pending = s.pending := rfl
@[simp] theorem State.setFltRecord_freeCtr {s : State} {a1 a2} :
    (State.setFltRecord s a1 a2).freeCtr = s.freeCtr := rfl
@[simp] theorem State.setFltRecord_regs {s : State} {a1 a2} : (State.setFltRecord s a1 a2).regs = s.regs := rfl
@[simp] theorem State.setFltRecord_ctrs {s : State} {a1 a2} : (State.setFltRecord s a1 a2).ctrs = s.ctrs := rfl
@[simp] theorem State.setFltRecord_highLatch {s : State} {a1 a2} :
    (State.setFltRecord s a1 a2).highLatch = s.highLatch := rfl
@[simp] theorem State.setFltRecord_cmd {s : State} {a1 a2} : (State.setFltRecord s a1 a2).cmd = s.cmd := rfl
@[simp] theorem State.setFltRecord_sec {s : State} {a1 a2} : (State.setFltRecord s a1 a2).sec = s.sec := rfl
@[simp] theorem State.setFltRecord_thm {s : State} {a1 a2} : (State.setFltRecord s a1 a2).thm = s.thm := rfl
@[simp] theorem State.setFltRecord_glb {s : State} {a1 a2} : (State.setFltRecord s a1 a2).glb = s.glb := rfl
@[simp] theorem State.setFltRecord_img {s : State} {a1 a2} : (State.setFltRecord s a1 a2).img = s.img := rfl
@[simp] theorem State.setFltRecord_tim {s : State} {a1 a2} : (State.setFltRecord s a1 a2).tim = s.tim := rfl
@[simp] theorem State.setFltRecord_loopA {s : State} {a1 a2} : (State.setFltRecord s a1 a2).loopA = s.loopA := rfl
@[simp] theorem State.setFltRecord_loopB {s : State} {a1 a2} : (State.setFltRecord s a1 a2).loopB = s.loopB := rfl
@[simp] theorem State.setFltRecord_loopS {s : State} {a1 a2} : (State.setFltRecord s a1 a2).loopS = s.loopS := rfl
@[simp] theorem State.setFltRecord_drv {s : State} {a1 a2} : (State.setFltRecord s a1 a2).drv = s.drv := rfl
@[simp] theorem State.setFltRecord_adc {s : State} {a1 a2} : (State.setFltRecord s a1 a2).adc = s.adc := rfl
@[simp] theorem State.setFltRecord_mtx {s : State} {a1 a2} : (State.setFltRecord s a1 a2).mtx = s.mtx := rfl
@[simp] theorem State.setFltRecord_cal {s : State} {a1 a2} : (State.setFltRecord s a1 a2).cal = s.cal := rfl
@[simp] theorem State.setFltRecord_red {s : State} {a1 a2} : (State.setFltRecord s a1 a2).red = s.red := rfl
@[simp] theorem State.setFltRecord_acq {s : State} {a1 a2} : (State.setFltRecord s a1 a2).acq = s.acq := rfl
@[simp] theorem State.setFltRecord_slt {s : State} {a1 a2} : (State.setFltRecord s a1 a2).slt = s.slt := rfl
@[simp] theorem State.setFltRecord_brt {s : State} {a1 a2} : (State.setFltRecord s a1 a2).brt = s.brt := rfl
@[simp] theorem State.setFltRecord_pkts {s : State} {a1 a2} : (State.setFltRecord s a1 a2).pkts = s.pkts := rfl
@[simp] theorem State.setFltRecord_nextPkt {s : State} {a1 a2} :
    (State.setFltRecord s a1 a2).nextPkt = s.nextPkt := rfl
@[simp] theorem State.setFltRecord_ports {s : State} {a1 a2} : (State.setFltRecord s a1 a2).ports = s.ports := rfl
@[simp] theorem State.setFltRecord_chips {s : State} {a1 a2} : (State.setFltRecord s a1 a2).chips = s.chips := rfl
@[simp] theorem State.setFltRecord_xing {s : State} {a1 a2} : (State.setFltRecord s a1 a2).xing = s.xing := rfl
@[simp] theorem State.setCrossing_pending {s : State} {a1 a2} : (State.setCrossing s a1 a2).pending = s.pending := rfl
@[simp] theorem State.setCrossing_freeCtr {s : State} {a1 a2} : (State.setCrossing s a1 a2).freeCtr = s.freeCtr := rfl
@[simp] theorem State.setCrossing_regs {s : State} {a1 a2} : (State.setCrossing s a1 a2).regs = s.regs := rfl
@[simp] theorem State.setCrossing_ctrs {s : State} {a1 a2} : (State.setCrossing s a1 a2).ctrs = s.ctrs := rfl
@[simp] theorem State.setCrossing_highLatch {s : State} {a1 a2} :
    (State.setCrossing s a1 a2).highLatch = s.highLatch := rfl
@[simp] theorem State.setCrossing_cmd {s : State} {a1 a2} : (State.setCrossing s a1 a2).cmd = s.cmd := rfl
@[simp] theorem State.setCrossing_sec {s : State} {a1 a2} : (State.setCrossing s a1 a2).sec = s.sec := rfl
@[simp] theorem State.setCrossing_flt {s : State} {a1 a2} : (State.setCrossing s a1 a2).flt = s.flt := rfl
@[simp] theorem State.setCrossing_thm {s : State} {a1 a2} : (State.setCrossing s a1 a2).thm = s.thm := rfl
@[simp] theorem State.setCrossing_glb {s : State} {a1 a2} : (State.setCrossing s a1 a2).glb = s.glb := rfl
@[simp] theorem State.setCrossing_img {s : State} {a1 a2} : (State.setCrossing s a1 a2).img = s.img := rfl
@[simp] theorem State.setCrossing_tim {s : State} {a1 a2} : (State.setCrossing s a1 a2).tim = s.tim := rfl
@[simp] theorem State.setCrossing_loopA {s : State} {a1 a2} : (State.setCrossing s a1 a2).loopA = s.loopA := rfl
@[simp] theorem State.setCrossing_loopB {s : State} {a1 a2} : (State.setCrossing s a1 a2).loopB = s.loopB := rfl
@[simp] theorem State.setCrossing_loopS {s : State} {a1 a2} : (State.setCrossing s a1 a2).loopS = s.loopS := rfl
@[simp] theorem State.setCrossing_drv {s : State} {a1 a2} : (State.setCrossing s a1 a2).drv = s.drv := rfl
@[simp] theorem State.setCrossing_adc {s : State} {a1 a2} : (State.setCrossing s a1 a2).adc = s.adc := rfl
@[simp] theorem State.setCrossing_mtx {s : State} {a1 a2} : (State.setCrossing s a1 a2).mtx = s.mtx := rfl
@[simp] theorem State.setCrossing_cal {s : State} {a1 a2} : (State.setCrossing s a1 a2).cal = s.cal := rfl
@[simp] theorem State.setCrossing_red {s : State} {a1 a2} : (State.setCrossing s a1 a2).red = s.red := rfl
@[simp] theorem State.setCrossing_acq {s : State} {a1 a2} : (State.setCrossing s a1 a2).acq = s.acq := rfl
@[simp] theorem State.setCrossing_slt {s : State} {a1 a2} : (State.setCrossing s a1 a2).slt = s.slt := rfl
@[simp] theorem State.setCrossing_brt {s : State} {a1 a2} : (State.setCrossing s a1 a2).brt = s.brt := rfl
@[simp] theorem State.setCrossing_pkts {s : State} {a1 a2} : (State.setCrossing s a1 a2).pkts = s.pkts := rfl
@[simp] theorem State.setCrossing_nextPkt {s : State} {a1 a2} : (State.setCrossing s a1 a2).nextPkt = s.nextPkt := rfl
@[simp] theorem State.setCrossing_ports {s : State} {a1 a2} : (State.setCrossing s a1 a2).ports = s.ports := rfl
@[simp] theorem State.setCrossing_chips {s : State} {a1 a2} : (State.setCrossing s a1 a2).chips = s.chips := rfl
@[simp] theorem State.setLatch_pending {s : State} {a1 a2 a3} : (State.setLatch s a1 a2 a3).pending = s.pending := rfl
@[simp] theorem State.setLatch_freeCtr {s : State} {a1 a2 a3} : (State.setLatch s a1 a2 a3).freeCtr = s.freeCtr := rfl
@[simp] theorem State.setLatch_regs {s : State} {a1 a2 a3} : (State.setLatch s a1 a2 a3).regs = s.regs := rfl
@[simp] theorem State.setLatch_ctrs {s : State} {a1 a2 a3} : (State.setLatch s a1 a2 a3).ctrs = s.ctrs := rfl
@[simp] theorem State.setLatch_cmd {s : State} {a1 a2 a3} : (State.setLatch s a1 a2 a3).cmd = s.cmd := rfl
@[simp] theorem State.setLatch_sec {s : State} {a1 a2 a3} : (State.setLatch s a1 a2 a3).sec = s.sec := rfl
@[simp] theorem State.setLatch_flt {s : State} {a1 a2 a3} : (State.setLatch s a1 a2 a3).flt = s.flt := rfl
@[simp] theorem State.setLatch_thm {s : State} {a1 a2 a3} : (State.setLatch s a1 a2 a3).thm = s.thm := rfl
@[simp] theorem State.setLatch_glb {s : State} {a1 a2 a3} : (State.setLatch s a1 a2 a3).glb = s.glb := rfl
@[simp] theorem State.setLatch_img {s : State} {a1 a2 a3} : (State.setLatch s a1 a2 a3).img = s.img := rfl
@[simp] theorem State.setLatch_tim {s : State} {a1 a2 a3} : (State.setLatch s a1 a2 a3).tim = s.tim := rfl
@[simp] theorem State.setLatch_loopA {s : State} {a1 a2 a3} : (State.setLatch s a1 a2 a3).loopA = s.loopA := rfl
@[simp] theorem State.setLatch_loopB {s : State} {a1 a2 a3} : (State.setLatch s a1 a2 a3).loopB = s.loopB := rfl
@[simp] theorem State.setLatch_loopS {s : State} {a1 a2 a3} : (State.setLatch s a1 a2 a3).loopS = s.loopS := rfl
@[simp] theorem State.setLatch_drv {s : State} {a1 a2 a3} : (State.setLatch s a1 a2 a3).drv = s.drv := rfl
@[simp] theorem State.setLatch_adc {s : State} {a1 a2 a3} : (State.setLatch s a1 a2 a3).adc = s.adc := rfl
@[simp] theorem State.setLatch_mtx {s : State} {a1 a2 a3} : (State.setLatch s a1 a2 a3).mtx = s.mtx := rfl
@[simp] theorem State.setLatch_cal {s : State} {a1 a2 a3} : (State.setLatch s a1 a2 a3).cal = s.cal := rfl
@[simp] theorem State.setLatch_red {s : State} {a1 a2 a3} : (State.setLatch s a1 a2 a3).red = s.red := rfl
@[simp] theorem State.setLatch_acq {s : State} {a1 a2 a3} : (State.setLatch s a1 a2 a3).acq = s.acq := rfl
@[simp] theorem State.setLatch_slt {s : State} {a1 a2 a3} : (State.setLatch s a1 a2 a3).slt = s.slt := rfl
@[simp] theorem State.setLatch_brt {s : State} {a1 a2 a3} : (State.setLatch s a1 a2 a3).brt = s.brt := rfl
@[simp] theorem State.setLatch_pkts {s : State} {a1 a2 a3} : (State.setLatch s a1 a2 a3).pkts = s.pkts := rfl
@[simp] theorem State.setLatch_nextPkt {s : State} {a1 a2 a3} : (State.setLatch s a1 a2 a3).nextPkt = s.nextPkt := rfl
@[simp] theorem State.setLatch_ports {s : State} {a1 a2 a3} : (State.setLatch s a1 a2 a3).ports = s.ports := rfl
@[simp] theorem State.setLatch_chips {s : State} {a1 a2 a3} : (State.setLatch s a1 a2 a3).chips = s.chips := rfl
@[simp] theorem State.setLatch_xing {s : State} {a1 a2 a3} : (State.setLatch s a1 a2 a3).xing = s.xing := rfl
@[simp] theorem State.setCalSet_pending {s : State} {a1 a2} : (State.setCalSet s a1 a2).pending = s.pending := rfl
@[simp] theorem State.setCalSet_freeCtr {s : State} {a1 a2} : (State.setCalSet s a1 a2).freeCtr = s.freeCtr := rfl
@[simp] theorem State.setCalSet_regs {s : State} {a1 a2} : (State.setCalSet s a1 a2).regs = s.regs := rfl
@[simp] theorem State.setCalSet_ctrs {s : State} {a1 a2} : (State.setCalSet s a1 a2).ctrs = s.ctrs := rfl
@[simp] theorem State.setCalSet_highLatch {s : State} {a1 a2} :
    (State.setCalSet s a1 a2).highLatch = s.highLatch := rfl
@[simp] theorem State.setCalSet_cmd {s : State} {a1 a2} : (State.setCalSet s a1 a2).cmd = s.cmd := rfl
@[simp] theorem State.setCalSet_sec {s : State} {a1 a2} : (State.setCalSet s a1 a2).sec = s.sec := rfl
@[simp] theorem State.setCalSet_flt {s : State} {a1 a2} : (State.setCalSet s a1 a2).flt = s.flt := rfl
@[simp] theorem State.setCalSet_thm {s : State} {a1 a2} : (State.setCalSet s a1 a2).thm = s.thm := rfl
@[simp] theorem State.setCalSet_glb {s : State} {a1 a2} : (State.setCalSet s a1 a2).glb = s.glb := rfl
@[simp] theorem State.setCalSet_img {s : State} {a1 a2} : (State.setCalSet s a1 a2).img = s.img := rfl
@[simp] theorem State.setCalSet_tim {s : State} {a1 a2} : (State.setCalSet s a1 a2).tim = s.tim := rfl
@[simp] theorem State.setCalSet_loopA {s : State} {a1 a2} : (State.setCalSet s a1 a2).loopA = s.loopA := rfl
@[simp] theorem State.setCalSet_loopB {s : State} {a1 a2} : (State.setCalSet s a1 a2).loopB = s.loopB := rfl
@[simp] theorem State.setCalSet_loopS {s : State} {a1 a2} : (State.setCalSet s a1 a2).loopS = s.loopS := rfl
@[simp] theorem State.setCalSet_drv {s : State} {a1 a2} : (State.setCalSet s a1 a2).drv = s.drv := rfl
@[simp] theorem State.setCalSet_adc {s : State} {a1 a2} : (State.setCalSet s a1 a2).adc = s.adc := rfl
@[simp] theorem State.setCalSet_mtx {s : State} {a1 a2} : (State.setCalSet s a1 a2).mtx = s.mtx := rfl
@[simp] theorem State.setCalSet_red {s : State} {a1 a2} : (State.setCalSet s a1 a2).red = s.red := rfl
@[simp] theorem State.setCalSet_acq {s : State} {a1 a2} : (State.setCalSet s a1 a2).acq = s.acq := rfl
@[simp] theorem State.setCalSet_slt {s : State} {a1 a2} : (State.setCalSet s a1 a2).slt = s.slt := rfl
@[simp] theorem State.setCalSet_brt {s : State} {a1 a2} : (State.setCalSet s a1 a2).brt = s.brt := rfl
@[simp] theorem State.setCalSet_pkts {s : State} {a1 a2} : (State.setCalSet s a1 a2).pkts = s.pkts := rfl
@[simp] theorem State.setCalSet_nextPkt {s : State} {a1 a2} : (State.setCalSet s a1 a2).nextPkt = s.nextPkt := rfl
@[simp] theorem State.setCalSet_ports {s : State} {a1 a2} : (State.setCalSet s a1 a2).ports = s.ports := rfl
@[simp] theorem State.setCalSet_chips {s : State} {a1 a2} : (State.setCalSet s a1 a2).chips = s.chips := rfl
@[simp] theorem State.setCalSet_xing {s : State} {a1 a2} : (State.setCalSet s a1 a2).xing = s.xing := rfl
@[simp] theorem State.putWork_pending {s : State} {a1} : (State.putWork s a1).pending = s.pending := rfl
@[simp] theorem State.putWork_freeCtr {s : State} {a1} : (State.putWork s a1).freeCtr = s.freeCtr := rfl
@[simp] theorem State.putWork_regs {s : State} {a1} : (State.putWork s a1).regs = s.regs := rfl
@[simp] theorem State.putWork_ctrs {s : State} {a1} : (State.putWork s a1).ctrs = s.ctrs := rfl
@[simp] theorem State.putWork_highLatch {s : State} {a1} : (State.putWork s a1).highLatch = s.highLatch := rfl
@[simp] theorem State.putWork_cmd {s : State} {a1} : (State.putWork s a1).cmd = s.cmd := rfl
@[simp] theorem State.putWork_sec {s : State} {a1} : (State.putWork s a1).sec = s.sec := rfl
@[simp] theorem State.putWork_flt {s : State} {a1} : (State.putWork s a1).flt = s.flt := rfl
@[simp] theorem State.putWork_thm {s : State} {a1} : (State.putWork s a1).thm = s.thm := rfl
@[simp] theorem State.putWork_glb {s : State} {a1} : (State.putWork s a1).glb = s.glb := rfl
@[simp] theorem State.putWork_img {s : State} {a1} : (State.putWork s a1).img = s.img := rfl
@[simp] theorem State.putWork_tim {s : State} {a1} : (State.putWork s a1).tim = s.tim := rfl
@[simp] theorem State.putWork_loopA {s : State} {a1} : (State.putWork s a1).loopA = s.loopA := rfl
@[simp] theorem State.putWork_loopB {s : State} {a1} : (State.putWork s a1).loopB = s.loopB := rfl
@[simp] theorem State.putWork_loopS {s : State} {a1} : (State.putWork s a1).loopS = s.loopS := rfl
@[simp] theorem State.putWork_drv {s : State} {a1} : (State.putWork s a1).drv = s.drv := rfl
@[simp] theorem State.putWork_adc {s : State} {a1} : (State.putWork s a1).adc = s.adc := rfl
@[simp] theorem State.putWork_mtx {s : State} {a1} : (State.putWork s a1).mtx = s.mtx := rfl
@[simp] theorem State.putWork_cal {s : State} {a1} : (State.putWork s a1).cal = s.cal := rfl
@[simp] theorem State.putWork_red {s : State} {a1} : (State.putWork s a1).red = s.red := rfl
@[simp] theorem State.putWork_acq {s : State} {a1} : (State.putWork s a1).acq = s.acq := rfl
@[simp] theorem State.putWork_brt {s : State} {a1} : (State.putWork s a1).brt = s.brt := rfl
@[simp] theorem State.putWork_pkts {s : State} {a1} : (State.putWork s a1).pkts = s.pkts := rfl
@[simp] theorem State.putWork_nextPkt {s : State} {a1} : (State.putWork s a1).nextPkt = s.nextPkt := rfl
@[simp] theorem State.putWork_ports {s : State} {a1} : (State.putWork s a1).ports = s.ports := rfl
@[simp] theorem State.putWork_chips {s : State} {a1} : (State.putWork s a1).chips = s.chips := rfl
@[simp] theorem State.putWork_xing {s : State} {a1} : (State.putWork s a1).xing = s.xing := rfl
@[simp] theorem State.setLoops_pending {s : State} {a1 a2} :
    (State.setLoops s a1 a2).pending = s.pending := by cases a1 <;> rfl
@[simp] theorem State.setLoops_freeCtr {s : State} {a1 a2} :
    (State.setLoops s a1 a2).freeCtr = s.freeCtr := by cases a1 <;> rfl
@[simp] theorem State.setLoops_regs {s : State} {a1 a2} :
    (State.setLoops s a1 a2).regs = s.regs := by cases a1 <;> rfl
@[simp] theorem State.setLoops_ctrs {s : State} {a1 a2} :
    (State.setLoops s a1 a2).ctrs = s.ctrs := by cases a1 <;> rfl
@[simp] theorem State.setLoops_highLatch {s : State} {a1 a2} :
    (State.setLoops s a1 a2).highLatch = s.highLatch := by cases a1 <;> rfl
@[simp] theorem State.setLoops_cmd {s : State} {a1 a2} : (State.setLoops s a1 a2).cmd = s.cmd := by cases a1 <;> rfl
@[simp] theorem State.setLoops_sec {s : State} {a1 a2} : (State.setLoops s a1 a2).sec = s.sec := by cases a1 <;> rfl
@[simp] theorem State.setLoops_flt {s : State} {a1 a2} : (State.setLoops s a1 a2).flt = s.flt := by cases a1 <;> rfl
@[simp] theorem State.setLoops_thm {s : State} {a1 a2} : (State.setLoops s a1 a2).thm = s.thm := by cases a1 <;> rfl
@[simp] theorem State.setLoops_glb {s : State} {a1 a2} : (State.setLoops s a1 a2).glb = s.glb := by cases a1 <;> rfl
@[simp] theorem State.setLoops_img {s : State} {a1 a2} : (State.setLoops s a1 a2).img = s.img := by cases a1 <;> rfl
@[simp] theorem State.setLoops_tim {s : State} {a1 a2} : (State.setLoops s a1 a2).tim = s.tim := by cases a1 <;> rfl
@[simp] theorem State.setLoops_loopS {s : State} {a1 a2} :
    (State.setLoops s a1 a2).loopS = s.loopS := by cases a1 <;> rfl
@[simp] theorem State.setLoops_drv {s : State} {a1 a2} : (State.setLoops s a1 a2).drv = s.drv := by cases a1 <;> rfl
@[simp] theorem State.setLoops_adc {s : State} {a1 a2} : (State.setLoops s a1 a2).adc = s.adc := by cases a1 <;> rfl
@[simp] theorem State.setLoops_mtx {s : State} {a1 a2} : (State.setLoops s a1 a2).mtx = s.mtx := by cases a1 <;> rfl
@[simp] theorem State.setLoops_cal {s : State} {a1 a2} : (State.setLoops s a1 a2).cal = s.cal := by cases a1 <;> rfl
@[simp] theorem State.setLoops_red {s : State} {a1 a2} : (State.setLoops s a1 a2).red = s.red := by cases a1 <;> rfl
@[simp] theorem State.setLoops_acq {s : State} {a1 a2} : (State.setLoops s a1 a2).acq = s.acq := by cases a1 <;> rfl
@[simp] theorem State.setLoops_slt {s : State} {a1 a2} : (State.setLoops s a1 a2).slt = s.slt := by cases a1 <;> rfl
@[simp] theorem State.setLoops_brt {s : State} {a1 a2} : (State.setLoops s a1 a2).brt = s.brt := by cases a1 <;> rfl
@[simp] theorem State.setLoops_pkts {s : State} {a1 a2} :
    (State.setLoops s a1 a2).pkts = s.pkts := by cases a1 <;> rfl
@[simp] theorem State.setLoops_nextPkt {s : State} {a1 a2} :
    (State.setLoops s a1 a2).nextPkt = s.nextPkt := by cases a1 <;> rfl
@[simp] theorem State.setLoops_ports {s : State} {a1 a2} :
    (State.setLoops s a1 a2).ports = s.ports := by cases a1 <;> rfl
@[simp] theorem State.setLoops_chips {s : State} {a1 a2} :
    (State.setLoops s a1 a2).chips = s.chips := by cases a1 <;> rfl
@[simp] theorem State.setLoops_xing {s : State} {a1 a2} :
    (State.setLoops s a1 a2).xing = s.xing := by cases a1 <;> rfl
@[simp] theorem State.setCtlRed_pending {s : State} {a1 a2} :
    (State.setCtlRed s a1 a2).pending = s.pending := by cases a1 <;> rfl
@[simp] theorem State.setCtlRed_freeCtr {s : State} {a1 a2} :
    (State.setCtlRed s a1 a2).freeCtr = s.freeCtr := by cases a1 <;> rfl
@[simp] theorem State.setCtlRed_regs {s : State} {a1 a2} :
    (State.setCtlRed s a1 a2).regs = s.regs := by cases a1 <;> rfl
@[simp] theorem State.setCtlRed_ctrs {s : State} {a1 a2} :
    (State.setCtlRed s a1 a2).ctrs = s.ctrs := by cases a1 <;> rfl
@[simp] theorem State.setCtlRed_highLatch {s : State} {a1 a2} :
    (State.setCtlRed s a1 a2).highLatch = s.highLatch := by cases a1 <;> rfl
@[simp] theorem State.setCtlRed_cmd {s : State} {a1 a2} : (State.setCtlRed s a1 a2).cmd = s.cmd := by cases a1 <;> rfl
@[simp] theorem State.setCtlRed_sec {s : State} {a1 a2} : (State.setCtlRed s a1 a2).sec = s.sec := by cases a1 <;> rfl
@[simp] theorem State.setCtlRed_flt {s : State} {a1 a2} : (State.setCtlRed s a1 a2).flt = s.flt := by cases a1 <;> rfl
@[simp] theorem State.setCtlRed_thm {s : State} {a1 a2} : (State.setCtlRed s a1 a2).thm = s.thm := by cases a1 <;> rfl
@[simp] theorem State.setCtlRed_glb {s : State} {a1 a2} : (State.setCtlRed s a1 a2).glb = s.glb := by cases a1 <;> rfl
@[simp] theorem State.setCtlRed_img {s : State} {a1 a2} : (State.setCtlRed s a1 a2).img = s.img := by cases a1 <;> rfl
@[simp] theorem State.setCtlRed_tim {s : State} {a1 a2} : (State.setCtlRed s a1 a2).tim = s.tim := by cases a1 <;> rfl
@[simp] theorem State.setCtlRed_loopA {s : State} {a1 a2} :
    (State.setCtlRed s a1 a2).loopA = s.loopA := by cases a1 <;> rfl
@[simp] theorem State.setCtlRed_loopB {s : State} {a1 a2} :
    (State.setCtlRed s a1 a2).loopB = s.loopB := by cases a1 <;> rfl
@[simp] theorem State.setCtlRed_loopS {s : State} {a1 a2} :
    (State.setCtlRed s a1 a2).loopS = s.loopS := by cases a1 <;> rfl
@[simp] theorem State.setCtlRed_drv {s : State} {a1 a2} : (State.setCtlRed s a1 a2).drv = s.drv := by cases a1 <;> rfl
@[simp] theorem State.setCtlRed_adc {s : State} {a1 a2} : (State.setCtlRed s a1 a2).adc = s.adc := by cases a1 <;> rfl
@[simp] theorem State.setCtlRed_mtx {s : State} {a1 a2} : (State.setCtlRed s a1 a2).mtx = s.mtx := by cases a1 <;> rfl
@[simp] theorem State.setCtlRed_cal {s : State} {a1 a2} : (State.setCtlRed s a1 a2).cal = s.cal := by cases a1 <;> rfl
@[simp] theorem State.setCtlRed_acq {s : State} {a1 a2} : (State.setCtlRed s a1 a2).acq = s.acq := by cases a1 <;> rfl
@[simp] theorem State.setCtlRed_slt {s : State} {a1 a2} : (State.setCtlRed s a1 a2).slt = s.slt := by cases a1 <;> rfl
@[simp] theorem State.setCtlRed_brt {s : State} {a1 a2} : (State.setCtlRed s a1 a2).brt = s.brt := by cases a1 <;> rfl
@[simp] theorem State.setCtlRed_pkts {s : State} {a1 a2} :
    (State.setCtlRed s a1 a2).pkts = s.pkts := by cases a1 <;> rfl
@[simp] theorem State.setCtlRed_nextPkt {s : State} {a1 a2} :
    (State.setCtlRed s a1 a2).nextPkt = s.nextPkt := by cases a1 <;> rfl
@[simp] theorem State.setCtlRed_ports {s : State} {a1 a2} :
    (State.setCtlRed s a1 a2).ports = s.ports := by cases a1 <;> rfl
@[simp] theorem State.setCtlRed_chips {s : State} {a1 a2} :
    (State.setCtlRed s a1 a2).chips = s.chips := by cases a1 <;> rfl
@[simp] theorem State.setCtlRed_xing {s : State} {a1 a2} :
    (State.setCtlRed s a1 a2).xing = s.xing := by cases a1 <;> rfl

/-! ### Registers and counters that an update leaves alone -/

@[simp] theorem State.wr_ctr {s : State} {a1 a2} {a : Nat} : (State.wr s a1 a2).ctr a = s.ctr a := rfl
@[simp] theorem State.bump_rd {s : State} {a1 a2} {a : Nat} : (State.bump s a1 a2).rd a = s.rd a := rfl
@[simp] theorem State.setRd_rd {s : State} {a1 a2} {a : Nat} : (State.setRd s a1 a2).rd a = s.rd a := rfl
@[simp] theorem State.setRd_ctr {s : State} {a1 a2} {a : Nat} : (State.setRd s a1 a2).ctr a = s.ctr a := rfl
@[simp] theorem State.setChan_rd {s : State} {a1 a2} {a : Nat} : (State.setChan s a1 a2).rd a = s.rd a := rfl
@[simp] theorem State.setChan_ctr {s : State} {a1 a2} {a : Nat} : (State.setChan s a1 a2).ctr a = s.ctr a := rfl
@[simp] theorem State.setCalElem_rd {s : State} {a1 a2} {a : Nat} : (State.setCalElem s a1 a2).rd a = s.rd a := rfl
@[simp] theorem State.setCalElem_ctr {s : State} {a1 a2} {a : Nat} : (State.setCalElem s a1 a2).ctr a = s.ctr a := rfl
@[simp] theorem State.setAu_rd {s : State} {a1 a2} {a : Nat} : (State.setAu s a1 a2).rd a = s.rd a := rfl
@[simp] theorem State.setAu_ctr {s : State} {a1 a2} {a : Nat} : (State.setAu s a1 a2).ctr a = s.ctr a := rfl
@[simp] theorem State.setEmitter_rd {s : State} {a1 a2 a3} {a : Nat} :
    (State.setEmitter s a1 a2 a3).rd a = s.rd a := rfl
@[simp] theorem State.setEmitter_ctr {s : State} {a1 a2 a3} {a : Nat} :
    (State.setEmitter s a1 a2 a3).ctr a = s.ctr a := rfl
@[simp] theorem State.setBank_rd {s : State} {a1 a2} {a : Nat} : (State.setBank s a1 a2).rd a = s.rd a := rfl
@[simp] theorem State.setBank_ctr {s : State} {a1 a2} {a : Nat} : (State.setBank s a1 a2).ctr a = s.ctr a := rfl
@[simp] theorem State.setDom_rd {s : State} {a1 a2} {a : Nat} : (State.setDom s a1 a2).rd a = s.rd a := rfl
@[simp] theorem State.setDom_ctr {s : State} {a1 a2} {a : Nat} : (State.setDom s a1 a2).ctr a = s.ctr a := rfl
@[simp] theorem State.setLoupe_rd {s : State} {a1 a2} {a : Nat} : (State.setLoupe s a1 a2).rd a = s.rd a := rfl
@[simp] theorem State.setLoupe_ctr {s : State} {a1 a2} {a : Nat} : (State.setLoupe s a1 a2).ctr a = s.ctr a := rfl
@[simp] theorem State.setChip_rd {s : State} {a1 a2} {a : Nat} : (State.setChip s a1 a2).rd a = s.rd a := rfl
@[simp] theorem State.setChip_ctr {s : State} {a1 a2} {a : Nat} : (State.setChip s a1 a2).ctr a = s.ctr a := rfl
@[simp] theorem State.setPort_rd {s : State} {a1 a2} {a : Nat} : (State.setPort s a1 a2).rd a = s.rd a := rfl
@[simp] theorem State.setPort_ctr {s : State} {a1 a2} {a : Nat} : (State.setPort s a1 a2).ctr a = s.ctr a := rfl
@[simp] theorem State.setPkt_rd {s : State} {a1 a2} {a : Nat} : (State.setPkt s a1 a2).rd a = s.rd a := rfl
@[simp] theorem State.setPkt_ctr {s : State} {a1 a2} {a : Nat} : (State.setPkt s a1 a2).ctr a = s.ctr a := rfl
@[simp] theorem State.dropPkt_rd {s : State} {a1} {a : Nat} : (State.dropPkt s a1).rd a = s.rd a := rfl
@[simp] theorem State.dropPkt_ctr {s : State} {a1} {a : Nat} : (State.dropPkt s a1).ctr a = s.ctr a := rfl
@[simp] theorem State.setCredits_rd {s : State} {a1 a2} {a : Nat} : (State.setCredits s a1 a2).rd a = s.rd a := rfl
@[simp] theorem State.setCredits_ctr {s : State} {a1 a2} {a : Nat} : (State.setCredits s a1 a2).ctr a = s.ctr a := rfl
@[simp] theorem State.setEgrPair_rd {s : State} {a1 a2 a3} {a : Nat} :
    (State.setEgrPair s a1 a2 a3).rd a = s.rd a := rfl
@[simp] theorem State.setEgrPair_ctr {s : State} {a1 a2 a3} {a : Nat} :
    (State.setEgrPair s a1 a2 a3).ctr a = s.ctr a := rfl
@[simp] theorem State.setIngPair_rd {s : State} {a1 a2 a3} {a : Nat} :
    (State.setIngPair s a1 a2 a3).rd a = s.rd a := rfl
@[simp] theorem State.setIngPair_ctr {s : State} {a1 a2 a3} {a : Nat} :
    (State.setIngPair s a1 a2 a3).ctr a = s.ctr a := rfl
@[simp] theorem State.setRx_rd {s : State} {a1 a2} {a : Nat} : (State.setRx s a1 a2).rd a = s.rd a := rfl
@[simp] theorem State.setRx_ctr {s : State} {a1 a2} {a : Nat} : (State.setRx s a1 a2).ctr a = s.ctr a := rfl
@[simp] theorem State.setZone_rd {s : State} {a1 a2} {a : Nat} : (State.setZone s a1 a2).rd a = s.rd a := rfl
@[simp] theorem State.setZone_ctr {s : State} {a1 a2} {a : Nat} : (State.setZone s a1 a2).ctr a = s.ctr a := rfl
@[simp] theorem State.setFltRecord_rd {s : State} {a1 a2} {a : Nat} :
    (State.setFltRecord s a1 a2).rd a = s.rd a := rfl
@[simp] theorem State.setFltRecord_ctr {s : State} {a1 a2} {a : Nat} :
    (State.setFltRecord s a1 a2).ctr a = s.ctr a := rfl
@[simp] theorem State.setCrossing_rd {s : State} {a1 a2} {a : Nat} : (State.setCrossing s a1 a2).rd a = s.rd a := rfl
@[simp] theorem State.setCrossing_ctr {s : State} {a1 a2} {a : Nat} :
    (State.setCrossing s a1 a2).ctr a = s.ctr a := rfl
@[simp] theorem State.setLatch_rd {s : State} {a1 a2 a3} {a : Nat} : (State.setLatch s a1 a2 a3).rd a = s.rd a := rfl
@[simp] theorem State.setLatch_ctr {s : State} {a1 a2 a3} {a : Nat} :
    (State.setLatch s a1 a2 a3).ctr a = s.ctr a := rfl
@[simp] theorem State.setCalSet_rd {s : State} {a1 a2} {a : Nat} : (State.setCalSet s a1 a2).rd a = s.rd a := rfl
@[simp] theorem State.setCalSet_ctr {s : State} {a1 a2} {a : Nat} : (State.setCalSet s a1 a2).ctr a = s.ctr a := rfl
@[simp] theorem State.putWork_rd {s : State} {a1} {a : Nat} : (State.putWork s a1).rd a = s.rd a := rfl
@[simp] theorem State.putWork_ctr {s : State} {a1} {a : Nat} : (State.putWork s a1).ctr a = s.ctr a := rfl
@[simp] theorem State.setLoops_rd {s : State} {a1 a2} {a : Nat} :
    (State.setLoops s a1 a2).rd a = s.rd a := by cases a1 <;> rfl
@[simp] theorem State.setLoops_ctr {s : State} {a1 a2} {a : Nat} :
    (State.setLoops s a1 a2).ctr a = s.ctr a := by cases a1 <;> rfl
@[simp] theorem State.setCtlRed_rd {s : State} {a1 a2} {a : Nat} :
    (State.setCtlRed s a1 a2).rd a = s.rd a := by cases a1 <;> rfl
@[simp] theorem State.setCtlRed_ctr {s : State} {a1 a2} {a : Nat} :
    (State.setCtlRed s a1 a2).ctr a = s.ctr a := by cases a1 <;> rfl

/-! ### What a read of the written thing gives -/

theorem State.wr_rd {s : State} {a b : Nat} {v : Word} : (s.wr a v).rd b = if b = a then v else s.rd b :=
  Sparse.get_set _ _ _ _ _

@[simp] theorem State.wr_rd_same {s : State} {a : Nat} {v : Word} : (s.wr a v).rd a = v :=
  Sparse.get_set_same _ _ _ _

theorem State.wr_rd_other {s : State} {a b : Nat} {v : Word} (h : b ≠ a) : (s.wr a v).rd b = s.rd b :=
  Sparse.get_set_other _ _ _ h

theorem State.bump_ctr' {s : State} {a b n : Nat} :
    (s.bump a n).ctr b = if b = a then s.ctr a + BitVec.ofNat 64 n else s.ctr b :=
  Sparse.get_set _ _ _ _ _

@[simp] theorem State.bump_ctr_same {s : State} {a n : Nat} : (s.bump a n).ctr a = s.ctr a + BitVec.ofNat 64 n :=
  Sparse.get_set_same _ _ _ _

theorem State.bump_ctr_other {s : State} {a b n : Nat} (h : b ≠ a) : (s.bump a n).ctr b = s.ctr b :=
  Sparse.get_set_other _ _ _ h

@[simp] theorem State.setChan_chan_same {s : State} {e : Nat} {c : Chan} : (s.setChan e c).chan e = c :=
  Sparse.get_set_same _ _ _ _

theorem State.setChan_chan_other {s : State} {e f : Nat} {c : Chan} (h : f ≠ e) : (s.setChan e c).chan f = s.chan f :=
  Sparse.get_set_other _ _ _ h

@[simp] theorem State.setAu_au_same {s : State} {u : Nat} {x : AdcUnit} : (s.setAu u x).au u = x :=
  Sparse.get_set_same _ _ _ _

theorem State.setAu_au_other {s : State} {u v : Nat} {x : AdcUnit} (h : v ≠ u) : (s.setAu u x).au v = s.au v :=
  Sparse.get_set_other _ _ _ h

@[simp] theorem State.setCalElem_calElem_same {s : State} {e : Nat} {c : CalElem} : (s.setCalElem e c).calElem e = c :=
  Sparse.get_set_same _ _ _ _

theorem State.setCalElem_calElem_other {s : State} {e f : Nat} {c : CalElem} (h : f ≠ e) :
    (s.setCalElem e c).calElem f = s.calElem f :=
  Sparse.get_set_other _ _ _ h

@[simp] theorem State.setBank_bank_same {s : State} {n : Nat} {x : Bank} : (s.setBank n x).bank n = x :=
  Sparse.get_set_same _ _ _ _

theorem State.setBank_bank_other {s : State} {n m : Nat} {x : Bank} (h : m ≠ n) : (s.setBank n x).bank m = s.bank m :=
  Sparse.get_set_other _ _ _ h

@[simp] theorem State.setLoupe_loupe_same {s : State} {u : Nat} {x : Loupe} : (s.setLoupe u x).loupe u = x :=
  Sparse.get_set_same _ _ _ _

theorem State.setLoupe_loupe_other {s : State} {u v : Nat} {x : Loupe} (h : v ≠ u) :
    (s.setLoupe u x).loupe v = s.loupe v :=
  Sparse.get_set_other _ _ _ h

@[simp] theorem State.setPort_port_same {s : State} {k : Nat} {x : Port} : (s.setPort k x).port k = x :=
  Sparse.get_set_same _ _ _ _

theorem State.setPort_port_other {s : State} {k j : Nat} {x : Port} (h : j ≠ k) : (s.setPort k x).port j = s.port j :=
  Sparse.get_set_other _ _ _ h

@[simp] theorem State.setZone_zone_same {s : State} {z : Nat} {x : Zone} : (s.setZone z x).zone z = x :=
  Sparse.get_set_same _ _ _ _

theorem State.setZone_zone_other {s : State} {z y : Nat} {x : Zone} (h : y ≠ z) : (s.setZone z x).zone y = s.zone y :=
  Sparse.get_set_other _ _ _ h

@[simp] theorem State.setLoops_loops_same {s : State} {c : Ctl} {l : CtlLoops} : (s.setLoops c l).loops c = l := by
  cases c <;> rfl

theorem State.setLoops_loops_other {s : State} {c d : Ctl} {l : CtlLoops} (h : d ≠ c) :
    (s.setLoops c l).loops d = s.loops d := by
  cases c <;> cases d <;> first | rfl | exact absurd rfl h

@[simp] theorem State.setCtlRed_ctlRed_same {s : State} {c : Ctl} {r : CtlRed} : (s.setCtlRed c r).ctlRed c = r := by
  cases c <;> rfl

theorem State.setCtlRed_ctlRed_other {s : State} {c d : Ctl} {r : CtlRed} (h : d ≠ c) :
    (s.setCtlRed c r).ctlRed d = s.ctlRed d := by
  cases c <;> cases d <;> first | rfl | exact absurd rfl h

end Sys2Proof.Machine
end

