-- ==== Sys2Proof/Laws/Frame.lean ====
section
/-! SUPPORT. Frames with registers and counters told apart, what each shared operation of Ops.lean and Access.lean does to
them, and what an access that is permitted does. -/

namespace Sys2Proof

open Sys2Proof.Machine

variable {ps : List Part} {as cs : List Nat} {s t u : State}

theorem Frame.refl : Frame ps as cs s s := ⟨OnlyParts.refl, fun _ _ => rfl, fun _ _ => rfl⟩

theorem Frame.trans (h : Frame ps as cs s t) (h' : Frame ps as cs t u) : Frame ps as cs s u :=
  ⟨h.1.trans h'.1, fun a ha => (h'.2.1 a ha).trans (h.2.1 a ha), fun a ha => (h'.2.2 a ha).trans (h.2.2 a ha)⟩

theorem Frame.mono {ps' : List Part} {as' cs' : List Nat} (h : Frame ps as cs s t) (hp : ps ⊆ ps') (ha : as ⊆ as')
    (hc : cs ⊆ cs') : Frame ps' as' cs' s t :=
  ⟨h.1.mono (List.cons_subset_cons _ (List.cons_subset_cons _ hp)), fun a h' => h.2.1 a fun x => h' (ha x),
    fun a h' => h.2.2 a fun x => h' (hc x)⟩

/-- An operation that touches neither registers nor counters has a frame. -/
theorem Frame.of_parts (h : OnlyParts ps s t) (hr : Part.regs ∉ ps) (hc : Part.ctrs ∉ ps) : Frame ps as cs s t := by
  refine ⟨h.mono fun p hp => by simp [hp], fun a _ => ?_, fun a _ => ?_⟩
  · have e : t.regs = s.regs := h .regs hr
    unfold State.rd
    rw [e]
  · have e : t.ctrs = s.ctrs := h .ctrs hc
    unfold State.ctr
    rw [e]

/-- One more operation that touches neither registers nor counters. -/
theorem Frame.step (h : Frame ps as cs s t) (e : OnlyParts ps t u) (hr : Part.regs ∉ ps := by decide)
    (hc : Part.ctrs ∉ ps := by decide) : Frame ps as cs s u := h.trans (Frame.of_parts e hr hc)

theorem Frame.wr (h : Frame ps as cs s t) {a : Nat} {v : Word} (ha : a ∈ as) : Frame ps as cs s (t.wr a v) := by
  refine h.trans ⟨State.wr_parts (by simp) OnlyParts.refl, fun b hb => State.wr_rd_other fun e => hb (e ▸ ha), fun _ _ => rfl⟩

theorem Frame.wrBit (h : Frame ps as cs s t) {a i : Nat} {b : Bool} (ha : a ∈ as) : Frame ps as cs s (t.wrBit a i b) :=
  h.wr ha

theorem Frame.bump (h : Frame ps as cs s t) {a n : Nat} (ha : a ∈ cs) : Frame ps as cs s (t.bump a n) := by
  refine h.trans ⟨State.bump_parts (by simp) OnlyParts.refl, fun _ _ => rfl, fun b hb => State.bump_ctr_other fun e => hb (e ▸ ha)⟩

/-- A counter that is raised by 0 keeps its value. -/
theorem Frame.bump_zero (h : Frame ps as cs s t) {a : Nat} : Frame ps as cs s (t.bump a 0) := by
  refine h.trans ⟨State.bump_parts (by simp) OnlyParts.refl, fun _ _ => rfl, fun b _ => ?_⟩
  rw [State.bump_ctr']
  split
  · rename_i e
    rw [e]
    exact BitVec.add_zero _
  · rfl

theorem Frame.msiSend (h : Frame ps as cs s t) {v : Nat} (hp : Part.cmd ∈ ps) : Frame ps as cs s (t.msiSend v) := by
  have e : OnlyParts [.cmd] t (t.msiSend v) := State.msiSend_parts (by simp) OnlyParts.refl
  exact h.trans (Frame.mono (Frame.of_parts e (by decide) (by decide) : Frame [.cmd] [] [] t _) (by simpa using hp)
    (by simp) (by simp))

/-- R507: an interrupt changes the pending register and what the MSI-X logic holds. -/
theorem Frame.irq (h : Frame ps as cs s t) {v : Nat} (hp : Part.cmd ∈ ps) (ha : Reg.CMD_IRQ_PENDING ∈ as) :
    Frame ps as cs s (t.irq v) := by
  unfold State.irq
  dsimp only
  split
  · exact h
  · exact (h.wr ha).msiSend hp

theorem Frame.irqIf (h : Frame ps as cs s t) {a i v : Nat} (hp : Part.cmd ∈ ps) (ha : Reg.CMD_IRQ_PENDING ∈ as) :
    Frame ps as cs s (t.irqIf a i v) := by
  unfold State.irqIf
  split
  · exact h.irq hp ha
  · exact h

/-- A fault report of class 1 to 3 leaves the counters alone. -/
theorem Frame.raise (h : Frame ps as cs s t) {code : BitVec 16} {cls : Fin 4} (hp : Part.flt ∈ ps) (hc : cls ≠ 0) :
    Frame ps as cs s (t.raise code cls) := by
  unfold State.raise
  rw [if_neg hc]
  exact h.trans ⟨OnlyParts.set_flt (by simp [hp]) OnlyParts.refl, fun _ _ => rfl, fun _ _ => rfl⟩

/-- What a fault report of class 1 to 3 adds to the reports sent. -/
theorem Machine.State.raise_sent {code : BitVec 16} {cls : Fin 4} (hc : cls ≠ 0) :
    (s.raise code cls).flt.sent = s.flt.sent ++ [{ code := code, cls := cls, sec := s.tim.dt.sec, ns := s.tim.dt.ns }] := by
  unfold State.raise
  rw [if_neg hc]

/-! ### Accesses (R500, R518, R547) -/

theorem Machine.State.judge_permitted {p : CmdPort} {a cls : Nat} (h : Permitted s p a cls) : s.judge p a cls = (.done, s) := by
  obtain ⟨h1, h2, h3⟩ := h
  unfold State.judge
  rw [if_neg h1]
  simp [h2, h3]

/-- A permitted access has its effect. -/
theorem Machine.State.access_permitted {p : CmdPort} {a cls : Nat} {act : State → State} (h : Permitted s p a cls) :
    s.access p a cls act = act s := by
  unfold State.access
  rw [State.judge_permitted h]
  rfl

theorem Machine.State.accessRead_permitted {p : CmdPort} {a : Nat} {act : State → State} (h : Permitted s p a 0) :
    s.accessRead p a act = act s := by
  unfold State.accessRead
  rw [State.judge_permitted h]
  rfl

/-! ### Plain writes (R13, R476) -/

/-- A write to a register whose row has no locked field changes that register only. -/
theorem Machine.State.plainWrite_row {p : CmdPort} {a o : Nat} {b : Blk} {r : RegRow} {v : Word} (h : locate a = some (b, o))
    (h' : findRow b o = some r) (hl : r.rwl = 0) :
    s.plainWrite p a v = s.wr a (r.next s.img.locked (s.rd a) v) := by
  unfold State.plainWrite
  rw [h]
  dsimp only
  rw [h']
  dsimp only
  rw [if_neg]
  simp [RegRow.discards, hl]

end Sys2Proof
end

