-- ==== Sys2Proof/WellFormed.lean ====
section
/-! DEFINITION. What makes a command well formed beyond its types: a command that names a request of a register writes
a word with the bit of that request set (assumption 20), and its data have the shape that the spec gives them. -/

namespace Sys2Proof

/-- The port that a command comes from; none for an event of the part itself or of the physical world. -/
def Instr.port : Instr → Option CmdPort
  | .loopSampleBoundary => none
  | .tapCapture => none
  | .tapReading _ _ => none
  | .elementIteration _ _ => none
  | .selectorIteration _ _ => none
  | .overrun _ _ => none
  | .spareEngineTakeover _ _ => none
  | .acqTimeout _ _ => none
  | .coeffBankWrite p _ _ _ _ => some p
  | .swapReq p _ => some p
  | .swapCancel p _ => some p
  | .coeffBankSwap => none
  | .targetWrite p _ _ => some p
  | .excitationWrite p _ => some p
  | .modeRequest p _ => some p
  | .slewStep _ => none
  | .complianceSet _ => none
  | .openloadSet _ => none
  | .openloadClear _ => none
  | .rangeRequest p _ => some p
  | .rangeSwitch _ => none
  | .rangeRampBack _ => none
  | .rangeChangeEnd _ => none
  | .sliceCorrection _ _ _ _ _ => none
  | .directResult _ _ _ => none
  | .auConfigWrite p _ _ => some p
  | .auConfigApply _ => none
  | .adcDataRead p _ => some p
  | .auFailed _ => none
  | .slotBoundary _ => none
  | .receiverPhaseLoad => none
  | .preambleEnd _ => none
  | .guardEnd => none
  | .matrixRoute => none
  | .finalListDelivery _ => none
  | .rotationReroute => none
  | .parkRequest p _ => some p
  | .parkEffect _ => none
  | .emitterFailed _ _ => none
  | .spareTakeover _ => none
  | .spareRelease _ => none
  | .forceSpare p _ _ => some p
  | .lightReturn _ => none
  | .permRead p _ => some p
  | .calInterpolation => none
  | .startFull p _ => some p
  | .fullCalibrationStep _ => none
  | .fullCalibrationDone => none
  | .trialCapture _ _ _ => none
  | .stageResultApply => none
  | .calStore p _ => some p
  | .storeComplete => none
  | .calDelete p _ => some p
  | .setRead p _ => some p
  | .prismStart => none
  | .templateWrite p _ _ _ _ => some p
  | .calLenWrite p _ _ => some p
  | .changeReq p _ => some p
  | .changeCancel p _ => some p
  | .calendarTakeover => none
  | .notice _ _ => none
  | .burstVerdict _ _ => none
  | .ack _ _ => none
  | .nack _ _ => none
  | .ackTimeout _ _ => none
  | .retransmitRead _ _ _ => none
  | .gapRequest _ _ => none
  | .gapTimeout _ _ => none
  | .gap _ _ => none
  | .chipletLoss _ => none
  | .snapshotReq p _ => some p
  | .snapshotLatch => none
  | .phaseRead p _ => some p
  | .frameReceived _ _ => none
  | .pauseExpiry _ _ => none
  | .commandReply _ => none
  | .linkUp _ => none
  | .trainingRetry _ => none
  | .linkDown _ _ => none
  | .retrain p _ _ => some p
  | .linkFaultReceived _ _ => none
  | .laneRemap p _ _ _ => some p
  | .remapSwitch _ => none
  | .pfcFrameSend _ => none
  | .pfcRefresh _ => none
  | .frameTransmitStart _ _ _ _ => none
  | .frameSent _ => none
  | .parseDispatch _ _ _ => none
  | .parsePassEnd _ _ => none
  | .lookup _ _ => none
  | .bankSwapReq p _ _ => some p
  | .ruleBankSwap _ => none
  | .tbwWrite p _ _ _ => some p
  | .traceArm p _ _ => some p
  | .ucodeSwap _ => none
  | .refill p _ _ => some p
  | .meterWrite p _ _ => some p
  | .meterRead p _ _ => some p
  | .meterProfileWrite p _ _ _ => some p
  | .meterProfileHold p _ _ _ _ => some p
  | .scrubRead _ _ _ => none
  | .pchReplace p _ _ => some p
  | .pchCopyDone _ _ => none
  | .zeroizationDone _ => none
  | .creditWithdraw _ _ _ => none
  | .creditRelease _ _ _ => none
  | .shaperCfgWrite p _ _ _ => some p
  | .shaperHoldWrite p _ _ _ _ => some p
  | .gateListWrite p _ _ _ _ => some p
  | .gateReq p _ _ => some p
  | .gateCancel p _ _ => some p
  | .gateEnWrite p _ _ => some p
  | .gateTakeover _ => none
  | .gateEntryAdvance _ => none
  | .adjWrite p _ _ => some p
  | .tsLoad p _ _ => some p
  | .tsStep p _ _ => some p
  | .selWrite p _ => some p
  | .slewDone => none
  | .timeReadLatch p _ => some p
  | .fifoRead p => some p
  | .loupeArm p _ _ => some p
  | .loupeStop p _ _ => some p
  | .loupeForce p _ _ => some p
  | .rdPtrWrite p _ _ => some p
  | .settleDone _ => none
  | .prefillDone _ => none
  | .triggerPoint _ _ _ _ _ _ => none
  | .recordWritten _ _ => none
  | .holdoffEnd _ _ => none
  | .lendLimit _ _ => none
  | .trigAssert _ => none
  | .trigRelease _ => none
  | .trigSense _ _ => none
  | .arbitration => none
  | .switchoverStart => none
  | .switchoverGapEnd => none
  | .controllerLoss _ => none
  | .redSwitch p _ => some p
  | .redIsolate p _ => some p
  | .redSleep p _ => some p
  | .redReturn p _ => some p
  | .redTest p _ => some p
  | .copyReceived _ => none
  | .copyLate _ => none
  | .suspectClear => none
  | .bulkDone _ => none
  | .deltaDone => none
  | .shadowDone => none
  | .standbyEngineTest _ => none
  | .controllerScrub _ _ _ => none
  | .selftestDone _ _ => none
  | .controllerBistDone _ _ => none
  | .faultReport _ => none
  | .safeStateEntry => none
  | .faultClear p _ => some p
  | .safeStateExit => none
  | .sensorReading _ _ _ _ => none
  | .thresholdAssert _ _ => none
  | .thresholdRelease _ _ => none
  | .emitterThrottleStep _ => none
  | .throttleOffPhase _ _ => none
  | .nvmWindowOpen => none
  | .thermalRecordWrite => none
  | .stageOpen p _ => some p
  | .stageWrite p _ _ => some p
  | .stageDone p _ => some p
  | .imageVerifyDone => none
  | .discard p _ => some p
  | .commit p _ => some p
  | .commitDone => none
  | .restructure p _ => some p
  | .drainEnd => none
  | .applyEnd => none
  | .restructureSwitch => none
  | .drainLimitExpiry => none
  | .abandon p _ => some p
  | .overlay p _ => some p
  | .registerWrite p _ _ => some p
  | .counterLowRead p _ => some p
  | .malformedAccess _ => some .pcie
  | .pcieReset => none
  | .abevoRead _ => some .smp
  | .abevoWrite _ => some .smp
  | .abevoMailbox _ => some .smp
  | .abevoPoll _ => some .smp
  | .boundaryScanInstruction _ => none
  | .jtagDebugAccess _ => some .jtag
  | .mbNop p => some p
  | .repairClear p _ _ => some p
  | .repairRead p _ _ => some p
  | .debugRead p _ _ => some p
  | .keyProvision p _ _ => some p
  | .keyRevoke p _ => some p
  | .svnRaise p _ => some p
  | .imageKeySet p _ => some p
  | .zeroize p => some p
  | .retire p _ => some p
  | .auditRead p _ => some p
  | .fuseOperationDone => none
  | .zeroizePin _ => none
  | .auditRecordWrite => none
  | .vinRise => none
  | .aonUp => none
  | .pllLockHeld _ => none
  | .domainPowerGood _ => none
  | .domainPowerTimeout _ => none
  | .dramTrainingDone _ => none
  | .laserLowPowerEnd _ => none
  | .laserNominal _ => none
  | .lockLimit _ => none
  | .glbRelease p _ => some p
  | .quiesce p _ => some p
  | .quiesceDone _ => none
  | .resume p _ => some p
  | .deviceRestart p _ => some p
  | .domainRestart p _ => some p
  | .domainRestartFailed => none
  | .domainPowerLoss _ => none
  | .vinOutOfRange => none
  | .vinCollapse => none
  | .holdupExpiry => none
  | .pwrEnFall => none
  | .pwrEnRise => none
  | .pllUnlock => none
  | .pllRelock => none
  | .crossingTransfer _ _ => none
  | .timescaleTick => none
  | .linkFaultEnd _ _ => none
  | .autoNegotiationDone _ => none

/-- For a command that names a request of a register: the word written and the bit of the request. -/
def Instr.request : Instr → Option (Word × Nat)
  | .loopSampleBoundary => none
  | .tapCapture => none
  | .tapReading _ _ => none
  | .elementIteration _ _ => none
  | .selectorIteration _ _ => none
  | .overrun _ _ => none
  | .spareEngineTakeover _ _ => none
  | .acqTimeout _ _ => none
  | .coeffBankWrite _ _ _ _ _ => none
  | .swapReq _ v => some (v, 0)
  | .swapCancel _ v => some (v, 1)
  | .coeffBankSwap => none
  | .targetWrite _ _ _ => none
  | .excitationWrite _ _ => none
  | .modeRequest _ v => some (v, 31)
  | .slewStep _ => none
  | .complianceSet _ => none
  | .openloadSet _ => none
  | .openloadClear _ => none
  | .rangeRequest _ v => some (v, 31)
  | .rangeSwitch _ => none
  | .rangeRampBack _ => none
  | .rangeChangeEnd _ => none
  | .sliceCorrection _ _ _ _ _ => none
  | .directResult _ _ _ => none
  | .auConfigWrite _ _ _ => none
  | .auConfigApply _ => none
  | .adcDataRead _ _ => none
  | .auFailed _ => none
  | .slotBoundary _ => none
  | .receiverPhaseLoad => none
  | .preambleEnd _ => none
  | .guardEnd => none
  | .matrixRoute => none
  | .finalListDelivery _ => none
  | .rotationReroute => none
  | .parkRequest _ v => some (v, 31)
  | .parkEffect _ => none
  | .emitterFailed _ _ => none
  | .spareTakeover _ => none
  | .spareRelease _ => none
  | .forceSpare _ _ v => some (v, 4)
  | .lightReturn _ => none
  | .permRead _ _ => none
  | .calInterpolation => none
  | .startFull _ v => some (v, 0)
  | .fullCalibrationStep _ => none
  | .fullCalibrationDone => none
  | .trialCapture _ _ _ => none
  | .stageResultApply => none
  | .calStore _ v => some (v, 1)
  | .storeComplete => none
  | .calDelete _ v => some (v, 2)
  | .setRead _ v => some (v, 31)
  | .prismStart => none
  | .templateWrite _ _ _ _ _ => none
  | .calLenWrite _ _ _ => none
  | .changeReq _ v => some (v, 0)
  | .changeCancel _ v => some (v, 1)
  | .calendarTakeover => none
  | .notice _ _ => none
  | .burstVerdict _ _ => none
  | .ack _ _ => none
  | .nack _ _ => none
  | .ackTimeout _ _ => none
  | .retransmitRead _ _ _ => none
  | .gapRequest _ _ => none
  | .gapTimeout _ _ => none
  | .gap _ _ => none
  | .chipletLoss _ => none
  | .snapshotReq _ v => some (v, 0)
  | .snapshotLatch => none
  | .phaseRead _ v => some (v, 31)
  | .frameReceived _ _ => none
  | .pauseExpiry _ _ => none
  | .commandReply _ => none
  | .linkUp _ => none
  | .trainingRetry _ => none
  | .linkDown _ _ => none
  | .retrain _ _ v => some (v, 5)
  | .linkFaultReceived _ _ => none
  | .laneRemap _ _ v _ => some (v, 31)
  | .remapSwitch _ => none
  | .pfcFrameSend _ => none
  | .pfcRefresh _ => none
  | .frameTransmitStart _ _ _ _ => none
  | .frameSent _ => none
  | .parseDispatch _ _ _ => none
  | .parsePassEnd _ _ => none
  | .lookup _ _ => none
  | .bankSwapReq _ _ v => some (v, 0)
  | .ruleBankSwap _ => none
  | .tbwWrite _ _ _ _ => none
  | .traceArm _ _ v => some (v, 31)
  | .ucodeSwap _ => none
  | .refill _ _ v => some (v, 29)
  | .meterWrite _ _ v => some (v, 30)
  | .meterRead _ _ v => some (v, 31)
  | .meterProfileWrite _ _ _ _ => none
  | .meterProfileHold _ _ _ _ _ => none
  | .scrubRead _ _ _ => none
  | .pchReplace _ _ v => some (v, 31)
  | .pchCopyDone _ _ => none
  | .zeroizationDone _ => none
  | .creditWithdraw _ _ _ => none
  | .creditRelease _ _ _ => none
  | .shaperCfgWrite _ _ _ _ => none
  | .shaperHoldWrite _ _ _ _ _ => none
  | .gateListWrite _ _ _ _ _ => none
  | .gateReq _ _ v => some (v, 1)
  | .gateCancel _ _ v => some (v, 2)
  | .gateEnWrite _ _ _ => none
  | .gateTakeover _ => none
  | .gateEntryAdvance _ => none
  | .adjWrite _ _ _ => none
  | .tsLoad _ _ v => some (v, 0)
  | .tsStep _ _ v => some (v, 1)
  | .selWrite _ _ => none
  | .slewDone => none
  | .timeReadLatch _ _ => none
  | .fifoRead _ => none
  | .loupeArm _ _ v => some (v, 0)
  | .loupeStop _ _ v => some (v, 1)
  | .loupeForce _ _ v => some (v, 2)
  | .rdPtrWrite _ _ _ => none
  | .settleDone _ => none
  | .prefillDone _ => none
  | .triggerPoint _ _ _ _ _ _ => none
  | .recordWritten _ _ => none
  | .holdoffEnd _ _ => none
  | .lendLimit _ _ => none
  | .trigAssert _ => none
  | .trigRelease _ => none
  | .trigSense _ _ => none
  | .arbitration => none
  | .switchoverStart => none
  | .switchoverGapEnd => none
  | .controllerLoss _ => none
  | .redSwitch _ v => some (v, 0)
  | .redIsolate _ v => some (v, 1)
  | .redSleep _ v => some (v, 2)
  | .redReturn _ v => some (v, 3)
  | .redTest _ v => some (v, 4)
  | .copyReceived _ => none
  | .copyLate _ => none
  | .suspectClear => none
  | .bulkDone _ => none
  | .deltaDone => none
  | .shadowDone => none
  | .standbyEngineTest _ => none
  | .controllerScrub _ _ _ => none
  | .selftestDone _ _ => none
  | .controllerBistDone _ _ => none
  | .faultReport _ => none
  | .safeStateEntry => none
  | .faultClear _ v => some (v, 0)
  | .safeStateExit => none
  | .sensorReading _ _ _ _ => none
  | .thresholdAssert _ _ => none
  | .thresholdRelease _ _ => none
  | .emitterThrottleStep _ => none
  | .throttleOffPhase _ _ => none
  | .nvmWindowOpen => none
  | .thermalRecordWrite => none
  | .stageOpen _ v => some (v, 0)
  | .stageWrite _ _ _ => none
  | .stageDone _ v => some (v, 1)
  | .imageVerifyDone => none
  | .discard _ v => some (v, 2)
  | .commit _ v => some (v, 3)
  | .commitDone => none
  | .restructure _ v => some (v, 4)
  | .drainEnd => none
  | .applyEnd => none
  | .restructureSwitch => none
  | .drainLimitExpiry => none
  | .abandon _ v => some (v, 6)
  | .overlay _ v => some (v, 5)
  | .registerWrite _ _ _ => none
  | .counterLowRead _ _ => none
  | .malformedAccess _ => none
  | .pcieReset => none
  | .abevoRead _ => none
  | .abevoWrite _ => none
  | .abevoMailbox _ => none
  | .abevoPoll _ => none
  | .boundaryScanInstruction _ => none
  | .jtagDebugAccess _ => none
  | .mbNop _ => none
  | .repairClear _ _ _ => none
  | .repairRead _ _ _ => none
  | .debugRead _ _ _ => none
  | .keyProvision _ _ _ => none
  | .keyRevoke _ _ => none
  | .svnRaise _ _ => none
  | .imageKeySet _ _ => none
  | .zeroize _ => none
  | .retire _ _ => none
  | .auditRead _ _ => none
  | .fuseOperationDone => none
  | .zeroizePin _ => none
  | .auditRecordWrite => none
  | .vinRise => none
  | .aonUp => none
  | .pllLockHeld _ => none
  | .domainPowerGood _ => none
  | .domainPowerTimeout _ => none
  | .dramTrainingDone _ => none
  | .laserLowPowerEnd _ => none
  | .laserNominal _ => none
  | .lockLimit _ => none
  | .glbRelease _ v => some (v, 1)
  | .quiesce _ v => some (v, 2)
  | .quiesceDone _ => none
  | .resume _ v => some (v, 3)
  | .deviceRestart _ v => some (v, 0)
  | .domainRestart _ v => some (v, 31)
  | .domainRestartFailed => none
  | .domainPowerLoss _ => none
  | .vinOutOfRange => none
  | .vinCollapse => none
  | .holdupExpiry => none
  | .pwrEnFall => none
  | .pwrEnRise => none
  | .pllUnlock => none
  | .pllRelock => none
  | .crossingTransfer _ _ => none
  | .timescaleTick => none
  | .linkFaultEnd _ _ => none
  | .autoNegotiationDone _ => none

/-- Sums of 4,096 conversion codes of 14 bits (R164). -/
def AdcMeas.good (m : AdcMeas) : Bool := decide (m.sum106 ≤ 4096 * 16383 ∧ m.sum104 ≤ 4096 * 16383)

/-- The data of a command have their shape: 12 words of a key hash (R525), 8 of an image key (R529), codes in range
(R164), frames that are not empty. -/
def Instr.shaped : Instr → Bool
  | .loopSampleBoundary => true
  | .tapCapture => true
  | .tapReading _ _ => true
  | .elementIteration _ _ => true
  | .selectorIteration _ _ => true
  | .overrun _ _ => true
  | .spareEngineTakeover _ _ => true
  | .acqTimeout _ _ => true
  | .coeffBankWrite _ _ _ _ _ => true
  | .swapReq _ _ => true
  | .swapCancel _ _ => true
  | .coeffBankSwap => true
  | .targetWrite _ _ _ => true
  | .excitationWrite _ _ => true
  | .modeRequest _ _ => true
  | .slewStep _ => true
  | .complianceSet _ => true
  | .openloadSet _ => true
  | .openloadClear _ => true
  | .rangeRequest _ _ => true
  | .rangeSwitch _ => true
  | .rangeRampBack _ => true
  | .rangeChangeEnd _ => true
  | .sliceCorrection _ _ _ _ _ => true
  | .directResult _ _ _ => true
  | .auConfigWrite _ _ _ => true
  | .auConfigApply _ => true
  | .adcDataRead _ _ => true
  | .auFailed _ => true
  | .slotBoundary _ => true
  | .receiverPhaseLoad => true
  | .preambleEnd _ => true
  | .guardEnd => true
  | .matrixRoute => true
  | .finalListDelivery _ => true
  | .rotationReroute => true
  | .parkRequest _ _ => true
  | .parkEffect _ => true
  | .emitterFailed _ _ => true
  | .spareTakeover _ => true
  | .spareRelease _ => true
  | .forceSpare _ _ _ => true
  | .lightReturn _ => true
  | .permRead _ _ => true
  | .calInterpolation => true
  | .startFull _ _ => true
  | .fullCalibrationStep adc => adc.all AdcMeas.good
  | .fullCalibrationDone => true
  | .trialCapture taps codes adc => decide (taps.length = codes.length) && adc.all AdcMeas.good
  | .stageResultApply => true
  | .calStore _ _ => true
  | .storeComplete => true
  | .calDelete _ _ => true
  | .setRead _ _ => true
  | .prismStart => true
  | .templateWrite _ _ _ _ _ => true
  | .calLenWrite _ _ _ => true
  | .changeReq _ _ => true
  | .changeCancel _ _ => true
  | .calendarTakeover => true
  | .notice _ _ => true
  | .burstVerdict _ _ => true
  | .ack _ _ => true
  | .nack _ _ => true
  | .ackTimeout _ _ => true
  | .retransmitRead _ _ _ => true
  | .gapRequest _ _ => true
  | .gapTimeout _ _ => true
  | .gap _ _ => true
  | .chipletLoss _ => true
  | .snapshotReq _ _ => true
  | .snapshotLatch => true
  | .phaseRead _ _ => true
  | .frameReceived _ f => decide (f.bytes ≠ [])
  | .pauseExpiry _ _ => true
  | .commandReply _ => true
  | .linkUp _ => true
  | .trainingRetry _ => true
  | .linkDown _ _ => true
  | .retrain _ _ _ => true
  | .linkFaultReceived _ _ => true
  | .laneRemap _ _ _ _ => true
  | .remapSwitch _ => true
  | .pfcFrameSend _ => true
  | .pfcRefresh _ => true
  | .frameTransmitStart _ _ _ _ => true
  | .frameSent _ => true
  | .parseDispatch _ _ _ => true
  | .parsePassEnd _ _ => true
  | .lookup _ eccFail => decide eccFail.Nodup
  | .bankSwapReq _ _ _ => true
  | .ruleBankSwap _ => true
  | .tbwWrite _ _ _ _ => true
  | .traceArm _ _ _ => true
  | .ucodeSwap _ => true
  | .refill _ _ _ => true
  | .meterWrite _ _ _ => true
  | .meterRead _ _ _ => true
  | .meterProfileWrite _ _ _ _ => true
  | .meterProfileHold _ _ _ _ _ => true
  | .scrubRead _ _ _ => true
  | .pchReplace _ _ _ => true
  | .pchCopyDone _ _ => true
  | .zeroizationDone _ => true
  | .creditWithdraw _ _ _ => true
  | .creditRelease _ _ _ => true
  | .shaperCfgWrite _ _ _ _ => true
  | .shaperHoldWrite _ _ _ _ _ => true
  | .gateListWrite _ _ _ _ _ => true
  | .gateReq _ _ _ => true
  | .gateCancel _ _ _ => true
  | .gateEnWrite _ _ _ => true
  | .gateTakeover _ => true
  | .gateEntryAdvance _ => true
  | .adjWrite _ _ _ => true
  | .tsLoad _ _ _ => true
  | .tsStep _ _ _ => true
  | .selWrite _ _ => true
  | .slewDone => true
  | .timeReadLatch _ _ => true
  | .fifoRead _ => true
  | .loupeArm _ _ _ => true
  | .loupeStop _ _ _ => true
  | .loupeForce _ _ _ => true
  | .rdPtrWrite _ _ _ => true
  | .settleDone _ => true
  | .prefillDone _ => true
  | .triggerPoint _ _ _ _ _ _ => true
  | .recordWritten _ _ => true
  | .holdoffEnd _ _ => true
  | .lendLimit _ _ => true
  | .trigAssert _ => true
  | .trigRelease _ => true
  | .trigSense _ _ => true
  | .arbitration => true
  | .switchoverStart => true
  | .switchoverGapEnd => true
  | .controllerLoss _ => true
  | .redSwitch _ _ => true
  | .redIsolate _ _ => true
  | .redSleep _ _ => true
  | .redReturn _ _ => true
  | .redTest _ _ => true
  | .copyReceived _ => true
  | .copyLate _ => true
  | .suspectClear => true
  | .bulkDone _ => true
  | .deltaDone => true
  | .shadowDone => true
  | .standbyEngineTest _ => true
  | .controllerScrub _ _ _ => true
  | .selftestDone _ _ => true
  | .controllerBistDone _ _ => true
  | .faultReport _ => true
  | .safeStateEntry => true
  | .faultClear _ _ => true
  | .safeStateExit => true
  | .sensorReading _ _ _ _ => true
  | .thresholdAssert _ _ => true
  | .thresholdRelease _ _ => true
  | .emitterThrottleStep _ => true
  | .throttleOffPhase _ _ => true
  | .nvmWindowOpen => true
  | .thermalRecordWrite => true
  | .stageOpen _ _ => true
  | .stageWrite _ _ _ => true
  | .stageDone _ _ => true
  | .imageVerifyDone => true
  | .discard _ _ => true
  | .commit _ _ => true
  | .commitDone => true
  | .restructure _ _ => true
  | .drainEnd => true
  | .applyEnd => true
  | .restructureSwitch => true
  | .drainLimitExpiry => true
  | .abandon _ _ => true
  | .overlay _ _ => true
  | .registerWrite _ _ _ => true
  | .counterLowRead _ _ => true
  | .malformedAccess _ => true
  | .pcieReset => true
  | .abevoRead frame => decide (frame ≠ [])
  | .abevoWrite frame => decide (frame ≠ [])
  | .abevoMailbox frame => decide (frame ≠ [])
  | .abevoPoll frame => decide (frame ≠ [])
  | .boundaryScanInstruction _ => true
  | .jtagDebugAccess _ => true
  | .mbNop _ => true
  | .repairClear _ _ _ => true
  | .repairRead _ _ _ => true
  | .debugRead _ _ _ => true
  | .keyProvision _ hash _ => decide (hash.length = 12)
  | .keyRevoke _ _ => true
  | .svnRaise _ _ => true
  | .imageKeySet _ key => decide (key.length = 8)
  | .zeroize _ => true
  | .retire _ _ => true
  | .auditRead _ _ => true
  | .fuseOperationDone => true
  | .zeroizePin _ => true
  | .auditRecordWrite => true
  | .vinRise => true
  | .aonUp => true
  | .pllLockHeld _ => true
  | .domainPowerGood _ => true
  | .domainPowerTimeout _ => true
  | .dramTrainingDone _ => true
  | .laserLowPowerEnd _ => true
  | .laserNominal adc => adc.all AdcMeas.good
  | .lockLimit _ => true
  | .glbRelease _ _ => true
  | .quiesce _ _ => true
  | .quiesceDone _ => true
  | .resume _ _ => true
  | .deviceRestart _ _ => true
  | .domainRestart _ _ => true
  | .domainRestartFailed => true
  | .domainPowerLoss _ => true
  | .vinOutOfRange => true
  | .vinCollapse => true
  | .holdupExpiry => true
  | .pwrEnFall => true
  | .pwrEnRise => true
  | .pllUnlock => true
  | .pllRelock => true
  | .crossingTransfer _ _ => true
  | .timescaleTick => true
  | .linkFaultEnd _ _ => true
  | .autoNegotiationDone _ => true

/-- A word that names a request sets its bit. -/
def Instr.asks (i : Instr) : Bool :=
  match i.request with
  | some q => q.1.getLsbD q.2
  | none => true

/-- A well-formed command. -/
def Instr.wellFormed (i : Instr) : Bool := i.asks && i.shaped

end Sys2Proof
end

