-- ==== Sys2Proof/Laws/PerInstr.lean ====
section
/-! SUPPORT. The family Words of statements per command, about the command as syntax: a well-formed command that names a
request of a register writes its bit, and no table word spells a command. -/

namespace Sys2Proof.Laws.Words

open Sys2Proof

/-- What is said of every command. -/
def Statement (i : Instr) : Prop :=
  (i.wellFormed = true → ∀ q, i.request = some q → q.1.getLsbD q.2 = true) ∧
  ∀ nbits w, decodeTableWord nbits w ≠ some i

/-- A well-formed command asks for what its row names. -/
theorem asks_statement (i : Instr) : Statement i := by
  refine ⟨fun h q hq => ?_, fun _ _ => by simp [decodeTableWord]⟩
  simp only [Instr.wellFormed, Bool.and_eq_true] at h
  simpa [Instr.asks, hq] using h.1

theorem loopSampleBoundary : Statement .loopSampleBoundary := asks_statement _
theorem tapCapture : Statement (.tapCapture) := asks_statement _
theorem tapReading (t : Fin 10304) (codes : TapCodes) : Statement (.tapReading t codes) := asks_statement _
theorem elementIteration (c : Ctl) (e : Fin 4608) : Statement (.elementIteration c e) := asks_statement _
theorem selectorIteration (c : Ctl) (l : Fin 48) : Statement (.selectorIteration c l) := asks_statement _
theorem overrun (c : Ctl) (p : Fin 52) : Statement (.overrun c p) := asks_statement _
theorem spareEngineTakeover (c : Ctl) (l : Fin 48) : Statement (.spareEngineTakeover c l) := asks_statement _
theorem acqTimeout (c : Ctl) (e : Fin 5120) : Statement (.acqTimeout c e) := asks_statement _
theorem coeffBankWrite (p : CmdPort) (l : Fin 48) (b : Fin 2) (w : Fin 32) (v : Word) : Statement (.coeffBankWrite p l b w v) := asks_statement _
theorem swapReq (p : CmdPort) (v : Word) : Statement (.swapReq p v) := asks_statement _
theorem swapCancel (p : CmdPort) (v : Word) : Statement (.swapCancel p v) := asks_statement _
theorem coeffBankSwap : Statement (.coeffBankSwap) := asks_statement _
theorem targetWrite (p : CmdPort) (e : Fin 5120) (v : Word) : Statement (.targetWrite p e v) := asks_statement _
theorem excitationWrite (p : CmdPort) (v : Word) : Statement (.excitationWrite p v) := asks_statement _
theorem modeRequest (p : CmdPort) (v : Word) : Statement (.modeRequest p v) := asks_statement _
theorem slewStep (e : Fin 5120) : Statement (.slewStep e) := asks_statement _
theorem complianceSet (e : Fin 5120) : Statement (.complianceSet e) := asks_statement _
theorem openloadSet (e : Fin 5120) : Statement (.openloadSet e) := asks_statement _
theorem openloadClear (e : Fin 5120) : Statement (.openloadClear e) := asks_statement _
theorem rangeRequest (p : CmdPort) (v : Word) : Statement (.rangeRequest p v) := asks_statement _
theorem rangeSwitch (e : Fin 5120) : Statement (.rangeSwitch e) := asks_statement _
theorem rangeRampBack (e : Fin 5120) : Statement (.rangeRampBack e) := asks_statement _
theorem rangeChangeEnd (e : Fin 5120) : Statement (.rangeChangeEnd e) := asks_statement _
theorem sliceCorrection (u : Fin 100) (i : Fin 4) (offset gain skew : Int) : Statement (.sliceCorrection u i offset gain skew) := asks_statement _
theorem directResult (u : Fin 100) (code : BitVec 14) (ovrs : Nat) : Statement (.directResult u code ovrs) := asks_statement _
theorem auConfigWrite (p : CmdPort) (u : Fin 100) (v : Word) : Statement (.auConfigWrite p u v) := asks_statement _
theorem auConfigApply (u : Fin 100) : Statement (.auConfigApply u) := asks_statement _
theorem adcDataRead (p : CmdPort) (u : Fin 100) : Statement (.adcDataRead p u) := asks_statement _
theorem auFailed (r : RefCodes) : Statement (.auFailed r) := asks_statement _
theorem slotBoundary (k : Fin 4) : Statement (.slotBoundary k) := asks_statement _
theorem receiverPhaseLoad : Statement (.receiverPhaseLoad) := asks_statement _
theorem preambleEnd (o : PreambleObs) : Statement (.preambleEnd o) := asks_statement _
theorem guardEnd : Statement (.guardEnd) := asks_statement _
theorem matrixRoute : Statement (.matrixRoute) := asks_statement _
theorem finalListDelivery (reads : List (Fin 16 × SegRead)) : Statement (.finalListDelivery reads) := asks_statement _
theorem rotationReroute : Statement (.rotationReroute) := asks_statement _
theorem parkRequest (p : CmdPort) (v : Word) : Statement (.parkRequest p v) := asks_statement _
theorem parkEffect (e : Fin 4608) : Statement (.parkEffect e) := asks_statement _
theorem emitterFailed (n : Fin 32) (i : Fin 17) : Statement (.emitterFailed n i) := asks_statement _
theorem spareTakeover (n : Fin 32) : Statement (.spareTakeover n) := asks_statement _
theorem spareRelease (n : Fin 32) : Statement (.spareRelease n) := asks_statement _
theorem forceSpare (p : CmdPort) (n : Fin 32) (v : Word) : Statement (.forceSpare p n v) := asks_statement _
theorem lightReturn (k : Fin 512) : Statement (.lightReturn k) := asks_statement _
theorem permRead (p : CmdPort) (v : Word) : Statement (.permRead p v) := asks_statement _
theorem calInterpolation : Statement (.calInterpolation) := asks_statement _
theorem startFull (p : CmdPort) (v : Word) : Statement (.startFull p v) := asks_statement _
theorem fullCalibrationStep (adc : List AdcMeas) : Statement (.fullCalibrationStep adc) := asks_statement _
theorem fullCalibrationDone : Statement (.fullCalibrationDone) := asks_statement _
theorem trialCapture (taps : List (Fin 10304)) (codes : List TapCodes) (adc : List AdcMeas) : Statement (.trialCapture taps codes adc) := asks_statement _
theorem stageResultApply : Statement (.stageResultApply) := asks_statement _
theorem calStore (p : CmdPort) (v : Word) : Statement (.calStore p v) := asks_statement _
theorem storeComplete : Statement (.storeComplete) := asks_statement _
theorem calDelete (p : CmdPort) (v : Word) : Statement (.calDelete p v) := asks_statement _
theorem setRead (p : CmdPort) (v : Word) : Statement (.setRead p v) := asks_statement _
theorem prismStart : Statement (.prismStart) := asks_statement _
theorem templateWrite (p : CmdPort) (c : Fin 2) (t : Fin 8) (w : Fin 64) (v : Word) : Statement (.templateWrite p c t w v) := asks_statement _
theorem calLenWrite (p : CmdPort) (c : Fin 2) (v : Word) : Statement (.calLenWrite p c v) := asks_statement _
theorem changeReq (p : CmdPort) (v : Word) : Statement (.changeReq p v) := asks_statement _
theorem changeCancel (p : CmdPort) (v : Word) : Statement (.changeCancel p v) := asks_statement _
theorem calendarTakeover : Statement (.calendarTakeover) := asks_statement _
theorem notice (i j : Fin 512) : Statement (.notice i j) := asks_statement _
theorem burstVerdict (j : Fin 512) (o : RxObs) : Statement (.burstVerdict j o) := asks_statement _
theorem ack (i j : Fin 512) : Statement (.ack i j) := asks_statement _
theorem nack (i j : Fin 512) : Statement (.nack i j) := asks_statement _
theorem ackTimeout (i j : Fin 512) : Statement (.ackTimeout i j) := asks_statement _
theorem retransmitRead (i j : Fin 512) (reads : List SegRead) : Statement (.retransmitRead i j reads) := asks_statement _
theorem gapRequest (i j : Fin 512) : Statement (.gapRequest i j) := asks_statement _
theorem gapTimeout (i j : Fin 512) : Statement (.gapTimeout i j) := asks_statement _
theorem gap (i j : Fin 512) : Statement (.gap i j) := asks_statement _
theorem chipletLoss (c : Fin 16) : Statement (.chipletLoss c) := asks_statement _
theorem snapshotReq (p : CmdPort) (v : Word) : Statement (.snapshotReq p v) := asks_statement _
theorem snapshotLatch : Statement (.snapshotLatch) := asks_statement _
theorem phaseRead (p : CmdPort) (v : Word) : Statement (.phaseRead p v) := asks_statement _
theorem frameReceived (k : Fin 512) (f : RxFrame) : Statement (.frameReceived k f) := asks_statement _
theorem pauseExpiry (k : Fin 512) (prio : Fin 8) : Statement (.pauseExpiry k prio) := asks_statement _
theorem commandReply (k : Fin 512) : Statement (.commandReply k) := asks_statement _
theorem linkUp (k : Fin 512) : Statement (.linkUp k) := asks_statement _
theorem trainingRetry (k : Fin 512) : Statement (.trainingRetry k) := asks_statement _
theorem linkDown (k : Fin 512) (cutFrame : Bool) : Statement (.linkDown k cutFrame) := asks_statement _
theorem retrain (p : CmdPort) (k : Fin 512) (v : Word) : Statement (.retrain p k v) := asks_statement _
theorem linkFaultReceived (k : Fin 512) (localFault : Bool) : Statement (.linkFaultReceived k localFault) := asks_statement _
theorem laneRemap (p : CmdPort) (c : Fin 16) (v : Word) (cutFrame : Bool) : Statement (.laneRemap p c v cutFrame) := asks_statement _
theorem remapSwitch (c : Fin 16) : Statement (.remapSwitch c) := asks_statement _
theorem pfcFrameSend (k : Fin 512) : Statement (.pfcFrameSend k) := asks_statement _
theorem pfcRefresh (k : Fin 512) : Statement (.pfcRefresh k) := asks_statement _
theorem frameTransmitStart (k : Fin 512) (sub : Fin 80) (member : Fin 8) (reads : List SegRead) : Statement (.frameTransmitStart k sub member reads) := asks_statement _
theorem frameSent (k : Fin 512) : Statement (.frameSent k) := asks_statement _
theorem parseDispatch (c : Fin 16) (e : Fin 256) (port : Fin 32) : Statement (.parseDispatch c e port) := asks_statement _
theorem parsePassEnd (c : Fin 16) (e : Fin 256) : Statement (.parsePassEnd c e) := asks_statement _
theorem lookup (c : Fin 16) (eccFail : List Nat) : Statement (.lookup c eccFail) := asks_statement _
theorem bankSwapReq (p : CmdPort) (c : Fin 16) (v : Word) : Statement (.bankSwapReq p c v) := asks_statement _
theorem ruleBankSwap (c : Fin 16) : Statement (.ruleBankSwap c) := asks_statement _
theorem tbwWrite (p : CmdPort) (c : Fin 16) (off : BitVec 25) (v : Word) : Statement (.tbwWrite p c off v) := asks_statement _
theorem traceArm (p : CmdPort) (c : Fin 16) (v : Word) : Statement (.traceArm p c v) := asks_statement _
theorem ucodeSwap (c : Fin 16) : Statement (.ucodeSwap c) := asks_statement _
theorem refill (p : CmdPort) (c : Fin 16) (v : Word) : Statement (.refill p c v) := asks_statement _
theorem meterWrite (p : CmdPort) (c : Fin 16) (v : Word) : Statement (.meterWrite p c v) := asks_statement _
theorem meterRead (p : CmdPort) (c : Fin 16) (v : Word) : Statement (.meterRead p c v) := asks_statement _
theorem meterProfileWrite (p : CmdPort) (c : Fin 16) (m : Fin 1024) (v : Word) : Statement (.meterProfileWrite p c m v) := asks_statement _
theorem meterProfileHold (p : CmdPort) (c : Fin 16) (m : Fin 1024) (w : Fin 4) (v : Word) : Statement (.meterProfileHold p c m w v) := asks_statement _
theorem scrubRead (c : Fin 16) (t : ScrubTarget) (r : EccResult) : Statement (.scrubRead c t r) := asks_statement _
theorem pchReplace (p : CmdPort) (c : Fin 16) (v : Word) : Statement (.pchReplace p c v) := asks_statement _
theorem pchCopyDone (c : Fin 16) (poisoned : List (BitVec 32)) : Statement (.pchCopyDone c poisoned) := asks_statement _
theorem zeroizationDone (failed : BitVec 16) : Statement (.zeroizationDone failed) := asks_statement _
theorem creditWithdraw (c : Fin 16) (j : Fin 512) (k : Fin 8) : Statement (.creditWithdraw c j k) := asks_statement _
theorem creditRelease (c : Fin 16) (j : Fin 512) (k : Fin 8) : Statement (.creditRelease c j k) := asks_statement _
theorem shaperCfgWrite (p : CmdPort) (k : Fin 512) (sh : Fin 9) (v : Word) : Statement (.shaperCfgWrite p k sh v) := asks_statement _
theorem shaperHoldWrite (p : CmdPort) (k : Fin 512) (sh : Fin 9) (burst : Bool) (v : Word) : Statement (.shaperHoldWrite p k sh burst v) := asks_statement _
theorem gateListWrite (p : CmdPort) (k : Fin 512) (a : Fin 2) (e : Option (Fin 256)) (v : Word) : Statement (.gateListWrite p k a e v) := asks_statement _
theorem gateReq (p : CmdPort) (k : Fin 512) (v : Word) : Statement (.gateReq p k v) := asks_statement _
theorem gateCancel (p : CmdPort) (k : Fin 512) (v : Word) : Statement (.gateCancel p k v) := asks_statement _
theorem gateEnWrite (p : CmdPort) (k : Fin 512) (v : Word) : Statement (.gateEnWrite p k v) := asks_statement _
theorem gateTakeover (k : Fin 512) : Statement (.gateTakeover k) := asks_statement _
theorem gateEntryAdvance (k : Fin 512) : Statement (.gateEntryAdvance k) := asks_statement _
theorem adjWrite (p : CmdPort) (x : Fin 2) (v : Word) : Statement (.adjWrite p x v) := asks_statement _
theorem tsLoad (p : CmdPort) (x : Fin 2) (v : Word) : Statement (.tsLoad p x v) := asks_statement _
theorem tsStep (p : CmdPort) (x : Fin 2) (v : Word) : Statement (.tsStep p x v) := asks_statement _
theorem selWrite (p : CmdPort) (v : Word) : Statement (.selWrite p v) := asks_statement _
theorem slewDone : Statement (.slewDone) := asks_statement _
theorem timeReadLatch (p : CmdPort) (k : TimClock) : Statement (.timeReadLatch p k) := asks_statement _
theorem fifoRead (p : CmdPort) : Statement (.fifoRead p) := asks_statement _
theorem loupeArm (p : CmdPort) (u : Fin 8) (v : Word) : Statement (.loupeArm p u v) := asks_statement _
theorem loupeStop (p : CmdPort) (u : Fin 8) (v : Word) : Statement (.loupeStop p u v) := asks_statement _
theorem loupeForce (p : CmdPort) (u : Fin 8) (v : Word) : Statement (.loupeForce p u v) := asks_statement _
theorem rdPtrWrite (p : CmdPort) (u : Fin 8) (v : Word) : Statement (.rdPtrWrite p u v) := asks_statement _
theorem settleDone (u : Fin 8) : Statement (.settleDone u) := asks_statement _
theorem prefillDone (f : TapSamples) : Statement (.prefillDone f) := asks_statement _
theorem triggerPoint (u : Fin 8) (before : List (BitVec 16)) (code : BitVec 14) (ovr bad : Bool) (later : List (BitVec 16)) :
    Statement (.triggerPoint u before code ovr bad later) := asks_statement _
theorem recordWritten (u : Fin 8) (samples : List (BitVec 16)) : Statement (.recordWritten u samples) := asks_statement _
theorem holdoffEnd (u : Fin 8) (samples : List (BitVec 16)) : Statement (.holdoffEnd u samples) := asks_statement _
theorem lendLimit (u : Fin 8) (samples : List (BitVec 16)) : Statement (.lendLimit u samples) := asks_statement _
theorem trigAssert (u : Fin 8) : Statement (.trigAssert u) := asks_statement _
theorem trigRelease (u : Fin 8) : Statement (.trigRelease u) := asks_statement _
theorem trigSense (n : Fin 4) (k : Fin 4) : Statement (.trigSense n k) := asks_statement _
theorem arbitration : Statement (.arbitration) := asks_statement _
theorem switchoverStart : Statement (.switchoverStart) := asks_statement _
theorem switchoverGapEnd : Statement (.switchoverGapEnd) := asks_statement _
theorem controllerLoss (c : Ctl) : Statement (.controllerLoss c) := asks_statement _
theorem redSwitch (p : CmdPort) (v : Word) : Statement (.redSwitch p v) := asks_statement _
theorem redIsolate (p : CmdPort) (v : Word) : Statement (.redIsolate p v) := asks_statement _
theorem redSleep (p : CmdPort) (v : Word) : Statement (.redSleep p v) := asks_statement _
theorem redReturn (p : CmdPort) (v : Word) : Statement (.redReturn p v) := asks_statement _
theorem redTest (p : CmdPort) (v : Word) : Statement (.redTest p v) := asks_statement _
theorem copyReceived (resent : Nat) : Statement (.copyReceived resent) := asks_statement _
theorem copyLate (missing : Bool) : Statement (.copyLate missing) := asks_statement _
theorem suspectClear : Statement (.suspectClear) := asks_statement _
theorem bulkDone (resent : Nat) : Statement (.bulkDone resent) := asks_statement _
theorem deltaDone : Statement (.deltaDone) := asks_statement _
theorem shadowDone : Statement (.shadowDone) := asks_statement _
theorem standbyEngineTest (pass : Bool) : Statement (.standbyEngineTest pass) := asks_statement _
theorem controllerScrub (c : Ctl) (corrected : Nat) (uncorrectable : Bool) : Statement (.controllerScrub c corrected uncorrectable) := asks_statement _
theorem selftestDone (c : Ctl) (pass : Bool) : Statement (.selftestDone c pass) := asks_statement _
theorem controllerBistDone (passA passB : Bool) : Statement (.controllerBistDone passA passB) := asks_statement _
theorem faultReport (r : FaultRep) : Statement (.faultReport r) := asks_statement _
theorem safeStateEntry : Statement (.safeStateEntry) := asks_statement _
theorem faultClear (p : CmdPort) (v : Word) : Statement (.faultClear p v) := asks_statement _
theorem safeStateExit : Statement (.safeStateExit) := asks_statement _
theorem sensorReading (z : Fin 76) (k : Fin 2) (deg : Int) (frac : Fin 16) : Statement (.sensorReading z k deg frac) := asks_statement _
theorem thresholdAssert (z : Fin 76) (t : Threshold) : Statement (.thresholdAssert z t) := asks_statement _
theorem thresholdRelease (z : Fin 76) (t : Threshold) : Statement (.thresholdRelease z t) := asks_statement _
theorem emitterThrottleStep (z : Fin 76) : Statement (.emitterThrottleStep z) := asks_statement _
theorem throttleOffPhase (c : Fin 16) (off : Bool) : Statement (.throttleOffPhase c off) := asks_statement _
theorem nvmWindowOpen : Statement (.nvmWindowOpen) := asks_statement _
theorem thermalRecordWrite : Statement (.thermalRecordWrite) := asks_statement _
theorem stageOpen (p : CmdPort) (v : Word) : Statement (.stageOpen p v) := asks_statement _
theorem stageWrite (p : CmdPort) (off : BitVec 25) (data : List Byte) : Statement (.stageWrite p off data) := asks_statement _
theorem stageDone (p : CmdPort) (v : Word) : Statement (.stageDone p v) := asks_statement _
theorem imageVerifyDone : Statement (.imageVerifyDone) := asks_statement _
theorem discard (p : CmdPort) (v : Word) : Statement (.discard p v) := asks_statement _
theorem commit (p : CmdPort) (v : Word) : Statement (.commit p v) := asks_statement _
theorem commitDone : Statement (.commitDone) := asks_statement _
theorem restructure (p : CmdPort) (v : Word) : Statement (.restructure p v) := asks_statement _
theorem drainEnd : Statement (.drainEnd) := asks_statement _
theorem applyEnd : Statement (.applyEnd) := asks_statement _
theorem restructureSwitch : Statement (.restructureSwitch) := asks_statement _
theorem drainLimitExpiry : Statement (.drainLimitExpiry) := asks_statement _
theorem abandon (p : CmdPort) (v : Word) : Statement (.abandon p v) := asks_statement _
theorem overlay (p : CmdPort) (v : Word) : Statement (.overlay p v) := asks_statement _
theorem registerWrite (p : CmdPort) (addr : BitVec 28) (v : Word) : Statement (.registerWrite p addr v) := asks_statement _
theorem counterLowRead (p : CmdPort) (addr : BitVec 28) : Statement (.counterLowRead p addr) := asks_statement _
theorem malformedAccess (isWrite : Bool) : Statement (.malformedAccess isWrite) := asks_statement _
theorem pcieReset : Statement (.pcieReset) := asks_statement _
theorem abevoRead (frame : List Byte) : Statement (.abevoRead frame) := asks_statement _
theorem abevoWrite (frame : List Byte) : Statement (.abevoWrite frame) := asks_statement _
theorem abevoMailbox (frame : List Byte) : Statement (.abevoMailbox frame) := asks_statement _
theorem abevoPoll (frame : List Byte) : Statement (.abevoPoll frame) := asks_statement _
theorem boundaryScanInstruction (bypassOrId : Bool) : Statement (.boundaryScanInstruction bypassOrId) := asks_statement _
theorem jtagDebugAccess (a : JtagAccess) : Statement (.jtagDebugAccess a) := asks_statement _
theorem mbNop (p : CmdPort) : Statement (.mbNop p) := asks_statement _
theorem repairClear (p : CmdPort) (kind : Word) (index : Word) : Statement (.repairClear p kind index) := asks_statement _
theorem repairRead (p : CmdPort) (kind : Word) (n : Word) : Statement (.repairRead p kind n) := asks_statement _
theorem debugRead (p : CmdPort) (addr : Word) (words : Word) : Statement (.debugRead p addr words) := asks_statement _
theorem keyProvision (p : CmdPort) (hash : List Word) (slot : Word) : Statement (.keyProvision p hash slot) := asks_statement _
theorem keyRevoke (p : CmdPort) (slot : Word) : Statement (.keyRevoke p slot) := asks_statement _
theorem svnRaise (p : CmdPort) (v : Word) : Statement (.svnRaise p v) := asks_statement _
theorem imageKeySet (p : CmdPort) (key : List Word) : Statement (.imageKeySet p key) := asks_statement _
theorem zeroize (p : CmdPort) : Statement (.zeroize p) := asks_statement _
theorem retire (p : CmdPort) (magic : Word) : Statement (.retire p magic) := asks_statement _
theorem auditRead (p : CmdPort) (seq : Word) : Statement (.auditRead p seq) := asks_statement _
theorem fuseOperationDone : Statement (.fuseOperationDone) := asks_statement _
theorem zeroizePin (samples : Nat) : Statement (.zeroizePin samples) := asks_statement _
theorem auditRecordWrite : Statement (.auditRecordWrite) := asks_statement _
theorem vinRise : Statement (.vinRise) := asks_statement _
theorem aonUp : Statement (.aonUp) := asks_statement _
theorem pllLockHeld (straps : BitVec 4) : Statement (.pllLockHeld straps) := asks_statement _
theorem domainPowerGood (d : Fin 64) : Statement (.domainPowerGood d) := asks_statement _
theorem domainPowerTimeout (d : Fin 64) : Statement (.domainPowerTimeout d) := asks_statement _
theorem dramTrainingDone (repaired : List (Fin 16 × BitVec 32)) : Statement (.dramTrainingDone repaired) := asks_statement _
theorem laserLowPowerEnd (dim : List (Fin 544)) : Statement (.laserLowPowerEnd dim) := asks_statement _
theorem laserNominal (adc : List AdcMeas) : Statement (.laserNominal adc) := asks_statement _
theorem lockLimit (e : Fin 5120) : Statement (.lockLimit e) := asks_statement _
theorem glbRelease (p : CmdPort) (v : Word) : Statement (.glbRelease p v) := asks_statement _
theorem quiesce (p : CmdPort) (v : Word) : Statement (.quiesce p v) := asks_statement _
theorem quiesceDone (abandoned : Bool) : Statement (.quiesceDone abandoned) := asks_statement _
theorem resume (p : CmdPort) (v : Word) : Statement (.resume p v) := asks_statement _
theorem deviceRestart (p : CmdPort) (v : Word) : Statement (.deviceRestart p v) := asks_statement _
theorem domainRestart (p : CmdPort) (v : Word) : Statement (.domainRestart p v) := asks_statement _
theorem domainRestartFailed : Statement (.domainRestartFailed) := asks_statement _
theorem domainPowerLoss (d : Fin 64) : Statement (.domainPowerLoss d) := asks_statement _
theorem vinOutOfRange : Statement (.vinOutOfRange) := asks_statement _
theorem vinCollapse : Statement (.vinCollapse) := asks_statement _
theorem holdupExpiry : Statement (.holdupExpiry) := asks_statement _
theorem pwrEnFall : Statement (.pwrEnFall) := asks_statement _
theorem pwrEnRise : Statement (.pwrEnRise) := asks_statement _
theorem pllUnlock : Statement (.pllUnlock) := asks_statement _
theorem pllRelock : Statement (.pllRelock) := asks_statement _
theorem crossingTransfer (x : BitVec 11) (pulses : Nat) : Statement (.crossingTransfer x pulses) := asks_statement _
theorem timescaleTick : Statement (.timescaleTick) := asks_statement _
theorem linkFaultEnd (k : Fin 512) (localFault : Bool) : Statement (.linkFaultEnd k localFault) := asks_statement _
theorem autoNegotiationDone (k : Fin 512) : Statement (.autoNegotiationDone k) := asks_statement _

end Sys2Proof.Laws.Words
end

