-- ==== Sys2Proof/Tests/Slice0.lean ====
section
/-! SUPPORT. The model's own tests: for each statement with hypotheses, a state and operands that meet the hypotheses
of each of its clauses; the spec's worked examples; an ill-formed command for each check. -/

namespace Sys2Proof.Tests

open Sys2Proof Sys2Proof.Machine

-- One theorem after another: each `decide` waits for those before it.
set_option Elab.async false

/-! ### Helpers -/

/-- A state in SERVICE with every domain on, and every class open to every port. -/
def on : State :=
  { State.reset with
    cmd := { ({} : CmdSt) with rows := Vector.replicate 6 0xF }
    glb := { ({} : GlbSt) with state := .service, prev := .locking, pg := BitVec.allOnes 64, step := 12 } }

/-- The device ON with its loops under way in sample n, CTL-A ACTIVE and CTL-B STANDBY. -/
def loops (n : Nat) : State :=
  { on with
    loopS := { ({} : LoopShared) with running := true, first := false, sample := n }
    red := { ({} : RedSt) with a := { ({} : CtlRed) with state := .active },
                               b := { ({} : CtlRed) with state := .standby } } }

/-- A state with words put into registers. -/
def put (s : State) (l : List (Nat × Word)) : State := l.foldl (fun s x => s.wr x.1 x.2) s

/-! ### Witnesses: loops -/

/-- A capture without readings. -/
def cap0 (n : Nat) : Capture := { sample := n, exc := true, sel := 0, readings := [] }

/-- The loops with a capture taken in sample n. -/
def capd (n : Nat) : State := { loops n with loopS := { (loops n).loopS with capCur := some (cap0 n) } }

/-- The loops in sample 5 with Prism running in a slot of a kind, inside its guard or not. -/
def runs (kind : Nat) (g : Bool) : State :=
  { loops 5 with slt := { on.slt with running := true, cur := { ({} : FinalSlot) with kind := kind } }
                 drv := { on.drv with inGuard := g } }

/-- The loops in sample 6 with a capture of sample 5 that has the taps of an element. -/
def readable (e : Nat) : State :=
  { loops 6 with loopS := { (loops 6).loopS with
      capPrev := some { cap0 5 with readings := (elemTaps e).foldl (fun m x => Sparse.put m x { value := 4, valid := true, reason := 0 }) [] } } }

/-- Codes of a tap without overrange. -/
def codes : TapCodes := { c0 := 1, c1 := 2, c2 := 3, c3 := 0x3FFF, ovr := 0, pre := 0 }

theorem witness_TapsCapturedAndRead :
    ((loops 5).loopS.running = true ∧ (loops 5).loopS.capCur = none ∧ (loops 5).slt.running = false ∧
      Sparse.wf (fun _ => {}) (loops 5).adc.units = true) ∧
    ({ on with glb := { on.glb with state := .calibrating } }.glb.state = .calibrating) ∧
    ((capd 5).loopS.capCur ≠ none) ∧ (runs 2 false).slt.running = true ∧ (runs 2 false).slt.cur.kind ≠ 3 ∧
    (runs 2 false).drv.inGuard = false ∧ (runs 3 false).slt.cur.kind = 3 ∧ (runs 2 true).drv.inGuard = true ∧
    ((capd 5).loopS.latest = some (cap0 5) ∧ (cap0 5).has 2499 = false ∧
    (capd 5).convertedBy (tapUnit 2499) = .own ∧ (capd 5).tapNext (tapUnit 2499) 2499 = true ∧
      (capd 5).inRepair (tapUnit 2499) = false ∧ ((capd 5).au (tapUnit 2499)).recovery = 0 ∧ codes.ovr = 0) ∧
    ((cap0 5).has 0 = false ∧ (capd 5).convertedBy (tapUnit 0) = .own ∧ (capd 5).tapNext (tapUnit 0) 0 = true ∧
      (capd 5).inRepair (tapUnit 0) = false ∧ { codes with ovr := 8 }.ovr ≠ 0) ∧
    (((capd 5).setAu 0 { ({} : AdcUnit) with failed := true }).convertedBy (tapUnit 0) = .partner ∧
      ((capd 5).setAu 0 { ({} : AdcUnit) with failed := true }).tapNext (partner (tapUnit 0)) 0 = true ∧
      (((capd 5).setAu 0 { ({} : AdcUnit) with failed := true }).au (partner (tapUnit 0))).recovery = 0 ∧
      codes.ovr.getLsbD 0 = false) ∧
    (((capd 5).setAu 0 { ({} : AdcUnit) with lent := true }).loopS.latest = some (cap0 5) ∧
      ((capd 5).setAu 0 { ({} : AdcUnit) with lent := true }).convertedBy (tapUnit 10300) = .nobody) := by
  decide +kernel

/-- The loops in sample 5 in the safe state. -/
def safe5 : State := { loops 5 with flt := { (loops 5).flt with safe := true } }

theorem witness_IterationsRun :
    ((readable 4512).loopS.running = true ∧ (readable 4512).loopS.first = false ∧ (readable 4512).ctlRuns .b = true ∧
      ((readable 4512).unreached .b ((readable 4512).engineOf 4512).1).head? = some 4512 ∧
      (∃ cap, (readable 4512).loopS.capPrev = some cap ∧ ∀ x ∈ elemTaps 4512, cap.has x = true) ∧
      (readable 4512).heldStale .b 4512 = false) ∧
    (safe5.iterationDue .b 4512 = true ∧ safe5.reading 4512 = some noReading ∧ safe5.heldStale .b 4512 = true) ∧
    ((loops 5).iterationDue .a 0 = true ∧ (loops 5).reading 0 = some noReading ∧ (loops 5).heldStale .a 0 = false) ∧
    ({ loops 5 with loopS := { (loops 5).loopS with capPrev := some (cap0 4) } }.reading 0 = none) ∧
    ((loops 5).loopS.running = true ∧ (loops 5).loopS.first = false ∧ (loops 5).ctlRuns .a = true ∧
      Sparse.get (fun _ => 0) ((loops 5).loops .a).selRun 47 < (loops 5).loopS.sample + 1 ∧
      (loops 5).nextSelector .a 47 = some 4655 ∧ (loops 5).heldStale .a 4655 = false) := by
  refine ⟨⟨?_, ?_, ?_, ?_, ⟨_, rfl, ?_⟩, ?_⟩, ?_⟩ <;> decide +kernel

theorem witness_EnginesOverrunAndReplaced :
    ((loops 5).loopS.running = true ∧ (loops 5).loopS.first = false ∧ (loops 5).ctlRuns .b = true ∧
      ((loops 5).engine .b 47).role = .active ∧ (loops 5).unreached .b ((loops 5).engine .b 47).logical ≠ []) ∧
    (((loops 5).setEngine .a 3 { logical := 3, role := .faulty, ovr := [1, 2, 3] }).servedBy .a 3 = none ∧
      (((loops 5).setEngine .a 3 { logical := 3, role := .faulty, ovr := [1, 2, 3] }).freeSpares .a).head? = some 48 ∧
      ∃ p < 52, (((loops 5).setEngine .a 3 { logical := 3, role := .faulty, ovr := [1, 2, 3] }).engine .a p).role = .faulty ∧
        (((loops 5).setEngine .a 3 { logical := 3, role := .faulty, ovr := [1, 2, 3] }).engine .a p).logical = 3 ∧
        (loops 5).loopS.sample ∉
          (((loops 5).setEngine .a 3 { logical := 3, role := .faulty, ovr := [1, 2, 3] }).engine .a p).ovr) ∧
    (((loops 5).setElem .a 5119 { ({} : Elem) with
        mode := .acquisition, acq := { ({} : Acquisition) with samples := 65535 } }).elem .a 5119).mode = .acquisition ∧
    (((loops 5).setElem .a 5119 { ({} : Elem) with
        mode := .acquisition, acq := { ({} : Acquisition) with samples := 65535 } }).elem .a 5119).acq.samples ≠ 0 ∧
    ((loops 5).coeffs ((loops 5).engineOf 5119).1 (loops 5).loopS.activeBank).acqTimeout ≤ 65535 := by
  decide +kernel

theorem witness_CoefficientBanks :
    Permitted (loops 5) .smp (coeffReg 47 1 31) 1 ∧ Permitted (loops 5) .jtag (coeffReg 0 0 0) 1 ∧
    (Permitted (loops 5) .pcie Reg.LPE_SWAP_CTRL 1 ∧ bit (1 : Word) 1 = false ∧ bit (2 : Word) 0 = false) ∧
    ({ loops 5 with loopS := { (loops 5).loopS with swapAt := some 9 } }.loopS.swapAt ≠ none) ∧
    ((loops 5).loopS.swapAt = none ∧ (loops 5).swapAtReg ≤ (loops 5).loopS.sample + 1) ∧
    (5 + 1 < (put (loops 5) [(Reg.LPE_SWAP_AT, 7)]).swapAtReg) ∧ (1 : Fin 2) ≠ (loops 5).loopS.activeBank ∧
    (0 : Fin 2) = (loops 5).loopS.activeBank ∧ bit (1 : Word) 0 = true ∧
    ({ loops 9 with loopS := { (loops 9).loopS with swapAt := some 9 } }.loopS.swapAt = some 9 ∧
      9 ≤ (loops 9).loopS.sample) := by
  unfold Permitted; decide +kernel

theorem witness_TargetsAndModesWait :
    Permitted (loops 5) .pcie (Reg.CEL_TARGET + 0x40 * 5119) 1 ∧ Permitted (loops 5) .smp Reg.LPE_EXC 1 ∧
    Permitted (loops 5) .inband Reg.LPE_MODE_REQ 1 ∧
    (fld (BitVec.ofNat 32 (5119 + 0x20000)) 12 0 < 5120 ∧ (loops 5).loopS.modeReq = none ∧
      modeOf (fld (BitVec.ofNat 32 (5119 + 0x20000)) 17 16) ≠ .off ∧ (loops 5).isParked 5119 = false) ∧
    5120 ≤ fld (BitVec.ofNat 32 (5120 + 0x20000)) 12 0 ∧ modeOf (fld (BitVec.ofNat 32 5119) 17 16) = .off ∧
    { loops 5 with loopS := { (loops 5).loopS with modeReq := some (0, .hold) } }.loopS.modeReq ≠ none ∧
    { on with mtx := { on.mtx with parked := 1 } }.isParked 0 = true := by
  unfold Permitted; decide +kernel

theorem witness_SampleBoundary :
    (loops 5).loopS.running = true ∧ (loops 5).loopS.first = false ∧
    ({ loops 5 with loopS := { (loops 5).loopS with first := true } }.loopS.first = true) := by decide

/-! ### Witnesses: drive and sense -/

/-- The device ON with a channel of one element. -/
def chanOf (e : Nat) (c : Chan) : State := on.setChan e c

theorem witness_SlewLimited :
    on.drv.picOff = false ∧
    ((chanOf 5119 { ({} : Chan) with out := 7, latest := 7 }).chan 5119).out =
      ((chanOf 5119 { ({} : Chan) with out := 7, latest := 7 }).chan 5119).goal 7 ∧
    (((chanOf 5119 { ({} : Chan) with latest := 9, count := 0 }).chan 5119).count + 1 <
      ((put on [(Reg.CNV_SLEW_LO, 0x00500004)]).slew false).2) ∧
    ((put on [(Reg.CNV_SLEW_LO, 0x00500004)]).slew false).2 ≤ 4 + 1 ∧
    { on with drv := { on.drv with inGuard := true } }.drv.inGuard = true := by
  decide +kernel

theorem witness_ComplianceAndOpenLoad :
    (on.chan 0).compliance = false ∧
    ((chanOf 5119 { ({} : Chan) with compliance := true }).chan 5119).compliance = true ∧
    (0x100000 ≤ ((chanOf 5119 { ({} : Chan) with out := 0x100000 }).chan 5119).out.toNat ∧
      ((chanOf 5119 { ({} : Chan) with out := 0x100000 }).chan 5119).phase = .idle ∧
      ((chanOf 5119 { ({} : Chan) with out := 0x100000 }).chan 5119).openload = false) ∧
    ((chanOf 5119 { ({} : Chan) with out := 0xFFFFF }).chan 5119).out.toNat < 0x100000 ∧
    ((chanOf 5119 { ({} : Chan) with out := 0x100000, phase := .down }).chan 5119).phase ≠ .idle := by
  decide +kernel

theorem witness_RangeChange :
    (Permitted on .pcie Reg.CNV_RANGE_REQ 1 ∧ fld (5119 : Word) 12 0 < 5120 ∧ on.drv.rangeReq = none) ∧
    5120 ≤ fld (5120 : Word) 12 0 ∧ { on with drv := { on.drv with rangeReq := some (0, true) } }.drv.rangeReq ≠ none ∧
    (((chanOf 5119 { ({} : Chan) with phase := .down }).chan 5119).phase = .down ∧
      ((chanOf 5119 { ({} : Chan) with phase := .down }).chan 5119).out = 0) ∧
    ((chanOf 0 { ({} : Chan) with phase := .hold }).chan 0).phase = .hold ∧
    (((chanOf 0 { ({} : Chan) with phase := .up, out := 3, latest := 3 }).chan 0).phase = .up ∧
      ((chanOf 0 { ({} : Chan) with phase := .up, out := 3, latest := 3 }).chan 0).out =
        ((chanOf 0 { ({} : Chan) with phase := .up, out := 3, latest := 3 }).chan 0).latest) := by
  unfold Permitted; decide +kernel

/-- The device ON with an ADC unit. -/
def auOf (u : Nat) (x : AdcUnit) : State := on.setAu u x

/-- An ADC unit in direct mode. -/
def directAu : AdcUnit := { ({} : AdcUnit) with cfg := { ({} : AuCfg) with direct := true } }

theorem witness_DirectResultHeld :
    ((auOf 99 directAu).au 99).cfg.direct = true ∧ ((auOf 99 directAu).au 99).isNew = false ∧
    ((auOf 0 { directAu with isNew := true }).au 0).isNew = true ∧
    Permitted on .smp (0x900C00 + 4 * 99) 0 := by
  unfold Permitted; decide +kernel

theorem witness_AdcUnits :
    (Permitted on .pcie (Reg.CNV_AU_CFG + 4 * 99) 1 ∧ on.auCfgRefused 99 2 = true ∧ on.auCfgRefused 99 4 = true ∧
      (auOf 98 { ({} : AdcUnit) with failed := true }).auCfgRefused 99 1 = true) ∧
    (on.auCfgRefused 99 1 = false ∧ on.converting 99 = false ∧ (capd 5).auCfgRefused 0 1 = false ∧
      Permitted (capd 5) .pcie (Reg.CNV_AU_CFG + 4 * 0) 1 ∧ (capd 5).converting 0 = true) ∧
    (((auOf 3 { directAu with waiting := some {} }).au 3).waiting = some {} ∧
      (auOf 3 { directAu with waiting := some {} }).converting 3 = false) ∧
    (on.sliceDue 99 3 = true ∧ (-256 : Int).natAbs ≤ 256 ∧ (500 : Int).natAbs ≤ 500 ∧ (-20 : Int).natAbs ≤ 20 ∧
      256 < (257 : Int).natAbs ∧ 500 < (-501 : Int).natAbs ∧ 20 < (21 : Int).natAbs) ∧
    (capd 5).sliceDue 0 0 = false ∧
    ((on.au 0).failed = false ∧ on.refOff 0 1 = true ∧ on.refOff 0 0xFFFFFFFF = true ∧ on.refOff 0 0 = false) ∧
    ((auOf 0 { ({} : AdcUnit) with failed := true }).au (partner 1)).failed = true := by
  unfold Permitted; decide +kernel

/-! ### Witnesses: slots -/

/-- Device time at a count of nanoseconds. -/
def clockAt (ns : Nat) : Clock :=
  { sec := BitVec.ofNat 48 (ns / 1000000000), ns := BitVec.ofNat 30 (ns % 1000000000), frac := 0 }

/-- The device at a device time, in a state of GLB_STATE. -/
def at_ (g : GState) (ns : Nat) : State :=
  { on with glb := { on.glb with state := g }, tim := { on.tim with dt := clockAt ns } }

/-- Prism running in a slot with traffic pairs, inside its guard or not. -/
def prism (n : Nat) (ps : List Pair) (g : Bool) : State :=
  { on with slt := { on.slt with start := some 512, running := true, slot := n,
                                 cur := { ({} : FinalSlot) with slot := n, kind := 2, pairs := ps } }
            drv := { on.drv with inGuard := g } }

theorem witness_SlotBoundaryBegins :
    ((prism 1023 [] false).slt.start = some 512 ∧ (prism 1023 [] false).slt.running = true) ∧
    ({ on with slt := { on.slt with start := some 512, slot := 511 } }.slt.running = false ∧ 512 ≤ 511 + 1) ∧
    ({ on with slt := { on.slt with start := some 512, slot := 510 } }.slt.slot + 1 < 512) ∧
    on.slt.start = none := by
  decide +kernel

/-- The device ON with a ready port 3, whose receiver has loaded the VALID entry of source 7. -/
def receiving : State :=
  { on with
    ports := [(3, { ({} : Port) with ready := true })]
    brt := { on.brt with
      rx := [(3, { ({} : Rx) with loaded := some 7, entries := [(7, { ({} : PhaseEntry) with valid := true })] })] } }

/-- The same with no VALID entry. -/
def coldRx : State :=
  { receiving with brt := { on.brt with rx := [(3, { ({} : Rx) with loaded := some 7 })] } }

theorem witness_ReceiversLockInGuards :
    ((prism 600 [(1, 2), (511, 3)] true).drv.inGuard = true ∧
      (prism 600 [(1, 2), (511, 3)] true).slt.cur.pairs.getLast? = some (511, 3)) ∧
    on.drv.inGuard = false ∧
    ((receiving.rx 3).loaded = some 7 ∧ (receiving.rx 3).lock = 0 ∧ receiving.portPowered 3 = true ∧
      ((receiving.rx 3).entry 7).valid = true ∧ receiving.glb.state = .service ∧ (receiving.port 3).ready = true) ∧
    ((coldRx.rx 3).loaded = some 7 ∧ (coldRx.rx 3).lock = 0 ∧ coldRx.portPowered 3 = true ∧
      ((coldRx.rx 3).entry 7).valid = false ∧ coldRx.glb.state = .service ∧ (coldRx.port 3).ready = true) ∧
    Sparse.wf (fun _ => {}) (prism 600 [] true).drv.chans = true := by
  decide +kernel

/-- Work for slot 601, handed over. -/
def work1 : Work := { slot := 601, kind := 2, pairs := [(1, 2)], handed := true }

/-- A routing of its pair. -/
def routed1 : Routed := { pairs := [(1, 2)], completion := [], states := 0, left := [] }

/-- Prism in slot 600 with that work. -/
def working (w : Work) : State := { prism 600 [] false with slt := { (prism 600 [] false).slt with work := [w] } }

theorem witness_PermutationsRouted :
    (work1 ∈ (working work1).slt.work ∧ work1.handed = true ∧ work1.routed = none ∧
      ∀ x ∈ (working work1).slt.work, x ≠ work1 → work1.slot < x.slot) ∧
    (∀ w ∈ (working { work1 with handed := false }).slt.work, w.handed = false ∨ w.routed ≠ none) ∧
    ((working { work1 with routed := some routed1 }).slt.running = true ∧
      (working { work1 with routed := some routed1 }).workFor (600 + 1) = some { work1 with routed := some routed1 } ∧
      (working { work1 with routed := some routed1 }).isHeld (600 + 1) = false ∧
      (working { work1 with routed := some routed1 }).flt.safe = false ∧ work1.delivered = false ∧ work1.kind = 2) ∧
    (on.slt.running = false ∧ on.slt.start = none) ∧ on.mtx.rotationFor ≠ some on.mtx.parked := by
  decide +kernel

/-- A device time of cycle 2 with a valid calendar in area 1: one template of codes 2 and 1 in turn, and
SLT_CHANGE_AT at the start of cycle 3. -/
def calendared : State :=
  put (at_ .service 2621440)
    (((List.range 63).map fun w => (Reg.SLT_TPL + 0x800 + 4 * w, (0x12121212 : Word))) ++
      [(Reg.SLT_TPL + 0x800 + 4 * 63, 0x22121212), (Reg.SLT_CAL_LEN + 4, 1), (Reg.SLT_CHANGE_AT_NS, 3932160)])

theorem witness_CalendarsChange :
    ((at_ .locking 1303040).glb.state = .locking ∧ (at_ .locking 1303040).slt.start = none ∧
      (at_ .locking 1303040).noneAcquiring = true ∧ (at_ .locking 1303040).lockReleased = true ∧
      slotOf (at_ .locking 1303040).nowNs % 512 = 509) ∧
    slotOf (at_ .locking 1303039).nowNs % 512 ≠ 509 ∧
    (Permitted on .pcie (Reg.SLT_TPL + 0x800 * 1 + 0x100 * 7 + 4 * 63) 1 ∧ (1 : Fin 2) ≠ on.slt.activeArea ∧
      on.slt.change = none) ∧
    Permitted on .pcie (Reg.SLT_TPL + 0x800 * 0 + 0x100 * 0 + 4 * 0) 1 ∧
    Permitted on .smp (Reg.SLT_CAL_LEN + 4 * 1) 1 ∧ Permitted on .smp (Reg.SLT_CAL_LEN + 4 * 0) 1 ∧
    (Permitted calendared .pcie Reg.SLT_CHANGE_CTRL 1 ∧ bit (1 : Word) 1 = false ∧ bit (2 : Word) 0 = false) ∧
    (on.atTime Reg.SLT_CHANGE_AT_SEC_LO Reg.SLT_CHANGE_AT_SEC_HI Reg.SLT_CHANGE_AT_NS * 4294967296 <
      on.tim.dt.units + 20480 * 4294967296) := by
  unfold Permitted; decide +kernel

theorem witness_CalendarsChange_accepted :
    calendared.rdFld Reg.SLT_CHANGE_AT_NS 29 0 < 1000000000 ∧
    calendared.atTime Reg.SLT_CHANGE_AT_SEC_LO Reg.SLT_CHANGE_AT_SEC_HI Reg.SLT_CHANGE_AT_NS % 1310720 = 0 ∧
    calendared.slt.change = none ∧
    calendared.tim.dt.units + 20480 * 4294967296 ≤
      calendared.atTime Reg.SLT_CHANGE_AT_SEC_LO Reg.SLT_CHANGE_AT_SEC_HI Reg.SLT_CHANGE_AT_NS * 4294967296 ∧
    calendared.tplFault (1 - calendared.slt.activeArea.val) = none := by
  decide +kernel

/-- The device with a calendar change pending for slot 1536, at a device time. -/
def changing (ns : Nat) : State :=
  { at_ .service ns with slt := { on.slt with change := some 1536 } }

theorem witness_CalendarsChange_pending :
    (changing 3924479).slt.change = some 1536 ∧ Permitted (changing 3924479) .pcie Reg.SLT_CHANGE_CTRL 1 ∧
    (changing 3924479).tim.dt.units < slotUnits (1536 - 3) ∧
    ¬ (changing 3924480).tim.dt.units < slotUnits (1536 - 3) ∧
    ((changing 3932160).slt.running = false ∧ slotUnits 1536 ≤ (changing 3932160).tim.dt.units) ∧
    { prism 1536 [] false with slt := { (prism 1536 [] false).slt with change := some 1536 } }.slt.running = true := by
  unfold Permitted; decide +kernel

/-! ### Witnesses: matrix and laser banks -/

/-- The device ON with a field park recorded, to act from a slot. -/
def parkPending (e n : Nat) : State := { on with mtx := { on.mtx with pending := [(e, n)] } }

theorem witness_FieldParks :
    (Permitted on .pcie Reg.MTX_PARK_REQ 4 ∧ fld (4607 : Word) 12 0 < 4608 ∧
    on.isParked (fld (4607 : Word) 12 0) = false ∧
      ∀ q ∈ on.mtx.pending, q.1 ≠ fld (4607 : Word) 12 0) ∧
    4608 ≤ fld (4608 : Word) 12 0 ∧
    { on with mtx := { on.mtx with parked := 1 } }.isParked (fld (0 : Word) 12 0) = true ∧
    (∃ q ∈ (parkPending 9 603).mtx.pending, q.1 = fld (9 : Word) 12 0) ∧
    ((4607, 0) ∈ (parkPending 4607 0).mtx.pending ∧ (parkPending 4607 0).slt.running = false) ∧
    ((4607, 600) ∈ { prism 600 [] false with mtx := { on.mtx with pending := [(4607, 600)] } }.mtx.pending ∧
      600 ≤ (prism 600 [] false).slt.slot) ∧
    (Permitted (prism 600 [(511, 3)] false) .smp Reg.MTX_PERM_READ 1 ∧
      (prism 600 [(511, 3)] false).slt.cur.pairs.find? (fun x => decide (x.1 = fld (511 : Word) 8 0)) = some (511,
      3)) := by
  unfold Permitted; decide +kernel

/-- The device ON with a spare and an emitter of bank 31 that have come up. -/
def lit : State :=
  (on.setEmitter 31 16 { ({} : Emitter) with up := true }).setEmitter 31 5 { ({} : Emitter) with up := true, on := true }

/-- The same with a takeover of position 15 that waits. -/
def owed : State := lit.setBank 31 { (lit.bank 31) with takeover := some 15, unlit := false }

/-- The device ON with a laser bank. -/
def bankOf (n : Nat) (b : Bank) : State := { on with mtx := { on.mtx with banks := [(n, b)] } }

theorem witness_LaserBanks :
    ((lit.emitter 31 5).up = true ∧ (lit.emitter 31 5).failed = false ∧ lit.spareMode 31 = 0 ∧
      lit.spareFree 31 = true ∧ (lit.emitter 31 16).up = true ∧
      3 ≤ Sparse.get (fun _ => 0) { lit with mtx := { lit.mtx with low := [(emitterIdx 31 5, 3)] } }.mtx.low (emitterIdx 31 5)) ∧
    ((on.emitter 0 0).up = false ∧ Sparse.get (fun _ => 0) on.mtx.low (emitterIdx 0 0) < 3) ∧
    (owed.slt.running = false ∧ (owed.bank 31).takeover = some 15 ∧ (owed.bank 31).unlit = false ∧
      (owed.emitter 31 16).up = true ∧ (owed.emitter 31 16).failed = false ∧ owed.drv.picOff = false ∧
      owed.domOn (50 + quadrantOf (4608 + 16 * 31 + 15)) = true) ∧
    (((bankOf 0 { ({} : Bank) with release := true }).bank 0).release = true ∧
      (bankOf 0 { ({} : Bank) with release := true }).slt.running = false) ∧ (prism 600 [] false).slt.running = true ∧
    (put on [(Reg.MTX_LB_CFG + 4 * 3, 0x10)]).rdBit (Reg.MTX_LB_CFG + 4 * 3) 4 = true ∧
    (Permitted lit .pcie (Reg.MTX_LB_CFG + 4 * 31) 4 ∧ lit.rdBit (Reg.MTX_LB_CFG + 4 * 31) 4 = false ∧
      lit.spareFree 31 = true ∧ lit.img.locked = false ∧ fld (0x101 : Word) 1 0 < 2 ∧ ¬ fld (0x102 : Word) 1 0 < 2) ∧
    (Permitted (bankOf 0 { ({} : Bank) with spareUsed := true }) .pcie (Reg.MTX_LB_CFG + 4 * 0) 4 ∧
      (bankOf 0 { ({} : Bank) with spareUsed := true }).rdBit (Reg.MTX_LB_CFG + 4 * 0) 4 = false ∧
      (bankOf 0 { ({} : Bank) with spareUsed := true }).spareFree 0 = false) ∧
    ((511, 1024) ∈ { on with mtx := { on.mtx with isolated := [511], rejoin := [(511, 1024)] } }.mtx.rejoin ∧
      on.slt.running = false ∧ 1024 ≤ (prism 1024 [] false).slt.slot) := by
  unfold Permitted; decide +kernel

/-! ### Witnesses: Diopter -/

/-- The device ON with calibration state. -/
def caled (c : CalSt) : State := { on with cal := c }

/-- A valid field set of a tag. -/
def fieldSet (tag : Int) : CalSet := { ({} : CalSet) with valid := true, tag := tag }

/-- Sets of 40 and 48 degrees in areas 1 and 2, at 43 degrees, and CAL_TEMP has changed. -/
def twoSets : State :=
  caled { ({} : CalSt) with sets := ((Vector.replicate 9 {}).set 1 (fieldSet 640)).set 2 (fieldSet 768), temp := 688,
                            dirty := true }

theorem witness_CalibrationTakenIntoUse :
    (twoSets.cal.dirty = true ∧ (twoSets.interp twoSets.cal.temp).isSome = true) ∧
    ((caled { ({} : CalSt) with dirty := true }).cal.dirty = true ∧
      (caled { ({} : CalSt) with dirty := true }).interp 0 = none) ∧
    on.cal.dirty = false ∧
    (Permitted (at_ .quiesced 0) .pcie Reg.CAL_CMD 1 ∧ bit (1 : Word) 1 = false ∧ bit (1 : Word) 2 = false ∧
      (at_ .quiesced 0).glb.state = .quiesced ∧ (at_ .quiesced 0).photonicThrottle = false) ∧
    (Permitted on .pcie Reg.CAL_CMD 1 ∧ on.glb.state ≠ .quiesced) ∧
    (caled { ({} : CalSt) with dirty := true, fullBusy := true }).cal.fullBusy = true ∧ twoSets.cal.fullBusy = false ∧
    (caled {}).cal.fullBusy = false := by
  unfold Permitted; decide +kernel

/-- Full calibration in a step, whose points are all measured or not. -/
def fullStep (n : Fin 8) (d : Bool) : State := caled { ({} : CalSt) with fullBusy := true, step := n, stepDone := d }

/-- A trial slot of stage 0 with one element under trial. -/
def trial (reps : Nat) : State :=
  { prism 700 [] false with
    slt := { (prism 700 [] false).slt with claims := [700], cur := { ({} : FinalSlot) with slot := 700, kind := 3 } }
    loopS := { on.loopS with calStale := [(5, 1000)] }
    cal := { ({} : CalSt) with named := true, reps := reps } }

/-- The same in the safe state. -/
def trialSafe : State := { trial 3 with flt := { on.flt with safe := true } }

/-- The same with no element under trial. -/
def trialNone : State := { trial 0 with loopS := on.loopS }

theorem witness_CalibrationProceeds :
    ((fullStep 1 false).cal.fullBusy = true ∧ (fullStep 1 false).cal.step = 1) ∧
    ((fullStep 2 true).cal.stepDone = true ∧ 2 ≤ (fullStep 2 true).cal.step.val ∧ (fullStep 5 true).cal.step.val ≤ 5) ∧
    ((fullStep 6 true).cal.stepDone = true ∧ (fullStep 6 true).cal.step = 6) ∧
    ((fullStep 4 false).cal.step ≠ 1 ∧ (fullStep 4 false).cal.stepDone = false ∧ on.cal.fullBusy = false) ∧
    ((fullStep 7 true).cal.fullBusy = true ∧ (fullStep 7 true).cal.step = 7 ∧ (fullStep 7 true).cal.stepDone = true) ∧
    (trialSafe.inTrial = true ∧ trialSafe.flt.safe = true ∧ 5 ∈ trialSafe.trialElems ∧ trialSafe.takesPart 5 = true ∧
      5 ∉ trialSafe.cal.skip ∧ trialSafe.cal.reps < 4) ∧
    (trialNone.inTrial = true ∧ trialNone.trialElems = []) ∧ on.inTrial = false ∧
    ({ prism 700 [] true with cal := { ({} : CalSt) with applyAt := some 0, stage := 18 } }.cal.applyAt = some 0 ∧
      0 ≤ on.loopS.sample ∧ (prism 700 [] true).drv.inGuard = true) := by
  decide +kernel

theorem witness_CalibrationProceeds_measured :
    (trial 3).inTrial = true ∧ (trial 3).trialVoid = false ∧ 5 ∈ (trial 3).trialElems ∧ (trial 3).takesPart 5 = true ∧
    ((trial 3).readingOf ((trial 3).convertAll [] (cap0 5)).1 5).valid = false ∧ (trial 3).cal.reps < 4 := by
  decide +kernel

/-- The device with a store in progress into area 8. -/
def storing : State := caled { ({} : CalSt) with storing := some (8, fieldSet 640), storeOld := some 0, storeService := true }

/-- The device with a valid field set in area 3. -/
def oneSet : State := caled { ({} : CalSt) with sets := (Vector.replicate 9 {}).set 3 (fieldSet 640) }

theorem witness_CalibrationSetsStored :
    (Permitted on .smp Reg.CAL_CMD 1 ∧ bit (2 : Word) 0 = false ∧ bit (2 : Word) 2 = false ∧ on.glb.state = .service ∧
      on.cal.storing = none ∧ on.validAreas.length < 8 ∧
      ((List.range 9).find? fun i => !(on.calSet i).valid) = some 0) ∧
    (Permitted storing .smp Reg.CAL_CMD 1 ∧ storing.cal.storing ≠ none) ∧ 9 ≤ fld (BitVec.ofNat 32 (9 * 8192)) 16 13 ∧
    (at_ .locking 0).glb.state ≠ .service ∧
    (storing.cal.storing = some (8, fieldSet 640) ∧ storing.cal.storeWait = false ∧ storing.cal.storeNext = none ∧
      storing.glb.restart = .none ∧ Sparse.wf (fun _ => {}) storing.cal.elems = true) ∧
    (Permitted oneSet .pcie Reg.CAL_CMD 1 ∧ bit (0x1C : Word) 0 = false ∧ bit (0x1C : Word) 1 = false ∧
      oneSet.cal.storing = none ∧ (oneSet.plainWrite .pcie Reg.CAL_CMD (withBit 0x1C 2)).namedSet = some 3) ∧
    (Permitted on .pcie Reg.CAL_CMD 1 ∧ (on.plainWrite .pcie Reg.CAL_CMD (withBit 0x1C 2)).namedSet = none) ∧
    (Permitted on .pcie Reg.CAL_SET_READ 1 ∧ (fld (BitVec.ofNat 32 (5119 + 8 * 8192)) 12 0 < 5120 ∧
      fld (BitVec.ofNat 32 (5119 + 8 * 8192)) 16 13 < 9)) := by
  unfold Permitted; decide +kernel

/-! ### Witnesses: burst transport -/

/-- The oldest message of the mesh is the oldest one that a test accepts, where it accepts it. -/
theorem oldest_head {ok : Msg → Prop} {m : Msg} (rest : List Msg) (h : ok m) : Oldest ok (m :: rest) m rest :=
  ⟨h, [], rest, rfl, rfl, by simp⟩

/-- It need not be the first: a message that another pair of chiplets exchanges may stand before it. -/
theorem witness_oldest_behind : Oldest (fun x => ∃ a, x = .ack (3 : Fin 512) (4 : Fin 512) a)
    [.ack 40 4 1, .ack 3 4 5] (.ack (3 : Fin 512) (4 : Fin 512) 5) [.ack 40 4 1] :=
  ⟨⟨5, rfl⟩, [.ack 40 4 1], [], rfl, rfl, by simp [Msg.route, chipOf]⟩

/-- The device ON with messages in the mesh. -/
def meshed (l : List Msg) : State := { on with brt := { on.brt with mesh := l } }

/-- A burst from port 3 to port 4 in its window, with its NOTICE. -/
def flying (f : Flight) : State :=
  { on with brt := { on.brt with flights := [f], egr := [(512 * 3 + 4, { ({} : EgrPair) with notices := [(f.seq, f.epoch, 0)] })] } }

/-- That burst. -/
def flight0 : Flight := { i := 3, j := 4, slot := 600, epoch := 0, seq := 0, segs := [], retx := false }

/-- That burst with its content, at a receiver with a VALID entry of its source. -/
def litUp (f : Flight) : State :=
  let s := flying { f with words := on.burstContent f }
  { s with brt := { s.brt with rx := [(4, { ({} : Rx) with entries := [(3, { ({} : PhaseEntry) with valid := true })] })] } }

/-- Light from port 3, without an error. -/
def clear3 : RxObs := { light := some 3, errs := [], flips := [] }

theorem witness_NoticesAndVerdicts :
    Oldest (fun x => ∃ a b c, x = .notice (3 : Fin 512) (4 : Fin 512) a b c)
      (meshed [.notice 3 4 0 65535 7]).brt.mesh (.notice (3 : Fin 512) (4 : Fin 512) 0 65535 7) [] ∧
    (∀ m ∈ (meshed []).brt.mesh, ∀ a b c, m ≠ .notice (3 : Fin 512) (4 : Fin 512) a b c) ∧
    ((flying flight0).brt.flights.find? (fun g => decide (g.j = 4) && !g.judged) = some flight0 ∧
      (flight0.seq, flight0.epoch, 0) ∈ ((flying flight0).egrPair 3 4).notices ∧
      (flying flight0).chipAlive (chipOf 4) = true ∧ (flying flight0).portPowered 4 = true) ∧
    (∀ f ∈ (meshed []).brt.flights, f.j = 4 → f.judged = false →
      ∀ q ∈ ((meshed []).egrPair f.i 4).notices, (q.1, q.2.1) ≠ (f.seq, f.epoch)) :=
  ⟨oldest_head [] ⟨0, 65535, 7, rfl⟩, by simp [meshed, on], by decide +kernel, by simp [meshed, on, State.reset]⟩

/-- The burst that is next, received as it was sent. -/
theorem witness_NoticesAndVerdicts_accepts :
    (litUp flight0).brt.flights.find? (fun g => decide (g.j = 4) && !g.judged) =
      some { flight0 with words := on.burstContent flight0 } ∧
    (0, 0, 0) ∈ ((litUp flight0).egrPair 3 4).notices ∧ (litUp flight0).chipAlive (chipOf 4) = true ∧
    (litUp flight0).portPowered 4 = true ∧
    (litUp flight0).received { flight0 with words := on.burstContent flight0 } clear3 = some (on.burstContent flight0) ∧
    ((litUp flight0).rx 4).lockFor 3 600 = 1 ∧ (∀ k ∈ clear3.errs, k ≤ 15) ∧
    headerGood (on.burstContent flight0) = true ∧ (litUp flight0).routedRight (on.burstContent flight0) 3 4 = true ∧
    (litUp flight0).epochOf 3 4 = 0 ∧ ((litUp flight0).egrPair 3 4).dist 0 = 0 ∧ ((litUp flight0).egrPair 3 4).holds 0 = false ∧
    0 ≤ ((litUp flight0).chip (chipOf 4)).free true ∧ on.tenant 3 = on.tenant 4 := by
  decide +kernel

/-- No light, light of a port that sends nothing, a codeword with 16 symbol errors, a flipped bit of the CRC, another
    pair's header, a detector without power. -/
theorem witness_NoticesAndVerdicts_wire :
    (litUp flight0).received flight0 { clear3 with light := none } = none ∧
    (litUp flight0).received flight0 { clear3 with light := some 7 } = none ∧
    (∃ k ∈ ({ clear3 with errs := [15, 16] } : RxObs).errs, 15 < k) ∧
    ((litUp flight0).received flight0 { clear3 with flips := [96] }).map headerGood = some false ∧
    (litUp flight0).routedRight (on.burstContent { flight0 with j := 5 }) 3 4 = false ∧
    { flying flight0 with glb := { on.glb with pg := 0 } }.portPowered 4 = false := by
  decide +kernel

/-- The branches of the verdict: no entry (lock 3), lock out of tolerance, another epoch, a SEQ 8,192 ahead,
    the next. -/
theorem witness_NoticesAndVerdicts_branches :
    ((flying flight0).rx 4).lockFor 3 600 = 3 ∧
    ({ ({} : Rx) with lock := 2, slot := 600 } : Rx).lockFor 3 600 = 2 ∧
    ({ ({} : Rx) with lock := 1, slot := 601, was := 2, wasSlot := 600 } : Rx).lockFor 3 600 = 2 ∧
    ({ ({} : Rx) with lock := 1, slot := 600 } : Rx).lockFor 3 600 = 1 ∧
    (flying { flight0 with epoch := 3 }).epochOf 3 4 ≠ 3 ∧
    8192 ≤ ((flying { flight0 with seq := 8192 }).egrPair 3 4).dist 8192 ∧
    (((flying flight0).egrPair 3 4).dist 0 = 0 ∧ flight0.segs.length ≤ ((flying flight0).chip (chipOf 4)).free true) ∧
    ((flying flight0).chip (chipOf 4)).free true < [({ pkt := 0, idx := 0, sop := true, eop := true, cls := 0, seg := 0 } : SegRef)].length := by
  decide +kernel

/-- A burst of port 3 to port 4 held at its ingress. -/
def held0 (x : BurstSt) : IBurst :=
  { seq := 5, epoch := 0, slot := 600, segs := [{ pkt := 1, idx := 0, sop := true, eop := true, cls := 0, seg := 32 }], st := x }

/-- The device in slot 603 with that burst, messages in the mesh, and work for slot 604 with its repair. -/
def ingHolds (x : BurstSt) (l : List Msg) : State :=
  { on with
    brt := { on.brt with mesh := l, ing := [(512 * 3 + 4, { ({} : IngPair) with bursts := [held0 x] })] }
    slt := { on.slt with slot := 603,
                         work := [{ slot := 604, kind := 2, handed := true,
                                    reps := [{ i := 3, j := 4, seq := 5, raised := 601, bound := 700 }] }] }
    chips := on.chips.set 0 { ({} : Chip) with packet := { ({} : Region) with used := [32] } } }

theorem witness_AnswersAndRepairs :
    Oldest (fun x => ∃ a, x = .ack (3 : Fin 512) (4 : Fin 512) a) (ingHolds .sent [.ack 3 4 5]).brt.mesh
      (.ack (3 : Fin 512) (4 : Fin 512) 5) [] ∧
    Oldest (fun x => ∃ a c, x = .nack (3 : Fin 512) (4 : Fin 512) a c) (ingHolds .sent [.nack 3 4 5 7]).brt.mesh
      (.nack (3 : Fin 512) (4 : Fin 512) 5 7) [] ∧
    (ingHolds .sent [.nack 3 4 5 7]).awaiting 3 4 5 = some (held0 .sent) ∧
    (ingHolds .acked [.nack 3 4 5 7]).awaiting 3 4 5 = none ∧
    ((ingHolds .sent []).ingPair 3 4).bursts.find? (fun b => decide (b.st = .sent ∧ b.slot + 3 ≤ 603)) =
      some (held0 .sent) ∧
    (∀ b ∈ ((ingHolds .failed []).ingPair 3 4).bursts, b.st = .sent → 603 < b.slot + 3) ∧
    ((ingHolds .failed []).slt.work =
        [{ slot := 604, kind := 2, handed := true, reps := [{ i := 3, j := 4, seq := 5, raised := 601, bound := 700 }] }] ∧
      ((ingHolds .failed []).ingPair 3 4).bursts.find? (fun b => decide (b.seq = 5 ∧ b.st = .failed)) =
        some (held0 .failed) ∧
      (∃ g ∈ (held0 .failed).segs, segHold g.seg = false ∧
      g.seg ∈ ((ingHolds .failed []).chip (chipOf 3)).packet.used)) :=
  ⟨oldest_head [] ⟨5, rfl⟩, oldest_head [] ⟨5, 7, rfl⟩, by decide +kernel, by decide +kernel, by decide +kernel,
    by decide +kernel, by decide +kernel⟩

/-- The egress of the pair from port 3 to port 4. -/
def egrHas (x : EgrPair) (l : List Msg) (ticks : Nat) : State :=
  { on with brt := { on.brt with mesh := l, egr := [(512 * 3 + 4, x)] }, tim := { on.tim with ticks := ticks } }

theorem witness_GapsAndLoss :
    Oldest (fun x => ∃ a b, x = .gapReq (3 : Fin 512) (4 : Fin 512) a b) (egrHas {} [.gapReq 3 4 2 .retx] 0).brt.mesh
      (.gapReq (3 : Fin 512) (4 : Fin 512) 2 .retx) [] ∧
    (({} : EgrPair).missing 2 = true ∧ ({} : EgrPair).holds 0 = false) ∧
    ({ ({} : EgrPair) with held := [{ seq := 0, slot := 600, segs := [] }] }.missing 2 = true ∧
      { ({} : EgrPair) with held := [{ seq := 0, slot := 600, segs := [] }] }.holds 0 = true) ∧
    ({ ({} : EgrPair) with e := 3, gapped := [2] }.missing 2 = false ∧
      2 ∈ { ({} : EgrPair) with e := 3, gapped := [2] }.gapped) ∧
    ({ ({} : EgrPair) with e := 3 }.missing 2 = false ∧ 2 ∉ { ({} : EgrPair) with e := 3 }.gapped) ∧
    (∀ b ∈ { ({} : EgrPair) with held := [{ seq := 0, slot := 600, segs := [] }] }.held, b.seq = 0 → b.passed = false) ∧
    ((egrHas { ({} : EgrPair) with learned := [(2, 0)] } [] 16000000).egrPair 3 4).learned.find? (fun p =>
      ((egrHas { ({} : EgrPair) with learned := [(2, 0)] } [] 16000000).egrPair 3 4).missing p.1 &&
      decide (p.2 + gapLimit ≤ (egrHas { ({} : EgrPair) with learned := [(2, 0)] } [] 16000000).gapNow)) = some (2, 0) ∧
    (∀ p ∈ ((egrHas { ({} : EgrPair) with learned := [(2, 0)] } [] 15999999).egrPair 3 4).learned,
      (egrHas { ({} : EgrPair) with learned := [(2, 0)] } [] 15999999).gapNow < p.2 + 16000000) ∧
    Oldest (fun x => ∃ a, x = .gap (3 : Fin 512) (4 : Fin 512) a) (meshed [.gap 3 4 [(0, .retx)]]).brt.mesh
      (.gap (3 : Fin 512) (4 : Fin 512) [(0, .retx)]) [] ∧
    (State.reset.chipOn 15 = false ∧ (State.reset.chip 15).lost = false) ∧ on.chipOn 15 = true :=
  ⟨oldest_head [] ⟨2, .retx, rfl⟩, by decide +kernel, by decide +kernel, by decide +kernel, by decide +kernel,
    by decide +kernel, by decide +kernel, by decide +kernel, oldest_head [] ⟨_, rfl⟩, by decide +kernel, by decide +kernel⟩

/-- A snapshot requested at 1,000 ns, with Prism in a slot. -/
def snapAsked (n : Nat) : State := { prism n [] false with brt := { on.brt with snapReq := some (1000 * 2 ^ 32) } }

theorem witness_SnapshotsLatch :
    Permitted on .pcie Reg.BRT_SNAP_CTRL 1 ∧ on.brt.snapReq = none ∧ (snapAsked 3).brt.snapReq ≠ none ∧
    ((snapAsked 3).brt.snapReq = some (1000 * 2 ^ 32) ∧ (snapAsked 3).slt.running = true ∧
      1000 * 2 ^ 32 + 5120 * 2 ^ 32 ≤ slotUnits (snapAsked 3).slt.slot) ∧
    slotUnits (snapAsked 2).slt.slot < 1000 * 2 ^ 32 + 5120 * 2 ^ 32 ∧ Permitted on .smp Reg.BRT_PHASE_SEL 1 := by
  unfold Permitted; decide +kernel

/-! ### Witnesses: ports -/

/-- LAN_PORT_CTRL of port 3. -/
abbrev ctrl3 : Nat := lanReg 3 Reg.LAN_PORT_CTRL

/-- The device ON with port 3 enabled by the image, its LAN_PORT_CTRL, and its state. -/
def ported (v : Word) (x : Port) : State :=
  put { on with img := { on.img with ports := List.replicate 512 { ({} : PortEntry) with enable := true } }
                ports := [(3, { x with ready := true })] } [(ctrl3, v)]

/-- Port 3 up. -/
def up3 : State := ported 1 { ({} : Port) with linkUp := true, train := 3 }

/-- A good frame of 64 bytes with a byte pair at offset 12. -/
def frame64 (a b : Byte) : RxFrame :=
  { bytes := List.replicate 12 0 ++ [a, b] ++ List.replicate 50 0, fcsGood := true, aborted := false, age := 0, sub := 0,
    member := 0, corrected := 0, uncorrected := 0 }

/-- A PFC frame. -/
def pfcFrame : RxFrame :=
  { frame64 0 0 with bytes := [1, 0x80, 0xC2, 0, 0, 1, 0, 0, 0, 0, 0, 0, 0x88, 0x08, 1, 1, 0, 1, 0xFF, 0xFF] ++
                              List.replicate 44 0 }

theorem witness_FramesReceived :
    on.macUp 511 = false ∧ up3.macUp 3 = true ∧
    ((frame64 8 0).aborted = false ∧ (frame64 8 0).fcsGood = true ∧ (frame64 8 0).uncorrected = 0 ∧
      64 ≤ (frame64 8 0).bytes.length ∧ (frame64 8 0).bytes.length ≤ up3.maxFrame 3 ∧ up3.cfhMode 3 = 0 ∧
      beAt (frame64 8 0).bytes 12 2 ≠ 0x8808 ∧ (ptpEvent (frame64 8 0).bytes).isNone = true ∧
      up3.inbufBytes 3 + (frame64 8 0).bytes.length ≤ 32768) ∧
    (64 ≤ pfcFrame.bytes.length ∧ beAt pfcFrame.bytes 12 2 = 0x8808 ∧ beAt pfcFrame.bytes 14 2 = 0x0101 ∧
      beAt pfcFrame.bytes 0 6 = 0x0180C2000001) ∧
    ((ported 0x41 { ({} : Port) with linkUp := true, train := 3 }).macUp 3 = true ∧
      (ported 0x41 { ({} : Port) with linkUp := true, train := 3 }).cfhMode 3 ≠ 0 ∧
      (cfhOf (0x14 :: List.replicate 63 0)).ver = 1 ∧
      (cfhOf (0x14 :: List.replicate 63 0)).tenant = (up3.tenant 3).val ∧
      (cfhOf (0x14 :: List.replicate 63 0)).type = 1 ∧
      bit ((ported 0x41 { ({} : Port) with linkUp := true, train := 3 }).portCtrl 3) 10 = false) := by
  decide +kernel

/-- The bounds that select the counter of a bad frame: 63 bytes, and one byte above the largest frame. -/
theorem witness_FramesReceived_bounds :
    (List.replicate 63 (0 : Byte)).length < 64 ∧
    up3.maxFrame 3 < (List.replicate (up3.maxFrame 3 + 1) (0 : Byte)).length := by
  rw [List.length_replicate, List.length_replicate]; exact ⟨by decide, Nat.lt_succ_self _⟩

/-- A full parse input buffer; a frame cut short, one with a bad FCS, one with an uncorrectable codeword. -/
theorem witness_FramesReceived_full :
    32768 < (ported 1 { ({} : Port) with linkUp := true, train := 3, inbuf := List.replicate 512 9 }
      |>.setPkt 9 { bytes := List.replicate 64 0, rxPort := 3 }).inbufBytes 3 + (frame64 8 0).bytes.length ∧
    { frame64 8 0 with aborted := true }.aborted = true ∧ { frame64 8 0 with fcsGood := false }.fcsGood = false ∧
    0 < { frame64 8 0 with uncorrected := 1 }.uncorrected := by
  decide +kernel

/-- A segment of packet 9. -/
def seg9 : SegRef := { pkt := 9, idx := 0, sop := true, eop := true, cls := 2, seg := 0x80000020 }

/-- Packet 9, queued at port 3 in class 2, and segments of its chiplet that are poisoned. -/
def queued (bad : List (BitVec 32)) : State :=
  { (up3.setPkt 9 { bytes := List.replicate 64 0, rxPort := 5, eg := 3, cls := 2 }) with
    chips := on.chips.set 0 { ({} : Chip) with queues := [(queueKey 3 2 0, [(9, [seg9])])], poisoned := bad } }

theorem witness_FramesSent_start :
    ((queued []).isLead 3 = true ∧ (queued []).mayStart 3 = true ∧ (queued []).pfcOwed 3 = false ∧
      (((queued []).countGateWaits 3).pick 3).map (fun q => (q.head.pkt, q.head.port, q.head.segs)) = some (9, 3,
      [seg9]) ∧
      ((queued []).pkt 9).isSome = true ∧ (3 < 512) ∧ ((queued []).port ((queued []).lead 3)).gates.on = false) ∧
    ((queued [0x80000020]).isPoisoned (chipOf 3) seg9.seg = true ∧
    (queued []).isPoisoned (chipOf 3) seg9.seg = false) := by
  decide +kernel

/-- Port 3 up with PFC_TX_EN set, in the hardware safe state or not, the priorities last sent given. -/
def pfc3 (safe : Bool) (sent : BitVec 8) : State :=
  { ported 5 { ({} : Port) with linkUp := true, train := 3, pfcSent := sent } with flt := { on.flt with safe := safe } }

theorem witness_FramesSent :
    on.mayStart 0 = false ∧
    ({ up3 with ports := [(3, { ({} : Port) with tx := some { pkt := 9, segs := [], queue := 3 } })] }.port 3).tx =
      some { pkt := 9, segs := [], queue := 3 } ∧
    ((pfc3 true 0).flt.safe = true ∧ (pfc3 true 0xFF).isLead 3 = true ∧ (pfc3 true 0xFF).portActs 3 = true ∧
      (pfc3 true 0xFF).pfcOwed 3 = false) ∧
    (on.port 0).tx = none ∧
    ((pfc3 true 0).pfcMayStart 3 = true ∧ (pfc3 true 0).pfcOwed 3 = true) ∧
    ((pfc3 true 0xFF).pfcMayStart 3 = true ∧ (pfc3 true 0xFF).pfcTxEn 3 = true ∧
    ((pfc3 true 0xFF).port 3).pfcSent ≠ 0 ∧
      (pfc3 true 0xFF).pfcOwed 3 = false) ∧
    on.pfcOwed 0 = false ∧ (on.port 511).pfcSent = 0 ∧
    (((ported 1 { ({} : Port) with linkUp := true, train := 3, replies := [[1, 2]] }).port 3).replies = [[1, 2]] ∧
      (ported 1 { ({} : Port) with linkUp := true, train := 3, replies := [[1, 2]] }).isLead 3 = true ∧
      (ported 1 { ({} : Port) with linkUp := true, train := 3, replies := [[1, 2]] }).mayStart 3 = true ∧
      (ported 1 { ({} : Port) with linkUp := true, train := 3, replies := [[1, 2]] }).pfcOwed 3 = false ∧
      (ported 1 { ({} : Port) with linkUp := true, train := 3, replies := [[1, 2]] }).replyHeld [1, 2] = false) ∧
    (on.port 0).replies = [] := by
  decide +kernel

/-- Port 3 in training, in the hardware safe state. -/
def train3 : State := { ported 1 { ({} : Port) with train := 2 } with flt := { on.flt with safe := true } }

theorem witness_LinksTrain :
    (train3.isLead 3 = true ∧ train3.portActs 3 = true ∧ (train3.port 3).train = 2 ∧ train3.flt.safe = true ∧
      (train3.port 3).tx = none ∧ train3.pfcOwed 3 = false) ∧
    ((pfc3 true 0).macUp 3 = true ∧ (pfc3 true 0).flt.safe = true ∧ ((pfc3 true 0).port 3).tx = none) ∧
    ((ported 1 { ({} : Port) with train := 2 }).isLead 3 = true ∧
    (ported 1 { ({} : Port) with train := 2 }).portActs 3 = true ∧
      ((ported 1 { ({} : Port) with train := 2 }).port 3).train = 2 ∧
      ((ported 1 { ({} : Port) with train := 2 }).port 3).linkUp = false) ∧
    ((ported 3 { ({} : Port) with train := 1 }).isLead 3 = true ∧
    (ported 3 { ({} : Port) with train := 1 }).portActs 3 = true ∧
      ((ported 3 { ({} : Port) with train := 1 }).port 3).train = 1) ∧
    ((on.port 0).train ≠ 2 ∧ (on.port 511).train ≠ 1) ∧ up3.macUp 3 = true ∧ on.macUp 0 = false ∧
    Permitted up3 .pcie (lanReg 3 Reg.LAN_PORT_CTRL) 1 ∧ up3.isLead 3 = true ∧
    (up3.plainWrite .pcie (lanReg 3 Reg.LAN_PORT_CTRL) (withBit 1 5)).portActs 3 = true ∧
    (up3.remapping 3 = false ∧ (up3.port 3).train ≠ 0 ∧ ((ported 0 {}).port 3).train = 0) ∧
    ({ up3 with chips := on.chips.set 0 { ({} : Chip) with remap := some (3, 30, false) } }.remapping 3 = true) ∧
    (up3.plainWrite .pcie (lanReg 3 Reg.LAN_PORT_CTRL) (withBit 0 5)).portActs 3 = false ∧
    (Permitted (put on [(lanReg 8 Reg.LAN_PORT_CTRL, 0x100)]) .pcie (lanReg 9 Reg.LAN_PORT_CTRL) 1 ∧
      (put on [(lanReg 8 Reg.LAN_PORT_CTRL, 0x100)]).isLead 9 = false) := by
  unfold Permitted; decide +kernel

/-- Chiplet 0 with a remap of port 3 to lane 30. -/
def remapping (v : Word) : State :=
  { ported v {} with chips := on.chips.set 0 { ({} : Chip) with remap := some (3, 30, false) } }

theorem witness_LanesRemapped :
    (Permitted on .pcie (lanChip 15 Reg.LAN_REMAP_REQ) 4 ∧ on.isReserve 15 31 = true ∧
      on.bundleSize (32 * 15 + 31) = 1 ∧ (on.chip 15).remap = none) ∧
    (Permitted (remapping 1) .pcie (lanChip 0 Reg.LAN_REMAP_REQ) 4 ∧ (remapping 1).isReserve 0 4 = false ∧
      ((remapping 1).chip 0).remap ≠ none) ∧
    (put on [(lanReg 8 Reg.LAN_PORT_CTRL, 0x100)]).bundleSize (32 * 0 + 9) ≠ 1 ∧
    ((remapping 1).chip 0).remap = some (3, 30, false) ∧ (remapping 1).portActs (32 * 0 + 3) = true ∧
    (remapping 0).portActs (32 * 0 + 3) = false ∧ (∀ q l : Fin 32, (on.chip 15).remap ≠ some (q, l, false)) := by
  unfold Permitted; decide +kernel

/-! ### Witnesses: classification -/

/-- The device ON with a chiplet 0. -/
def chip0 (x : Chip) : State := { on with chips := on.chips.set 0 x }

/-- The device ON with a chiplet 0 and packet 9. -/
def packet9 (x : Chip) (p : Pkt) : State := (chip0 x).setPkt 9 p

/-- A packet of 64 bytes of port 5. -/
def pkt0 : Pkt := { bytes := List.replicate 64 0, rxPort := 5 }

/-- Packet 9 in a lookup under a bank whose root is a leaf with one rule of an ACTION. -/
def ruled (w14 : Word) : State :=
  ((packet9 { ({} : Chip) with
    lookups := [9], stackUp := true
    hdr0 := { ({} : BankHdr) with valid := true, ruleBase := 1, ruleCount := 1 } } pkt0).tblStore 0 0 0x00010002).tblStore
      0 120 w14

/-- The tree walk of that lookup. -/
def walked (s : State) : Found :=
  let q := (s.setChip 0 { (s.chip 0).dropIdleLines with lookups := [] }).pinBank 0 9 pkt0
  let b := q.2.bank.getD 0
  (Walk.tree 0 b [] ((q.1.chip 0).hdr b) q.2.key 25 ((q.1.chip 0).hdr b).root { s := q.1.bump (prsReg 0 0x810) 1, v := 0 }).1

theorem witness_PacketsClassified :
    ((chip0 { ({} : Chip) with recirc := [9] }).chipOn 0 = true ∧
      ((chip0 { ({} : Chip) with recirc := [9] }).chip 0).engine 255 = none ∧
      ((chip0 { ({} : Chip) with recirc := [9] }).chip 0).recirc = [9]) ∧
    (on.chipOn 0 = true ∧ (on.chip 0).recirc = [] ∧ on.img.phase ≠ .apply ∧ on.img.phase ≠ .switching ∧
      ({ on with ports := [(31, { ({} : Port) with inbuf := [9] })] }.port (32 * 0 + 31)).inbuf = [9] ∧
      ((packet9 {} pkt0).pkt 9).isSome = true) ∧
    (State.reset.chipOn 15 = false ∧
      ((chip0 { ({} : Chip) with engines := [(0, some 9)] }).chip 0).engine 0 ≠ none ∧
      (on.chip 15).recirc = [] ∧ (on.port (32 * 15 + 31)).inbuf = []) ∧
    (((packet9 { ({} : Chip) with engines := [(7, some 9)], uc0 := [.done] } pkt0).chip 0).engine 7 = some 9 ∧
      ((packet9 { ({} : Chip) with engines := [(7, some 9)], uc0 := [.done] } pkt0).pkt 9) = some pkt0 ∧
      (Pass.run [.done] pkt0.frame (pkt0.frame.length - 4) 64 { key := on.withMeta pkt0 (List.replicate 64 0) }).limit = none ∧
      (Pass.run [.done] pkt0.frame (pkt0.frame.length - 4) 64 { key := on.withMeta pkt0 (List.replicate 64 0) }).len = false) ∧
    (pkt0.exc = none ∧ (∀ m ∈ ((packet9 { ({} : Chip) with engines := [(7, some 9)], lookups := [8] } pkt0).chip 0).lookups,
        (packet9 {} pkt0).heldResult m = none) ∧ pkt0.pass = 0 ∧ pkt0.fLen = false) ∧
    ((Pass.run [.branch { fromKey := true, off := 0, width := 8 } 0 0 0 0] pkt0.frame (pkt0.frame.length - 4) 64
        { key := on.withMeta pkt0 (List.replicate 64 0) }).limit ≠ none ∧ on.excAction 0 0 = 0) ∧
    (on.chip 0).engine 0 = none ∧ on.nextLookup 0 = none := by
  decide +kernel

/-- A rule with ACTION discard, one with ACTION recirculate, and a lookup that ends in an exception. -/
theorem witness_PacketsClassified_lookup :
    ((ruled 0x10).nextLookup 0 = some 9 ∧ (ruled 0x10).heldResult 9 = none ∧ (ruled 0x10).pkt 9 = some pkt0 ∧ walked (ruled 0x10) = .rule 0 0 0 0x10 ∧
      fld (0x10 : Word) 5 4 = 1) ∧
    (walked (ruled 0x20) = .rule 0 0 0 0x20 ∧ fld (0x20 : Word) 5 4 = 2 ∧ pkt0.pass = 0) ∧
    (walked ((packet9 { ({} : Chip) with lookups := [9] } pkt0).tblStore 0 0 3) = .exc 2 ∧ on.excAction 0 2 = 0) := by
  decide +kernel

/-- A packet is not looked up before an older one of its port; it waits for no packet of another port. -/
theorem test_lookup_order :
    ((packet9 { ({} : Chip) with lookups := [9, 8] } pkt0).setPkt 8 { pkt0 with rx := -1 }).nextLookup 0 = some 8 ∧
    ((packet9 { ({} : Chip) with lookups := [9, 8] } pkt0).setPkt 8 { pkt0 with rxPort := 6 }).nextLookup 0 = some 9 := by
  decide +kernel

/-- Chiplet 15 with a valid header of the idle bank in unit 5 of its table region. -/
def banked (x : Chip) : State :=
  ({ put on [(prsReg 15 (Reg.PRS_BANK_HDR + 4), 5), (prsReg 15 Reg.PRS_SWAP_AT, 20)] with
      chips := on.chips.set 15 x
      slt := { on.slt with start := some 0, slot := 17 } }).tblStore 15 320 1

/-- Chiplet 15 with a header that reads uncorrectable. -/
def badHdr : State :=
  put { on with chips := on.chips.set 15 { ({} : Chip) with tblPoisoned := [5] } } [(prsReg 15 (Reg.PRS_BANK_HDR + 4), 5)]

theorem witness_BanksSwap :
    (Permitted (banked {}) .pcie (prsReg 15 Reg.PRS_BANK_CTRL) 1 ∧ ((banked {}).headerAt 15 1).valid = true ∧
      ((banked {}).chip 15).swap = none ∧ ((banked {}).chip 15).pins 1 = 0 ∧
      ¬ (banked {}).prsSwapAt 15 ≤ (banked {}).slotNow + 2 ∧
      ((banked {}).chip 15).tblPoisoned.contains ((banked {}).hdrUnit 15 1) = false) ∧
    (badHdr.chip 15).tblPoisoned.contains (badHdr.hdrUnit 15 1) = true ∧
    ((on.headerAt 15 1).valid = false ∧ ((banked { ({} : Chip) with swap := some (some 3) }).chip 15).swap ≠ none ∧
      0 < ((banked { ({} : Chip) with pinned := #v[0, 1] }).chip 15).pins 1 ∧
      (put (banked {}) [(prsReg 15 Reg.PRS_SWAP_AT, 19)]).prsSwapAt 15 ≤ (banked {}).slotNow + 2) ∧
    (((banked { ({} : Chip) with swap := some (some 17) }).chip 15).swap = some (some 17) ∧
      17 ≤ (banked { ({} : Chip) with swap := some (some 17) }).slotNow ∧
      (banked { ({} : Chip) with swap := some (some 17) }).chipOn 15 = true) ∧
    (((banked { ({} : Chip) with swap := some (some 18) }).chip 15).swap = some (some 18) ∧
    (banked {}).slotNow < 18) ∧
    (((banked { ({} : Chip) with ucSwap := some 17 }).chip 15).ucSwap = some 17 ∧
      17 ≤ (banked { ({} : Chip) with ucSwap := some 17 }).slotNow ∧ (banked {}).chipOn 15 = true) ∧
    (((banked { ({} : Chip) with ucSwap := some 18 }).chip 15).ucSwap = some 18 ∧ (on.chip 0).ucSwap = none) := by
  unfold Permitted; decide +kernel

/-- Chiplet 0 whose active bank has its header in unit 90 and its nodes from unit 100. -/
def tabled : State :=
  put (chip0 { ({} : Chip) with hdr0 := { ({} : BankHdr) with valid := true, nodeBase := 100, ruleBase := 90 } })
    [(prsReg 0 Reg.PRS_BANK_HDR, 90)]

theorem witness_TablesWritten :
    (tabled.allowed .pcie 1 = true ∧ tabled.chipOn 0 = true ∧ tabled.tblAddr 0 0 < 4294967296 ∧
      tabled.tblOpen 0 (tabled.tblAddr 0 0 / 64) = true ∧ tabled.tblOpen 0 (tabled.tblAddr 0 5760 / 64) = false) ∧
    4294967296 ≤ (put tabled [(tbwReg 0, 0x3FFFFFF)]).tblAddr 0 64 ∧
    State.reset.allowed .inband 1 = false ∧
    ({ State.reset with cmd := on.cmd }.allowed .pcie 1 = true ∧ State.reset.chipOn 15 = false) ∧
    Permitted on .smp (prsReg 15 Reg.PRS_TRACE_SEL) 1 := by
  unfold Permitted; decide +kernel

/-! ### Witnesses: meters and the stack -/

/-- A meter that uses a profile, in chiplet 15, with words 1 to 4 of the profile held. -/
def metered : State :=
  put { on with chips := on.chips.set 15 { ({} : Chip) with
      profs := [(1023, { ({} : MeterProf) with cbs := 9, ebs := 9 })]
      meters := [(7, some { ({} : Meter) with prof := 1023, tok1 := 9 * 256, tok2 := 9 * 256 })] } }
    [(mtrReg 15 (Reg.MTR_PROFILE0 + 0x20 * 1023) + 12, 4)]

theorem witness_MetersManaged :
    Permitted metered .pcie (mtrReg 15 Reg.MTR_METER_SEL) 1 ∧
    (Permitted metered .pcie (mtrReg 15 (Reg.MTR_PROFILE0 + 0x20 * 1023)) 1 ∧
    ((metered.chip 15).meter 7).prof = 1023 ∧
      ((metered.chip 15).prof 1023).reshapes { ({} : MeterProf) with cbs := 4, ebs := 9 } = true ∧
      ((metered.chip 15).prof 1023).reshapes { (metered.chip 15).prof 1023 with w0 := 0x80000000 } = false) ∧
    Permitted metered .smp (mtrReg 15 (Reg.MTR_PROFILE1 + 0x20 * 1023 + 4 * 3)) 1 := by
  unfold Permitted; decide +kernel

/-- Chiplet 15 with its stack up and a segment in use. -/
def stacked (m : Option PchMove) (sp : List Nat) : State :=
  { on with chips := on.chips.set 15 { ({} : Chip) with
      stackUp := true, packet := { ({} : Region) with used := [0x20] }, move := m, spares := sp } }

/-- A channel that is copied by itself begins only when the channel before it has its copy (R334, R335). -/
theorem test_waiting_channel :
    ((({ (stacked (some { channel := 31, spare := 32 }) [32, 33]) with
        chips := on.chips.set 15 { ({} : Chip) with
          stackUp := true, move := some { channel := 31, spare := 32 }, spares := [32, 33], waitPch := [5] } }
      : State).pchCopyDone 15 []).chip 15).move = some { channel := 5, spare := 33 } := by
  decide +kernel

theorem witness_StackMaintained :
    ((stacked none []).chipOn 15 = true ∧ ((stacked none []).chip 15).stackUp = true ∧
      (put (stacked none []) [(bufReg 15 Reg.BUF_CTRL, 1)]).rdBit (bufReg 15 Reg.BUF_CTRL) 0 = true ∧
      (0x20 : BitVec 32) ∈ (((stacked none []).chip 15).region (segHold 0x20)).used ∧
      (67108863 : BitVec 26).toNat = 67108863) ∧
    ((7 : BitVec 26).toNat ∈ ({ ({} : Chip) with tblPoisoned := [7] } : Chip).tblPoisoned ∧ 7 ∉ ((stacked none []).chip 15).tblPoisoned) ∧
    (State.reset.chipOn 0 = false ∧ (on.chip 0).stackUp = false ∧
      (put on [(bufReg 15 Reg.BUF_CTRL, 0)]).rdBit (bufReg 15 Reg.BUF_CTRL) 0 = false) ∧
    (Permitted (stacked none [33]) .pcie (bufReg 15 Reg.BUF_PCH_REPLACE) 4 ∧
      ((stacked none [33]).chip 15).spares.head? = some 33) ∧
    ((stacked (some { channel := 31, spare := 32 }) [32, 33]).chip 15).move ≠ none ∧
    ((stacked none []).chip 15).spares = [] ∧
    ((stacked (some { channel := 31, spare := 32 }) [32, 33]).chip 15).move = some { channel := 31, spare := 32 } ∧
    (on.chip 15).move = none := by
  unfold Permitted; decide +kernel

/-! ### Witnesses: queues -/

/-- Chiplet 15 with a balance toward port 511, class 7, idle for some slots. -/
def balanced (n : Nat) : State :=
  put { on with chips := on.chips.set 15 { ({} : Chip) with bal := [(jk 511 7, 5)], idle := [(jk 511 7, n)] } }
    [(queReg 15 Reg.QUE_CREDIT_CFG, 0x00080100)]

theorem witness_CreditsAndShapers :
    (((balanced 8).chip 15).balance (jk 511 7) ≠ 0 ∧
      (balanced 8).idleLimit 15 ≤ Sparse.get (fun _ => 0) ((balanced 8).chip 15).idle (jk 511 7)) ∧
    ((on.chip 0).balance (jk 0 0) = 0 ∧
      Sparse.get (fun _ => 0) ((balanced 7).chip 15).idle (jk 511 7) < (balanced 7).idleLimit 15) ∧
    Oldest (fun x => ∃ a,
    x = .release (15 : Fin 16) (511 : Fin 512) (7 : Fin 8) a) (meshed [.release 15 511 7 5]).brt.mesh
      (.release (15 : Fin 16) (511 : Fin 512) (7 : Fin 8) 5) [] ∧
    (∀ n, Msg.release 15 511 7 n ∉ (meshed []).brt.mesh) ∧
    (Permitted on .pcie (quePort 511 (shaperOff 8)) 1 ∧ on.isLead 511 = true ∧
      Permitted on .pcie (quePort 511 (shaperOff 8 + 8)) 1 ∧ Permitted on .smp (quePort 0 (shaperOff 0 + 4)) 1) ∧
    ((put on [(lanReg 8 Reg.LAN_PORT_CTRL, 0x100)]).isLead 9 = false ∧
      Permitted (put on [(lanReg 8 Reg.LAN_PORT_CTRL, 0x100)]) .pcie (quePort 9 (shaperOff 0)) 1) :=
  ⟨by decide +kernel, by decide +kernel, oldest_head [] ⟨5, rfl⟩, by simp [meshed, on],
    by unfold Permitted; decide +kernel, by unfold Permitted; decide +kernel⟩

/-- Port 511 with its gates, at a device time in ns. -/
def gated (g : Gates) (ns : Nat) : State :=
  { at_ .service ns with ports := [(511, { ({} : Port) with gates := g })] }

/-- The requests of the word 0x7: at 9 the change pending for 10 is cancelled first, at 10 it is not. -/
theorem witness_GatesChange_old :
    (({ ({} : Gates) with pending := some 10 } : Gates).pending.filter fun t0 =>
      bit (7 : Word) 0 && !(bit (7 : Word) 2 && decide ((gated {} 9).tim.dt.units < t0 * 4294967296))) = none ∧
    (({ ({} : Gates) with pending := some 10 } : Gates).pending.filter fun t0 =>
      bit (7 : Word) 0 && !(bit (7 : Word) 2 && decide ((gated {} 10).tim.dt.units < t0 * 4294967296))) = some 10 ∧
    (({ ({} : Gates) with pending := some 10 } : Gates).pending.filter fun t0 =>
      bit (6 : Word) 0 && !(bit (6 : Word) 2 && decide ((gated {} 10).tim.dt.units < t0 * 4294967296))) = none := by
  decide +kernel

theorem witness_GatesChange :
    (Permitted (gated {} 0) .pcie (quePort 511 Reg.QUE_GATE_CTRL) 1 ∧ (gated {} 0).isLead 511 = true) ∧
    ((put (gated {} 0) [(quePort 511 Reg.QUE_GATE_AT_NS, 10000)]).atTime (quePort 511 Reg.QUE_GATE_AT_SEC_LO)
        (quePort 511 Reg.QUE_GATE_AT_SEC_HI) (quePort 511 Reg.QUE_GATE_AT_NS) = 10000 ∧
      ¬ ((10000 : Nat) : Int) * 4294967296 - (gated {} 0).tim.dt.units < 10000 * 4294967296) ∧
    ((9999 : Nat) : Int) * 4294967296 - (gated {} 0).tim.dt.units < 10000 * 4294967296 ∧
    (({ ({} : Gates) with pending := some 10 }.pending.any fun t0 => decide ((gated {} 9).tim.dt.units < t0 * 4294967296)) = true) ∧
    (Permitted on .pcie (queReg (chipOf 511) (Reg.QUE_GATE_LIST + 0x800 * (511 % 32) + 0x400 * 1 + 4 * 255)) 1 ∧
      Permitted on .pcie (quePort 511 (Reg.QUE_GATE_LEN + 4 * 1)) 1 ∧ (1 : Fin 2) ≠ (on.port 511).gates.oper ∧
      (on.port 511).gates.pending = none) ∧
    (((gated { ({} : Gates) with pending := some 10 } 10).port 511).gates.pending = some 10 ∧
      10 * 4294967296 ≤ (gated { ({} : Gates) with pending := some 10 } 10).tim.dt.units) ∧
    (∀ t0 ∈ ((gated { ({} : Gates) with pending := some 10 } 9).port 511).gates.pending,
      (gated { ({} : Gates) with pending := some 10 } 9).tim.dt.units < t0 * 4294967296) ∧
    (((gated { ({} : Gates) with on := true } 1000).port 511).gates.on = true ∧
      (0 + (gated { ({} : Gates) with on := true } 1000).gateInterval 511 (0 : Fin 2) 0) * 4294967296 ≤
        (gated { ({} : Gates) with on := true } 1000).tim.dt.units) ∧
    ((put on [(lanReg 8 Reg.LAN_PORT_CTRL, 0x100)]).isLead 9 = false ∧
      Permitted (put on [(lanReg 8 Reg.LAN_PORT_CTRL, 0x100)]) .pcie (quePort 9 Reg.QUE_GATE_CTRL) 1) := by
  unfold Permitted; decide +kernel

/-! ### Witnesses: time and crossings -/

/-- The device ON with a time unit. -/
def timed (t : TimSt) : State := { on with tim := t }

theorem witness_TimeAdvances :
    (on.domOn 62 = true ∧ on.tim.todoA = [] ∧ on.tim.todoB = [] ∧ on.slt.running = false) ∧
    (timed { ({} : TimSt) with todoA := [.load 7 999999999, .step 0xFFFFFFFF] }).tim.todoA ≠ [] ∧
    State.reset.domOn 62 = false ∧
    (Permitted on .pcie (timReg 1 0x10) 1 ∧ Permitted on .pcie (timReg 1 0x24) 1 ∧
    Permitted on .smp (timReg 0 0x24) 1) ∧
    (1000000000 ≤ (put on [(timReg 1 0x1C, 1000000000)]).rdFld (timReg 1 0x1C) 29 0 ∧
      on.rdFld (timReg 1 0x1C) 29 0 < 1000000000 ∧ (prism 600 [] false).timeSel = 0 ∧
      (prism 600 [] false).slt.running = true) := by
  unfold Permitted; decide +kernel

/-- Two STEPs accepted before one tick both act; a STEP after a LOAD acts on its time. -/
theorem test_timescale_commands :
    (timed { ({} : TimSt) with todoA := [.step 5, .step 7] }).tick.tim.a.units = 13 * 2 ^ 32 + 2 ^ 30 ∧
    (timed { ({} : TimSt) with todoB := [.load 0 100, .step 0xFFFFFFFF] }).tick.tim.b.units = 99 * 2 ^ 32 := by
  decide +kernel

theorem witness_TimeAdvances_more :
    (Permitted on .pcie Reg.TIM_CTRL 1 ∧ { ({} : TimSt) with mode := .locked }.mode = .locked) ∧
    ((timed { ({} : TimSt) with mode := .slewing }).tim.mode = .slewing ∧
    (timed { ({} : TimSt) with mode := .slewing }).delta = 0) ∧
    ((timed { ({} : TimSt) with mode := .slewing, a := clockAt 5 }).delta ≠ 0 ∧ on.tim.mode ≠ .slewing) ∧
    (Permitted on .pcie (secLoAddr .device) 0 ∧ Permitted on .pcie (secLoAddr .a) 0 ∧
    Permitted on .pcie (secLoAddr .b) 0 ∧
      Permitted on .inband 0x500200 0 ∧ on.tim.fifo = [] ∧
      (timed { ({} : TimSt) with fifo := [{ data0 := 1, data1 := 2, data2 := 3 }] }).tim.fifo ≠ []) ∧
    ({ on with cmd := { on.cmd with rows := Vector.replicate 6 0 } }.allowed .inband 0 = false ∧
    on.glb.state ≠ .aon) := by
  unfold Permitted; decide +kernel

/-- The device ON with a delta in flight at a crossing. -/
def crossed (x : Nat) (c : Crossing) : State := { on with xing := [(x, c)] }

theorem witness_CrossingsDeliver :
    ((0x403 : BitVec 11).toNat < 0x404 ∧
    ((crossed 0x403 { ({} : Crossing) with flight := some 3 }).crossing 0x403).flight = some 3) ∧
    (0x200 ≤ (0x3FF : BitVec 11).toNat ∧ (0x3FF : BitVec 11).toNat < 0x400 ∧
      ((crossed 0x3FF { ({} : Crossing) with flight := some 1, hold := some 2 }).crossing 0x3FF).flight = some 1) ∧
    ((on.crossing 0).flight = none ∧ (16 : Nat) ≠ 0) ∧ 0x404 ≤ (0x404 : BitVec 11).toNat := by
  decide +kernel

/-! ### Witnesses: Loupe -/

/-- The loops under way with a Loupe unit 7, and words of its window. -/
def louped (x : Loupe) (l : List (Nat × Word)) : State :=
  put ((loops 5).setLoupe 7 x) (l.map fun p => (acqReg 7 p.1, p.2))

theorem witness_LoupeCommanded :
    (Permitted (louped {} []) .pcie (acqReg 7 0) 1 ∧ bit (1 : Word) 1 = false ∧ bit (4 : Word) 1 = false ∧
      bit (2 : Word) 0 = false ∧ ((louped {} []).loupe 7).st = .idle) ∧
    (louped {} [(8, 2), (0x14, 16)]).armRefusals 7 = [] ∧
    on.armRefusals 7 ≠ [] ∧
    ((louped { ({} : Loupe) with st := .armed } []).loupe 7).st ≠ .idle ∧
    ((louped { ({} : Loupe) with st := .post } []).loupe 7).st = .post ∧
    Permitted (louped {} []) .smp (acqReg 7 0x24) 1 := by
  unfold Permitted; decide +kernel

/-- Unit 7 with the samples that came. -/
def fed (x : Loupe) (l : List (Nat × Word)) (ws : List (BitVec 16)) : State := (louped x l).loupeFeed 7 ws

/-- A unit that lends since tick 0, at a tick. -/
def lending (n : Nat) : State :=
  let s := louped { ({} : Loupe) with st := .settle, lent := some 4 } []
  { s with tim := { s.tim with ticks := n } }

theorem witness_LoupeRecords_settle :
    (((lending 120).loupe 7).st = .settle ∧ ((lending 120).loupe 7).lent ≠ none ∧
      ((lending 120).loupe 7).lendTick + 120 ≤ (lending 120).tim.ticks) ∧
    (lending 119).tim.ticks < ((lending 119).loupe 7).lendTick + 120 ∧
    ((louped { ({} : Loupe) with st := .settle } []).loupe 7).lent = none ∧ (on.loupe 7).st ≠ .settle := by
  decide +kernel

/-- With PRE 1, one code of a lent pair fills the pre-trigger; without a condition no sample is a trigger point. -/
theorem witness_LoupeRecords_samples :
    (((fed { ({} : Loupe) with st := .prefill } [(0x10, 1)] [5]).loupe 7).st = .prefill ∧
      (louped { ({} : Loupe) with st := .prefill } [(0x10, 1)]).loupePre 7 = 1 ∧
      ((fed { ({} : Loupe) with st := .prefill } [(0x10, 1)] [5]).loupe 7).buf.length = 1 ∧
      ((fed { ({} : Loupe) with st := .prefill } [(0x10, 1)] []).loupe 7).buf.length = 0) ∧
    ((fed { ({} : Loupe) with st := .armed } [] [5]).loupe 7).hit.mask = 0 := by
  decide +kernel

/-- Table: Loupe sources, KIND 0: [13:0] code, [14] OVR, [15] INVALID. -/
theorem test_tap_sample : tapSample 5 true false = 0x4005 ∧ tapSample 0x3FFF false true = 0xBFFF := by decide

/-- FORCE is met at the sample that a command brings. -/
theorem witness_LoupeRecords_trigger :
    (((fed { ({} : Loupe) with st := .armed, force := true } [] [tapSample 5 false false]).loupe 7).st = .armed ∧
      ((fed { ({} : Loupe) with st := .armed, force := true } [] [tapSample 5 false false]).loupe 7).hit.mask ≠ 0 ∧
      0 + 32 + (louped {} []).loupePre 7 + (louped {} []).loupePost 7 ≤ 4194304) ∧
    (¬ 4194273 + 32 + (louped {} []).loupePre 7 + (louped {} []).loupePost 7 ≤ 4194304 ∧
      (louped {} [(0, 0x20)]).loupeMode 7 = 2 ∧ (louped {} [(0, 0)]).loupeMode 7 ≠ 2) ∧
    (((fed { ({} : Loupe) with st := .armed } [] [tapSample 5 false false]).loupe 7).hit.mask = 0 ∧
      ((fed {} [] [tapSample 5 false false]).loupe 7).st ≠ .armed) := by
  decide +kernel

theorem witness_LoupeRecords_written :
    (((fed { ({} : Loupe) with st := .post } [(0x14, 0)] []).loupe 7).st = .post ∧
      0 + (louped {} [(0x14, 0)]).loupePost 7 ≤ ([] : List (BitVec 16 × Bool)).length ∧
      ([] : List (BitVec 16 × Bool)).length < 0 + (louped {} [(0x14, 16)]).loupePost 7) ∧
    ((louped {} [(0, 0x40)]).rdBit (acqReg 7 0) 6 = true ∧ (louped {} [(0, 0)]).loupeMode 7 = 0 ∧
      (louped {} [(0, 0x20)]).loupeMode 7 ≠ 0) ∧
    (((fed { ({} : Loupe) with st := .holdoff } [(0x18, 0)] []).loupe 7).st = .holdoff ∧
      (louped {} [(0x18, 0)]).rdBit (acqReg 7 0) 7 = false ∧
      0 + ((louped {} [(0x18, 0)]).rd (acqReg 7 0x18)).toNat * 4294967296 ≤ (fed {} [(0x18, 0)] []).nextInstant 7) ∧
    ((louped {} [(0, 0x80), (0x18, 2)]).rdBit (acqReg 7 0) 7 = true ∧
      ((louped {} [(0, 0x80), (0x18, 2)]).rd (acqReg 7 0x18)).toNat ≤ 2 ∧
      ¬ ((louped {} [(0, 0x80), (0x18, 2)]).rd (acqReg 7 0x18)).toNat ≤ 1) ∧
    ((fed { ({} : Loupe) with dec := 0, decNext := 1 } [] []).loupe 7).dec ≠
      ((fed { ({} : Loupe) with dec := 0, decNext := 1 } [] []).loupe 7).decNext := by
  decide +kernel

theorem witness_LoupeRecords_ends :
    (((fed { ({} : Loupe) with lent := some 98, lentFor := 1 } [(0x20, 0)] []).loupe 7).lent = some 98 ∧
      max 1 ((louped {} [(0x20, 0)]).rdFld (acqReg 7 0x20) 15 0) ≤ 1) ∧
    ((on.loupe 7).lent = none ∧ 0 < max 1 ((louped {} [(0x20, 0)]).rdFld (acqReg 7 0x20) 15 0)) ∧
    (((louped { ({} : Loupe) with outWait := [3, 9] } []).loupe 7).outWait = [3, 9] ∧
      3 < 4 * (louped {} []).tim.ticks + 4 ∧ ¬ 9 < 4 * (louped {} []).tim.ticks + 4 ∧
      (louped {} []).trigActs = true ∧ State.reset.trigActs = false) ∧
    (((louped { ({} : Loupe) with driving := some 0 } []).loupe 7).driving = some 0 ∧
      ¬ 0 + 64 < 4 * (louped {} []).tim.ticks + 4 ∧ 0 + 64 < 4 * (lending 16).tim.ticks + 4) ∧
    (((louped { ({} : Loupe) with st := .post } []).loupe 7).sampling = true ∧ ((louped {} []).loupe 7).sampling = false ∧
      (louped {} [(0x30, 0x50)]).condsFor 7 (0x50 + (0 : Fin 4).val) = []) := by
  decide +kernel
/-! ### Witnesses: redundancy -/

/-- The loops under way in sample 5, with changes to what the arbiter holds. -/
def redOf (f : RedSt → RedSt) : State := { loops 5 with red := f (loops 5).red }

/-- An element 7 evaluated in sample 4, plausible or not. -/
def judged (v : Bool) : Elem :=
  { ({} : Elem) with lastIter := some 4, pl := { ({} : Plausibility) with evaluated := true, verdict := v } }

/-- Arbitration over element 7, with the verdicts of CTL-A and CTL-B. -/
def arbitrating (va vb : Bool) : State :=
  ((redOf fun r => { r with arbM := some [7], arbAt := 4 }).setElem .a 7 (judged va)).setElem .b 7 (judged vb)

theorem witness_ControllersSwitch :
    ((arbitrating false true).red.arbM = some [7] ∧ (arbitrating false true).active? = some .a ∧
      (arbitrating false true).standby? = some .b ∧ (arbitrating false true).consistent .a [7] 4 = false ∧
      (arbitrating false true).consistent .b [7] 4 = true) ∧
    ((arbitrating true false).consistent .a [7] 4 = true ∧ (arbitrating true false).consistent .b [7] 4 = false) ∧
    ((arbitrating true true).consistent .a [7] 4 = true ∧ (arbitrating true true).consistent .b [7] 4 = true) ∧
    (loops 5).red.arbM = none ∧
    ((redOf fun r => { r with pendingSw := some (.loss, 5) }).red.pendingSw = some (.loss, 5) ∧
    5 ≤ (loops 5).loopS.sample ∧
      (loops 5).red.gapEnd = none ∧ (loops 5).active? = some .a ∧ (loops 5).standby? = some .b) ∧
    ((redOf fun r => { r with pendingSw := some (.host, 5), b := {} }).red.pendingSw = some (.host, 5) ∧
      (redOf fun r => { r with pendingSw := some (.host, 5), b := {} }).active? = some .a ∧
      (redOf fun r => { r with pendingSw := some (.host, 5), b := {} }).standby? = none) ∧
    (loops 5).red.pendingSw = none ∧
    ((redOf fun r => { r with gapEnd := some 5 }).red.gapEnd = some 5 ∧
    (redOf fun r => { r with gapEnd := some 7 }).red.gapEnd ≠ none) ∧
    on.active? ≠ some .a := by
  decide +kernel

/-- The ends of a loss, of a gap in which codes are not held, and of a switch-over that its old controller follows. -/
theorem witness_ControllersSwitch_ends :
    ((loops 5).red.gapEnd = none ∧ (loops 5).standby? = some .b ∧ (loops 5).red.pendingSw = none ∧
      (redOf fun r => { r with pendingSw := some (.host, 7) }).red.pendingSw = some (.host, 7) ∧
      (redOf fun r => { r with pendingSw := some (.arbitration, 6) }).red.pendingSw = some (.arbitration, 6) ∧
      (SwCause.arbitration ≠ .host)) ∧
    (((redOf fun r => { r with gapEnd := some 5 }).flt.safe = false) ∧
      { (redOf fun r => r) with red := { (loops 5).red with gapEnd := none } }.codesHeld = false ∧
      ((loops 5).setElem .a 7 { ({} : Elem) with mode := .hold }).actCtl = .a ∧
      (((loops 5).setElem .a 7 { ({} : Elem) with mode := .hold }).elem .a 7).mode ≠ .off ∧
      ((loops 5).chan 7).phase = .idle ∧ (loops 5).domOn (50 + quadrantOf 7) = true ∧ (loops 5).isParked 7 = false) ∧
    ((redOf fun r => { r with a := { r.a with follow := some true } }).ctlRed .a).follow ≠ none := by
  decide +kernel

theorem witness_ControllersCommanded :
    (Permitted (loops 5) .pcie Reg.RED_CMD 1 ∧ fld (0x100 : Word) 4 0 = 0) ∧
    ((redOf fun r => { r with cleanRun := 256 }).switchRefusals = [] ∧
      (redOf fun r => { r with cleanRun := 256 }).active? = some .a) ∧
    (loops 5).switchRefusals ≠ [] ∧
    (((loops 5).ctlRed .a).state = .active ∧ ((loops 5).ctlRed .b).state = .standby ∧
    (on.ctlRed .b).state = .isolated ∧
      ((redOf fun r => { r with b := { ({} : CtlRed) with state := .testing } }).ctlRed .b).state = .testing) := by
  unfold Permitted; decide +kernel

theorem witness_StandbyWatched :
    ((redOf fun r => { r with copyOut := 1, copyDiff := true }).red.copyOut ≠ 0 ∧
      (redOf fun r => { r with copyOut := 1, copyDiff := true }).standby? = some .b) ∧
    (loops 5).red.copyOut = 0 ∧
    ((redOf fun r => { r with copyOut := 1, lateRun := 14, lateAt := [4, 3] }).red.copyOut = 1 ∧ 14 + 1 < 16 ∧
      3 ≤ ((loops 5).loopS.sample :: [4, 3].filter fun n => decide ((loops 5).loopS.sample < n + 64)).length) ∧
    (16 ≤ (redOf fun r => { r with copyOut := 1, lateRun := 15 }).red.lateRun + 1) ∧
    ((redOf fun r => { r with copyOut := 2 }).red.copyOut ≠ 1) ∧
    ((redOf fun r => { r with cleanRun := 256, b := { r.b with suspect := true } }).standby? = some .b ∧
      ((redOf fun r => { r with cleanRun := 256, b := { r.b with suspect := true } }).ctlRed .b).suspect = true ∧
      256 ≤ (redOf fun r => { r with cleanRun := 256 }).red.cleanRun ∧
      (redOf fun r => { r with cleanRun := 256 }).red.dirty = false) ∧
    (redOf fun r => { r with cleanRun := 255 }).red.cleanRun < 256 ∧ on.standby? = none ∧
    (redOf fun r => { r with cleanRun := 256, dirty := true }).red.dirty = true ∧
    ((redOf fun r => { r with bistDue := true }).standby? = some .b ∧
    (redOf fun r => { r with bistDue := true }).red.bistDue = true ∧
      (redOf fun r => { r with bistDue := true }).nextTest .b = some 0 ∧ ((loops 5).engine .b 0).role = .active ∧
      (loops 5).freeSpares .b = [48, 49, 50, 51]) ∧
    (loops 5).red.bistDue = false ∧
    (((loops 5).ctlRed .a).state.upright = true ∧ (on.ctlRed .a).state.upright = false) := by
  decide +kernel

/-- A free-spare list that is empty, and a spare under test. -/
theorem witness_StandbyWatched_engines :
    (((((loops 5).setEngine .b 48 { logical := 48, role := .faulty, ovr := [] }).setEngine .b 49
        { logical := 49, role := .faulty, ovr := [] }).setEngine .b 50 { logical := 50, role := .faulty, ovr := [] }).setEngine .b 51
        { logical := 51, role := .faulty, ovr := [] }).freeSpares .b = [] ∧
    (redOf fun r => { r with b := { r.b with bistEngine := 48 } }).nextTest .b = some 48 ∧
    ((loops 5).engine .b 48).role ≠ .active := by
  decide +kernel

/-- CTL-B SYNCING in a phase. -/
def syncing (ph : Fin 4) (copies clean : Nat) : State :=
  redOf fun r => { r with b := { ({} : CtlRed) with state := .syncing }, syncPhase := ph, copies := copies, cleanRun := clean }

theorem witness_ControllersReturn :
    (((redOf fun r => { r with b := { ({} : CtlRed) with state := .testing } }).ctlRed .b).state = .testing ∧
      ((loops 5).ctlRed .b).state ≠ .testing) ∧
    ((syncing 1 0 0).syncing? = some .b ∧ (syncing 1 0 0).red.syncPhase = 1) ∧ (loops 5).syncing? = none ∧
    ((syncing 2 64 0).syncing? = some .b ∧ (syncing 2 64 0).red.syncPhase = 2 ∧ 64 ≤ (syncing 2 64 0).red.copies) ∧
    (syncing 2 63 0).red.copies < 64 ∧
    ((syncing 3 0 256).syncing? = some .b ∧ (syncing 3 0 256).red.syncPhase = 3 ∧
    256 ≤ (syncing 3 0 256).red.cleanRun) ∧
    (syncing 3 0 255).red.cleanRun < 256 ∧
    ({ at_ .structured 0 with glb := { (at_ .structured 0).glb with step := 5 } }.glb.state = .structured ∧
      { at_ .structured 0 with glb := { (at_ .structured 0).glb with step := 5 } }.glb.step = 5 ∧
      (at_ .structured 0).red.a.state = .isolated ∧ (at_ .structured 0).red.b.state = .isolated) ∧
    on.glb.state ≠ .structured := by
  decide +kernel

/-! ### Witnesses: faults -/

/-- The device ON with fault state. -/
def faulted (f : FltSt) : State := { on with flt := f }

/-- A report of matrix element 7 of a class. -/
def report7 (c : Fin 4) : SentFault := { code := faultCode fbElem0 7, cls := c, sec := 0, ns := 0 }

/-- That report as a command. -/
def rep7 (c : Fin 4) : FaultRep := { block := Fin.ofNat 16 fbElem0, src := 7, cls := c }

/-- The report waiting at the collector. -/
def waiting (c : Fin 4) (prom : List (BitVec 16)) (w : List FltWindow) : State :=
  faulted { ({} : FltSt) with sent := [report7 c], promoted := prom, windows := w }

/-- The window of element 7, with a count of 2. -/
def window7 : FltWindow := { code := faultCode fbElem0 7, start := 0, count := 2, n := 3, w := 1 }

theorem witness_FaultsCollected_report :
    (sortBy SentFault.before (waiting 1 [] []).flt.sent = [report7 1] ∧
      (report7 1).code = faultCode (rep7 1).block.val (rep7 1).src.toNat ∧ (report7 1).cls = (rep7 1).cls) ∧
    ((report7 1).code ∈ (waiting 1 [faultCode fbElem0 7] []).flt.promoted ∧
    (report7 1).code ∉ (waiting 1 [] []).flt.promoted) ∧
    0 + 1 < (waiting 1 [] []).windowN (report7 1).code ∧
    (((waiting 1 [] [window7]).flt.windows.find? fun w => decide (w.code = (report7 1).code)).filter fun w =>
      decide ((report7 1).time ≤ w.start + w.w * 1000000)) = some window7 ∧ window7.n ≤ window7.count + 1 ∧
    ((report7 2).cls = 2 ∧ codeBlk (report7 2).code = fbElem0 ∧ on.isParked (codeSrc (report7 2).code) = false) ∧
    ((report7 3).cls = 3 ∧ (waiting 3 [] []).flt.openRec = none) ∧
    (codeBlk (faultCode fbCtl 1) = fbCtl ∧
    ((loops 5).ctlRed (ctlOf (codeSrc (faultCode fbCtl 1)))).state = .standby) := by
  decide +kernel

/-- No report waits. -/
theorem witness_FaultsCollected_none :
    ∀ q rest, sortBy SentFault.before on.flt.sent = q :: rest →
      ¬(q.code = faultCode (rep7 1).block.val (rep7 1).src.toNat ∧ q.cls = (rep7 1).cls) := by
  intro q rest h
  have e : sortBy SentFault.before on.flt.sent = [] := by decide +kernel
  rw [e] at h
  cases h

/-- The device ON with an open record, of a fault whose cause is gone or of one whose cause stands. -/
def recorded (r : FltRecord) : State :=
  faulted { ({} : FltSt) with ring := [(3, { r with isOpen := true, code := faultCode fbElem0 7 })], openRec := some 3 }

theorem witness_FaultsCollected_clear :
    (faulted { ({} : FltSt) with signals := [0x5000] }).flt.signals ≠ [] ∧ on.flt.signals = [] ∧
    (up3.isLead 3 = true ∧ up3.portActs 3 = true ∧ (up3.port 3).tx = none ∧ up3.pfcTxEn 3 = false ∧
    up3.flt.safe = false) ∧
    Permitted on .pcie Reg.FLT_CLEAR 1 ∧ on.flt.openRec = none ∧
    ((recorded { ({} : FltRecord) with cls := 1 }).flt.openRec = some 3 ∧
      ((recorded { ({} : FltRecord) with cls := 1 }).plainWrite .pcie Reg.FLT_CLEAR (withBit 0 0)).causeGone (faultCode fbElem0 7) 1 =
        true) ∧
    ((recorded { ({} : FltRecord) with cls := 2 }).plainWrite .pcie Reg.FLT_CLEAR (withBit 0 0)).causeGone (faultCode fbElem0 7) 2 =
      false ∧
    ((faulted { ({} : FltSt) with safe := true, safeEnding := true }).flt.safe = true ∧
      (faulted { ({} : FltSt) with safe := true, safeEnding := true }).flt.safeEnding = true ∧
      Sparse.wf (fun _ => {}) up3.ports = true) ∧
    on.flt.safe = false := by
  unfold Permitted; decide +kernel

/-! ### Witnesses: thermal supervision -/

/-- The device in a state with a zone. -/
def zoned (g : GState) (z : Nat) (x : Zone) : State := { at_ g 0 with thm := { ({} : ThmSt) with zones := [(z, x)] } }

/-- A sensor that shows a temperature in 1/16 degrees. -/
def shows (t : Int) : Sensor := { ({} : Sensor) with seen := true, reading := t }

/-- A zone with both sensors at a temperature. -/
def degrees (t : Int) : Zone := { ({} : Zone) with s0 := shows t, s1 := shows t }

/-- A dwell of n readings of sensor 0. -/
def reads (n : Nat) : Dwell := { n0 := n, n1 := 0 }

/-- A zone whose three thresholds have been reached for n readings, and one below their release points for n readings. -/
def hot (n : Nat) : Zone :=
  { ({} : Zone) with warnD := { up := reads n, down := {} }, throttleD := { up := reads n, down := {} }
                     shutdownD := { up := reads n, down := {} } }
def cold (n : Nat) : Zone :=
  { ({} : Zone) with warnD := { up := {}, down := reads n }, throttleD := { up := {}, down := reads n }
                     shutdownD := { up := {}, down := reads n } }

theorem witness_ThermalSupervised_sensor :
    (on.glb.state ≠ .off ∧ (on.zone 75).s0.cause = 0 ∧ (on.zone 75).s0.seen = false ∧ (-640 : Int) ≤ -640 ∧
      (2240 : Int) ≤ 2240 ∧ (on.zone 75).s1.seen = false) ∧
    (((zoned .service 63 (degrees 400)).zone 63).s1.seen = true ∧ ((zoned .service 63 (degrees 400)).zone 63).s1.cause = 0 ∧
      160 < ((561 : Int) - ((zoned .service 63 (degrees 400)).zone 63).s1.reading).natAbs ∧
      ¬ 160 < ((560 : Int) - ((zoned .service 63 (degrees 400)).zone 63).s1.reading).natAbs) ∧
    (99 ≤ ({ shows 400 with same := 99 } : Sensor).same ∧ ¬ 99 ≤ ({ shows 400 with same := 98 } : Sensor).same) ∧
    ((zoned .service 63 { degrees 400 with s0 := { ({} : Sensor) with cause := 1 } }).zone 63).s0.cause ≠ 0 ∧
    ¬ (2241 : Int) ≤ 2240 ∧ (at_ .off 0).glb.state = .off := by
  decide +kernel

/-- The last reading below 0 degrees closes the NVM window and stops no write; above 95 degrees it stops one. -/
theorem test_nvm_window_closes :
    ((zoned .service 63 (degrees 0)).zone 63).temp = 0 ∧ ¬ (0 ≤ (({ degrees 0 with s0 := shows (-1), s1 := shows (-1) } : Zone)).temp) ∧
    1520 < (degrees 1521).temp := by
  decide +kernel

theorem witness_ThermalSupervised_thresholds :
    (((zoned .service 0 (hot 6)).zone 0).asserted .warning = false ∧
      (((zoned .service 0 (hot 6)).zone 0).dwell .warning).up.lasted 5 = true ∧
      (((zoned .service 0 (hot 5)).zone 0).dwell .warning).up.lasted 5 = false) ∧
    ((((zoned .calibrating 64 (hot 6)).zone 64).dwell .throttle).up.lasted 5 = true ∧ zoneKind 64 ≠ 0 ∧
      ((zoned .calibrating 64 (hot 6)).zone 64).asserted .throttle = false ∧
      (zoned .calibrating 64 (hot 6)).glb.state = .calibrating ∧
      (zoned .calibrating 64 (hot 6)).validAreas = []) ∧
    ({ zoned .calibrating 64 (hot 6) with
      cal := { on.cal with sets := on.cal.sets.set 0 { ({} : CalSet) with valid := true } } }.validAreas ≠ []) ∧
    ((((zoned .service 75 (hot 6)).zone 75).dwell .shutdown).up.lasted 5 = true ∧ zoneKind 75 ≠ 0) ∧
    ((((zoned .service 62 (hot 6)).zone 62).dwell .shutdown).up.lasted 5 = true ∧ zoneKind 62 = 0) ∧
    ((((zoned .service 49 (hot 6)).zone 49).dwell .shutdown).up.lasted 5 = true ∧ zoneKind 49 = 0) ∧
    (((zoned .service 0 { cold 501 with warn := true }).zone 0).asserted .warning = true ∧
      (((zoned .service 0 { cold 501 with warn := true }).zone 0).dwell .warning).down.lasted 500 = true ∧
      (((zoned .service 0 { cold 500 with warn := true }).zone 0).dwell .warning).down.lasted 500 = false) ∧
    (zoned .off 0 (hot 6)).glb.state = .off ∧ zoneKind 54 ≠ 0 ∧ zoneKind 53 = 0 ∧ zoneKind 61 ≠ 0 := by
  decide +kernel

theorem witness_ThermalSupervised_nvm :
    (((zoned .service 63 { ({} : Zone) with windowD := reads 501 }).zone 63).windowD.lasted 500 = true ∧
      ((zoned .service 63 { ({} : Zone) with windowD := reads 500 }).zone 63).windowD.lasted 500 = false ∧
      on.glb.vin ≠ .collapsed) ∧
    ({ on with thm := { ({} : ThmSt) with nvmOk := true, events := [{ kind := 0, zone := 1, sec := 0, ns := 0 }] } }.thm.events =
        [{ kind := 0, zone := 1, sec := 0, ns := 0 }] ∧
      { on with thm := { ({} : ThmSt) with nvmOk := true } }.thm.nvmOk = true ∧ on.thm.nvmLog.length ≤ 1024) ∧
    on.thm.events = [] := by
  decide +kernel
/-! ### Witnesses: the structure image -/

/-- The device ON with image logic. -/
def imaged (m : ImgSt) : State := { on with img := m }

theorem witness_ImagesStaged :
    (Permitted on .pcie Reg.GLB_IMG_CTRL 2 ∧ on.img.owner = none ∧ (0x80 : Word) &&& 0x7F = 0 ∧
    on.img.stage ≠ .opened ∧
      on.img.phase = .none ∧ on.img.commitBusy = false ∧ on.img.commitWait = false) ∧
    ((imaged { ({} : ImgSt) with owner := some .pcie, stage := .opened }).img.owner = some .pcie ∧
      (imaged { ({} : ImgSt) with owner := some .pcie, stage := .opened }).img.stage = .opened) ∧
    (imaged { ({} : ImgSt) with stage := .full }).img.stage = .full ∧
    (Permitted (imaged { ({} : ImgSt) with owner := some .smp }) .pcie Reg.GLB_IMG_CTRL 2 ∧
      (imaged { ({} : ImgSt) with owner := some .smp }).img.owner ≠ none ∧
      (imaged { ({} : ImgSt) with owner := some .smp }).img.owner ≠ some .pcie) ∧
    (Permitted (imaged { ({} : ImgSt) with stage := .opened }) .pcie (0x38000000 + (25165823 : BitVec 25).toNat) 2 ∧
      [(7 : Byte), 8].take (25165824 - (25165823 : BitVec 25).toNat) ≠ []) ∧
    ((imaged { ({} : ImgSt) with commitBusy := true }).img.commitBusy = true ∧ on.glb.restart ≠ .waiting) ∧
    ({ imaged { ({} : ImgSt) with commitBusy := true } with glb := { on.glb with restart := .waiting } }.glb.restart = .waiting ∧
      on.sec.zeroizing = none ∧ on.cal.storing = none ∧ on.sec.fuse = none ∧ on.sec.retirePending = none) ∧
    on.img.commitBusy = false ∧ on.img.verifying = none := by
  unfold Permitted; decide +kernel

/-- An image that fails at its first word: staged, and in slot 1. -/
theorem witness_ImagesStaged_fails :
    (imaged { ({} : ImgSt) with verifying := some .staged }).img.verifying = some .staged ∧
    (imaged { ({} : ImgSt) with verifying := some .staged }).verifyImage
      (imaged { ({} : ImgSt) with verifying := some .staged }).stagedBytes true = .error ⟨1, 0, 0⟩ ∧
    (imaged { ({} : ImgSt) with verifying := some (.slot 1) }).img.verifying = some (.slot 1) ∧
    (imaged { ({} : ImgSt) with verifying := some (.slot 1) }).verifyImage
      ((imaged { ({} : ImgSt) with verifying := some (.slot 1) }).img.slot 1).all false = .error ⟨1, 0, 0⟩ :=
  ⟨rfl, rfl, rfl, rfl⟩

/-- A word as four bytes, least significant first. -/
def le4 (n : Nat) : List Byte := [BitVec.ofNat 8 n, BitVec.ofNat 8 (n / 256), BitVec.ofNat 8 (n / 65536),
    BitVec.ofNat 8 (n / 16777216)]

/-- A CALENDAR body: takeover time 3,932,160 ns, LEN 1, one template of codes 2 and 1 in turn that ends with 2. -/
def calBody : List Byte :=
  le4 0 ++ le4 0 ++ le4 3932160 ++ le4 1 ++ List.replicate 48 0 ++ (List.replicate 63 (le4 0x12121212)).flatten ++ le4 0x22121212

/-- An overlay image whose one section is that CALENDAR; its key and signature are zeros. -/
def overlayImg : List Byte :=
  le4 0xC10E5120 ++ le4 0x10001 ++ le4 704 ++ le4 1 ++ le4 0 ++ le4 0 ++ le4 1 ++ List.replicate 36 0 ++
  le4 0xFF0008 ++ le4 128 ++ le4 320 ++ le4 1 ++ List.replicate 32 0 ++ List.replicate 16 0 ++ calBody ++ List.replicate 256 0

/-- Its section. -/
def calSection : Section := { type := 8, inst := 255, version := 1, enc := false, offset := 128, body := calBody }

/-- The device ON with key slot 0 programmed. -/
def keyed (h : Vector Word 12) (m : ImgSt) : State :=
  { imaged m with sec := { on.sec with slots := on.sec.slots.set 0 { ({} : KeySlot) with hash := h, programmed := true } } }

theorem overlay_format : checkFormat overlayImg = none := by decide +kernel

theorem overlay_sections (h : Vector Word 12) (m : ImgSt) (st : Bool) :
    (keyed h m).openSections overlayImg st (manifest overlayImg) = .ok [calSection] := by
  have e : manifest overlayImg =
      [{ idx := 0, type := 8, inst := 255, enc := false, off := 128, len := 320, version := 1 }] := by decide +kernel
  have b : bytesAt overlayImg 128 320 = calBody := by decide +kernel
  have r : (keyed h m).sec.requireEnc = false := rfl
  rw [e]
  simp [State.openSections, State.openBody, b, r, calSection]

theorem overlay_consistent :
    (checkSections true [calSection]).orElse (fun _ => checkConsistent true [calSection]) = none := by
  decide +kernel

theorem overlay_trust (h : Vector Word 12) (m : ImgSt) (hs : Config.sha384 (pubKeyOf overlayImg) = h.toList)
    (hg : Config.ecdsaGood (overlayImg.take 448) (pubKeyOf overlayImg) (bytesAt overlayImg 544 96) = true) :
    (keyed h m).checkTrust overlayImg = none := by
  have t : totalLen overlayImg - 256 = 448 := by decide +kernel
  have k : (keySlotOf overlayImg).val = 0 := by decide +kernel
  have u : u32At overlayImg 0x14 = 0 := by decide +kernel
  have w : u32At overlayImg 0x18 = 1 := by decide +kernel
  have v : (keyed h m).sec.variantH = false := rfl
  have n : (keyed h m).sec.minSvn = 0 := rfl
  simp [State.checkTrust, t, k, u, w, v, n, hs, hg, b2n]
  exact ⟨⟨⟨rfl, rfl⟩, rfl⟩, rfl⟩

/-- A staged or stored image passes verification where the functions of assumption 7 accept its key and its signature. -/
theorem witness_ImagesStaged_passes (h : Vector Word 12) (m : ImgSt) (st : Bool)
    (hs : Config.sha384 (pubKeyOf overlayImg) = h.toList)
    (hg : Config.ecdsaGood (overlayImg.take 448) (pubKeyOf overlayImg) (bytesAt overlayImg 544 96) = true) :
    (keyed h m).verifyImage overlayImg st =
      .ok { seq := 0, build := 0, svn := 0, keySlot := 0, overlay := true, sections := [calSection] } := by
  have o : decide (u32At overlayImg 0x0C % 2 = 1) = true := by decide +kernel
  have q : u32At overlayImg 0x10 = 0 ∧ u32At overlayImg 0x1C = 0 ∧ u32At overlayImg 0x14 = 0 ∧
    keySlotOf overlayImg = 0 := by
    decide +kernel
  have z : (none : Option VErr).orElse (fun _ => (keyed h m).checkTrust overlayImg) = none := overlay_trust h m hs hg
  simp only [State.verifyImage, overlay_format, z, overlay_sections, o, overlay_consistent, q]
  rfl

/-- An image with one section. -/
def image1 (x : Section) (o : Bool) : Image := { seq := 1, build := 0, svn := 0, keySlot := 0, overlay := o, sections := [x] }

/-- A microcode section for chiplet 15 that swaps at slot 9, or at slot 2. -/
def ucodeSection (n : Nat) : Section :=
  { type := 4, inst := 15, version := 1, enc := false, offset := 128, body := le4 n ++ le4 0 }

theorem witness_RestructureRuns :
    (Permitted (imaged { ({} : ImgSt) with stage := .full }) .pcie Reg.GLB_IMG_CTRL 2 ∧ on.img.owner = none ∧
      (0x80 : Word) &&& 0x7F = 0 ∧ on.glb.state = .service ∧ on.flt.safe = false ∧ on.red.a.state ≠ .syncing ∧
      on.red.b.state ≠ .syncing ∧ clocksBody on.img.staged = clocksBody on.img.inForce) ∧
    (at_ .locking 0).glb.state ≠ .service ∧
    clocksBody (some (image1 { calSection with type := 7 } false)) ≠ clocksBody none ∧
    ((imaged { ({} : ImgSt) with phase := .drain }).img.phase = .drain ∧
    (imaged { ({} : ImgSt) with phase := .drain }).drained = true) ∧
    on.img.phase ≠ .drain ∧ (flying flight0).drained = true ∧ (balanced 8).drained = false ∧
    ((imaged { ({} : ImgSt) with phase := .apply, staged := some (image1 calSection false) }).img.phase = .apply ∧
      (imaged { ({} : ImgSt) with phase := .apply, staged := some (image1 calSection false) }).img.staged =
        some (image1 calSection false)) := by
  unfold Permitted; decide +kernel

theorem witness_RestructureRuns_switch :
    ((imaged { ({} : ImgSt) with phase := .switching, staged := some (image1 calSection false) }).img.phase = .switching ∧
      on.slt.slot % 512 = 0 ∧ on.flt.safe = false ∧ on.red.gapEnd = none) ∧
    (bodyOf (image1 calSection false).sections secCalendar).isSome = true ∧
    bodyOf (image1 (ucodeSection 9) false).sections secCalendar = none ∧ (prism 511 [] false).slt.slot % 512 ≠ 0 := by
  decide +kernel

theorem witness_RestructureRuns_overlay :
    ((imaged { ({} : ImgSt) with stage := .overlay, staged := some (image1 (ucodeSection 9) true) }).img.staged =
        some (image1 (ucodeSection 9) true) ∧
      (imaged { ({} : ImgSt) with stage := .overlay, staged := some (image1 (ucodeSection 9) true) }).img.stage = .overlay) ∧
    (ucodeSections (image1 (ucodeSection 9) true).sections = [ucodeSection 9] ∧
    on.namedChips (ucodeSection 9) = [15] ∧
      on.ucodeRefusals (swapSlotOf (ucodeSection 9).body) 15 = []) ∧
    on.ucodeRefusals (swapSlotOf (ucodeSection 2).body) 15 ≠ [] ∧
    on.calendarRefusals calBody = [] ∧ (at_ .service 3932160).calendarRefusals calBody ≠ [] ∧ on.img.staged = none ∧
    Permitted (imaged { ({} : ImgSt) with owner := some .jtag }) .smp Reg.GLB_IMG_CTRL 2 := by
  unfold Permitted; decide +kernel

/-! ### Witnesses: command ports -/

theorem witness_CountersReadInHalves :
    (Permitted on .pcie (0x200020 : BitVec 28).toNat 0 ∧ locate (0x200020 : BitVec 28).toNat = some (.flt, 0x20) ∧
      isLow64 .flt 0x20 = true ∧ (0x200024 : BitVec 28).toNat = (0x200020 : BitVec 28).toNat + 4) ∧
    (Permitted on .smp (0x20003C : BitVec 28).toNat 0 ∧ locate (0x20003C : BitVec 28).toNat = some (.flt, 0x3C) ∧
      isHigh64 .flt 0x3C = true) := by
  unfold Permitted; decide +kernel

theorem witness_BusAnswered :
    ((0x300000 : BitVec 28).toNat % 4 = 0 ∧ (0x300000 : BitVec 28).toNat ≠ Reg.GLB_IMG_CTRL ∧
      isMailbox (0x300000 : BitVec 28).toNat = false ∧ Permitted on .pcie (0x300000 : BitVec 28).toNat 1 ∧
      locate (0x300000 : BitVec 28).toNat = some (.thm, 0)) ∧
    locate (0x400000 : BitVec 28).toNat = some (.clk, 0) ∧
    (State.reset.allowed .inband (writeClass 0x300000 0) = false ∧ State.reset.glb.state = .aon ∧
    on.glb.state ≠ .aon) ∧
    ({ State.reset with cmd := on.cmd }.allowed .pcie 1 = true ∧
    { State.reset with cmd := on.cmd }.addrOn 0x500000 = false) ∧
    ((0xFFFFFFC : BitVec 28).toNat % 4 = 0 ∧ Permitted on .pcie (0xFFFFFFC : BitVec 28).toNat 1 ∧
      locate (0xFFFFFFC : BitVec 28).toNat = none) ∧
    (0x300001 : BitVec 28).toNat % 4 ≠ 0 ∧
    ({ on with sec := { on.sec with variantH := true } }.sec.variantH = true ∧ on.sec.variantH = false ∧
      on.allowed .jtag 5 = true ∧
      { on with cmd := { on.cmd with rows := Vector.replicate 6 0 } }.allowed .jtag 5 = false) := by
  unfold Permitted; decide +kernel

/-- A write of CLK_PLAN while the image is locked that changes a field of type RWL. -/
theorem witness_BusAnswered_locked :
    ((findRow .clk (Reg.CLK_PLAN % 0x100000)).map fun r => decide ((on.rd Reg.CLK_PLAN ^^^ 0) &&& r.rwl ≠ 0)) = some true := by decide +kernel

/-- A request frame with a good CRC. -/
def frame (op len seq space addr : Nat) (pl : List Byte) : List Byte :=
  let b := [(0xAB : Byte), BitVec.ofNat 8 op] ++ toLe len 2 ++ toLe seq 2 ++ [BitVec.ofNat 8 space,
    0] ++ toLe addr 4 ++ pl
  b ++ bytesOf (crc32c b)

/-- The SMP port with a latest request. -/
def smpOf (x : SmpSt) : State := { on with cmd := { on.cmd with smp := x } }

/-- A frame has the byte count that its head implies. -/
def wholeFrame (f : List Byte) : Bool := decide (16 ≤ f.length ∧ f.length = (abvHead f).count) && (abvHead f).good f

theorem witness_SmpFramesAnswered :
    (at_ .off 0).glb.state = .off ∧ on.glb.state ≠ .off ∧ ([] : List Byte).length < 16 ∧
    (16 ≤ (List.replicate 16 (0 : Byte)).length ∧ (abvHead (List.replicate 16 0)).good (List.replicate 16 0) = false ∧
      16 = (abvHead (List.replicate 16 0)).count) ∧
    (wholeFrame (frame 4 0 7 0 0 []) = true ∧ (abvHead (frame 4 0 7 0 0 [])).op = 4) ∧
    (smpOf { ({} : SmpSt) with busy := true }).cmd.smp.busy = true ∧
    (smpOf { ({} : SmpSt) with seq := some 7 }).cmd.smp.seq = some (BitVec.ofNat 16 (abvHead (frame 1 4 7 0 0x300000 [])).seq) ∧
    (wholeFrame (frame 1 4 8 0 0x300000 []) = true ∧ on.cmd.smp.busy = false ∧ on.cmd.smp.seq ≠ some 8 ∧
      State.reset.glb.state = .aon) := by
  decide +kernel

theorem witness_SmpFramesAnswered_new :
    (wholeFrame (frame 9 0 1 0 0 []) = true ∧ (abvHead (frame 9 0 1 0 0 [])).op = 9) ∧
    ((abvHead (frame 1 2 1 0 0 [])).argsGood = false ∧ wholeFrame (frame 1 2 1 0 0 []) = true) ∧
    ((abvHead (frame 1 4 1 0 0x300000 [])).argsGood = true ∧ (abvHead (frame 1 4 1 0 0x300000 [])).len = 4 ∧
      (abvHead (frame 1 4 1 0 0x300000 [])).space = 0 ∧
      Permitted on .smp (abvHead (frame 1 4 1 0 0x300000 [])).addr 0) ∧
    (wholeFrame (frame 2 4 1 0 0x300000 [1, 2, 3, 4]) = true ∧ (abvHead (frame 2 4 1 0 0x300000 [1, 2, 3,
    4])).argsGood = true ∧
      bytesWords ((abvHead (frame 2 4 1 0 0x300000 [1, 2, 3, 4])).payload (frame 2 4 1 0 0x300000 [1, 2, 3,
      4])) = [0x04030201]) ∧
    (wholeFrame (frame 3 4 1 0 0 [0, 0, 0, 0]) = true ∧ (abvHead (frame 3 4 1 0 0 [0, 0, 0, 0])).op = 3 ∧
      fld ((bytesWords ((abvHead (frame 3 4 1 0 0 [0, 0, 0, 0])).payload (frame 3 4 1 0 0 [0, 0, 0,
      0]))).getD 0 0) 14 8 = 0) ∧
    fld ((bytesWords [0, 65, 0, 0]).getD 0 0) 14 8 = 65 ∧
    (State.reset.allowed .smp 0 = true ∧ State.reset.addrOn 0x500000 = false ∧
      { on with cmd := { on.cmd with rows := Vector.replicate 6 0 } }.allowed .smp 0 = false) := by
  unfold Permitted; decide +kernel

/-! ### Witnesses: mailbox and security -/

theorem witness_MailboxAnswers :
    (on.mbBusy = false ∧ on.cmd.smp.busy = false ∧ on.glb.state ≠ .aon ∧ on.allowed MbOwner.pcie.port 0 = true ∧
      on.allowed MbOwner.smp.port 4 = true ∧ on.allowed MbOwner.smp.port 5 = true ∧
      on.allowed MbOwner.pcie.port 3 = true) ∧
    (3 < fld (4 : Word) 3 0 ∧ fld (3 : Word) 3 0 ≤ 3 ∧
      ({ on with adc := { on.adc with map := [99] } }.repairEntries 1)[(0 : Word).toNat]? = some (99, false)) ∧
    ((99, false) ∈ { on with adc := { on.adc with map := [99] } }.repairEntries 1 ∧
    (99, false) ∉ on.repairEntries 1) ∧
    ((4607, false) ∈ { on with mtx := { on.mtx with field := [4607] } }.repairEntries 0 ∧
      (511, false) ∈ { on with chips := on.chips.set 15 { ({} : Chip) with laneFailed := 0x80000000 } }.repairEntries 2 ∧
      (15 * 268435456 + 8, false) ∈ { on with chips := on.chips.set 15 { ({} : Chip) with
        pages := [{ region := 0, channel := 0, index := 8, recorded := true }] } }.repairEntries 3) ∧
    ((64 : Word).toNat ≤ 64 ∧ 64 < (65 : Word).toNat ∧ (2 : Word).toNat % 4 ≠ 0) ∧
    (State.reset.mbBusy = false ∧ State.reset.allowed MbOwner.pcie.port 3 = false ∧
    State.reset.allowed MbOwner.pcie.port 4 = false ∧
      State.reset.allowed MbOwner.pcie.port 5 = false ∧
      { State.reset with cmd := { State.reset.cmd with rows := Vector.replicate 6 0 } }.allowed MbOwner.pcie.port 0 = false) ∧
    (put on [(Reg.CMD_MB_CTRL, 0x80000000)]).mbBusy = true ∧
    (smpOf { ({} : SmpSt) with busy := true }).cmd.smp.busy = true := by
  decide +kernel

/-- The device ON with security functions, the NVM window open. -/
def secured (x : SecSt) : State := { on with sec := x, thm := { on.thm with nvmOk := true } }

/-- The device with a valid image in slot 0 under key slot 1, and that key programmed. -/
def twoKeys : State :=
  { secured { ({} : SecSt) with slots := (Vector.replicate 4 {}).set 1 { ({} : KeySlot) with programmed := true } } with
    img := { on.img with slot0 := { ({} : ImgSlot) with valid := true, bytes := [(0x14, 9), (0x16, 1)], len := 704 },
                         inForce := some (image1 calSection false) } }

theorem witness_SecurityOperates :
    ((secured {}).allowed MbOwner.pcie.port 3 = true ∧ (secured {}).mbBusy = false ∧
      (secured { ({} : SecSt) with lifecycle := .retired }).sec.lifecycle = .retired ∧
      (secured { ({} : SecSt) with lifecycle := .retired }).allowed MbOwner.smp.port 3 = true ∧
      (secured {}).sec.lifecycle ≠ .retired) ∧
    (4 ≤ (4 : Word).toNat ∧ (secured {}).thm.nvmOk = true ∧ (secured {}).sec.fuse = none ∧
    (secured {}).sec.retirePending = none ∧
      (secured {}).sec.slots[3].programmed = false ∧ (secured {}).sec.slots[3].revoked = false) ∧
    (on.thm.nvmOk = false ∧ twoKeys.sec.slots[1].programmed = true) ∧
    (twoKeys.slotLeft 0 = true ∧ twoKeys.slotLeft 1 = false) ∧
    (twoKeys.bootedSvn = some 9 ∧ ¬ (9 : Word).toNat ≤ twoKeys.sec.minSvn.toNat ∧ 9 < (10 : Word).toNat ∧
      (secured {}).bootedSvn = none) ∧
    ((secured {}).sec.imageKey = .absent ∧
    (secured { ({} : SecSt) with imageKey := .destroyed }).sec.imageKey ≠ .absent) := by
  decide +kernel

/-- An audit record. -/
def audit0 : AuditRec :=
  { code := 1, port := 0, cls := 0, repeats := 0, seq := 0, sec := 0, ns := 0, target := 0, detail := 0 }

/-- A fuse operation of each kind under way, and a slot that stays when another is revoked. -/
theorem witness_SecurityOperates_fuses :
    (secured { ({} : SecSt) with fuse := some (.provision 1 (Vector.replicate 12 7), .pcie) }).sec.fuse =
      some (.provision 1 (Vector.replicate 12 7), .pcie) ∧
    (secured { ({} : SecSt) with fuse := some (.svn 9, .pcie) }).sec.fuse = some (.svn 9, .pcie) ∧
    (secured { ({} : SecSt) with fuse := some (.imageKey (Vector.replicate 8 1), .smp) }).sec.fuse =
      some (.imageKey (Vector.replicate 8 1), .smp) ∧
    (secured { ({} : SecSt) with fuse := some (.retire, .pcie) }).sec.fuse = some (.retire, .pcie) ∧
    ¬ (on.thm.nvmOk = true) := by
  decide +kernel

theorem witness_SecurityOperates_zeroize :
    ((secured {}).sec.zeroizing = none ∧ (secured {}).beforeTraining = false ∧ (at_ .boot 0).beforeTraining = true ∧
      (secured { ({} : SecSt) with zeroizing := some .pin }).sec.zeroizing ≠ none) ∧
    (0xC1E00D1F : Word) ≠ 0xC1E00D1E ∧
    ((secured { ({} : SecSt) with fuse := some (.revoke 3, .smp) }).sec.fuse = some (.revoke 3, .smp) ∧
      on.glb.restart ≠ .waiting ∧ on.sec.fuse = none) ∧
    ((secured {}).sec.zpinEn = true ∧ 450 ≤ 450) ∧
    ((secured { ({} : SecSt) with zeroizing := some .retire, retirePending := some .pcie }).sec.zeroizing = some .retire ∧
      on.sec.zeroizing = none) ∧
    ((secured { ({} : SecSt) with sram := [audit0] }).sec.sram ≠ [] ∧ (secured {}).thm.nvmOk = true ∧
    on.sec.sram = []) := by
  decide +kernel

/-! ### Witnesses: start-up -/

/-- The device ON with its global state changed. -/
def glbOf (f : GlbSt → GlbSt) : State := { on with glb := f on.glb }

/-- A device in step n of start-up. -/
def starting (n : Nat) : State := { loops 0 with glb := { on.glb with state := .structured, step := n } }

theorem witness_DeviceStarts :
    ((at_ .off 0).glb.state = .off ∧ (glbOf fun g => { g with vin := .outOfRange }).glb.vin = .outOfRange ∧
      on.glb.state ≠ .off ∧ on.glb.vin ≠ .outOfRange) ∧
    ((glbOf fun g => { g with state := .off, vin := .rising }).glb.state = .off ∧
      (glbOf fun g => { g with state := .off, vin := .rising }).glb.vin = .rising) ∧
    (State.reset.glb.state = .aon ∧ State.reset.glb.pwrEn = true ∧ State.reset.glb.vin = .good ∧
    State.reset.latched = false) ∧
    ((glbOf fun g => { g with state := .structured, powerOrder := [62] }).glb.powerOrder = 62 :: [] ∧
    on.glb.domRestart = none ∧
      (glbOf fun g => { g with state := .structured, powerOrder := [62] }).glb.state = .structured) ∧
    (on.glb.powerOrder.head? ≠ some 62 ∧ on.glb.domRestart ≠ some 62) ∧
    ((starting 5).glb.state = .structured ∧ (starting 5).glb.step = 5 ∧ (starting 5).active? ≠ none ∧
    (starting 5).sec.zeroHeld = none ∧
      { starting 5 with sec := { on.sec with zeroHeld := some .pin } }.sec.zeroHeld = some .pin) ∧
    ((starting 7).glb.step = 7 ∧ 31 ∈ (starting 7).risingBanks ∧ on.risingBanks = []) ∧
    (31 ∈ (glbOf fun g => { g with domRestart := some 61 }).risingBanks ∧
    27 ∉ (glbOf fun g => { g with domRestart := some 61 }).risingBanks) := by
  decide +kernel

/-- A domain of each kind at the head of the power-up order of start-up; a laser bank on outside start-up. -/
theorem witness_DeviceStarts_kinds :
    (∀ d ∈ [(0 : Fin 64), 31, 32, 47, 48, 49, 50, 53, 54, 61, 62],
      (glbOf fun g => { g with state := .structured, powerOrder := d :: [] }).glb.powerOrder = d :: []) ∧
    ((54 : Fin 64).val - 54 = 0 ∧ (32 : Fin 64).val - 32 = 0 ∧ ¬ (54 ≤ (62 : Fin 64).val ∧ (62 : Fin 64).val < 62)) ∧
    ((glbOf fun g => { g with domRestart := some 61 }).glb.state ≠ .structured ∧
      (glbOf fun g => { g with domRestart := some 61 }).risingBanks ≠ []) ∧
    ({ State.reset with sec := { State.reset.sec with lifecycle := .retired } }.sec.lifecycle = .retired ∧
      State.reset.sec.lifecycle ≠ .retired) := by
  decide +kernel

theorem witness_DeviceStarts_lock :
    ({ (loops 5).setElem .a 5119 { ({} : Elem) with mode := .acquisition } with glb := (at_ .locking 0).glb }.glb.state = .locking ∧
      ({ (loops 5).setElem .a 5119 { ({} : Elem) with mode := .acquisition } with glb := (at_ .locking 0).glb }.elem .a 5119).mode =
        .acquisition ∧ (loops 5).actCtl = .a) ∧
    (Permitted on .pcie Reg.GLB_CTRL 1 ∧ (2 : Word) &&& 0xC = 0 ∧ on.slt.start = none ∧
    (prism 600 [] false).slt.start ≠ none) := by
  unfold Permitted; decide +kernel

/-! ### Witnesses: restarts and power -/

theorem witness_RestartsRun :
    (Permitted on .pcie Reg.GLB_CTRL 1 ∧ (4 : Word) &&& 0xA = 0 ∧ (8 : Word) &&& 0x6 = 0 ∧ on.glb.state = .service ∧
      (at_ .quiesced 0).glb.state = .quiesced) ∧
    ((glbOf fun g => { g with quiescing := true }).glb.quiescing = true ∧
    (glbOf fun g => { g with quiescing := true }).glb.state = .service ∧
      (glbOf fun g => { g with quiescing := true }).drained = true ∧ (balanced 8).drained = false ∧
      on.glb.quiescing = false) ∧
    (Permitted on .pcie Reg.GLB_RESTART 2 ∧ on.latched = false ∧ on.sec.zeroizing = none ∧ on.img.commitBusy = false ∧
      on.cal.storing = none ∧ on.sec.fuse = none ∧ on.sec.retirePending = none ∧
      { on with thm := { on.thm with picLatched := true } }.latched = true ∧ storing.cal.storing ≠ none) := by
  unfold Permitted; decide +kernel

/-- Domain 61 off, in SERVICE; a zone of it; a restart of a domain under way. -/
theorem witness_RestartsRun_domains :
    (Permitted on .pcie Reg.GLB_DOMAIN_CTRL 1 ∧ fld (61 : Word) 5 0 = 61 ∧ fld (48 : Word) 5 0 = 48 ∧
    fld (47 : Word) 5 0 = 47 ∧
      (glbOf fun g => { g with pg := g.pg &&& ~~~ 0x2000000000000000 }).domOn 61 = false ∧ on.domOn 61 = true ∧
      (glbOf fun g => { g with pg := g.pg &&& ~~~ 0x2000000000000000 }).restartBusy = false ∧
      (glbOf fun g => { g with pg := g.pg &&& ~~~ 0x2000000000000000 }).tooHot 61 = false) ∧
    ((glbOf fun g => { g with pg := g.pg &&& ~~~ 0x2000000000000000, domRestart := some 61 }).restartBusy = true ∧
      (zoned .service 61 (degrees 1520)).tooHot 61 = true ∧ (zoned .service 61 (degrees 1519)).tooHot 61 = false) ∧
    ((glbOf fun g => { g with pg := g.pg &&& ~~~ 0x2000000000000000, domRestart := some 61 }).glb.domRestart = some 61 ∧
      (glbOf fun g => { g with pg := g.pg &&& ~~~ 0x2000000000000000, domRestart := some 61 }).glb.powerOrder = [] ∧
      (glbOf fun g => { g with pg := g.pg &&& ~~~ 0x2000000000000000, domRestart := some 61 }).domOn 61 = false) ∧
    ((glbOf fun g => { g with domRestart := some 47 }).glb.domRestart = some 47 ∧ 32 ≤ (47 : Fin 64).val ∧
    (47 : Fin 64).val < 48 ∧
      on.domOn 47 = true ∧ (on.chip (47 - 32)).stackUp = false) ∧
    (glbOf fun g => { g with domRestart := some 47, powerOrder := [30, 31] }).glb.powerOrder.head? = some 30 ∧
    on.glb.domRestart = none := by
  unfold Permitted; decide +kernel

theorem witness_PowerLost :
    (on.glb.vin = .good ∧ on.glb.state ≠ .off ∧ (at_ .off 0).glb.state = .off ∧
      (glbOf fun g => { g with vin := .collapsed }).glb.vin = .collapsed) ∧
    ({ on with sec := { on.sec with fuse := some (.provision 3 (Vector.replicate 12 7), .pcie) } }.sec.fuse =
        some (.provision 3 (Vector.replicate 12 7), .pcie) ∧ on.sec.fuse = none) ∧
    (on.glb.state ≠ .aon ∧ on.latched = false ∧ State.reset.glb.state = .aon ∧ on.mayPowerDown = true ∧
    storing.mayPowerDown = false) ∧
    (State.reset.domOn 0 = false ∧ on.domOn 63 = true ∧ on.domOn 0 = true ∧ on.domOn 32 = true ∧ on.domOn 47 = true ∧
      on.domOn 48 = true ∧ on.red.a.state ≠ .active ∧ on.domOn 53 = true ∧
      Sparse.wf (fun _ => {}) on.drv.chans = true ∧
      quadrantOf 5119 = 53 - 50 ∧ on.domOn 61 = true ∧ on.domOn 62 = true) ∧
    ((glbOf fun g => { g with pllLock := true }).glb.pllLock = true ∧ on.glb.pllLock = false ∧
      (glbOf fun g => { g with holdover := true }).glb.holdover = true ∧ on.glb.holdover = false) := by
  decide +kernel

/-- R616: PGOOD is low where a domain of the power-up order is off; R575: without the always-on domain it is high-Z. -/
theorem test_pgood :
    { glbOf (fun g => { g with pg := g.pg &&& ~~~ 1 }) with
      img := { on.img with inForce := some (image1 calSection false) } }.pgood = .low ∧
    { on with img := { on.img with inForce := some (image1 calSection false) } }.pgood = .released ∧ on.pgood = .low ∧
    (glbOf fun g => { g with pg := 0 }).pgood = .highZ := by
  decide +kernel

/-! ### Witnesses: the machine -/

/-- A queue with a command at its front, and one without. -/
theorem witness_StepRunsFront :
    { on with pending := [.adcDataRead .pcie 0] }.pending = .adcDataRead .pcie 0 :: [] ∧ on.pending = [] := ⟨rfl, rfl⟩

/-- A state that keeps each invariant, with a command in front that answers a next state. -/
theorem witness_Kept :
    OneActive (loops 5) ∧
    (∀ c : Fin 16, (loops 5).brt.led[c].exact = true ∧ (loops 5).brt.mirror[c].exact = true ∧
      (loops 5).brt.snap[c].exact = true) ∧
    Machine.step { loops 5 with pending := [.slewDone] } = .next (loops 5) :=
  ⟨by unfold OneActive; decide +kernel, by decide +kernel, rfl⟩

/-- R501: rows that keep what the amendment makes of them, of both variants, with a revoked key slot. -/
theorem witness_GuardsHold :
    ((∀ c : Fin 6, c ≠ 0 → (State.reset.cmd.rows[c]).getLsbD 2 = false) ∧ State.reset.sec.variantH = false ∧
      State.reset.cmd.rows[2] ≠ 0) ∧
    ((#v[0b1111, 0b0011, 0b0010, 0b0010, 0b0010, 0] : Vector (BitVec 4) 6)[2] = 0b0010) ∧
    (secured { ({} : SecSt) with slots := (Vector.replicate 4 {}).set 1 { ({} : KeySlot) with revoked := true } }).sec.slots[1].revoked =
      true := by
  decide +kernel

/-! ### Ill-formed commands: one for each check of Instr.wellFormed -/

/-- A SWAP_REQ whose word lacks REQ names no request. -/
theorem test_wf_request : (Instr.swapReq .pcie 0).wellFormed = false := by decide +kernel

/-- A sum above 4,096 codes of 14 bits (R164). -/
theorem test_wf_adc : (Instr.fullCalibrationStep [⟨0, 4096 * 16383 + 1, 0⟩]).wellFormed = false := by
  decide +kernel

/-- The same in a trial's capture. -/
theorem test_wf_trial : (Instr.trialCapture [] [] [⟨0, 0, 4096 * 16383 + 1⟩]).wellFormed = false := by
  decide +kernel

/-- A tap without its codes. -/
theorem test_wf_trial_codes : (Instr.trialCapture [0] [] []).wellFormed = false := by decide +kernel

/-- A frame without bytes. -/
theorem test_wf_frame : (Instr.frameReceived 0 ⟨[], true, false, 0, 0, 0, 0, 0⟩).wellFormed = false := by
  decide +kernel

/-- A lookup whose failing units repeat. -/
theorem test_wf_lookup : (Instr.lookup 0 [1, 1]).wellFormed = false := by decide +kernel

/-- A key hash of 11 words (R525). -/
theorem test_wf_key_hash : (Instr.keyProvision .pcie (List.replicate 11 0) 0).wellFormed = false := by decide +kernel

/-- An image key of 7 words (R529). -/
theorem test_wf_image_key : (Instr.imageKeySet .pcie (List.replicate 7 0)).wellFormed = false := by decide +kernel

/-- An Abevo frame without a header. -/
theorem test_wf_abevo : (Instr.abevoRead []).wellFormed = false ∧ (Instr.abevoWrite []).wellFormed = false ∧
    (Instr.abevoMailbox []).wellFormed = false ∧ (Instr.abevoPoll []).wellFormed = false := by decide +kernel

/-! ### The spec's worked examples -/

/-- 01_photonic_matrix.md, R22 and R23: line 300 leaves S0, enters S1 on line 150, S2 on line 75,
    and the lower input of
E(2,37) is read on tap A of E(1,75), tap 2·331. -/
theorem test_stage_links : stageLink 0 300 = 150 ∧ stageLink 1 150 = 75 ∧ upstreamTap 2 75 = 2 * (256 + 75) := by
  decide +kernel

/-- 02_element_loops.md: the record and the banks of the worked example of the service law. -/
def exampleCtx : Ctx :=
  { k := { State.reset.coeffs 3 0 with kp := 0x20000000, ki := 0x400000, kshift := 4, intLimit := 0xFFFFFF },
    bank := 0, n := 1, j := 0,
    lin := List.replicate 18 0 ++ [6954048, 7144592], lc := 0, eff := 307904, compliance := false }

/-- 02_element_loops.md: the record before the sample. -/
def exampleElem : Elem :=
  { ({} : Elem) with mode := .service, prof := { p := 307904 * 65536, v := 0, a := 0 }, intBar := 0x3A80, intCross := -6144 }

/-- 02_element_loops.md, R73 to R76: the feed-forward 7,105,143, the integrator step to 0x3FC0,
    and HEATER 7,105,835. -/
theorem test_service_law :
    ffOf exampleCtx.lin 307904 = 7105143 ∧ (exampleElem.integrate exampleCtx false 84).intBar = 0x3FC0 ∧
    ((exampleElem.integrate exampleCtx false 84).serviceOut exampleCtx 84).heater = 0x6C6D2B := by decide +kernel

/-- 03_loop_modes_and_supervision.md, R105: H_acq of a set-point of 308,104 pu. -/
theorem test_h_acq : ffOf exampleCtx.lin 308104 = 7107469 := by decide +kernel

/-- A set entry that holds LIN[18], LIN[19], CAL_OFFSET and LEVEL_BAR. -/
def entryOf (a b c d : Word) : List Word := List.replicate 18 0 ++ [a, b] ++ List.replicate 45 0 ++ [c, d, 0]

/-- A factory set with a tag and an entry for element 3·96 + 40. -/
def factorySet (tag : Int) (e : List Word) : CalSet :=
  { ({} : CalSet) with valid := true, factory := true, tag := tag, entries := [(328, e)] }

/-- 05_diopter_calibration.md: two sets, of 55.0 °C and 70.0 °C, in areas 0 and 1. -/
def exampleSets : State :=
  let a := factorySet 880 (entryOf 6930048 7119392 307604 8150)
  let b := factorySet 1120 (entryOf 6987648 7179872 308324 8246)
  { on with cal := { on.cal with sets := (on.cal.sets.set 0 a).set 1 b } }

/-- 05_diopter_calibration.md, R181: the weight 27,307 at 61.25 °C, and the 70.0 °C set alone at 72.0 °C. -/
theorem test_interpolation_weight :
    exampleSets.interp 980 = some ⟨0, 1, 27307, false⟩ ∧ exampleSets.interp 1152 = some ⟨1, 1, 0,
    true⟩ := by decide +kernel

/-- 05_diopter_calibration.md, R181: the values in use of element 3·96 + 40. -/
theorem test_interpolation_values :
    let c := (Interp.mk 0 1 27307 false).elem (exampleSets.calSet 0) (exampleSets.calSet 1) 328 {} false true
    c.lin.getD 18 0 = 6954048 ∧ c.lin.getD 19 0 = 7144592 ∧ c.offset = 307904 ∧ c.levBar = 8190 := by decide +kernel

/-- 09_classification.md, R303: the Toeplitz hash of the byte 0x81. -/
theorem test_toeplitz : toeplitz (0x3C91A7E452 * 2 ^ 312) [0x81] = 0x744255CD := by decide +kernel

/-- 10_policing_and_buffer.md, R318: PC7 with F at 222,784 segments, and profile 12 of the example. -/
def admission : State :=
  let s := on.setChip 7 { on.chip 7 with stackUp := true }
  put s [(bufReg 7 Reg.BUF_HEADROOM, BitVec.ofNat 32 ((s.chip 7).free false - 222784)),
    (mtrReg 7 (Reg.MTR_ADM_MIN + 192), 64), (mtrReg 7 (Reg.MTR_ADM_MIN + 196), 4194304),
    (mtrReg 7 (Reg.MTR_ADM_MIN + 200), 0x468)]

/-- 10_policing_and_buffer.md, R318: the limits of green, yellow and red. -/
theorem test_admission_limits :
    admission.admLimit 7 12 0 = 222848 ∧ admission.admLimit 7 12 1 = 55760 ∧ admission.admLimit 7 12 2 = 13988 := by
  decide +kernel

/-- 11_queues_and_egress.md, R358: tokens of −9,000 go to −4,000 with DEBT_CLAMP, and stay without it. -/
theorem test_debt_clamp :
    let h : Shaper := { en := true, rate := 10000000, burst := 16000, tokens := -9000 * 256 }
    (h.configure 0 3 2000000 4000).tokens = -4000 * 256 ∧ (h.configure 0 1 2000000 4000).tokens = -9000 * 256 := by
  decide +kernel

/-- 11_queues_and_egress.md, R356: a 9,000-byte frame with OVERHEAD +20 is charged 9,020 bytes. -/
theorem test_charge :
    (({ en := true, overhead := 20, tokens := 20 * 256 } : Shaper).charge 9000).tokens = -9000 * 256 := by
  decide +kernel

/-- 11_queues_and_egress.md, R363: on 100 GbE with GUARD_NS 20, 16,000 bytes exceed A's window of 1,000 ns but not
B's of 2,000 ns. -/
theorem test_window :
    (put on [(quePort 300 Reg.QUE_FG, 0x140000)]).overWindow 300 16000 (some 1000) = true ∧
    (put on [(quePort 300 Reg.QUE_FG, 0x140000)]).overWindow 300 16000 (some 2000) = false := by decide +kernel

/-- 12_time_and_synchronization.md, R371: at SLEW_PPM 10 with the selected timescale 300 ns ahead, a tick gains 53,680
units. -/
theorem test_slew_gain :
    ({ put on [(Reg.TIM_CTRL, 0xA0)] with
        tim := { on.tim with mode := .slewing, a := { sec := 0, ns := 300, frac := 0 } } } : State).slewGain = 53680 := by
  decide +kernel

/-- 18_command_ports.md, R501: the amended rows of a CLN-5120-H. -/
theorem test_amended_rows :
    amendRow true 0 0b1111 = 0b1111 ∧ amendRow true 1 0b0011 = 0b0011 ∧ amendRow true 2 0b0011 = 0b0010 ∧
    amendRow true 3 0b0010 = 0b0010 ∧ amendRow true 4 0b0001 = 0b0010 ∧
    amendRow true 5 0b1000 = 0 := by decide +kernel

/-- 23_register_index.md, R605: CTL-A, E(5,40), and stack M2. -/
theorem test_fault_codes :
    faultCode fbCtl 0 = 0x9000 ∧ elemCode (256 * 5 + 40) = 0x0528 ∧ stackCode 2 = 0x8102 := by decide +kernel

/-- 23_register_index.md, R601: BRT_RETX as PCIe reads it in halves with an increment between them,
    and as SMP reads it
after that. -/
theorem test_counter_halves :
    let s1 := ({ on with ctrs := [(0xE00080, 0x1FFFFFFFF)] } : State).readReg .pcie 0xE00080
    let s2 := s1.bump 0xE00080 1
    let s3 := (s2.readReg .smp 0xE00080).readReg .smp 0xE00084
    s1.lastRd .pcie = 0xFFFFFFFF ∧ (s2.readReg .smp 0xE00080).lastRd .smp = 0 ∧ s3.lastRd .smp = 2 ∧
    (s3.readReg .pcie 0xE00084).lastRd .pcie = 1 := by decide +kernel

/-- 08_port_lanes.md, R275: a residence time of 112,873.09375 ns on a correctionField of 2.5 ns. -/
theorem test_correction : cfAdd 0x28000 (112873 * 64 + 6) = (0x1B8EB9800, false) := by decide +kernel

/-- 04_drive_and_sense.md, R129: the first ramp-down step of the range change example, and the last. -/
theorem test_slew_move :
    slewMove 7105835 0 4096 = 7101739 ∧ slewMove 3371 0 4096 = 0 ∧ slewMove 0 1776459 1024 = 1024 := by decide +kernel

/-- 07_burst_transport.md, R217: a full burst takes 68 codewords, one of 96 segments 41. -/
theorem test_codewords : codewords 160 = 68 ∧ codewords 96 = 41 := by decide +kernel

/-- 04_drive_and_sense.md, R127: the code 7,105,835 of range 0 gives 2.1177 mA. -/
theorem test_drive_current :
    ({ ({} : Chan) with out := 7105835 } : Chan).picoamps / 100000 = 21177 := by decide +kernel

end Sys2Proof.Tests
end

/-! SUPPORT. Register writes as the ports make them: the frames and reads of the audit log and of an interrupt, what a
rejection does, the four answers of an access, and the settlement of BusAnswered. -/

namespace Sys2Proof.Machine

open Sys2Proof

variable {s t : State} {p : CmdPort} {a cls : Nat} {v : Word}

/-! ### The audit log and interrupts -/

/-- An audited event touches the security state only (R539). -/
theorem State.audit_frame {code port c : Nat} {target detail : Word} :
    Frame [.sec] [] [] s (s.audit code port c target detail) :=
  Frame.of_parts (State.audit_parts (by simp) OnlyParts.refl) (by decide) (by decide)

/-- The security state after an event that repeats the latest record (R541); none for an event that makes a new one. -/
def SecSt.auditRepeat (x : SecSt) (now : Clock) (code port c : Nat) (target : Word) : Option SecSt :=
  if x.coalesce && decide (code < 0x10) then
    match x.sram.getLast?, x.ring.getLast? with
    | some r, _ =>
      if auditSame r code port c target now then some { x with sram := x.sram.dropLast ++ [r.again] } else none
    | none, some r =>
      if auditSame r code port c target now then some { x with ring := x.ring.dropLast ++ [r.again] } else none
    | none, none => none
  else none

/-- A new audit record, after an AUDIT_LOST record where records were lost (R540). -/
def State.auditNew (s : State) (code port c : Nat) (target detail : Word) : State :=
  if s.sec.lostNew = 0 ∨ 64 ≤ s.sec.sram.length then s.auditPut code port c target detail
  else
    let s1 := s.auditPut 0x28 0 0 0 (BitVec.ofNat 32 s.sec.lostNew)
    ({ s1 with sec := { s1.sec with lostNew := 0 } }).auditPut code port c target detail

/-- An event repeats the latest record or makes a new one. -/
theorem State.audit_sec {code port c : Nat} {target detail : Word} :
    (s.audit code port c target detail).sec =
      (s.sec.auditRepeat s.tim.dt code port c target).getD (s.auditNew code port c target detail).sec := by
  unfold State.audit SecSt.auditRepeat State.auditNew
  by_cases hcoal : (s.sec.coalesce && decide (code < 0x10)) = true
  · simp only [hcoal, if_true]
    cases s.sec.sram.getLast? with
    | some r => by_cases hsame : auditSame r code port c target s.tim.dt = true <;> simp [hsame]
    | none =>
      cases s.sec.ring.getLast? with
      | some r => by_cases hsame : auditSame r code port c target s.tim.dt = true <;> simp [hsame]
      | none => rfl
  · simp only [hcoal]
    rfl

theorem State.auditPut_sec_congr {code port c : Nat} {target detail : Word}
    (hsec : t.sec = s.sec) (htim : t.tim = s.tim) :
    (t.auditPut code port c target detail).sec = (s.auditPut code port c target detail).sec := by
  unfold State.auditPut
  rw [hsec, htim]
  split <;> rfl

theorem State.auditPut_tim {code port c : Nat} {target detail : Word} :
    (s.auditPut code port c target detail).tim = s.tim :=
  State.auditPut_parts (P := [.sec]) (by simp) OnlyParts.refl .tim (by decide)

theorem State.auditNew_sec_congr {code port c : Nat} {target detail : Word}
    (hsec : t.sec = s.sec) (htim : t.tim = s.tim) :
    (t.auditNew code port c target detail).sec = (s.auditNew code port c target detail).sec := by
  unfold State.auditNew
  rw [hsec]
  split
  · exact State.auditPut_sec_congr hsec htim
  · refine State.auditPut_sec_congr ?_ ?_
    · simp only [State.auditPut_sec_congr hsec htim]
    · simp only [State.auditPut_tim, htim]

/-- What an audited event does to the security state depends on that state and on device time alone. -/
theorem State.audit_sec_congr {code port c : Nat} {target detail : Word} (hsec : t.sec = s.sec) (htim : t.tim = s.tim) :
    (t.audit code port c target detail).sec = (s.audit code port c target detail).sec := by
  rw [State.audit_sec, State.audit_sec, State.auditNew_sec_congr hsec htim, hsec, htim]

theorem State.irqIf_frame {i n : Nat} : Frame [.cmd] [Reg.CMD_IRQ_PENDING] [] s (s.irqIf a i n) :=
  Frame.irqIf Frame.refl (by simp) (by simp)

/-- An interrupt changes the MSI-X state, never what a read returned. -/
theorem State.irqIf_lastRd {i n : Nat} {q : CmdPort} : (s.irqIf a i n).lastRd q = s.lastRd q := by
  unfold State.irqIf State.irq State.msiSend
  dsimp only
  split
  · split
    · rfl
    · split <;> rfl
  · rfl

theorem State.setRd_lastRd {w : Word} : (s.setRd p w).lastRd p = w := by
  unfold State.setRd State.lastRd
  cases p <;> simp [portNum]

/-! ### Rejections (R500) -/

/-- A rejection of event ev is counted on its port, written to CMD_LAST_REJECT, audited, and touches nothing else. -/
def Rejected (s t : State) (p : CmdPort) (cls ev : Nat) (target : Word) : Prop :=
  t.ctr (0x100080 + 4 * portNum p) = s.ctr (0x100080 + 4 * portNum p) + 1 ∧
  t.rd 0x100060 = BitVec.ofNat 32 (ev + portNum p * 256 + cls * 1024) ∧ t.rd 0x100064 = target ∧
  t.sec = (s.audit ev (portNum p) cls target 0).sec ∧
  Frame [.cmd, .sec] [0x100060, 0x100064, Reg.CMD_IRQ_PENDING] [0x100080 + 4 * portNum p] s t

/-- A rejection before it is audited and raises its interrupt: counted, and written to CMD_LAST_REJECT. -/
def State.rejectNoted (s : State) (p : CmdPort) (cls ev : Nat) (target : Word) : State :=
  ((s.bump (0x100080 + 4 * portNum p) 1).wr 0x100060
    (BitVec.ofNat 32 (ev + portNum p * 256 + cls * 1024))).wr 0x100064 target

theorem State.reject_eq {ev : Nat} {target : Word} : s.reject p cls ev target =
    ((s.rejectNoted p cls ev target).audit ev (portNum p) cls target 0).irqIf Reg.CMD_CTRL 0 3 := rfl

/-- The audit record and the interrupt of a rejection leave what it noted. -/
theorem State.reject_frame_noted {ev : Nat} {target : Word} :
    Frame [.cmd, .sec] [Reg.CMD_IRQ_PENDING] [] (s.rejectNoted p cls ev target) (s.reject p cls ev target) :=
  (State.audit_frame.mono (by simp) (by simp) (by simp)).trans
    (State.irqIf_frame.mono (by simp) (by simp) (by simp))

theorem State.reject_rejected {ev : Nat} {target : Word} : Rejected s (s.reject p cls ev target) p cls ev target := by
  obtain ⟨-, hrd, hctr⟩ := State.reject_frame_noted (s := s) (p := p) (cls := cls) (ev := ev) (target := target)
  refine ⟨?_, ?_, ?_, ?_, ?_⟩
  · rw [hctr _ (by simp)]
    exact State.bump_ctr_same
  · rw [hrd _ (by decide)]
    exact (State.wr_rd_other (by decide)).trans State.wr_rd_same
  · rw [hrd _ (by decide)]
    exact State.wr_rd_same
  · calc (s.reject p cls ev target).sec
        = ((s.rejectNoted p cls ev target).audit ev (portNum p) cls target 0).sec :=
          State.irqIf_frame.1 .sec (by decide)
      _ = (s.audit ev (portNum p) cls target 0).sec := State.audit_sec_congr rfl rfl
  · have noted : Frame [.cmd, .sec] [0x100060, 0x100064, Reg.CMD_IRQ_PENDING] [0x100080 + 4 * portNum p] s
        (s.rejectNoted p cls ev target) :=
      ((Frame.refl.bump (by simp)).wr (by simp)).wr (by simp)
    exact noted.trans (State.reject_frame_noted.mono (by simp) (by simp) (by simp))

theorem State.reject_lastRd {ev : Nat} {target : Word} {q : CmdPort} :
    (s.reject p cls ev target).lastRd q = s.lastRd q := by
  have hcmd : ((s.rejectNoted p cls ev target).audit ev (portNum p) cls target 0).cmd = s.cmd :=
    State.audit_frame.1 .cmd (by decide)
  rw [State.reject_eq, State.irqIf_lastRd]
  unfold State.lastRd
  rw [hcmd]

/-! ### The answers of an access (R500, R518, R547) -/

theorem State.access_aon {act : State → State} (h : p = .smp ∧ s.glb.state = .aon) : s.access p a cls act = s := by
  simp [State.access, State.judge, h]

theorem State.access_denied {act : State → State} (h : ¬(p = .smp ∧ s.glb.state = .aon))
    (hal : s.allowed p cls = false) : s.access p a cls act = s.reject p cls 1 (BitVec.ofNat 32 a) := by
  simp [State.access, State.judge, h, hal]

theorem State.access_off {act : State → State} (h : ¬(p = .smp ∧ s.glb.state = .aon))
    (hal : s.allowed p cls = true) (hon : s.addrOn a = false) : s.access p a cls act = s.bump 0x100094 1 := by
  simp [State.access, State.judge, h, hal, hon]

/-! ### Plain writes (R13, R15, R476) -/

theorem State.plainWrite_no_row {b : Blk} {o : Nat} (hl : locate a = some (b, o)) (hr : findRow b o = none) :
    s.plainWrite p a v = s := by
  simp [State.plainWrite, hl, hr]

theorem State.plainWrite_kept {b : Blk} {o : Nat} {r : RegRow} (hl : locate a = some (b, o)) (hr : findRow b o = some r)
    (hd : r.discards s.img.locked (s.rd a) v = false) :
    s.plainWrite p a v = s.wr a (r.next s.img.locked (s.rd a) v) := by
  simp [State.plainWrite, hl, hr, hd]

/-- A write that would change a locked field takes the open fields, and is counted and audited (R476). -/
theorem State.plainWrite_discarded {b : Blk} {o : Nat} {r : RegRow} (hl : locate a = some (b, o))
    (hr : findRow b o = some r) (hd : r.discards s.img.locked (s.rd a) v = true) :
    (s.plainWrite p a v).rd a = r.next s.img.locked (s.rd a) v ∧
    (s.plainWrite p a v).ctr 0x134 = s.ctr 0x134 + 1 ∧
    (s.plainWrite p a v).sec = (s.audit 0x02 (portNum p) 1 (BitVec.ofNat 32 a) 0).sec ∧
    Frame [.sec] [a] [0x134] s (s.plainWrite p a v) := by
  have heq : s.plainWrite p a v = ((s.wr a (r.next s.img.locked (s.rd a) v)).bump 0x134 1).audit 0x02 (portNum p) 1
      (BitVec.ofNat 32 a) 0 := by
    simp [State.plainWrite, hl, hr, hd]
  have noted : Frame [.sec] [a] [0x134] s ((s.wr a (r.next s.img.locked (s.rd a) v)).bump 0x134 1) :=
    (Frame.refl.wr (by simp)).bump (by simp)
  rw [heq]
  exact ⟨(State.audit_frame.2.1 _ (by simp)).trans State.wr_rd_same,
    (State.audit_frame.2.2 _ (by simp)).trans State.bump_ctr_same, State.audit_sec_congr rfl rfl,
    noted.trans (State.audit_frame.mono (by simp) (by simp) (by simp))⟩

/-- A change of a locked field is discarded exactly where the image is locked and the word differs there (R476). -/
theorem RegRow.discards_iff {r : RegRow} {locked : Bool} {old : Word} :
    r.discards locked old v = true ↔ locked = true ∧ (old ^^^ v) &&& r.rwl ≠ 0 := by
  simp [RegRow.discards]

/-! ### Writes of BAR0 -/

/-- An aligned offset outside the mailbox and GLB_IMG_CTRL: a write to it is judged, then does what its
register does. -/
abbrev PlainAddr (a : Nat) : Prop := a % 4 = 0 ∧ a ≠ Reg.GLB_IMG_CTRL ∧ isMailbox a = false


theorem State.busWrite_plain (h : PlainAddr a) :
    s.busWrite p a v = s.access p a (writeClass a v) fun s => s.regAct p a v := by
  obtain ⟨hal, himg, hmb⟩ := h
  simp [State.busWrite, hal, himg, hmb]

theorem State.busWrite_misaligned (h : a % 4 ≠ 0) :
    s.busWrite p a v = if p = .pcie then s.bump 0x100090 1 else s := by
  simp [State.busWrite, h]

/-- A register of THM or CLK has no action: a write goes by the access types of its fields. -/
theorem State.regAct_thm_clk {b : Blk} {o : Nat} (hl : locate a = some (b, o)) (hb : b = .thm ∨ b = .clk) :
    s.regAct p a v = s.plainWrite p a v := by
  obtain rfl | rfl := hb <;> simp [State.regAct, State.actGlobal, hl]

theorem State.regAct_outside (hl : locate a = none) : s.regAct p a v = s := by
  simp [State.regAct, hl]

theorem writeClass_thm_clk {b : Blk} {o : Nat} (hl : locate a = some (b, o)) (hb : b = .thm ∨ b = .clk) :
    writeClass a v = 1 := by
  have hne : a ≠ Reg.GLB_RESTART := by
    rintro rfl
    have hglb : locate Reg.GLB_RESTART = some (.glb, 0xC) := rfl
    obtain rfl | rfl := hb <;> simp [hglb] at hl
  obtain rfl | rfl := hb <;> simp [writeClass, hne, hl]

/-! ### What REGISTER_WRITE does -/

theorem exec_registerWrite {a : BitVec 28} : exec (.registerWrite p a v) s = .next (s.busWrite p a.toNat v) := rfl

/-- A write to a plain offset of BAR0 given as a number, by its class and by what its register does. -/
theorem exec_registerWrite_action {act : State → State} (ha : a < 2 ^ 28 ∧ PlainAddr a) (hcls : writeClass a v = cls)
    (hact : ∀ u : State, u.regAct p a v = act u) :
    exec (.registerWrite p (BitVec.ofNat 28 a) v) s = .next (s.access p a cls act) := by
  obtain ⟨hlt, hplain⟩ := ha
  rw [exec_registerWrite, BitVec.toNat_ofNat, Nat.mod_eq_of_lt hlt, State.busWrite_plain hplain, hcls, funext hact]

/-- A permitted write to a plain offset does what its register does. -/
theorem exec_registerWrite_permitted {a : BitVec 28} (hp : PlainAddr a.toNat)
    (h : Permitted s p a.toNat (writeClass a.toNat v)) :
    exec (.registerWrite p a v) s = .next (s.regAct p a.toNat v) := by
  rw [exec_registerWrite, State.busWrite_plain hp, State.access_permitted h]

/-- A permitted write in THM or CLK goes by the access types of its register's fields. -/
theorem exec_registerWrite_thm_clk {a : BitVec 28} {b : Blk} {o : Nat} (hp : PlainAddr a.toNat)
    (h : Permitted s p a.toNat 1) (hl : locate a.toNat = some (b, o)) (hb : b = .thm ∨ b = .clk) :
    exec (.registerWrite p a v) s = .next (s.plainWrite p a.toNat v) := by
  rw [exec_registerWrite_permitted hp (by rwa [writeClass_thm_clk hl hb]), State.regAct_thm_clk hl hb]

/-- An aligned offset in no block is a plain one, written under class 1. -/
theorem plainAddr_of_outside (hal : a % 4 = 0) (hl : locate a = none) : PlainAddr a := by
  refine ⟨hal, ?_, ?_⟩
  · rintro rfl
    exact absurd hl (by decide)
  · simp only [isMailbox, Bool.or_eq_false_iff, decide_eq_false_iff_not]
    refine ⟨?_, fun ⟨hlo, hhi⟩ => ?_⟩
    · rintro rfl
      exact absurd hl (by decide)
    · have hblk : a / 0x100000 = 1 := by simp only [Reg.CMD_MB_DATA] at hlo hhi; omega
      have hlt : a < 0x1000000 := by simp only [Reg.CMD_MB_DATA] at hhi; omega
      simp [locate, hlt, hblk] at hl

theorem writeClass_outside (hl : locate a = none) : writeClass a v = 1 := by
  have hne : a ≠ Reg.GLB_RESTART := by
    rintro rfl
    exact absurd hl (by decide)
  simp [writeClass, hne, hl]

/-! ### PCIE_RESET (R508) -/

theorem foldl_wr_resetWord_rd (f : Nat → Nat) (l : List Nat) {s : State} :
    (l.foldl (fun s i => s.wr (f i) (resetWord (f i))) s).rd a = if a ∈ l.map f then resetWord a else s.rd a := by
  induction l generalizing s with
  | nil => rfl
  | cons i l ih =>
    rw [List.foldl_cons, ih, State.wr_rd, List.map_cons]
    by_cases hl : a ∈ l.map f
    · simp [hl]
    · by_cases hi : a = f i <;> simp [hl, hi]

/-- The reset value of a word of the MSI-X table: the vector control word masks its vector. -/
theorem resetWord_msix {i : Nat} (hi : i < 128) :
    resetWord (Reg.CMD_MSIX + 4 * i) = if i % 4 = 3 then 1 else 0 := by
  have hloc : locate (0x108000 + 4 * i) = some (.cmd, 0x8000 + 4 * i) := by
    have hblk : (0x108000 + 4 * i) / 0x100000 = 1 := by omega
    have hoff : (0x108000 + 4 * i) % 0x100000 = 0x8000 + 4 * i := by omega
    have hlt : 0x108000 + 4 * i < 0x1000000 := by omega
    simp [locate, hlt, hblk, hoff]
  have hin : 0x8000 ≤ 0x8000 + 4 * i ∧ 0x8000 + 4 * i < 0x8200 := by omega
  have hvec : (0x8000 + 4 * i) % 16 = 12 ↔ i % 4 = 3 := by omega
  simp only [resetWord, Reg.CMD_MSIX, hloc, hin, hvec, and_self, if_true]

theorem State.setCmd_rd {x : CmdSt} : ({ s with cmd := x } : State).rd a = s.rd a := rfl

theorem State.pcieReset_rd : s.pcieReset.rd a =
    if a ∈ (List.range 128).map (fun i => Reg.CMD_MSIX + 4 * i) then resetWord a else s.rd a := by
  unfold State.pcieReset
  exact State.setCmd_rd.trans (foldl_wr_resetWord_rd (fun i => Reg.CMD_MSIX + 4 * i) _)

theorem State.pcieReset_rd_msix {i : Nat} (hi : i < 128) :
    s.pcieReset.rd (Reg.CMD_MSIX + 4 * i) = if i % 4 = 3 then 1 else 0 := by
  rw [State.pcieReset_rd, if_pos (List.mem_map.2 ⟨i, List.mem_range.2 hi, rfl⟩), resetWord_msix hi]

theorem State.pcieReset_rd_other (h : a < Reg.CMD_MSIX ∨ Reg.CMD_MSIX + 512 ≤ a ∨ a % 4 ≠ 0) :
    s.pcieReset.rd a = s.rd a := by
  rw [State.pcieReset_rd, if_neg]
  intro hmem
  obtain ⟨i, hi, rfl⟩ := List.mem_map.1 hmem
  have := List.mem_range.1 hi
  simp only [Reg.CMD_MSIX] at h
  omega

theorem State.pcieReset_cmd : s.pcieReset.cmd = { s.cmd with msiPend := 0 } := by
  have hcmd : ∀ l : List Nat,
      (l.foldl (fun s i => s.wr (Reg.CMD_MSIX + 4 * i) (resetWord (Reg.CMD_MSIX + 4 * i))) s).cmd = s.cmd := fun l =>
    OnlyParts.foldl (P := [.regs]) (fun _ _ h => State.wr_parts (by simp) h) OnlyParts.refl .cmd (by decide)
  unfold State.pcieReset
  dsimp only
  rw [hcmd]

/-! ### JTAG debug accesses (R514) -/

/-- The word that the audit record of a debug access names. -/
def jtagTarget : JtagAccess → Word
  | .read a => a.setWidth 32
  | .memory a => a

/-- On CLN-5120-H a debug access is rejected as event 5. -/
theorem exec_jtagDebugAccess_hardened {x : JtagAccess} (h : s.sec.variantH = true) :
    exec (.jtagDebugAccess x) s = .next (s.reject .jtag 5 5 (jtagTarget x)) := by
  show Host.Outcome.next (s.jtagAccess x) = _
  cases x <;> simp [State.jtagAccess, h, jtagTarget]

theorem exec_jtagDebugAccess_read {a : BitVec 28} (h : s.sec.variantH = false) :
    exec (.jtagDebugAccess (.read a)) s = exec (.counterLowRead .jtag a) s := by
  show Host.Outcome.next (s.jtagAccess (.read a)) = .next (s.readReg .jtag a.toNat)
  simp [State.jtagAccess, h]

theorem exec_jtagDebugAccess_memory {a : Word} (h : s.sec.variantH = false) (hal : s.allowed .jtag 5 = true) :
    exec (.jtagDebugAccess (.memory a)) s =
      .next (({ s with freeCtr := s.freeCtr + 1 }).setRd .jtag (Config.debugWord s.freeCtr a)) := by
  show Host.Outcome.next (s.jtagAccess (.memory a)) = _
  simp [State.jtagAccess, h, hal]

theorem exec_jtagDebugAccess_memory_denied {a : Word} (h : s.sec.variantH = false) (hal : s.allowed .jtag 5 = false) :
    exec (.jtagDebugAccess (.memory a)) s = .next ((s.reject .jtag 5 1 a).setRd .jtag 0) := by
  show Host.Outcome.next (s.jtagAccess (.memory a)) = _
  simp [State.jtagAccess, h, hal]

/-- A rejected read returns 0; what the rejection did stands (R500). -/
theorem Rejected.setRd {ev : Nat} {target w : Word} {q : CmdPort} (h : Rejected s t p cls ev target) :
    Rejected s (t.setRd q w) p cls ev target := by
  obtain ⟨hctr, hrej, htgt, hsec, hframe⟩ := h
  exact ⟨hctr, hrej, htgt, hsec, hframe.step (State.setRd_parts (by simp) OnlyParts.refl)⟩

/-! ### BusAnswered -/

/-- Settles O54: each kind of access goes through the equation of its command, and what a rejection, a counter, a plain write
or the MSI-X reset leaves alone is the frame of that operation. Model choices it rests on: a write of a request bit is the
command (assumption 20), a debug access on CLN-5120-H counts as a rejection (29), a misaligned write of another port than
PCIe has no effect (31), and the MSI-X vectors are masked at reset (51). -/
theorem busAnswered : Obligations.BusAnswered := by
  unfold Obligations.BusAnswered
  intro plainAddr rejected
  refine ⟨?judged, ?thmClk, ?noRow, ?outside, ?misalignedPcie, ?misaligned, ?request, ?malformed, ?pcieReset,
    ?boundaryScan, ?jtagHardened, ?jtagRead, ?jtagMemory⟩
  case judged =>
    intro s p a v hp c cls
    have hexec : exec c s = .next (s.access p a.toNat cls fun s => s.regAct p a.toNat v) := by
      rw [exec_registerWrite, State.busWrite_plain hp]
    refine ⟨fun h => ⟨_, exec_registerWrite_permitted hp h, rfl⟩, fun hsmp haon => ?_, fun hon hal => ?_,
      fun hon hal hoff => ?_⟩
    · exact hexec.trans (by rw [State.access_aon ⟨hsmp, haon⟩])
    · exact ⟨_, hexec.trans (by rw [State.access_denied hon hal]), State.reject_rejected⟩
    · exact ⟨_, hexec.trans (by rw [State.access_off hon hal hoff]), State.bump_ctr_same, Frame.refl.bump (by simp)⟩
  case thmClk =>
    intro s p a v b o r hp h hl hb hr shut open_ takes
    have hexec := exec_registerWrite_thm_clk (v := v) hp h hl hb
    refine ⟨fun hopen => ?_, fun hshut => ⟨_, hexec, State.plainWrite_discarded hl hr (RegRow.discards_iff.2 hshut)⟩⟩
    rw [State.plainWrite_kept hl hr (Bool.eq_false_iff.2 fun hd => hopen (RegRow.discards_iff.1 hd))] at hexec
    exact ⟨_, hexec, State.wr_rd_same, Frame.refl.wr (by simp)⟩
  case noRow =>
    intro s p a v b o hp h hl hb hr
    exact (exec_registerWrite_thm_clk hp h hl hb).trans (by rw [State.plainWrite_no_row hl hr])
  case outside =>
    intro s p a v hal h hl
    exact (exec_registerWrite_permitted (plainAddr_of_outside hal hl) (by rwa [writeClass_outside hl])).trans
      (by rw [State.regAct_outside hl])
  case misalignedPcie =>
    intro s a v hal
    refine ⟨s.bump 0x100090 1, ?_, State.bump_ctr_same, Frame.refl.bump (by simp)⟩
    rw [exec_registerWrite, State.busWrite_misaligned hal, if_pos rfl]
  case misaligned =>
    intro s p a v hal hp
    show exec _ s = _
    rw [exec_registerWrite, State.busWrite_misaligned hal, if_neg hp]
  case request =>
    intro s p v same
    refine ⟨?_, ?_, ?_, ?_, ?_, rfl, rfl, ?_, ?_, ?_, ?_, ?_, ?_, ?_, ?_, ?_, ?_⟩ <;>
      exact exec_registerWrite_action (by decide) rfl fun _ => rfl
  case malformed => exact fun s w => ⟨s.bump 0x100090 1, rfl, State.bump_ctr_same, Frame.refl.bump (by simp)⟩
  case pcieReset =>
    exact fun s => ⟨s.pcieReset, rfl, fun _ => State.pcieReset_rd_msix, State.pcieReset_cmd,
      fun _ => State.pcieReset_rd_other, State.pcieReset_parts (by simp) OnlyParts.refl⟩
  case boundaryScan =>
    exact fun s => ⟨rfl, s.raiseSys 2, rfl, rfl, Frame.refl.raise (by simp) (by decide)⟩
  case jtagHardened =>
    intro s x h
    refine ⟨_, exec_jtagDebugAccess_hardened h, ?_, State.reject_lastRd⟩
    cases x <;> exact State.reject_rejected
  case jtagRead => exact fun s a h => exec_jtagDebugAccess_read h
  case jtagMemory =>
    intro s a h
    refine ⟨fun hal => ⟨_, exec_jtagDebugAccess_memory h hal, rfl, State.setRd_lastRd, ?_⟩, fun hal =>
      ⟨_, exec_jtagDebugAccess_memory_denied h hal, State.reject_rejected.setRd, State.setRd_lastRd⟩⟩
    exact Frame.of_parts (State.setRd_parts (by simp) (OnlyParts.set_freeCtr (by simp) OnlyParts.refl)) (by decide)
      (by decide)

end Sys2Proof.Machine

/-! SUPPORT. The matrix outside a slot: bits of a word and of the state selects, what a park that is recorded and one that
takes effect change, the permutation in force, and the settlement of FieldParks. -/

namespace Sys2Proof.Machine

open Sys2Proof

variable {s t u : State} {p : CmdPort} {v w : Word} {a e n i : Nat}

/-! ### Bits of a word -/

theorem getLsbD_ofNat_two_pow {m j : Nat} :
    (BitVec.ofNat m (2 ^ i)).getLsbD j = (decide (j < m) && decide (i = j)) := by
  rw [BitVec.getLsbD_ofNat, Nat.testBit_two_pow]

theorem setBit_eq {b : Bool} :
    setBit w i b = (w &&& ~~~BitVec.ofNat 32 (2 ^ i)) ||| if b then BitVec.ofNat 32 (2 ^ i) else 0 := by
  cases b <;> simp [setBit, setFld, b2n]

theorem getLsbD_setBit_same {b : Bool} (hi : i < 32) : (setBit w i b).getLsbD i = b := by
  rw [setBit_eq, BitVec.getLsbD_or, BitVec.getLsbD_and, BitVec.getLsbD_not, getLsbD_ofNat_two_pow]
  cases b
  · simp [hi]
  · simp only [if_true, getLsbD_ofNat_two_pow, hi, decide_true, Bool.and_self, Bool.or_true]

theorem getLsbD_setBit_other {j : Nat} {b : Bool} (h : j ≠ i) : (setBit w i b).getLsbD j = w.getLsbD j := by
  have hij : decide (i = j) = false := decide_eq_false h.symm
  have hbit : (if b then BitVec.ofNat 32 (2 ^ i) else 0).getLsbD j = false := by
    cases b
    · simp
    · simp only [if_true, getLsbD_ofNat_two_pow, hij, Bool.and_false]
  rw [setBit_eq, BitVec.getLsbD_or, hbit, BitVec.getLsbD_and, BitVec.getLsbD_not, getLsbD_ofNat_two_pow, hij]
  by_cases hj : j < 32
  · simp [hj]
  · simp [hj, BitVec.getLsbD_of_ge w j (by omega)]

theorem bit_withBit (hi : i < 32) : bit (withBit v i) i = true := getLsbD_setBit_same hi

/-- A field is decided by the bits it spans. -/
theorem fld_congr {hi lo : Nat} (hle : lo ≤ hi) (h : ∀ i, lo ≤ i → i ≤ hi → w.getLsbD i = v.getLsbD i) :
    fld w hi lo = fld v hi lo := by
  refine Nat.eq_of_testBit_eq fun j => ?_
  simp only [fld, Nat.testBit_mod_two_pow, Nat.testBit_div_two_pow, BitVec.testBit_toNat]
  by_cases hj : j < hi - lo + 1
  · rw [h (j + lo) (by omega) (by omega)]
  · simp [hj]

/-- A request bit above a field leaves the field alone. -/
theorem fld_withBit {hi lo : Nat} (hle : lo ≤ hi) (h : i < lo ∨ hi < i) : fld (withBit v i) hi lo = fld v hi lo :=
  fld_congr hle fun _ hlo hhi => getLsbD_setBit_other (by omega)

theorem State.wrBit_rdBit_same {b : Bool} (hi : i < 32) : (s.wrBit a i b).rdBit a i = b := by
  unfold State.rdBit State.wrBit bit
  rw [State.wr_rd_same, getLsbD_setBit_same hi]

/-! ### State selects and element records -/

theorem State.setSel_sel_same {c : Bool} (he : e < 5120) : (s.setSel e c).drv.sel.getLsbD e = c := by
  cases c <;> simp only [State.setSel, if_true, Bool.false_eq_true, if_false, BitVec.getLsbD_or, BitVec.getLsbD_and,
    BitVec.getLsbD_not, getLsbD_ofNat_two_pow, he] <;> simp

theorem State.setSel_sel_other {j : Nat} {c : Bool} (h : j ≠ e) :
    (s.setSel e c).drv.sel.getLsbD j = s.drv.sel.getLsbD j := by
  have hej : decide (e = j) = false := decide_eq_false h.symm
  cases c <;> simp only [State.setSel, if_true, Bool.false_eq_true, if_false, BitVec.getLsbD_or, BitVec.getLsbD_and,
    BitVec.getLsbD_not, getLsbD_ofNat_two_pow, hej, Bool.and_false, Bool.or_false, Bool.not_false, Bool.and_true]
  by_cases hj : j < 5120
  · simp [hj]
  · simp [hj, BitVec.getLsbD_of_ge s.drv.sel j (by omega)]

theorem State.setElem_elem {c : Ctl} {f : Nat} {x : Elem} :
    (s.setElem c e x).elem c f = if f = e then x else s.elem c f := by
  unfold State.elem State.setElem
  dsimp only
  rw [State.setLoops_loops_same]
  exact Sparse.get_set _ _ _ _ _

theorem State.setElem_elem_otherCtl {c d : Ctl} {f : Nat} {x : Elem} (h : d ≠ c) :
    (s.setElem c e x).elem d f = s.elem d f := by
  unfold State.elem State.setElem
  dsimp only
  rw [State.setLoops_loops_other h]

/-- What a change of one element in both controllers gives. -/
theorem State.modElem_elem {c : Ctl} {f : Nat} {g : Elem → Elem} :
    (s.modElem e g).elem c f = if f = e then g (s.elem c f) else s.elem c f := by
  unfold State.modElem
  cases c with
  | a =>
    rw [State.setElem_elem_otherCtl (by decide), State.setElem_elem]
    split
    · rename_i h
      rw [h]
    · rfl
  | b =>
    rw [State.setElem_elem, State.setElem_elem_otherCtl (by decide), State.setElem_elem_otherCtl (by decide)]
    split
    · rename_i h
      rw [h]
    · rfl

/-! ### Parks (R32, R35) -/

theorem parkBits_singleton_getLsbD (h : e < 4608) : (parkBits [e]).getLsbD e = true := by
  show (0 ||| BitVec.ofNat 4608 (2 ^ e)).getLsbD e = true
  rw [BitVec.getLsbD_or, getLsbD_ofNat_two_pow]
  simp [h]

/-- The matrix with a field park recorded, to act from a slot. -/
def MtxSt.withPark (m : MtxSt) (e at_ : Nat) : MtxSt :=
  { m with
    field := if m.field.contains e then m.field else m.field ++ [e]
    overlayClear := m.overlayClear.filter fun x => decide (x ≠ e)
    pending := m.pending ++ [(e, at_)] }

theorem MtxSt.withPark_field_mem {m : MtxSt} {at_ : Nat} : e ∈ (m.withPark e at_).field := by
  unfold MtxSt.withPark
  by_cases h : e ∈ m.field <;> simp [h]

theorem MtxSt.withPark_field_subset {m : MtxSt} {at_ : Nat} : m.field ⊆ (m.withPark e at_).field := by
  intro x hx
  unfold MtxSt.withPark
  by_cases h : e ∈ m.field <;> simp [h, hx]

/-- An element that is neither parked nor recorded is recorded, with the interrupt of MTX_CTRL. -/
theorem State.recordPark_new (he : e < 4608) (hpark : s.isParked e = false) (hrec : ∀ q ∈ s.mtx.pending, q.1 ≠ e) :
    s.recordPark e = ({ s with mtx := s.mtx.withPark e (if s.slt.running then s.slt.slot + 3 else 0) } : State).irqIf
      Reg.MTX_CTRL 0 12 := by
  have hany : s.mtx.pending.any (fun q => decide (q.1 = e)) = false := by simpa using hrec
  unfold State.recordPark
  rw [hany, hpark, isMatrix, decide_eq_true he]
  rfl

/-- Another number, a parked element and a recorded one are left alone. -/
theorem State.recordPark_known (h : 4608 ≤ e ∨ s.isParked e = true ∨ ∃ q ∈ s.mtx.pending, q.1 = e) :
    s.recordPark e = s := by
  unfold State.recordPark
  rw [if_pos]
  simpa [isMatrix, or_assoc] using h

theorem exec_parkRequest (h : Permitted s p Reg.MTX_PARK_REQ 4) :
    exec (.parkRequest p v) s = .next (s.recordPark (fld v 12 0)) := by
  show Host.Outcome.next (s.access p Reg.MTX_PARK_REQ 4 fun s => s.writeParkReq (withBit v 31)) = _
  rw [State.access_permitted h, State.writeParkReq, bit_withBit (by omega), if_pos rfl, fld_withBit (by omega) (by omega)]

/-- The matrix with an element in the merged parked set and its record gone. -/
def MtxSt.joined (m : MtxSt) (e : Nat) : MtxSt :=
  { m with parked := m.parked ||| parkBits [e], pending := m.pending.filter fun p => decide (p.1 ≠ e) }

theorem MtxSt.joined_pending_ne {m : MtxSt} {q : Nat × Nat} (h : q ∈ (m.joined e).pending) : q.1 ≠ e := by
  simpa using (List.mem_filter.1 h).2

theorem MtxSt.joined_parked {m : MtxSt} (h : e < 4608) : (m.joined e).parked.getLsbD e = true := by
  show (m.parked ||| parkBits [e]).getLsbD e = true
  rw [BitVec.getLsbD_or, parkBits_singleton_getLsbD h, Bool.or_true]

/-- A park's element in the merged parked set, its select BAR unless the permutation is held (R142). -/
def State.parkJoined (s : State) (e : Nat) : State :=
  let joined : State := { s with mtx := s.mtx.joined e }
  if s.selectsHeld then joined else joined.setSel e false

/-- The level codes applied stay, for both controllers. -/
def Chan.levelsKept (c : Chan) : Chan :=
  { c with tgtBar := c.levBar, tgtCross := c.levCross, sbBar := c.levBar, sbCross := c.levCross }

/-- HOLD is due from the next sample (R93). -/
def Elem.holdDue (x : Elem) : Elem := { x with modeDue := some .hold }

theorem State.effectPark_eq : s.effectPark e =
    (((s.parkJoined e).setChan e (s.chan e).levelsKept).modElem e Elem.holdDue).moveTargets := rfl

theorem State.parkJoined_mtx : (s.parkJoined e).mtx = s.mtx.joined e := by
  unfold State.parkJoined
  cases s.selectsHeld <;> rfl

theorem State.parkJoined_sel :
    (s.parkJoined e).drv.sel = if s.selectsHeld then s.drv.sel else (s.setSel e false).drv.sel := by
  unfold State.parkJoined
  cases s.selectsHeld <;> rfl

theorem State.parkJoined_chan {f : Nat} : (s.parkJoined e).chan f = s.chan f := by
  unfold State.parkJoined
  cases s.selectsHeld <;> rfl

theorem State.parkJoined_parts : OnlyParts [.drv, .mtx] s (s.parkJoined e) := by
  have joined : ∀ m, OnlyParts [.drv, .mtx] s { s with mtx := m } := fun _ => OnlyParts.set_mtx (by simp) OnlyParts.refl
  unfold State.parkJoined
  dsimp only
  split
  · exact joined _
  · exact State.setSel_parts (by simp) (joined _)

theorem State.elem_congr {c : Ctl} {f : Nat} (ha : t.loopA = s.loopA) (hb : t.loopB = s.loopB) :
    t.elem c f = s.elem c f := by
  cases c
  · show Sparse.get _ t.loopA.elems f = _
    rw [ha]
    rfl
  · show Sparse.get _ t.loopB.elems f = _
    rw [hb]
    rfl

theorem State.moveTargets_elem {c : Ctl} {f : Nat} : s.moveTargets.elem c f = s.elem c f := State.elem_congr rfl rfl

theorem State.chan_congr {f : Nat} (h : t.drv = s.drv) : t.chan f = s.chan f := by
  unfold State.chan
  rw [h]

/-- HOLD and the targets that move leave the drive and the matrix as the park left them. -/
theorem State.effectPark_parts_joined : OnlyParts [.freeCtr, .loopA, .loopB, .loopS]
    ((s.parkJoined e).setChan e (s.chan e).levelsKept) (s.effectPark e) :=
  State.moveTargets_parts (by simp) (State.modElem_parts (by simp) OnlyParts.refl)

theorem State.effectPark_mtx : (s.effectPark e).mtx = s.mtx.joined e := by
  rw [State.effectPark_parts_joined .mtx (by decide), State.setChan_mtx, State.parkJoined_mtx]

theorem State.effectPark_sel :
    (s.effectPark e).drv.sel = if s.selectsHeld then s.drv.sel else (s.setSel e false).drv.sel := by
  rw [State.effectPark_parts_joined .drv (by decide)]
  exact State.parkJoined_sel

theorem State.effectPark_chan_same : (s.effectPark e).chan e = (s.chan e).levelsKept := by
  rw [State.chan_congr (State.effectPark_parts_joined .drv (by decide)), State.setChan_chan_same]

theorem State.effectPark_chan_other {f : Nat} (h : f ≠ e) : (s.effectPark e).chan f = s.chan f := by
  rw [State.chan_congr (State.effectPark_parts_joined .drv (by decide)), State.setChan_chan_other h, State.parkJoined_chan]

theorem State.effectPark_elem {c : Ctl} {f : Nat} :
    (s.effectPark e).elem c f = if f = e then (s.elem c f).holdDue else s.elem c f := by
  have hjoined : OnlyParts [.drv, .mtx] s ((s.parkJoined e).setChan e (s.chan e).levelsKept) :=
    State.setChan_parts (by simp) State.parkJoined_parts
  rw [State.effectPark_eq, State.moveTargets_elem, State.modElem_elem,
    State.elem_congr (hjoined .loopA (by decide)) (hjoined .loopB (by decide))]

theorem State.effectPark_loopS : (s.effectPark e).loopS = { s.loopS with
    targetPend := s.loopS.targetPend ++ (Config.retarget s.freeCtr).filter fun x => decide (x.1 < 5120) } := by
  have hheld : OnlyParts [.drv, .mtx, .loopA, .loopB] s
      (((s.parkJoined e).setChan e (s.chan e).levelsKept).modElem e Elem.holdDue) :=
    State.modElem_parts (by simp) (State.setChan_parts (by simp) (State.parkJoined_parts.mono (by simp)))
  rw [State.effectPark_eq, State.moveTargets, hheld .loopS (by decide), hheld .freeCtr (by decide)]

theorem State.effectPark_isParked (h : e < 4608) : (s.effectPark e).isParked e = true := by
  unfold State.isParked
  rw [State.effectPark_mtx, MtxSt.joined_parked h, isMatrix, decide_eq_true h, Bool.and_self]

/-- A recorded park that is due takes effect. -/
theorem State.parkEffect_due (hmem : (e, n) ∈ s.mtx.pending) (hdue : s.slt.running = false ∨ n ≤ s.slt.slot) :
    s.parkEffect e = s.effectPark e := by
  unfold State.parkEffect
  rw [if_pos]
  refine List.any_eq_true.2 ⟨_, hmem, ?_⟩
  simpa [State.parkDue] using hdue

/-! ### The permutation in force (R30) -/

/-- MTX_PERM_RESULT: an egress port, VALID, and the slot modulo 2^16. -/
def permWord (egress slot : Nat) : Word := BitVec.ofNat 32 (egress + 1 * 32768 + slot % 65536 * 65536)

theorem permWord_fields {j slot : Nat} (h : j < 512) :
    fld (permWord j slot) 8 0 = j ∧ bit (permWord j slot) 15 = true ∧ fld (permWord j slot) 31 16 = slot % 65536 := by
  have hnat : (permWord j slot).toNat = j + 32768 + slot % 65536 * 65536 := by
    unfold permWord
    rw [BitVec.toNat_ofNat]
    omega
  refine ⟨?_, ?_, ?_⟩
  · simp only [fld, hnat]
    omega
  · rw [bit, ← BitVec.testBit_toNat, hnat, Nat.testBit_eq_decide_div_mod_eq, decide_eq_true_eq]
    omega
  · simp only [fld, hnat]
    omega

theorem State.permRead_traffic {q : Pair} (h : s.slt.cur.pairs.find? (fun x => decide (x.1 = fld v 8 0)) = some q) :
    s.permRead v = { s with slt := { s.slt with permResult := permWord q.2 s.slt.slot } } := by
  unfold State.permRead
  simp only [h]
  rfl

theorem exec_permRead (h : Permitted s p Reg.MTX_PERM_READ 1) : exec (.permRead p v) s = .next (s.permRead v) := by
  show Host.Outcome.next (s.access p Reg.MTX_PERM_READ 1 fun s => s.permRead v) = _
  rw [State.access_permitted h]

/-! ### FieldParks -/

/-- Settles O21: a request records its park, a park that is due takes effect, and a read latches the partner of a traffic
pair. Which targets move, and where to, is the model's free value (assumption 118). -/
theorem fieldParks : Obligations.FieldParks := by
  unfold Obligations.FieldParks
  refine ⟨?request, ?known, ?effect, ?read⟩
  case request =>
    intro s p v hperm he hpark hrec
    have hmtx : (s.recordPark (fld v 12 0)).mtx =
        s.mtx.withPark (fld v 12 0) (if s.slt.running then s.slt.slot + 3 else 0) := by
      rw [State.recordPark_new he hpark hrec]
      exact State.irqIf_frame.1 .mtx (by decide)
    refine ⟨_, exec_parkRequest hperm, ?_, ?_, ?_, ?_, ?_⟩
    · rw [hmtx]
      exact MtxSt.withPark_field_mem
    · rw [hmtx]
      exact fun _ hx => MtxSt.withPark_field_subset hx
    · rw [hmtx]
      rfl
    · rw [hmtx]
      rfl
    · rw [State.recordPark_new he hpark hrec]
      exact (Frame.refl.step (OnlyParts.set_mtx (by simp) OnlyParts.refl)).irqIf (by simp) (by simp)
  case known =>
    intro s p v hperm h
    exact (exec_parkRequest hperm).trans (by rw [State.recordPark_known h])
  case effect =>
    intro s e n hmem hdue
    have hexec : exec (.parkEffect e) s = .next (s.effectPark e) :=
      congrArg Host.Outcome.next (State.parkEffect_due hmem hdue)
    refine ⟨_, hexec, State.effectPark_isParked e.isLt, ?_, ?_, ?_, ?_, ?_, ?_, ?_, ?_, ?_⟩
    · rw [State.effectPark_mtx]
      exact fun _ => MtxSt.joined_pending_ne
    · intro hheld
      rw [State.effectPark_sel, hheld, if_neg Bool.false_ne_true, State.setSel_sel_same (e.isLt.trans (by decide))]
    · intro hheld
      rw [State.effectPark_sel, if_pos hheld]
    · intro c
      rw [State.effectPark_elem, if_pos rfl]
      exact ⟨rfl, rfl, rfl⟩
    · exact congrArg Chan.tgtBar State.effectPark_chan_same
    · exact congrArg Chan.tgtCross State.effectPark_chan_same
    · intro f hf
      exact ⟨State.effectPark_chan_other hf, fun c => by rw [State.effectPark_elem, if_neg hf]⟩
    · refine ⟨_, fun x hx => ?_, State.effectPark_loopS⟩
      simpa using (List.mem_filter.1 hx).2
    · exact Frame.of_parts (State.effectPark_parts (by simp) OnlyParts.refl) (by decide) (by decide)
  case read =>
    intro s p v q hperm hfind hq
    obtain ⟨hegress, hvalid, hslot⟩ := permWord_fields (slot := s.slt.slot) hq
    have hslt : (s.permRead v).slt = { s.slt with permResult := permWord q.2 s.slt.slot } := by
      rw [State.permRead_traffic hfind]
    refine ⟨_, exec_permRead hperm, ?_, ?_, ?_, ?_, Frame.refl.step (State.permRead_parts (by simp) OnlyParts.refl)⟩
    · rw [hslt, hegress]
    · rw [hslt, hvalid]
    · rw [hslt, hslot]
    · rw [hslt]

end Sys2Proof.Machine

/-! SUPPORT. The laser banks: what a judgement of a bank's light changes, what a failed emitter, the spare that takes over
or returns and a write of MTX_LB_CFG do, and the settlement of LaserBanks. -/

namespace Sys2Proof.Machine

open Sys2Proof

variable {s t u : State} {p : CmdPort} {v : Word} {n i : Nat}

theorem State.rdBit_of_frame {ps : List Part} {as cs : List Nat} {a : Nat} (h : Frame ps as cs s t) (ha : a ∉ as) :
    t.rdBit a i = s.rdBit a i := by
  unfold State.rdBit
  rw [h.2.1 a ha]

/-! ### The light of a bank (R46, R448, R630) -/

/-- What a judgement of the light of bank n may change: the bank's dark positions, the lists of isolated ports and of ports
whose light returned, and reports of dark modulators, which follow those sent before. -/
structure LightOnly (n : Nat) (s t : State) : Prop where
  bank : { t.bank n with dark := (s.bank n).dark } = s.bank n
  others : ∀ m, m ≠ n → t.bank m = s.bank m
  emitters : t.mtx.emitters = s.mtx.emitters
  reports : ∃ more, t.flt.sent = s.flt.sent ++ more
  frame : Frame [.flt, .mtx] [] [] s t

theorem LightOnly.refl : LightOnly n s s := ⟨rfl, fun _ _ => rfl, rfl, ⟨[], (List.append_nil _).symm⟩, Frame.refl⟩

theorem LightOnly.trans (h : LightOnly n s t) (h' : LightOnly n t u) : LightOnly n s u := by
  obtain ⟨more, hmore⟩ := h.reports
  obtain ⟨more', hmore'⟩ := h'.reports
  refine ⟨?_, fun m hm => (h'.others m hm).trans (h.others m hm), h'.emitters.trans h.emitters,
    ⟨more ++ more', by rw [hmore', hmore, List.append_assoc]⟩, h.frame.trans h'.frame⟩
  calc { u.bank n with dark := (s.bank n).dark }
      = { { u.bank n with dark := (t.bank n).dark } with dark := (s.bank n).dark } := rfl
    _ = { t.bank n with dark := (s.bank n).dark } := by rw [h'.bank]
    _ = s.bank n := h.bank

/-- A judgement of the light after an operation keeps the operation's frame. -/
theorem LightOnly.frame_after {ps : List Part} {as cs : List Nat} (h : LightOnly n t u) (hframe : Frame ps as cs s t)
    (hp : [.flt, .mtx] ⊆ ps) : Frame ps as cs s u :=
  hframe.trans (h.frame.mono hp (List.nil_subset _) (List.nil_subset _))

theorem State.emitter_congr {m j : Nat} (h : t.mtx.emitters = s.mtx.emitters) : t.emitter m j = s.emitter m j := by
  unfold State.emitter
  rw [h]

theorem State.bank_congr {m : Nat} (h : t.mtx = s.mtx) : t.bank m = s.bank m := by
  unfold State.bank
  rw [h]

theorem State.setEmitter_emitter_same {x : Emitter} : (s.setEmitter n i x).emitter n i = x :=
  Sparse.get_set_same _ _ _ _

theorem State.setEmitter_emitter_other {m j : Nat} {x : Emitter} (h : emitterIdx m j ≠ emitterIdx n i) :
    (s.setEmitter n i x).emitter m j = s.emitter m j :=
  Sparse.get_set_other _ _ _ h

theorem State.setEmitter_bank {m : Nat} {x : Emitter} : (s.setEmitter n i x).bank m = s.bank m := rfl

theorem State.setBank_emitter {m j : Nat} {x : Bank} : (s.setBank n x).emitter m j = s.emitter m j := rfl

theorem State.wrBit_bank {a m : Nat} {b : Bool} : (s.wrBit a i b).bank m = s.bank m := rfl

theorem State.wrBit_emitter {a m j : Nat} {b : Bool} : (s.wrBit a i b).emitter m j = s.emitter m j := rfl

theorem State.setDark_lightOnly {d : BitVec 16} : LightOnly n s (s.setBank n { s.bank n with dark := d }) :=
  ⟨by rw [State.setBank_bank_same], fun _ hm => State.setBank_bank_other hm, rfl, ⟨[], (List.append_nil _).symm⟩,
    Frame.refl.step (State.setBank_parts (by simp) OnlyParts.refl)⟩

theorem State.isolate_lightOnly {k : Nat} : LightOnly n s (s.isolate k) :=
  ⟨rfl, fun _ _ => rfl, rfl, ⟨_, State.raise_sent (by decide)⟩,
    (Frame.refl.step (OnlyParts.set_mtx (by simp) OnlyParts.refl)).raise (by simp) (by decide)⟩

theorem State.relight_lightOnly {k : Nat} : LightOnly n s (s.relight k) :=
  ⟨rfl, fun _ _ => rfl, rfl, ⟨[], (List.append_nil _).symm⟩,
    Frame.refl.step (State.relight_parts (by simp) OnlyParts.refl)⟩

theorem State.lightAt_lightOnly : LightOnly n s (s.lightAt n i) := by
  unfold State.lightAt
  dsimp only
  split
  · exact LightOnly.refl
  · split
    · exact State.setDark_lightOnly.trans State.isolate_lightOnly
    · exact State.setDark_lightOnly.trans State.relight_lightOnly

theorem foldl_lightAt_lightOnly (l : List Nat) : LightOnly n s (l.foldl (fun s i => s.lightAt n i) s) := by
  induction l generalizing s with
  | nil => exact LightOnly.refl
  | cons i l ih => exact State.lightAt_lightOnly.trans ih

theorem State.updateDark_lightOnly : LightOnly n s (s.updateDark n) := foldl_lightAt_lightOnly _

/-! ### A failed emitter (R44, R45, R631) -/

/-- The emitter is marked failed and its lasting fault raised. -/
def State.emitterReported (s : State) (n i : Nat) : State :=
  (s.setEmitter n i { s.emitter n i with failed := true }).raise (faultCode fbEmit (emitterIdx n i)) 2

/-- What a failed emitter brings for its bank's spare: a takeover or a release that waits, or a takeover withdrawn. -/
def State.spareAnswered (s : State) (n i : Nat) : State :=
  let b := s.bank n
  if h : i < 16 then
    if s.spareMode n = 0 && s.spareFree n && (s.emitter n 16).up then s.setBank n { b with takeover := some ⟨i, h⟩ } else s
  else if b.spareUsed then
    if (s.emitter n b.spareFor.val).failed then s.setBank n { b with spareUsed := false }
    else s.setBank n { b with release := true }
  else if b.takeover.isSome then
    let a := Reg.MTX_LB_CFG + 4 * n
    let s' := s.setBank n { b with takeover := none }
    if s'.rdBit a 4 then (s'.wrBit a 4 false).wrBit (Reg.MTX_LB_STATUS + 4 * n) 23 true else s'
  else s

theorem State.emitterFail_eq (hup : (s.emitter n i).up = true) (hok : (s.emitter n i).failed = false) :
    s.emitterFail n i = ((s.emitterReported n i).spareAnswered n i).updateDark n := by
  unfold State.emitterFail
  exact if_neg (by simp [hup, hok])

theorem State.emitterFail_down (h : (s.emitter n i).up = false ∨ (s.emitter n i).failed = true) :
    s.emitterFail n i = s := by
  unfold State.emitterFail
  rw [if_pos]
  simpa using h

/-- The report leaves the emitters as they were marked. -/
theorem State.emitterReported_emitter {m j : Nat} : (s.emitterReported n i).emitter m j =
    (s.setEmitter n i { s.emitter n i with failed := true }).emitter m j := rfl

theorem State.emitterReported_failed : ((s.emitterReported n i).emitter n i).failed = true := by
  rw [State.emitterReported_emitter, State.setEmitter_emitter_same]

theorem State.emitterReported_emitter_other {j : Nat} (h : j ≠ i) :
    (s.emitterReported n i).emitter n j = s.emitter n j := by
  rw [State.emitterReported_emitter, State.setEmitter_emitter_other (by simp only [emitterIdx]; omega)]

theorem State.emitterReported_sent : (s.emitterReported n i).flt.sent = s.flt.sent ++
    [{ code := faultCode fbEmit (emitterIdx n i), cls := 2, sec := s.tim.dt.sec, ns := s.tim.dt.ns }] :=
  State.raise_sent (by decide)

theorem State.emitterReported_frame : Frame [.flt, .mtx] [] [] s (s.emitterReported n i) :=
  (Frame.refl.step (State.setEmitter_parts (by simp) OnlyParts.refl)).raise (by simp) (by decide)

/-- The answer of the spare moves no emitter, reports nothing, and stays with its own bank. -/
theorem State.spareAnswered_keeps :
    (s.spareAnswered n i).mtx.emitters = s.mtx.emitters ∧ (s.spareAnswered n i).flt = s.flt ∧
    (∀ m, m ≠ n → (s.spareAnswered n i).bank m = s.bank m) ∧
    Frame [.mtx] [Reg.MTX_LB_CFG + 4 * n, Reg.MTX_LB_STATUS + 4 * n] [] s (s.spareAnswered n i) := by
  have ofBank : ∀ b : Bank, (s.setBank n b).mtx.emitters = s.mtx.emitters ∧ (s.setBank n b).flt = s.flt ∧
      (∀ m, m ≠ n → (s.setBank n b).bank m = s.bank m) ∧
      Frame [.mtx] [Reg.MTX_LB_CFG + 4 * n, Reg.MTX_LB_STATUS + 4 * n] [] s (s.setBank n b) := fun b =>
    ⟨rfl, rfl, fun _ hm => State.setBank_bank_other hm, Frame.refl.step (State.setBank_parts (by simp) OnlyParts.refl)⟩
  unfold State.spareAnswered
  dsimp only
  split
  · split
    · exact ofBank _
    · exact ⟨rfl, rfl, fun _ _ => rfl, Frame.refl⟩
  · split
    · split
      · exact ofBank _
      · exact ofBank _
    · split
      · split
        · obtain ⟨hem, hflt, hbank, hframe⟩ := ofBank { s.bank n with takeover := none }
          exact ⟨hem, hflt, hbank, (hframe.wrBit (by simp)).wrBit (by simp)⟩
        · exact ofBank _
      · exact ⟨rfl, rfl, fun _ _ => rfl, Frame.refl⟩

/-- R45: in mode 0 a free spare that is up is given to the position. -/
theorem State.spareAnswered_takeover (h : i < 16) (hmode : s.spareMode n = 0) (hfree : s.spareFree n = true)
    (hup : (s.emitter n 16).up = true) :
    s.spareAnswered n i = s.setBank n { s.bank n with takeover := some ⟨i, h⟩ } := by
  unfold State.spareAnswered
  simp [h, hmode, hfree, hup]

theorem State.spareFree_congr (hb : t.bank n = s.bank n) (he : t.emitter n 16 = s.emitter n 16) :
    t.spareFree n = s.spareFree n := by
  unfold State.spareFree
  rw [hb, he]

/-- R44: only an emitter that is up, not failed, and low in three samples fails. -/
theorem State.emitterFailed_not_due (h : (s.emitter n i).up = false ∨ (s.emitter n i).failed = true ∨
    Sparse.get (fun _ => 0) s.mtx.low (emitterIdx n i) < 3) : s.emitterFailed n i = s := by
  unfold State.emitterFailed
  obtain h | h | h := h
  · rw [State.emitterFail_down (.inl h), ite_self]
  · rw [State.emitterFail_down (.inr h), ite_self]
  · exact if_neg (by omega)

theorem exec_emitterFailed {n : Fin 32} {i : Fin 17}
    (h : 3 ≤ Sparse.get (fun _ => 0) s.mtx.low (emitterIdx n i)) :
    exec (.emitterFailed n i) s = .next (s.emitterFail n i) := by
  show Host.Outcome.next (s.emitterFailed n i) = _
  rw [State.emitterFailed, if_pos h]

/-! ### The spare (R41, R45, R47, R631) -/

/-- The selects of a bank's positions with the spare given to one of them. -/
def State.selectPosition (s : State) (n i : Nat) : State :=
  (List.range 16).foldl (fun s j => s.setSelector (4608 + 16 * n + j) (decide (j = i))) s

theorem foldl_setSelector_parts {b : Nat} {f : Nat → Bool} (l : List Nat) :
    OnlyParts [.drv] s (l.foldl (fun s j => s.setSelector (b + j) (f j)) s) :=
  OnlyParts.foldl (fun _ _ h => State.setSelector_parts (by simp) h) OnlyParts.refl

theorem foldl_setSelector_sel {b k : Nat} {f : Nat → Bool} {l : List Nat} (hk : k ∈ l) (hb : b + k < 5120) :
    (l.foldl (fun s j => s.setSelector (b + j) (f j)) s).drv.sel.getLsbD (b + k) =
      (f k && s.domOn (50 + quadrantOf (b + k)) && !s.drv.picOff) := by
  have other : ∀ (l : List Nat) (s : State), k ∉ l →
      (l.foldl (fun s j => s.setSelector (b + j) (f j)) s).drv.sel.getLsbD (b + k) = s.drv.sel.getLsbD (b + k) := by
    intro l
    induction l with
    | nil => exact fun _ _ => rfl
    | cons j l ih =>
      intro s h
      have hne : k ≠ j := List.ne_of_not_mem_cons h
      exact (ih _ (List.not_mem_of_not_mem_cons h)).trans (State.setSel_sel_other (by omega))
  induction l generalizing s with
  | nil => exact absurd hk List.not_mem_nil
  | cons j l ih =>
    by_cases hl : k ∈ l
    · exact ih hl
    · obtain rfl : k = j := by simpa [hl] using hk
      exact (other l _ hl).trans (State.setSel_sel_same hb)

theorem State.selectPosition_parts : OnlyParts [.drv] s (s.selectPosition n i) := foldl_setSelector_parts _

theorem State.selectPosition_mtx : (s.selectPosition n i).mtx = s.mtx := State.selectPosition_parts .mtx (by decide)

theorem State.selectPosition_sel {n : Fin 32} {i : Nat} {j : Fin 16} :
    (s.selectPosition n i).drv.sel.getLsbD (4608 + 16 * n + j) =
      (decide (j.val = i) && s.domOn (50 + quadrantOf (4608 + 16 * n + j)) && !s.drv.picOff) :=
  foldl_setSelector_sel (f := fun j => decide (j = i)) (List.mem_range.2 j.isLt) (by omega)

/-- A spare that has power is given to the position that waits for it, and rises to nominal. -/
def State.spareGiven (s : State) (n : Nat) (i : Fin 16) : State :=
  (((s.selectPosition n i.val).setBank n { s.bank n with spareUsed := true, spareFor := i, takeover := none }).setEmitter n 16
    { s.emitter n 16 with on := true, dB := 0 }).wrBit (Reg.MTX_LB_CFG + 4 * n) 4 false

theorem State.spareTakeover_powered {i : Fin 16} (hwait : (s.bank n).takeover = some i) (hlit : (s.bank n).unlit = false)
    (hup : (s.emitter n 16).up = true) (hok : (s.emitter n 16).failed = false) :
    s.spareTakeover n = ((s.spareGiven n i).updateDark n).moveTargets := by
  have hem : ∀ b, ((s.selectPosition n i.val).setBank n b).emitter n 16 = s.emitter n 16 := fun _ =>
    State.setBank_emitter.trans (State.emitter_congr (by rw [State.selectPosition_mtx]))
  have hlift : ((s.emitter n 16).up && !(s.emitter n 16).failed && !(s.bank n).unlit) = true := by
    rw [hup, hok, hlit]
    rfl
  unfold State.spareTakeover
  dsimp only
  rw [hwait]
  dsimp only
  rw [← State.selectPosition, hem, if_pos hlift]
  rfl

theorem State.spareGiven_bank {i : Fin 16} : (s.spareGiven n i).bank n =
    { s.bank n with spareUsed := true, spareFor := i, takeover := none } := by
  rw [State.spareGiven, State.wrBit_bank, State.setEmitter_bank, State.setBank_bank_same]

theorem State.spareGiven_bank_other {i : Fin 16} {m : Nat} (h : m ≠ n) : (s.spareGiven n i).bank m = s.bank m := by
  rw [State.spareGiven, State.wrBit_bank, State.setEmitter_bank, State.setBank_bank_other h,
    State.bank_congr State.selectPosition_mtx]

theorem State.spareGiven_emitter {i : Fin 16} : (s.spareGiven n i).emitter n 16 =
    { s.emitter n 16 with on := true, dB := 0 } := by
  rw [State.spareGiven, State.wrBit_emitter, State.setEmitter_emitter_same]

theorem State.spareGiven_sel {n : Fin 32} {i : Fin 16} (hpic : s.drv.picOff = false)
    (hdom : s.domOn (50 + quadrantOf (4608 + 16 * n + i)) = true) (j : Fin 16) :
    (s.spareGiven n i).drv.sel.getLsbD (4608 + 16 * n + j) = decide (j = i) := by
  rw [State.spareGiven, State.wrBit, State.wr_drv, State.setEmitter_drv, State.setBank_drv, State.selectPosition_sel]
  by_cases h : j = i
  · subst h
    simp [hpic, hdom]
  · simp [h, Fin.val_inj]

theorem State.spareGiven_frame {i : Fin 16} : Frame [.drv, .mtx] [Reg.MTX_LB_CFG + 4 * n] [] s (s.spareGiven n i) :=
  (((Frame.refl.step (State.selectPosition_parts.mono (by simp))).step (State.setBank_parts (by simp) OnlyParts.refl)).step
    (State.setEmitter_parts (by simp) OnlyParts.refl)).wrBit (by simp)

/-- A spare that failed in use gives its position back. -/
def State.spareReturned (s : State) (n : Nat) : State :=
  (s.setSelector (4608 + 16 * n + (s.bank n).spareFor.val) false).setBank n
    { s.bank n with spareUsed := false, release := false }

theorem State.spareReturned_bank : (s.spareReturned n).bank n = { s.bank n with spareUsed := false, release := false } :=
  State.setBank_bank_same

theorem State.spareReturned_bank_other {m : Nat} (h : m ≠ n) : (s.spareReturned n).bank m = s.bank m :=
  State.setBank_bank_other h

theorem State.spareReturned_sel {n : Fin 32} :
    (s.spareReturned n).drv.sel.getLsbD (4608 + 16 * n + (s.bank n).spareFor) = false :=
  State.setSel_sel_same (by omega)

theorem State.spareReturned_frame : Frame [.drv, .mtx] [] [] s (s.spareReturned n) :=
  (Frame.refl.step (State.setSelector_parts (by simp) OnlyParts.refl)).step (State.setBank_parts (by simp) OnlyParts.refl)

theorem State.spareRelease_waiting (h : (s.bank n).release = true) :
    s.spareRelease n = (s.spareReturned n).updateDark n := by
  unfold State.spareRelease
  exact if_pos h

theorem exec_spareTakeover_stopped {n : Fin 32} (h : s.slt.running = false) :
    exec (.spareTakeover n) s = .next (s.spareTakeover n) := by
  show Host.Outcome.next (s.spareTakeoverNow n) = _
  rw [State.spareTakeoverNow, if_neg (by simp [h])]

theorem exec_spareRelease_stopped {n : Fin 32} (h : s.slt.running = false) :
    exec (.spareRelease n) s = .next (s.spareRelease n) := by
  show Host.Outcome.next (s.spareReleaseNow n) = _
  rw [State.spareReleaseNow, if_neg (by simp [h])]

/-! ### A write of MTX_LB_CFG (R47, R51) -/

/-- The row of MTX_LB_CFG: FORCE_TARGET open, SPARE_MODE locked with the image, FORCE_SPARE a request. -/
abbrev lbCfgRow : RegRow := ⟨0x880, 4, 32, 0xf00, 3, 0, 0x10, 0⟩

theorem lbCfg_row (n : Fin 32) :
    locate (Reg.MTX_LB_CFG + 4 * n.val) = some (.mtx, 0x880 + 4 * n.val) ∧
    findRow .mtx (0x880 + 4 * n.val) = some lbCfgRow := by
  revert n
  decide

/-- A plain write of MTX_LB_CFG takes its word, or is also counted and audited where the image is locked (R476). -/
theorem State.plainWrite_lbCfg_cases {n : Fin 32} :
    s.plainWrite p (Reg.MTX_LB_CFG + 4 * n) v =
      s.wr (Reg.MTX_LB_CFG + 4 * n) (lbCfgRow.next s.img.locked (s.rd (Reg.MTX_LB_CFG + 4 * n)) v) ∨
    s.img.locked = true ∧
    (s.plainWrite p (Reg.MTX_LB_CFG + 4 * n) v).rd (Reg.MTX_LB_CFG + 4 * n) =
      lbCfgRow.next s.img.locked (s.rd (Reg.MTX_LB_CFG + 4 * n)) v ∧
    Frame [.sec] [Reg.MTX_LB_CFG + 4 * n] [0x134] s (s.plainWrite p (Reg.MTX_LB_CFG + 4 * n) v) := by
  obtain ⟨hloc, hrow⟩ := lbCfg_row n
  cases hd : lbCfgRow.discards s.img.locked (s.rd (Reg.MTX_LB_CFG + 4 * n)) v with
  | true =>
    obtain ⟨hrd, -, -, hframe⟩ := State.plainWrite_discarded (p := p) hloc hrow hd
    exact .inr ⟨(RegRow.discards_iff.1 hd).1, hrd, hframe⟩
  | false => exact .inl (State.plainWrite_kept hloc hrow hd)

theorem State.plainWrite_lbCfg_rd {n : Fin 32} :
    (s.plainWrite p (Reg.MTX_LB_CFG + 4 * n) v).rd (Reg.MTX_LB_CFG + 4 * n) =
      lbCfgRow.next s.img.locked (s.rd (Reg.MTX_LB_CFG + 4 * n)) v := by
  obtain h | ⟨-, hrd, -⟩ := State.plainWrite_lbCfg_cases (s := s) (p := p) (v := v) (n := n)
  · rw [h, State.wr_rd_same]
  · exact hrd

theorem State.plainWrite_lbCfg_open {n : Fin 32} (hopen : s.img.locked = false) :
    (s.plainWrite p (Reg.MTX_LB_CFG + 4 * n) v).sec = s.sec ∧
    (s.plainWrite p (Reg.MTX_LB_CFG + 4 * n) v).ctr 0x134 = s.ctr 0x134 := by
  obtain h | ⟨hlocked, -⟩ := State.plainWrite_lbCfg_cases (s := s) (p := p) (v := v) (n := n)
  · rw [h]
    exact ⟨rfl, rfl⟩
  · exact absurd (hopen.symm.trans hlocked) Bool.false_ne_true

theorem State.plainWrite_lbCfg_frame {n : Fin 32} :
    Frame [.sec] [Reg.MTX_LB_CFG + 4 * n] [0x134] s (s.plainWrite p (Reg.MTX_LB_CFG + 4 * n) v) := by
  obtain h | ⟨-, -, hframe⟩ := State.plainWrite_lbCfg_cases (s := s) (p := p) (v := v) (n := n)
  · rw [h]
    exact Frame.refl.wr (by simp)
  · exact hframe

/-- SPARE_MODE after a write of MTX_LB_CFG: the one written, or the old one while the image is locked (R476). -/
theorem lbCfgRow_next_mode {locked : Bool} {old : Word} :
    fld (lbCfgRow.next locked old v) 1 0 = if locked then fld old 1 0 else fld v 1 0 := by
  cases locked
  · refine fld_congr (by omega) fun i _ hi => ?_
    interval_cases i <;> simp [RegRow.next]
  · refine fld_congr (by omega) fun i _ hi => ?_
    interval_cases i <;> simp [RegRow.next]

theorem exec_forceSpare {n : Fin 32} (h : Permitted s p (Reg.MTX_LB_CFG + 4 * n) 4) :
    exec (.forceSpare p n v) s = .next (s.writeLbCfg p n (withBit v 4)) := by
  show Host.Outcome.next (s.access p (Reg.MTX_LB_CFG + 4 * n) 4 fun s => s.writeLbCfg p n.val (withBit v 4)) = _
  rw [State.access_permitted h]

/-- The state after the plain part of a FORCE_SPARE write. -/
abbrev State.lbCfgWritten (s : State) (p : CmdPort) (n : Fin 32) (v : Word) : State :=
  s.plainWrite p (Reg.MTX_LB_CFG + 4 * n) (withBit v 4)

theorem State.lbCfgWritten_mtx {n : Fin 32} : (s.lbCfgWritten p n v).mtx = s.mtx :=
  State.plainWrite_lbCfg_frame.1 .mtx (by decide)

theorem State.lbCfgWritten_spareFree {n : Fin 32} : (s.lbCfgWritten p n v).spareFree n = s.spareFree n :=
  State.spareFree_congr (State.bank_congr State.lbCfgWritten_mtx) (State.emitter_congr (by rw [State.lbCfgWritten_mtx]))

theorem State.lbCfgWritten_spareMode {n : Fin 32} :
    (s.lbCfgWritten p n v).spareMode n = if s.img.locked then s.spareMode n else fld v 1 0 := by
  unfold State.spareMode State.rdFld
  rw [State.plainWrite_lbCfg_rd, lbCfgRow_next_mode, fld_withBit (by omega) (by omega)]

/-- A request is taken where the spare is free and the mode of the same write allows it. -/
theorem State.writeLbCfg_accepted {n : Fin 32} (hold : s.rdBit (Reg.MTX_LB_CFG + 4 * n) 4 = false)
    (hfree : s.spareFree n = true) (hmode : (if s.img.locked then s.spareMode n else fld v 1 0) < 2) :
    s.writeLbCfg p n (withBit v 4) = ((s.lbCfgWritten p n v).setBank n
      { (s.lbCfgWritten p n v).bank n with takeover := some (Fin.ofNat 16 (fld v 11 8)) }).wrBit
        (Reg.MTX_LB_CFG + 4 * n) 4 true := by
  unfold State.writeLbCfg
  dsimp only
  rw [State.lbCfgWritten_spareFree, State.lbCfgWritten_spareMode, if_pos (by simp [bit_withBit, hold]),
    if_pos (by simp [hfree, hmode]), fld_withBit (by omega) (by omega)]

theorem State.writeLbCfg_refused {n : Fin 32} (hold : s.rdBit (Reg.MTX_LB_CFG + 4 * n) 4 = false)
    (h : s.spareFree n = false ∨ 2 ≤ if s.img.locked then s.spareMode n else fld v 1 0) :
    s.writeLbCfg p n (withBit v 4) = (s.lbCfgWritten p n v).wrBit (Reg.MTX_LB_STATUS + 4 * n) 23 true := by
  unfold State.writeLbCfg
  dsimp only
  rw [State.lbCfgWritten_spareFree, State.lbCfgWritten_spareMode, if_pos (by simp [bit_withBit, hold]), if_neg]
  obtain h | h := h
  · simp [h]
  · simp [Nat.not_lt.2 h]

/-- FORCE_SPARE written while it is set requests nothing. -/
theorem State.writeLbCfg_pending {n : Fin 32} (hold : s.rdBit (Reg.MTX_LB_CFG + 4 * n) 4 = true) :
    s.writeLbCfg p n (withBit v 4) = s.lbCfgWritten p n v := by
  unfold State.writeLbCfg
  dsimp only
  rw [if_neg (by simp [hold])]

/-! ### Light returns to a port (R630) -/

/-- Port k is no longer isolated, nor among the ports whose light returned. -/
def MtxSt.rejoined (m : MtxSt) (k : Nat) : MtxSt :=
  { m with isolated := m.isolated.filter fun x => decide (x ≠ k), rejoin := m.rejoin.filter fun x => decide (x.1 ≠ k) }

theorem State.lightReturn_due {k : Nat} (hmem : (k, n) ∈ s.mtx.rejoin)
    (hdue : s.slt.running = false ∨ n ≤ s.slt.slot) : s.lightReturn k = { s with mtx := s.mtx.rejoined k } := by
  unfold State.lightReturn
  rw [if_pos (List.any_eq_true.2 ⟨_, hmem, by simpa using hdue⟩)]
  rfl

/-! ### LaserBanks -/

/-- Settles O22: each command goes through the equation of its case; what the judgement of the bank's light leaves alone is
LightOnly. While Prism does not run the spare waits for no guard (assumption 119), and the target of a takeover is that of
the accepted write (assumption 108). -/
theorem laserBanks : Obligations.LaserBanks := by
  unfold Obligations.LaserBanks
  refine ⟨?failed, ?notFailed, ?takeover, ?release, ?running, ?accepted, ?refused, ?pending, ?light⟩
  case failed =>
    intro s n i hup hok hlow
    have hexec := (exec_emitterFailed hlow).trans (congrArg _ (State.emitterFail_eq hup hok))
    obtain ⟨hem, hflt, hothers, hframe⟩ := State.spareAnswered_keeps (s := s.emitterReported n i) (n := n) (i := i)
    have hlight := State.updateDark_lightOnly (n := n) (s := (s.emitterReported n i).spareAnswered n i)
    refine ⟨_, hexec, ?_, ?_, ?_, ?_, ?_⟩
    · rw [State.emitter_congr hlight.emitters, State.emitter_congr hem, State.emitterReported_failed]
    · obtain ⟨more, hmore⟩ := hlight.reports
      exact ⟨more, by rw [hmore, hflt, State.emitterReported_sent, List.append_assoc]; rfl⟩
    · intro hi hmode hfree hspare
      have h16 : (s.emitterReported n i).emitter n 16 = s.emitter n 16 :=
        State.emitterReported_emitter_other (by omega)
      have hanswer := State.spareAnswered_takeover (s := s.emitterReported n i) (n := n) hi hmode
        ((State.spareFree_congr (s := s) (t := s.emitterReported n i) rfl h16).trans hfree) (by rw [h16, hspare])
      calc _ = (((s.emitterReported n i).spareAnswered n i).bank n).takeover := congrArg Bank.takeover hlight.bank
        _ = some ⟨i.val, hi⟩ := by rw [hanswer, State.setBank_bank_same]
    · exact fun m hm => (hlight.others m hm).trans (hothers m hm)
    · exact hlight.frame_after ((State.emitterReported_frame.mono (by simp) (by simp) (by simp)).trans
        (hframe.mono (by simp) (by simp) (by simp))) (by simp)
  case notFailed => exact fun s n i h => congrArg Host.Outcome.next (State.emitterFailed_not_due h)
  case takeover =>
    intro s n i hrun hwait hlit hup hok hpic hdom
    have hexec := (exec_spareTakeover_stopped hrun).trans
      (congrArg _ (State.spareTakeover_powered hwait hlit hup hok))
    have hlight := State.updateDark_lightOnly (n := n) (s := s.spareGiven n i)
    have hbank := hlight.bank
    rw [State.spareGiven_bank] at hbank
    have hspare : ((s.spareGiven n i).updateDark n).emitter n 16 = { s.emitter n 16 with on := true, dB := 0 } :=
      (State.emitter_congr hlight.emitters).trans State.spareGiven_emitter
    refine ⟨_, hexec, congrArg Bank.spareUsed hbank, congrArg Bank.spareFor hbank, congrArg Bank.takeover hbank,
      congrArg Emitter.on hspare, congrArg Emitter.dB hspare, ?_, ?_, ?_, ?_⟩
    · intro j
      calc _ = (s.spareGiven n i).drv.sel.getLsbD (4608 + 16 * n + j) :=
            congrArg (fun d : DrvSt => d.sel.getLsbD _) (hlight.frame.1 .drv (by decide))
        _ = decide (j = i) := State.spareGiven_sel hpic hdom j
    · calc _ = (s.spareGiven n i).rdBit (Reg.MTX_LB_CFG + 4 * n) 4 := State.rdBit_of_frame hlight.frame (by simp)
        _ = false := State.wrBit_rdBit_same (by omega)
    · exact fun m hm => (hlight.others m hm).trans (State.spareGiven_bank_other hm)
    · exact (hlight.frame_after (State.spareGiven_frame.mono (by simp) (by simp) (by simp)) (by simp)).step
        (State.moveTargets_parts (by simp) OnlyParts.refl)
  case release =>
    intro s n hrun hwait
    have hexec := (exec_spareRelease_stopped hrun).trans (congrArg _ (State.spareRelease_waiting hwait))
    have hlight := State.updateDark_lightOnly (n := n) (s := s.spareReturned n)
    have hbank := hlight.bank
    rw [State.spareReturned_bank] at hbank
    refine ⟨_, hexec, congrArg Bank.spareUsed hbank, congrArg Bank.release hbank, ?_, ?_, ?_⟩
    · calc _ = (s.spareReturned n).drv.sel.getLsbD (4608 + 16 * n + (s.bank n).spareFor) :=
            congrArg (fun d : DrvSt => d.sel.getLsbD _) (hlight.frame.1 .drv (by decide))
        _ = false := State.spareReturned_sel
    · exact fun m hm => (hlight.others m hm).trans (State.spareReturned_bank_other hm)
    · exact hlight.frame_after (State.spareReturned_frame.mono (by simp) (by simp) (by simp)) (by simp)
  case running =>
    exact fun s n hrun => ⟨congrArg Host.Outcome.next (if_pos hrun), congrArg Host.Outcome.next (if_pos hrun)⟩
  case accepted =>
    intro s p n v hperm hold hfree hmode
    refine ⟨_, (exec_forceSpare hperm).trans (congrArg _ (State.writeLbCfg_accepted hold hfree hmode)), ?_, ?_, ?_, ?_, ?_⟩
    · rw [State.wrBit_bank, State.setBank_bank_same]
    · exact State.wrBit_rdBit_same (by omega)
    · exact fun m hm => (State.setBank_bank_other hm).trans (State.bank_congr State.lbCfgWritten_mtx)
    · exact State.plainWrite_lbCfg_open
    · exact ((State.plainWrite_lbCfg_frame.mono (by simp) (by simp) (by simp)).step
        (State.setBank_parts (by simp) OnlyParts.refl)).wrBit (by simp)
  case refused =>
    intro s p n v hperm hold h
    refine ⟨_, (exec_forceSpare hperm).trans (congrArg _ (State.writeLbCfg_refused hold h)), State.lbCfgWritten_mtx,
      State.wrBit_rdBit_same (by omega), ?_⟩
    exact (State.plainWrite_lbCfg_frame.mono (by simp) (by simp) (by simp)).wrBit (by simp)
  case pending =>
    intro s p n v hperm hold
    exact ⟨_, (exec_forceSpare hperm).trans (congrArg _ (State.writeLbCfg_pending hold)), State.lbCfgWritten_mtx,
      State.plainWrite_lbCfg_frame⟩
  case light =>
    intro s k n hmem hdue
    have hexec : exec (.lightReturn k) s = .next { s with mtx := s.mtx.rejoined k } :=
      congrArg Host.Outcome.next (State.lightReturn_due hmem hdue)
    refine ⟨_, hexec, ?_, ?_, ?_, rfl, Frame.refl.step (OnlyParts.set_mtx (by simp) OnlyParts.refl)⟩
    · simp [MtxSt.rejoined]
    · simp [MtxSt.rejoined]
    · intro j hj
      simp [MtxSt.rejoined, hj]

end Sys2Proof.Machine

/-! SUPPORT. Captures and readings of the taps: what a capture starts, what one conversion of a tap gives, where its reading
goes, and the settlement of TapsCapturedAndRead. -/

namespace Sys2Proof.Machine

open Sys2Proof

variable {s : State} {tap : Fin 10304} {k : TapCodes} {cap : Capture} {q u x n : Nat} {r : TapReading} {l : LoopShared}
  {rp bp : Bool}

/-! ### A capture (R54, R55, R61, R159) -/

/-- A capture is due where the loops run or Diopter calibrates, none was taken in the sample, and Prism is in no guard
and no CALIBRATION slot. -/
def State.captureDue (s : State) : Prop :=
  (s.loopS.running = true ∨ s.glb.state = .calibrating) ∧ s.loopS.capCur = none ∧
  (s.slt.running = false ∨ (s.slt.cur.kind ≠ 3 ∧ s.drv.inGuard = false))

/-- What a capture makes of the shared loops. -/
def State.captured (s : State) : LoopShared :=
  { s.loopS with
    capCur := some { sample := s.loopS.sample, exc := s.loopS.excOn, sel := s.drv.sel, readings := [] }
    capState := s.drv.sel }

/-- What a capture makes of the ADC units: the repairs of failed ones start, and loans of the loops end. -/
def State.unitsCaptured (s : State) : AdcSt :=
  { s.adc with
    fresh := []
    late := (List.range 100).filter s.converting
    units := Sparse.mapVals (fun _ => {}) (fun a => { a with loopNext := false }) s.adc.units }

theorem State.tapCapture_due (h : s.captureDue) :
    s.tapCapture = { s with loopS := s.captured, adc := s.unitsCaptured } := by
  unfold State.tapCapture
  rw [if_pos]
  · rfl
  · obtain ⟨hrun, hnone, hslot⟩ := h
    simpa [hnone] using And.intro hrun hslot

theorem State.tapCapture_not_due (h : ¬ s.captureDue) : s.tapCapture = s := by
  unfold State.tapCapture
  rw [if_neg]
  simpa [State.captureDue, and_assoc] using h

/-! ### Where a reading goes (R147) -/

theorem Capture.tap_put : ({ cap with readings := Sparse.put cap.readings n r } : Capture).tap x =
    if x = n then r else cap.tap x := Sparse.get_put _ _ _ _ _

/-- A reading goes into the latest capture, to its own tap. -/
theorem LoopShared.latest_putReading (h : l.latest = some cap) :
    (l.putReading n r).latest = some { cap with readings := Sparse.put cap.readings n r } := by
  unfold LoopShared.latest at h
  unfold LoopShared.putReading LoopShared.latest
  cases hcur : l.capCur with
  | some c =>
    obtain rfl : c = cap := by simpa [hcur] using h
    rfl
  | none =>
    have hprev : l.capPrev = some cap := by simpa [hcur] using h
    simp [hprev]

theorem LoopShared.putReading_rest :
    { l.putReading n r with capCur := none, capPrev := none } = { l with capCur := none, capPrev := none } := by
  unfold LoopShared.putReading
  split
  · rfl
  · split <;> rfl

/-- A reading that is in: the tap has it, the other taps and the capture's tags stay. -/
theorem LoopShared.putReading_stored (h : l.latest = some cap) :
    ∃ cap' : Capture, (l.putReading n r).latest = some cap' ∧ cap'.tap n = r ∧ (∀ x, x ≠ n → cap'.tap x = cap.tap x) ∧
      cap'.sample = cap.sample ∧ cap'.exc = cap.exc ∧ cap'.sel = cap.sel :=
  ⟨_, LoopShared.latest_putReading h, Eq.trans Capture.tap_put (if_pos rfl),
    fun _ hx => Eq.trans Capture.tap_put (if_neg hx), rfl, rfl, rfl⟩

theorem State.convertTap_loopS : (s.convertTap n k).2.loopS = s.loopS :=
  State.convertTap_parts (P := [.ctrs, .adc]) (by simp) OnlyParts.refl .loopS (by decide)

/-- A tap whose turn it is, or that nobody converts, is converted, and its reading stored. -/
theorem exec_tapReading (hcap : s.loopS.latest = some cap) (hnew : cap.has tap = false)
    (hturn : s.convertedBy (tapUnit tap) = .nobody ∨ s.tapNext (s.convUnit tap) tap = true) :
    exec (.tapReading tap k) s = .next { (s.convertTap tap k).2 with
      loopS := s.loopS.putReading tap (s.convertTap tap k).1 } := by
  show Host.Outcome.next (s.tapReading tap k) = _
  unfold State.tapReading
  rw [hcap]
  dsimp only
  rw [if_neg, State.convertTap_loopS]
  simpa [hnew] using fun h : s.convertedBy (tapUnit tap) ≠ .nobody => hturn.resolve_left h

/-! ### One conversion of a tap (R146, R150, R151, R153, R159) -/

/-- Unit q converts a tap, in a repair or not. -/
def State.convertBy (s : State) (q : Nat) (rp byPartner : Bool) (k : TapCodes) : TapReading × State :=
  let r := makeReading rp byPartner (s.au q).recovery k
  let s1 := (s.setAu q ((s.au q).afterReading (decide (r.reason = 7)))).bump 0x900048 (ovrCount rp k)
  (r, if r.valid then s1 else s1.bump 0x900050 1)

theorem State.convertTap_own (h : s.convertedBy (tapUnit n) = .own) :
    s.convertTap n k = s.convertBy (tapUnit n) (s.inRepair (tapUnit n)) false k := by
  unfold State.convertTap
  simp only [h]
  rfl

theorem State.convertTap_partner (h : s.convertedBy (tapUnit n) = .partner) :
    s.convertTap n k = s.convertBy (partner (tapUnit n)) true true k := by
  unfold State.convertTap
  simp only [h]
  rfl

theorem State.convertTap_nobody (h : s.convertedBy (tapUnit n) = .nobody) :
    s.convertTap n k = (notRead, s.bump 0x900050 1) := by
  unfold State.convertTap
  simp only [h]

theorem State.convUnit_own (h : s.convertedBy (tapUnit n) = .own) : s.convUnit n = tapUnit n := by
  simp [State.convUnit, h]

theorem State.convUnit_partner (h : s.convertedBy (tapUnit n) = .partner) : s.convUnit n = partner (tapUnit n) := by
  simp [State.convUnit, h]

/-- Outside a repair a reading without OVR is the sum of the four codes. -/
theorem makeReading_whole (hovr : k.ovr = 0) : makeReading false bp 0 k =
    { value := k.c0.toNat + k.c1.toNat + k.c2.toNat + k.c3.toNat, valid := true, reason := 0, byPartner := bp } := by
  simp [makeReading, hovr]

/-- In a repair a reading without OVR is four times the one code. -/
theorem makeReading_repair (hovr : k.ovr.getLsbD 0 = false) : makeReading true bp 0 k =
    { value := 4 * k.c0.toNat, valid := true, reason := 5, byPartner := bp } := by
  have hfirst : k.ovr[0] = false := by simpa using hovr
  simp [makeReading, hfirst]

theorem makeReading_ovr {recovery : Fin 3} (hovr : k.ovr ≠ 0) :
    (makeReading false bp recovery k).valid = false ∧ (makeReading false bp recovery k).reason = 7 := by
  have hne : ¬ k.ovr = 0#4 := hovr
  simp [makeReading, hne]

theorem AdcUnit.afterReading_settled {a : AdcUnit} (h : a.recovery = 0) : a.afterReading false = a := by
  have hstays : a.recovery - (if a.recovery = 0 then 0 else 1) = a.recovery := by simp [h]
  unfold AdcUnit.afterReading
  rw [if_neg Bool.false_ne_true, hstays]

theorem State.setAu_au_self : (s.setAu q (s.au q)).au u = s.au u := by
  by_cases h : u = q
  · rw [h, State.setAu_au_same]
  · rw [State.setAu_au_other h]

/-- A valid reading of a unit that does not recover leaves every unit, and counts the conversions with OVR. -/
theorem State.convertBy_valid (hrec : (s.au q).recovery = 0) (hr : makeReading rp bp 0 k = r) (hvalid : r.valid = true)
    (hreason : r.reason ≠ 7) :
    (s.convertBy q rp bp k).1 = r ∧ (∀ u, (s.convertBy q rp bp k).2.au u = s.au u) ∧
    (s.convertBy q rp bp k).2.ctr 0x900048 = s.ctr 0x900048 + BitVec.ofNat 64 (ovrCount rp k) ∧
    Frame [.adc] [] [0x900048] s (s.convertBy q rp bp k).2 := by
  have heq : s.convertBy q rp bp k = (r, (s.setAu q (s.au q)).bump 0x900048 (ovrCount rp k)) := by
    unfold State.convertBy
    simp only [hrec, hr, hvalid, hreason, decide_false, AdcUnit.afterReading_settled hrec, if_true]
  rw [heq]
  exact ⟨rfl, fun _ => State.setAu_au_self, State.bump_ctr_same,
    (Frame.refl.step (State.setAu_parts (by simp) OnlyParts.refl)).bump (by simp)⟩

/-- A reading with OVR is counted, and its unit recovers over two readings. -/
theorem State.convertBy_ovr (hovr : k.ovr ≠ 0) :
    (s.convertBy q false bp k).1.valid = false ∧ (s.convertBy q false bp k).1.reason = 7 ∧
    ((s.convertBy q false bp k).2.au q).recovery = 2 ∧
    (∀ u, u ≠ q → (s.convertBy q false bp k).2.au u = s.au u) ∧
    (s.convertBy q false bp k).2.ctr 0x900050 = s.ctr 0x900050 + 1 ∧
    (s.convertBy q false bp k).2.ctr 0x900048 = s.ctr 0x900048 + BitVec.ofNat 64 (ovrCount false k) ∧
    Frame [.adc] [] [0x900048, 0x900050] s (s.convertBy q false bp k).2 := by
  obtain ⟨hvalid, hreason⟩ := makeReading_ovr (bp := bp) (recovery := (s.au q).recovery) hovr
  have heq : (s.convertBy q false bp k).2 =
      ((s.setAu q { s.au q with recovery := 2 }).bump 0x900048 (ovrCount false k)).bump 0x900050 1 := by
    unfold State.convertBy
    simp only [hreason, hvalid, decide_true, Bool.false_eq_true, if_false]
    rfl
  have hother : ∀ u, u ≠ q → (s.setAu q { s.au q with recovery := 2 }).au u = s.au u := fun _ => State.setAu_au_other
  have hsame : (s.setAu q { s.au q with recovery := 2 }).au q = { s.au q with recovery := 2 } := State.setAu_au_same
  rw [heq]
  refine ⟨hvalid, hreason, congrArg AdcUnit.recovery hsame, hother, ?_, ?_, ?_⟩
  · rw [State.bump_ctr_same, State.bump_ctr_other (by decide), State.setAu_ctr]
    rfl
  · rw [State.bump_ctr_other (by decide), State.bump_ctr_same, State.setAu_ctr]
  · exact ((Frame.refl.step (State.setAu_parts (by simp) OnlyParts.refl)).bump (by simp)).bump (by simp)

/-- A stored reading touches what its conversion touched, and the shared loops. -/
theorem frame_reading_stored {t : State} {m : LoopShared} {cs : List Nat} (h : Frame [.adc] [] cs s t) :
    Frame [.loopS, .adc] [] cs s { t with loopS := m } :=
  (h.mono (by simp) (by simp) (by simp)).step (OnlyParts.set_loopS (by simp) OnlyParts.refl)

/-! ### TapsCapturedAndRead -/

/-- Settles O6: a capture through the state that is due, a reading through what its unit's conversion gives. The model's
choices it rests on: a capture that is not due changes nothing (assumption 3), and what a reading contains are the averaged
conversions (assumption 122). -/
theorem tapsCapturedAndRead : Obligations.TapsCapturedAndRead := by
  unfold Obligations.TapsCapturedAndRead
  refine ⟨?capture, ?notDue, ?own, ?partner, ?ovr, ?nobody⟩
  case capture =>
    intro s hrun hnone hslot hwf
    have hexec : exec .tapCapture s = .next { s with loopS := s.captured, adc := s.unitsCaptured } :=
      congrArg Host.Outcome.next (State.tapCapture_due ⟨hrun, hnone, hslot⟩)
    exact ⟨_, hexec, rfl, rfl, rfl, rfl, fun u => Sparse.get_mapVals rfl hwf,
      Frame.refl.step (OnlyParts.set_loopS_adc (by simp) (by simp) OnlyParts.refl)⟩
  case notDue =>
    intro s h
    refine congrArg Host.Outcome.next (State.tapCapture_not_due fun ⟨_, hnone, hslot⟩ => ?_)
    obtain h | ⟨hrun, hcal | hguard⟩ := h
    · exact h hnone
    · exact (hslot.resolve_left (by simp [hrun])).1 hcal
    · simp [hrun, hguard] at hslot
  case own =>
    intro s tap k cap hcap hnew hby hnext hrepair hrec hovr
    have hreason : (0 : Fin 8) ≠ 7 := by decide
    have hexec := exec_tapReading (k := k) hcap hnew (.inr (State.convUnit_own hby ▸ hnext))
    rw [State.convertTap_own hby, hrepair] at hexec
    obtain ⟨hr, hau, hctr, hframe⟩ := State.convertBy_valid hrec (makeReading_whole hovr) rfl hreason
    exact ⟨_, hexec, hr ▸ LoopShared.putReading_stored hcap, LoopShared.putReading_rest, hau, hctr,
      frame_reading_stored hframe⟩
  case partner =>
    intro s tap k cap hcap hnew hby hnext hrec hovr
    have hreason : (5 : Fin 8) ≠ 7 := by decide
    have hexec := exec_tapReading (k := k) hcap hnew (.inr (State.convUnit_partner hby ▸ hnext))
    rw [State.convertTap_partner hby] at hexec
    obtain ⟨hr, hau, -, hframe⟩ := State.convertBy_valid hrec (makeReading_repair hovr) rfl hreason
    obtain ⟨cap', hlatest, htap, hothers, -⟩ := LoopShared.putReading_stored (n := tap) hcap
    exact ⟨_, hexec, ⟨cap', hlatest, htap.trans hr, hothers⟩, hau, frame_reading_stored hframe⟩
  case ovr =>
    intro s tap k cap hcap hnew hby hnext hrepair hovr
    have hexec := exec_tapReading (k := k) hcap hnew (.inr (State.convUnit_own hby ▸ hnext))
    rw [State.convertTap_own hby, hrepair] at hexec
    obtain ⟨hvalid, hreason, hrec, hau, hinvalid, hctr, hframe⟩ := State.convertBy_ovr (s := s) (q := tapUnit tap)
      (bp := false) hovr
    obtain ⟨cap', hlatest, htap, hothers, -⟩ := LoopShared.putReading_stored (n := tap) hcap
    exact ⟨_, hexec, ⟨cap', hlatest, (congrArg TapReading.valid htap).trans hvalid,
      (congrArg TapReading.reason htap).trans hreason, hothers⟩, hrec, hau, hinvalid, hctr, frame_reading_stored hframe⟩
  case nobody =>
    intro s tap k cap hcap hnew hby
    have hexec := exec_tapReading (k := k) hcap hnew (.inl hby)
    rw [State.convertTap_nobody hby] at hexec
    obtain ⟨cap', hlatest, htap, hothers, -⟩ := LoopShared.putReading_stored (n := tap) hcap
    exact ⟨_, hexec, ⟨cap', hlatest, htap, hothers⟩, State.bump_ctr_same,
      (Frame.refl.bump (by simp)).step (OnlyParts.set_loopS (by simp) OnlyParts.refl)⟩

end Sys2Proof.Machine

/-! SUPPORT. Iterations of the element loops: what one iteration changes in its controller and outside it, which reading it
uses, and the settlement of IterationsRun. -/

namespace Sys2Proof.Machine

open Sys2Proof

variable {s t : State} {c : Ctl} {e f : Nat} {r : Reading} {x : Elem} {o : IterOut}

/-! ### Loops that stay -/

theorem State.loops_of_parts {ps : List Part} (hps : Part.loopA ∉ ps ∧ Part.loopB ∉ ps) (h : OnlyParts ps s t) :
    t.loops c = s.loops c := by
  obtain ⟨ha, hb⟩ := hps
  cases c
  · exact h .loopA ha
  · exact h .loopB hb

/-! ### The outcome of an iteration (R107, R118, R627) -/

/-- The outcome counted in its controller. -/
def State.outCounted (s : State) (c : Ctl) (o : IterOut) : State :=
  s.setLoops c { s.loops c with
    probeDiscards := (s.loops c).probeDiscards + o.discards
    handoverRefused := (s.loops c).handoverRefused + b2n o.refused
    implausibleEvents := (s.loops c).implausibleEvents + b2n o.implausible }

theorem State.elemEvent_frame {code : Nat} : Frame [.loopS, .flt, .acq] [] [] s (s.elemEvent c code e) :=
  Frame.refl.step (State.elemEvent_parts (by simp) OnlyParts.refl)

/-- Beside its count an outcome raises faults and event triggers. -/
theorem State.applyOut_frame : Frame [.loopS, .flt, .acq] [] [] (s.outCounted c o) (s.applyOut c e o) := by
  have raised : ∀ (u : State) (b : Bool), Frame [.loopS, .flt, .acq] [] [] u (if b then u.raise (elemCode e) 1 else u) := by
    intro u b
    split
    · exact Frame.refl.raise (by simp) (by decide)
    · exact Frame.refl
  have faults := (raised (s.outCounted c o) (o.refuseFault && decide (s.active? = some c))).trans
    (raised _ (o.implausible && decide (s.active? = some c)))
  unfold State.applyOut
  dsimp only
  split
  · exact faults.trans State.elemEvent_frame
  · exact faults

theorem State.applyOut_quiet (hr : o.refuseFault = false) (hi : o.implausible = false) :
    s.applyOut c e o = s.outCounted c o := by
  simp [State.applyOut, State.outCounted, hr, hi]

theorem State.endHostReq_frame {y : Elem} : Frame [.loopS, .flt, .acq] [] [] s (s.endHostReq c e x y) :=
  Frame.refl.step (State.endHostReq_parts (by simp) OnlyParts.refl)

theorem State.endHostReq_sample {y : Elem} : (s.endHostReq c e x y).loopS.sample = s.loopS.sample := by
  unfold State.endHostReq
  split <;> rfl

/-- R110: a request that the record still has, or did not have, does not end. -/
theorem State.endHostReq_same {y : Elem} (h : y.acq.hostReq = x.acq.hostReq) : s.endHostReq c e x y = s := by
  unfold State.endHostReq
  rw [h]
  cases x.acq.hostReq <;> rfl

/-! ### One iteration -/

/-- What an iteration makes of the record of its element. -/
def State.iterated (s : State) (c : Ctl) (e : Nat) (r : Reading) : Elem × IterOut :=
  if s.heldStale c e then (s.elem c e).held s.loopS.sample else (s.elem c e).iterate (s.ctx e) r

/-- The record stored and its outcome counted. -/
def State.iterationCounted (s : State) (c : Ctl) (e : Nat) (r : Reading) : State :=
  (s.setElem c e (s.iterated c e r).1).outCounted c (s.iterated c e r).2

theorem State.runIteration_eq : s.runIteration c e r =
    let u := ((s.setElem c e (s.iterated c e r).1).applyOut c e (s.iterated c e r).2).endHostReq c e (s.elem c e)
      (s.iterated c e r).1
    if (s.iterated c e r).1.mode = (s.elem c e).mode then u else u.elemEvent c 0x42 e := rfl

theorem State.runIteration_frame_counted :
    Frame [.loopS, .flt, .acq] [] [] (s.iterationCounted c e r) (s.runIteration c e r) := by
  have ended := (State.applyOut_frame (s := s.setElem c e (s.iterated c e r).1) (c := c) (e := e)
    (o := (s.iterated c e r).2)).trans (State.endHostReq_frame (c := c) (e := e) (x := s.elem c e)
      (y := (s.iterated c e r).1))
  rw [State.runIteration_eq]
  dsimp only
  split
  · exact ended
  · exact ended.trans State.elemEvent_frame

theorem State.iterationCounted_parts : OnlyParts [.loopA, .loopB] s (s.iterationCounted c e r) :=
  State.setLoops_parts (by simp) (State.setElem_parts (by simp) OnlyParts.refl)

theorem State.iterationCounted_turns : ((s.iterationCounted c e r).loops c).selPtr = (s.loops c).selPtr ∧
    ((s.iterationCounted c e r).loops c).selRun = (s.loops c).selRun := by
  cases c <;> exact ⟨rfl, rfl⟩

theorem State.elem_setLoops {l : CtlLoops} : (s.setLoops c l).elem c f = Sparse.get (fun _ => {}) l.elems f := by
  unfold State.elem
  rw [State.setLoops_loops_same]

/-- An iteration leaves the loops of its controller as counted, and those of the other alone. -/
theorem State.runIteration_loops :
    (s.runIteration c e r).loops c = (s.iterationCounted c e r).loops c ∧
    (s.runIteration c e r).loops (otherCtl c) = s.loops (otherCtl c) := by
  have hframe : OnlyParts [.regs, .ctrs, .loopS, .flt, .acq] (s.iterationCounted c e r) (s.runIteration c e r) :=
    (State.runIteration_frame_counted).1
  have hother : otherCtl c ≠ c := by cases c <;> decide
  refine ⟨State.loops_of_parts (by decide) hframe, (State.loops_of_parts (by decide) hframe).trans ?_⟩
  exact (State.setLoops_loops_other hother).trans (State.setLoops_loops_other hother)

theorem State.iterationCounted_elem : (s.iterationCounted c e r).elem c f =
    if f = e then (s.iterated c e r).1 else s.elem c f :=
  Eq.trans State.elem_setLoops State.setElem_elem

theorem State.elem_of_loops (h : t.loops c = s.loops c) : t.elem c f = s.elem c f := by
  unfold State.elem
  rw [h]

theorem State.runIteration_elem : (s.runIteration c e r).elem c f =
    if f = e then (s.iterated c e r).1 else s.elem c f :=
  (State.elem_of_loops (State.runIteration_loops).1).trans State.iterationCounted_elem

theorem State.runIteration_sample : (s.runIteration c e r).loopS.sample = s.loopS.sample := by
  have event : ∀ (u : State) (code : Nat), (u.elemEvent c code e).loopS = u.loopS := fun _ _ =>
    State.elemEvent_parts (P := [.acq]) (by simp) OnlyParts.refl .loopS (by decide)
  have counted : ∀ (u : State) (o : IterOut), (u.applyOut c e o).loopS = u.loopS := fun _ _ =>
    State.applyOut_parts (P := [.ctrs, .flt, .loopA, .loopB, .acq]) (by simp) OnlyParts.refl .loopS (by decide)
  have ended : (((s.setElem c e (s.iterated c e r).1).applyOut c e (s.iterated c e r).2).endHostReq c e (s.elem c e)
      (s.iterated c e r).1).loopS.sample = s.loopS.sample := by
    rw [State.endHostReq_sample, counted, State.setElem_parts (P := [.loopA, .loopB]) (by simp) OnlyParts.refl .loopS
      (by decide)]
  rw [State.runIteration_eq]
  dsimp only
  split
  · exact ended
  · rw [event, ended]

theorem State.runIteration_frame : Frame [.loopA, .loopB, .loopS, .flt, .acq] [] [] s (s.runIteration c e r) :=
  (Frame.refl.step ((State.iterationCounted_parts).mono (by simp))).trans
    ((State.runIteration_frame_counted).mono (by simp) (by simp) (by simp))

/-- Where an element is not STALE, its iteration is the loop law's. -/
theorem State.iterated_not_held (h : s.heldStale c e = false) :
    s.iterated c e r = (s.elem c e).iterate (s.ctx e) r := by
  rw [State.iterated, h]
  rfl

theorem State.iterated_held (h : s.heldStale c e = true) : s.iterated c e r = (s.elem c e).held s.loopS.sample := by
  rw [State.iterated, h]
  rfl

/-- What an iteration that is not held does: to its element what the loop law says, and to no other. -/
theorem State.runIteration_not_held (h : s.heldStale c e = false) :
    (s.runIteration c e r).elem c e = ((s.elem c e).iterate (s.ctx e) r).1 ∧
    (∀ f, f ≠ e → (s.runIteration c e r).elem c f = s.elem c f) ∧
    (s.runIteration c e r).loops (otherCtl c) = s.loops (otherCtl c) ∧
    (s.runIteration c e r).loopS.sample = s.loopS.sample ∧
    Frame [.loopA, .loopB, .loopS, .flt, .acq] [] [] s (s.runIteration c e r) := by
  refine ⟨?_, fun f hf => ?_, (State.runIteration_loops).2, State.runIteration_sample, State.runIteration_frame⟩
  · rw [State.runIteration_elem, if_pos rfl, State.iterated_not_held h]
  · rw [State.runIteration_elem, if_neg hf]

/-- An element that is STALE is begun, and its controller counts a probe that is discarded; nothing else happens (R95). -/
theorem State.runIteration_held (h : s.heldStale c e = true) : s.runIteration c e r = s.iterationCounted c e r := by
  have hheld := State.iterated_held (r := r) h
  have hmode : (s.iterated c e r).1.mode = (s.elem c e).mode := by rw [hheld]; rfl
  rw [State.runIteration_eq, if_pos hmode, State.applyOut_quiet (by rw [hheld]; rfl) (by rw [hheld]; rfl),
    State.endHostReq_same (by rw [hheld]; rfl)]
  rfl

/-! ### The reading that an iteration uses (R55, R56) -/

theorem State.reading_present {cap : Capture} (hcap : s.loopS.capPrev = some cap)
    (h : ∀ x ∈ elemTaps e, cap.has x = true) : s.reading e = some (s.readingOf cap e) := by
  simp only [State.reading, hcap]
  rw [if_pos (List.all_eq_true.2 h)]

theorem exec_elementIteration {e : Fin 4608} (hdue : s.iterationDue c e = true) (hr : s.reading e = some r) :
    exec (.elementIteration c e) s = .next (s.runIteration c e r) := by
  show Host.Outcome.next (s.elementIteration c e) = _
  rw [State.elementIteration, if_pos hdue, hr]

/-! ### Selectors (R57) -/

/-- The turn of a logical engine's selectors moved on. -/
def State.turnMoved (s : State) (c : Ctl) (l : Nat) : State :=
  s.setLoops c { s.loops c with
    selPtr := Sparse.set (fun _ => 0) (s.loops c).selPtr l (Sparse.get (fun _ => 0) (s.loops c).selPtr l + 1)
    selRun := Sparse.set (fun _ => 0) (s.loops c).selRun l (s.loopS.sample + 1) }

theorem exec_selectorIteration {l : Fin 48} (hrun : s.loopS.running = true) (hfirst : s.loopS.first = false)
    (hctl : s.ctlRuns c = true) (honce : Sparse.get (fun _ => 0) (s.loops c).selRun l < s.loopS.sample + 1)
    (hnext : s.nextSelector c l = some e) : exec (.selectorIteration c l) s =
      .next ((s.turnMoved c l).runIteration c e (((s.turnMoved c l).reading e).getD noReading)) := by
  show Host.Outcome.next (s.selectorIteration c l) = _
  rw [State.selectorIteration, if_pos (by simp [hrun, hfirst, hctl, honce]), hnext]
  rfl

theorem State.turnMoved_loops {l : Nat} : (s.turnMoved c l).loops c = { s.loops c with
    selPtr := Sparse.set (fun _ => 0) (s.loops c).selPtr l (Sparse.get (fun _ => 0) (s.loops c).selPtr l + 1)
    selRun := Sparse.set (fun _ => 0) (s.loops c).selRun l (s.loopS.sample + 1) } := State.setLoops_loops_same

theorem State.turnMoved_elem {l : Nat} : (s.turnMoved c l).elem c f = s.elem c f := State.elem_setLoops

/-- A reading is made of the capture and of the calibration in use. -/
theorem State.tapValue_congr {num : Int} {q : TapReading} (h : t.cal = s.cal) :
    t.tapValue f q num = s.tapValue f q num := by
  unfold State.tapValue State.auCal State.tapResp
  rw [h]

theorem State.selCarry_congr {cap : Capture} {n d : Nat} (h : t.cal = s.cal) :
    t.selCarry cap n d = s.selCarry cap n d := by
  induction d with
  | zero => exact State.tapValue_congr h
  | succ d ih => simp only [State.selCarry, State.tapValue_congr h, State.calElem, h, ih]

theorem State.readingOf_congr {cap : Capture} (h : t.cal = s.cal) : t.readingOf cap e = s.readingOf cap e := by
  have hpowers : t.powers cap e = s.powers cap e := by
    simp only [State.powers, State.tapValue_congr h, State.selCarry_congr h, State.calElem, h]
  unfold State.readingOf
  rw [hpowers]

theorem State.turnMoved_reading {l : Nat} : (s.turnMoved c l).reading e = s.reading e := by
  have hcal : (s.turnMoved c l).cal = s.cal := State.setLoops_cal
  have hloopS : (s.turnMoved c l).loopS = s.loopS := State.setLoops_loopS
  unfold State.reading
  rw [hloopS]
  simp only [State.readingOf_congr hcal]

theorem State.turnMoved_ctx {l : Nat} : (s.turnMoved c l).ctx e = s.ctx e := by
  cases c <;> rfl

theorem State.turnMoved_heldStale {l : Nat} : (s.turnMoved c l).heldStale c e = s.heldStale c e := by
  cases c <;> rfl

/-! ### IterationsRun -/

/-- Settles O7: an iteration that is due stores what the loop law computes from the reading that is present, or holds an
element that is STALE. Which element is due is iterationDue's; one whose readings are to come waits (assumption 3). -/
theorem iterationsRun : Obligations.IterationsRun := by
  unfold Obligations.IterationsRun
  refine ⟨?captured, ?present, ?held, ?waits, ?selector⟩
  case captured =>
    intro s c e cap hrun hfirst hctl hnext hcap hhas hstale
    have hdue : s.iterationDue c e = true := by simp [State.iterationDue, hrun, hfirst, hctl, hnext]
    exact ⟨_, exec_elementIteration hdue (State.reading_present hcap hhas), State.runIteration_not_held hstale⟩
  case present =>
    intro s c e r hdue hr hstale
    exact ⟨_, exec_elementIteration hdue hr, State.runIteration_not_held hstale⟩
  case held =>
    intro s c e r hdue hr hstale
    have helem : (s.runIteration c e r).elem c e = ((s.elem c e).held s.loopS.sample).1 := by
      rw [State.runIteration_elem, if_pos rfl, State.iterated_held hstale]
    refine ⟨_, exec_elementIteration hdue hr, ?_, ?_, ?_, ?_, ?_, ?_, fun f hf => ?_, (State.runIteration_loops).2, ?_⟩
    iterate 6
      rw [helem]
      rfl
    · rw [State.runIteration_elem, if_neg hf]
    · rw [State.runIteration_held hstale]
      exact Frame.refl.step State.iterationCounted_parts
  case waits =>
    intro s c e hr
    refine congrArg Host.Outcome.next (?_ : s.elementIteration c e = s)
    rw [State.elementIteration, hr, ite_self]
  case selector =>
    intro s c l e hrun hfirst hctl honce hnext hstale
    obtain ⟨helem, hothers, hctl', -, hframe⟩ := State.runIteration_not_held (s := s.turnMoved c l) (c := c) (e := e)
      (r := ((s.turnMoved c l).reading e).getD noReading) (by rw [State.turnMoved_heldStale, hstale])
    have hloops := (State.runIteration_loops (s := s.turnMoved c l) (c := c) (e := e)
      (r := ((s.turnMoved c l).reading e).getD noReading)).1
    have hother : otherCtl c ≠ c := by cases c <;> decide
    refine ⟨_, exec_selectorIteration hrun hfirst hctl honce hnext, ?_, ?_, ?_, fun f hf => ?_, ?_, ?_⟩
    · rw [helem, State.turnMoved_elem, State.turnMoved_ctx, State.turnMoved_reading]
    · rw [hloops, (State.iterationCounted_turns).1, State.turnMoved_loops, Sparse.get_set_same]
    · rw [hloops, (State.iterationCounted_turns).2, State.turnMoved_loops, Sparse.get_set_same]
    · rw [hothers f hf, State.turnMoved_elem]
    · exact hctl'.trans (State.setLoops_loops_other hother)
    · exact (Frame.refl.step (State.setLoops_parts (by simp) OnlyParts.refl)).trans hframe

end Sys2Proof.Machine

/-! SUPPORT. Register writes of the element loops: what a write of LPE_SWAP_CTRL, LPE_EXC and LPE_MODE_REQ does, and the
settlements of CoefficientBanks and TargetsAndModesWait. -/

namespace Sys2Proof.Machine

open Sys2Proof

variable {s t : State} {p : CmdPort} {v : Word} {a i n : Nat}

theorem bit_withBit_other {j : Nat} (h : j ≠ i) : bit (withBit v i) j = bit v j := getLsbD_setBit_other h

/-- Bits that are set one after the other are all set. -/
theorem foldl_wrBit_rdBit {l : List Nat} (h : i ∈ l ∨ s.rdBit a i = true) (hi : i < 32) :
    (l.foldl (fun t b => t.wrBit a b true) s).rdBit a i = true := by
  induction l generalizing s with
  | nil => simpa using h
  | cons j l ih =>
    refine ih ?_
    by_cases hij : i = j
    · exact .inr (hij ▸ State.wrBit_rdBit_same (hij ▸ hi))
    · refine h.imp (fun hmem => (List.mem_cons.1 hmem).resolve_left hij) fun hset => ?_
      exact (congrArg (bit · i) State.wr_rd_same).trans ((getLsbD_setBit_other hij).trans hset)

theorem foldl_wrBit_frame {l : List Nat} : Frame [] [a] [] s (l.foldl (fun t b => t.wrBit a b true) s) := by
  induction l generalizing s with
  | nil => exact Frame.refl
  | cons j l ih => exact (Frame.refl.wrBit (by simp)).trans ih

/-! ### LPE_SWAP_CTRL (R82, R83, R628) -/

theorem State.plainWrite_swapCtrl_frame : Frame [] [Reg.LPE_SWAP_CTRL] [] s (s.plainWrite p Reg.LPE_SWAP_CTRL v) := by
  rw [State.plainWrite_row rfl rfl rfl]
  exact Frame.refl.wr (by simp)

/-- LPE_SWAP_AT is another register than LPE_SWAP_CTRL. -/
theorem State.swapAtReg_of_frame {ps : List Part} (h : Frame ps [Reg.LPE_SWAP_CTRL] [] s t) :
    t.swapAtReg = s.swapAtReg := by
  unfold State.swapAtReg
  rw [h.2.1 _ (by decide), h.2.1 _ (by decide)]

theorem State.swapCancelBit_pending (h : s.loopS.swapAt = some n) : s.swapCancelBit =
    { s with loopS := { s.loopS with swapAt := none } }.wrBit Reg.LPE_SWAP_CTRL 10 true := by
  rw [State.swapCancelBit, h]

theorem State.swapCancelBit_none (h : s.loopS.swapAt = none) : s.swapCancelBit = s := by
  rw [State.swapCancelBit, h]

/-- A swap whose sample is still to come is scheduled where none is pending. -/
theorem State.swapReqBit_accepted (hnone : s.loopS.swapAt = none) (hcome : s.loopS.sample + 1 < s.swapAtReg) :
    s.swapReqBit = { s with loopS := { s.loopS with swapAt := some s.swapAtReg } } := by
  have hfree : s.swapRefusals = [] := by simp [State.swapRefusals, hnone, hcome]
  rw [State.swapReqBit, hfree]

/-- Any other request sets its refusal bits. -/
theorem State.swapReqBit_refused (h : s.loopS.swapAt ≠ none ∨ s.swapAtReg ≤ s.loopS.sample + 1) :
    s.swapReqBit = s.swapRefusals.foldl (fun t b => t.wrBit Reg.LPE_SWAP_CTRL b true) s := by
  have hsome : s.swapRefusals ≠ [] := by
    simp only [State.swapRefusals, ne_eq, List.append_eq_nil_iff, ite_eq_right_iff, List.cons_ne_nil, imp_false,
      Bool.not_eq_true, Option.isSome_eq_false_iff, Option.isNone_iff_eq_none, not_and_or, not_not]
    exact h
  unfold State.swapReqBit
  split
  · exact absurd ‹_› hsome
  · rfl

theorem State.mem_swapRefusals_pending (h : s.loopS.swapAt ≠ none) : 8 ∈ s.swapRefusals := by
  simp [State.swapRefusals, Option.isSome_iff_ne_none.2 h]

theorem State.mem_swapRefusals_late (h : s.swapAtReg ≤ s.loopS.sample + 1) : 9 ∈ s.swapRefusals := by
  simp [State.swapRefusals, h]

theorem exec_coeffBankWrite {l : Fin 48} {b : Fin 2} {w : Fin 32} (h : Permitted s p (coeffReg l b w) 1) :
    exec (.coeffBankWrite p l b w v) s = .next (s.writeCoeff p l b w v) :=
  congrArg Host.Outcome.next (State.access_permitted h)

/-- A request without CANCEL in its word. -/
theorem exec_swapReq (h : Permitted s p Reg.LPE_SWAP_CTRL 1) (hcancel : bit v 1 = false) :
    exec (.swapReq p v) s = .next (s.plainWrite p Reg.LPE_SWAP_CTRL (withBit v 0)).swapReqBit := by
  have hwrite : s.writeSwapCtrl p (withBit v 0) = (s.plainWrite p Reg.LPE_SWAP_CTRL (withBit v 0)).swapReqBit := by
    simp [State.writeSwapCtrl, bit_withBit, bit_withBit_other, hcancel]
  exact congrArg Host.Outcome.next ((State.access_permitted h).trans hwrite)

/-- A cancel acts before the request of its word. -/
theorem exec_swapCancel (h : Permitted s p Reg.LPE_SWAP_CTRL 1) : exec (.swapCancel p v) s =
    .next (if bit v 0 then (s.plainWrite p Reg.LPE_SWAP_CTRL (withBit v 1)).swapCancelBit.swapReqBit
      else (s.plainWrite p Reg.LPE_SWAP_CTRL (withBit v 1)).swapCancelBit) := by
  have hwrite : s.writeSwapCtrl p (withBit v 1) =
      if bit v 0 then (s.plainWrite p Reg.LPE_SWAP_CTRL (withBit v 1)).swapCancelBit.swapReqBit
      else (s.plainWrite p Reg.LPE_SWAP_CTRL (withBit v 1)).swapCancelBit := by
    simp [State.writeSwapCtrl, bit_withBit, bit_withBit_other]
  exact congrArg Host.Outcome.next ((State.access_permitted h).trans hwrite)

theorem State.coeffBankSwap_due (h : s.loopS.swapAt = some n) (hdue : n ≤ s.loopS.sample) : s.coeffBankSwap =
    { s with loopS := { s.loopS with activeBank := 1 - s.loopS.activeBank, swapAt := none } }.event 0x22 := by
  simp [State.coeffBankSwap, h, hdue]

/-! ### CoefficientBanks -/

/-- The state after the plain part of a write of LPE_SWAP_CTRL. -/
abbrev State.swapCtrlWritten (s : State) (p : CmdPort) (v : Word) : State := s.plainWrite p Reg.LPE_SWAP_CTRL v

theorem State.swapCtrlWritten_loopS : (s.swapCtrlWritten p v).loopS = s.loopS :=
  (State.plainWrite_swapCtrl_frame).1 .loopS (by decide)

theorem State.swapCtrlWritten_swapAtReg : (s.swapCtrlWritten p v).swapAtReg = s.swapAtReg :=
  State.swapAtReg_of_frame State.plainWrite_swapCtrl_frame

/-- A pending swap dropped: CANCELLED is set, and nothing else than the swap changes. -/
theorem State.swapCtrlWritten_cancelled (h : s.loopS.swapAt = some n) :
    (s.swapCtrlWritten p v).swapCancelBit.loopS = { s.loopS with swapAt := none } ∧
    (s.swapCtrlWritten p v).swapCancelBit.rdBit Reg.LPE_SWAP_CTRL 10 = true ∧
    Frame [.loopS] [Reg.LPE_SWAP_CTRL] [] s (s.swapCtrlWritten p v).swapCancelBit := by
  rw [State.swapCancelBit_pending (State.swapCtrlWritten_loopS (s := s) ▸ h)]
  refine ⟨?_, State.wrBit_rdBit_same (by omega), ?_⟩
  · rw [← State.swapCtrlWritten_loopS (s := s) (p := p) (v := v)]
    rfl
  · exact (((State.plainWrite_swapCtrl_frame).mono (by simp) (by simp) (by simp)).step
      (OnlyParts.set_loopS (by simp) OnlyParts.refl)).wrBit (by simp)

/-- Settles O9: a bank write goes by bankClosed, and a write of LPE_SWAP_CTRL by the equations of its CANCEL and its REQ,
on the state that its plain part leaves. -/
theorem coefficientBanks : Obligations.CoefficientBanks := by
  unfold Obligations.CoefficientBanks
  refine ⟨?written, ?closed, ?accepted, ?refused, ?cancelled, ?replaced, ?noneToCancel, ?swap⟩
  case written =>
    intro s p l b w v hperm hidle hnone
    have hopen : s.bankClosed b = false := by simpa [State.bankClosed, hnone, Fin.val_inj] using hidle
    exact ⟨_, exec_coeffBankWrite hperm, by rw [State.writeCoeff, hopen]; rfl⟩
  case closed =>
    intro s p l b w v hperm h
    have hclosed : s.bankClosed b = true := by
      simpa [State.bankClosed, Fin.val_inj, Option.isSome_iff_ne_none] using h
    have hexec : exec (.coeffBankWrite p l b w v) s = .next (s.wrBit Reg.LPE_SWAP_CTRL 11 true) :=
      (exec_coeffBankWrite hperm).trans (by rw [State.writeCoeff, hclosed]; rfl)
    exact ⟨_, hexec, State.wr_rd_same, Frame.refl.wrBit (by simp)⟩
  case accepted =>
    intro s p v hperm hcancel hnone hcome
    have hacc := State.swapReqBit_accepted (s := s.swapCtrlWritten p (withBit v 0))
      (by rw [State.swapCtrlWritten_loopS, hnone])
      (by rwa [State.swapCtrlWritten_loopS, State.swapCtrlWritten_swapAtReg])
    refine ⟨_, (exec_swapReq hperm hcancel).trans (congrArg _ hacc), ?_, ?_⟩
    · simp only [State.swapCtrlWritten_swapAtReg, State.swapCtrlWritten_loopS]
    · exact ((State.plainWrite_swapCtrl_frame).mono (by simp) (by simp) (by simp)).step
        (OnlyParts.set_loopS (by simp) OnlyParts.refl)
  case refused =>
    intro s p v hperm hcancel h
    have hloopS := State.swapCtrlWritten_loopS (s := s) (p := p) (v := withBit v 0)
    have hreg := State.swapCtrlWritten_swapAtReg (s := s) (p := p) (v := withBit v 0)
    have hframe : Frame [] [Reg.LPE_SWAP_CTRL] [] s ((s.swapCtrlWritten p (withBit v 0)).swapRefusals.foldl
        (fun t b => t.wrBit Reg.LPE_SWAP_CTRL b true) (s.swapCtrlWritten p (withBit v 0))) :=
      (State.plainWrite_swapCtrl_frame).trans foldl_wrBit_frame
    have href := State.swapReqBit_refused (s := s.swapCtrlWritten p (withBit v 0)) (by rwa [hloopS, hreg])
    refine ⟨_, (exec_swapReq hperm hcancel).trans (congrArg _ href), hframe.1 .loopS (by decide), fun hpend => ?_,
      fun hlate => ?_, hframe⟩
    · exact foldl_wrBit_rdBit (.inl (State.mem_swapRefusals_pending (by rwa [hloopS]))) (by omega)
    · exact foldl_wrBit_rdBit (.inl (State.mem_swapRefusals_late (by rwa [hloopS, hreg]))) (by omega)
  case cancelled =>
    intro s p v n hperm hreq hpend
    exact ⟨_, (exec_swapCancel hperm).trans (by rw [hreq]; rfl), State.swapCtrlWritten_cancelled hpend⟩
  case replaced =>
    intro s p v n hperm hreq hpend hcome
    obtain ⟨hloopS, hbit, hframe⟩ := State.swapCtrlWritten_cancelled (p := p) (v := withBit v 1) hpend
    have hreg := State.swapAtReg_of_frame hframe
    have hacc := State.swapReqBit_accepted (s := (s.swapCtrlWritten p (withBit v 1)).swapCancelBit) (by rw [hloopS])
      (by rwa [hloopS, hreg])
    refine ⟨_, (exec_swapCancel hperm).trans (congrArg _ ((if_pos hreq).trans hacc)), ?_, hbit,
      hframe.step (OnlyParts.set_loopS (by simp) OnlyParts.refl)⟩
    simp only [hreg, hloopS]
  case noneToCancel =>
    intro s p v hperm hreq hnone
    have hcancel := State.swapCancelBit_none (s := s.swapCtrlWritten p (withBit v 1))
      (by rw [State.swapCtrlWritten_loopS, hnone])
    exact ⟨_, (exec_swapCancel hperm).trans (by rw [hreq, hcancel]; rfl), State.swapCtrlWritten_loopS,
      State.plainWrite_swapCtrl_frame⟩
  case swap =>
    intro s n hpend hdue
    have hexec : exec .coeffBankSwap s = .next s.coeffBankSwap := rfl
    have hevent : ∀ u : State, OnlyParts [.acq] u (u.event 0x22) := fun _ => State.event_parts (by simp) OnlyParts.refl
    refine ⟨_, hexec.trans (congrArg _ (State.coeffBankSwap_due hpend hdue)), hevent _ .loopS (by decide), ?_⟩
    exact (Frame.refl.step (OnlyParts.set_loopS (by simp) OnlyParts.refl)).step ((hevent _).mono (by simp))

/-! ### Targets, excitation and mode requests (R60, R61, R90, R93, R124) -/

theorem State.plainWrite_loopS : (s.plainWrite p a v).loopS = s.loopS :=
  State.plainWrite_parts (P := [.regs, .ctrs, .sec]) (by simp) OnlyParts.refl .loopS (by decide)

theorem exec_targetWrite {e : Fin 5120} (h : Permitted s p (Reg.CEL_TARGET + 0x40 * e) 1) :
    exec (.targetWrite p e v) s = .next (s.writeTarget p e v) :=
  congrArg Host.Outcome.next (State.access_permitted h)

/-- The row of LPE_EXC: DEPTH and EN, both open. -/
abbrev excRow : RegRow := ⟨0x30, 0x4, 1, 0x3f, 0x0, 0x0, 0x0, 0x28⟩

theorem exec_excitationWrite (h : Permitted s p Reg.LPE_EXC 1) :
    exec (.excitationWrite p v) s = .next (s.wr Reg.LPE_EXC (excRow.next s.img.locked (s.rd Reg.LPE_EXC) v)) :=
  congrArg Host.Outcome.next ((State.access_permitted h).trans (State.plainWrite_row rfl rfl rfl))

/-- DEPTH and EN take the bits written. -/
theorem excRow_next_getLsbD {locked : Bool} {old : Word} (hi : i < 6) :
    (excRow.next locked old v).getLsbD i = v.getLsbD i := by
  cases locked <;> interval_cases i <;> simp [RegRow.next]

theorem State.plainWrite_modeReq_frame : Frame [] [Reg.LPE_MODE_REQ] [] s (s.plainWrite p Reg.LPE_MODE_REQ v) := by
  rw [State.plainWrite_row rfl rfl rfl]
  exact Frame.refl.wr (by simp)

theorem exec_modeRequest (h : Permitted s p Reg.LPE_MODE_REQ 1) :
    exec (.modeRequest p v) s = .next (s.writeModeReq p (withBit v 31)) :=
  congrArg Host.Outcome.next (State.access_permitted h)

/-- What makes a request of LPE_MODE_REQ a refused one (R124). -/
def State.modeReqRefused (s : State) (v : Word) : Prop :=
  5120 ≤ fld v 12 0 ∨ s.loopS.modeReq ≠ none ∨ modeOf (fld v 17 16) = .off ∨ s.isParked (fld v 12 0) = true

theorem State.isParked_congr {e : Nat} (h : t.mtx = s.mtx) : t.isParked e = s.isParked e := by
  unfold State.isParked
  rw [h]

theorem State.plainWrite_modeReq_isParked {e : Nat} {w : Word} :
    (s.plainWrite p Reg.LPE_MODE_REQ w).isParked e = s.isParked e :=
  State.isParked_congr ((State.plainWrite_modeReq_frame).1 .mtx (by decide))

theorem State.writeModeReq_accepted (h : fld v 12 0 < 5120) (hfree : s.loopS.modeReq = none)
    (hmode : modeOf (fld v 17 16) ≠ .off) (hpark : s.isParked (fld v 12 0) = false) :
    s.writeModeReq p (withBit v 31) = { s.plainWrite p Reg.LPE_MODE_REQ (withBit v 31) with
      loopS := { s.loopS with modeReq := some (⟨fld v 12 0, h⟩, modeOf (fld v 17 16)) } } := by
  simp [State.writeModeReq, bit_withBit, fld_withBit, State.plainWrite_loopS, State.plainWrite_modeReq_isParked, h, hfree,
    hmode, hpark]

theorem State.writeModeReq_refused (h : s.modeReqRefused v) : s.writeModeReq p (withBit v 31) =
    (s.plainWrite p Reg.LPE_MODE_REQ (withBit v 31)).wrBit Reg.LPE_MODE_REQ 30 true := by
  simp only [State.modeReqRefused, ← Option.isSome_iff_ne_none] at h
  by_cases he : fld v 12 0 < 5120
  · have h := h.resolve_left (by omega)
    simp [State.writeModeReq, bit_withBit, fld_withBit, State.plainWrite_loopS, State.plainWrite_modeReq_isParked, he, h,
      or_assoc]
  · simp [State.writeModeReq, bit_withBit, fld_withBit, he]

/-! ### TargetsAndModesWait -/

/-- Settles O10: each command writes its register, and what waits for the boundary is one field of the shared loops. -/
theorem targetsAndModesWait : Obligations.TargetsAndModesWait := by
  unfold Obligations.TargetsAndModesWait
  refine ⟨?target, ?excitation, ?accepted, ?refused⟩
  case target =>
    intro s p e v hperm
    refine ⟨_, exec_targetWrite hperm, ?_, OnlyParts.set_loopS (by simp) OnlyParts.refl⟩
    simp only [State.writeTarget, State.plainWrite_loopS]
  case excitation =>
    intro s p v hperm
    refine ⟨_, exec_excitationWrite hperm, ?_, ?_, Frame.refl.wr (by simp)⟩
    · rw [State.wr_rd_same]
      exact fld_congr (by omega) fun i _ hi => excRow_next_getLsbD (by omega)
    · rw [State.wr_rd_same]
      exact excRow_next_getLsbD (by omega)
  case accepted =>
    intro s p v h hperm hfree hmode hpark
    refine ⟨_, (exec_modeRequest hperm).trans (congrArg _ (State.writeModeReq_accepted h hfree hmode hpark)), rfl, ?_⟩
    exact ((State.plainWrite_modeReq_frame).mono (by simp) (by simp) (by simp)).step
      (OnlyParts.set_loopS (by simp) OnlyParts.refl)
  case refused =>
    intro s p v hperm h
    exact ⟨_, (exec_modeRequest hperm).trans (congrArg _ (State.writeModeReq_refused h)), State.plainWrite_loopS,
      State.wrBit_rdBit_same (by omega), (State.plainWrite_modeReq_frame).wrBit (by simp)⟩

end Sys2Proof.Machine

/-! SUPPORT. The sample boundary: what it leaves of the loops that both controllers share and of the engines, and the
settlement of SampleBoundary. -/

namespace Sys2Proof.Machine

open Sys2Proof

variable {s t u : State}

/-! ### Engines that stay -/

/-- Both controllers have the same engines in two states. -/
def EnginesKept (s t : State) : Prop := ∀ c, (t.loops c).engines = (s.loops c).engines

theorem EnginesKept.refl : EnginesKept s s := fun _ => rfl

theorem EnginesKept.trans (h : EnginesKept s t) (h' : EnginesKept t u) : EnginesKept s u :=
  fun c => (h' c).trans (h c)

theorem EnginesKept.of_parts {ps : List Part} (hps : Part.loopA ∉ ps ∧ Part.loopB ∉ ps) (h : OnlyParts ps s t) :
    EnginesKept s t := fun _ => congrArg CtlLoops.engines (State.loops_of_parts hps h)

theorem EnginesKept.foldl {α : Type} {f : State → α → State} {l : List α} (hf : ∀ s x, EnginesKept s (f s x)) :
    EnginesKept s (l.foldl f s) := by
  induction l generalizing s with
  | nil => exact EnginesKept.refl
  | cons x l ih => exact (hf s x).trans ih

theorem State.setLoops_enginesKept {c : Ctl} {l : CtlLoops} (h : l.engines = (s.loops c).engines) :
    EnginesKept s (s.setLoops c l) := fun d => by
  by_cases hd : d = c
  · subst hd
    rw [State.setLoops_loops_same, h]
  · rw [State.setLoops_loops_other hd]

theorem State.setElem_enginesKept {c : Ctl} {e : Nat} {x : Elem} : EnginesKept s (s.setElem c e x) :=
  State.setLoops_enginesKept rfl

theorem State.modElem_enginesKept {e : Nat} {f : Elem → Elem} : EnginesKept s (s.modElem e f) :=
  EnginesKept.trans State.setElem_enginesKept State.setElem_enginesKept

/-! ### A full calibration in the sample that ends keeps the engines (R171) -/

theorem State.driveHeater_enginesKept {e : Nat} {code : BitVec 24} : EnginesKept s (s.driveHeater e code) :=
  EnginesKept.trans State.modElem_enginesKept
    (.of_parts (by decide) (State.setChan_parts (P := [.drv]) (by simp) OnlyParts.refl))

theorem State.driveLevels_enginesKept {e : Nat} {bar cross : BitVec 14} : EnginesKept s (s.driveLevels e bar cross) :=
  .of_parts (by decide) (State.driveLevels_parts (P := [.drv]) (by simp) OnlyParts.refl)

theorem State.drivePoint_enginesKept {e : Nat} : EnginesKept s (s.drivePoint e) := by
  unfold State.drivePoint
  dsimp only
  split
  iterate 3 exact .trans State.driveHeater_enginesKept State.driveLevels_enginesKept
  iterate 3 exact State.driveLevels_enginesKept
  exact EnginesKept.refl

theorem State.clearOdd_enginesKept : EnginesKept s s.clearOdd := by
  unfold State.clearOdd
  split
  · exact EnginesKept.foldl fun _ _ => State.driveHeater_enginesKept
  · exact EnginesKept.refl

theorem State.setPoint_enginesKept : EnginesKept s s.setPoint := by
  have emitters : EnginesKept s s.pointEmitters :=
    .of_parts (by decide) (State.pointEmitters_parts (P := [.mtx]) (by simp) OnlyParts.refl)
  have selects : EnginesKept s.pointEmitters s.pointEmitters.pointSelects :=
    .of_parts (by decide) (State.pointSelects_parts (P := [.drv]) (by simp) OnlyParts.refl)
  have points : EnginesKept s.pointEmitters.pointSelects.clearOdd
      (s.pointEmitters.pointSelects.clearOdd.partElems.foldl State.drivePoint s.pointEmitters.pointSelects.clearOdd) :=
    EnginesKept.foldl fun _ _ => State.drivePoint_enginesKept
  have driven := (emitters.trans selects).trans (.trans State.clearOdd_enginesKept points)
  exact driven.trans (.of_parts (by decide) (OnlyParts.set_cal (P := [.cal]) (by simp) OnlyParts.refl))

theorem State.skipElem_enginesKept {full : Bool} {e : Nat} : EnginesKept s (s.skipElem full e) :=
  .of_parts (by decide) (State.skipElem_parts (P := [.ctrs, .flt, .cal]) (by simp) OnlyParts.refl)

theorem State.setMeas_enginesKept {e : Nat} {l : List Int} : EnginesKept s (s.setMeas e l) :=
  .of_parts (by decide) (State.setMeas_parts (P := [.cal]) (by simp) OnlyParts.refl)

theorem State.setCalElem_enginesKept {e : Nat} {c : CalElem} : EnginesKept s (s.setCalElem e c) :=
  .of_parts (by decide) (State.setCalElem_parts (P := [.cal]) (by simp) OnlyParts.refl)

theorem State.applySweep_enginesKept {e : Nat} : EnginesKept s (s.applySweep e) := by
  unfold State.applySweep
  dsimp only
  split
  · exact .trans State.setCalElem_enginesKept State.driveHeater_enginesKept
  · exact State.skipElem_enginesKept

theorem State.applyLevels_enginesKept {e : Nat} {bar cross : BitVec 14} : EnginesKept s (s.applyLevels e bar cross) :=
  .trans (.trans State.modElem_enginesKept State.setCalElem_enginesKept) State.driveLevels_enginesKept

theorem State.holdBest_enginesKept {e : Nat} : EnginesKept s (s.holdBest e) := by
  unfold State.holdBest
  split
  · exact State.driveHeater_enginesKept
  · exact EnginesKept.refl

theorem State.endElem_enginesKept {e : Nat} : EnginesKept s (s.endElem e) := by
  unfold State.endElem
  dsimp only
  split
  · exact State.holdBest_enginesKept
  · exact State.applySweep_enginesKept
  · exact State.applySweep_enginesKept
  · exact State.setMeas_enginesKept
  · exact State.setMeas_enginesKept
  · exact State.applyLevels_enginesKept
  · exact .of_parts (by decide) (State.applyResp_parts (P := [.cal]) (by simp) OnlyParts.refl)
  · exact EnginesKept.refl

/-- The end of a part changes records through the elements' own results alone. -/
theorem State.endPart_enginesKept : EnginesKept s s.endPart := by
  have elems : EnginesKept s (s.partElems.foldl State.endElem s) :=
    EnginesKept.foldl fun _ _ => State.endElem_enginesKept
  have ranges : ∀ (v : State) (l : List Nat), OnlyParts [.drv, .cal] v (l.foldl State.settleRange v) := fun _ _ =>
    OnlyParts.foldl (fun _ _ h => State.settleRange_parts (by simp) h) OnlyParts.refl
  refine elems.trans (.of_parts (ps := [.drv, .cal]) (by decide) ?_)
  unfold State.endPart
  dsimp only
  generalize s.partElems.foldl State.endElem s = v
  have settled : OnlyParts [.drv, .cal] v
      (if s.cal.part = 2 then (v.calElems v.cal.fStage).foldl State.settleRange v else v) := by
    split
    · exact ranges _ _
    · exact OnlyParts.refl
  split
  · exact State.beginPart_parts (by simp) settled
  · exact OnlyParts.set_cal (by simp) settled

theorem State.nextPoint_enginesKept : EnginesKept s s.nextPoint := by
  unfold State.nextPoint
  split
  · exact .of_parts (by decide) (OnlyParts.set_cal (P := [.cal]) (by simp) OnlyParts.refl)
  · exact State.endPart_enginesKept

theorem State.measureTaps_enginesKept {cap : Capture} : EnginesKept s (s.measureTaps cap) := by
  unfold State.measureTaps
  dsimp only
  split
  · exact .of_parts (by decide) (OnlyParts.set_cal (P := [.cal]) (by simp) OnlyParts.refl)
  · split
    · have refs : EnginesKept s (s.applyRefs cap) :=
        .of_parts (by decide) (State.applyRefs_parts (P := [.cal]) (by simp) OnlyParts.refl)
      exact refs.trans State.nextPoint_enginesKept
    · have skipped : EnginesKept s ((s.pointMisses cap).foldl (fun t e => t.skipElem true e) s) :=
        EnginesKept.foldl fun _ _ => State.skipElem_enginesKept
      exact (skipped.trans (EnginesKept.foldl fun _ _ => State.setMeas_enginesKept)).trans State.nextPoint_enginesKept

/-- The capture of the sample that ends, measured where a calibration waits for one. -/
def State.pointMeasured (s : State) : State :=
  if s.cal.since = 0 then s else
    match s.pointCap with
    | none => s
    | some cap => s.measureTaps cap

theorem State.fullSample_eq : s.fullSample = if s.fullRuns then
    if s.pointMeasured.cal.since = 0 && s.pointMeasured.fullRuns then s.pointMeasured.setPoint else s.pointMeasured
    else s := rfl

theorem State.pointMeasured_enginesKept : EnginesKept s s.pointMeasured := by
  unfold State.pointMeasured
  split
  · exact EnginesKept.refl
  · split
    · exact EnginesKept.refl
    · exact State.measureTaps_enginesKept

theorem State.fullSample_enginesKept : EnginesKept s s.fullSample := by
  rw [State.fullSample_eq]
  split
  · split
    · exact .trans State.pointMeasured_enginesKept State.setPoint_enginesKept
    · exact State.pointMeasured_enginesKept
  · exact EnginesKept.refl

/-! ### The sample that ends (R55) -/

theorem State.spoilProbes_enginesKept : EnginesKept s s.spoilProbes := fun c => by cases c <;> rfl

/-- The state copy takes over element records and turns, never engines (R425). -/
theorem State.sendCopy_enginesKept : EnginesKept s s.sendCopy := by
  have ofRed : ∀ (v : State) (r : RedSt), EnginesKept v { v with red := r } := fun _ _ =>
    .of_parts (by decide) (OnlyParts.set_red (P := [.red]) (by simp) OnlyParts.refl)
  have adopted : ∀ c d : Ctl, EnginesKept s (s.setLoops c ((s.loops c).adopt (s.loops d))) := fun _ _ =>
    State.setLoops_enginesKept rfl
  unfold State.sendCopy
  split
  · exact EnginesKept.refl
  · dsimp only
    split
    · exact ofRed _ _
    · split
      · exact ofRed _ _
      · split
        · exact ofRed _ _
        · exact (adopted _ _).trans (ofRed _ _)
    · exact EnginesKept.refl

theorem State.sampleEnds_enginesKept : EnginesKept s s.sampleEnds := by
  have units : EnginesKept s (((List.range 8).foldl State.loopSampleAt s).emitterRuns.lateUnits) :=
    .of_parts (ps := [.freeCtr, .regs, .ctrs, .cmd, .flt, .adc, .mtx, .acq]) (by decide)
      (State.lateUnits_parts (by simp) (State.emitterRuns_parts (by simp)
        (OnlyParts.foldl (fun _ _ h => State.loopSampleAt_parts (by simp) h) OnlyParts.refl)))
  have compared : ∀ v : State, EnginesKept v v.compareEnd.chansAtBoundary := fun _ =>
    .of_parts (ps := [.freeCtr, .regs, .ctrs, .cmd, .flt, .drv, .red, .acq]) (by decide)
      (State.chansAtBoundary_parts (by simp) (State.compareEnd_parts (by simp) OnlyParts.refl))
  exact (((units.trans State.fullSample_enginesKept).trans State.spoilProbes_enginesKept).trans
    State.sendCopy_enginesKept).trans (compared _)

theorem State.sampleEnds_loopS : s.sampleEnds.loopS = s.loopS :=
  State.sampleEnds_parts (P := [.freeCtr, .regs, .ctrs, .cmd, .flt, .loopA, .loopB, .drv, .adc, .mtx, .cal, .red, .acq])
    (by simp) OnlyParts.refl .loopS (by decide)

theorem State.sampleEnds_slt : s.sampleEnds.slt = s.slt :=
  State.sampleEnds_parts (P := [.freeCtr, .regs, .ctrs, .cmd, .flt, .loopA, .loopB, .drv, .adc, .mtx, .cal, .red, .acq])
    (by simp) OnlyParts.refl .slt (by decide)

/-! ### The work that waited for the boundary (R35, R87, R112) -/

/-- Of the loops that both controllers share only the waiting targets changed, and those that waited still do. -/
def TargetsMoved (s t : State) : Prop :=
  ∃ moved, t.loopS = { s.loopS with targetPend := s.loopS.targetPend ++ moved }

theorem TargetsMoved.refl : TargetsMoved s s := ⟨[], by rw [List.append_nil]⟩

theorem TargetsMoved.trans (h : TargetsMoved s t) (h' : TargetsMoved t u) : TargetsMoved s u := by
  obtain ⟨m, hm⟩ := h
  obtain ⟨n, hn⟩ := h'
  exact ⟨m ++ n, by rw [hn, hm, List.append_assoc]⟩

theorem TargetsMoved.foldl {α : Type} {f : State → α → State} {l : List α} (hf : ∀ s x, TargetsMoved s (f s x)) :
    TargetsMoved s (l.foldl f s) := by
  induction l generalizing s with
  | nil => exact TargetsMoved.refl
  | cons x l ih => exact (hf s x).trans ih

theorem State.setLoops_targetsMoved {c : Ctl} {l : CtlLoops} : TargetsMoved s (s.setLoops c l) :=
  ⟨[], by rw [State.setLoops_loopS, List.append_nil]⟩

theorem State.spareEngineTakeover_targetsMoved {c : Ctl} {l : Nat} : TargetsMoved s (s.spareEngineTakeover c l) := by
  unfold State.spareEngineTakeover
  dsimp only
  split
  · split
    · exact .trans State.setLoops_targetsMoved ⟨_, rfl⟩
    · exact TargetsMoved.refl
  · exact TargetsMoved.refl

theorem State.spareEngines_targetsMoved : TargetsMoved s s.spareEngines := by
  unfold State.spareEngines
  refine TargetsMoved.foldl fun s c => TargetsMoved.foldl fun s x => ?_
  split
  · exact State.spareEngineTakeover_targetsMoved
  · exact TargetsMoved.refl

theorem State.boundaryWork_targetsMoved : TargetsMoved s s.boundaryWork := by
  have parks : TargetsMoved s (if s.slt.running then s else s.dueParks) := by
    split
    · exact TargetsMoved.refl
    · exact TargetsMoved.foldl fun s e => ⟨_, State.effectPark_loopS⟩
  exact parks.trans State.spareEngines_targetsMoved

/-- Without a faulty engine no spare takes over. -/
theorem State.spareEngines_none_faulty (h : ∀ c, ∀ x ∈ (s.loops c).engines, x.2.role ≠ .faulty) :
    s.spareEngines = s := by
  have stays : ∀ (c : Ctl) (l : List (Nat × Engine)), (∀ x ∈ l, x.2.role ≠ .faulty) →
      l.foldl (fun s x => if x.2.role = .faulty then s.spareEngineTakeover c x.2.logical else s) s = s := by
    intro c l
    induction l with
    | nil => exact fun _ => rfl
    | cons x l ih =>
      intro hl
      rw [List.foldl_cons, if_neg (hl x List.mem_cons_self)]
      exact ih fun y hy => hl y (List.mem_cons_of_mem _ hy)
  unfold State.spareEngines
  rw [List.foldl_cons, List.foldl_cons, List.foldl_nil, stays _ _ (h .a), stays _ _ (h .b)]

theorem State.boundaryWork_none_waiting (hrun : s.slt.running = true)
    (h : ∀ c, ∀ x ∈ (s.loops c).engines, x.2.role ≠ .faulty) : s.boundaryWork = s := by
  rw [State.boundaryWork, if_pos hrun, State.spareEngines_none_faulty h]

/-! ### The sample that begins (R54, R55, R90) -/

/-- The course of the loops that both controllers share: what a boundary itself decides. -/
structure Course where
  sample : Nat
  first : Bool
  bnd : Nat
  capPrev : Option Capture
  capCur : Option Capture
  target : Sparse Word
  targetPend : List (Nat × Word)

def LoopShared.course (l : LoopShared) : Course :=
  { sample := l.sample, first := l.first, bnd := l.bnd, capPrev := l.capPrev, capCur := l.capCur, target := l.target
    targetPend := l.targetPend }

theorem TargetsMoved.course (h : TargetsMoved s t) :
    ∃ moved, t.loopS.course = { s.loopS.course with targetPend := moved } := by
  obtain ⟨moved, h⟩ := h
  exact ⟨s.loopS.targetPend ++ moved, congrArg LoopShared.course h⟩

theorem LoopShared.course_eq {l : LoopShared} {c : Course} (h : l.course = c) :
    l.sample = c.sample ∧ l.first = c.first ∧ l.bnd = c.bnd ∧ l.capPrev = c.capPrev ∧ l.capCur = c.capCur ∧
    l.target = c.target ∧ l.targetPend = c.targetPend := by
  subst h
  exact ⟨rfl, rfl, rfl, rfl, rfl, rfl, rfl⟩

/-- Two states stand at the same point of the loops. -/
def SampleKept (s t : State) : Prop := t.loopS.course = s.loopS.course

theorem SampleKept.of_loopS (h : t.loopS = s.loopS) : SampleKept s t := congrArg LoopShared.course h

theorem SampleKept.trans (h : SampleKept s t) (h' : SampleKept t u) : SampleKept s u := Eq.trans h' h

theorem SampleKept.of_parts {ps : List Part} (hps : Part.loopS ∉ ps) (h : OnlyParts ps s t) :
    SampleKept s t := .of_loopS (h .loopS hps)

theorem State.event_loopS {code : Nat} : (s.event code).loopS = s.loopS :=
  State.event_parts (P := [.acq]) (by simp) OnlyParts.refl .loopS (by decide)

theorem State.coeffBankSwap_sampleKept : SampleKept s s.coeffBankSwap := by
  unfold State.coeffBankSwap
  split
  · split
    · exact (congrArg LoopShared.course State.event_loopS).trans rfl
    · exact .of_loopS rfl
  · exact .of_loopS rfl

theorem State.applyModeReq_sampleKept : SampleKept s s.applyModeReq := by
  have mode : ∀ (e : Nat) (f : Elem → Elem), (s.modElem e f).loopS = s.loopS := fun _ _ =>
    State.modElem_parts (P := [.loopA, .loopB]) (by simp) OnlyParts.refl .loopS (by decide)
  unfold State.applyModeReq
  split
  · exact .of_loopS rfl
  · dsimp only
    split
    · exact .of_loopS rfl
    · split
      · rfl
      · split
        · exact .of_loopS (mode _ _)
        · exact congrArg (fun l => { l with modeReq := none }.course) (mode _ _)

theorem State.changeModes_sampleKept : SampleKept s s.changeModes :=
  have watched : SampleKept s.applyModeDue.applyModeReq s.changeModes :=
    .of_parts (by decide) (State.modeWatch_parts (P := [.acq]) (by simp) OnlyParts.refl)
  have due : SampleKept s s.applyModeDue := .of_loopS rfl
  (due.trans State.applyModeReq_sampleKept).trans watched

theorem State.nameStage_sampleKept : SampleKept s s.nameStage := by
  unfold State.nameStage
  split
  · split
    · exact .of_loopS rfl
    · unfold State.abandonStage
      split <;> rfl
  · split <;> rfl

/-- The state in which the work of a boundary begins. -/
def State.sampleOpened (s : State) : State :=
  { s with
    loopS := { (s.loopS.next.takeTargets).excite (s.rd Reg.LPE_EXC) with t0 := s.rootNow }
    img := { s.img with engines := s.img.nextEngines.getD s.img.engines, nextEngines := none }
    flt := { s.flt with outHeld := s.flt.outHeld && s.flt.safe } }

theorem State.sampleOpened_course : s.sampleOpened.loopS.course = s.loopS.next.takeTargets.course := rfl

theorem State.sampleOpened_slt : s.sampleOpened.slt = s.slt := rfl

theorem State.sampleOpened_enginesKept : EnginesKept s s.sampleOpened := fun c => by cases c <;> rfl

theorem State.sampleBegins_sampleKept : SampleKept s.sampleOpened.boundaryWork s.sampleBegins := by
  generalize hv : s.sampleOpened.boundaryWork = v
  have levels : ∀ v : State, SampleKept v (v.heatersAtBoundary.latchLevels.applyRangeReq.every256) := fun _ =>
    .of_parts (ps := [.regs, .drv, .cal, .red]) (by decide) (State.every256_parts (by simp)
      (State.applyRangeReq_parts (by simp) (State.latchLevels_parts (by simp)
        (State.heatersAtBoundary_parts (by simp) OnlyParts.refl))))
  have lends : ∀ v : State, SampleKept v ((List.range 8).foldl State.lendBoundary v) := fun _ =>
    .of_parts (ps := [.adc, .acq]) (by decide)
      (OnlyParts.foldl (fun _ _ h => State.lendBoundary_parts (by simp) h) OnlyParts.refl)
  have begins : s.sampleBegins = (List.range 8).foldl State.lendBoundary
      (v.coeffBankSwap.changeModes.heatersAtBoundary.latchLevels.applyRangeReq.every256.nameStage) := by
    rw [← hv]
    rfl
  rw [begins]
  exact ((((State.coeffBankSwap_sampleKept).trans State.changeModes_sampleKept).trans (levels _)).trans
    State.nameStage_sampleKept).trans (lends _)

/-- A boundary takes the course of the loops into the next sample, with the targets that its work moved; none moves where
Prism runs and no engine is faulty. -/
theorem State.loopSampleBoundary_course : ∃ moved,
    s.loopSampleBoundary.loopS.course = { s.loopS.next.takeTargets.course with targetPend := moved } ∧
    (s.slt.running = true → (∀ c, ∀ x ∈ (s.loops c).engines, x.2.role ≠ .faulty) → moved = []) := by
  have kept : s.loopSampleBoundary.loopS.course = (s.atPhase 0).sampleEnds.sampleOpened.boundaryWork.loopS.course :=
    State.sampleBegins_sampleKept
  have opened : (s.atPhase 0).sampleEnds.sampleOpened.loopS.course = s.loopS.next.takeTargets.course := by
    rw [State.sampleOpened_course, State.sampleEnds_loopS]
    rfl
  rw [kept]
  by_cases h : s.slt.running = true ∧ ∀ c, ∀ x ∈ (s.loops c).engines, x.2.role ≠ .faulty
  · obtain ⟨hrun, hfaulty⟩ := h
    have hphase : EnginesKept s (s.atPhase 0) := fun c => by cases c <;> rfl
    have hengines : EnginesKept s (s.atPhase 0).sampleEnds.sampleOpened :=
      (hphase.trans State.sampleEnds_enginesKept).trans State.sampleOpened_enginesKept
    have hprism : (s.atPhase 0).sampleEnds.sampleOpened.slt.running = true := by
      rw [State.sampleOpened_slt, State.sampleEnds_slt]
      exact hrun
    rw [State.boundaryWork_none_waiting hprism fun c x hx => hfaulty c x (hengines c ▸ hx), opened]
    exact ⟨[], rfl, fun _ _ => rfl⟩
  · obtain ⟨moved, hmoved⟩ := (State.boundaryWork_targetsMoved).course (s := (s.atPhase 0).sampleEnds.sampleOpened)
    rw [opened] at hmoved
    exact ⟨moved, hmoved, fun hrun hfaulty => absurd ⟨hrun, hfaulty⟩ h⟩

theorem LoopShared.course_next_under_way {l : LoopShared} (h : l.first = false) :
    l.next.takeTargets.course = { l.takeTargets.course with
      sample := l.sample + 1, bnd := l.bnd + 1, capPrev := l.capCur, capCur := none } := by
  simp [LoopShared.next, LoopShared.stepLfsr, LoopShared.takeTargets, LoopShared.course, h]

theorem LoopShared.course_next_first {l : LoopShared} (hrun : l.running = true) (h : l.first = true) :
    l.next.takeTargets.course = { l.takeTargets.course with
      first := false, bnd := l.bnd + 1, capPrev := l.capCur, capCur := none } := by
  simp [LoopShared.next, LoopShared.stepLfsr, LoopShared.takeTargets, LoopShared.course, h, hrun]

/-! ### SampleBoundary -/

theorem State.loopSampleBoundary_only : OnlyParts [.freeCtr, .regs, .ctrs, .cmd, .flt, .img, .tim, .loopA, .loopB, .loopS,
    .drv, .adc, .mtx, .cal, .red, .acq, .slt] s s.loopSampleBoundary :=
  State.loopSampleBoundary_parts (by simp) OnlyParts.refl

theorem exec_loopSampleBoundary : exec .loopSampleBoundary s = .next s.loopSampleBoundary := rfl

/-- Settles O11: the boundary computes the shared loops of the next sample from those of the one that ends, and nothing that
it does after that touches the sample, the captures or the targets in force; parks and spare engines may move targets
again (assumption 118). -/
theorem sampleBoundary : Obligations.SampleBoundary := by
  unfold Obligations.SampleBoundary
  refine ⟨?underWay, ?first⟩
  case underWay =>
    intro s _ hfirst
    obtain ⟨moved, hcourse, hmoved⟩ := State.loopSampleBoundary_course (s := s)
    rw [LoopShared.course_next_under_way hfirst] at hcourse
    obtain ⟨hsample, -, hbnd, hprev, hcur, htarget, hpend⟩ := LoopShared.course_eq hcourse
    exact ⟨_, exec_loopSampleBoundary, hsample, hbnd, hprev, hcur, htarget,
      fun hprism hfaulty => hpend.trans (hmoved hprism hfaulty), State.loopSampleBoundary_only⟩
  case first =>
    intro s hrun hfirst
    obtain ⟨moved, hcourse, -⟩ := State.loopSampleBoundary_course (s := s)
    rw [LoopShared.course_next_first hrun hfirst] at hcourse
    obtain ⟨hsample, hfirst', hbnd, -, hcur, -, -⟩ := LoopShared.course_eq hcourse
    exact ⟨_, exec_loopSampleBoundary, hsample, hfirst', hbnd, hcur, State.loopSampleBoundary_only⟩

end Sys2Proof.Machine

/-! SUPPORT. The slew limiters of the drive-and-sense die: what one tick does to an output and its count, what a tick
leaves of the other channels, and the settlement of SlewLimited. -/

namespace Sys2Proof.Machine

open Sys2Proof

variable {s t : State} {e f kind : Nat} {c : Chan} {out goal : BitVec 24} {count step rate : Nat} {guard : Bool}

theorem nz_pos {n : Nat} : 0 < nz n := by
  unfold nz
  split <;> omega

/-! ### A step toward a code (R129) -/

theorem slewMove_toNat : (slewMove out goal step).toNat =
    if out.toNat ≤ goal.toNat then min goal.toNat (out.toNat + step) else max goal.toNat (out.toNat - step) := by
  have hout := out.isLt
  have hgoal := goal.isLt
  unfold slewMove
  split <;> rw [BitVec.toNat_ofNat, Nat.mod_eq_of_lt (by omega)]

theorem slewMove_between : min out.toNat goal.toNat ≤ (slewMove out goal step).toNat ∧
    (slewMove out goal step).toNat ≤ max out.toNat goal.toNat := by
  rw [slewMove_toNat]
  split <;> omega

theorem slewMove_within_step : (slewMove out goal step).toNat ≤ out.toNat + step ∧
    out.toNat ≤ (slewMove out goal step).toNat + step := by
  rw [slewMove_toNat]
  split <;> omega

theorem slewMove_ne (hstep : 0 < step) (h : out ≠ goal) : slewMove out goal step ≠ out := by
  have hnat : out.toNat ≠ goal.toNat := fun heq => h (BitVec.eq_of_toNat_eq heq)
  intro heq
  have hmove := congrArg BitVec.toNat heq
  rw [slewMove_toNat] at hmove
  split at hmove <;> omega

/-! ### A tick of a limiter (R129, R130) -/

theorem slewTick_at_rest (h : out = goal) : slewTick out goal count guard step rate = (out, 255, false) := if_pos h

theorem slewTick_waits (h : out ≠ goal) (hcount : count + 1 < rate) :
    slewTick out goal count guard step rate = (out, count + 1, false) := by
  rw [slewTick, if_neg h, if_neg (by omega)]

theorem slewTick_held (h : out ≠ goal) (hdue : rate ≤ count + 1) :
    slewTick out goal count true step rate = (out, 0, true) := by
  rw [slewTick, if_neg h, if_pos hdue, if_pos rfl]

theorem slewTick_moves (h : out ≠ goal) (hdue : rate ≤ count + 1) : slewTick out goal count false step rate =
    (slewMove out goal step, slewCount (slewMove out goal step) goal, false) := by
  rw [slewTick, if_neg h, if_pos hdue]
  rfl

/-- A tick leaves the output or takes one step. -/
theorem slewTick_out : (slewTick out goal count guard step rate).1 = out ∨
    (slewTick out goal count guard step rate).1 = slewMove out goal step := by
  by_cases h : out = goal
  · exact .inl (congrArg Prod.fst (slewTick_at_rest h))
  · by_cases hdue : rate ≤ count + 1
    · cases guard
      · exact .inr (congrArg Prod.fst (slewTick_moves h hdue))
      · exact .inl (congrArg Prod.fst (slewTick_held h hdue))
    · exact .inl (congrArg Prod.fst (slewTick_waits h (by omega)))

theorem slewTick_bounds :
    (min out.toNat goal.toNat ≤ (slewTick out goal count guard step rate).1.toNat ∧
      (slewTick out goal count guard step rate).1.toNat ≤ max out.toNat goal.toNat) ∧
    (slewTick out goal count guard step rate).1.toNat ≤ out.toNat + step ∧
    out.toNat ≤ (slewTick out goal count guard step rate).1.toNat + step := by
  obtain hstays | hmoves := slewTick_out (out := out) (goal := goal) (count := count) (guard := guard) (step := step)
    (rate := rate)
  · rw [hstays]
    omega
  · rw [hmoves]
    exact ⟨slewMove_between, slewMove_within_step⟩

/-- The count after a step: 0, or at RATE where the step reaches the code. -/
theorem slewCount_cases : slewCount out goal = 0 ∨ (out = goal ∧ slewCount out goal = 255) := by
  unfold slewCount
  split
  · exact .inr ⟨‹_›, rfl⟩
  · exact .inl rfl

/-! ### SLEW_STEP (R131, R413) -/

/-- The tick of the limiter on the codes of the active controller. -/
def State.outTick (s : State) (e : Nat) : BitVec 24 × Nat × Bool :=
  slewTick (s.chan e).out ((s.chan e).goal (s.chan e).latest) (s.chan e).count s.drv.inGuard
    (s.slew (s.chan e).range1).1 (s.slew (s.chan e).range1).2

/-- The tick of the limiter on the codes of the other controller. -/
def State.otherTick (s : State) (e : Nat) : BitVec 24 × Nat × Bool :=
  slewTick (s.chan e).outSb ((s.chan e).goal (s.chan e).latestSb) (s.chan e).countSb s.drv.inGuard
    (s.slew (s.chan e).range1).1 (s.slew (s.chan e).range1).2

/-- A channel after a tick of both its limiters. -/
def State.tickedChan (s : State) (e : Nat) : Chan :=
  { s.chan e with
    out := (s.outTick e).1, count := (s.outTick e).2.1, deferred := (s.chan e).deferred || (s.outTick e).2.2
    outSb := (s.otherTick e).1, countSb := (s.otherTick e).2.1
    deferredSb := (s.chan e).deferredSb || (s.otherTick e).2.2 }

theorem State.mismatch_frame : Frame [.cmd, .red] [Reg.CMD_IRQ_PENDING] [0x700020] s (s.mismatch e kind) := by
  unfold State.mismatch
  dsimp only
  split
  · exact ((Frame.refl.step (OnlyParts.set_red (by simp) OnlyParts.refl)).bump (by simp)).irqIf (by simp) (by simp)
  · split
    · exact Frame.refl
    · exact Frame.refl.step (OnlyParts.set_red (by simp) OnlyParts.refl)

/-- Beside the tick of its channel, SLEW_STEP records a mismatch at most. -/
theorem State.slewStep_frame_ticked :
    Frame [.cmd, .red] [Reg.CMD_IRQ_PENDING] [0x700020] (s.setChan e (s.tickedChan e)) (s.slewStep e) := by
  unfold State.slewStep
  dsimp only
  split
  · exact State.mismatch_frame
  · exact Frame.refl

theorem State.slewStep_drv : (s.slewStep e).drv = (s.setChan e (s.tickedChan e)).drv :=
  (State.slewStep_frame_ticked).1 .drv (by decide)

theorem State.slewStep_chan_same : (s.slewStep e).chan e = s.tickedChan e :=
  (State.chan_congr State.slewStep_drv).trans State.setChan_chan_same

theorem State.slewStep_chan_other (h : f ≠ e) : (s.slewStep e).chan f = s.chan f :=
  (State.chan_congr State.slewStep_drv).trans (State.setChan_chan_other h)

theorem State.slewStep_frame :
    Frame [.cmd, .drv, .red] [Reg.CMD_IRQ_PENDING] [0x700020] s (s.slewStep e) :=
  (Frame.refl.step (State.setChan_parts (by simp) OnlyParts.refl)).trans
    ((State.slewStep_frame_ticked).mono (by simp) (by simp) (by simp))

/-- No photonic shut-down waits for the outputs to reach 0. -/
theorem State.picSettle_off (h : s.drv.picOff = false) : s.picSettle = s := by
  simp [State.picSettle, h]

theorem State.slewStep_sel : (s.slewStep e).drv.sel = s.drv.sel := by
  rw [State.slewStep_drv]
  rfl

theorem exec_slewStep {e : Fin 5120} (h : s.drv.picOff = false) : exec (.slewStep e) s = .next (s.slewStep e) := by
  have hpic : (s.slewStep e).drv.picOff = false := (congrArg DrvSt.picOff State.slewStep_drv).trans h
  exact congrArg Host.Outcome.next (State.picSettle_off hpic)

/-- R127: the current is rounded down to the pA. -/
theorem Chan.picoamps_rounded_down :
    c.picoamps * 16777216 ≤ (if c.range1 then 20000000000 else 5000000000) * c.out.toNat ∧
    (if c.range1 then 20000000000 else 5000000000) * c.out.toNat < (c.picoamps + 1) * 16777216 := by
  unfold Chan.picoamps
  exact ⟨Nat.div_mul_le_self _ _, Nat.lt_mul_of_div_lt (Nat.lt_succ_self _) (by decide)⟩

/-- Settles O12: the channel after SLEW_STEP is the ticked one, and each clause is an equation of the limiter's tick. That
a mismatch of the two limiters is recorded with the step is the model's choice (assumption 13). -/
theorem slewLimited : Obligations.SlewLimited := by
  unfold Obligations.SlewLimited
  refine ⟨?step, fun _ => Chan.picoamps_rounded_down⟩
  case step =>
    intro s e hpic
    refine ⟨_, exec_slewStep hpic, ?_⟩
    dsimp only
    rw [State.slewStep_chan_same]
    refine ⟨slewTick_bounds.1, slewTick_bounds.2.1, slewTick_bounds.2.2, ?rest, ?waits, ?held, ?moves, rfl,
      fun _ => State.slewStep_chan_other, State.slewStep_sel, State.slewStep_frame⟩
    case rest =>
      intro h
      have htick : s.outTick e = ((s.chan e).out, 255, false) := slewTick_at_rest h
      exact ⟨congrArg Prod.fst htick, congrArg (·.2.1) htick⟩
    case waits =>
      intro h hcount
      have htick : s.outTick e = ((s.chan e).out, (s.chan e).count + 1, false) := slewTick_waits h hcount
      exact ⟨congrArg Prod.fst htick, congrArg (·.2.1) htick⟩
    case held =>
      intro h hdue hguard
      have htick : s.outTick e = ((s.chan e).out, 0, true) := by
        rw [State.outTick, hguard]
        exact slewTick_held h hdue
      refine ⟨congrArg Prod.fst htick, ?_, congrArg (·.2.1) htick⟩
      simp [State.tickedChan, htick]
    case moves =>
      intro h hdue hguard
      have htick := slewTick_moves (step := (s.slew (s.chan e).range1).1) h hdue
      rw [← hguard] at htick
      have hout : (s.tickedChan e).out = _ := congrArg Prod.fst htick
      have hcount : (s.tickedChan e).count = _ := congrArg (·.2.1) htick
      rw [hout, hcount]
      exact ⟨slewMove_ne nz_pos h, slewCount_cases⟩

end Sys2Proof.Machine

/-! SUPPORT. The flags of a channel: what a flag that is set counts and reports, and the settlement of
ComplianceAndOpenLoad. -/

namespace Sys2Proof.Machine

open Sys2Proof

variable {s : State} {e i ctr : Nat} {c : Chan}

/-- A channel that takes a flag: counted, reported as a transient fault of its element, with the interrupt of CNV_CTRL. -/
def State.flagChan (s : State) (e : Nat) (c : Chan) (ctr i : Nat) : State :=
  (((s.setChan e c).bump ctr 1).raise (elemCode e) 1).irqIf Reg.CNV_CTRL i 7

/-- The report and the interrupt leave the channels and the counters. -/
theorem State.flagChan_frame_counted :
    Frame [.cmd, .flt] [Reg.CMD_IRQ_PENDING] [] ((s.setChan e c).bump ctr 1) (s.flagChan e c ctr i) :=
  (Frame.refl.raise (by simp) (by decide)).irqIf (by simp) (by simp)

theorem State.flagChan_sent : (s.flagChan e c ctr i).flt.sent = s.flt.sent ++
    [{ code := elemCode e, cls := 1, sec := s.tim.dt.sec, ns := s.tim.dt.ns }] := by
  have hflt : (s.flagChan e c ctr i).flt = (((s.setChan e c).bump ctr 1).raise (elemCode e) 1).flt :=
    (State.irqIf_frame).1 .flt (by decide)
  rw [hflt]
  exact State.raise_sent (by decide)

/-- What a flag that is set changes, and that it changes nothing else. -/
theorem State.flagChan_changes :
    (s.flagChan e c ctr i).chan e = c ∧ (∀ f, f ≠ e → (s.flagChan e c ctr i).chan f = s.chan f) ∧
    (s.flagChan e c ctr i).ctr ctr = s.ctr ctr + 1 ∧
    (s.flagChan e c ctr i).flt.sent = s.flt.sent ++
      [{ code := elemCode e, cls := 1, sec := s.tim.dt.sec, ns := s.tim.dt.ns }] ∧
    Frame [.cmd, .flt, .drv] [Reg.CMD_IRQ_PENDING] [ctr] s (s.flagChan e c ctr i) := by
  have hframe := State.flagChan_frame_counted (s := s) (e := e) (c := c) (ctr := ctr) (i := i)
  have hdrv : (s.flagChan e c ctr i).drv = (s.setChan e c).drv := hframe.1 .drv (by decide)
  refine ⟨(State.chan_congr hdrv).trans State.setChan_chan_same,
    fun f hf => (State.chan_congr hdrv).trans (State.setChan_chan_other hf),
    (hframe.2.2 _ (by simp)).trans State.bump_ctr_same, State.flagChan_sent, ?_⟩
  exact ((Frame.refl.step (State.setChan_parts (by simp) OnlyParts.refl)).bump (by simp)).trans
    (hframe.mono (by simp) (by simp) (by simp))

/-- What the replacement of one channel changes, and that it changes nothing else. -/
theorem State.setChan_changes : (s.setChan e c).chan e = c ∧ (∀ f, f ≠ e → (s.setChan e c).chan f = s.chan f) ∧
    Frame [.drv] [] [] s (s.setChan e c) :=
  ⟨State.setChan_chan_same, fun _ => State.setChan_chan_other,
    Frame.refl.step (State.setChan_parts (by simp) OnlyParts.refl)⟩

theorem State.complianceSet_clear (h : (s.chan e).compliance = false) : s.complianceSet e =
    s.flagChan e { s.chan e with compliance := true, headroom := true } 0x900040 0 := by
  simp only [State.complianceSet, h]
  rfl

theorem State.complianceSet_standing (h : (s.chan e).compliance = true) :
    s.complianceSet e = s.setChan e { s.chan e with headroom := true } := by
  simp only [State.complianceSet, h, if_true]

theorem Chan.openCheck_iff : c.openCheck = true ↔ 0x100000 ≤ c.out.toNat ∧ c.phase = .idle := by
  simp [Chan.openCheck]

theorem State.openloadSet_clear (hrun : (s.chan e).openCheck = true) (h : (s.chan e).openload = false) :
    s.openloadSet e = s.flagChan e { s.chan e with openload := true } 0x900044 1 := by
  simp only [State.openloadSet, hrun, h]
  rfl

/-- Outside its conditions the comparison does not run, and neither command does anything. -/
theorem State.openload_unchecked (h : (s.chan e).openCheck = false) : s.openloadSet e = s ∧ s.openloadClear e = s := by
  simp [State.openloadSet, State.openloadClear, h]

theorem State.openloadClear_checked (h : (s.chan e).openCheck = true) :
    s.openloadClear e = s.setChan e { s.chan e with openload := false } := if_pos h

/-- Settles O13: each command by its equation: a flag that is newly set goes through flagChan, any other change of a flag
is a change of its channel alone. -/
theorem complianceAndOpenLoad : Obligations.ComplianceAndOpenLoad := by
  unfold Obligations.ComplianceAndOpenLoad
  refine ⟨?complianceNew, ?complianceStands, ?openloadNew, ?unchecked, ?cleared⟩
  case complianceNew =>
    intro s e h
    exact ⟨_, congrArg Host.Outcome.next (State.complianceSet_clear h), State.flagChan_changes⟩
  case complianceStands =>
    intro s e h
    exact ⟨_, congrArg Host.Outcome.next (State.complianceSet_standing h), State.setChan_changes⟩
  case openloadNew =>
    intro s e hout hidle h
    exact ⟨_, congrArg Host.Outcome.next (State.openloadSet_clear (Chan.openCheck_iff.2 ⟨hout, hidle⟩) h),
      State.flagChan_changes⟩
  case unchecked =>
    intro s e h
    have hoff : (s.chan e).openCheck = false := Bool.eq_false_iff.2 fun hrun => by
      obtain ⟨hout, hidle⟩ := Chan.openCheck_iff.1 hrun
      exact h.elim (fun hlow => absurd hout (by omega)) fun hbusy => hbusy hidle
    obtain ⟨hset, hclear⟩ := State.openload_unchecked hoff
    exact ⟨congrArg Host.Outcome.next hset, congrArg Host.Outcome.next hclear⟩
  case cleared =>
    intro s e hout hidle
    exact ⟨_, congrArg Host.Outcome.next (State.openloadClear_checked (Chan.openCheck_iff.2 ⟨hout, hidle⟩)),
      State.setChan_changes⟩

end Sys2Proof.Machine

/-! SUPPORT. Range changes of a heater channel: the request and its register, the values of both controllers in the other
range, and the settlement of RangeChange. -/

namespace Sys2Proof.Machine

open Sys2Proof

variable {s : State} {p : CmdPort} {v : Word} {e f : Nat} {c : Ctl} {x : Elem} {ce : CalElem} {limit : Int}

/-! ### CNV_RANGE_REQ (R135) -/

theorem State.plainWrite_rangeReq_frame : Frame [] [Reg.CNV_RANGE_REQ] [] s (s.plainWrite p Reg.CNV_RANGE_REQ v) := by
  rw [State.plainWrite_row rfl rfl rfl]
  exact Frame.refl.wr (by simp)

theorem State.plainWrite_rangeReq_drv : (s.plainWrite p Reg.CNV_RANGE_REQ v).drv = s.drv :=
  (State.plainWrite_rangeReq_frame).1 .drv (by decide)

theorem State.writeRangeReq_accepted (h : fld v 12 0 < 5120) (hfree : s.drv.rangeReq = none) :
    s.writeRangeReq p (withBit v 31) = { s.plainWrite p Reg.CNV_RANGE_REQ (withBit v 31) with
      drv := { s.drv with rangeReq := some (⟨fld v 12 0, h⟩, bit v 16) } } := by
  simp [State.writeRangeReq, State.plainWrite_rangeReq_drv, bit_withBit, bit_withBit_other, fld_withBit, h, hfree]

theorem State.writeRangeReq_ineffective (h : 5120 ≤ fld v 12 0 ∨ s.drv.rangeReq ≠ none) :
    s.writeRangeReq p (withBit v 31) = s.plainWrite p Reg.CNV_RANGE_REQ (withBit v 31) := by
  by_cases he : fld v 12 0 < 5120
  · simp [State.writeRangeReq, State.plainWrite_rangeReq_drv, h.resolve_left (by omega)]
  · simp [State.writeRangeReq, fld_withBit, he]

theorem exec_rangeRequest (h : Permitted s p Reg.CNV_RANGE_REQ 1) :
    exec (.rangeRequest p v) s = .next (s.writeRangeReq p (withBit v 31)) :=
  congrArg Host.Outcome.next (State.access_permitted h)

/-! ### The values in the other range (R136) -/

/-- A quarter rounded to nearest, ties away from zero. -/
theorem divNear_four (n : Nat) : divNear n 4 = ((n + 2) / 4 : Nat) := by
  have hsign : ¬ (((n : Int) < 0) ≠ ((4 : Int) < 0)) := by simp
  have hquot : (2 * n + 4) / (2 * 4) = (n + 2) / 4 := by omega
  simp only [divNear, if_neg hsign, Int.natAbs_natCast]
  exact congrArg Nat.cast hquot

theorem ofInt_clampI_natCast (n : Nat) :
    BitVec.ofInt 24 (clampI 0 16777215 n) = BitVec.ofNat 24 (min 16777215 n) := by
  have hclamp : clampI 0 16777215 n = (min 16777215 n : Nat) := by
    unfold clampI
    omega
  rw [hclamp, BitVec.ofInt_natCast]

theorem Elem.rescale_up_heater : (x.rescale true limit).heater = BitVec.ofNat 24 ((x.heater.toNat + 2) / 4) := by
  have hlt := x.heater.isLt
  have hmin : min 16777215 ((x.heater.toNat + 2) / 4) = (x.heater.toNat + 2) / 4 := by omega
  calc (x.rescale true limit).heater
      = BitVec.ofInt 24 (clampI 0 16777215 (divNear x.heater.toNat 4)) := rfl
    _ = BitVec.ofNat 24 ((x.heater.toNat + 2) / 4) := by rw [divNear_four, ofInt_clampI_natCast, hmin]

theorem Elem.rescale_down_heater :
    (x.rescale false limit).heater = BitVec.ofNat 24 (min 16777215 (4 * x.heater.toNat)) :=
  ofInt_clampI_natCast (4 * x.heater.toNat)

/-- An element's records in both controllers, and its LIN in use, in the other range. -/
def State.inOtherRange (s : State) (e : Nat) : State :=
  let up := !(s.chan e).range1
  let s1 := s.modElem e fun x => x.rescale up
    ((s.coeffs (s.engineOf e).1 s.loopS.activeBank).intLimit * 256 : Nat)
  s1.setCalElem e { s1.calElem e with linUse := (s1.calElem e).linUse.map fun x => (rescale up (x : Int)).toNat }

/-- The channel at the switch: the output holds, and the rescaled code waits but under a photonic shut-down. -/
def State.switchedChan (s : State) (e : Nat) : Chan :=
  { s.chan e with
    phase := .hold
    latest := if s.drv.picOff then 0 else ((s.inOtherRange e).elem s.actCtl e).heater
    latestSb := if s.drv.picOff then 0 else ((s.inOtherRange e).elem (otherCtl s.actCtl) e).heater }

theorem State.rangeSwitch_ramped (hphase : (s.chan e).phase = .down) (hout : (s.chan e).out = 0) :
    s.rangeSwitch e = (s.inOtherRange e).setChan e (s.switchedChan e) := if_pos ⟨hphase, hout⟩

theorem State.inOtherRange_parts : OnlyParts [.loopA, .loopB, .cal] s (s.inOtherRange e) :=
  State.setCalElem_parts (by simp) (State.modElem_parts (by simp) OnlyParts.refl)

theorem State.inOtherRange_chan : (s.inOtherRange e).chan f = s.chan f :=
  State.chan_congr (State.inOtherRange_parts .drv (by decide))

theorem State.calElem_congr {t : State} (h : t.cal = s.cal) : t.calElem f = s.calElem f := by
  unfold State.calElem
  rw [h]

theorem State.inOtherRange_calElem_other (h : f ≠ e) : (s.inOtherRange e).calElem f = s.calElem f :=
  (State.setCalElem_calElem_other h).trans
    (State.calElem_congr (State.modElem_parts (P := [.loopA, .loopB]) (by simp) OnlyParts.refl .cal (by decide)))

theorem State.setChan_elem {x : Chan} : (s.setChan e x).elem c f = s.elem c f := State.elem_congr rfl rfl

theorem State.setChan_calElem {x : Chan} : (s.setChan e x).calElem f = s.calElem f :=
  State.calElem_congr State.setChan_cal

theorem State.setCalElem_elem : (s.setCalElem e ce).elem c f = s.elem c f := State.elem_congr rfl rfl

theorem State.inOtherRange_elem : (s.inOtherRange e).elem c f =
    if f = e then (s.elem c f).rescale (!(s.chan e).range1)
      ((s.coeffs (s.engineOf e).1 s.loopS.activeBank).intLimit * 256 : Nat)
    else s.elem c f := by
  unfold State.inOtherRange
  dsimp only
  rw [State.setCalElem_elem, State.modElem_elem]

theorem State.inOtherRange_heater : ((s.inOtherRange e).elem c e).heater =
    if (s.chan e).range1 then BitVec.ofNat 24 (min 16777215 (4 * (s.elem c e).heater.toNat))
    else BitVec.ofNat 24 (((s.elem c e).heater.toNat + 2) / 4) := by
  rw [State.inOtherRange_elem, if_pos rfl]
  cases (s.chan e).range1
  · exact Elem.rescale_up_heater
  · exact Elem.rescale_down_heater

/-! ### The end of a range change (R136, R137, R182) -/

theorem State.rangeRampBack_hold (h : (s.chan e).phase = .hold) : s.rangeRampBack e =
    s.setChan e { s.chan e with phase := .up, range1 := !(s.chan e).range1 } := if_pos h

/-- A LIN that waited for the end of a range change is taken into use. -/
def CalElem.linTaken (ce : CalElem) (range1 : Bool) : CalElem :=
  if ce.linPend then { ce with linUse := linInRange range1 ce.lin, linPend := false } else ce

theorem CalElem.linTaken_linPend {range1 : Bool} : (ce.linTaken range1).linPend = false := by
  unfold CalElem.linTaken
  split
  · rfl
  · exact Bool.eq_false_iff.2 ‹_›

/-- The channel after a range change. -/
def Chan.settled (c : Chan) : Chan := { c with phase := .idle, staleLeft := 2 }

/-- A change that has ramped back ends in its channel, and in the LIN of its element. -/
theorem State.rangeChangeEnd_ramped (hphase : (s.chan e).phase = .up) (hout : (s.chan e).out = (s.chan e).latest) :
    (s.rangeChangeEnd e).drv = (s.setChan e (s.chan e).settled).drv ∧
    (s.rangeChangeEnd e).calElem e = (s.calElem e).linTaken (s.chan e).range1 ∧
    ∀ f, f ≠ e → (s.rangeChangeEnd e).calElem f = s.calElem f := by
  have hend : s.rangeChangeEnd e = if (s.calElem e).linPend then
      (s.setChan e (s.chan e).settled).setCalElem e ((s.calElem e).linTaken (s.chan e).range1)
      else s.setChan e (s.chan e).settled := by
    rw [State.rangeChangeEnd, if_pos ⟨hphase, hout⟩]
    by_cases hpend : (s.calElem e).linPend = true
    · rw [if_pos hpend, CalElem.linTaken, if_pos hpend]
      exact if_pos hpend
    · rw [if_neg hpend]
      exact if_neg hpend
  rw [hend]
  split
  · exact ⟨rfl, State.setCalElem_calElem_same, fun _ hf => State.setCalElem_calElem_other hf⟩
  · exact ⟨rfl, (if_neg ‹_›).symm, fun _ _ => rfl⟩

theorem exec_rangeChangeEnd {e : Fin 5120} : exec (.rangeChangeEnd e) s = .next (s.rangeChangeEnd e) := rfl

/-! ### RangeChange -/

/-- Settles O14: the request by the write of its register, and each step of the change by the channel and the records that
it leaves. -/
theorem rangeChange : Obligations.RangeChange := by
  unfold Obligations.RangeChange
  refine ⟨?accepted, ?ineffective, ?switched, ?rampBack, ?ended⟩
  case accepted =>
    intro s p v h hperm hfree
    refine ⟨_, (exec_rangeRequest hperm).trans (congrArg _ (State.writeRangeReq_accepted h hfree)), rfl, ?_⟩
    exact ((State.plainWrite_rangeReq_frame).mono (by simp) (by simp) (by simp)).step
      (OnlyParts.set_drv (by simp) OnlyParts.refl)
  case ineffective =>
    intro s p v hperm h
    exact ⟨_, (exec_rangeRequest hperm).trans (congrArg _ (State.writeRangeReq_ineffective h)),
      State.plainWrite_rangeReq_drv, State.plainWrite_rangeReq_frame⟩
  case switched =>
    intro s e hphase hout
    have hchan : ((s.inOtherRange e).setChan e (s.switchedChan e)).chan e = s.switchedChan e :=
      State.setChan_chan_same
    refine ⟨_, congrArg Host.Outcome.next (State.rangeSwitch_ramped hphase hout), fun c => ?_, fun c f hf => ?_,
      ?_, ?_, ?_, ?_, fun f hf => ⟨?_, ?_⟩, ?_⟩
    · rw [State.setChan_elem, State.inOtherRange_heater]
    · rw [State.setChan_elem, State.inOtherRange_elem, if_neg hf]
    · rw [hchan]
      rfl
    · rw [hchan]
      exact hout
    · rw [hchan]
      rfl
    · rw [hchan, State.setChan_elem]
      rfl
    · exact (State.setChan_chan_other hf).trans State.inOtherRange_chan
    · rw [State.setChan_calElem, State.inOtherRange_calElem_other hf]
    · exact Frame.refl.step (State.setChan_parts (by simp) ((State.inOtherRange_parts).mono (by simp)))
  case rampBack =>
    intro s e h
    exact ⟨_, congrArg Host.Outcome.next (State.rangeRampBack_hold h), State.setChan_changes⟩
  case ended =>
    intro s e hphase hout
    obtain ⟨hdrv, hlin, hothers⟩ := State.rangeChangeEnd_ramped hphase hout
    refine ⟨_, exec_rangeChangeEnd, (State.chan_congr hdrv).trans State.setChan_chan_same, ?_,
      fun f hf => ⟨(State.chan_congr hdrv).trans (State.setChan_chan_other hf), hothers f hf⟩,
      Frame.refl.step (State.rangeChangeEnd_parts (by simp) OnlyParts.refl)⟩
    rw [hlin, CalElem.linTaken_linPend]

end Sys2Proof.Machine

/-! SUPPORT. Direct-mode results of an ADC unit: the code of the held result, what its arrival and its read change, and the
settlement of DirectResultHeld. -/

namespace Sys2Proof.Machine

open Sys2Proof

variable {s : State} {u ovrs n : Nat} {code : BitVec 14} {cfg : AuCfg} {b : AdcUnit}

/-! ### The code of a result (R144, R145) -/

theorem directCode_zero (h : zeroInput u cfg.input.toNat = true) : directCode u cfg code ovrs = 0 := if_pos h

theorem directCode_clean (h : zeroInput u cfg.input.toNat = false) : directCode u cfg code 0 = code.toNat := by
  simp [directCode, h]

theorem ovrCode_lt : ovrCode code < 16384 := by
  unfold ovrCode
  split <;> decide

theorem directCode_lt : directCode u cfg code ovrs < 16384 := by
  unfold directCode
  split
  · decide
  · split
    · exact ovrCode_lt
    · exact code.isLt

/-- The conversions with OVR set that a result counts (R144, R150). -/
def AuCfg.ovrsCounted (cfg : AuCfg) (u ovrs : Nat) : Nat :=
  if zeroInput u cfg.input.toNat then 0 else min ovrs (filtLen cfg.filt)

theorem AuCfg.ovrsCounted_clean : cfg.ovrsCounted u 0 = 0 := by
  simp [AuCfg.ovrsCounted]

/-- The tag of a result stands above its code. -/
theorem fld_code_of_tagged {d ovr reason input : Nat} {valid : Prop} [Decidable valid] (hd : d < 16384) :
    fld ((BitVec.ofNat 31 (d + ovr * 16384 + (if valid then 32768 else 0) + reason * 65536 + input * 524288)).setWidth
      32) 13 0 = d := by
  simp only [fld, BitVec.toNat_setWidth, BitVec.toNat_ofNat]
  split <;> omega

/-! ### A result and its read (R156) -/

/-- The state that holds a result of a unit: where an unread one is replaced, DATA_OVERRUN is set. -/
def State.holdResult (s : State) (u : Nat) (b : AdcUnit) : State :=
  if (s.au u).isNew then (s.setAu u b).wrBit (Reg.CNV_AU_STATUS + 4 * u) 7 true else s.setAu u b

theorem State.directResult_held (h : (s.au u).cfg.direct = true) : ∃ b : AdcUnit, b.isNew = true ∧
    fld (b.data.setWidth 32) 13 0 = directCode u (s.au u).cfg code ((s.au u).cfg.ovrsCounted u ovrs) ∧
    s.directResult u code ovrs = (s.holdResult u b).bump 0x900048 ((s.au u).cfg.ovrsCounted u ovrs) := by
  unfold State.directResult
  dsimp only
  rw [if_pos h]
  exact ⟨_, rfl, fld_code_of_tagged directCode_lt, rfl⟩

theorem State.holdResult_au : (s.holdResult u b).au n = if n = u then b else s.au n := by
  have hset : (s.setAu u b).au n = if n = u then b else s.au n := Sparse.get_set _ _ _ _ _
  unfold State.holdResult
  split <;> exact hset

theorem State.holdResult_status : (s.holdResult u b).rd (Reg.CNV_AU_STATUS + 4 * u) =
    if (s.au u).isNew then setBit (s.rd (Reg.CNV_AU_STATUS + 4 * u)) 7 true
    else s.rd (Reg.CNV_AU_STATUS + 4 * u) := by
  unfold State.holdResult
  split
  · exact State.wr_rd_same
  · rfl

theorem State.holdResult_frame {cs : List Nat} :
    Frame [.adc] [Reg.CNV_AU_STATUS + 4 * u] cs s (s.holdResult u b) := by
  have hset : Frame [.adc] [Reg.CNV_AU_STATUS + 4 * u] cs s (s.setAu u b) :=
    Frame.refl.step (State.setAu_parts (by simp) OnlyParts.refl)
  unfold State.holdResult
  split
  · exact hset.wrBit (by simp)
  · exact hset

/-- Settles O15: a result goes into its unit with its code below the tag, and a read returns the held word. -/
theorem directResultHeld : Obligations.DirectResultHeld := by
  unfold Obligations.DirectResultHeld
  refine ⟨?result, ?read⟩
  case result =>
    intro s u code ovrs hdirect
    obtain ⟨b, hnew, hcode, heq⟩ := State.directResult_held (code := code) (ovrs := ovrs) hdirect
    have hau : ((s.holdResult u b).bump 0x900048 ((s.au u).cfg.ovrsCounted u ovrs)).au u = b :=
      State.holdResult_au.trans (if_pos rfl)
    refine ⟨_, congrArg Host.Outcome.next heq, ?_, ?_, ?_, fun x hx => ?_, State.holdResult_status,
      (State.holdResult_frame).bump (by simp)⟩
    · rw [hau, hnew]
    · rintro hinput rfl
      rw [hau, hcode, AuCfg.ovrsCounted_clean, directCode_clean hinput]
    · intro hinput
      rw [hau, hcode, directCode_zero hinput]
    · exact State.holdResult_au.trans (if_neg hx)
  case read =>
    intro s p u hperm
    have hexec : exec (.adcDataRead p u) s = .next (s.readAdcData p u) :=
      congrArg Host.Outcome.next (State.accessRead_permitted hperm)
    exact ⟨_, hexec, State.setAu_au_same, fun _ => State.setAu_au_other, State.setRd_lastRd,
      Frame.refl.step (State.readAdcData_parts (by simp) OnlyParts.refl)⟩

end Sys2Proof.Machine

/-! SUPPORT. The sets of Diopter in NVM: what a STORE begins or refuses, what the end of a store and a DELETE make of the
set areas, what SET_READ loads, and the settlement of CalibrationSetsStored. -/

namespace Sys2Proof.Machine

open Sys2Proof

variable {s : State} {p : CmdPort} {v : Word} {i f : Nat} {x : CalSet} {tag : Int}

/-! ### Set areas -/

theorem State.calSet_fin {k : Fin 9} : s.calSet k = s.cal.sets[k] := by
  simp [State.calSet]

theorem State.setCalSet_sets_same {k : Fin 9} : (s.setCalSet k x).cal.sets[k] = x := by
  simp [State.setCalSet]

theorem State.setCalSet_sets_other {k j : Fin 9} (h : j ≠ k) : (s.setCalSet k x).cal.sets[j] = s.cal.sets[j] :=
  Vector.getElem_setIfInBounds_ne j.isLt fun hval => h (Fin.ext hval.symm)

theorem State.setCalSet_invalid {k : Fin 9} : (s.setCalSet k { s.calSet k with valid := false }).cal.sets[k] =
    { s.cal.sets[k] with valid := false } := by
  rw [State.setCalSet_sets_same, State.calSet_fin]

/-! ### CAL_CMD -/

/-- The row of CAL_CMD: REPLACE, the refusal bits and the requests. -/
abbrev calCmdRow : RegRow := ⟨0x4, 0x4, 1, 0x78, 0x0, 0xf00, 0x7, 0x0⟩

/-- The state after the plain part of a write of CAL_CMD. -/
abbrev State.calCmdWritten (s : State) (v : Word) : State :=
  s.wr Reg.CAL_CMD (calCmdRow.next s.img.locked (s.rd Reg.CAL_CMD) v)

theorem State.plainWrite_calCmd : s.plainWrite p Reg.CAL_CMD v = s.calCmdWritten v := State.plainWrite_row rfl rfl rfl

theorem State.plainWrite_calCmd_frame : Frame [] [Reg.CAL_CMD] [] s (s.plainWrite p Reg.CAL_CMD v) := by
  rw [State.plainWrite_calCmd]
  exact Frame.refl.wr (by simp)

/-- A STORE alone in its word. -/
theorem exec_calStore (h : Permitted s p Reg.CAL_CMD 1) (hstart : bit v 0 = false) (hdelete : bit v 2 = false) :
    exec (.calStore p v) s = .next (s.plainWrite p Reg.CAL_CMD (withBit v 1)).calStoreBit := by
  have hwrite : s.writeCalCmd p (withBit v 1) = (s.plainWrite p Reg.CAL_CMD (withBit v 1)).calStoreBit := by
    simp [State.writeCalCmd, bit_withBit, bit_withBit_other, hstart, hdelete]
  exact congrArg Host.Outcome.next ((State.access_permitted h).trans hwrite)

/-- A DELETE alone in its word. -/
theorem exec_calDelete (h : Permitted s p Reg.CAL_CMD 1) (hstart : bit v 0 = false) (hstore : bit v 1 = false) :
    exec (.calDelete p v) s = .next (s.plainWrite p Reg.CAL_CMD (withBit v 2)).calDeleteBit := by
  have hwrite : s.writeCalCmd p (withBit v 2) = (s.plainWrite p Reg.CAL_CMD (withBit v 2)).calDeleteBit := by
    simp [State.writeCalCmd, bit_withBit, bit_withBit_other, hstart, hstore]
  exact congrArg Host.Outcome.next ((State.access_permitted h).trans hwrite)

/-! ### STORE (R186) -/

/-- With fewer than 8 valid sets there is room in the lowest free area. -/
theorem State.storeArea_room (h : s.validAreas.length < 8) :
    s.storeArea tag = (List.range 9).find? fun i => !(s.calSet i).valid := if_pos (.inl h)

/-- With fewer than 8 valid sets REPLACE names nothing. -/
theorem State.replaced_room (h : s.validAreas.length < 8) : s.replaced tag = s.nearSet tag := by
  rw [State.replaced, if_neg (by omega)]
  cases s.nearSet tag <;> rfl

/-- The store that begins: its area and sealed contents, the set that it replaces, and the wait for the NVM. -/
def State.storeBegun (s : State) (service : Bool) (x : CalSet) (f : Nat) : CalSt :=
  { s.cal with
    storing := some (Fin.ofNat 9 f, x.sealed), storeOld := (s.replaced x.tag).map (Fin.ofNat 9)
    storeService := service, storeWait := !s.thm.nvmOk }

theorem State.beginStore_area {service : Bool} (h : s.storeArea x.tag = some f) :
    s.beginStore service x = { s with cal := s.storeBegun service x f } := by
  rw [State.beginStore, h]
  rfl

/-- In SERVICE or QUIESCED, with no store in progress and a place for the set, a STORE begins. -/
theorem State.calStoreBit_begins (hstate : s.glb.state = .service ∨ s.glb.state = .quiesced)
    (hidle : s.cal.storing = none) (harea : s.storeArea s.cal.temp = some f) :
    s.calStoreBit = { s with cal := s.storeBegun true (s.captureSet s.cal.temp) f } := by
  have hfree : s.storeRefusals = [] := by simp [State.storeRefusals, hstate, hidle, harea]
  rw [State.calStoreBit, hfree]
  exact State.beginStore_area harea

/-- What makes a STORE a refused one (R186). -/
def State.storeRefused (s : State) : Prop :=
  s.cal.storing ≠ none ∨ (s.glb.state ≠ .service ∧ s.glb.state ≠ .quiesced) ∨ s.storeArea s.cal.temp = none

theorem State.calStoreBit_refused (h : s.storeRefused) : s.calStoreBit =
    (s.storeRefusals.foldl (fun t b => t.wrBit Reg.CAL_CMD b true) s).irqIf Reg.CAL_CTRL 3 8 := by
  have hsome : s.storeRefusals ≠ [] := by
    intro hnil
    simp only [State.storeRefusals, List.append_eq_nil_iff, ite_eq_left_iff, ite_eq_right_iff, List.cons_ne_nil,
      imp_false, not_not, Option.isSome_iff_ne_none, Option.isNone_iff_eq_none] at hnil
    obtain ⟨⟨hstate, harea⟩, hidle⟩ := hnil
    obtain h | ⟨hservice, hquiesced⟩ | h := h
    · exact h hidle
    · exact hstate.elim hservice hquiesced
    · exact harea h
  unfold State.calStoreBit
  split
  · exact absurd ‹_› hsome
  · rfl

theorem State.mem_storeRefusals_state (hservice : s.glb.state ≠ .service) (hquiesced : s.glb.state ≠ .quiesced) :
    8 ∈ s.storeRefusals := by
  simp [State.storeRefusals, hservice, hquiesced]

theorem State.mem_storeRefusals_full (h : s.storeArea s.cal.temp = none) : 9 ∈ s.storeRefusals := by
  simp [State.storeRefusals, h]

theorem State.mem_storeRefusals_busy (h : s.cal.storing ≠ none) : 10 ∈ s.storeRefusals := by
  simp [State.storeRefusals, Option.isSome_iff_ne_none.2 h]

/-- A refused STORE sets its refusal bits, and its interrupt leaves them. -/
theorem State.calStoreBit_refused_bit (h : s.storeRefused) (hmem : i ∈ s.storeRefusals) (hi : i < 32) :
    s.calStoreBit.rdBit Reg.CAL_CMD i = true := by
  rw [State.calStoreBit_refused h, State.rdBit_of_frame State.irqIf_frame (by decide)]
  exact foldl_wrBit_rdBit (.inl hmem) hi

theorem State.calStoreBit_refused_frame (h : s.storeRefused) :
    Frame [.cmd] [Reg.CAL_CMD, Reg.CMD_IRQ_PENDING] [] s s.calStoreBit := by
  rw [State.calStoreBit_refused h]
  exact (foldl_wrBit_frame.mono (by simp) (by simp) (by simp)).trans
    (State.irqIf_frame.mono (by simp) (by simp) (by simp))

/-! ### STORE_COMPLETE (R185, R186) -/

/-- The set that a store replaces becomes invalid. -/
def State.oldRetired (s : State) : State :=
  match s.cal.storeOld with
  | some o => s.setCalSet o { s.calSet o with valid := false }
  | none => s

theorem State.oldRetired_sets_old {o : Fin 9} (h : s.cal.storeOld = some o) :
    s.oldRetired.cal.sets[o] = { s.cal.sets[o] with valid := false } := by
  have hold : s.oldRetired = s.setCalSet o { s.calSet o with valid := false } := by rw [State.oldRetired, h]
  rw [hold, State.setCalSet_invalid]

theorem State.oldRetired_sets_other {k : Fin 9} (h : s.cal.storeOld ≠ some k) :
    s.oldRetired.cal.sets[k] = s.cal.sets[k] := by
  unfold State.oldRetired
  split
  · rename_i o hold
    exact State.setCalSet_sets_other fun hk => h (hk ▸ hold)
  · rfl

/-- The state with the written set valid and the one it replaces invalid. -/
def State.setWritten (s : State) (k : Fin 9) (x : CalSet) : State := s.oldRetired.setCalSet k { x with valid := true }

/-- An element without the adjustment that a pass had found. -/
def CalElem.unadjusted (c : CalElem) : CalElem := { c with lcAdj := 0 }

/-- Diopter after a store with none behind it: the sets, and the elements without LC_ADJ for a store from service. -/
def State.storeEnded (s : State) (k : Fin 9) (x : CalSet) : CalSt :=
  { (s.setWritten k x).cal with
    storing := none, storeOld := none, storeNext := none, dirty := true
    elems := if s.cal.storeService then Sparse.mapVals (fun _ => {}) CalElem.unadjusted s.cal.elems else s.cal.elems }

theorem State.storeComplete_ends {k : Fin 9} (hstoring : s.cal.storing = some (k, x)) (hwait : s.cal.storeWait = false)
    (hnext : s.cal.storeNext = none) :
    s.storeComplete = ({ s with cal := s.storeEnded k x }).irqIf Reg.CAL_CTRL 3 8 := by
  unfold State.storeComplete State.storeEnded State.setWritten State.oldRetired
  rw [hstoring]
  simp only [hwait, hnext, Bool.false_eq_true, if_false]
  cases s.cal.storeOld <;> rfl

/-- No restart waits, so none goes on. -/
theorem State.restartIfReady_none (h : s.glb.restart = .none) : s.restartIfReady = s := by
  rw [State.restartIfReady, if_neg]
  simp [h]

theorem exec_storeComplete {k : Fin 9} (hstoring : s.cal.storing = some (k, x)) (hwait : s.cal.storeWait = false)
    (hnext : s.cal.storeNext = none) (hrestart : s.glb.restart = .none) :
    ∃ t, exec .storeComplete s = .next t ∧ t.cal = s.storeEnded k x ∧
      Frame [.cmd, .cal] [Reg.CMD_IRQ_PENDING] [] s t := by
  have hirq := State.irqIf_frame (s := { s with cal := s.storeEnded k x }) (a := Reg.CAL_CTRL) (i := 3) (n := 8)
  refine ⟨_, congrArg Host.Outcome.next ?_, hirq.1 .cal (by decide),
    (Frame.refl.step (OnlyParts.set_cal (by simp) OnlyParts.refl)).irqIf (by simp) (by simp)⟩
  rw [State.storeComplete_ends hstoring hwait hnext]
  exact State.restartIfReady_none (Eq.trans (congrArg GlbSt.restart (hirq.1 .glb (by decide))) hrestart)

/-! ### DELETE -/

/-- Diopter with one set invalid; the values in use follow. -/
def State.setDeleted (s : State) (k : Nat) : CalSt :=
  { (s.setCalSet k { s.calSet k with valid := false }).cal with dirty := true }

theorem State.calDeleteBit_named (hidle : s.cal.storing = none) (hnamed : s.namedSet = some i) :
    s.calDeleteBit = { s with cal := s.setDeleted i } := by
  unfold State.calDeleteBit
  simp only [hidle, hnamed, Option.isSome_none, Bool.false_eq_true, if_false]
  rfl

/-- A DELETE while a store is in progress. -/
theorem State.calDeleteBit_busy (h : s.cal.storing ≠ none) : s.calDeleteBit.rdBit Reg.CAL_CMD 10 = true ∧
    (s.namedSet = none → s.calDeleteBit.rdBit Reg.CAL_CMD 11 = true) ∧
    Frame [] [Reg.CAL_CMD] [] s s.calDeleteBit := by
  unfold State.calDeleteBit
  rw [if_pos (Option.isSome_iff_ne_none.2 h)]
  dsimp only
  split
  · exact ⟨foldl_wrBit_rdBit (l := [10, 11]) (.inl (by simp)) (by omega), fun _ => State.wrBit_rdBit_same (by omega),
      foldl_wrBit_frame (l := [10, 11])⟩
  · rename_i k hk
    rw [if_pos (Option.isSome_iff_ne_none.2 h)]
    exact ⟨State.wrBit_rdBit_same (by omega), fun hnone => absurd (hk.symm.trans hnone) (by simp),
      Frame.refl.wrBit (by simp)⟩

/-- A DELETE that names no valid field set, with no store in progress. -/
theorem State.calDeleteBit_unnamed (hidle : s.cal.storing = none) (h : s.namedSet = none) :
    s.calDeleteBit = s.wrBit Reg.CAL_CMD 11 true := by
  unfold State.calDeleteBit
  rw [hidle, h]
  rfl

/-! ### SET_READ (R183) -/

theorem State.plainWrite_setRead_frame : Frame [] [Reg.CAL_SET_READ] [] s (s.plainWrite p Reg.CAL_SET_READ v) := by
  rw [State.plainWrite_row rfl rfl rfl]
  exact Frame.refl.wr (by simp)

theorem exec_setRead (h : Permitted s p Reg.CAL_SET_READ 1) :
    exec (.setRead p v) s = .next (s.writeSetRead p (withBit v 31)) :=
  congrArg Host.Outcome.next (State.access_permitted h)

/-- The entry of an element of an area that exists is loaded. -/
theorem State.writeSetRead_loaded (helem : fld v 12 0 < 5120) (harea : fld v 16 13 < 9) :
    s.writeSetRead p (withBit v 31) = { s.plainWrite p Reg.CAL_SET_READ (withBit v 31) with
      cal := { s.cal with setData := Sparse.get (fun _ => []) (s.calSet (fld v 16 13)).entries (fld v 12 0) } } := by
  have hcal : (s.plainWrite p Reg.CAL_SET_READ (withBit v 31)).cal = s.cal :=
    (State.plainWrite_setRead_frame).1 .cal (by decide)
  simp [State.writeSetRead, State.calSet, bit_withBit, fld_withBit, helem, harea, hcal]

theorem State.writeSetRead_outside (h : 5120 ≤ fld v 12 0 ∨ 9 ≤ fld v 16 13) :
    s.writeSetRead p (withBit v 31) = s.plainWrite p Reg.CAL_SET_READ (withBit v 31) := by
  unfold State.writeSetRead
  dsimp only
  rw [fld_withBit (by omega) (by omega), fld_withBit (by omega) (by omega), if_neg]
  rintro ⟨-, helem, harea⟩
  omega

/-! ### CalibrationSetsStored -/

/-- Settles O25: each command through the equation of its request, on the state that the plain part of its write leaves.
R186 names the area of a valid field set within 2 degrees C as the target, R185 a free area and the replaced set invalid
only after the header write: the lowest free area is the model's choice between the two, which no assumption logs. That the
values in use follow a stored or deleted set at the next sample boundary is assumption 101. -/
theorem calibrationSetsStored : Obligations.CalibrationSetsStored := by
  unfold Obligations.CalibrationSetsStored
  refine ⟨?store, ?storeRefused, ?complete, ?delete, ?deleteRefused, ?read, ?readOutside⟩
  case store =>
    intro s p v f hperm hstart hdelete hstate hidle hroom hfree
    have hexec := exec_calStore hperm hstart hdelete
    rw [State.plainWrite_calCmd] at hexec
    have harea : (s.calCmdWritten (withBit v 1)).storeArea s.cal.temp = some f :=
      (State.storeArea_room (s := s.calCmdWritten _) hroom).trans hfree
    refine ⟨_, hexec.trans (congrArg _ (State.calStoreBit_begins hstate hidle harea)), rfl, rfl, ?_, rfl,
      (Frame.refl.wr (by simp)).step (OnlyParts.set_cal (by simp) OnlyParts.refl)⟩
    exact congrArg (Option.map (Fin.ofNat 9)) (State.replaced_room hroom)
  case storeRefused =>
    intro s p v hperm hstart hdelete h
    have hwritten := State.plainWrite_calCmd_frame (s := s) (p := p) (v := withBit v 1)
    have hcal := hwritten.1 .cal (by decide)
    have hglb := hwritten.1 .glb (by decide)
    have href : (s.plainWrite p Reg.CAL_CMD (withBit v 1)).storeRefused := by
      unfold State.storeRefused
      rwa [hcal, hglb]
    refine ⟨_, exec_calStore hperm hstart hdelete, fun hservice hquiesced => ?_, fun hfull => ?_, fun hbusy => ?_,
      (hwritten.mono (by simp) (by simp) (by simp)).trans (State.calStoreBit_refused_frame href)⟩
    · exact State.calStoreBit_refused_bit href
        (State.mem_storeRefusals_state (by rwa [hglb]) (by rwa [hglb])) (by omega)
    · exact State.calStoreBit_refused_bit href (State.mem_storeRefusals_full (by rwa [hcal])) (by omega)
    · exact State.calStoreBit_refused_bit href (State.mem_storeRefusals_busy (by rwa [hcal])) (by omega)
  case complete =>
    intro s f x hstoring hwait hnext hrestart
    obtain ⟨t, hexec, hcal, hframe⟩ := exec_storeComplete hstoring hwait hnext hrestart
    refine ⟨t, hexec, ?_⟩
    beta_reduce
    unfold State.calElem
    rw [hcal]
    refine ⟨State.setCalSet_sets_same, rfl, rfl, fun o hold hof => ?_, fun i hif hold => ?_, fun hservice hwf e => ?_,
      hframe⟩
    · exact (State.setCalSet_sets_other hof).trans (State.oldRetired_sets_old hold)
    · exact (State.setCalSet_sets_other hif).trans (State.oldRetired_sets_other hold)
    · have helems : (s.storeEnded f x).elems = Sparse.mapVals (fun _ => {}) CalElem.unadjusted s.cal.elems :=
        if_pos hservice
      rw [helems, Sparse.get_mapVals rfl hwf]
      rfl
  case delete =>
    intro s p v i hperm hstart hstore hidle hnamed
    have hexec := exec_calDelete hperm hstart hstore
    rw [State.plainWrite_calCmd] at hnamed hexec
    refine ⟨_, hexec.trans (congrArg _ (State.calDeleteBit_named hidle hnamed)), State.setCalSet_invalid,
      fun k hk => State.setCalSet_sets_other hk, rfl,
      (Frame.refl.wr (by simp)).step (OnlyParts.set_cal (by simp) OnlyParts.refl)⟩
  case deleteRefused =>
    intro s p v hperm hstart hstore h
    have hwritten := State.plainWrite_calCmd_frame (s := s) (p := p) (v := withBit v 2)
    have hcal := hwritten.1 .cal (by decide)
    refine ⟨_, exec_calDelete hperm hstart hstore, ?_⟩
    by_cases hidle : s.cal.storing = none
    · have hnone := h.resolve_left fun hbusy => hbusy hidle
      rw [State.calDeleteBit_unnamed (by rw [hcal, hidle]) hnone]
      exact ⟨fun hbusy => absurd hidle hbusy, fun _ => State.wrBit_rdBit_same (by omega), hwritten.wrBit (by simp)⟩
    · obtain ⟨hbusy, hunnamed, hframe⟩ := State.calDeleteBit_busy (s := s.plainWrite p Reg.CAL_CMD (withBit v 2))
        (by rwa [hcal])
      exact ⟨fun _ => hbusy, hunnamed, hwritten.trans hframe⟩
  case read =>
    intro s p v hperm helem harea
    refine ⟨_, (exec_setRead hperm).trans (congrArg _ (State.writeSetRead_loaded helem harea)), rfl, ?_⟩
    exact ((State.plainWrite_setRead_frame).mono (by simp) (by simp) (by simp)).step
      (OnlyParts.set_cal (by simp) OnlyParts.refl)
  case readOutside =>
    intro s p v hperm h
    exact ⟨_, (exec_setRead hperm).trans (congrArg _ (State.writeSetRead_outside h)),
      (State.plainWrite_setRead_frame).1 .cal (by decide), State.plainWrite_setRead_frame⟩

end Sys2Proof.Machine

/-! SUPPORT. The course of a full calibration: what the ADC averages, the begin of a step, step 7 and the end of the
calibration change. -/

namespace Sys2Proof.Machine

open Sys2Proof

variable {s : State} {e f n stage part : Nat} {l : List Nat} {adc : List AdcMeas} {x : CalSet}

/-! ### ADC units (R164) -/

theorem State.calAdc_cal {m : AdcMeas} : ∃ new,
    (s.calAdc m).cal = { s.cal with aus := Sparse.set (fun _ => {}) s.cal.aus m.unit new } := by
  unfold State.calAdc
  dsimp only
  split <;> exact ⟨_, rfl⟩

theorem State.calAdc_auCal_other {m : AdcMeas} {u : Nat} (h : m.unit.val ≠ u) : (s.calAdc m).auCal u = s.auCal u := by
  obtain ⟨new, hcal⟩ := State.calAdc_cal (s := s) (m := m)
  unfold State.auCal
  rw [hcal]
  exact Sparse.get_set_other _ _ _ h.symm

/-- The ADC averages set the calibrations of ADC units alone. -/
theorem foldl_calAdc_cal : (adc.foldl State.calAdc s).cal = { s.cal with aus := (adc.foldl State.calAdc s).cal.aus } := by
  induction adc generalizing s with
  | nil => rfl
  | cons m adc ih =>
    obtain ⟨new, hcal⟩ := State.calAdc_cal (s := s) (m := m)
    rw [List.foldl_cons, ih, hcal]

theorem foldl_calAdc_auCal_other {u : Nat} (h : ∀ m ∈ adc, m.unit.val ≠ u) :
    (adc.foldl State.calAdc s).auCal u = s.auCal u := by
  induction adc generalizing s with
  | nil => rfl
  | cons m adc ih =>
    rw [List.foldl_cons, ih fun m' hm' => h m' (List.mem_cons_of_mem _ hm')]
    exact State.calAdc_auCal_other (h m List.mem_cons_self)

/-! ### A step begins (R169) -/

theorem State.beginRange_sel {r : Bool} : (s.beginRange e r).drv.sel = s.drv.sel := by
  unfold State.beginRange
  dsimp only
  split
  · rfl
  · split <;> rfl

theorem foldl_beginRange_sel {r : Bool} : (l.foldl (fun t e => t.beginRange e r) s).drv.sel = s.drv.sel := by
  induction l generalizing s with
  | nil => rfl
  | cons e l ih => exact ih.trans State.beginRange_sel

theorem foldl_beginRange_parts {r : Bool} : OnlyParts [.drv] s (l.foldl (fun t e => t.beginRange e r) s) :=
  OnlyParts.foldl (fun _ _ => State.beginRange_parts (by simp)) OnlyParts.refl

/-- Diopter at the first point of a part. -/
def CalSt.partBegun (c : CalSt) (stage part : Nat) : CalSt :=
  { c with fStage := stage, part := part, point := 0, reps := 0, since := 0
           meas := if part = 4 ∨ part = 5 then c.meas else [] }

/-- A part that sweeps no heater changes the heater ranges of no element. -/
theorem State.beginPart_still (h : part ≠ 0) :
    s.beginPart stage part = { s with cal := s.cal.partBegun stage part } := by
  unfold State.beginPart CalSt.partBegun
  simp [h]

theorem State.beginPart_cal : (s.beginPart stage part).cal = s.cal.partBegun stage part := by
  by_cases h : part = 0
  · subst h
    exact foldl_beginRange_parts .cal (by decide)
  · rw [State.beginPart_still h]

theorem State.beginPart_sel : (s.beginPart stage part).drv.sel = s.drv.sel := by
  by_cases h : part = 0
  · subst h
    exact foldl_beginRange_sel
  · rw [State.beginPart_still h]

/-- The state at the begin of a step. -/
def State.stepBegun (s : State) (n : Nat) : State :=
  { s with cal := { s.cal with step := Fin.ofNat 8 n, stepDone := false } }

theorem State.stepBegun_parts : OnlyParts [.cal] s (s.stepBegun n) := OnlyParts.set_cal (by simp) OnlyParts.refl

/-- Every step but the last begins with its first part. -/
theorem State.beginStep_part (h : n ≠ 7) :
    s.beginStep n = (s.stepBegun n).beginPart (stepStart n).1 (stepStart n).2 := if_neg h

theorem State.beginStep_part_cal (h : n ≠ 7) :
    (s.beginStep n).cal = (s.stepBegun n).cal.partBegun (stepStart n).1 (stepStart n).2 := by
  rw [State.beginStep_part h, State.beginPart_cal]

theorem State.beginStep_part_sel (h : n ≠ 7) : (s.beginStep n).drv.sel = s.drv.sel := by
  rw [State.beginStep_part h, State.beginPart_sel, State.stepBegun_parts .drv (by decide)]

theorem State.beginStep_part_parts (h : n ≠ 7) : OnlyParts [.drv, .cal] s (s.beginStep n) := by
  rw [State.beginStep_part h]
  exact State.beginPart_parts (by simp) (State.stepBegun_parts.mono (by simp))

theorem State.fullStep_first (hbusy : s.cal.fullBusy = true) (hstep : s.cal.step = 1) :
    s.fullStep adc = (adc.foldl State.calAdc s).beginStep 2 := by
  have hval : s.cal.step.val = 1 := congrArg Fin.val hstep
  rw [State.fullStep, if_pos hbusy, if_pos hval]

/-- The tag of the set is CAL_TEMP at the end of step 5 (R180). -/
def State.tempTagged (s : State) : State :=
  if s.cal.step.val = 5 then { s with cal := { s.cal with fullTag := s.cal.temp } } else s

theorem State.tempTagged_of_ne (h : s.cal.step.val ≠ 5) : s.tempTagged = s := if_neg h

theorem State.tempTagged_parts : OnlyParts [.cal] s s.tempTagged := by
  unfold State.tempTagged
  split
  · exact OnlyParts.set_cal (by simp) OnlyParts.refl
  · exact OnlyParts.refl

theorem State.tempTagged_cal :
    s.tempTagged.cal = { s.cal with fullTag := if s.cal.step.val = 5 then s.cal.temp else s.cal.fullTag } := by
  unfold State.tempTagged
  split <;> rfl

theorem State.fullStep_next (hbusy : s.cal.fullBusy = true) (hdone : s.cal.stepDone = true) (hlo : 2 ≤ s.cal.step.val)
    (hhi : s.cal.step.val ≤ 6) : s.fullStep adc = s.tempTagged.beginStep (s.cal.step.val + 1) := by
  rw [State.fullStep, if_pos hbusy, if_neg (by omega), if_pos ⟨hdone, hlo, hhi⟩]
  rfl

theorem State.fullStep_waits (h : s.cal.fullBusy = false ∨ (s.cal.step ≠ 1 ∧ s.cal.stepDone = false)) :
    s.fullStep adc = s := by
  unfold State.fullStep
  obtain hidle | ⟨hstep, hdone⟩ := h
  · simp [hidle]
  · simp [hdone, show s.cal.step.val ≠ 1 from fun hval => hstep (Fin.ext hval)]

/-! ### Step 7 (R166) -/

theorem State.calElem_of_elems {t : State} (h : t.cal.elems = s.cal.elems) : t.calElem e = s.calElem e := by
  unfold State.calElem
  rw [h]

/-- The calibration of an element with the LC of R166. -/
def CalElem.lcFixed (c : CalElem) : CalElem := { c with lc := 0x3DD3BE4A, lcAdj := 0 }

/-- The LC of one element, where it is neither parked nor skipped. -/
def State.fixLc (s : State) (e : Nat) : State :=
  if s.isParked e || s.cal.skip.contains e then s else s.setCalElem e (s.calElem e).lcFixed

theorem State.applyLc_eq : s.applyLc = (List.range 5120).foldl State.fixLc s := rfl

theorem State.fixLc_parts : OnlyParts [.cal] s (s.fixLc e) := by
  unfold State.fixLc
  split
  · exact OnlyParts.refl
  · exact State.setCalElem_parts (by simp) OnlyParts.refl

theorem State.fixLc_cal : (s.fixLc e).cal = { s.cal with elems := (s.fixLc e).cal.elems } := by
  unfold State.fixLc
  split <;> rfl

theorem State.fixLc_isParked : (s.fixLc f).isParked e = s.isParked e :=
  State.isParked_congr (State.fixLc_parts .mtx (by decide))

theorem State.fixLc_skip : (s.fixLc f).cal.skip = s.cal.skip := by
  rw [State.fixLc_cal]

theorem State.fixLc_calElem_same (hpark : s.isParked e = false) (hskip : e ∉ s.cal.skip) :
    (s.fixLc e).calElem e = (s.calElem e).lcFixed := by
  have hfree : (s.isParked e || s.cal.skip.contains e) = false := by simp [hpark, hskip]
  rw [State.fixLc, hfree]
  exact State.setCalElem_calElem_same

theorem State.fixLc_calElem_kept (h : e ≠ f ∨ s.isParked e = true ∨ e ∈ s.cal.skip) :
    (s.fixLc f).calElem e = s.calElem e := by
  unfold State.fixLc
  split
  · rfl
  · rename_i hfree
    refine State.setCalElem_calElem_other fun hef => ?_
    subst hef
    exact hfree (by simpa using h)

theorem foldl_fixLc_calElem_kept (h : e ∉ l ∨ s.isParked e = true ∨ e ∈ s.cal.skip) :
    (l.foldl State.fixLc s).calElem e = s.calElem e := by
  induction l generalizing s with
  | nil => rfl
  | cons f l ih =>
    rw [List.mem_cons, not_or, and_or_right] at h
    rw [List.foldl_cons, ih (by rw [State.fixLc_isParked, State.fixLc_skip]; exact h.2)]
    exact State.fixLc_calElem_kept h.1

theorem foldl_fixLc_calElem_fixed (hpark : s.isParked e = false) (hskip : e ∉ s.cal.skip) (hmem : e ∈ l) :
    (l.foldl State.fixLc s).calElem e = (s.calElem e).lcFixed := by
  induction l generalizing s with
  | nil => cases hmem
  | cons f l ih =>
    have hpark' : (s.fixLc f).isParked e = false := by rw [State.fixLc_isParked, hpark]
    have hskip' : e ∉ (s.fixLc f).cal.skip := by rwa [State.fixLc_skip]
    rw [List.foldl_cons]
    by_cases hl : e ∈ l
    · rw [ih hpark' hskip' hl]
      by_cases hf : e = f
      · rw [← hf, State.fixLc_calElem_same hpark hskip]
        rfl
      · rw [State.fixLc_calElem_kept (.inl hf)]
    · obtain rfl := (List.mem_cons.1 hmem).resolve_right hl
      rw [foldl_fixLc_calElem_kept (.inl hl), State.fixLc_calElem_same hpark hskip]

theorem State.applyLc_cal : ∃ m, s.applyLc.cal = { s.cal with elems := m } := by
  rw [State.applyLc_eq]
  generalize List.range 5120 = l
  induction l generalizing s with
  | nil => exact ⟨_, rfl⟩
  | cons e l ih =>
    obtain ⟨m, hcal⟩ := ih (s := s.fixLc e)
    exact ⟨m, by rw [List.foldl_cons, hcal, State.fixLc_cal]⟩

theorem State.restoreLight_drv : s.restoreLight.drv = { s.drv with sel := 0 } := by
  have hlit : OnlyParts [.mtx] s ((List.range 32).foldl State.warmSpare (s.setEmitters fun _ _ => 0)) :=
    OnlyParts.foldl (fun _ _ => State.warmSpare_parts (by simp)) (State.setEmitters_parts (by simp) OnlyParts.refl)
  unfold State.restoreLight
  dsimp only
  rw [hlit .drv (by decide)]

/-- Step 7 with the LC in use, before the light is restored. -/
def State.lcInUse (s : State) : State := (s.stepBegun 7).applyLc

theorem State.lcInUse_parts : OnlyParts [.cal] s s.lcInUse :=
  State.applyLc_parts (by simp) State.stepBegun_parts

theorem State.lcInUse_cal : ∃ m, s.lcInUse.cal = { (s.stepBegun 7).cal with elems := m } := State.applyLc_cal

theorem State.lcInUse_calElem_fixed (he : e < 5120) (hpark : s.isParked e = false) (hskip : e ∉ s.cal.skip) :
    s.lcInUse.calElem e = (s.calElem e).lcFixed := by
  rw [State.lcInUse, State.applyLc_eq]
  exact foldl_fixLc_calElem_fixed hpark hskip (List.mem_range.2 he)

theorem State.lcInUse_calElem_kept (h : s.isParked e = true ∨ e ∈ s.cal.skip) :
    s.lcInUse.calElem e = s.calElem e := by
  rw [State.lcInUse, State.applyLc_eq]
  exact foldl_fixLc_calElem_kept (.inr h)

/-- Diopter with the work of its step done. -/
def CalSt.withStepDone (c : CalSt) : CalSt := { c with stepDone := true }

theorem CalSt.withStepDone_elems {c : CalSt} : c.withStepDone.elems = c.elems := rfl

/-- Step 7 has no measurement to wait for. -/
theorem State.beginStep_seven :
    s.beginStep 7 = { s.lcInUse.restoreLight with cal := s.lcInUse.restoreLight.cal.withStepDone } := by
  unfold State.beginStep State.lcInUse State.stepBegun CalSt.withStepDone
  dsimp only
  rw [if_pos rfl]

theorem State.beginStep_seven_cal : (s.beginStep 7).cal = s.lcInUse.cal.withStepDone := by
  have hlight : OnlyParts [.drv, .mtx] s.lcInUse s.lcInUse.restoreLight :=
    State.restoreLight_parts (by simp) OnlyParts.refl
  rw [State.beginStep_seven, hlight .cal (by decide)]

theorem State.beginStep_seven_calElem : (s.beginStep 7).calElem e = s.lcInUse.calElem e :=
  State.calElem_of_elems (by rw [State.beginStep_seven_cal, CalSt.withStepDone_elems])

theorem State.beginStep_seven_drv : (s.beginStep 7).drv = { s.drv with sel := 0 } := by
  rw [State.beginStep_seven, State.restoreLight_drv, State.lcInUse_parts .drv (by decide)]

/-! ### The entry to LOCKING (R552) -/

theorem State.setGState_frame {g : GState} : Frame [.cmd, .glb] [Reg.CMD_IRQ_PENDING] [] s (s.setGState g) :=
  (Frame.refl.step (OnlyParts.set_glb (by simp) OnlyParts.refl)).irqIf (by simp) (by simp)

theorem State.setGState_state {g : GState} : (s.setGState g).glb.state = g :=
  congrArg GlbSt.state (State.irqIf_frame.1 .glb (by decide))

/-- What the entry to LOCKING does after the change of state, but for the shared loops. -/
theorem State.lockElems_modeWatch_parts {t u : State} :
    OnlyParts [.loopA, .loopB, .acq] t (u.modeWatch ((t.lockElems .a).lockElems .b)) :=
  State.modeWatch_parts (by simp) (State.lockElems_parts (by simp) (State.lockElems_parts (by simp) OnlyParts.refl))

theorem State.enterLocking_state : s.enterLocking.glb.state = .locking :=
  Eq.trans (congrArg GlbSt.state (State.lockElems_modeWatch_parts .glb (by decide))) State.setGState_state

theorem State.enterLocking_loopS : s.enterLocking.loopS = { s.loopS with running := true, calStale := [] } :=
  congrArg (fun l : LoopShared => { l with running := true, calStale := [] })
    (Eq.trans (State.lockElems_modeWatch_parts .loopS (by decide)) (State.setGState_frame.1 .loopS (by decide)))

theorem State.enterLocking_frame :
    Frame [.cmd, .glb, .loopA, .loopB, .loopS, .acq] [Reg.CMD_IRQ_PENDING] [] s s.enterLocking :=
  ((State.setGState_frame.mono (by simp) (by simp) (by simp)).step
    (State.lockElems_modeWatch_parts.mono (by simp))).step (OnlyParts.set_loopS (by simp) OnlyParts.refl)

/-! ### The end of a full calibration (R170, R186) -/

/-- The state outside full calibration, with the new set still to be stored. -/
def State.fullEnded (s : State) : State :=
  { s with cal := { s.cal with fullBusy := false, step := 0, stepDone := false, dirty := false, prev := [] } }

theorem State.fullEnded_parts : OnlyParts [.cal] s s.fullEnded := OnlyParts.set_cal (by simp) OnlyParts.refl

/-- The end of a full calibration moves no set. -/
theorem State.fullEnded_storeArea {tag : Int} : s.fullEnded.storeArea tag = s.storeArea tag := rfl

theorem State.captureSet_tag {tag : Int} : (s.captureSet tag).tag = tag := rfl

/-- The new set is stored, or waits for the store in progress. -/
def State.storeOrQueue (s : State) (x : CalSet) : State :=
  if s.cal.storing.isSome then { s with cal := { s.cal with storeNext := some x } } else s.beginStore false x

theorem State.fullDone_seven (hbusy : s.cal.fullBusy = true) (hstep : s.cal.step = 7) (hdone : s.cal.stepDone = true) :
    s.fullDone = ((s.fullEnded.storeOrQueue (s.captureSet s.cal.fullTag)).stepEnd 8).enterLocking :=
  if_pos ⟨hbusy, congrArg Fin.val hstep, hdone⟩

theorem State.storeOrQueue_busy (h : s.cal.storing ≠ none) :
    s.storeOrQueue x = { s with cal := { s.cal with storeNext := some x } } := if_pos (Option.isSome_iff_ne_none.2 h)

theorem State.storeOrQueue_idle (h : s.cal.storing = none) : s.storeOrQueue x = s.beginStore false x := by
  rw [State.storeOrQueue, h]
  rfl

/-- Without a place a store is refused with REFUSED_FULL. -/
theorem State.beginStore_full {service : Bool} (h : s.storeArea x.tag = none) :
    s.beginStore service x = (s.wrBit Reg.CAL_CMD 9 true).irqIf Reg.CAL_CTRL 3 8 := by
  rw [State.beginStore, h]

/-- A store that begins, waits or is refused leaves the course of a full calibration. -/
theorem State.storeOrQueue_course :
    (s.storeOrQueue x).cal.fullBusy = s.cal.fullBusy ∧ (s.storeOrQueue x).cal.step = s.cal.step ∧
    Frame [.cmd, .cal] [Reg.CAL_CMD, Reg.CMD_IRQ_PENDING] [] s (s.storeOrQueue x) := by
  by_cases hidle : s.cal.storing = none
  · rw [State.storeOrQueue_idle hidle]
    cases harea : s.storeArea x.tag with
    | some f =>
      rw [State.beginStore_area harea]
      exact ⟨rfl, rfl, Frame.refl.step (OnlyParts.set_cal (by simp) OnlyParts.refl)⟩
    | none =>
      rw [State.beginStore_full harea]
      have hcal : ((s.wrBit Reg.CAL_CMD 9 true).irqIf Reg.CAL_CTRL 3 8).cal = s.cal :=
        State.irqIf_frame.1 .cal (by decide)
      rw [hcal]
      exact ⟨rfl, rfl, (Frame.refl.wrBit (by simp)).irqIf (by simp) (by simp)⟩
  · rw [State.storeOrQueue_busy hidle]
    exact ⟨rfl, rfl, Frame.refl.step (OnlyParts.set_cal (by simp) OnlyParts.refl)⟩

theorem State.stepEnd_frame : Frame [.freeCtr, .glb] [] [] s (s.stepEnd n) :=
  Frame.refl.step (State.stepEnd_parts (by simp) OnlyParts.refl)

theorem State.stepEnd_enterLocking_cal : (s.stepEnd n).enterLocking.cal = s.cal :=
  Eq.trans (State.enterLocking_frame.1 .cal (by decide)) (State.stepEnd_frame.1 .cal (by decide))

theorem State.stepEnd_enterLocking_loopS :
    (s.stepEnd n).enterLocking.loopS = { s.loopS with running := true, calStale := [] } := by
  rw [State.enterLocking_loopS, State.stepEnd_frame.1 .loopS (by decide)]

theorem State.stepEnd_enterLocking_frame :
    Frame [.freeCtr, .cmd, .glb, .loopA, .loopB, .loopS, .acq] [Reg.CMD_IRQ_PENDING] [] s (s.stepEnd n).enterLocking :=
  (State.stepEnd_frame.mono (by simp) (by simp) (by simp)).trans
    (State.enterLocking_frame.mono (by simp) (by simp) (by simp))

end Sys2Proof.Machine

/-! SUPPORT. Trial slots and the results of a stage: what the conversions of a trial leave, when a trial is kept and when
it is repeated, what the fits of a stage change, and the settlement of CalibrationProceeds. -/

namespace Sys2Proof.Machine

open Sys2Proof

variable {s t : State} {e f n : Nat} {l : List Nat} {cap : Capture} {k : TapCodes}
  {taps : List (Fin 10304 × TapCodes)} {adc : List AdcMeas} {good : List (Nat × Int × Word)}

/-! ### The conversions of a trial (R146, R151, R175) -/

theorem State.convertBy_frame {q : Nat} {rp bp : Bool} :
    Frame [.adc] [] [0x900048, 0x900050] s (s.convertBy q rp bp k).2 := by
  have hconverted : Frame [.adc] [] [0x900048, 0x900050] s
      ((s.setAu q ((s.au q).afterReading (decide ((makeReading rp bp (s.au q).recovery k).reason = 7)))).bump 0x900048
        (ovrCount rp k)) :=
    (Frame.refl.step (State.setAu_parts (by simp) OnlyParts.refl)).bump (by simp)
  unfold State.convertBy
  dsimp only
  split
  · exact hconverted
  · exact hconverted.bump (by simp)

theorem State.convertTap_frame : Frame [.adc] [] [0x900048, 0x900050] s (s.convertTap n k).2 := by
  cases hby : s.convertedBy (tapUnit n) with
  | own =>
    rw [State.convertTap_own hby]
    exact State.convertBy_frame
  | partner =>
    rw [State.convertTap_partner hby]
    exact State.convertBy_frame
  | nobody =>
    rw [State.convertTap_nobody hby]
    exact Frame.refl.bump (by simp)

/-- The conversions of a trial, one tap more. -/
theorem State.convertAll_cons {x : Fin 10304 × TapCodes} : s.convertAll (x :: taps) cap =
    (s.convertTap x.1.val x.2).2.convertAll taps
      { cap with readings := Sparse.put cap.readings x.1.val (s.convertTap x.1.val x.2).1 } := rfl

theorem State.convertAll_frame : Frame [.adc] [] [0x900048, 0x900050] s (s.convertAll taps cap).2 := by
  induction taps generalizing s cap with
  | nil => exact Frame.refl
  | cons x taps ih =>
    rw [State.convertAll_cons]
    exact State.convertTap_frame.trans ih

/-- The claims of Prism play no part in a conversion. -/
theorem State.convertTap_slt {y : SltSt} : ({ s with slt := y } : State).convertTap n k =
    ((s.convertTap n k).1, { (s.convertTap n k).2 with slt := y }) := by
  have hconv : ∀ q rp bp, ({ s with slt := y } : State).convertBy q rp bp k =
      ((s.convertBy q rp bp k).1, { (s.convertBy q rp bp k).2 with slt := y }) := by
    intro q rp bp
    have hau : ({ s with slt := y } : State).au q = s.au q := rfl
    unfold State.convertBy
    rw [hau]
    dsimp only
    split <;> rfl
  cases hby : s.convertedBy (tapUnit n) with
  | own =>
    rw [State.convertTap_own hby, State.convertTap_own (s := { s with slt := y }) hby, ← hconv]
    rfl
  | partner =>
    rw [State.convertTap_partner hby, State.convertTap_partner (s := { s with slt := y }) hby, ← hconv]
  | nobody =>
    rw [State.convertTap_nobody hby, State.convertTap_nobody (s := { s with slt := y }) hby]
    rfl

theorem State.convertAll_slt {y : SltSt} : ({ s with slt := y } : State).convertAll taps cap =
    ((s.convertAll taps cap).1, { (s.convertAll taps cap).2 with slt := y }) := by
  induction taps generalizing s cap with
  | nil => rfl
  | cons x taps ih => rw [State.convertAll_cons, State.convertTap_slt, ih, State.convertAll_cons]

/-! ### A trial is kept or repeated (R176) -/

/-- The elements that lack a result of a trial. -/
def State.trialMisses (s : State) (good : List (Nat × Int × Word)) : List Nat :=
  s.trialElems.filter fun e => s.takesPart e && !s.cal.skip.contains e && good.all fun r => decide (r.1 ≠ e)

/-- An element under trial: unparked, in the stage, taking part, and not skipped. -/
def State.underTrial (s : State) (e : Nat) : Prop := e ∈ s.trialElems ∧ s.takesPart e = true ∧ e ∉ s.cal.skip

theorem State.mem_trialMisses : e ∈ s.trialMisses good ↔ s.underTrial e ∧ ∀ r ∈ good, r.1 ≠ e := by
  simp [State.trialMisses, State.underTrial, and_assoc]

theorem State.exists_mem_trialGood : (∃ r ∈ s.trialGood cap, r.1 = e) ↔
    s.underTrial e ∧ (s.readingOf cap e).valid = true := by
  simp [State.trialGood, State.trialResult, State.underTrial, and_assoc]

/-- A trial misses the elements whose reading is not valid. -/
theorem State.mem_trialMisses_trialGood : e ∈ s.trialMisses (s.trialGood cap) ↔
    s.underTrial e ∧ (s.readingOf cap e).valid = false := by
  have hnone : (∀ r ∈ s.trialGood cap, r.1 ≠ e) ↔ ¬ (s.underTrial e ∧ (s.readingOf cap e).valid = true) := by
    rw [← State.exists_mem_trialGood]
    simp only [not_exists, not_and, ne_eq]
  rw [State.mem_trialMisses, hnone, not_and, Bool.not_eq_true]
  exact and_congr_right fun h => ⟨fun himp => himp h, fun hvalid _ => hvalid⟩

/-- A trial that lacks no result is kept, and the next one follows. -/
theorem State.trialRecord_kept (h : s.trialMisses good = []) : s.trialRecord good = { s with cal := { s.cal with
    trials := s.cal.trials ++ [{ trial := s.cal.trial, results := good }], trial := s.cal.trial + 1, reps := 0 } } := by
  unfold State.trialMisses at h
  unfold State.trialRecord
  rw [h]
  rfl

/-- A trial that lacks a result is repeated, up to 4 times. -/
theorem State.trialRecord_repeated (hmiss : e ∈ s.trialMisses good) (hreps : s.cal.reps < 4) :
    s.trialRecord good = { s with cal := { s.cal with reps := s.cal.reps + 1 } } :=
  if_pos ⟨List.ne_nil_of_mem hmiss, hreps⟩

/-- The state with the claim of the slot in progress used up. -/
def State.claimUsed (s : State) : State :=
  { s with slt := { s.slt with claims := s.slt.claims.filter fun n => decide (n ≠ s.slt.cur.slot) } }

/-- The capture of a trial before its first conversion. -/
def State.trialCap (s : State) : Capture :=
  { sample := s.loopS.sample, exc := s.loopS.excOn, sel := s.drv.sel, readings := [] }

theorem State.convertAll_claimUsed : (s.claimUsed.convertAll taps cap).1 = (s.convertAll taps cap).1 := by
  rw [State.claimUsed, State.convertAll_slt]

/-- The state after the conversions of a trial. -/
def State.trialConverted (s : State) (taps : List (Fin 10304 × TapCodes)) : State :=
  (s.claimUsed.convertAll taps s.trialCap).2

theorem State.trialCapture_idle (h : s.inTrial = false) : s.trialCapture taps adc = s := by
  rw [State.trialCapture, h]
  rfl

theorem State.trialCapture_void (h : s.inTrial = true) (hvoid : s.trialVoid = true) :
    s.trialCapture taps adc = s.claimUsed.trialRecord [] := by
  rw [State.trialCapture, if_pos h]
  exact if_pos hvoid

theorem State.trialVoid_of_safe (h : s.flt.safe = true) : s.trialVoid = true := by
  simp [State.trialVoid, h]

theorem State.claimUsed_frame : Frame [.slt] [] [] s s.claimUsed :=
  Frame.refl.step (OnlyParts.set_slt (by simp) OnlyParts.refl)

theorem State.trialConverted_frame : Frame [.adc, .slt] [] [0x900048, 0x900050] s (s.trialConverted taps) :=
  (State.claimUsed_frame.mono (by simp) (by simp) (by simp)).trans
    (State.convertAll_frame.mono (by simp) (by simp) (by simp))

theorem State.trialConverted_slt : (s.trialConverted taps).slt = s.claimUsed.slt :=
  State.convertAll_frame.1 .slt (by decide)

theorem State.trialConverted_cal : (s.trialConverted taps).cal = s.cal :=
  State.trialConverted_frame.1 .cal (by decide)

/-! The conversions of a trial change neither who is under trial nor what a capture shows of an element. -/

theorem State.trialConverted_isParked : (s.trialConverted taps).isParked e = s.isParked e :=
  State.isParked_congr (State.trialConverted_frame.1 .mtx (by decide))

theorem State.trialConverted_trialElems : (s.trialConverted taps).trialElems = s.trialElems := by
  have hloopS : (s.trialConverted taps).loopS = s.loopS := State.trialConverted_frame.1 .loopS (by decide)
  simp only [State.trialElems, State.trialConverted_isParked, hloopS]

theorem State.trialConverted_takesPart : (s.trialConverted taps).takesPart e = s.takesPart e := by
  have hchan : (s.trialConverted taps).chan e = s.chan e :=
    State.chan_congr (State.trialConverted_frame.1 .drv (by decide))
  simp only [State.takesPart, State.trialConverted_isParked, hchan]

theorem State.trialConverted_trialGood : (s.trialConverted taps).trialGood cap = s.trialGood cap := by
  have hreading : ∀ e, (s.trialConverted taps).readingOf cap e = s.readingOf cap e := fun _ =>
    State.readingOf_congr State.trialConverted_cal
  have hresult : (s.trialConverted taps).trialResult cap = s.trialResult cap := by
    funext e
    simp only [State.trialResult, hreading]
  simp only [State.trialGood, State.trialConverted_trialElems, State.trialConverted_takesPart, State.trialConverted_cal,
    hreading, hresult]

theorem State.trialConverted_trialMisses : (s.trialConverted taps).trialMisses good = s.trialMisses good := by
  simp only [State.trialMisses, State.trialConverted_trialElems, State.trialConverted_takesPart,
    State.trialConverted_cal]

/-- A trial with its conversions goes by what the conversions show at the state before them. -/
theorem State.trialCapture_read (h : s.inTrial = true) (hvoid : s.trialVoid = false)
    (hcap : cap = (s.convertAll taps s.trialCap).1) :
    s.trialCapture taps [] = (s.trialConverted taps).trialRecord (s.trialGood cap) := by
  have hcap' : cap = (s.claimUsed.convertAll taps s.trialCap).1 := hcap.trans State.convertAll_claimUsed.symm
  have hread : s.trialCapture taps [] = (s.trialConverted taps).trialRecord
      ((s.trialConverted taps).trialGood (s.claimUsed.convertAll taps s.trialCap).1) := by
    rw [State.trialCapture, if_pos h]
    simp only [hvoid]
    rfl
  rw [hread, ← hcap', State.trialConverted_trialGood]

/-! ### The results of a stage (R177, R178) -/

theorem State.levelDelta_parts_self {bar cross : Int} :
    OnlyParts [.loopA, .loopB, .drv] s (s.levelDelta e bar cross) :=
  State.levelDelta_parts (by simp) OnlyParts.refl

theorem State.modElem_drv {g : Elem → Elem} : (s.modElem e g).drv = s.drv :=
  State.modElem_parts (P := [.loopA, .loopB]) (by simp) OnlyParts.refl .drv (by decide)

theorem State.levelDelta_sel {bar cross : Int} : (s.levelDelta e bar cross).drv.sel = s.drv.sel := by
  unfold State.levelDelta State.setChan
  dsimp only
  rw [State.modElem_drv]

theorem State.levelDelta_chan_other {bar cross : Int} (h : f ≠ e) :
    (s.levelDelta e bar cross).chan f = s.chan f :=
  (State.setChan_chan_other h).trans (State.chan_congr State.modElem_drv)

theorem State.levelDelta_elem_other {bar cross : Int} {c : Ctl} (h : f ≠ e) :
    (s.levelDelta e bar cross).elem c f = s.elem c f :=
  State.setChan_elem.trans (State.modElem_elem.trans (if_neg h))

/-- What the fits of some elements of a stage may change: the calibration, the level codes and the channels of those that
are fitted. -/
structure FitsOnly (l : List Nat) (s t : State) : Prop where
  cal : ∃ m, t.cal = { s.cal with elems := m }
  sel : t.drv.sel = s.drv.sel
  others : ∀ e, e ∉ l ∨ s.fitted e = false →
    t.chan e = s.chan e ∧ t.calElem e = s.calElem e ∧ ∀ c, t.elem c e = s.elem c e

theorem FitsOnly.refl : FitsOnly l s s := ⟨⟨_, rfl⟩, rfl, fun _ _ => ⟨rfl, rfl, fun _ => rfl⟩⟩

/-- Whether an element is fitted goes by the trials and the skipped elements of the stage, which the fits leave. -/
theorem FitsOnly.fitted (h : FitsOnly l s t) : t.fitted e = s.fitted e := by
  obtain ⟨m, hcal⟩ := h.cal
  unfold State.fitted
  rw [hcal]
  rfl

theorem ne_of_kept (hfit : s.fitted f = true) (h : e ∉ [f] ∨ s.fitted e = false) : e ≠ f := by
  rintro rfl
  simp [hfit] at h

/-- An element's levels move by the fitted deltas. -/
theorem State.levelDelta_fitsOnly {bar cross : Int} (hfit : s.fitted f = true) :
    FitsOnly [f] s (s.free.2.free.2.levelDelta f bar cross) where
  cal := ⟨_, State.levelDelta_parts_self .cal (by decide)⟩
  sel := State.levelDelta_sel
  others e he := ⟨State.levelDelta_chan_other (ne_of_kept hfit he),
    State.calElem_congr (State.levelDelta_parts_self .cal (by decide)),
    fun _ => (State.levelDelta_elem_other (ne_of_kept hfit he)).trans (State.elem_congr rfl rfl)⟩

/-- An element's LC_ADJ follows its level codes. -/
theorem FitsOnly.setCalElem {c : CalElem} (h : FitsOnly [f] s t) (hfit : s.fitted f = true) :
    FitsOnly [f] s (t.setCalElem f c) where
  cal := by
    obtain ⟨m, hcal⟩ := h.cal
    exact ⟨_, congrArg (fun x : CalSt => { x with elems := (t.setCalElem f c).cal.elems }) hcal⟩
  sel := h.sel
  others e he := by
    obtain ⟨hchan, hcalElem, helem⟩ := h.others e he
    exact ⟨hchan, (State.setCalElem_calElem_other (ne_of_kept hfit he)).trans hcalElem,
      fun d => State.setCalElem_elem.trans (helem d)⟩

theorem State.applyFit_unfitted (h : s.fitted f = false) : s.applyFit f = s := by
  rw [State.applyFit, h]
  rfl

theorem State.applyFit_fitsOnly : FitsOnly [f] s (s.applyFit f) := by
  cases hfit : s.fitted f with
  | false =>
    rw [State.applyFit_unfitted hfit]
    exact FitsOnly.refl
  | true =>
    rw [State.applyFit, if_pos hfit]
    dsimp only
    split
    · exact State.levelDelta_fitsOnly hfit
    · exact (State.levelDelta_fitsOnly hfit).setCalElem hfit

theorem foldl_applyFit_fitsOnly : FitsOnly l s (l.foldl State.applyFit s) := by
  induction l generalizing s with
  | nil => exact FitsOnly.refl
  | cons f l ih =>
    have hfit : FitsOnly [f] s (s.applyFit f) := State.applyFit_fitsOnly
    obtain ⟨m, hcal⟩ := hfit.cal
    obtain ⟨m', hcal'⟩ := (ih (s := s.applyFit f)).cal
    refine ⟨⟨m', by rw [List.foldl_cons, hcal', hcal]⟩, ih.sel.trans hfit.sel, fun e he => ?_⟩
    rw [List.mem_cons, not_or, and_or_right] at he
    obtain ⟨hchan, hcalElem, helem⟩ := hfit.others e (by simpa using he.1)
    obtain ⟨hchan', hcalElem', helem'⟩ := ih.others e (by rw [hfit.fitted]; exact he.2)
    exact ⟨hchan'.trans hchan, hcalElem'.trans hcalElem, fun c => (helem' c).trans (helem c)⟩

/-- The state with the results of a stage in use. -/
def State.stageFits (s : State) : State := s.trialElems.foldl State.applyFit s

theorem State.stageFits_parts : OnlyParts [.freeCtr, .loopA, .loopB, .drv, .cal] s s.stageFits :=
  OnlyParts.foldl (fun _ _ => State.applyFit_parts (by simp)) OnlyParts.refl

/-- After the last stage the pass is counted (R178). -/
def State.stageCounted (s : State) : State :=
  if s.cal.stage = 18 then s.stageFits.bump 0x800024 1 else s.stageFits

theorem State.stageCounted_frame :
    Frame [.freeCtr, .loopA, .loopB, .drv, .cal] [] [0x800024] s s.stageCounted := by
  have hfits : Frame [.freeCtr, .loopA, .loopB, .drv, .cal] [] [0x800024] s s.stageFits :=
    Frame.of_parts State.stageFits_parts (by decide) (by decide)
  unfold State.stageCounted
  split
  · exact hfits.bump (by simp)
  · exact hfits

theorem State.stageCounted_fitsOnly : FitsOnly s.trialElems s s.stageCounted := by
  have hfits : FitsOnly s.trialElems s s.stageFits := foldl_applyFit_fitsOnly
  unfold State.stageCounted
  split
  · exact ⟨hfits.cal, hfits.sel, hfits.others⟩
  · exact hfits

/-- Diopter at the stage that follows, or at the first one after the last. -/
def CalSt.stageEnded (c : CalSt) (stage : Nat) : CalSt :=
  { c with stage := if stage = 18 then 0 else stage + 1, trial := 0, reps := 0, trials := []
           named := false, applyAt := none }

theorem State.applyStage_due {a : Nat} (h : s.cal.applyAt = some a) (hdue : a ≤ s.loopS.sample) :
    s.applyStage = { s.stageCounted with
      cal := s.stageCounted.cal.stageEnded s.cal.stage
      loopS := { s.stageCounted.loopS with calStale := [] } } := by
  rw [State.applyStage, h]
  exact if_pos hdue

/-! ### CalibrationProceeds -/

/-- The number of the step that follows. -/
theorem ofNat_step_succ {k : Fin 8} : Fin.ofNat 8 (k.val + 1) = k + 1 := by
  refine Fin.ext ?_
  simp [Fin.val_add]

/-- Settles O24: each step of a full calibration through the part that it begins, a trial by the elements that it misses,
and a stage by what the fits of its elements may change. A step that is not due changes nothing (assumption 3). -/
theorem calibrationProceeds : Obligations.CalibrationProceeds := by
  unfold Obligations.CalibrationProceeds
  refine ⟨?first, ?next, ?seventh, ?waits, ?done, ?kept, ?safe, ?invalid, ?idle, ?applied⟩
  case first =>
    intro s adc hbusy hstep
    have hbegun : (adc.foldl State.calAdc s).beginStep 2 = { (adc.foldl State.calAdc s).stepBegun 2 with
        cal := ((adc.foldl State.calAdc s).stepBegun 2).cal.partBegun 0 7 } :=
      (State.beginStep_part (by decide)).trans (State.beginPart_still (by decide))
    have hbusy' : (adc.foldl State.calAdc s).cal.fullBusy = true := by rw [foldl_calAdc_cal, hbusy]
    have hsets : (adc.foldl State.calAdc s).cal.sets = s.cal.sets := by rw [foldl_calAdc_cal]
    refine ⟨_, congrArg Host.Outcome.next ((State.fullStep_first hbusy hstep).trans hbegun), rfl, rfl, hbusy', hsets,
      fun u hu => foldl_calAdc_auCal_other hu, ?_⟩
    have hadc : OnlyParts [.freeCtr, .cal] s (adc.foldl State.calAdc s) :=
      OnlyParts.foldl (fun _ _ => State.calAdc_parts (by simp)) OnlyParts.refl
    exact Frame.refl.step (OnlyParts.set_cal (by simp) (hadc.trans (State.stepBegun_parts.mono (by simp))))
  case next =>
    intro s adc hbusy hdone hlo hhi
    have hne : s.cal.step.val + 1 ≠ 7 := by omega
    refine ⟨_, congrArg Host.Outcome.next (State.fullStep_next hbusy hdone hlo (by omega)), ?_⟩
    beta_reduce
    rw [State.beginStep_part_cal hne, State.beginStep_part_sel hne, State.stepBegun, State.tempTagged_cal,
      State.tempTagged_parts .drv (by decide)]
    refine ⟨ofNat_step_succ, rfl, hbusy, rfl, rfl, rfl, fun hfive => if_pos (congrArg Fin.val hfive), ?_⟩
    exact Frame.refl.step ((State.tempTagged_parts.mono (by simp)).trans (State.beginStep_part_parts hne))
  case seventh =>
    intro s adc hbusy hdone hstep
    have hval : s.cal.step.val = 6 := congrArg Fin.val hstep
    have hexec : exec (.fullCalibrationStep adc) s = .next (s.beginStep 7) := by
      refine congrArg Host.Outcome.next ((State.fullStep_next hbusy hdone (by omega) (by omega)).trans ?_)
      rw [State.tempTagged_of_ne (by omega), hval]
    obtain ⟨m, hcal⟩ := State.lcInUse_cal (s := s)
    refine ⟨_, hexec, ?_⟩
    beta_reduce
    rw [State.beginStep_seven_cal, State.beginStep_seven_drv, hcal]
    refine ⟨rfl, rfl, hbusy, rfl, rfl, fun e he hpark hskip => ?_, fun e he => ?_,
      fun e => ?_, Frame.refl.step (State.beginStep_parts (by simp) OnlyParts.refl)⟩
    · exact State.beginStep_seven_calElem.trans (State.lcInUse_calElem_fixed he hpark hskip)
    · exact State.beginStep_seven_calElem.trans (State.lcInUse_calElem_kept he)
    · unfold State.chan
      rw [State.beginStep_seven_drv]
  case waits =>
    intro s adc h
    exact congrArg Host.Outcome.next (State.fullStep_waits h)
  case done =>
    intro s hbusy hstep hdone
    obtain ⟨hended, hzero, hframe⟩ := State.storeOrQueue_course (s := s.fullEnded)
      (x := s.captureSet s.cal.fullTag)
    refine ⟨_, congrArg Host.Outcome.next (State.fullDone_seven hbusy hstep hdone), ?_⟩
    beta_reduce
    rw [State.stepEnd_enterLocking_cal, State.stepEnd_enterLocking_loopS, hframe.1 .loopS (by decide), hended, hzero]
    refine ⟨rfl, rfl, State.enterLocking_state, rfl, rfl, fun hstoring => ?_, fun f hidle harea => ?_, ?_⟩
    · rw [State.storeOrQueue_busy (s := s.fullEnded) hstoring]
    · have hroom : s.fullEnded.storeArea (s.captureSet s.cal.fullTag).tag = some f := by
        rw [State.captureSet_tag, State.fullEnded_storeArea, harea]
      rw [State.storeOrQueue_idle (s := s.fullEnded) hidle, State.beginStore_area hroom, State.storeBegun]
    · have hstored : Frame [.cmd, .cal] [Reg.CAL_CMD, Reg.CMD_IRQ_PENDING] [] s
          (s.fullEnded.storeOrQueue (s.captureSet s.cal.fullTag)) :=
        (Frame.refl.step (State.fullEnded_parts.mono (by simp))).trans hframe
      exact (hstored.mono (by simp) (by simp) (by simp)).trans
        (State.stepEnd_enterLocking_frame.mono (by simp) (by simp) (by simp))
  case kept =>
    intro s taps codes cap htrial hvoid hcap hvalid
    have hnone : (s.trialConverted (taps.zip codes)).trialMisses (s.trialGood cap) = [] := by
      rw [State.trialConverted_trialMisses, List.eq_nil_iff_forall_not_mem]
      intro e he
      obtain ⟨⟨hmem, hpart, hskip⟩, hbad⟩ := State.mem_trialMisses_trialGood.1 he
      exact absurd (hvalid e hmem hpart hskip) (by simp [hbad])
    refine ⟨_, congrArg Host.Outcome.next ((State.trialCapture_read htrial hvoid hcap).trans
      (State.trialRecord_kept hnone)), ?_, State.trialConverted_slt, ?_⟩
    · simp only [State.trialConverted_cal]
    · exact (State.trialConverted_frame.mono (by simp) (by simp) (by simp)).step
        (OnlyParts.set_cal (by simp) OnlyParts.refl)
  case safe =>
    intro s taps codes adc e htrial hsafe hmem hpart hskip hreps
    have hmiss : e ∈ s.claimUsed.trialMisses [] := State.mem_trialMisses.2 ⟨⟨hmem, hpart, hskip⟩, by simp⟩
    refine ⟨_, congrArg Host.Outcome.next ((State.trialCapture_void htrial (State.trialVoid_of_safe hsafe)).trans
      (State.trialRecord_repeated hmiss hreps)), rfl, ?_⟩
    exact (State.claimUsed_frame.mono (by simp) (by simp) (by simp)).step (OnlyParts.set_cal (by simp) OnlyParts.refl)
  case invalid =>
    intro s taps codes cap e htrial hvoid hcap hmem hpart hskip hbad hreps
    have hmiss : e ∈ (s.trialConverted (taps.zip codes)).trialMisses (s.trialGood cap) := by
      rw [State.trialConverted_trialMisses]
      exact State.mem_trialMisses_trialGood.2 ⟨⟨hmem, hpart, hskip⟩, hbad⟩
    have hreps' : (s.trialConverted (taps.zip codes)).cal.reps < 4 := by rwa [State.trialConverted_cal]
    refine ⟨_, congrArg Host.Outcome.next ((State.trialCapture_read htrial hvoid hcap).trans
      (State.trialRecord_repeated hmiss hreps')), ?_, ?_⟩
    · simp only [State.trialConverted_cal]
    · exact (State.trialConverted_frame.mono (by simp) (by simp) (by simp)).step
        (OnlyParts.set_cal (by simp) OnlyParts.refl)
  case idle =>
    intro s taps codes adc h
    exact congrArg Host.Outcome.next (State.trialCapture_idle h)
  case applied =>
    intro s a happly hdue hguard
    have hexec : exec .stageResultApply s = .next s.applyStage := congrArg Host.Outcome.next (if_pos hguard)
    have hfits := State.stageCounted_fitsOnly (s := s)
    refine ⟨_, hexec.trans (congrArg _ (State.applyStage_due happly hdue)), rfl, rfl, rfl, rfl, ?_,
      fun e he => ?_, hfits.sel, ?_⟩
    · exact congrArg (fun x : LoopShared => { x with calStale := [] }) (State.stageCounted_frame.1 .loopS (by decide))
    · exact hfits.others e he
    · exact (State.stageCounted_frame.mono (by simp) (by simp) (by simp)).step
        (OnlyParts.set_loopS_cal (by simp) (by simp) OnlyParts.refl)

end Sys2Proof.Machine

/-! SUPPORT. Slot boundaries: what every step of a boundary leaves of the course of the slots, the slot that ends, the
number and start of the slot that begins, and the settlement of SlotBoundaryBegins. -/

namespace Sys2Proof.Machine

open Sys2Proof

variable {s t : State} {n : Nat}

/-! ### The course of the slots -/

/-- Where the slots stand: the start of the pipeline, RUNNING, the slot in progress, and the log. -/
structure SlotCourse where
  start : Option Nat
  running : Bool
  slot : Nat
  log : Sparse Word

/-- The course of the slots in a state. -/
def State.slotCourse (s : State) : SlotCourse := ⟨s.slt.start, s.slt.running, s.slt.slot, s.slt.log⟩

theorem State.slotCourse_congr (h : t.slt = s.slt) : t.slotCourse = s.slotCourse := by
  rw [State.slotCourse, h, State.slotCourse]

/-- An operation that leaves Prism alone leaves the course of the slots. -/
theorem State.slotCourse_of_parts {ps : List Part} (h : OnlyParts ps s t) (hp : Part.slt ∉ ps := by decide) :
    t.slotCourse = s.slotCourse := State.slotCourse_congr (h .slt hp)

theorem foldl_slotCourse {α : Type} {f : State → α → State} {l : List α}
    (h : ∀ s x, (f s x).slotCourse = s.slotCourse) : (l.foldl f s).slotCourse = s.slotCourse := by
  induction l generalizing s with
  | nil => rfl
  | cons x l ih => exact ih.trans (h s x)

theorem slotCourse_ite {c : Prop} [Decidable c] {x : SlotCourse} (ht : t.slotCourse = x) (hs : s.slotCourse = x) :
    (if c then t else s).slotCourse = x := by
  split
  · exact ht
  · exact hs

/-! ### Operations on registers, counters and work -/

@[simp] theorem State.irqIf_slotCourse {a i v : Nat} : (s.irqIf a i v).slotCourse = s.slotCourse :=
  State.slotCourse_of_parts (State.irqIf_parts (P := [.regs, .cmd]) (by simp) OnlyParts.refl)

@[simp] theorem State.bump_slotCourse {a : Nat} : (s.bump a n).slotCourse = s.slotCourse := rfl

@[simp] theorem State.eventAtTime_slotCourse {code u : Nat} : (s.eventAtTime code u).slotCourse = s.slotCourse :=
  State.slotCourse_of_parts (State.eventAtTime_parts (P := [.acq]) (by simp) OnlyParts.refl)

@[simp] theorem State.event_slotCourse {code : Nat} : (s.event code).slotCourse = s.slotCourse :=
  State.eventAtTime_slotCourse

@[simp] theorem State.putWork_slotCourse {w : Work} : (s.putWork w).slotCourse = s.slotCourse := rfl

/-! ### The pipeline (R199, R206) -/

@[simp] theorem State.handOver_slotCourse : (s.handOver n).slotCourse = s.slotCourse := by
  unfold State.handOver
  split
  · rfl
  · split
    · rfl
    · split
      · rfl
      · split <;> rfl

@[simp] theorem State.beginWork_slotCourse : (s.beginWork n).slotCourse = s.slotCourse :=
  slotCourse_ite rfl rfl

@[simp] theorem State.pipeline_slotCourse : (s.pipeline n).slotCourse = s.slotCourse := by
  have claimed {u : State} {m : Nat} : (u.claim m).slotCourse = u.slotCourse := rfl
  refine slotCourse_ite State.handOver_slotCourse ?_
  rw [State.beginWork_slotCourse, claimed, State.handOver_slotCourse]

@[simp] theorem State.countCarryDrops_slotCourse : (s.countCarryDrops n).slotCourse = s.slotCourse :=
  State.slotCourse_of_parts (State.countCarryDrops_parts (P := [.regs, .ctrs, .cmd]) (by simp) OnlyParts.refl)

@[simp] theorem State.countSplit_slotCourse : (s.countSplit n).slotCourse = s.slotCourse :=
  State.slotCourse_of_parts (State.countSplit_parts (P := [.regs, .ctrs, .cmd]) (by simp) OnlyParts.refl)

@[simp] theorem State.routeWork_slotCourse {w : Work} : (s.routeWork w).slotCourse = s.slotCourse := by
  unfold State.routeWork
  split
  · rfl
  · split
    · simp only [State.countSplit_slotCourse, State.countCarryDrops_slotCourse, State.bump_slotCourse,
        State.putWork_slotCourse]
      rfl
    · rfl

/-! ### Holds (R214) -/

@[simp] theorem State.beginSafeHold_slotCourse : s.beginSafeHold.slotCourse = s.slotCourse := by
  unfold State.beginSafeHold
  split
  · split <;> rfl
  · rfl

@[simp] theorem State.holdStep_slotCourse : (s.holdStep n).slotCourse = s.slotCourse := by
  have safe : (if s.flt.safe then s.beginSafeHold else s).slotCourse = s.slotCourse :=
    slotCourse_ite State.beginSafeHold_slotCourse rfl
  unfold State.holdStep
  dsimp only
  split
  · exact safe
  · exact slotCourse_ite safe safe

/-! ### The slot that begins (R191, R193, R198) -/

@[simp] theorem State.takeCalendar_slotCourse : s.takeCalendar.slotCourse = s.slotCourse := by
  unfold State.takeCalendar
  split
  · rfl
  · rw [State.eventAtTime_slotCourse, State.irqIf_slotCourse]
    rfl

@[simp] theorem State.slotCalendar_slotCourse : s.slotCalendar.slotCourse = s.slotCourse :=
  (slotCourse_ite State.takeCalendar_slotCourse rfl :
    (if s.calendarDue then s.takeCalendar else s).slotCourse = s.slotCourse)

@[simp] theorem State.align_slotCourse {k : Nat} : (s.align k n).slotCourse = s.slotCourse := by
  have aligned {a : Int} {l : Bool} :
      ({ s with slt := { s.slt with adj := a, alignLost := l } } : State).slotCourse = s.slotCourse := rfl
  unfold State.align
  simp only [apply_ite State.slotCourse, State.irqIf_slotCourse, ite_self]
  exact aligned

@[simp] theorem State.freshSlot_slotCourse : (s.freshSlot n).1.slotCourse = s.slotCourse := by
  have routed {w : Work} : ((s.handOver n).routeWork w).slotCourse = s.slotCourse :=
    State.routeWork_slotCourse.trans State.handOver_slotCourse
  unfold State.freshSlot
  dsimp only
  cases (s.handOver n).workFor n with
  | none =>
    dsimp only
    split
    · exact State.handOver_slotCourse
    · split <;> exact State.handOver_slotCourse
  | some w =>
    dsimp only
    split
    · exact routed
    · split <;> exact routed

@[simp] theorem State.freezeBounds_slotCourse {held : Bool} : (s.freezeBounds held).slotCourse = s.slotCourse := rfl

@[simp] theorem State.countSlot_slotCourse {f : FinalSlot} : (s.countSlot f).slotCourse = s.slotCourse :=
  State.slotCourse_of_parts (State.countSlot_parts (P := [.regs, .ctrs, .cmd]) (by simp) OnlyParts.refl)

@[simp] theorem foldl_slotSampleAt_slotCourse {l : List Nat} :
    (l.foldl State.slotSampleAt s).slotCourse = s.slotCourse :=
  foldl_slotCourse fun _ _ =>
    State.slotCourse_of_parts
      (State.slotSampleAt_parts (P := [.freeCtr, .regs, .ctrs, .cmd, .acq]) (by simp) OnlyParts.refl)

/-! ### Transfer boundaries (R234) -/

@[simp] theorem State.movePkt_slotCourse {c : Nat} : (s.movePkt c n).slotCourse = s.slotCourse :=
  State.slotCourse_of_parts (State.movePkt_parts (P := [.pkts, .chips]) (by simp) OnlyParts.refl)

@[simp] theorem State.transfer_slotCourse {i j : Nat} {b : EBurst} : (s.transfer i j b).slotCourse = s.slotCourse := by
  have moved {u : State} {l : List Nat} : (l.foldl (fun s n => s.movePkt (chipOf i) n) u).slotCourse = u.slotCourse :=
    foldl_slotCourse fun _ _ => State.movePkt_slotCourse
  unfold State.transfer
  dsimp only
  cases (s.ingPair i j).bursts.find? fun y => decide (y.seq = b.seq) with
  | none => exact slotCourse_ite moved moved
  | some y => exact slotCourse_ite moved moved

@[simp] theorem State.pairBoundary_slotCourse {key : Nat} : (s.pairBoundary n key).slotCourse = s.slotCourse := by
  refine slotCourse_ite ?_ rfl
  refine (State.slotCourse_of_parts (State.gapsWaiting_parts (P := [.regs, .ctrs, .cmd, .brt, .pkts, .ports, .chips])
    (by simp) (State.releaseAll_parts (by simp) OnlyParts.refl))).trans ?_
  exact foldl_slotCourse fun _ _ => State.transfer_slotCourse

@[simp] theorem State.boundaries_slotCourse : (s.boundaries n).slotCourse = s.slotCourse :=
  (foldl_slotCourse fun _ _ => State.pairBoundary_slotCourse).trans (State.slotCourse_of_parts
    (State.answersDue_parts (P := [.regs, .ctrs, .cmd, .flt, .brt, .chips]) (by simp) OnlyParts.refl))

/-! ### The guard (R26) -/

@[simp] theorem State.takeSlot_slotCourse : (s.takeSlot n).1.slotCourse = s.slotCourse := by
  unfold State.takeSlot
  extract_lets held r f u slt s1 s2 s3 s4
  have hr : r.1.slotCourse = s.slotCourse := by
    unfold r
    cases held with
    | none => exact State.freshSlot_slotCourse
    | some h => rfl
  have h1 : s1.slotCourse = r.1.slotCourse := rfl
  have h2 : s2.slotCourse = s1.slotCourse := State.event_slotCourse.trans State.countSlot_slotCourse
  have h3 : s3.slotCourse = s2.slotCourse := slotCourse_ite State.event_slotCourse rfl
  have h4 : s4.slotCourse = s3.slotCourse := foldl_slotSampleAt_slotCourse
  exact State.freezeBounds_slotCourse.trans (h4.trans (h3.trans (h2.trans (h1.trans hr))))

@[simp] theorem State.connectSlot_slotCourse : s.connectSlot.slotCourse = s.slotCourse := by
  have connected {f : FinalSlot} : ({ s with slt := { s.slt with cur := f } } : State).slotCourse = s.slotCourse := rfl
  unfold State.connectSlot
  exact slotCourse_ite connected rfl

@[simp] theorem State.guard_slotCourse : (s.guard n).slotCourse = s.slotCourse := by
  have levels {u : State} {b : BitVec 4608} :
      (u.dueParks.guardSpares.applyStage.applySelects b).applyLevels0.compareLevels.slotCourse = u.slotCourse :=
    State.slotCourse_of_parts <| State.compareLevels_parts
      (P := [.freeCtr, .regs, .ctrs, .cmd, .flt, .loopA, .loopB, .loopS, .drv, .mtx, .cal, .red]) (by simp) <|
      State.applyLevels0_parts (by simp) <| State.applySelects_parts (by simp) <| State.applyStage_parts (by simp) <|
      State.guardSpares_parts (by simp) <| State.dueParks_parts (by simp) OnlyParts.refl
  have sent {u : State} {l : List (Pair × List SegRef × Sparse Nat)} :
      (u.launch l).creditStep.mirrorStep.slotCourse = u.slotCourse :=
    State.slotCourse_of_parts <| State.mirrorStep_parts (P := [.ctrs, .brt, .pkts, .chips]) (by simp) <|
      State.creditStep_parts (by simp) <| State.launch_parts (by simp) OnlyParts.refl
  calc (s.guard n).slotCourse
    _ = (((((s.holdStep n).takeSlot n).1.dueParks.guardSpares.applyStage.applySelects
          ((s.holdStep n).takeSlot n).2.1).applyLevels0.compareLevels.connectSlot.boundaries n).launch
          ((s.holdStep n).takeSlot n).2.2).creditStep.mirrorStep.slotCourse := rfl
    _ = s.slotCourse := by
      rw [sent, State.boundaries_slotCourse, State.connectSlot_slotCourse, levels, State.takeSlot_slotCourse,
        State.holdStep_slotCourse]

theorem State.guard_inGuard : (s.guard n).drv.inGuard = true := rfl

/-! ### The number of the slot (R188, R190) -/

/-- The log once the slot in progress has ended (Table: SLT_LOG). -/
def State.endedLog (s : State) : Sparse Word :=
  if s.slt.running then Sparse.set (fun _ => 0) s.slt.log (s.slt.slot % 64) s.slt.cur.logWord else s.slt.log

theorem State.endSlot_slotCourse : s.endSlot.slotCourse = { s.slotCourse with log := s.endedLog } := by
  unfold State.endSlot State.endedLog
  split <;> rfl

theorem State.startRunning_slotCourse : s.startRunning.slotCourse = { s.slotCourse with running := true } :=
  (State.slotCourse_of_parts (State.stepEnd_parts (P := [.freeCtr, .glb]) (by simp)
    (State.stepEnd_parts (by simp) OnlyParts.refl))).trans State.irqIf_slotCourse

theorem State.nextSlot_slotCourse {b : Nat} : (s.nextSlot b).slotCourse = { s.slotCourse with
    running := s.slt.running || decide (b ≤ s.slt.slot + 1), slot := s.slt.slot + 1 } := by
  unfold State.nextSlot
  dsimp only
  split
  · rename_i h
    obtain ⟨hidle, hb⟩ : s.slt.running = false ∧ b ≤ s.slt.slot + 1 := by simpa using h
    rw [State.startRunning_slotCourse, hidle, decide_eq_true hb]
    rfl
  · rename_i h
    have hrun : (s.slt.running || decide (b ≤ s.slt.slot + 1)) = s.slt.running := by grind
    rw [hrun]
    rfl

/-- The slot that begins, up to its guard: the slot before it has ended and its repair requests are registered. -/
def State.slotBegun (s : State) (k : Fin 4) (b : Nat) : State :=
  ((s.atPhase k).endSlot.trialsEnd.nextSlot b).registerReps

theorem State.slotBegun_slotCourse {k : Fin 4} {b : Nat} : (s.slotBegun k b).slotCourse =
    ⟨s.slt.start, s.slt.running || decide (b ≤ s.slt.slot + 1), s.slt.slot + 1, s.endedLog⟩ := by
  have ended : (s.atPhase k).endSlot.trialsEnd.slotCourse = { s.slotCourse with log := s.endedLog } :=
    (State.slotCourse_of_parts (State.trialsEnd_parts (P := [.loopS, .cal]) (by simp) OnlyParts.refl)).trans
      State.endSlot_slotCourse
  have hrun := congrArg SlotCourse.running ended
  have hslot := congrArg SlotCourse.slot ended
  dsimp only [State.slotCourse] at hrun hslot
  calc (s.slotBegun k b).slotCourse
    _ = ((s.atPhase k).endSlot.trialsEnd.nextSlot b).slotCourse := rfl
    _ = _ := by
      rw [State.nextSlot_slotCourse, ended, hrun, hslot]
      rfl

theorem State.slotBegun_parts {k : Fin 4} {b : Nat} :
    OnlyParts [.freeCtr, .regs, .cmd, .glb, .tim, .loopS, .cal, .slt] s (s.slotBegun k b) :=
  State.registerReps_parts (by simp) <| State.nextSlot_parts (by simp) <| State.trialsEnd_parts (by simp) <|
    State.endSlot_parts (by simp) <| State.atPhase_parts (by simp) OnlyParts.refl

/-! ### SLOT_BOUNDARY -/

/-- What a slot boundary does from the start B on: the guard while Prism runs, then the pipeline of later slots (R199). -/
theorem State.slotBoundary_started {k : Fin 4} {b : Nat} (h : s.slt.start = some b) : s.slotBoundary k =
    (if (s.slotBegun k b).slt.running then
      (((s.slotBegun k b).align k (s.slotBegun k b).slt.slot).slotCalendar).guard (s.slotBegun k b).slt.slot
    else s.slotBegun k b).pipeline (s.slotBegun k b).slt.slot := by
  unfold State.slotBoundary
  rw [h]
  rfl

theorem State.slotBoundary_slotCourse {k : Fin 4} {b : Nat} (h : s.slt.start = some b) :
    (s.slotBoundary k).slotCourse =
      ⟨some b, s.slt.running || decide (b ≤ s.slt.slot + 1), s.slt.slot + 1, s.endedLog⟩ := by
  rw [State.slotBoundary_started h, State.pipeline_slotCourse, ← h, ← State.slotBegun_slotCourse (k := k)]
  refine slotCourse_ite ?_ rfl
  rw [State.guard_slotCourse, State.slotCalendar_slotCourse, State.align_slotCourse]

theorem State.pipeline_drv : (s.pipeline n).drv = s.drv :=
  State.pipeline_parts (P := [.ctrs, .slt]) (by simp) OnlyParts.refl .drv (by decide)

theorem State.slotBegun_running {k : Fin 4} {b : Nat} :
    (s.slotBegun k b).slt.running = (s.slt.running || decide (b ≤ s.slt.slot + 1)) :=
  congrArg SlotCourse.running State.slotBegun_slotCourse

/-- Where Prism runs in the slot that begins, its guard has begun. -/
theorem State.slotBoundary_inGuard {k : Fin 4} {b : Nat} (h : s.slt.start = some b)
    (hrun : s.slt.running = true ∨ b ≤ s.slt.slot + 1) : (s.slotBoundary k).drv.inGuard = true := by
  have hbegun : (s.slotBegun k b).slt.running = true := by simpa [State.slotBegun_running] using hrun
  rw [State.slotBoundary_started h, State.pipeline_drv, if_pos hbegun, State.guard_inGuard]

/-- Before B a boundary changes neither the die nor the burst transport. -/
theorem State.slotBoundary_waits {k : Fin 4} {b : Nat} (h : s.slt.start = some b) (hidle : s.slt.running = false)
    (hb : s.slt.slot + 1 < b) : (s.slotBoundary k).drv = s.drv ∧ (s.slotBoundary k).brt = s.brt := by
  have hbegun : ¬ (s.slotBegun k b).slt.running = true := by simp [State.slotBegun_running, hidle, hb]
  have parts : OnlyParts [.freeCtr, .regs, .ctrs, .cmd, .glb, .tim, .loopS, .cal, .slt] s (s.slotBoundary k) := by
    rw [State.slotBoundary_started h, if_neg hbegun]
    exact State.pipeline_parts (by simp) (State.slotBegun_parts.mono (by simp))
  exact ⟨parts .drv (by decide), parts .brt (by decide)⟩

/-! ### SlotBoundaryBegins -/

/-- Settles O17: the course of the slots is that of the slot that begins, which nothing in its guard or in the pipeline
moves. -/
theorem slotBoundaryBegins : Obligations.SlotBoundaryBegins := by
  unfold Obligations.SlotBoundaryBegins
  refine ⟨fun s k b hstart => ?_, fun s k hstart => ?_⟩
  · have hcourse := State.slotBoundary_slotCourse (k := k) hstart
    have hrun : (s.slotBoundary k).slt.running = (s.slt.running || decide (b ≤ s.slt.slot + 1)) :=
      congrArg SlotCourse.running hcourse
    have hlog : (s.slotBoundary k).slt.log = s.endedLog := congrArg SlotCourse.log hcourse
    refine ⟨s.slotBoundary k, rfl, congrArg SlotCourse.slot hcourse, congrArg SlotCourse.start hcourse,
      fun h => ?_, fun h => ⟨?_, State.slotBoundary_inGuard hstart h⟩,
      fun hidle hb => ⟨?_, State.slotBoundary_waits hstart hidle hb⟩, State.slotBoundary_parts (by simp) OnlyParts.refl⟩
    · rw [hlog, State.endedLog, if_pos h, Sparse.get_set_same]
    · simpa [hrun] using h
    · simp [hrun, hidle, hb]
  · unfold Leaves exec execSlotBoundary State.slotBoundary
    rw [hstart]

end Sys2Proof.Machine

/-! SUPPORT. Calendars and the start of Prism: the writes of the idle area, what a write of SLT_CHANGE_CTRL requests,
withdraws or refuses, the takeover, and the settlement of CalendarsChange. -/

namespace Sys2Proof.Machine

open Sys2Proof

variable {s t : State} {p : CmdPort} {v w : Word} {a b i n : Nat}

/-! ### Fields of a word -/

/-- A field that is replaced leaves the bits outside it alone. -/
theorem getLsbD_setFld_other {hi lo j x : Nat} (h : j < lo ∨ hi < j) (hle : lo ≤ hi) :
    (setFld w hi lo x).getLsbD j = w.getLsbD j := by
  have outside {y : Nat} (hy : y < 2 ^ (hi - lo + 1)) : (y * 2 ^ lo).testBit j = false := by
    rw [Nat.testBit_mul_two_pow]
    obtain hlt | hgt := h
    · simp [hlt]
    · rw [Nat.testBit_lt_two_pow (lt_of_lt_of_le hy (Nat.pow_le_pow_right (by omega) (by omega))), Bool.and_false]
  have hmask := outside (y := 2 ^ (hi - lo + 1) - 1) (Nat.sub_lt (Nat.two_pow_pos _) one_pos)
  have hval := outside (y := x % 2 ^ (hi - lo + 1)) (Nat.mod_lt _ (Nat.two_pow_pos _))
  unfold setFld
  dsimp only
  rw [BitVec.getLsbD_or, BitVec.getLsbD_and, BitVec.getLsbD_not, BitVec.getLsbD_ofNat, BitVec.getLsbD_ofNat, hmask,
    hval]
  by_cases hj : j < 32
  · simp [hj]
  · simp [hj, BitVec.getLsbD_of_ge w j (by omega)]

/-! ### The start of Prism (R190) -/

/-- Prism starts three slots before a cycle boundary: the pipeline begins with the work for slot B. -/
theorem State.prismStart_due (hstate : s.glb.state = .locking) (hstart : s.slt.start = none)
    (hacq : s.noneAcquiring = true) (hlock : s.lockReleased = true) (hslot : slotOf s.nowNs % 512 = 509) :
    ∃ u : State, s.prismStart = u.beginWork (slotOf s.nowNs + 3) ∧
      u.slotCourse = ⟨some (slotOf s.nowNs + 3), s.slt.running, slotOf s.nowNs, s.slt.log⟩ ∧
      u.regs = (s.wrBit Reg.GLB_CTRL 1 false).regs ∧ OnlyParts [.regs, .slt] s u := by
  refine ⟨_, if_pos (by simp [*]), rfl, rfl, ?_⟩
  exact OnlyParts.set_slt (by simp) (State.wrBit_parts (by simp) OnlyParts.refl)

theorem State.prismStart_waits (h : slotOf s.nowNs % 512 ≠ 509) : s.prismStart = s := if_neg (by simp [h])

/-! ### Writes of a calendar (R195) -/

theorem exec_templateWrite {c : Fin 2} {tp : Fin 8} {w : Fin 64}
    (h : Permitted s p (Reg.SLT_TPL + 0x800 * c.val + 0x100 * tp.val + 4 * w.val) 1) :
    exec (.templateWrite p c tp w v) s =
      .next (s.calWrite p c (Reg.SLT_TPL + 0x800 * c.val + 0x100 * tp.val + 4 * w.val) v) :=
  congrArg Host.Outcome.next (State.access_permitted h)

theorem exec_calLenWrite {c : Fin 2} (h : Permitted s p (Reg.SLT_CAL_LEN + 4 * c.val) 1) :
    exec (.calLenWrite p c v) s = .next (s.calWrite p c (Reg.SLT_CAL_LEN + 4 * c.val) v) :=
  congrArg Host.Outcome.next (State.access_permitted h)

theorem State.calWrite_idle {c : Fin 2} (hidle : c ≠ s.slt.activeArea) (hnone : s.slt.change = none) :
    s.calWrite p c a v = s.plainWrite p a v :=
  if_pos (by simpa [State.calWritable, hnone, Fin.val_inj] using hidle)

theorem State.calWrite_refused {c : Fin 2} (h : c = s.slt.activeArea ∨ s.slt.change ≠ none) :
    s.calWrite p c a v = s.wrBit Reg.SLT_CHANGE_CTRL 13 true :=
  if_neg (by simpa [State.calWritable, Fin.val_inj, Option.isNone_iff_eq_none, or_iff_not_imp_left] using h)

/-- A write to an area that is active or under a change only sets WRITE_ERR. -/
theorem State.calWrite_writeErr {c : Fin 2} (h : c = s.slt.activeArea ∨ s.slt.change ≠ none) :
    (s.calWrite p c a v).rdBit Reg.SLT_CHANGE_CTRL 13 = true ∧
    Frame [] [Reg.SLT_CHANGE_CTRL] [] s (s.calWrite p c a v) := by
  rw [State.calWrite_refused h]
  exact ⟨State.wrBit_rdBit_same (by omega), Frame.refl.wrBit (by simp)⟩

/-! ### SLT_CHANGE_CTRL (R196, R197) -/

theorem State.plainWrite_changeCtrl_frame :
    Frame [] [Reg.SLT_CHANGE_CTRL] [] s (s.plainWrite p Reg.SLT_CHANGE_CTRL v) := by
  rw [State.plainWrite_row rfl rfl rfl]
  exact Frame.refl.wr (by simp)

/-- A request without CANCEL in its word. -/
theorem exec_changeReq (h : Permitted s p Reg.SLT_CHANGE_CTRL 1) (hcancel : bit v 1 = false) :
    exec (.changeReq p v) s = .next (s.plainWrite p Reg.SLT_CHANGE_CTRL (withBit v 0)).calRequest := by
  have hwrite : s.writeChangeCtrl p (withBit v 0) =
      (s.plainWrite p Reg.SLT_CHANGE_CTRL (withBit v 0)).calRequest := by
    simp [State.writeChangeCtrl, bit_withBit, bit_withBit_other, hcancel]
  exact congrArg Host.Outcome.next ((State.access_permitted h).trans hwrite)

/-- A cancel without REQ in its word. -/
theorem exec_changeCancel (h : Permitted s p Reg.SLT_CHANGE_CTRL 1) (hreq : bit v 0 = false) :
    exec (.changeCancel p v) s = .next (s.plainWrite p Reg.SLT_CHANGE_CTRL (withBit v 1)).calCancel := by
  have hwrite : s.writeChangeCtrl p (withBit v 1) =
      (s.plainWrite p Reg.SLT_CHANGE_CTRL (withBit v 1)).calCancel := by
    simp [State.writeChangeCtrl, bit_withBit, bit_withBit_other, hreq]
  exact congrArg Host.Outcome.next ((State.access_permitted h).trans hwrite)

/-- The device time that a change request names. -/
abbrev State.changeAt (s : State) : Nat :=
  s.atTime Reg.SLT_CHANGE_AT_SEC_LO Reg.SLT_CHANGE_AT_SEC_HI Reg.SLT_CHANGE_AT_NS

/-- The named time is no cycle boundary. -/
abbrev State.changeMisaligned (s : State) : Prop :=
  1000000000 ≤ s.rdFld Reg.SLT_CHANGE_AT_NS 29 0 ∨ s.changeAt % 1310720 ≠ 0

/-- The named time is less than 8 slots ahead. -/
abbrev State.changeLate (s : State) : Prop := s.changeAt * 4294967296 < s.tim.dt.units + 20480 * 4294967296

/-- The refusal bits of a change request, but for that of the templates (R196). -/
def State.changeRefusals (s : State) : List Nat :=
  (if s.slt.change.isSome then [8] else []) ++ (if s.changeLate then [9] else []) ++
  if s.changeMisaligned then [10] else []

/-- A change request breaks a condition (R196). -/
abbrev State.changeRefused (s : State) : Prop :=
  s.changeMisaligned ∨ s.slt.change ≠ none ∨ s.changeLate ∨ s.tplFault (1 - s.slt.activeArea.val) ≠ none

/-- A fault of the templates is shown with its place (R194). -/
def State.tplFaultShown (s : State) : Option (Nat × Nat) → State
  | none => s
  | some f => s.wr Reg.SLT_CHANGE_CTRL
      (setFld (setFld (setBit (s.rd Reg.SLT_CHANGE_CTRL) 11 true) 18 16 f.1) 27 19 f.2)

theorem changeLate_iff : ((s.changeAt : Int) * 4294967296 - s.tim.dt.units < 20480 * 4294967296) ↔ s.changeLate := by
  unfold State.changeLate
  omega

/-- A request that breaks no condition makes the change pending. -/
theorem State.calRequest_accepted (hns : s.rdFld Reg.SLT_CHANGE_AT_NS 29 0 < 1000000000)
    (hcycle : s.changeAt % 1310720 = 0) (hnone : s.slt.change = none)
    (hahead : s.tim.dt.units + 20480 * 4294967296 ≤ s.changeAt * 4294967296)
    (hvalid : s.tplFault (1 - s.slt.activeArea.val) = none) : s.calRequest =
      { s with slt := { s.slt with change := some (slotOf s.changeAt) } }.wrBit Reg.SLT_CHANGE_CTRL 0 true := by
  refine if_pos ?_
  simp only [Bool.and_eq_true, Bool.not_eq_true', Bool.or_eq_false_iff, decide_eq_false_iff_not, changeLate_iff]
  simp [hns, hcycle, hnone, hvalid, hahead]

/-- A request that breaks a condition sets the bit of each. -/
theorem State.calRequest_refused (h : s.changeRefused) : s.calRequest =
      ((s.changeRefusals.foldl (fun t b => t.wrBit Reg.SLT_CHANGE_CTRL b true) s).tplFaultShown
        (s.tplFault (1 - s.slt.activeArea.val))).irqIf Reg.SLT_CTRL 0 5 := by
  have single {c : Prop} [Decidable c] {u : State} {j : Nat} :
      (if c then [j] else []).foldl (fun t b => t.wrBit Reg.SLT_CHANGE_CTRL b true) u =
        if c then u.wrBit Reg.SLT_CHANGE_CTRL j true else u := by
    split <;> rfl
  refine (if_neg ?_).trans ?_
  · simp only [Bool.and_eq_true, Bool.not_eq_true', Bool.or_eq_false_iff, decide_eq_false_iff_not, changeLate_iff,
      Option.isSome_eq_false_iff, Option.isNone_iff_eq_none]
    rintro ⟨⟨⟨⟨hns, hcycle⟩, hnone⟩, hahead⟩, hvalid⟩
    exact h.elim (fun hmis => hmis.elim hns hcycle) fun h => h.elim (fun hpend => hpend hnone) fun h =>
      h.elim hahead fun hfault => hfault hvalid
  · rw [State.changeRefusals, List.foldl_append, List.foldl_append, single, single, single]
    simp only [Bool.or_eq_true, decide_eq_true_eq, changeLate_iff]
    cases s.tplFault (1 - s.slt.activeArea.val) <;> rfl

theorem State.tplFaultShown_frame {f : Option (Nat × Nat)} :
    Frame [] [Reg.SLT_CHANGE_CTRL] [] s (s.tplFaultShown f) := by
  cases f with
  | none => exact Frame.refl
  | some f => exact Frame.refl.wr (by simp)

/-- The place of a fault stands above the refusal bits, and the fault itself is one of them. -/
theorem State.tplFaultShown_rdBit {f : Option (Nat × Nat)} (hi : i < 16)
    (h : s.rdBit Reg.SLT_CHANGE_CTRL i = true ∨ (i = 11 ∧ f ≠ none)) :
    (s.tplFaultShown f).rdBit Reg.SLT_CHANGE_CTRL i = true := by
  cases f with
  | none => exact h.resolve_right fun ⟨_, hsome⟩ => hsome rfl
  | some f =>
    refine (congrArg (bit · i) State.wr_rd_same).trans ?_
    unfold bit
    rw [getLsbD_setFld_other (.inl (by omega)) (by omega), getLsbD_setFld_other (.inl (by omega)) (by omega)]
    by_cases h11 : i = 11
    · rw [h11, getLsbD_setBit_same (by omega)]
    · exact (getLsbD_setBit_other h11).trans (h.resolve_right fun ⟨hi11, _⟩ => h11 hi11)

theorem mem_ite_singleton {c : Prop} [Decidable c] (h : c) : i ∈ if c then [i] else [] := by
  rw [if_pos h]
  exact List.mem_singleton_self i

theorem State.mem_changeRefusals_pending (h : s.slt.change ≠ none) : 8 ∈ s.changeRefusals :=
  List.mem_append_left _ (List.mem_append_left _ (mem_ite_singleton (Option.isSome_iff_ne_none.2 h)))

theorem State.mem_changeRefusals_late (h : s.changeLate) : 9 ∈ s.changeRefusals :=
  List.mem_append_left _ (List.mem_append_right _ (mem_ite_singleton h))

theorem State.mem_changeRefusals_misaligned (h : s.changeMisaligned) : 10 ∈ s.changeRefusals :=
  List.mem_append_right _ (mem_ite_singleton h)

/-- Every refusal bit that applies is set. -/
theorem State.calRequest_refused_bit (hrefused : s.changeRefused) (hi : i < 16) (h : i ∈ s.changeRefusals ∨
    (i = 11 ∧ s.tplFault (1 - s.slt.activeArea.val) ≠ none)) : s.calRequest.rdBit Reg.SLT_CHANGE_CTRL i = true := by
  rw [State.calRequest_refused hrefused, State.rdBit_of_frame State.irqIf_frame (by decide)]
  exact State.tplFaultShown_rdBit hi (h.imp (fun hmem => foldl_wrBit_rdBit (.inl hmem) (by omega)) id)

theorem State.calRequest_refused_frame (h : s.changeRefused) :
    Frame [.cmd] [Reg.SLT_CHANGE_CTRL, Reg.CMD_IRQ_PENDING] [] s s.calRequest := by
  rw [State.calRequest_refused h]
  exact ((foldl_wrBit_frame.trans State.tplFaultShown_frame).mono (by simp) (by simp) (by simp)).trans
    (State.irqIf_frame.mono (by simp) (by simp) (by simp))

/-! What a change request reads, it reads past SLT_CHANGE_CTRL. -/

theorem State.tplFault_of_frame {ps : List Part} (h : Frame ps [Reg.SLT_CHANGE_CTRL] [] s t) {area : Nat} :
    t.tplFault area = s.tplFault area := by
  have entry {k j : Nat} : t.tplEntry area k j = s.tplEntry area k j := by
    unfold State.tplEntry
    rw [h.2.1 _ (by simp only [Reg.SLT_TPL, Reg.SLT_CHANGE_CTRL, List.mem_singleton]; omega)]
  have len : t.calLen area = s.calLen area := by
    unfold State.calLen State.rdFld
    rw [h.2.1 _ (by simp only [Reg.SLT_CAL_LEN, Reg.SLT_CHANGE_CTRL, List.mem_singleton]; omega)]
  unfold State.tplFault State.tplBad
  simp only [entry, len]

theorem State.changeAt_of_frame {ps : List Part} (h : Frame ps [Reg.SLT_CHANGE_CTRL] [] s t) :
    t.changeAt = s.changeAt ∧ t.rdFld Reg.SLT_CHANGE_AT_NS 29 0 = s.rdFld Reg.SLT_CHANGE_AT_NS 29 0 := by
  unfold State.changeAt State.atTime State.rdFld
  rw [h.2.1 Reg.SLT_CHANGE_AT_SEC_LO (by decide), h.2.1 Reg.SLT_CHANGE_AT_SEC_HI (by decide),
    h.2.1 Reg.SLT_CHANGE_AT_NS (by decide)]
  exact ⟨rfl, rfl⟩

/-- The state after the plain part of a write of SLT_CHANGE_CTRL. -/
abbrev State.changeWritten (s : State) (p : CmdPort) (v : Word) : State := s.plainWrite p Reg.SLT_CHANGE_CTRL v

theorem State.changeWritten_slt : (s.changeWritten p v).slt = s.slt :=
  State.plainWrite_changeCtrl_frame.1 .slt (by decide)

theorem State.changeWritten_tim : (s.changeWritten p v).tim = s.tim :=
  State.plainWrite_changeCtrl_frame.1 .tim (by decide)

theorem State.changeWritten_changeAt : (s.changeWritten p v).changeAt = s.changeAt :=
  (State.changeAt_of_frame State.plainWrite_changeCtrl_frame).1

theorem State.changeWritten_ns :
    (s.changeWritten p v).rdFld Reg.SLT_CHANGE_AT_NS 29 0 = s.rdFld Reg.SLT_CHANGE_AT_NS 29 0 :=
  (State.changeAt_of_frame State.plainWrite_changeCtrl_frame).2

theorem State.changeWritten_tplFault {area : Nat} : (s.changeWritten p v).tplFault area = s.tplFault area :=
  State.tplFault_of_frame State.plainWrite_changeCtrl_frame

theorem State.changeWritten_changeRefusals : (s.changeWritten p v).changeRefusals = s.changeRefusals := by
  unfold State.changeRefusals State.changeLate State.changeMisaligned
  rw [State.changeWritten_ns, State.changeWritten_changeAt, State.changeWritten_slt, State.changeWritten_tim]

theorem State.changeWritten_changeRefused : (s.changeWritten p v).changeRefused ↔ s.changeRefused := by
  unfold State.changeRefused State.changeLate State.changeMisaligned
  rw [State.changeWritten_ns, State.changeWritten_changeAt, State.changeWritten_slt, State.changeWritten_tim,
    State.changeWritten_tplFault]

/-! ### Withdrawal and takeover (R197, R198) -/

theorem State.wrBit_rdBit_other {j : Nat} {c : Bool} (h : j ≠ i) : (s.wrBit a i c).rdBit a j = s.rdBit a j :=
  (congrArg (bit · j) State.wr_rd_same).trans (getLsbD_setBit_other h)

theorem State.calCancel_ahead (h : s.slt.change = some b) (hahead : s.tim.dt.units < slotUnits (b - 3)) :
    s.calCancel = ({ s with slt := { s.slt with change := none } }.wrBit Reg.SLT_CHANGE_CTRL 0 false).wrBit
      Reg.SLT_CHANGE_CTRL 12 true := by
  rw [State.calCancel, h]
  exact if_pos hahead

/-- From slot B - 3 on a cancel changes nothing, and neither does one with no change pending. -/
theorem State.calCancel_late (h : ∀ b, s.slt.change = some b → slotUnits (b - 3) ≤ s.tim.dt.units) :
    s.calCancel = s := by
  unfold State.calCancel
  split
  · rfl
  · exact if_neg (Nat.not_lt.2 (h _ ‹_›))

theorem State.eventAtTime_frame {code u : Nat} : Frame [.acq] [] [] s (s.eventAtTime code u) :=
  Frame.refl.step (State.eventAtTime_parts (by simp) OnlyParts.refl)

/-- The state with the idle area active from slot b on; the takeover is an interrupt, and an event of Loupe. -/
def State.calendarTaken (s : State) (b : Nat) : State :=
  (({ s with slt := { s.slt with change := none, activeArea := s.slt.activeArea + 1, calStart := b } }.wrBit
    Reg.SLT_CHANGE_CTRL 0 false).irqIf Reg.SLT_CTRL 0 5).eventAtTime 0x21 (slotUnits b)

theorem State.calendarTaken_course : (s.calendarTaken b).slt =
      { s.slt with change := none, activeArea := s.slt.activeArea + 1, calStart := b } ∧
    (s.calendarTaken b).rdBit Reg.SLT_CHANGE_CTRL 0 = false ∧
    Frame [.cmd, .acq, .slt] [Reg.SLT_CHANGE_CTRL, Reg.CMD_IRQ_PENDING] [] s (s.calendarTaken b) := by
  refine ⟨(State.eventAtTime_frame.1 .slt (by decide)).trans (State.irqIf_frame.1 .slt (by decide)), ?_, ?_⟩
  · exact (State.rdBit_of_frame State.eventAtTime_frame (by simp)).trans
      ((State.rdBit_of_frame State.irqIf_frame (by decide)).trans (State.wrBit_rdBit_same (by omega)))
  · exact (((Frame.refl.step (OnlyParts.set_slt (by simp) OnlyParts.refl)).wrBit (by simp)).irqIf (by simp)
      (by simp)).trans (State.eventAtTime_frame.mono (by simp) (by simp) (by simp))

theorem State.calendarTakeover_due (h : s.slt.change = some b) (hrun : s.slt.running = true → b ≤ s.slt.slot)
    (hidle : s.slt.running = false → slotUnits b ≤ s.tim.dt.units) : s.calendarTakeover =
      s.calendarTaken b := by
  have hdue : s.calendarDue = true := by
    unfold State.calendarDue
    rw [h]
    dsimp only
    split
    · exact decide_eq_true (hrun ‹_›)
    · exact decide_eq_true (hidle (Bool.eq_false_of_not_eq_true ‹_›))
  rw [State.calendarTakeover, if_pos hdue, State.takeCalendar, h]
  rfl

/-! ### CalendarsChange -/

/-- Settles O20: a write of a calendar goes by the area that it names, and a write of SLT_CHANGE_CTRL by the equations of
its REQ and its CANCEL, on the state that its plain part leaves. -/
theorem calendarsChange : Obligations.CalendarsChange := by
  unfold Obligations.CalendarsChange
  refine ⟨?start, ?waits, ?template, ?length, ?templateErr, ?lengthErr, ?accepted, ?refused, ?cancelled, ?late,
    ?takeover⟩
  case start =>
    intro s hstate hstart hacq hlock hslot
    obtain ⟨u, heq, hcourse, hregs, hparts⟩ := State.prismStart_due hstate hstart hacq hlock hslot
    have hbegun : OnlyParts [.slt] u s.prismStart := heq ▸ State.beginWork_parts (by simp) OnlyParts.refl
    have hall : s.prismStart.slotCourse = _ :=
      (congrArg State.slotCourse heq).trans (State.beginWork_slotCourse.trans hcourse)
    have hrd {a : Nat} : s.prismStart.rd a = (s.wrBit Reg.GLB_CTRL 1 false).rd a := by
      unfold State.rd
      rw [hbegun .regs (by decide), hregs]
    refine ⟨s.prismStart, rfl, congrArg SlotCourse.start hall, congrArg SlotCourse.slot hall,
      congrArg SlotCourse.running hall, ?_, (hparts.trans (hbegun.mono (by simp))).mono (by simp),
      fun a ha => ?_, fun a _ => ?_⟩
    · exact (congrArg (bit · 1) hrd).trans (State.wrBit_rdBit_same (by omega))
    · exact hrd.trans (State.wr_rd_other (by simpa using ha))
    · unfold State.ctr
      rw [hbegun .ctrs (by decide), hparts .ctrs (by decide)]
  case waits =>
    intro s hslot
    exact congrArg Host.Outcome.next (State.prismStart_waits hslot)
  case template =>
    intro s p c tp w v hperm hidle hnone
    exact ⟨_, exec_templateWrite hperm, State.calWrite_idle hidle hnone⟩
  case length =>
    intro s p c v hperm hidle hnone
    exact ⟨_, exec_calLenWrite hperm, State.calWrite_idle hidle hnone⟩
  case templateErr =>
    intro s p c tp w v hperm h
    exact ⟨_, exec_templateWrite hperm, State.calWrite_writeErr h⟩
  case lengthErr =>
    intro s p c v hperm h
    exact ⟨_, exec_calLenWrite hperm, State.calWrite_writeErr h⟩
  case accepted =>
    intro s p v at_ hperm hcancel hat hns hcycle hnone hahead hvalid
    subst hat
    have hacc := State.calRequest_accepted (s := s.changeWritten p (withBit v 0)) (by rwa [State.changeWritten_ns])
      (by rwa [State.changeWritten_changeAt]) (by rwa [State.changeWritten_slt])
      (by rwa [State.changeWritten_changeAt, State.changeWritten_tim])
      (by rwa [State.changeWritten_tplFault, State.changeWritten_slt])
    refine ⟨_, (exec_changeReq hperm hcancel).trans (congrArg _ hacc), ?_, State.wrBit_rdBit_same (by omega), ?_⟩
    · rw [State.changeWritten_slt, State.changeWritten_changeAt]
      rfl
    · exact ((State.plainWrite_changeCtrl_frame.mono (by simp) (by simp) (by simp)).step
        (OnlyParts.set_slt (by simp) OnlyParts.refl)).wrBit (by simp)
  case refused =>
    intro s p v at_ hperm hcancel hat h
    subst hat
    have hrefused : (s.changeWritten p (withBit v 0)).changeRefused :=
      State.changeWritten_changeRefused.2 (or_assoc.2 h)
    have hbit {i : Nat} (hi : i < 16) (hmem : i ∈ s.changeRefusals) :
        (s.changeWritten p (withBit v 0)).calRequest.rdBit Reg.SLT_CHANGE_CTRL i = true :=
      State.calRequest_refused_bit hrefused hi (.inl (by rwa [State.changeWritten_changeRefusals]))
    have hframe := State.calRequest_refused_frame hrefused
    refine ⟨_, exec_changeReq hperm hcancel, (hframe.1 .slt (by decide)).trans State.changeWritten_slt,
      fun hpend => hbit (by omega) (State.mem_changeRefusals_pending hpend),
      fun hlate => hbit (by omega) (State.mem_changeRefusals_late hlate),
      fun hmis => hbit (by omega) (State.mem_changeRefusals_misaligned hmis), fun hfault => ?_,
      (State.plainWrite_changeCtrl_frame.mono (by simp) (by simp) (by simp)).trans hframe⟩
    refine State.calRequest_refused_bit hrefused (by omega) (.inr ⟨rfl, ?_⟩)
    rwa [State.changeWritten_tplFault, State.changeWritten_slt]
  case cancelled =>
    intro s p v b hperm hreq hpend hahead
    have hcancel := State.calCancel_ahead (s := s.changeWritten p (withBit v 1)) (b := b)
      (by rwa [State.changeWritten_slt]) (by rwa [State.changeWritten_tim])
    refine ⟨_, (exec_changeCancel hperm hreq).trans (congrArg _ hcancel), ?_, ?_,
      State.wrBit_rdBit_same (by omega), ?_⟩
    · rw [State.changeWritten_slt]
      rfl
    · exact (State.wrBit_rdBit_other (by omega)).trans (State.wrBit_rdBit_same (by omega))
    · exact (((State.plainWrite_changeCtrl_frame.mono (by simp) (by simp) (by simp)).step
        (OnlyParts.set_slt (by simp) OnlyParts.refl)).wrBit (by simp)).wrBit (by simp)
  case late =>
    intro s p v hperm hreq hlate
    have hkept := State.calCancel_late (s := s.changeWritten p (withBit v 1))
      (by rwa [State.changeWritten_slt, State.changeWritten_tim])
    exact ⟨_, (exec_changeCancel hperm hreq).trans (congrArg _ hkept), State.changeWritten_slt,
      State.plainWrite_changeCtrl_frame⟩
  case takeover =>
    intro s b hpend hrun hidle
    obtain ⟨hslt, hbit, hframe⟩ := State.calendarTaken_course (s := s) (b := b)
    exact ⟨_, congrArg Host.Outcome.next (State.calendarTakeover_due hpend hrun hidle), hslt, hbit, hframe⟩

end Sys2Proof.Machine

/-! SUPPORT. Answers to bursts and their repairs: the message that the mesh delivers, a burst that has failed once more,
the reads of a stored copy, and the settlement of AnswersAndRepairs. -/

namespace Sys2Proof.Machine

open Sys2Proof

variable {s t : State} {i j k l n seq : Nat} {g : BitVec 32}

/-! ### The oldest message (R231) -/

theorem takeMsg_oldest {m : Msg} {older newer : List Msg} {ok : Msg → Bool} (hok : ok m = true)
    (hold : ∀ x ∈ older, ok x = false ∧ x.route ≠ m.route) :
    takeMsg ok (older ++ m :: newer) = some (m, older ++ newer) := by
  induction older generalizing ok with
  | nil => simp [takeMsg, hok]
  | cons x older ih =>
    obtain ⟨⟨hx, hroute⟩, hrest⟩ := List.forall_mem_cons.1 hold
    have htail := ih (ok := fun y => ok y && decide (y.route ≠ x.route)) (by simp [hok, hroute.symm])
      fun y hy => ⟨by simp [(hrest y hy).1], (hrest y hy).2⟩
    rw [List.cons_append, takeMsg, if_neg (by simp [hx]), htail]
    rfl

/-- The state with other messages in the mesh. -/
abbrev State.meshLeft (s : State) (rest : List Msg) : State := { s with brt := { s.brt with mesh := rest } }

/-- The mesh delivers the oldest message that a receiver accepts. -/
theorem State.recv_oldest {P : Msg → Prop} {ok : Msg → Bool} {m : Msg} {rest : List Msg}
    (h : Oldest P s.brt.mesh m rest) (hok : ∀ x, ok x = true ↔ P x) : s.recv ok = some (m, s.meshLeft rest) := by
  obtain ⟨hm, older, newer, hmesh, hrest, hold⟩ := h
  have htake : takeMsg ok s.brt.mesh = some (m, rest) := by
    rw [hmesh, hrest]
    exact takeMsg_oldest ((hok m).2 hm) fun x hx =>
      ⟨Bool.eq_false_iff.2 fun hx' => (hold x hx).1 ((hok x).1 hx'), (hold x hx).2⟩
  rw [State.recv, htake]
  rfl

theorem State.ack_oldest {rest : List Msg} (h : Oldest (fun x => ∃ a, x = .ack i j a) s.brt.mesh (.ack i j seq) rest) :
    s.ack i j = ((s.meshLeft rest).modBurst i j seq fun b => { b with st := .acked }).withdrawRepair i j seq := by
  unfold State.ack
  rw [State.recv_oldest h]
  intro x
  cases x <;> simp

theorem State.nack_oldest {rest : List Msg} {code : Nat}
    (h : Oldest (fun x => ∃ a c, x = .nack i j a c) s.brt.mesh (.nack i j seq code) rest) :
    s.nack i j = match s.awaiting i j seq with
      | some b => (s.meshLeft rest).burstFailed i j b
      | none => s.meshLeft rest := by
  unfold State.nack
  rw [State.recv_oldest h]
  · rfl
  · intro x
    cases x <;> simp

/-! ### The ingress side of a pair -/

theorem State.setIngPair_ingPair_same {x : IngPair} : (s.setIngPair i j x).ingPair i j = x :=
  Sparse.get_set_same _ _ _ _

theorem State.setIngPair_ingPair {x : IngPair} {k l : Nat} :
    (s.setIngPair i j x).ingPair k l = if 512 * k + l = 512 * i + j then x else s.ingPair k l :=
  Sparse.get_set _ _ _ _ _

theorem State.modBurst_bursts {f : IBurst → IBurst} : ((s.modBurst i j seq f).ingPair i j).bursts =
    (s.ingPair i j).bursts.map fun b => if b.seq = seq then f b else b :=
  congrArg IngPair.bursts State.setIngPair_ingPair_same

/-- Every burst of a SEQ waits for its gap. -/
def State.gapAsked (s : State) (i j seq : Nat) : Prop := ∀ y ∈ (s.ingPair i j).bursts, y.seq = seq → y.st = .gapAsked

theorem State.askGap_ingPair {c : GapCause} : ((s.askGap i j seq c).ingPair k l).bursts =
    if 512 * k + l = 512 * i + j then
      (s.ingPair i j).bursts.map fun b => if b.seq = seq then { b with st := .gapAsked } else b
    else (s.ingPair k l).bursts := by
  have sent {u : State} {m : Msg} : (u.send m).ingPair k l = u.ingPair k l := by
    unfold State.send
    split <;> rfl
  unfold State.askGap
  rw [sent, State.setIngPair_ingPair]
  split <;> rfl

theorem State.askGap_gapAsked {c : GapCause} : (s.askGap i j seq c).gapAsked i j seq := by
  intro y hy hseq
  rw [State.askGap_ingPair, if_pos rfl] at hy
  obtain ⟨b, -, rfl⟩ := List.mem_map.1 hy
  split at hseq
  · simp [*]
  · exact absurd hseq ‹_›

theorem State.askGap_keeps_gapAsked {c : GapCause} {seq' : Nat} (h : s.gapAsked k l seq') :
    (s.askGap i j seq c).gapAsked k l seq' := by
  intro y hy hseq
  rw [State.askGap_ingPair] at hy
  split at hy
  · rename_i hkey
    have hpair : s.ingPair i j = s.ingPair k l := congrArg (Sparse.get _ _) hkey.symm
    obtain ⟨b, hb, rfl⟩ := List.mem_map.1 hy
    rw [hpair] at hb
    split
    · rfl
    · exact h b hb (by simpa [*] using hseq)
  · exact h y hy hseq

theorem State.send_mesh {m : Msg} : (s.send m).brt.mesh =
    s.brt.mesh ++ if s.chipAlive m.ends.1 && s.chipAlive m.ends.2 then [m] else [] := by
  unfold State.send
  split
  · rfl
  · exact (List.append_nil _).symm

theorem State.askGap_mesh {c : GapCause} : (s.askGap i j seq c).brt.mesh =
    s.brt.mesh ++ if s.chipAlive (chipOf i) && s.chipAlive (chipOf j) then [.gapReq i j seq c] else [] :=
  State.send_mesh

/-! ### A burst that has failed once more (R235, R236) -/

/-- What a failure brings: below RETX_MAX a repair request of the present slot, else GAP_REQUEST. -/
def BurstFailure (s t : State) (i j : Nat) (b : IBurst) (rest : List Msg) : Prop :=
  if max 1 (s.rdFld Reg.BRT_CFG 3 0) ≤ b.fails + 1 then
    t.brt.mesh = rest ++ (if s.chipAlive (chipOf i) && s.chipAlive (chipOf j) then [.gapReq i j b.seq .retx] else []) ∧
    t.gapAsked i j b.seq ∧ t.slt = s.slt
  else
    t.brt.mesh = rest ∧
    (t.ingPair i j).bursts = (s.ingPair i j).bursts.map (fun y =>
      if y.seq = b.seq then { y with fails := y.fails + 1, st := .failed } else y) ∧
    t.slt.newReps = s.slt.newReps ++ [{ i := i, j := j, seq := b.seq, raised := s.slt.slot, bound := 0 }] ∧
    t.slt.reps = s.slt.reps ∧ t.slt.slot = s.slt.slot

theorem State.burstFailed_failure {b : IBurst} : BurstFailure s (s.burstFailed i j b) i j b s.brt.mesh := by
  have hslt {u : State} : (u.askGap i j b.seq .retx).slt = u.slt :=
    State.askGap_parts (P := [.brt]) (by simp) OnlyParts.refl .slt (by decide)
  unfold BurstFailure State.burstFailed
  dsimp only
  split
  · exact ⟨State.askGap_mesh, State.askGap_gapAsked, hslt⟩
  · exact ⟨rfl, State.modBurst_bursts, rfl, rfl, rfl⟩

theorem State.burstFailed_frame {b : IBurst} : Frame [.slt, .brt] [] [] s (s.burstFailed i j b) :=
  Frame.refl.step (State.burstFailed_parts (by simp) OnlyParts.refl)

/-- The first burst unanswered by the end of slot n + 2 has failed, and the timeout is counted. -/
theorem State.ackTimeout_due {b : IBurst} (h : (s.ingPair i j).bursts.find?
      (fun b => decide (b.st = .sent ∧ b.slot + 3 ≤ s.slt.slot)) = some b) :
    s.ackTimeout i j = (s.burstFailed i j b).bump 0xE00088 1 := by
  rw [State.ackTimeout, h]

theorem State.ackTimeout_none (h : ∀ b ∈ (s.ingPair i j).bursts, b.st = .sent → s.slt.slot < b.slot + 3) :
    s.ackTimeout i j = s := by
  have hnone : (s.ingPair i j).bursts.find? (fun b => decide (b.st = .sent ∧ b.slot + 3 ≤ s.slt.slot)) = none := by
    simpa using h
  rw [State.ackTimeout, hnone]

/-! ### Reads of a stored copy (R330, R331) -/

theorem State.setChip_chip_same {x : Chip} {c : Nat} (hc : c < 16) : (s.setChip c x).chip c = x := by
  simp [State.chip, State.setChip, List.getD, hc]

theorem State.chip_congr {c : Nat} (h : t.chips = s.chips) : t.chip c = s.chip c := by
  rw [State.chip, h, State.chip]

theorem State.autoReplace_frame {c : Nat} :
    Frame [.cmd, .flt, .chips] [Reg.CMD_IRQ_PENDING] [] s (s.autoReplace c l) := by
  have set {x : Chip} : Frame [.cmd, .flt, .chips] [Reg.CMD_IRQ_PENDING] [] s (s.setChip c x) :=
    Frame.refl.step (State.setChip_parts (by simp) OnlyParts.refl)
  unfold State.autoReplace
  dsimp only
  split
  · split
    · exact Frame.refl
    · exact set
  · split
    · exact Frame.refl.raise (by simp) (by decide)
    · exact set.irqIf (by simp) (by simp)

theorem State.correctedRead_frame {c : Nat} : Frame [.cmd, .flt, .chips] [Reg.CMD_IRQ_PENDING]
    [0x200020] (s.bump (bufReg c 0x800) 1) (s.correctedRead c g) := by
  have set {x : Chip} : Frame [.cmd, .flt, .chips] [Reg.CMD_IRQ_PENDING] [0x200020] (s.bump (bufReg c 0x800) 1)
      (((s.bump (bufReg c 0x800) 1).raise (stackCode c) 0).setChip c x) :=
    (Frame.refl.bump (by simp)).step (State.setChip_parts (by simp) OnlyParts.refl)
  unfold State.correctedRead
  dsimp only
  split
  · exact set.trans (State.autoReplace_frame.mono (by simp) (by simp) (by simp))
  · exact set

theorem State.autoReplace_region {c : Nat} {hold : Bool} (hc : c < 16) :
    ((s.autoReplace c l).chip c).region hold = (s.chip c).region hold := by
  have set {x : Chip} (hx : x.region hold = (s.chip c).region hold) :
      ((s.setChip c x).chip c).region hold = (s.chip c).region hold := by
    rw [State.setChip_chip_same hc, hx]
  unfold State.autoReplace
  dsimp only
  split
  · split
    · rfl
    · exact set (by cases hold <;> rfl)
  · split
    · rfl
    · refine (congrArg (Chip.region · hold) (State.chip_congr (State.irqIf_frame.1 .chips (by decide)))).trans ?_
      exact set (by cases hold <;> rfl)

theorem Chip.dropFree_used {x : Chip} {hold h : Bool} :
    ((x.dropFree h k n).region hold).used = (x.region hold).used := by
  cases h <;> cases hold <;> rfl

/-- A page is retired once: its chiplet keeps the segments in use, and counts it; past a full map a fault is raised, and
with the last page that its channel may lose a replacement starts (R332, R334). -/
theorem State.retirePage_cases {c : Nat} : s.retirePage c g = s ∨ ∃ (x : Chip) (u : State),
    (∀ hold, (x.region hold).used = ((s.chip c).region hold).used) ∧
    (u = (s.setChip c x).bump (bufReg c 0x810) 1 ∨
      u = ((s.setChip c x).bump (bufReg c 0x810) 1).raise (stackCode c) 2) ∧
    (s.retirePage c g = u ∨ s.retirePage c g = u.autoReplace c (segChan g)) := by
  unfold State.retirePage
  extract_lets x hold l idx room z y s1 s2
  split
  · exact .inl rfl
  · refine .inr ⟨y, s2, fun h => ?_, ?_, ?_⟩
    · exact Eq.trans (by cases h <;> rfl) (Chip.dropFree_used (x := x) (h := hold) (k := l) (n := idx))
    · exact ite_eq_or_eq _ _ _
    · exact (ite_eq_or_eq _ _ _).symm

theorem State.retirePage_frame {c : Nat} :
    Frame [.cmd, .flt, .chips] [Reg.CMD_IRQ_PENDING] [bufReg c 0x810] s (s.retirePage c g) := by
  obtain heq | ⟨x, u, -, hu, heq⟩ := State.retirePage_cases (s := s) (c := c) (g := g)
  · rw [heq]
    exact Frame.refl
  · have counted : Frame [.cmd, .flt, .chips] [Reg.CMD_IRQ_PENDING] [bufReg c 0x810] s
        ((s.setChip c x).bump (bufReg c 0x810) 1) :=
      (Frame.refl.step (State.setChip_parts (by simp) OnlyParts.refl)).bump (by simp)
    have hframe : Frame [.cmd, .flt, .chips] [Reg.CMD_IRQ_PENDING] [bufReg c 0x810] s u := by
      obtain rfl | rfl := hu
      · exact counted
      · exact counted.raise (by simp) (by decide)
    obtain heq | heq := heq <;> rw [heq]
    · exact hframe
    · exact hframe.trans (State.autoReplace_frame.mono (by simp) (by simp) (by simp))

/-- A segment in use stays so when its page is retired. -/
theorem State.retirePage_used {c : Nat} {hold : Bool} (hc : c < 16) :
    (((s.retirePage c g).chip c).region hold).used = ((s.chip c).region hold).used := by
  obtain heq | ⟨x, u, hx, hu, heq⟩ := State.retirePage_cases (s := s) (c := c) (g := g)
  · rw [heq]
  · have hchip : u.chip c = x := by
      obtain rfl | rfl := hu <;> exact State.setChip_chip_same hc
    obtain heq | heq := heq <;> rw [heq]
    · rw [hchip, hx]
    · rw [State.autoReplace_region hc, hchip, hx]

/-! ### A stored copy that is lost (R236, R331) -/

/-- The element of a sparse map that is not the default is listed. -/
theorem sparse_mem_of_get_ne {α : Type} {d : Nat → α} {m : Sparse α} (h : Sparse.get d m k ≠ d k) :
    (k, Sparse.get d m k) ∈ m := by
  induction m with
  | nil => exact absurd rfl h
  | cons x m ih =>
    obtain ⟨k', v⟩ := x
    unfold Sparse.get at h ⊢
    split at h
    · rename_i hk
      simp [hk]
    · rename_i hk
      simp only [if_neg hk]
      exact List.mem_cons_of_mem _ (ih h)

/-- A burst that awaits retransmission is among those that hold its segments. -/
theorem State.mem_failedWith {b : IBurst} {r : SegRef} (hj : j < 512)
    (hb : (s.ingPair i j).bursts.find? (fun b => decide (b.seq = seq ∧ b.st = .failed)) = some b) (hr : r ∈ b.segs) :
    (i, j, seq) ∈ s.failedWith (chipOf i) r.seg := by
  obtain ⟨hseq, hst⟩ : b.seq = seq ∧ b.st = .failed := by simpa using List.find?_some hb
  have hmem : b ∈ (s.ingPair i j).bursts := List.mem_of_find?_eq_some hb
  have hlisted : (512 * i + j, s.ingPair i j) ∈ s.brt.ing := by
    refine sparse_mem_of_get_ne fun hdef => ?_
    rw [State.ingPair, hdef] at hmem
    exact absurd hmem (by simp)
  have hi : (512 * i + j) / 512 = i := by omega
  have hj' : (512 * i + j) % 512 = j := by omega
  refine List.mem_flatMap.2 ⟨_, hlisted, ?_⟩
  rw [hi, hj', if_pos rfl]
  refine List.mem_map.2 ⟨b, List.mem_filter.2 ⟨hmem, ?_⟩, by rw [hseq]⟩
  simp only [hst, decide_true, Bool.true_and, List.any_eq_true, decide_eq_true_eq]
  exact ⟨r, hr, rfl⟩

/-- GAP_REQUEST goes out for each of a list of bursts. -/
def State.askGaps (s : State) (l : List (Nat × Nat × Nat)) : State :=
  l.foldl (fun s b => s.askGap b.1 b.2.1 b.2.2 .dram) s

theorem State.askGaps_parts {l : List (Nat × Nat × Nat)} : OnlyParts [.brt] s (s.askGaps l) :=
  OnlyParts.foldl (fun _ _ h => State.askGap_parts (by simp) h) OnlyParts.refl

theorem State.askGaps_gapAsked {l : List (Nat × Nat × Nat)} (h : (i, j, seq) ∈ l ∨ s.gapAsked i j seq) :
    (s.askGaps l).gapAsked i j seq := by
  induction l generalizing s with
  | nil => exact h.resolve_left (by simp)
  | cons b l ih =>
    refine ih (s := s.askGap b.1 b.2.1 b.2.2 .dram) ?_
    obtain hmem | hasked := h
    · obtain rfl | hmem := List.mem_cons.1 hmem
      · exact .inr State.askGap_gapAsked
      · exact .inl hmem
    · exact .inr (State.askGap_keeps_gapAsked hasked)

/-- A chiplet with a segment poisoned. -/
def Chip.withPoison (x : Chip) (g : BitVec 32) : Chip :=
  { x with poisoned := if x.poisoned.contains g then x.poisoned else x.poisoned ++ [g] }

theorem Chip.withPoison_poisoned {x : Chip} : (x.withPoison g).poisoned.contains g = true := by
  unfold Chip.withPoison
  dsimp only
  split
  · assumption
  · simp

/-- The page of a segment that reads uncorrectable, once it is counted and its fault raised. -/
def State.pageLost (s : State) (c : Nat) (g : BitVec 32) : State :=
  (((s.bump (bufReg c 0x808) 1).irqIf (bufReg c Reg.BUF_CTRL) 1 (chipVec c)).raise (stackCode c) 1).retirePage c g

theorem State.pageLost_frame {c : Nat} : Frame [.cmd, .flt, .chips] [Reg.CMD_IRQ_PENDING] [bufReg c 0x810]
    (s.bump (bufReg c 0x808) 1) (s.pageLost c g) :=
  ((Frame.refl.irqIf (by simp) (by simp)).raise (by simp) (by decide)).trans State.retirePage_frame

theorem State.pageLost_used {c : Nat} {hold : Bool} (hc : c < 16) :
    (((s.pageLost c g).chip c).region hold).used = ((s.chip c).region hold).used := by
  have hchip : (((s.bump (bufReg c 0x808) 1).irqIf (bufReg c Reg.BUF_CTRL) 1 (chipVec c)).raise (stackCode c)
      1).chip c = s.chip c := State.chip_congr (State.irqIf_frame.1 .chips (by decide))
  rw [State.pageLost, State.retirePage_used hc, hchip]

/-- An uncorrectable segment of the packet region that is in use is poisoned, and the bursts that await retransmission
with it ask for a gap. -/
theorem State.uncorrectable_used {c : Nat} (hc : c < 16) (hhold : segHold g = false)
    (hused : g ∈ (s.chip c).packet.used) : s.uncorrectable c g =
      ((s.pageLost c g).setChip c (((s.pageLost c g).chip c).withPoison g)).askGaps
        (((s.pageLost c g).setChip c (((s.pageLost c g).chip c).withPoison g)).failedWith c g) := by
  have hin : (((s.pageLost c g).chip c).region (segHold g)).used.contains g = true := by
    rw [State.pageLost_used hc, hhold]
    simpa [Chip.region] using hused
  exact (if_pos hin).trans (if_neg (by simp [hhold]))

/-- An uncorrectable read of a repair: it is counted, its segment is poisoned, and its burst asks for a gap. -/
theorem State.uncorrectable_repair {b : IBurst} {r : SegRef} (hi : i < 512) (hj : j < 512)
    (hb : (s.ingPair i j).bursts.find? (fun b => decide (b.seq = seq ∧ b.st = .failed)) = some b)
    (hr : r ∈ b.segs) (hhold : segHold r.seg = false) (hused : r.seg ∈ (s.chip (chipOf i)).packet.used) :
    (s.uncorrectable (chipOf i) r.seg).ctr (bufReg (chipOf i) 0x808) = s.ctr (bufReg (chipOf i) 0x808) + 1 ∧
    (s.uncorrectable (chipOf i) r.seg).isPoisoned (chipOf i) r.seg = true ∧
    (s.uncorrectable (chipOf i) r.seg).gapAsked i j seq ∧
    Frame [.cmd, .flt, .brt, .chips] [Reg.CMD_IRQ_PENDING] [bufReg (chipOf i) 0x808, bufReg (chipOf i) 0x810] s
      (s.uncorrectable (chipOf i) r.seg) := by
  have hc : chipOf i < 16 := by
    unfold chipOf
    omega
  rw [State.uncorrectable_used hc hhold hused]
  generalize hu : (s.pageLost (chipOf i) r.seg).setChip (chipOf i)
    (((s.pageLost (chipOf i) r.seg).chip (chipOf i)).withPoison r.seg) = u
  have hlost : Frame [.cmd, .flt, .chips] [Reg.CMD_IRQ_PENDING] [bufReg (chipOf i) 0x810]
      (s.bump (bufReg (chipOf i) 0x808) 1) u :=
    hu ▸ State.pageLost_frame.step (State.setChip_parts (by simp) OnlyParts.refl)
  have hframe : Frame [.cmd, .flt, .brt, .chips] [Reg.CMD_IRQ_PENDING] [bufReg (chipOf i) 0x810]
      (s.bump (bufReg (chipOf i) 0x808) 1) (u.askGaps (u.failedWith (chipOf i) r.seg)) :=
    (hlost.mono (by simp) (by simp) (by simp)).step (State.askGaps_parts.mono (by simp))
  have hbrt : u.brt = s.brt := hlost.1 .brt (by decide)
  have hfailed : (i, j, seq) ∈ u.failedWith (chipOf i) r.seg := by
    refine State.mem_failedWith hj ?_ hr
    rwa [State.ingPair, hbrt]
  have hchip : (u.askGaps (u.failedWith (chipOf i) r.seg)).chip (chipOf i) =
      ((s.pageLost (chipOf i) r.seg).chip (chipOf i)).withPoison r.seg :=
    (State.chip_congr (State.askGaps_parts .chips (by decide))).trans (hu ▸ State.setChip_chip_same hc)
  refine ⟨?_, ?_, State.askGaps_gapAsked (.inl hfailed), (Frame.refl.bump (by simp)).trans
    (hframe.mono (by simp) (by simp) (by simp))⟩
  · exact (hframe.2.2 _ (by simp [bufReg])).trans State.bump_ctr_same
  · rw [State.isPoisoned, hchip]
    exact Chip.withPoison_poisoned

/-! ### AnswersAndRepairs -/

/-- The reads of a repair that was handed over: those of its segments count (R236). -/
theorem State.retransmitRead_handed {w : Work} {q : RepReq} {b : IBurst} {reads : List SegRead}
    (hwork : s.slt.work = [w]) (hhanded : w.handed = true) (hreps : w.reps = [q]) (hi : q.i = i) (hj : q.j = j)
    (hb : (s.ingPair i j).bursts.find? (fun b => decide (b.seq = q.seq ∧ b.st = .failed)) = some b) :
    s.retransmitRead i j reads = (reads.filter fun r => b.segs.any fun g => decide (g.seg = r.seg)).foldl
      (fun s r => s.segRead (chipOf i) r) s := by
  have hreq : (s.slt.work.findSome? fun w =>
      if w.handed then w.reps.find? fun q => decide (q.i = i ∧ q.j = j) else none) = some q := by
    simp [hwork, hhanded, hreps, hi, hj]
  unfold State.retransmitRead
  rw [hreq]
  dsimp only
  rw [hb]

theorem foldl_segRead_clean {c : Nat} {reads : List SegRead} (h : ∀ r ∈ reads, r.res = .clean) :
    reads.foldl (fun s r => s.segRead c r) s = s := by
  induction reads generalizing s with
  | nil => rfl
  | cons r reads ih =>
    obtain ⟨hr, hrest⟩ := List.forall_mem_cons.1 h
    have hread : s.segRead c r = s := by rw [State.segRead, hr]
    exact (congrArg (fun u => reads.foldl (fun s r => s.segRead c r) u) hread).trans (ih hrest)

theorem RepReq.names_eq_false {q : RepReq} : q.names i j seq = false ↔ (q.i, q.j, q.seq) ≠ (i, j, seq) :=
  decide_eq_false_iff_not

/-- Settles O27: the mesh delivers the oldest answer, a failure is the same by a NACK and by a timeout, and the reads of a
repair that was handed over go by the equations of a corrected and an uncorrectable read. -/
theorem answersAndRepairs : Obligations.AnswersAndRepairs := by
  unfold Obligations.AnswersAndRepairs
  intro failed
  refine ⟨?ack, ?nack, ?late, ?timeout, ?waits, ?reads⟩
  case ack =>
    intro s i j seq rest h
    refine ⟨s.ack i j, rfl, ?_⟩
    rw [State.ack_oldest h]
    refine ⟨rfl, State.modBurst_bursts, fun q hq => ?_, fun q hq hne => ?_, ?_⟩
    · refine RepReq.names_eq_false.1 ?_
      obtain hq | hq := List.mem_append.1 hq <;> simpa using (List.mem_filter.1 hq).2
    · exact List.mem_filter.2 ⟨hq, by rw [RepReq.names_eq_false.2 hne, Bool.not_false]⟩
    · exact Frame.refl.step (State.withdrawRepair_parts (by simp) (State.modBurst_parts (by simp)
        (OnlyParts.set_brt (by simp) OnlyParts.refl)))
  case nack =>
    intro s i j seq code rest b h hawait
    have hnack : s.nack i j = (s.meshLeft rest).burstFailed i j b := by rw [State.nack_oldest h, hawait]
    refine ⟨_, congrArg Host.Outcome.next hnack, State.burstFailed_failure (s := s.meshLeft rest), ?_⟩
    exact (Frame.refl.step (OnlyParts.set_brt (by simp) OnlyParts.refl)).trans State.burstFailed_frame
  case late =>
    intro s i j seq code rest h hawait
    refine ⟨s.nack i j, rfl, ?_⟩
    rw [State.nack_oldest h, hawait]
  case timeout =>
    intro s i j b h
    refine ⟨_, congrArg Host.Outcome.next (State.ackTimeout_due h), State.burstFailed_failure (s := s), ?_, ?_⟩
    · exact State.bump_ctr_same.trans (congrArg (· + 1) (State.burstFailed_frame.2.2 _ (by simp)))
    · exact (State.burstFailed_frame.mono (by simp) (by simp) (by simp)).bump (by simp)
  case waits =>
    intro s i j h
    exact congrArg Host.Outcome.next (State.ackTimeout_none h)
  case reads =>
    intro s i j w q b g hwork hhanded hreps hi hj hb hg
    have hread {reads : List SegRead} := State.retransmitRead_handed (reads := reads) hwork hhanded hreps hi hj hb
    have hone {r : EccResult} : s.retransmitRead i j [{ seg := g.seg, res := r }] =
        s.segRead (chipOf i) { seg := g.seg, res := r } := by
      rw [hread, List.filter_cons_of_pos (p := fun r : SegRead => b.segs.any fun g => decide (g.seg = r.seg))
        (List.any_eq_true.2 ⟨g, hg, decide_eq_true rfl⟩)]
      rfl
    refine ⟨fun reads hclean => ?_, ⟨_, congrArg Host.Outcome.next hone, ?_⟩,
      fun hhold hused => ⟨_, congrArg Host.Outcome.next hone, ?_⟩⟩
    · refine congrArg Host.Outcome.next (hread.trans (foldl_segRead_clean fun r hr => ?_))
      exact hclean r (List.mem_of_mem_filter hr)
    · have hframe := State.correctedRead_frame (s := s) (c := chipOf i) (g := g.seg)
      refine ⟨(hframe.2.2 _ ?_).trans State.bump_ctr_same, hframe.1 .brt (by decide),
        (Frame.refl.bump (by simp)).trans (hframe.mono (by simp) (by simp) (by simp))⟩
      simp only [bufReg, List.mem_singleton]
      omega
    · exact State.uncorrectable_repair i.isLt j.isLt hb hg hhold hused

end Sys2Proof.Machine

/-! SUPPORT. The ledger of every chiplet balances (R245): each event of Table: Ledger events keeps the identity of a ledger, so
every operation of the part keeps it in the counters, in the mirror (R248) and in the SNAP words (R250). An operation that leaves
burst transport alone keeps them by its lemma under Laws/; every other operation has its lemma here. -/

namespace Sys2Proof

/-- An operation that leaves burst transport alone. -/
theorem OnlyParts.brt {P : List Part} {s t : Machine.State} (h : OnlyParts P s t) (hP : P.contains .brt = false) :
    t.brt = s.brt := h .brt fun hm => Bool.false_ne_true (hP.symm.trans (List.contains_iff_mem.2 hm))

end Sys2Proof

namespace Sys2Proof.Machine

open Sys2Proof

variable {s t u v : State} {l : Ledger}

/-! ### One ledger (R244) -/

theorem Ledger.discarded_eq_sum : l.discarded = l.disc.toList.sum := List.sum_eq_foldl.symm

/-- A discard of n packets adds n to the sum of DISCARDED. -/
theorem Ledger.discarded_set {r : Nat} {n : BitVec 64} (h : r < 32) :
    Ledger.discarded { l with disc := l.disc.set r (l.disc[r] + n) } = l.discarded + n := by
  have hlen : r < l.disc.toList.length := by rwa [Vector.length_toList]
  rw [Ledger.discarded_eq_sum, Ledger.discarded_eq_sum, Vector.toList_set, List.sum_set', dif_pos hlen,
    Vector.getElem_toList, neg_add_cancel_left]

theorem Ledger.apply_discard {r : Nat} {n : BitVec 64} (h : r < 32) : l.apply (.discard r n) =
    { l with disc := l.disc.set r (l.disc[r] + n), resident := l.resident - n } := dif_pos h

theorem Ledger.apply_discard_none {r : Nat} {n : BitVec 64} (h : ¬r < 32) : l.apply (.discard r n) = l := dif_neg h

theorem Ledger.exact_iff : l.exact = true ↔ l.admitted + l.xferIn = l.delivered + l.discarded + l.resident + l.xferOut :=
  decide_eq_true_iff

/-- Every event of Table: Ledger events keeps the identity of R245. -/
theorem Ledger.exact_apply {e : LedgerEvent} (h : l.exact = true) : (l.apply e).exact = true := by
  rw [Ledger.exact_iff] at h ⊢
  cases e with
  | discard r n =>
    by_cases hr : r < 32
    · rw [Ledger.apply_discard hr]
      change l.admitted + l.xferIn = l.delivered + Ledger.discarded { l with disc := l.disc.set r (l.disc[r] + n) } +
        (l.resident - n) + l.xferOut
      rw [Ledger.discarded_set hr]
      linear_combination h
    · rwa [Ledger.apply_discard_none hr]
  | enter =>
    change l.admitted + 1 + l.xferIn = l.delivered + l.discarded + (l.resident + 1) + l.xferOut
    linear_combination h
  | xferOut k =>
    change l.admitted + l.xferIn = l.delivered + l.discarded + (l.resident - k) + (l.xferOut + k)
    linear_combination h
  | xferIn k =>
    change l.admitted + (l.xferIn + k) = l.delivered + l.discarded + (l.resident + k) + l.xferOut
    linear_combination h
  | deliver n =>
    change l.admitted + l.xferIn = l.delivered + n + l.discarded + (l.resident - n) + l.xferOut
    linear_combination h

/-! ### The ledgers of all chiplets -/

/-- Every ledger of a bank of sixteen balances. -/
def AllExact (ls : Vector Ledger 16) : Prop := ∀ c : Fin 16, ls[c].exact = true

theorem AllExact.getD {ls : Vector Ledger 16} {c : Nat} (h : AllExact ls) : (ls.toList.getD c {}).exact = true := by
  by_cases hc : c < 16
  · rw [List.getD_eq_getElem _ _ (by rwa [Vector.length_toList]), Vector.getElem_toList]
    exact h ⟨c, hc⟩
  · rw [List.getD_eq_default _ _ (by rw [Vector.length_toList]; omega)]
    decide

/-- The ledgers of a reset balance: every counter is 0. -/
theorem AllExact.replicate : AllExact (Vector.replicate 16 {}) := by
  intro c
  rw [Fin.getElem_fin, Vector.getElem_replicate]
  decide

theorem AllExact.setIfInBounds {ls : Vector Ledger 16} {c : Nat} (h : AllExact ls) (hl : l.exact = true) :
    AllExact (ls.setIfInBounds c l) := by
  intro d
  rw [Fin.getElem_fin, Vector.getElem_setIfInBounds]
  split
  · exact hl
  · exact h d

/-- The ledgers balance in the counters, in the mirror and in the SNAP words. -/
structure BrtSt.Balanced (b : BrtSt) : Prop where
  led : AllExact b.led
  mirror : AllExact b.mirror
  snap : AllExact b.snap

theorem BrtSt.balanced_iff {b : BrtSt} :
    b.Balanced ↔ ∀ c : Fin 16, b.led[c].exact = true ∧ b.mirror[c].exact = true ∧ b.snap[c].exact = true :=
  ⟨fun h c => ⟨h.led c, h.mirror c, h.snap c⟩, fun h => ⟨fun c => (h c).1, fun c => (h c).2.1, fun c => (h c).2.2⟩⟩

end Sys2Proof.Machine

namespace Sys2Proof

open Machine

/-- An operation that leaves burst transport alone keeps them. -/
theorem OnlyParts.balanced {P : List Part} {s t : State} (e : OnlyParts P s t) (h : s.brt.Balanced)
    (hP : P.contains .brt = false) : t.brt.Balanced :=
  e.brt hP ▸ h

end Sys2Proof

namespace Sys2Proof.Machine

open Sys2Proof

variable {s t u v : State} {l : Ledger}

/-! ### How an operation keeps them -/

/-- A change of burst transport that leaves the ledgers, the mirror and the SNAP words alone. -/
theorem BrtSt.Balanced.others {b : BrtSt} {ing egr epochAll epochChip mesh gapClock gapSince rx staged flights preambles cred
    credMirror credSnap mirrored mirrorSlot snapReq snapSlot phaseData} (h : b.Balanced) :
    BrtSt.Balanced { b with
      ing := ing, egr := egr, epochAll := epochAll, epochChip := epochChip, mesh := mesh, gapClock := gapClock
      gapSince := gapSince, rx := rx, staged := staged, flights := flights, preambles := preambles, cred := cred
      credMirror := credMirror, credSnap := credSnap, mirrored := mirrored, mirrorSlot := mirrorSlot, snapReq := snapReq
      snapSlot := snapSlot, phaseData := phaseData } :=
  ⟨h.led, h.mirror, h.snap⟩

theorem State.foldl_balanced {α : Type} {f : State → α → State} {xs : List α}
    (hf : ∀ u x, u.brt.Balanced → (f u x).brt.Balanced) (h : t.brt.Balanced) : (xs.foldl f t).brt.Balanced := by
  induction xs generalizing t with
  | nil => exact h
  | cons x xs ih => exact ih (hf _ _ h)

theorem State.foldl_fst_balanced {α β : Type} {f : State × β → α → State × β} {xs : List α} {p : State × β}
    (hf : ∀ u x, u.1.brt.Balanced → (f u x).1.brt.Balanced) (h : p.1.brt.Balanced) : (xs.foldl f p).1.brt.Balanced := by
  induction xs generalizing p with
  | nil => exact h
  | cons x xs ih => exact ih (hf _ _ h)

theorem State.access_balanced {p : CmdPort} {a cls : Nat} {act : State → State}
    (hact : ∀ u, u.brt.Balanced → (act u).brt.Balanced)
    (h : t.brt.Balanced) : (t.access p a cls act).brt.Balanced := by
  have hj : (t.judge p a cls).2.brt = t.brt := (State.judge_parts (List.Subset.refl _) .refl).brt rfl
  unfold State.access
  dsimp only
  split
  · exact hact _ (hj ▸ h)
  · exact hj ▸ h

/-! ### Operations that leave burst transport alone -/

@[simp] theorem State.setGState_brt {a1} : (t.setGState a1).brt = t.brt :=
  (State.setGState_parts (List.Subset.refl _) .refl).brt rfl
@[simp] theorem State.irqIf_brt {a1 a2 a3} : (t.irqIf a1 a2 a3).brt = t.brt :=
  (State.irqIf_parts (List.Subset.refl _) .refl).brt rfl
@[simp] theorem State.wrBit_brt {a1 a2 a3} : (t.wrBit a1 a2 a3).brt = t.brt :=
  (State.wrBit_parts (List.Subset.refl _) .refl).brt rfl
@[simp] theorem State.plainWrite_brt {a1 a2 a3} : (t.plainWrite a1 a2 a3).brt = t.brt :=
  (State.plainWrite_parts (List.Subset.refl _) .refl).brt rfl
@[simp] theorem State.withdrawRepair_brt {a1 a2 a3} : (t.withdrawRepair a1 a2 a3).brt = t.brt :=
  (State.withdrawRepair_parts (List.Subset.refl _) .refl).brt rfl
@[simp] theorem State.raiseRepair_brt {a1 a2 a3} : (t.raiseRepair a1 a2 a3).brt = t.brt :=
  (State.raiseRepair_parts (List.Subset.refl _) .refl).brt rfl
@[simp] theorem State.raise_brt {a1 a2} : (t.raise a1 a2).brt = t.brt := (State.raise_parts (List.Subset.refl _) .refl).brt rfl
@[simp] theorem State.discardLists_brt : t.discardLists.brt = t.brt :=
  (State.discardLists_parts (List.Subset.refl _) .refl).brt rfl
@[simp] theorem State.freeHold_brt {a1 a2} : (t.freeHold a1 a2).brt = t.brt :=
  (State.freeHold_parts (List.Subset.refl _) .refl).brt rfl
@[simp] theorem State.setQueue_brt {a1 a2 a3 a4} : (t.setQueue a1 a2 a3 a4).brt = t.brt :=
  (State.setQueue_parts (List.Subset.refl _) .refl).brt rfl
@[simp] theorem State.freeSegs_brt {a1 a2} : (t.freeSegs a1 a2).brt = t.brt :=
  (State.freeSegs_parts (List.Subset.refl _) .refl).brt rfl
@[simp] theorem State.movePkt_brt {a1 a2} : (t.movePkt a1 a2).brt = t.brt :=
  (State.movePkt_parts (List.Subset.refl _) .refl).brt rfl
@[simp] theorem State.modPkt_brt {a1 a2} : (t.modPkt a1 a2).brt = t.brt :=
  (State.modPkt_parts (List.Subset.refl _) .refl).brt rfl
@[simp] theorem State.grantStep_brt {a1} : (t.grantStep a1).brt = t.brt :=
  (State.grantStep_parts (List.Subset.refl _) .refl).brt rfl
@[simp] theorem State.idleStep_brt {a1} : (t.idleStep a1).brt = t.brt :=
  (State.idleStep_parts (List.Subset.refl _) .refl).brt rfl
@[simp] theorem State.beginWork_brt {a1} : (t.beginWork a1).brt = t.brt :=
  (State.beginWork_parts (List.Subset.refl _) .refl).brt rfl
@[simp] theorem State.retirePage_brt {a1 a2} : (t.retirePage a1 a2).brt = t.brt :=
  (State.retirePage_parts (List.Subset.refl _) .refl).brt rfl
@[simp] theorem State.correctedRead_brt {a1 a2} : (t.correctedRead a1 a2).brt = t.brt :=
  (State.correctedRead_parts (List.Subset.refl _) .refl).brt rfl
@[simp] theorem State.markSent_brt {a1} : (t.markSent a1).brt = t.brt :=
  (State.markSent_parts (List.Subset.refl _) .refl).brt rfl
@[simp] theorem State.autoReplace_brt {a1 a2} : (t.autoReplace a1 a2).brt = t.brt :=
  (State.autoReplace_parts (List.Subset.refl _) .refl).brt rfl
@[simp] theorem State.entriesStep_brt {a1} : (t.entriesStep a1).brt = t.brt :=
  (State.entriesStep_parts (List.Subset.refl _) .refl).brt rfl
@[simp] theorem State.tblFault_brt {a1 a2} : (t.tblFault a1 a2).brt = t.brt :=
  (State.tblFault_parts (List.Subset.refl _) .refl).brt rfl
@[simp] theorem State.closePorts_brt : t.closePorts.brt = t.brt := (State.closePorts_parts (List.Subset.refl _) .refl).brt rfl
@[simp] theorem State.calStoreBit_brt : t.calStoreBit.brt = t.brt :=
  (State.calStoreBit_parts (List.Subset.refl _) .refl).brt rfl
@[simp] theorem State.calDeleteBit_brt : t.calDeleteBit.brt = t.brt :=
  (State.calDeleteBit_parts (List.Subset.refl _) .refl).brt rfl
@[simp] theorem State.setCtlState_brt {a1 a2} : (t.setCtlState a1 a2).brt = t.brt :=
  (State.setCtlState_parts (List.Subset.refl _) .refl).brt rfl
@[simp] theorem State.followSwitch_brt {a1} : (t.followSwitch a1).brt = t.brt :=
  (State.followSwitch_parts (List.Subset.refl _) .refl).brt rfl
@[simp] theorem State.clearCompare_brt : t.clearCompare.brt = t.brt :=
  (State.clearCompare_parts (List.Subset.refl _) .refl).brt rfl
@[simp] theorem State.abandonStage_brt : t.abandonStage.brt = t.brt :=
  (State.abandonStage_parts (List.Subset.refl _) .refl).brt rfl
@[simp] theorem State.raiseCtl_brt {a1 a2} : (t.raiseCtl a1 a2).brt = t.brt :=
  (State.raiseCtl_parts (List.Subset.refl _) .refl).brt rfl
@[simp] theorem State.event_brt {a1} : (t.event a1).brt = t.brt := (State.event_parts (List.Subset.refl _) .refl).brt rfl
@[simp] theorem State.irq_brt {a1} : (t.irq a1).brt = t.brt := (State.irq_parts (List.Subset.refl _) .refl).brt rfl
@[simp] theorem State.unpin_brt {a1 a2} : (t.unpin a1 a2).brt = t.brt := (State.unpin_parts (List.Subset.refl _) .refl).brt rfl
@[simp] theorem State.meterEvent_brt {a1 a2 a3 a4} : (t.meterEvent a1 a2 a3 a4).2.brt = t.brt :=
  (State.meterEvent_parts (List.Subset.refl _) .refl).brt rfl
@[simp] theorem State.excCount_brt {a1 a2} : (t.excCount a1 a2).brt = t.brt :=
  (State.excCount_parts (List.Subset.refl _) .refl).brt rfl
@[simp] theorem State.resolveEgress_brt {a1 a2 a3 a4 a5} : (t.resolveEgress a1 a2 a3 a4 a5).2.brt = t.brt :=
  (State.resolveEgress_parts (List.Subset.refl _) .refl).brt rfl
@[simp] theorem State.pulses_brt {a1 a2} : (t.pulses a1 a2).brt = t.brt :=
  (State.pulses_parts (List.Subset.refl _) .refl).brt rfl
@[simp] theorem State.lanBump_brt {a1 a2} : (t.lanBump a1 a2).brt = t.brt :=
  (State.lanBump_parts (List.Subset.refl _) .refl).brt rfl
@[simp] theorem State.audit_brt {a1 a2 a3 a4 a5} : (t.audit a1 a2 a3 a4 a5).brt = t.brt :=
  (State.audit_parts (List.Subset.refl _) .refl).brt rfl
@[simp] theorem State.inbandFrame_brt {a1 a2} : (t.inbandFrame a1 a2).brt = t.brt :=
  (State.inbandFrame_parts (List.Subset.refl _) .refl).brt rfl
@[simp] theorem State.capture_brt {a1 a2 a3 a4 a5} : (t.capture a1 a2 a3 a4 a5).brt = t.brt :=
  (State.capture_parts (List.Subset.refl _) .refl).brt rfl
@[simp] theorem State.countCorrected_brt {a1} : (t.countCorrected a1).brt = t.brt :=
  (State.countCorrected_parts (List.Subset.refl _) .refl).brt rfl
@[simp] theorem State.sentFrame_brt {a1 a2 a3} : (t.sentFrame a1 a2 a3).2.brt = t.brt :=
  (State.sentFrame_parts (List.Subset.refl _) .refl).brt rfl
@[simp] theorem State.loseDeficit_brt {a1 a2 a3} : (t.loseDeficit a1 a2 a3).brt = t.brt :=
  (State.loseDeficit_parts (List.Subset.refl _) .refl).brt rfl
@[simp] theorem State.countGateWaits_brt {a1} : (t.countGateWaits a1).brt = t.brt :=
  (State.countGateWaits_parts (List.Subset.refl _) .refl).brt rfl
@[simp] theorem State.stepEnd_brt {a1} : (t.stepEnd a1).brt = t.brt := (State.stepEnd_parts (List.Subset.refl _) .refl).brt rfl
@[simp] theorem State.enterLocking_brt : t.enterLocking.brt = t.brt :=
  (State.enterLocking_parts (List.Subset.refl _) .refl).brt rfl
@[simp] theorem State.restoreLight_brt : t.restoreLight.brt = t.brt :=
  (State.restoreLight_parts (List.Subset.refl _) .refl).brt rfl
@[simp] theorem State.interpolate_brt : t.interpolate.brt = t.brt :=
  (State.interpolate_parts (List.Subset.refl _) .refl).brt rfl
@[simp] theorem State.writeModeReq_brt {a1 a2} : (t.writeModeReq a1 a2).brt = t.brt :=
  (State.writeModeReq_parts (List.Subset.refl _) .refl).brt rfl
@[simp] theorem State.writeSetRead_brt {a1 a2} : (t.writeSetRead a1 a2).brt = t.brt :=
  (State.writeSetRead_parts (List.Subset.refl _) .refl).brt rfl
@[simp] theorem State.warmSpare_brt {a1} : (t.warmSpare a1).brt = t.brt :=
  (State.warmSpare_parts (List.Subset.refl _) .refl).brt rfl
@[simp] theorem State.writeParkReq_brt {a1} : (t.writeParkReq a1).brt = t.brt :=
  (State.writeParkReq_parts (List.Subset.refl _) .refl).brt rfl
@[simp] theorem State.writeRangeReq_brt {a1 a2} : (t.writeRangeReq a1 a2).brt = t.brt :=
  (State.writeRangeReq_parts (List.Subset.refl _) .refl).brt rfl
@[simp] theorem State.writeRedCmd_brt {a1 a2} : (t.writeRedCmd a1 a2).brt = t.brt :=
  (State.writeRedCmd_parts (List.Subset.refl _) .refl).brt rfl
@[simp] theorem State.writeCoeff_brt {a1 a2 a3 a4 a5} : (t.writeCoeff a1 a2 a3 a4 a5).brt = t.brt :=
  (State.writeCoeff_parts (List.Subset.refl _) .refl).brt rfl
@[simp] theorem State.writeLbCfg_brt {a1 a2 a3} : (t.writeLbCfg a1 a2 a3).brt = t.brt :=
  (State.writeLbCfg_parts (List.Subset.refl _) .refl).brt rfl
@[simp] theorem State.permRead_brt {a1} : (t.permRead a1).brt = t.brt :=
  (State.permRead_parts (List.Subset.refl _) .refl).brt rfl
@[simp] theorem State.writeAuCfg_brt {a1 a2 a3} : (t.writeAuCfg a1 a2 a3).brt = t.brt :=
  (State.writeAuCfg_parts (List.Subset.refl _) .refl).brt rfl
@[simp] theorem State.writeChangeCtrl_brt {a1 a2} : (t.writeChangeCtrl a1 a2).brt = t.brt :=
  (State.writeChangeCtrl_parts (List.Subset.refl _) .refl).brt rfl
@[simp] theorem State.calWrite_brt {a1 a2 a3 a4} : (t.calWrite a1 a2 a3 a4).brt = t.brt :=
  (State.calWrite_parts (List.Subset.refl _) .refl).brt rfl
@[simp] theorem State.writeSwapCtrl_brt {a1 a2} : (t.writeSwapCtrl a1 a2).brt = t.brt :=
  (State.writeSwapCtrl_parts (List.Subset.refl _) .refl).brt rfl
@[simp] theorem State.writeAcq_brt {a1 a2 a3} : (t.writeAcq a1 a2 a3).brt = t.brt :=
  (State.writeAcq_parts (List.Subset.refl _) .refl).brt rfl
@[simp] theorem State.writeTarget_brt {a1 a2 a3} : (t.writeTarget a1 a2 a3).brt = t.brt :=
  (State.writeTarget_parts (List.Subset.refl _) .refl).brt rfl
@[simp] theorem State.enterSafe_brt : t.enterSafe.brt = t.brt := (State.enterSafe_parts (List.Subset.refl _) .refl).brt rfl
@[simp] theorem State.writeBlockCfg_brt {a1 a2 a3} : (t.writeBlockCfg a1 a2 a3).brt = t.brt :=
  (State.writeBlockCfg_parts (List.Subset.refl _) .refl).brt rfl
@[simp] theorem State.writeGlbCtrl_brt {a1 a2} : (t.writeGlbCtrl a1 a2).brt = t.brt :=
  (State.writeGlbCtrl_parts (List.Subset.refl _) .refl).brt rfl
@[simp] theorem State.writeMsix_brt {a1 a2 a3} : (t.writeMsix a1 a2 a3).brt = t.brt :=
  (State.writeMsix_parts (List.Subset.refl _) .refl).brt rfl
@[simp] theorem State.writeTimCmd_brt {a1 a2 a3} : (t.writeTimCmd a1 a2 a3).brt = t.brt :=
  (State.writeTimCmd_parts (List.Subset.refl _) .refl).brt rfl
@[simp] theorem State.writeTimCtrl_brt {a1 a2} : (t.writeTimCtrl a1 a2).brt = t.brt :=
  (State.writeTimCtrl_parts (List.Subset.refl _) .refl).brt rfl
@[simp] theorem State.writeDomainCtrl_brt {a1 a2} : (t.writeDomainCtrl a1 a2).brt = t.brt :=
  (State.writeDomainCtrl_parts (List.Subset.refl _) .refl).brt rfl
@[simp] theorem State.writeClear_brt {a1 a2} : (t.writeClear a1 a2).brt = t.brt :=
  (State.writeClear_parts (List.Subset.refl _) .refl).brt rfl
@[simp] theorem State.actChip_brt {a1 a2 a3 a4 a5} : (t.actChip a1 a2 a3 a4 a5).brt = t.brt :=
  (State.actChip_parts (List.Subset.refl _) .refl).brt rfl
@[simp] theorem State.opEnds_brt {a1 a2 a3 a4} : (t.opEnds a1 a2 a3 a4).1.brt = t.brt :=
  (State.opEnds_parts (List.Subset.refl _) .refl).brt rfl
@[simp] theorem State.mbImageKey_brt {a1 a2} : (t.mbImageKey a1 a2).1.brt = t.brt :=
  (State.mbImageKey_parts (List.Subset.refl _) .refl).brt rfl
@[simp] theorem State.mbRevoke_brt {a1 a2} : (t.mbRevoke a1 a2).1.brt = t.brt :=
  (State.mbRevoke_parts (List.Subset.refl _) .refl).brt rfl
@[simp] theorem State.mbProvision_brt {a1 a2} : (t.mbProvision a1 a2).1.brt = t.brt :=
  (State.mbProvision_parts (List.Subset.refl _) .refl).brt rfl
@[simp] theorem State.mbSvn_brt {a1 a2} : (t.mbSvn a1 a2).1.brt = t.brt :=
  (State.mbSvn_parts (List.Subset.refl _) .refl).brt rfl
@[simp] theorem State.reject_brt {a1 a2 a3 a4} : (t.reject a1 a2 a3 a4).brt = t.brt :=
  (State.reject_parts (List.Subset.refl _) .refl).brt rfl
@[simp] theorem State.mbDebugRead_brt {a1} : (t.mbDebugRead a1).1.brt = t.brt :=
  (State.mbDebugRead_parts (List.Subset.refl _) .refl).brt rfl
@[simp] theorem State.mbRepairClear_brt {a1} : (t.mbRepairClear a1).1.brt = t.brt :=
  (State.mbRepairClear_parts (List.Subset.refl _) .refl).brt rfl
@[simp] theorem State.mbAnswer_brt {a1 a2} : (t.mbAnswer a1 a2).brt = t.brt :=
  (State.mbAnswer_parts (List.Subset.refl _) .refl).brt rfl
@[simp] theorem State.writeImgCtrl_brt {a1 a2} : (t.writeImgCtrl a1 a2).brt = t.brt :=
  (State.writeImgCtrl_parts (List.Subset.refl _) .refl).brt rfl
@[simp] theorem State.emittersOff_brt : t.emittersOff.brt = t.brt :=
  (State.emittersOff_parts (List.Subset.refl _) .refl).brt rfl
@[simp] theorem State.darkQuadrant_brt {a1} : (t.darkQuadrant a1).brt = t.brt :=
  (State.darkQuadrant_parts (List.Subset.refl _) .refl).brt rfl
@[simp] theorem State.abandonDrains_brt : t.abandonDrains.brt = t.brt :=
  (State.abandonDrains_parts (List.Subset.refl _) .refl).brt rfl
@[simp] theorem State.loseLasers_brt {a1} : (t.loseLasers a1).brt = t.brt :=
  (State.loseLasers_parts (List.Subset.refl _) .refl).brt rfl
@[simp] theorem State.loseCtl_brt {a1} : (t.loseCtl a1).brt = t.brt := (State.loseCtl_parts (List.Subset.refl _) .refl).brt rfl
@[simp] theorem State.cutFuse_brt : t.cutFuse.brt = t.brt := (State.cutFuse_parts (List.Subset.refl _) .refl).brt rfl
@[simp] theorem State.raiseSys_brt {a1} : (t.raiseSys a1).brt = t.brt :=
  (State.raiseSys_parts (List.Subset.refl _) .refl).brt rfl
@[simp] theorem State.raisePwr_brt {a1} : (t.raisePwr a1).brt = t.brt :=
  (State.raisePwr_parts (List.Subset.refl _) .refl).brt rfl
@[simp] theorem State.auditOp_brt {a1 a2 a3 a4} : (t.auditOp a1 a2 a3 a4).brt = t.brt :=
  (State.auditOp_parts (List.Subset.refl _) .refl).brt rfl
@[simp] theorem State.answerTo_brt {a1 a2 a3} : (t.answerTo a1 a2 a3).brt = t.brt :=
  (State.answerTo_parts (List.Subset.refl _) .refl).brt rfl
@[simp] theorem State.smpEnd_brt {a1} : (t.smpEnd a1).brt = t.brt := (State.smpEnd_parts (List.Subset.refl _) .refl).brt rfl
@[simp] theorem State.smpBegin_brt {a1} : (t.smpBegin a1).brt = t.brt :=
  (State.smpBegin_parts (List.Subset.refl _) .refl).brt rfl
@[simp] theorem State.putMbData_brt {a1} : (t.putMbData a1).brt = t.brt :=
  (State.putMbData_parts (List.Subset.refl _) .refl).brt rfl
@[simp] theorem State.picSettle_brt : t.picSettle.brt = t.brt :=
      (State.picSettle_parts (List.Subset.refl _) .refl).brt rfl
@[simp] theorem State.raiseThm_brt {a1 a2} : (t.raiseThm a1 a2).brt = t.brt :=
  (State.raiseThm_parts (List.Subset.refl _) .refl).brt rfl
@[simp] theorem State.smpRead_brt {a1} : (t.smpRead a1).brt = t.brt := (State.smpRead_parts (List.Subset.refl _) .refl).brt rfl
@[simp] theorem State.smpPoll_brt : t.smpPoll.brt = t.brt := (State.smpPoll_parts (List.Subset.refl _) .refl).brt rfl
@[simp] theorem State.smpBad_brt {a1} : (t.smpBad a1).brt = t.brt := (State.smpBad_parts (List.Subset.refl _) .refl).brt rfl
@[simp] theorem State.throttleStep_brt {a1} : (t.throttleStep a1).brt = t.brt :=
  (State.throttleStep_parts (List.Subset.refl _) .refl).brt rfl
@[simp] theorem State.thermalEvent_brt {a1 a2} : (t.thermalEvent a1 a2).brt = t.brt :=
  (State.thermalEvent_parts (List.Subset.refl _) .refl).brt rfl
@[simp] theorem State.applyCalendar_brt {a1} : (t.applyCalendar a1).brt = t.brt :=
  (State.applyCalendar_parts (List.Subset.refl _) .refl).brt rfl
@[simp] theorem State.applySecurity_brt {a1} : (t.applySecurity a1).brt = t.brt :=
  (State.applySecurity_parts (List.Subset.refl _) .refl).brt rfl
@[simp] theorem State.applyUcodeAt_brt {a1 a2 a3} : (t.applyUcodeAt a1 a2 a3).brt = t.brt :=
  (State.applyUcodeAt_parts (List.Subset.refl _) .refl).brt rfl
@[simp] theorem State.applyQueuesAt_brt {a1 a2} : (t.applyQueuesAt a1 a2).brt = t.brt :=
  (State.applyQueuesAt_parts (List.Subset.refl _) .refl).brt rfl
@[simp] theorem State.resetRwl_brt : t.resetRwl.brt = t.brt := (State.resetRwl_parts (List.Subset.refl _) .refl).brt rfl
@[simp] theorem State.applyAuth_brt {a1} : (t.applyAuth a1).brt = t.brt :=
  (State.applyAuth_parts (List.Subset.refl _) .refl).brt rfl
@[simp] theorem State.applyOverlay_brt {a1} : (t.applyOverlay a1).brt = t.brt :=
  (State.applyOverlay_parts (List.Subset.refl _) .refl).brt rfl
@[simp] theorem State.applyClocks_brt {a1} : (t.applyClocks a1).brt = t.brt :=
  (State.applyClocks_parts (List.Subset.refl _) .refl).brt rfl
@[simp] theorem State.applyPort_brt {a1 a2} : (t.applyPort a1 a2).brt = t.brt :=
  (State.applyPort_parts (List.Subset.refl _) .refl).brt rfl
@[simp] theorem State.applyLane_brt {a1 a2} : (t.applyLane a1 a2).brt = t.brt :=
  (State.applyLane_parts (List.Subset.refl _) .refl).brt rfl
@[simp] theorem State.repairPage_brt {a1} : (t.repairPage a1).brt = t.brt :=
  (State.repairPage_parts (List.Subset.refl _) .refl).brt rfl
@[simp] theorem State.trainStack_brt {a1} : (t.trainStack a1).brt = t.brt :=
  (State.trainStack_parts (List.Subset.refl _) .refl).brt rfl
@[simp] theorem State.applyRepairMap_brt {a1} : (t.applyRepairMap a1).brt = t.brt :=
  (State.applyRepairMap_parts (List.Subset.refl _) .refl).brt rfl
@[simp] theorem State.connectSlot_brt : t.connectSlot.brt = t.brt :=
  (State.connectSlot_parts (List.Subset.refl _) .refl).brt rfl
@[simp] theorem State.dueParks_brt : t.dueParks.brt = t.brt := (State.dueParks_parts (List.Subset.refl _) .refl).brt rfl
@[simp] theorem State.guardSpares_brt : t.guardSpares.brt = t.brt :=
  (State.guardSpares_parts (List.Subset.refl _) .refl).brt rfl
@[simp] theorem State.takeSlot_brt {a1} : (t.takeSlot a1).1.brt = t.brt :=
  (State.takeSlot_parts (List.Subset.refl _) .refl).brt rfl
@[simp] theorem State.applySelects_brt {a1} : (t.applySelects a1).brt = t.brt :=
  (State.applySelects_parts (List.Subset.refl _) .refl).brt rfl
@[simp] theorem State.applyStage_brt : t.applyStage.brt = t.brt := (State.applyStage_parts (List.Subset.refl _) .refl).brt rfl
@[simp] theorem State.compareLevels_brt : t.compareLevels.brt = t.brt :=
  (State.compareLevels_parts (List.Subset.refl _) .refl).brt rfl
@[simp] theorem State.applyLevels0_brt : t.applyLevels0.brt = t.brt :=
  (State.applyLevels0_parts (List.Subset.refl _) .refl).brt rfl
@[simp] theorem State.verifyFails_brt {a1} : (t.verifyFails a1).brt = t.brt :=
  (State.verifyFails_parts (List.Subset.refl _) .refl).brt rfl
@[simp] theorem State.nextVerify_brt : t.nextVerify.brt = t.brt := (State.nextVerify_parts (List.Subset.refl _) .refl).brt rfl
@[simp] theorem State.imgIrq_brt : t.imgIrq.brt = t.brt := (State.imgIrq_parts (List.Subset.refl _) .refl).brt rfl
@[simp] theorem State.loadLatest_brt : t.loadLatest.brt = t.brt := (State.loadLatest_parts (List.Subset.refl _) .refl).brt rfl
@[simp] theorem State.calAdc_brt {a1} : (t.calAdc a1).brt = t.brt := (State.calAdc_parts (List.Subset.refl _) .refl).brt rfl
@[simp] theorem State.updateCalTemp_brt : t.updateCalTemp.brt = t.brt :=
  (State.updateCalTemp_parts (List.Subset.refl _) .refl).brt rfl
@[simp] theorem State.checkSets_brt : t.checkSets.brt = t.brt := (State.checkSets_parts (List.Subset.refl _) .refl).brt rfl
@[simp] theorem State.emittersNominal_brt {a1} : (t.emittersNominal a1).brt = t.brt :=
  (State.emittersNominal_parts (List.Subset.refl _) .refl).brt rfl
@[simp] theorem State.powerStep_brt : t.powerStep.brt = t.brt := (State.powerStep_parts (List.Subset.refl _) .refl).brt rfl
@[simp] theorem State.atPhase_brt {a1} : (t.atPhase a1).brt = t.brt := (State.atPhase_parts (List.Subset.refl _) .refl).brt rfl
@[simp] theorem State.align_brt {a1 a2} : (t.align a1 a2).brt = t.brt := (State.align_parts (List.Subset.refl _) .refl).brt rfl
@[simp] theorem State.slotCalendar_brt : t.slotCalendar.brt = t.brt :=
  (State.slotCalendar_parts (List.Subset.refl _) .refl).brt rfl
@[simp] theorem State.trialsEnd_brt : t.trialsEnd.brt = t.brt := (State.trialsEnd_parts (List.Subset.refl _) .refl).brt rfl
@[simp] theorem State.pipeline_brt {a1} : (t.pipeline a1).brt = t.brt :=
  (State.pipeline_parts (List.Subset.refl _) .refl).brt rfl
@[simp] theorem State.registerReps_brt : t.registerReps.brt = t.brt :=
  (State.registerReps_parts (List.Subset.refl _) .refl).brt rfl
@[simp] theorem State.endSlot_brt : t.endSlot.brt = t.brt := (State.endSlot_parts (List.Subset.refl _) .refl).brt rfl
@[simp] theorem State.nextSlot_brt {a1} : (t.nextSlot a1).brt = t.brt :=
  (State.nextSlot_parts (List.Subset.refl _) .refl).brt rfl
@[simp] theorem State.imgEnds_brt {a1 a2} : (t.imgEnds a1 a2).brt = t.brt :=
  (State.imgEnds_parts (List.Subset.refl _) .refl).brt rfl
@[simp] theorem State.startAll_brt : t.startAll.brt = t.brt := (State.startAll_parts (List.Subset.refl _) .refl).brt rfl
@[simp] theorem State.dropPorts_brt : t.dropPorts.brt = t.brt := (State.dropPorts_parts (List.Subset.refl _) .refl).brt rfl
@[simp] theorem State.switchCalendar_brt {a1} : (t.switchCalendar a1).brt = t.brt :=
  (State.switchCalendar_parts (List.Subset.refl _) .refl).brt rfl
@[simp] theorem State.keepTenants_brt : t.keepTenants.brt = t.brt :=
  (State.keepTenants_parts (List.Subset.refl _) .refl).brt rfl
@[simp] theorem State.retrainChanged_brt {a1 a2} : (t.retrainChanged a1 a2).brt = t.brt :=
  (State.retrainChanged_parts (List.Subset.refl _) .refl).brt rfl
@[simp] theorem State.fillMeters_brt {a1} : (t.fillMeters a1).brt = t.brt :=
  (State.fillMeters_parts (List.Subset.refl _) .refl).brt rfl
@[simp] theorem State.applyPages_brt {a1} : (t.applyPages a1).brt = t.brt :=
  (State.applyPages_parts (List.Subset.refl _) .refl).brt rfl
@[simp] theorem State.coreReset_brt {a1} : (t.coreReset a1).brt = t.brt :=
  (State.coreReset_parts (List.Subset.refl _) .refl).brt rfl
@[simp] theorem State.emptyHolds_brt : t.emptyHolds.brt = t.brt := (State.emptyHolds_parts (List.Subset.refl _) .refl).brt rfl
@[simp] theorem State.markBusy_brt {a1 a2} : (t.markBusy a1 a2).brt = t.brt :=
  (State.markBusy_parts (List.Subset.refl _) .refl).brt rfl
@[simp] theorem State.traceLookup_brt {a1 a2 a3 a4 a5} : (t.traceLookup a1 a2 a3 a4 a5).brt = t.brt :=
  (State.traceLookup_parts (List.Subset.refl _) .refl).brt rfl
@[simp] theorem State.pinBank_brt {a1 a2 a3} : (t.pinBank a1 a2 a3).1.brt = t.brt :=
  (State.pinBank_parts (List.Subset.refl _) .refl).brt rfl
@[simp] theorem State.bar2Write_brt {a1 a2 a3} : (t.bar2Write a1 a2 a3).brt = t.brt :=
  (State.bar2Write_parts (List.Subset.refl _) .refl).brt rfl
@[simp] theorem Walk.tree_brt {w : Walk} {c b ecc a1 key f n} : (Walk.tree c b ecc a1 key f n w).2.s.brt = w.s.brt :=
  (Walk.tree_parts (List.Subset.refl _) .refl).brt rfl

theorem State.meterEvent_balanced_eq {a1 a2 a3 a4 x0} (e : t.meterEvent a1 a2 a3 a4 = (x0, v)) (h : t.brt.Balanced) :
    v.brt.Balanced :=
  (State.meterEvent_parts_eq (List.Subset.refl _) e .refl).brt rfl ▸ h

theorem State.resolveEgress_balanced_eq {a1 a2 a3 a4 a5 x0} (e : t.resolveEgress a1 a2 a3 a4 a5 = (x0, v))
    (h : t.brt.Balanced) :
    v.brt.Balanced :=
  (State.resolveEgress_parts_eq (List.Subset.refl _) e .refl).brt rfl ▸ h

theorem State.sentFrame_balanced_eq {a1 a2 a3 x0} (e : t.sentFrame a1 a2 a3 = (x0, v)) (h : t.brt.Balanced) :
    v.brt.Balanced :=
  (State.sentFrame_parts_eq (List.Subset.refl _) e .refl).brt rfl ▸ h

theorem State.opEnds_balanced_eq {a1 a2 a3 a4 x1} (e : t.opEnds a1 a2 a3 a4 = (v, x1)) (h : t.brt.Balanced) :
    v.brt.Balanced :=
  (State.opEnds_parts_eq (List.Subset.refl _) e .refl).brt rfl ▸ h

theorem State.mbImageKey_balanced_eq {a1 a2 x1} (e : t.mbImageKey a1 a2 = (v, x1)) (h : t.brt.Balanced) :
    v.brt.Balanced :=
  (State.mbImageKey_parts_eq (List.Subset.refl _) e .refl).brt rfl ▸ h

theorem State.mbRevoke_balanced_eq {a1 a2 x1} (e : t.mbRevoke a1 a2 = (v, x1)) (h : t.brt.Balanced) :
    v.brt.Balanced :=
  (State.mbRevoke_parts_eq (List.Subset.refl _) e .refl).brt rfl ▸ h

theorem State.mbProvision_balanced_eq {a1 a2 x1} (e : t.mbProvision a1 a2 = (v, x1)) (h : t.brt.Balanced) :
    v.brt.Balanced :=
  (State.mbProvision_parts_eq (List.Subset.refl _) e .refl).brt rfl ▸ h

theorem State.mbSvn_balanced_eq {a1 a2 x1} (e : t.mbSvn a1 a2 = (v, x1)) (h : t.brt.Balanced) :
    v.brt.Balanced :=
  (State.mbSvn_parts_eq (List.Subset.refl _) e .refl).brt rfl ▸ h

theorem State.mbDebugRead_balanced_eq {a1 x1} (e : t.mbDebugRead a1 = (v, x1)) (h : t.brt.Balanced) :
    v.brt.Balanced :=
  (State.mbDebugRead_parts_eq (List.Subset.refl _) e .refl).brt rfl ▸ h

theorem State.mbRepairClear_balanced_eq {a1 x1} (e : t.mbRepairClear a1 = (v, x1)) (h : t.brt.Balanced) :
    v.brt.Balanced :=
  (State.mbRepairClear_parts_eq (List.Subset.refl _) e .refl).brt rfl ▸ h

theorem State.takeSlot_balanced_eq {a1 x1 x2} (e : t.takeSlot a1 = (v, x1, x2)) (h : t.brt.Balanced) :
    v.brt.Balanced :=
  (State.takeSlot_parts_eq (List.Subset.refl _) e .refl).brt rfl ▸ h

/-! ### Operations on burst transport -/

theorem State.recv_balanced {ok : Msg → Bool} {m : Msg} (e : t.recv ok = some (m, v)) (h : t.brt.Balanced) :
    v.brt.Balanced := by
  unfold State.recv at e
  obtain ⟨x, -, hx⟩ := Option.map_eq_some_iff.1 e
  obtain ⟨-, rfl⟩ := Prod.mk.inj hx
  exact h.others

theorem State.setHold_balanced {a1} (h : t.brt.Balanced) : (t.setHold a1).brt.Balanced := by
  unfold State.setHold
  repeat' first | with_reducible assumption | dsimp only | with_reducible refine .others ?_

theorem State.stopPrism_balanced (h : t.brt.Balanced) : t.stopPrism.brt.Balanced := by
  unfold State.stopPrism
  repeat' first | with_reducible assumption | with_reducible refine State.setHold_balanced ?_

theorem State.halt_balanced {a1} (h : t.brt.Balanced) : (t.halt a1).brt.Balanced := by
  unfold State.halt
  repeat' first
    | with_reducible assumption | with_reducible refine State.stopPrism_balanced ?_ | split
    | simp only [State.setGState_brt]

theorem State.writeSnapCtrl_balanced {a1 a2} (h : t.brt.Balanced) : (t.writeSnapCtrl a1 a2).brt.Balanced := by
  unfold State.writeSnapCtrl
  repeat' first
    | with_reducible assumption | split | simp only [State.irqIf_brt, State.wrBit_brt, State.plainWrite_brt] | dsimp only
    | with_reducible refine .others ?_

theorem State.writePhaseSel_balanced {a1 a2} (h : t.brt.Balanced) : (t.writePhaseSel a1 a2).brt.Balanced := by
  unfold State.writePhaseSel
  repeat' first
    | with_reducible assumption | split | simp only [State.plainWrite_brt] | dsimp only | with_reducible refine .others ?_

theorem State.send_balanced {a1} (h : t.brt.Balanced) : (t.send a1).brt.Balanced := by
  unfold State.send
  repeat' first | with_reducible assumption | split | dsimp only | with_reducible refine .others ?_

theorem State.sendRelease_balanced {a1 a2 a3 a4} (h : t.brt.Balanced) : (t.sendRelease a1 a2 a3 a4).brt.Balanced := by
  unfold State.sendRelease
  repeat' first | with_reducible assumption | with_reducible refine State.send_balanced ?_ | split

theorem State.ledgerEvent_balanced {c : Nat} {e : LedgerEvent} (h : t.brt.Balanced) : (t.ledgerEvent c e).brt.Balanced :=
  ⟨h.led.setIfInBounds (Ledger.exact_apply h.led.getD), h.mirror, h.snap⟩

theorem State.setEgrPair_balanced {a1 a2 a3} (h : t.brt.Balanced) : (t.setEgrPair a1 a2 a3).brt.Balanced := by
  unfold State.setEgrPair
  repeat' first | with_reducible assumption | dsimp only | with_reducible refine .others ?_

theorem State.acceptBurst_balanced {a1} (h : t.brt.Balanced) : (t.acceptBurst a1).brt.Balanced := by
  unfold State.acceptBurst
  repeat' first
    | with_reducible assumption | with_reducible refine State.setEgrPair_balanced ?_ | simp only [State.setChip_brt]

theorem State.setIngPair_balanced {a1 a2 a3} (h : t.brt.Balanced) : (t.setIngPair a1 a2 a3).brt.Balanced := by
  unfold State.setIngPair
  repeat' first | with_reducible assumption | dsimp only | with_reducible refine .others ?_

theorem State.modBurst_balanced {a1 a2 a3 a4} (h : t.brt.Balanced) : (t.modBurst a1 a2 a3 a4).brt.Balanced := by
  unfold State.modBurst
  repeat' first | with_reducible assumption | with_reducible refine State.setIngPair_balanced ?_

theorem State.ack_balanced {a1 a2} (h : t.brt.Balanced) : (t.ack a1 a2).brt.Balanced := by
  unfold State.ack
  repeat' first
    | with_reducible assumption | with_reducible refine State.modBurst_balanced ?_
    | with_reducible refine State.recv_balanced ‹_› ?_ | split | simp only [State.withdrawRepair_brt]

theorem State.askGap_balanced {a1 a2 a3 a4} (h : t.brt.Balanced) : (t.askGap a1 a2 a3 a4).brt.Balanced := by
  unfold State.askGap
  repeat' first
    | with_reducible assumption | with_reducible refine State.setIngPair_balanced ?_
    | with_reducible refine State.send_balanced ?_

theorem State.burstFailed_balanced {a1 a2 a3} (h : t.brt.Balanced) : (t.burstFailed a1 a2 a3).brt.Balanced := by
  unfold State.burstFailed
  repeat' first
    | with_reducible assumption | with_reducible refine State.modBurst_balanced ?_
    | with_reducible refine State.askGap_balanced ?_ | split | simp only [State.raiseRepair_brt]

theorem State.ackTimeout_balanced {a1 a2} (h : t.brt.Balanced) : (t.ackTimeout a1 a2).brt.Balanced := by
  unfold State.ackTimeout
  repeat' first
    | with_reducible assumption | with_reducible refine State.burstFailed_balanced ?_ | split | simp only [State.bump_brt]

theorem State.countDiscard_balanced {a1 a2} (h : t.brt.Balanced) : (t.countDiscard a1 a2).brt.Balanced := by
  unfold State.countDiscard
  repeat' first | with_reducible assumption | with_reducible refine State.ledgerEvent_balanced ?_

theorem State.setCredits_balanced {a1 a2} (h : t.brt.Balanced) : (t.setCredits a1 a2).brt.Balanced := by
  unfold State.setCredits
  repeat' first | with_reducible assumption | dsimp only | with_reducible refine .others ?_

theorem State.applyCredit_balanced {a1 a2 a3 a4} (h : t.brt.Balanced) : (t.applyCredit a1 a2 a3 a4).brt.Balanced := by
  induction a4 generalizing t with
  | zero => exact h
  | succ f ih =>
    simp only [State.applyCredit]
    split
    · exact h
    · split
      · exact h
      · refine ih ?_
        simp only [State.markBusy_brt, State.setPkt_brt]
        exact State.setCredits_balanced (by simpa only [State.setChip_brt] using h)

theorem State.applyCredits_balanced {a1 a2 a3} (h : t.brt.Balanced) : (t.applyCredits a1 a2 a3).brt.Balanced := by
  unfold State.applyCredits
  repeat' first | with_reducible assumption | with_reducible refine State.applyCredit_balanced ?_

theorem State.sendNack_balanced {a1 a2} (h : t.brt.Balanced) : (t.sendNack a1 a2).brt.Balanced := by
  unfold State.sendNack
  repeat' first
    | with_reducible assumption | with_reducible refine State.send_balanced ?_ | simp only [State.irqIf_brt, State.bump_brt]

theorem State.applyVerdict_balanced {a1 a2} (h : t.brt.Balanced) : (t.applyVerdict a1 a2).brt.Balanced := by
  unfold State.applyVerdict
  repeat' first
    | with_reducible assumption | with_reducible refine State.acceptBurst_balanced ?_
    | with_reducible refine State.sendNack_balanced ?_ | with_reducible refine State.send_balanced ?_ | split
    | simp only [State.bump_brt, State.raise_brt]

theorem State.closeNotice_balanced {a1} (h : t.brt.Balanced) : (t.closeNotice a1).brt.Balanced := by
  unfold State.closeNotice
  repeat' first
    | with_reducible assumption | with_reducible refine State.setEgrPair_balanced ?_ | split | dsimp only
    | with_reducible refine .others ?_

theorem State.giveVerdict_balanced {a1 a2} (h : t.brt.Balanced) : (t.giveVerdict a1 a2).brt.Balanced := by
  unfold State.giveVerdict
  repeat' first
    | with_reducible assumption | with_reducible refine State.applyVerdict_balanced ?_
    | with_reducible refine State.closeNotice_balanced ?_

theorem State.answersDue_balanced {a1} (h : t.brt.Balanced) : (t.answersDue a1).brt.Balanced := by
  unfold State.answersDue
  repeat' first
    | with_reducible assumption | with_reducible refine State.giveVerdict_balanced ?_
    | with_reducible refine State.foldl_balanced (fun _ _ _ => ?_) ?_
    | with_reducible refine State.foldl_fst_balanced (fun _ _ _ => ?_) ?_ | split | dsimp only
    | with_reducible refine .others ?_

theorem State.beginSafeHold_balanced (h : t.brt.Balanced) : t.beginSafeHold.brt.Balanced := by
  unfold State.beginSafeHold
  repeat' first
    | with_reducible assumption | with_reducible refine State.setHold_balanced ?_ | split
    | simp only [State.discardLists_brt]

theorem State.beginSwitchHold_balanced (h : t.brt.Balanced) : t.beginSwitchHold.brt.Balanced := by
  unfold State.beginSwitchHold
  repeat' first
    | with_reducible assumption | with_reducible refine State.setHold_balanced ?_ | split
    | simp only [State.discardLists_brt]

theorem State.discardEgress_balanced {a1 a2 a3 a4} (h : t.brt.Balanced) : (t.discardEgress a1 a2 a3 a4).brt.Balanced := by
  unfold State.discardEgress
  repeat' first
    | with_reducible assumption | with_reducible refine State.countDiscard_balanced ?_
    | simp only [State.dropPkt_brt, State.freeHold_brt]

theorem State.headCheck_balanced {a1 a2 a3 a4} (h : t.brt.Balanced) : (t.headCheck a1 a2 a3 a4).brt.Balanced := by
  induction a4 generalizing t with
  | zero => exact h
  | succ f ih =>
    simp only [State.headCheck]
    split
    · exact h
    · split
      · refine ih ?_
        simp only [State.irqIf_brt, State.bump_brt]
        exact State.discardEgress_balanced (by simpa only [State.loseDeficit_brt, State.setQueue_brt] using h)
      · exact h

theorem State.checkHead_balanced {a1 a2 a3} (h : t.brt.Balanced) : (t.checkHead a1 a2 a3).brt.Balanced := by
  unfold State.checkHead
  repeat' first | with_reducible assumption | with_reducible refine State.headCheck_balanced ?_

theorem State.enqueue_balanced {a1 a2 a3 a4 a5} (h : t.brt.Balanced) : (t.enqueue a1 a2 a3 a4 a5).brt.Balanced := by
  unfold State.enqueue
  repeat' first
    | with_reducible assumption | with_reducible refine State.checkHead_balanced ?_ | split | simp only [State.setQueue_brt]

theorem State.feed_balanced {a1 a2 a3} (h : t.brt.Balanced) : (t.feed a1 a2 a3).brt.Balanced := by
  unfold State.feed
  repeat' first
    | with_reducible assumption | with_reducible refine State.enqueue_balanced ?_
    | with_reducible refine State.countDiscard_balanced ?_ | with_reducible refine State.setEgrPair_balanced ?_ | split
    | simp only [State.dropPkt_brt, State.freeHold_brt]

theorem State.feedAll_balanced {a1 a2 a3} (h : t.brt.Balanced) : (t.feedAll a1 a2 a3).brt.Balanced := by
  unfold State.feedAll
  repeat' first
    | with_reducible assumption | with_reducible refine State.feed_balanced ?_
    | with_reducible refine State.foldl_balanced (fun _ _ _ => ?_) ?_

theorem State.release_balanced {a1 a2 a3} (h : t.brt.Balanced) : (t.release a1 a2 a3).brt.Balanced := by
  induction a3 generalizing t with
  | zero => exact h
  | succ f ih =>
    simp only [State.release]
    split
    · exact h
    · exact ih (State.feedAll_balanced (State.setEgrPair_balanced h))

theorem State.releaseAll_balanced {a1 a2} (h : t.brt.Balanced) : (t.releaseAll a1 a2).brt.Balanced := by
  unfold State.releaseAll
  repeat' first | with_reducible assumption | with_reducible refine State.release_balanced ?_

theorem State.gapPacket_balanced {a1 a2 a3} (h : t.brt.Balanced) : (t.gapPacket a1 a2 a3).brt.Balanced := by
  unfold State.gapPacket
  repeat' first
    | with_reducible assumption | with_reducible refine State.countDiscard_balanced ?_ | split
    | simp only [State.dropPkt_brt, State.setPkt_brt]

theorem State.declareGap_balanced {a1 a2} (h : t.brt.Balanced) : (t.declareGap a1 a2).brt.Balanced := by
  unfold State.declareGap
  repeat' first
    | with_reducible assumption | with_reducible refine State.setEgrPair_balanced ?_
    | with_reducible refine State.gapPacket_balanced ?_ | with_reducible refine State.send_balanced ?_
    | with_reducible refine State.foldl_balanced (fun _ _ _ => ?_) ?_
    | simp only [State.irqIf_brt, State.bump_brt, State.freeHold_brt]

theorem State.gapDueNow_balanced {a1 a2 a3} (h : t.brt.Balanced) : (t.gapDueNow a1 a2 a3).brt.Balanced := by
  unfold State.gapDueNow
  repeat' first
    | with_reducible assumption | with_reducible refine State.setEgrPair_balanced ?_
    | with_reducible refine State.declareGap_balanced ?_ | split | dsimp only

theorem State.gapAtBoundary_balanced {a1 a2 a3} (h : t.brt.Balanced) : (t.gapAtBoundary a1 a2 a3).brt.Balanced := by
  unfold State.gapAtBoundary
  repeat' first
    | with_reducible assumption | with_reducible refine State.releaseAll_balanced ?_
    | with_reducible refine State.gapDueNow_balanced ?_

theorem State.gapsWaiting_balanced {a1 a2} (h : t.brt.Balanced) : (t.gapsWaiting a1 a2).brt.Balanced := by
  unfold State.gapsWaiting
  repeat' first
    | with_reducible assumption | with_reducible refine State.gapAtBoundary_balanced ?_
    | with_reducible refine State.setEgrPair_balanced ?_ | with_reducible refine State.foldl_balanced (fun _ _ _ => ?_) ?_
    | with_reducible refine State.foldl_fst_balanced (fun _ _ _ => ?_) ?_ | split | dsimp only

theorem State.transfer_balanced {a1 a2 a3} (h : t.brt.Balanced) : (t.transfer a1 a2 a3).brt.Balanced := by
  unfold State.transfer
  repeat' first
    | with_reducible assumption | with_reducible refine State.setIngPair_balanced ?_
    | with_reducible refine State.setEgrPair_balanced ?_ | with_reducible refine State.ledgerEvent_balanced ?_
    | with_reducible refine State.foldl_balanced (fun _ _ _ => ?_) ?_
    | with_reducible refine State.foldl_fst_balanced (fun _ _ _ => ?_) ?_ | split
    | simp only [State.freeSegs_brt, State.movePkt_brt, State.withdrawRepair_brt]

theorem State.pairBoundary_balanced {a1 a2} (h : t.brt.Balanced) : (t.pairBoundary a1 a2).brt.Balanced := by
  unfold State.pairBoundary
  repeat' first
    | with_reducible assumption | with_reducible refine State.gapsWaiting_balanced ?_
    | with_reducible refine State.releaseAll_balanced ?_ | with_reducible refine State.transfer_balanced ?_
    | with_reducible refine State.foldl_balanced (fun _ _ _ => ?_) ?_
    | with_reducible refine State.foldl_fst_balanced (fun _ _ _ => ?_) ?_ | split | dsimp only

theorem State.boundaries_balanced {a1} (h : t.brt.Balanced) : (t.boundaries a1).brt.Balanced := by
  unfold State.boundaries
  repeat' first
    | with_reducible assumption | with_reducible refine State.answersDue_balanced ?_
    | with_reducible refine State.pairBoundary_balanced ?_ | with_reducible refine State.foldl_balanced (fun _ _ _ => ?_) ?_

theorem State.burstVerdict_balanced {a1 a2} (h : t.brt.Balanced) : (t.burstVerdict a1 a2).brt.Balanced := by
  unfold State.burstVerdict
  repeat' first | with_reducible assumption | with_reducible refine State.giveVerdict_balanced ?_ | split

theorem State.checkHeads_balanced {a1} (h : t.brt.Balanced) : (t.checkHeads a1).brt.Balanced := by
  unfold State.checkHeads
  repeat' first
    | with_reducible assumption | with_reducible refine State.checkHead_balanced ?_
    | with_reducible refine State.foldl_balanced (fun _ _ _ => ?_) ?_

theorem State.mirrorTakes_balanced {c : Nat} (h : t.brt.Balanced) : (t.mirrorTakes c).brt.Balanced :=
  have hl : ((t.brt.mirror.toList.getD c {}).apply (.discard drDomainLoss (t.brt.mirror.toList.getD c {}).resident)).exact :=
    Ledger.exact_apply h.mirror.getD
  ⟨h.led.setIfInBounds hl, h.mirror.setIfInBounds hl, h.snap⟩

theorem State.dropUntransferred_balanced {a1 a2} (h : t.brt.Balanced) : (t.dropUntransferred a1 a2).brt.Balanced := by
  unfold State.dropUntransferred
  repeat' first
    | with_reducible assumption | with_reducible refine State.setEgrPair_balanced ?_
    | with_reducible refine State.foldl_balanced (fun _ _ _ => ?_) ?_
    | with_reducible refine State.foldl_fst_balanced (fun _ _ _ => ?_) ?_ | split | simp only [State.freeHold_brt]

theorem State.withdraw_balanced {a1 a2 a3} (h : t.brt.Balanced) : (t.withdraw a1 a2 a3).brt.Balanced := by
  unfold State.withdraw
  repeat' first
    | with_reducible assumption | with_reducible refine State.setCredits_balanced ?_
    | with_reducible refine State.sendRelease_balanced ?_ | split | simp only [State.setChip_brt]

theorem State.withdrawFor_balanced {a1 a2} (h : t.brt.Balanced) : (t.withdrawFor a1 a2).brt.Balanced := by
  unfold State.withdrawFor
  repeat' first
    | with_reducible assumption | with_reducible refine State.withdraw_balanced ?_
    | with_reducible refine State.foldl_balanced (fun _ _ _ => ?_) ?_

theorem State.chipletLoss_balanced {a1} (h : t.brt.Balanced) : (t.chipletLoss a1).brt.Balanced := by
  unfold State.chipletLoss
  repeat' first
    | with_reducible assumption | with_reducible refine State.mirrorTakes_balanced ?_
    | with_reducible refine State.dropUntransferred_balanced ?_ | with_reducible refine State.withdrawFor_balanced ?_
    | with_reducible refine State.foldl_balanced (fun _ _ _ => ?_) ?_
    | with_reducible refine State.foldl_fst_balanced (fun _ _ _ => ?_) ?_ | split
    | simp only [State.dropPkt_brt, State.raise_brt, State.setChip_brt] | dsimp only | with_reducible refine .others ?_

theorem State.discardIngress_balanced {a1 a2} (h : t.brt.Balanced) : (t.discardIngress a1 a2).brt.Balanced := by
  unfold State.discardIngress
  repeat' first
    | with_reducible assumption | with_reducible refine State.countDiscard_balanced ?_
    | with_reducible refine State.sendRelease_balanced ?_ | split | simp only [State.dropPkt_brt, State.setChip_brt]

theorem State.gapBurst_balanced {a1 a2 a3 a4} (h : t.brt.Balanced) : (t.gapBurst a1 a2 a3 a4).brt.Balanced := by
  unfold State.gapBurst
  repeat' first
    | with_reducible assumption | with_reducible refine State.setIngPair_balanced ?_
    | with_reducible refine State.discardIngress_balanced ?_
    | with_reducible refine State.foldl_balanced (fun _ _ _ => ?_) ?_
    | with_reducible refine State.foldl_fst_balanced (fun _ _ _ => ?_) ?_ | split
    | simp only [State.freeSegs_brt, State.withdrawRepair_brt]

theorem State.gapTaken_balanced {a1 a2 a3} (h : t.brt.Balanced) : (t.gapTaken a1 a2 a3).brt.Balanced := by
  unfold State.gapTaken
  repeat' first
    | with_reducible assumption | with_reducible refine State.gapBurst_balanced ?_
    | with_reducible refine State.foldl_balanced (fun _ _ _ => ?_) ?_
    | with_reducible refine State.foldl_fst_balanced (fun _ _ _ => ?_) ?_ | split

theorem State.renumber_balanced {a1 a2} (h : t.brt.Balanced) : (t.renumber a1 a2).brt.Balanced := by
  unfold State.renumber
  repeat' first
    | with_reducible assumption | with_reducible refine State.setIngPair_balanced ?_
    | with_reducible refine State.gapTaken_balanced ?_ | with_reducible refine State.setEgrPair_balanced ?_
    | with_reducible refine State.feedAll_balanced ?_ | with_reducible refine State.foldl_balanced (fun _ _ _ => ?_) ?_
    | with_reducible refine State.foldl_fst_balanced (fun _ _ _ => ?_) ?_ | split
    | simp only [State.modPkt_brt, State.freeHold_brt, State.withdrawRepair_brt] | dsimp only
    | with_reducible refine .others ?_

theorem State.epochsOf_balanced {a1} (h : t.brt.Balanced) : (t.epochsOf a1).brt.Balanced := by
  unfold State.epochsOf
  repeat' first
    | with_reducible assumption | with_reducible refine State.renumber_balanced ?_
    | with_reducible refine State.foldl_balanced (fun _ _ _ => ?_) ?_
    | with_reducible refine State.foldl_fst_balanced (fun _ _ _ => ?_) ?_ | dsimp only | with_reducible refine .others ?_

theorem State.setRx_balanced {a1 a2} (h : t.brt.Balanced) : (t.setRx a1 a2).brt.Balanced := by
  unfold State.setRx
  repeat' first | with_reducible assumption | dsimp only | with_reducible refine .others ?_

theorem State.creditRelease_balanced {a1 a2 a3} (h : t.brt.Balanced) : (t.creditRelease a1 a2 a3).brt.Balanced := by
  unfold State.creditRelease
  repeat' first
    | with_reducible assumption | with_reducible refine State.recv_balanced ‹_› ?_ | split | simp only [State.setChip_brt]

theorem State.grantEffect_balanced {a1 a2} (h : t.brt.Balanced) : (t.grantEffect a1 a2).brt.Balanced := by
  unfold State.grantEffect
  repeat' first
    | with_reducible assumption | with_reducible refine State.setCredits_balanced ?_
    | with_reducible refine State.applyCredits_balanced ?_ | split | simp only [State.setChip_brt]

theorem State.drainCredits_balanced {a1} (h : t.brt.Balanced) : (t.drainCredits a1).brt.Balanced := by
  unfold State.drainCredits
  repeat' first
    | with_reducible assumption | with_reducible refine State.withdraw_balanced ?_
    | with_reducible refine State.sendRelease_balanced ?_ | with_reducible refine State.foldl_balanced (fun _ _ _ => ?_) ?_
    | with_reducible refine State.foldl_fst_balanced (fun _ _ _ => ?_) ?_ | split | simp only [State.setPkt_brt]

theorem State.creditStep_balanced (h : t.brt.Balanced) : t.creditStep.brt.Balanced := by
  unfold State.creditStep
  repeat' first
    | with_reducible assumption | with_reducible refine State.grantEffect_balanced ?_
    | with_reducible refine State.drainCredits_balanced ?_ | with_reducible refine State.foldl_balanced (fun _ _ _ => ?_) ?_
    | with_reducible refine State.foldl_fst_balanced (fun _ _ _ => ?_) ?_ | split
    | simp only [State.grantStep_brt, State.idleStep_brt]

theorem State.creditWithdraw_balanced {a1 a2 a3} (h : t.brt.Balanced) : (t.creditWithdraw a1 a2 a3).brt.Balanced := by
  unfold State.creditWithdraw
  repeat' first | with_reducible assumption | with_reducible refine State.withdraw_balanced ?_ | split

theorem State.endSafeHold_balanced {a1} (h : t.brt.Balanced) : (t.endSafeHold a1).brt.Balanced := by
  unfold State.endSafeHold
  repeat' first
    | with_reducible assumption | with_reducible refine State.setHold_balanced ?_ | split | simp only [State.beginWork_brt]

theorem State.epochsAll_balanced (h : t.brt.Balanced) : t.epochsAll.brt.Balanced := by
  unfold State.epochsAll
  repeat' first
    | with_reducible assumption | with_reducible refine State.renumber_balanced ?_
    | with_reducible refine State.foldl_balanced (fun _ _ _ => ?_) ?_
    | with_reducible refine State.foldl_fst_balanced (fun _ _ _ => ?_) ?_ | dsimp only | with_reducible refine .others ?_

theorem State.stagePair_balanced {a1 a2 a3} (h : t.brt.Balanced) : (t.stagePair a1 a2 a3).1.brt.Balanced := by
  induction a3 generalizing t with
  | zero => exact h
  | succ n ih =>
    simp only [State.stagePair]
    split
    · exact ih (State.discardIngress_balanced h)
    · exact h

theorem State.stagePair_balanced_eq {a1 a2 a3 x1 x2} (e : t.stagePair a1 a2 a3 = (v, x1, x2)) (h : t.brt.Balanced) :
    v.brt.Balanced := by
  have hv := State.stagePair_balanced (a1 := a1) (a2 := a2) (a3 := a3) h
  rwa [e] at hv

theorem State.stage_balanced {a1 a2} (h : t.brt.Balanced) : (t.stage a1 a2).1.brt.Balanced := by
  unfold State.stage
  repeat' first | with_reducible assumption | with_reducible refine State.stagePair_balanced ?_

theorem State.stage_balanced_eq {a1 a2 x1 x2} (e : t.stage a1 a2 = (v, x1, x2)) (h : t.brt.Balanced) : v.brt.Balanced := by
  have hv := State.stage_balanced (a1 := a1) (a2 := a2) h
  rwa [e] at hv

theorem State.uncorrectable_balanced {a1 a2} (h : t.brt.Balanced) : (t.uncorrectable a1 a2).brt.Balanced := by
  unfold State.uncorrectable
  repeat' first
    | with_reducible assumption | with_reducible refine State.askGap_balanced ?_
    | with_reducible refine State.foldl_balanced (fun _ _ _ => ?_) ?_
    | with_reducible refine State.foldl_fst_balanced (fun _ _ _ => ?_) ?_ | split
    | simp only [State.retirePage_brt, State.irqIf_brt, State.bump_brt, State.raise_brt, State.setChip_brt]

theorem State.segRead_balanced {a1 a2} (h : t.brt.Balanced) : (t.segRead a1 a2).brt.Balanced := by
  unfold State.segRead
  repeat' first
    | with_reducible assumption | with_reducible refine State.uncorrectable_balanced ?_ | split
    | simp only [State.correctedRead_brt]

theorem State.finalListDelivery_balanced {a1} (h : t.brt.Balanced) : (t.finalListDelivery a1).brt.Balanced := by
  unfold State.finalListDelivery
  repeat' first
    | with_reducible assumption | with_reducible refine State.stage_balanced ?_
    | with_reducible refine State.stage_balanced_eq ‹_› ?_ | with_reducible refine State.segRead_balanced ?_
    | with_reducible refine State.foldl_balanced (fun _ _ _ => ?_) ?_
    | with_reducible refine State.foldl_fst_balanced (fun _ _ _ => ?_) ?_ | split | simp only [State.putWork_brt]

theorem State.frame_balanced {a1} (h : t.brt.Balanced) : (t.frame a1).brt.Balanced := by
  unfold State.frame
  repeat' first
    | with_reducible assumption | with_reducible refine State.send_balanced ?_ | dsimp only
    | with_reducible refine .others ?_

theorem State.gap_balanced {a1 a2} (h : t.brt.Balanced) : (t.gap a1 a2).brt.Balanced := by
  unfold State.gap
  repeat' first
    | with_reducible assumption | with_reducible refine State.gapTaken_balanced ?_
    | with_reducible refine State.recv_balanced ‹_› ?_ | split

theorem State.gapRequest_balanced {a1 a2} (h : t.brt.Balanced) : (t.gapRequest a1 a2).brt.Balanced := by
  unfold State.gapRequest
  repeat' first
    | with_reducible assumption | with_reducible refine State.setEgrPair_balanced ?_
    | with_reducible refine State.recv_balanced ‹_› ?_ | with_reducible refine State.gapDueNow_balanced ?_
    | with_reducible refine State.send_balanced ?_ | split | dsimp only

theorem State.gapTimeout_balanced {a1 a2} (h : t.brt.Balanced) : (t.gapTimeout a1 a2).brt.Balanced := by
  unfold State.gapTimeout
  repeat' first | with_reducible assumption | with_reducible refine State.gapAtBoundary_balanced ?_ | split | dsimp only

theorem State.gateTakeover_balanced {a1} (h : t.brt.Balanced) : (t.gateTakeover a1).brt.Balanced := by
  unfold State.gateTakeover
  repeat' first
    | with_reducible assumption | with_reducible refine State.checkHeads_balanced ?_ | split
    | simp only [State.irqIf_brt, State.setPort_brt, State.wrBit_brt]

theorem State.newBurst_balanced {a1 a2 a3 a4} (h : t.brt.Balanced) : (t.newBurst a1 a2 a3 a4).brt.Balanced := by
  unfold State.newBurst
  repeat' first
    | with_reducible assumption | with_reducible refine State.setIngPair_balanced ?_
    | with_reducible refine State.frame_balanced ?_ | simp only [State.markSent_brt]

theorem State.resend_balanced {a1} (h : t.brt.Balanced) : (t.resend a1).brt.Balanced := by
  unfold State.resend
  repeat' first
    | with_reducible assumption | with_reducible refine State.setIngPair_balanced ?_
    | with_reducible refine State.frame_balanced ?_ | with_reducible refine State.askGap_balanced ?_ | split
    | simp only [State.bump_brt]

theorem State.preamble_balanced {a1} (h : t.brt.Balanced) : (t.preamble a1).brt.Balanced := by
  unfold State.preamble
  repeat' first | with_reducible assumption | dsimp only | with_reducible refine .others ?_

theorem State.launchPair_balanced {a1 a2} (h : t.brt.Balanced) : (t.launchPair a1 a2).brt.Balanced := by
  unfold State.launchPair
  repeat' first
    | with_reducible assumption | with_reducible refine State.newBurst_balanced ?_
    | with_reducible refine State.stage_balanced ?_ | with_reducible refine State.stage_balanced_eq ‹_› ?_
    | with_reducible refine State.resend_balanced ?_ | with_reducible refine State.preamble_balanced ?_ | split | dsimp only

theorem State.launch_balanced {a1} (h : t.brt.Balanced) : (t.launch a1).brt.Balanced := by
  unfold State.launch
  repeat' first
    | with_reducible assumption | with_reducible refine State.launchPair_balanced ?_
    | with_reducible refine State.foldl_balanced (fun _ _ _ => ?_) ?_
    | with_reducible refine State.foldl_fst_balanced (fun _ _ _ => ?_) ?_ | split | dsimp only
    | with_reducible refine .others ?_

theorem State.mirrorStep_balanced (h : t.brt.Balanced) : t.mirrorStep.brt.Balanced := by
  refine ⟨h.led, fun c => ?_, h.snap⟩
  unfold State.mirrorStep
  rw [Fin.getElem_fin, Vector.getElem_ofFn]
  split
  · exact h.led _
  · exact h.mirror _

theorem State.guardEnd_balanced (h : t.brt.Balanced) : t.guardEnd.brt.Balanced := by
  unfold State.guardEnd
  repeat' first | with_reducible assumption | split | dsimp only | with_reducible refine .others ?_

theorem State.nack_balanced {a1 a2} (h : t.brt.Balanced) : (t.nack a1 a2).brt.Balanced := by
  unfold State.nack
  repeat' first
    | with_reducible assumption | with_reducible refine State.burstFailed_balanced ?_
    | with_reducible refine State.recv_balanced ‹_› ?_ | split

theorem State.notice_balanced {a1 a2} (h : t.brt.Balanced) : (t.notice a1 a2).brt.Balanced := by
  unfold State.notice
  repeat' first
    | with_reducible assumption | with_reducible refine State.setEgrPair_balanced ?_
    | with_reducible refine State.recv_balanced ‹_› ?_ | split

theorem State.pchCopyDone_balanced {a1 a2} (h : t.brt.Balanced) : (t.pchCopyDone a1 a2).brt.Balanced := by
  unfold State.pchCopyDone
  repeat' first
    | with_reducible assumption | with_reducible refine State.uncorrectable_balanced ?_
    | with_reducible refine State.foldl_balanced (fun _ _ _ => ?_) ?_
    | with_reducible refine State.foldl_fst_balanced (fun _ _ _ => ?_) ?_ | split
    | simp only [State.irqIf_brt, State.bump_brt, State.wrBit_brt, State.autoReplace_brt, State.setChip_brt]

theorem State.phaseLoad_balanced (h : t.brt.Balanced) : t.phaseLoad.brt.Balanced := by
  unfold State.phaseLoad
  repeat' first
    | with_reducible assumption | with_reducible refine State.setRx_balanced ?_
    | with_reducible refine State.foldl_balanced (fun _ _ _ => ?_) ?_
    | with_reducible refine State.foldl_fst_balanced (fun _ _ _ => ?_) ?_ | split | dsimp only
    | with_reducible refine .others ?_

theorem State.preambleEnd_balanced {a1} (h : t.brt.Balanced) : (t.preambleEnd a1).brt.Balanced := by
  unfold State.preambleEnd
  repeat' first
    | with_reducible assumption | with_reducible refine State.setRx_balanced ?_ | split | simp only [State.entriesStep_brt]

theorem State.retransmitRead_balanced {a1 a2 a3} (h : t.brt.Balanced) : (t.retransmitRead a1 a2 a3).brt.Balanced := by
  unfold State.retransmitRead
  repeat' first
    | with_reducible assumption | with_reducible refine State.segRead_balanced ?_
    | with_reducible refine State.foldl_balanced (fun _ _ _ => ?_) ?_
    | with_reducible refine State.foldl_fst_balanced (fun _ _ _ => ?_) ?_ | split

theorem State.scrub_balanced {a1 a2 a3} (h : t.brt.Balanced) : (t.scrub a1 a2 a3).brt.Balanced := by
  unfold State.scrub
  repeat' first
    | with_reducible assumption | with_reducible refine State.segRead_balanced ?_ | split
    | simp only [State.bump_brt, State.tblFault_brt, State.setChip_brt]

theorem State.snapshotLatch_balanced (h : t.brt.Balanced) : t.snapshotLatch.brt.Balanced := by
  unfold State.snapshotLatch
  split
  · exact h
  · split
    · simp only [State.irqIf_brt, State.wrBit_brt]
      exact ⟨h.led, h.mirror, h.led⟩
    · exact h

theorem State.takeHead_balanced {a1 a2} (h : t.brt.Balanced) : (t.takeHead a1 a2).brt.Balanced := by
  unfold State.takeHead
  repeat' first
    | with_reducible assumption | with_reducible refine State.checkHead_balanced ?_
    | simp only [State.setQueue_brt, State.setPort_brt]

theorem State.beginFull_balanced (h : t.brt.Balanced) : t.beginFull.brt.Balanced := by
  unfold State.beginFull
  repeat' first
    | with_reducible assumption | with_reducible refine State.stopPrism_balanced ?_
    | simp only [State.closePorts_brt, State.setGState_brt]

theorem State.startFullBit_balanced (h : t.brt.Balanced) : t.startFullBit.brt.Balanced := by
  unfold State.startFullBit
  repeat' first
    | with_reducible assumption | with_reducible refine State.beginFull_balanced ?_ | split | simp only [State.wrBit_brt]

theorem State.writeCalCmd_balanced {a1 a2} (h : t.brt.Balanced) : (t.writeCalCmd a1 a2).brt.Balanced := by
  unfold State.writeCalCmd
  repeat' first
    | with_reducible assumption | with_reducible refine State.startFullBit_balanced ?_ | split
    | simp only [State.calStoreBit_brt, State.plainWrite_brt, State.calDeleteBit_brt]

theorem State.bistDone_balanced {a1 a2} (h : t.brt.Balanced) : (t.bistDone a1 a2).brt.Balanced := by
  unfold State.bistDone
  repeat' first
    | with_reducible assumption | with_reducible refine State.halt_balanced ?_ | split | simp only [State.setCtlState_brt]

theorem State.switchTo_balanced {a1 a2 a3} (h : t.brt.Balanced) : (t.switchTo a1 a2 a3).brt.Balanced := by
  unfold State.switchTo
  repeat' first
    | with_reducible assumption | with_reducible refine State.beginSwitchHold_balanced ?_ | split
    | simp only [State.followSwitch_brt, State.clearCompare_brt, State.setCtlRed_brt, State.irqIf_brt, State.bump_brt,
        State.abandonStage_brt, State.raiseCtl_brt, State.setCtlState_brt, State.event_brt]

theorem State.switchoverStart_balanced (h : t.brt.Balanced) : t.switchoverStart.brt.Balanced := by
  unfold State.switchoverStart
  repeat' first
    | with_reducible assumption | with_reducible refine State.switchTo_balanced ?_ | split
    | simp only [State.wrBit_brt, State.raiseCtl_brt]

theorem State.admitDiscard_balanced {a1 a2} (h : t.brt.Balanced) : (t.admitDiscard a1 a2).brt.Balanced := by
  unfold State.admitDiscard
  repeat' first
    | with_reducible assumption | with_reducible refine State.countDiscard_balanced ?_
    | with_reducible refine State.ledgerEvent_balanced ?_

theorem State.admitDrop_balanced {a1 a2 a3} (h : t.brt.Balanced) : (t.admitDrop a1 a2 a3).brt.Balanced := by
  unfold State.admitDrop
  repeat' first
    | with_reducible assumption | with_reducible refine State.countDiscard_balanced ?_ | split
    | simp only [State.dropPkt_brt, State.irq_brt, State.setChip_brt]

theorem State.admitTake_balanced {a1 a2 a3 a4} (h : t.brt.Balanced) : (t.admitTake a1 a2 a3 a4).brt.Balanced := by
  unfold State.admitTake
  repeat' first
    | with_reducible assumption | with_reducible refine State.applyCredits_balanced ?_ | split
    | simp only [State.bump_brt, State.setPkt_brt, State.setChip_brt]

theorem State.clsDrop_balanced {a1 a2 a3 a4} (h : t.brt.Balanced) : (t.clsDrop a1 a2 a3 a4).brt.Balanced := by
  unfold State.clsDrop
  repeat' first
    | with_reducible assumption | with_reducible refine State.countDiscard_balanced ?_
    | simp only [State.dropPkt_brt, State.unpin_brt]

theorem State.enter_balanced {a1 a2} (h : t.brt.Balanced) : (t.enter a1 a2).brt.Balanced := by
  unfold State.enter
  repeat' first
    | with_reducible assumption | with_reducible refine State.admitTake_balanced ?_
    | with_reducible refine State.admitDrop_balanced ?_ | split | dsimp only

theorem State.meterAdmit_balanced {a1 a2 a3 a4} (h : t.brt.Balanced) : (t.meterAdmit a1 a2 a3 a4).brt.Balanced := by
  unfold State.meterAdmit
  repeat' first
    | with_reducible assumption | with_reducible refine State.meterEvent_balanced_eq ‹_› ?_
    | with_reducible refine State.countDiscard_balanced ?_ | with_reducible refine State.enter_balanced ?_ | split
    | simp only [State.dropPkt_brt, State.meterEvent_brt, State.setPkt_brt, State.unpin_brt]

theorem State.applyExcResult_balanced {a1 a2 a3 a4 a5 a6} (h : t.brt.Balanced) :
    (t.applyExcResult a1 a2 a3 a4 a5 a6).brt.Balanced := by
  unfold State.applyExcResult
  repeat' first
    | with_reducible assumption | with_reducible refine State.clsDrop_balanced ?_
    | with_reducible refine State.meterAdmit_balanced ?_ | with_reducible refine State.resolveEgress_balanced_eq ‹_› ?_
    | split | simp only [State.excCount_brt, State.resolveEgress_brt]

theorem State.exception_balanced {a1 a2 a3 a4 a5} (h : t.brt.Balanced) : (t.exception a1 a2 a3 a4 a5).brt.Balanced := by
  unfold State.exception
  repeat' first
    | with_reducible assumption | with_reducible refine State.clsDrop_balanced ?_
    | with_reducible refine State.applyExcResult_balanced ?_ | split | simp only [State.excCount_brt]

theorem State.applyResult_balanced {a1 a2 a3 a4 a5 a6} (h : t.brt.Balanced) :
    (t.applyResult a1 a2 a3 a4 a5 a6).brt.Balanced := by
  unfold State.applyResult
  repeat' first
    | with_reducible assumption | with_reducible refine State.clsDrop_balanced ?_
    | with_reducible refine State.meterAdmit_balanced ?_ | with_reducible refine State.exception_balanced ?_
    | with_reducible refine State.resolveEgress_balanced_eq ‹_› ?_ | split
    | simp only [State.setPkt_brt, State.setChip_brt, State.resolveEgress_brt]

theorem State.delivered_balanced {a1 a2} (h : t.brt.Balanced) : (t.delivered a1 a2).brt.Balanced := by
  unfold State.delivered
  repeat' first | with_reducible assumption | with_reducible refine State.ledgerEvent_balanced ?_ | split

theorem State.crossTransfer_balanced {a1 a2} (h : t.brt.Balanced) : (t.crossTransfer a1 a2).brt.Balanced := by
  unfold State.crossTransfer
  repeat' first
    | with_reducible assumption | with_reducible refine State.delivered_balanced ?_ | split
    | simp only [State.setCrossing_brt, State.pulses_brt]

theorem State.giveResults_balanced {a1 a2} (h : t.brt.Balanced) : (t.giveResults a1 a2).brt.Balanced := by
  induction a2 generalizing t with
  | zero => exact h
  | succ f ih =>
    simp only [State.giveResults]
    split
    · exact h
    · split
      · exact ih (State.applyExcResult_balanced (by simpa only [State.setChip_brt] using h))
      · simpa only [State.setChip_brt] using h

theorem State.drainResults_balanced {a1} (h : t.brt.Balanced) : (t.drainResults a1).brt.Balanced := by
  unfold State.drainResults
  repeat' first | with_reducible assumption | with_reducible refine State.giveResults_balanced ?_

theorem State.handToParse_balanced {a1 a2 a3} (h : t.brt.Balanced) : (t.handToParse a1 a2 a3).brt.Balanced := by
  unfold State.handToParse
  repeat' first
    | with_reducible assumption | with_reducible refine State.admitDiscard_balanced ?_
    | with_reducible refine State.ledgerEvent_balanced ?_ | split
    | simp only [State.irqIf_brt, State.bump_brt, State.setPort_brt, State.setPkt_brt]

theorem State.goodFrame_balanced {a1 a2} (h : t.brt.Balanced) : (t.goodFrame a1 a2).brt.Balanced := by
  unfold State.goodFrame
  repeat' first
    | with_reducible assumption | with_reducible refine State.handToParse_balanced ?_
    | with_reducible refine State.admitDiscard_balanced ?_ | split
    | simp only [State.lanBump_brt, State.setPort_brt, State.audit_brt, State.inbandFrame_brt, State.capture_brt]

theorem State.frameReceived_balanced {a1 a2} (h : t.brt.Balanced) : (t.frameReceived a1 a2).brt.Balanced := by
  unfold State.frameReceived
  repeat' first
    | with_reducible assumption | with_reducible refine State.goodFrame_balanced ?_ | split
    | simp only [State.countCorrected_brt, State.lanBump_brt, State.bump_brt]

theorem State.lookup_balanced {a1 a2} (h : t.brt.Balanced) : (t.lookup a1 a2).brt.Balanced := by
  unfold State.lookup
  dsimp only
  split
  · exact h
  · split
    · simpa only [State.setChip_brt] using h
    · refine State.drainResults_balanced ?_
      split
      · refine State.applyResult_balanced ?_
        simpa only [State.traceLookup_brt, Walk.tree_brt, State.bump_brt, State.pinBank_brt, State.setChip_brt] using h
      · refine State.applyResult_balanced ?_
        simpa only [State.traceLookup_brt, Walk.tree_brt, State.bump_brt, State.pinBank_brt, State.setChip_brt] using h
      · refine State.exception_balanced ?_
        simpa only [State.traceLookup_brt, Walk.tree_brt, State.bump_brt, State.pinBank_brt, State.setChip_brt] using h

theorem State.resolveParse_balanced {a1 a2 a3 a4} (h : t.brt.Balanced) : (t.resolveParse a1 a2 a3 a4).brt.Balanced := by
  unfold State.resolveParse
  repeat' first
    | with_reducible assumption | with_reducible refine State.clsDrop_balanced ?_ | split
    | simp only [State.setPkt_brt, State.setChip_brt]

theorem State.parsePassEnd_balanced {a1 a2} (h : t.brt.Balanced) : (t.parsePassEnd a1 a2).brt.Balanced := by
  unfold State.parsePassEnd
  repeat' first
    | with_reducible assumption | with_reducible refine State.resolveParse_balanced ?_
    | with_reducible refine State.drainResults_balanced ?_ | split
    | simp only [State.bump_brt, State.setPkt_brt, State.excCount_brt, State.setChip_brt]

theorem State.startFrame_balanced {a1 a2 a3 a4} (h : t.brt.Balanced) : (t.startFrame a1 a2 a3 a4).brt.Balanced := by
  unfold State.startFrame
  repeat' first
    | with_reducible assumption | with_reducible refine State.sentFrame_balanced_eq ‹_› ?_
    | with_reducible refine State.takeHead_balanced ?_ | split | simp only [State.setPort_brt, State.sentFrame_brt]

theorem State.transmitStart_balanced {a1 a2 a3 a4} (h : t.brt.Balanced) : (t.transmitStart a1 a2 a3 a4).brt.Balanced := by
  unfold State.transmitStart
  repeat' first
    | with_reducible assumption | with_reducible refine State.startFrame_balanced ?_
    | with_reducible refine State.checkHead_balanced ?_ | with_reducible refine State.discardEgress_balanced ?_
    | with_reducible refine State.segRead_balanced ?_ | with_reducible refine State.foldl_balanced (fun _ _ _ => ?_) ?_
    | with_reducible refine State.foldl_fst_balanced (fun _ _ _ => ?_) ?_ | split
    | simp only [State.setQueue_brt, State.loseDeficit_brt, State.countGateWaits_brt]

theorem State.abortFull_balanced (h : t.brt.Balanced) : t.abortFull.brt.Balanced := by
  unfold State.abortFull
  repeat' first
    | with_reducible assumption | with_reducible refine State.halt_balanced ?_ | split
    | simp only [State.stepEnd_brt, State.enterLocking_brt, State.restoreLight_brt, State.interpolate_brt]

theorem State.actControl_balanced {a1 a2 a3 a4 a5} (h : t.brt.Balanced) : (t.actControl a1 a2 a3 a4 a5).brt.Balanced := by
  unfold State.actControl
  repeat' first
    | with_reducible assumption | with_reducible refine State.writeSnapCtrl_balanced ?_
    | with_reducible refine State.writeCalCmd_balanced ?_ | with_reducible refine State.writePhaseSel_balanced ?_
    | with_reducible refine State.foldl_balanced (fun _ _ _ => ?_) ?_
    | with_reducible refine State.foldl_fst_balanced (fun _ _ _ => ?_) ?_ | split
    | simp only [State.writeModeReq_brt, State.writeSetRead_brt, State.warmSpare_brt, State.writeParkReq_brt,
        State.writeRangeReq_brt, State.writeRedCmd_brt, State.plainWrite_brt, State.writeCoeff_brt, State.writeLbCfg_brt,
        State.permRead_brt, State.writeAuCfg_brt, State.writeChangeCtrl_brt, State.calWrite_brt, State.writeSwapCtrl_brt,
        State.writeAcq_brt, State.writeTarget_brt]

theorem State.powerDown_balanced : t.powerDown.brt.Balanced :=
  ⟨AllExact.replicate, AllExact.replicate, AllExact.replicate⟩

theorem State.restartIfReady_balanced (h : t.brt.Balanced) : t.restartIfReady.brt.Balanced := by
  unfold State.restartIfReady
  repeat' first | with_reducible assumption | with_reducible exact State.powerDown_balanced | split

theorem State.beginRestart_balanced (h : t.brt.Balanced) : t.beginRestart.brt.Balanced := by
  unfold State.beginRestart
  repeat' first
    | with_reducible assumption | with_reducible refine State.restartIfReady_balanced ?_ | simp only [State.enterSafe_brt]

theorem State.writeRestart_balanced {a1 a2} (h : t.brt.Balanced) : (t.writeRestart a1 a2).brt.Balanced := by
  unfold State.writeRestart
  repeat' first
    | with_reducible assumption | with_reducible refine State.beginRestart_balanced ?_ | split
    | simp only [State.wrBit_brt, State.plainWrite_brt]

theorem State.actGlobal_balanced {a1 a2 a3 a4 a5} (h : t.brt.Balanced) : (t.actGlobal a1 a2 a3 a4 a5).brt.Balanced := by
  unfold State.actGlobal
  repeat' first
    | with_reducible assumption | with_reducible refine State.writeRestart_balanced ?_ | split
    | simp only [State.writeBlockCfg_brt, State.writeGlbCtrl_brt, State.writeMsix_brt, State.writeTimCmd_brt,
        State.plainWrite_brt, State.writeTimCtrl_brt, State.writeDomainCtrl_brt, State.writeClear_brt]

theorem State.regAct_balanced {a1 a2 a3} (h : t.brt.Balanced) : (t.regAct a1 a2 a3).brt.Balanced := by
  unfold State.regAct
  repeat' first
    | with_reducible assumption | with_reducible refine State.actControl_balanced ?_
    | with_reducible refine State.actGlobal_balanced ?_ | split | simp only [State.actChip_brt]

theorem State.zeroPkt_balanced {a1} (h : t.brt.Balanced) : (t.zeroPkt a1).brt.Balanced := by
  unfold State.zeroPkt
  repeat' first
    | with_reducible assumption | with_reducible refine State.sendRelease_balanced ?_ | split | simp only [State.unpin_brt]

theorem State.zeroize_balanced {a1} (h : t.brt.Balanced) : (t.zeroize a1).brt.Balanced := by
  unfold State.zeroize
  dsimp only
  refine .others ?_
  refine State.foldl_balanced (fun _ _ hu => by simpa only [State.wr_brt] using hu) ?_
  refine State.foldl_balanced (fun _ _ => State.ledgerEvent_balanced) (State.foldl_balanced (fun u x hu => ?_) ?_)
  · split
    · exact State.zeroPkt_balanced hu
    · exact hu
  · simpa only [State.emptyHolds_brt, State.raiseSys_brt] using h

theorem State.trigger_balanced {a1 a2 a3 a4} (h : t.brt.Balanced) : (t.trigger a1 a2 a3 a4).brt.Balanced := by
  unfold State.trigger
  repeat' first
    | with_reducible assumption | with_reducible refine State.zeroize_balanced ?_ | split | simp only [State.audit_brt]

theorem State.mbZeroize_balanced {a1} (h : t.brt.Balanced) : (t.mbZeroize a1).1.brt.Balanced := by
  unfold State.mbZeroize
  repeat' first | with_reducible assumption | with_reducible refine State.trigger_balanced ?_

theorem State.mbZeroize_balanced_eq {a1 x1} (e : t.mbZeroize a1 = (v, x1)) (h : t.brt.Balanced) : v.brt.Balanced := by
  have hv := State.mbZeroize_balanced (a1 := a1) h
  rwa [e] at hv

theorem State.mbRetire_balanced {a1 a2} (h : t.brt.Balanced) : (t.mbRetire a1 a2).1.brt.Balanced := by
  unfold State.mbRetire
  repeat' first
    | with_reducible assumption | with_reducible refine State.trigger_balanced ?_
    | with_reducible refine State.opEnds_balanced_eq ‹_› ?_ | split | simp only [State.opEnds_brt]

theorem State.mbRetire_balanced_eq {a1 a2 x1} (e : t.mbRetire a1 a2 = (v, x1)) (h : t.brt.Balanced) : v.brt.Balanced := by
  have hv := State.mbRetire_balanced (a1 := a1) (a2 := a2) h
  rwa [e] at hv

theorem State.mbSecurity_balanced {a1 a2 a3} (h : t.brt.Balanced) : (t.mbSecurity a1 a2 a3).1.brt.Balanced := by
  unfold State.mbSecurity
  repeat' first
    | with_reducible assumption | with_reducible refine State.mbZeroize_balanced ?_
    | with_reducible refine State.mbZeroize_balanced_eq ‹_› ?_ | with_reducible refine State.mbImageKey_balanced_eq ‹_› ?_
    | with_reducible refine State.mbRevoke_balanced_eq ‹_› ?_ | with_reducible refine State.mbRetire_balanced ?_
    | with_reducible refine State.mbRetire_balanced_eq ‹_› ?_ | with_reducible refine State.opEnds_balanced_eq ‹_› ?_
    | with_reducible refine State.mbProvision_balanced_eq ‹_› ?_ | with_reducible refine State.mbSvn_balanced_eq ‹_› ?_
    | split | simp only [State.mbImageKey_brt, State.mbRevoke_brt, State.opEnds_brt, State.mbProvision_brt, State.mbSvn_brt]

theorem State.mbSecurity_balanced_eq {a1 a2 a3 x1} (e : t.mbSecurity a1 a2 a3 = (v, x1)) (h : t.brt.Balanced) :
    v.brt.Balanced := by
  have hv := State.mbSecurity_balanced (a1 := a1) (a2 := a2) (a3 := a3) h
  rwa [e] at hv

theorem State.mbRun_balanced {a1 a2 a3 a4} (h : t.brt.Balanced) : (t.mbRun a1 a2 a3 a4).1.brt.Balanced := by
  unfold State.mbRun
  repeat' first
    | with_reducible assumption | with_reducible refine State.mbSecurity_balanced ?_
    | with_reducible refine State.mbSecurity_balanced_eq ‹_› ?_ | with_reducible refine State.mbDebugRead_balanced_eq ‹_› ?_
    | with_reducible refine State.mbRepairClear_balanced_eq ‹_› ?_ | split
    | simp only [State.reject_brt, State.mbDebugRead_brt, State.mbRepairClear_brt]

theorem State.mbRun_balanced_eq {a1 a2 a3 a4 x1} (e : t.mbRun a1 a2 a3 a4 = (v, x1)) (h : t.brt.Balanced) :
    v.brt.Balanced := by
  have hv := State.mbRun_balanced (a1 := a1) (a2 := a2) (a3 := a3) (a4 := a4) h
  rwa [e] at hv

theorem State.mbGo_balanced {a1} (h : t.brt.Balanced) : (t.mbGo a1).brt.Balanced := by
  unfold State.mbGo
  repeat' first
    | with_reducible assumption | with_reducible refine State.mbRun_balanced ?_
    | with_reducible refine State.mbRun_balanced_eq ‹_› ?_ | split | simp only [State.mbAnswer_brt, State.wr_brt]

theorem State.writeMailbox_balanced {a1 a2 a3} (h : t.brt.Balanced) : (t.writeMailbox a1 a2 a3).brt.Balanced := by
  unfold State.writeMailbox
  repeat' first
    | with_reducible assumption | with_reducible refine State.mbGo_balanced ?_ | split
    | simp only [State.wrBit_brt, State.reject_brt, State.plainWrite_brt, State.audit_brt]

theorem State.busWrite_balanced {a1 a2 a3} (h : t.brt.Balanced) : (t.busWrite a1 a2 a3).brt.Balanced := by
  unfold State.busWrite
  repeat' first
    | with_reducible assumption | with_reducible refine State.regAct_balanced ?_
    | with_reducible refine State.writeMailbox_balanced ?_ | with_reducible refine State.access_balanced (fun _ _ => ?_) ?_
    | split | simp only [State.bump_brt, State.writeImgCtrl_brt]

theorem State.abvWrites_balanced {a1 a2 a3 a4} (h : t.brt.Balanced) : (t.abvWrites a1 a2 a3 a4).1.brt.Balanced := by
  induction a4 generalizing t a3 with
  | nil => exact h
  | cons v l ih =>
    simp only [State.abvWrites]
    apply ih
    split
    · exact State.busWrite_balanced h
    · exact (State.bar2Write_brt (t := t)).symm ▸ h

theorem State.abvWrites_balanced_eq {a1 a2 a3 a4 x1} (e : t.abvWrites a1 a2 a3 a4 = (v, x1)) (h : t.brt.Balanced) :
    v.brt.Balanced := by
  have hv := State.abvWrites_balanced (a1 := a1) (a2 := a2) (a3 := a3) (a4 := a4) h
  rwa [e] at hv

theorem State.dropLane_balanced {a1} (h : t.brt.Balanced) : (t.dropLane a1).brt.Balanced := by
  unfold State.dropLane
  repeat' first | with_reducible assumption | with_reducible refine State.setRx_balanced ?_ | simp only [State.setPort_brt]

theorem State.txAbort_balanced {a1} (h : t.brt.Balanced) : (t.txAbort a1).brt.Balanced := by
  unfold State.txAbort
  repeat' first
    | with_reducible assumption | with_reducible refine State.countDiscard_balanced ?_
    | with_reducible refine State.ledgerEvent_balanced ?_ | split
    | simp only [State.dropPkt_brt, State.setPort_brt, State.setCrossing_brt, State.freeHold_brt]

theorem State.loseLane_balanced {a1} (h : t.brt.Balanced) : (t.loseLane a1).brt.Balanced := by
  unfold State.loseLane
  repeat' first
    | with_reducible assumption | with_reducible refine State.dropLane_balanced ?_
    | with_reducible refine State.txAbort_balanced ?_ | with_reducible refine State.foldl_balanced (fun _ _ _ => ?_) ?_
    | with_reducible refine State.foldl_fst_balanced (fun _ _ _ => ?_) ?_ | split
    | simp only [State.setCrossing_brt, State.setDom_brt]

theorem State.domainsOff_balanced (h : t.brt.Balanced) : t.domainsOff.brt.Balanced := by
  unfold State.domainsOff
  repeat' first
    | with_reducible assumption | with_reducible refine State.loseLane_balanced ?_
    | with_reducible refine State.foldl_balanced (fun _ _ _ => ?_) ?_
    | with_reducible refine State.foldl_fst_balanced (fun _ _ _ => ?_) ?_ | split
    | simp only [State.emittersOff_brt, State.darkQuadrant_brt]

theorem State.coreShutdown_balanced (h : t.brt.Balanced) : t.coreShutdown.brt.Balanced := by
  unfold State.coreShutdown
  repeat' first
    | with_reducible assumption | with_reducible refine State.halt_balanced ?_
    | with_reducible refine State.domainsOff_balanced ?_

theorem State.loseCore_balanced {a1} (h : t.brt.Balanced) : (t.loseCore a1).brt.Balanced := by
  unfold State.loseCore
  repeat' first
    | with_reducible assumption | with_reducible refine State.loseLane_balanced ?_
    | simp only [State.abandonDrains_brt, State.setDom_brt]

theorem State.loseDomain_balanced {a1} (h : t.brt.Balanced) : (t.loseDomain a1).brt.Balanced := by
  unfold State.loseDomain
  repeat' first
    | with_reducible assumption | with_reducible refine State.loseLane_balanced ?_
    | with_reducible refine State.loseCore_balanced ?_ | split
    | simp only [State.loseLasers_brt, State.loseCtl_brt, State.setDom_brt, State.darkQuadrant_brt]

theorem State.powerOff_balanced : t.powerOff.brt.Balanced :=
  State.powerDown_balanced (t := t.cutFuse)

theorem State.domainPowerLoss_balanced {a1} (h : t.brt.Balanced) : (t.domainPowerLoss a1).brt.Balanced := by
  unfold State.domainPowerLoss
  repeat' first
    | with_reducible assumption | with_reducible refine State.loseDomain_balanced ?_
    | with_reducible exact State.powerOff_balanced | split | simp only [State.raiseSys_brt, State.raisePwr_brt]

theorem State.fuseDone_balanced {a1} (h : t.brt.Balanced) : (t.fuseDone a1).1.brt.Balanced := by
  unfold State.fuseDone
  repeat' first | with_reducible assumption | with_reducible refine State.halt_balanced ?_ | split

theorem State.fuseDone_balanced_eq {a1 x1 x2 x3} (e : t.fuseDone a1 = (v, x1, x2, x3)) (h : t.brt.Balanced) :
    v.brt.Balanced := by
  have hv := State.fuseDone_balanced (a1 := a1) h
  rwa [e] at hv

theorem State.fuseEnd_balanced (h : t.brt.Balanced) : t.fuseEnd.brt.Balanced := by
  unfold State.fuseEnd
  repeat' first
    | with_reducible assumption | with_reducible refine State.fuseDone_balanced ?_
    | with_reducible refine State.fuseDone_balanced_eq ‹_› ?_ | with_reducible refine State.restartIfReady_balanced ?_
    | split | simp only [State.auditOp_brt, State.answerTo_brt]

theorem State.holdupExpiry_balanced (h : t.brt.Balanced) : t.holdupExpiry.brt.Balanced := by
  unfold State.holdupExpiry
  repeat' first | with_reducible assumption | with_reducible exact State.powerOff_balanced | split

theorem State.smpMailbox_balanced {a1 a2} (h : t.brt.Balanced) : (t.smpMailbox a1 a2).brt.Balanced := by
  unfold State.smpMailbox
  repeat' first
    | with_reducible assumption | with_reducible refine State.mbRun_balanced ?_
    | with_reducible refine State.mbRun_balanced_eq ‹_› ?_ | split | simp only [State.smpEnd_brt, State.smpBegin_brt]

theorem State.mailbox_balanced {a1 a2 a3} (h : t.brt.Balanced) : (t.mailbox a1 a2 a3).brt.Balanced := by
  unfold State.mailbox
  repeat' first
    | with_reducible assumption | with_reducible refine State.smpMailbox_balanced ?_
    | with_reducible refine State.writeMailbox_balanced ?_ | split
    | simp only [State.bump_brt, State.smpEnd_brt, State.wrBit_brt, State.putMbData_brt, State.smpBegin_brt]

theorem State.picShutdown_balanced (h : t.brt.Balanced) : t.picShutdown.brt.Balanced := by
  unfold State.picShutdown
  repeat' first
    | with_reducible assumption | with_reducible refine State.halt_balanced ?_
    | simp only [State.emittersOff_brt, State.picSettle_brt]

theorem State.pwrEnFall_balanced (h : t.brt.Balanced) : t.pwrEnFall.brt.Balanced := by
  unfold State.pwrEnFall
  repeat' first | with_reducible assumption | with_reducible refine State.beginRestart_balanced ?_ | split

theorem State.safeExit_balanced (h : t.brt.Balanced) : t.safeExit.brt.Balanced := by
  unfold State.safeExit
  repeat' first | with_reducible assumption | with_reducible refine State.endSafeHold_balanced ?_ | split

theorem State.shutdownAct_balanced {a1} (h : t.brt.Balanced) : (t.shutdownAct a1).brt.Balanced := by
  unfold State.shutdownAct
  repeat' first
    | with_reducible assumption | with_reducible refine State.coreShutdown_balanced ?_
    | with_reducible refine State.loseDomain_balanced ?_ | with_reducible refine State.picShutdown_balanced ?_ | split
    | simp only [State.raiseThm_brt]

theorem State.smpWrite_balanced {a1 a2} (h : t.brt.Balanced) : (t.smpWrite a1 a2).brt.Balanced := by
  unfold State.smpWrite
  repeat' first
    | with_reducible assumption | with_reducible refine State.abvWrites_balanced ?_
    | with_reducible refine State.abvWrites_balanced_eq ‹_› ?_ | split | simp only [State.smpEnd_brt, State.smpBegin_brt]

theorem State.smpExecute_balanced {a1 a2} (h : t.brt.Balanced) : (t.smpExecute a1 a2).brt.Balanced := by
  unfold State.smpExecute
  repeat' first
    | with_reducible assumption | with_reducible refine State.smpWrite_balanced ?_
    | with_reducible refine State.smpMailbox_balanced ?_ | split
    | simp only [State.smpEnd_brt, State.smpBegin_brt, State.smpRead_brt]

theorem State.smpFrame_balanced {a1} (h : t.brt.Balanced) : (t.smpFrame a1).brt.Balanced := by
  unfold State.smpFrame
  repeat' first
    | with_reducible assumption | with_reducible refine State.smpExecute_balanced ?_ | split
    | simp only [State.bump_brt, State.smpPoll_brt, State.smpBad_brt]

theorem State.throttleOn_balanced {a1} (h : t.brt.Balanced) : (t.throttleOn a1).brt.Balanced := by
  unfold State.throttleOn
  repeat' first
    | with_reducible assumption | with_reducible refine State.abortFull_balanced ?_ | split
    | simp only [State.irqIf_brt, State.throttleStep_brt, State.raiseThm_brt]

theorem State.thresholdAssert_balanced {a1 a2} (h : t.brt.Balanced) : (t.thresholdAssert a1 a2).brt.Balanced := by
  unfold State.thresholdAssert
  repeat' first
    | with_reducible assumption | with_reducible refine State.throttleOn_balanced ?_
    | with_reducible refine State.shutdownAct_balanced ?_ | split
    | simp only [State.setZone_brt, State.irqIf_brt, State.irq_brt, State.raiseThm_brt, State.thermalEvent_brt]

theorem State.vinCollapse_balanced (h : t.brt.Balanced) : t.vinCollapse.brt.Balanced := by
  unfold State.vinCollapse
  repeat' first | with_reducible assumption | with_reducible refine State.domainsOff_balanced ?_ | split

theorem State.zeroEnd_balanced {a1} (h : t.brt.Balanced) : (t.zeroEnd a1).brt.Balanced := by
  unfold State.zeroEnd
  repeat' first
    | with_reducible assumption | with_reducible refine State.halt_balanced ?_
    | with_reducible refine State.restartIfReady_balanced ?_ | split | simp only [State.audit_brt]

theorem State.zeroizePin_balanced {a1} (h : t.brt.Balanced) : (t.zeroizePin a1).brt.Balanced := by
  unfold State.zeroizePin
  repeat' first | with_reducible assumption | with_reducible refine State.trigger_balanced ?_ | split

theorem State.applyPair_balanced {a1 a2} (h : t.brt.Balanced) : (t.applyPair a1 a2).brt.Balanced := by
  unfold State.applyPair
  repeat' first
    | with_reducible assumption | with_reducible refine State.regAct_balanced ?_ | split
    | simp only [State.bump_brt, State.plainWrite_brt]

theorem State.applySections_balanced {a1 a2} (h : t.brt.Balanced) : (t.applySections a1 a2).brt.Balanced := by
  unfold State.applySections
  repeat' first
    | with_reducible assumption | with_reducible refine State.applyPair_balanced ?_
    | with_reducible refine State.foldl_balanced (fun _ _ _ => ?_) ?_
    | with_reducible refine State.foldl_fst_balanced (fun _ _ _ => ?_) ?_ | split
    | simp only [State.applyCalendar_brt, State.applySecurity_brt, State.applyUcodeAt_brt, State.applyQueuesAt_brt,
        State.resetRwl_brt, State.applyAuth_brt, State.applyOverlay_brt, State.applyClocks_brt, State.applyPort_brt]

theorem State.with_img_brt {x : ImgSt} : State.brt { t with img := x } = t.brt :=
  (OnlyParts.set_img (P := [.img]) (List.mem_singleton_self _) .refl).brt rfl

theorem State.applyEnd_balanced (h : t.brt.Balanced) : t.applyEnd.brt.Balanced := by
  unfold State.applyEnd
  split
  · rw [State.with_img_brt]
    refine State.foldl_balanced (fun u k hu => ?_) ?_
    · rwa [State.retrainChanged_brt]
    · rw [State.applyRepairMap_brt]
      exact State.applySections_balanced h
  · exact h

theorem State.boot_balanced {a1} (h : t.brt.Balanced) : (t.boot a1).brt.Balanced := by
  unfold State.boot
  repeat' first
    | with_reducible assumption | with_reducible refine State.applySections_balanced ?_
    | simp only [State.stepEnd_brt, State.setGState_brt]

theorem State.reapply_balanced {a1} (h : t.brt.Balanced) : (t.reapply a1).brt.Balanced := by
  unfold State.reapply
  repeat' first
    | with_reducible assumption | with_reducible refine State.applyPair_balanced ?_
    | with_reducible refine State.foldl_balanced (fun _ _ _ => ?_) ?_
    | with_reducible refine State.foldl_fst_balanced (fun _ _ _ => ?_) ?_ | split
    | simp only [State.applyUcodeAt_brt, State.applyLane_brt, State.applyQueuesAt_brt, State.applyPort_brt]

theorem State.coreRestarts_balanced {a1 a2} (h : t.brt.Balanced) : (t.coreRestarts a1 a2).brt.Balanced := by
  unfold State.coreRestarts
  refine State.epochsOf_balanced (.others ?_)
  rw [State.fillMeters_brt]
  refine State.reapply_balanced ?_
  rw [State.trainStack_brt, State.applyPages_brt, State.setChip_brt, State.coreReset_brt]
  exact State.foldl_balanced (fun u _ hu => by rwa [State.repairPage_brt]) h

theorem State.coreUp_balanced {a1} (h : t.brt.Balanced) : (t.coreUp a1).brt.Balanced := by
  unfold State.coreUp
  repeat' first
    | with_reducible assumption | with_reducible refine State.chipletLoss_balanced ?_ | split | simp only [State.setDom_brt]

theorem State.trainingEnds_balanced {a1} (h : t.brt.Balanced) : (t.trainingEnds a1).brt.Balanced := by
  unfold State.trainingEnds
  repeat' first
    | with_reducible assumption | with_reducible refine State.zeroize_balanced ?_
    | with_reducible refine State.foldl_balanced (fun _ _ _ => ?_) ?_
    | with_reducible refine State.foldl_fst_balanced (fun _ _ _ => ?_) ?_ | split
    | simp only [State.repairPage_brt, State.trainStack_brt, State.applyRepairMap_brt, State.stepEnd_brt]

theorem State.dramTrained_balanced {a1} (h : t.brt.Balanced) : (t.dramTrained a1).brt.Balanced := by
  unfold State.dramTrained
  repeat' first
    | with_reducible assumption | with_reducible refine State.coreRestarts_balanced ?_
    | with_reducible refine State.trainingEnds_balanced ?_ | split

theorem State.holdStep_balanced {a1} (h : t.brt.Balanced) : (t.holdStep a1).brt.Balanced := by
  unfold State.holdStep
  repeat' first
    | with_reducible assumption | with_reducible refine State.beginSafeHold_balanced ?_
    | with_reducible refine State.setHold_balanced ?_ | split | dsimp only

theorem State.guard_balanced {a1} (h : t.brt.Balanced) : (t.guard a1).brt.Balanced := by
  unfold State.guard
  repeat' first
    | with_reducible assumption | with_reducible refine State.holdStep_balanced ?_
    | with_reducible refine State.launch_balanced ?_ | with_reducible refine State.mirrorStep_balanced ?_
    | with_reducible refine State.takeSlot_balanced_eq ‹_› ?_ | with_reducible refine State.creditStep_balanced ?_
    | with_reducible refine State.boundaries_balanced ?_
    | simp only [State.connectSlot_brt, State.dueParks_brt, State.guardSpares_brt, State.takeSlot_brt,
        State.applySelects_brt, State.applyStage_brt, State.compareLevels_brt, State.applyLevels0_brt]

theorem State.slotVerified_balanced {a1} (h : t.brt.Balanced) : (t.slotVerified a1).brt.Balanced := by
  unfold State.slotVerified
  repeat' first
    | with_reducible assumption | with_reducible refine State.boot_balanced ?_ | split
    | simp only [State.verifyFails_brt, State.audit_brt, State.nextVerify_brt]

theorem State.stagedVerified_balanced (h : t.brt.Balanced) : t.stagedVerified.brt.Balanced := by
  unfold State.stagedVerified
  repeat' first
    | with_reducible assumption | with_reducible refine State.boot_balanced ?_ | split
    | simp only [State.verifyFails_brt, State.imgIrq_brt, State.audit_brt]

theorem State.imageVerified_balanced (h : t.brt.Balanced) : t.imageVerified.brt.Balanced := by
  unfold State.imageVerified
  repeat' first
    | with_reducible assumption | with_reducible refine State.slotVerified_balanced ?_
    | with_reducible refine State.stagedVerified_balanced ?_ | split

theorem State.stepEight_balanced {a1} (h : t.brt.Balanced) : (t.stepEight a1).brt.Balanced := by
  unfold State.stepEight
  repeat' first
    | with_reducible assumption | with_reducible refine State.beginFull_balanced ?_
    | with_reducible refine State.foldl_balanced (fun _ _ _ => ?_) ?_
    | with_reducible refine State.foldl_fst_balanced (fun _ _ _ => ?_) ?_ | split
    | simp only [State.loadLatest_brt, State.calAdc_brt, State.updateCalTemp_brt, State.checkSets_brt, State.stepEnd_brt,
        State.enterLocking_brt, State.interpolate_brt]

theorem State.nominal_balanced {a1} (h : t.brt.Balanced) : (t.nominal a1).brt.Balanced := by
  unfold State.nominal
  repeat' first
    | with_reducible assumption | with_reducible refine State.stepEight_balanced ?_
    | with_reducible refine State.foldl_balanced (fun _ _ _ => ?_) ?_
    | with_reducible refine State.foldl_fst_balanced (fun _ _ _ => ?_) ?_ | split
    | simp only [State.emittersNominal_brt, State.stepEnd_brt]

theorem State.powerGood_balanced {a1} (h : t.brt.Balanced) : (t.powerGood a1).brt.Balanced := by
  unfold State.powerGood
  repeat' first
    | with_reducible assumption | with_reducible refine State.coreUp_balanced ?_ | split | simp only [State.powerStep_brt]

theorem State.staysOff_balanced {a1} (h : t.brt.Balanced) : (t.staysOff a1).brt.Balanced := by
  unfold State.staysOff
  repeat' first
    | with_reducible assumption | with_reducible refine State.loseLane_balanced ?_ | split
    | simp only [State.loseLasers_brt, State.raiseSys_brt]

theorem State.powerTimeout_balanced {a1} (h : t.brt.Balanced) : (t.powerTimeout a1).brt.Balanced := by
  unfold State.powerTimeout
  repeat' first
    | with_reducible assumption | with_reducible refine State.staysOff_balanced ?_ | split
    | simp only [State.powerStep_brt, State.raisePwr_brt]

theorem State.switchDiscard_balanced {a1} (h : t.brt.Balanced) : (t.switchDiscard a1).brt.Balanced := by
  unfold State.switchDiscard
  repeat' first | with_reducible assumption | with_reducible refine State.discardIngress_balanced ?_ | split

theorem State.restructureSwitch_balanced (h : t.brt.Balanced) : t.restructureSwitch.brt.Balanced := by
  unfold State.restructureSwitch
  generalize t.switchDue = due, t.img.staged = staged
  cases due
  · exact h
  · cases staged
    · exact h
    · rw [State.imgEnds_brt, State.startAll_brt, State.dropPorts_brt, State.setGState_brt]
      refine State.foldl_balanced (fun _ _ => State.switchDiscard_balanced) ?_
      split
      · rw [State.switchCalendar_brt]
        exact State.epochsAll_balanced (by rwa [State.keepTenants_brt])
      · exact State.epochsAll_balanced (by rwa [State.keepTenants_brt])

theorem State.slotBoundary_balanced {a1} (h : t.brt.Balanced) : (t.slotBoundary a1).brt.Balanced := by
  unfold State.slotBoundary
  repeat' first
    | with_reducible assumption | with_reducible refine State.guard_balanced ?_ | split
    | simp only [State.atPhase_brt, State.align_brt, State.slotCalendar_brt, State.trialsEnd_brt, State.pipeline_brt,
        State.registerReps_brt, State.endSlot_brt, State.nextSlot_brt]

/-! ### Every command keeps them -/

/-- The outcome of a command is a next state in which the ledgers balance. -/
def Balances (o : Host.Outcome State Fault Refusal) : Prop := ∃ t, o = .next t ∧ t.brt.Balanced

theorem Balances.next (h : t.brt.Balanced) : Balances (.next t) := ⟨t, rfl, h⟩

/-- A command that leaves burst transport alone. -/
theorem Balances.off {P : List Part} (h : s.brt.Balanced) (e : OnlyParts P s t) (hP : P.contains .brt = false) :
    Balances (.next t) :=
  .next (e.balanced h hP)

theorem Balances.access {p : CmdPort} {a cls : Nat} {act : State → State} (h : s.brt.Balanced)
    (hact : ∀ u, u.brt.Balanced → (act u).brt.Balanced) : Balances (.next (s.access p a cls act)) :=
  .next (State.access_balanced hact h)

/-- A write whose effect leaves burst transport alone. -/
theorem Balances.accessOff {P : List Part} {p : CmdPort} {a cls : Nat} {act : State → State} (h : s.brt.Balanced)
    (e : ∀ u, OnlyParts P u (act u)) (hP : P.contains .brt = false) : Balances (.next (s.access p a cls act)) :=
  .access h fun u hu => (e u).balanced hu hP

/-- A read whose effect leaves burst transport alone. -/
theorem Balances.accessReadOff {P : List Part} {p : CmdPort} {a : Nat} {act : State → State} (h : s.brt.Balanced)
    (e : ∀ u, OnlyParts P u (act u)) (hP : P.contains .brt = false) : Balances (.next (s.accessRead p a act)) := by
  refine .next ?_
  have hj : (s.judge p a 0).2.brt.Balanced := (State.judge_parts (List.Subset.refl _) .refl).balanced h rfl
  unfold State.accessRead
  dsimp only
  split
  · exact (e _).balanced hj hP
  · exact (State.setRd_parts (List.Subset.refl _) .refl).balanced hj rfl

/-- Every command keeps the ledgers of all chiplets in balance. -/
theorem exec_balances {i : Instr} (h : s.brt.Balanced) : Balances (exec i s) := by
  cases i with
  | loopSampleBoundary => exact .off h (State.loopSampleBoundary_parts (List.Subset.refl _) .refl) rfl
  | tapCapture => exact .off h (State.tapCapture_parts (List.Subset.refl _) .refl) rfl
  | tapReading => exact .off h (State.tapReading_parts (List.Subset.refl _) .refl) rfl
  | elementIteration => exact .off h (State.elementIteration_parts (List.Subset.refl _) .refl) rfl
  | selectorIteration => exact .off h (State.selectorIteration_parts (List.Subset.refl _) .refl) rfl
  | overrun => exact .off h (State.overrun_parts (List.Subset.refl _) .refl) rfl
  | spareEngineTakeover => exact .off h (State.spareEngineTakeover_parts (List.Subset.refl _) .refl) rfl
  | acqTimeout => exact .off h (State.acqTimeout_parts (List.Subset.refl _) .refl) rfl
  | coeffBankWrite => exact .accessOff h (fun _ => State.writeCoeff_parts (List.Subset.refl _) .refl) rfl
  | swapReq | swapCancel => exact .accessOff h (fun _ => State.writeSwapCtrl_parts (List.Subset.refl _) .refl) rfl
  | coeffBankSwap => exact .off h (State.coeffBankSwap_parts (List.Subset.refl _) .refl) rfl
  | targetWrite => exact .accessOff h (fun _ => State.writeTarget_parts (List.Subset.refl _) .refl) rfl
  | excitationWrite | meterProfileHold | adjWrite =>
    exact .accessOff h (fun _ => State.plainWrite_parts (List.Subset.refl _) .refl) rfl
  | modeRequest => exact .accessOff h (fun _ => State.writeModeReq_parts (List.Subset.refl _) .refl) rfl
  | slewStep =>
    exact .off ((State.slewStep_parts (List.Subset.refl _) .refl).balanced h rfl)
      (State.picSettle_parts (List.Subset.refl _) .refl) rfl
  | complianceSet => exact .off h (State.complianceSet_parts (List.Subset.refl _) .refl) rfl
  | openloadSet => exact .off h (State.openloadSet_parts (List.Subset.refl _) .refl) rfl
  | openloadClear => exact .off h (State.openloadClear_parts (List.Subset.refl _) .refl) rfl
  | rangeRequest => exact .accessOff h (fun _ => State.writeRangeReq_parts (List.Subset.refl _) .refl) rfl
  | rangeSwitch => exact .off h (State.rangeSwitch_parts (List.Subset.refl _) .refl) rfl
  | rangeRampBack => exact .off h (State.rangeRampBack_parts (List.Subset.refl _) .refl) rfl
  | rangeChangeEnd => exact .off h (State.rangeChangeEnd_parts (List.Subset.refl _) .refl) rfl
  | sliceCorrection => exact .off h (State.sliceEvent_parts (List.Subset.refl _) .refl) rfl
  | directResult => exact .off h (State.directResult_parts (List.Subset.refl _) .refl) rfl
  | auConfigWrite => exact .accessOff h (fun _ => State.writeAuCfg_parts (List.Subset.refl _) .refl) rfl
  | auConfigApply => exact .off h (State.auConfigApply_parts (List.Subset.refl _) .refl) rfl
  | adcDataRead => exact .accessReadOff h (fun _ => State.readAdcData_parts (List.Subset.refl _) .refl) rfl
  | auFailed => exact .off h (State.auJudge_parts (List.Subset.refl _) .refl) rfl
  | slotBoundary => exact .next (State.slotBoundary_balanced h)
  | receiverPhaseLoad => exact .next (State.phaseLoad_balanced h)
  | preambleEnd => exact .next (State.preambleEnd_balanced h)
  | guardEnd => exact .next (State.guardEnd_balanced h)
  | matrixRoute => exact .off h (State.matrixRoute_parts (List.Subset.refl _) .refl) rfl
  | finalListDelivery => exact .next (State.finalListDelivery_balanced h)
  | rotationReroute => exact .off h (State.rotationReroute_parts (List.Subset.refl _) .refl) rfl
  | parkRequest => exact .accessOff h (fun _ => State.writeParkReq_parts (List.Subset.refl _) .refl) rfl
  | parkEffect => exact .off h (State.parkEffect_parts (List.Subset.refl _) .refl) rfl
  | emitterFailed => exact .off h (State.emitterFailed_parts (List.Subset.refl _) .refl) rfl
  | spareTakeover => exact .off h (State.spareTakeoverNow_parts (List.Subset.refl _) .refl) rfl
  | spareRelease => exact .off h (State.spareReleaseNow_parts (List.Subset.refl _) .refl) rfl
  | forceSpare => exact .accessOff h (fun _ => State.writeLbCfg_parts (List.Subset.refl _) .refl) rfl
  | lightReturn => exact .off h (State.lightReturn_parts (List.Subset.refl _) .refl) rfl
  | permRead => exact .accessOff h (fun _ => State.permRead_parts (List.Subset.refl _) .refl) rfl
  | calInterpolation => exact .off h (State.calInterpolation_parts (List.Subset.refl _) .refl) rfl
  | startFull | calStore | calDelete => exact .access h fun _ => State.writeCalCmd_balanced
  | fullCalibrationStep => exact .off h (State.fullStep_parts (List.Subset.refl _) .refl) rfl
  | fullCalibrationDone => exact .off h (State.fullDone_parts (List.Subset.refl _) .refl) rfl
  | trialCapture => exact .off h (State.trialCapture_parts (List.Subset.refl _) .refl) rfl
  | stageResultApply => exact .off h (State.stageApply_parts (List.Subset.refl _) .refl) rfl
  | storeComplete =>
    exact .next (State.restartIfReady_balanced ((State.storeComplete_parts (List.Subset.refl _) .refl).balanced h rfl))
  | setRead => exact .accessOff h (fun _ => State.writeSetRead_parts (List.Subset.refl _) .refl) rfl
  | prismStart => exact .off h (State.prismStart_parts (List.Subset.refl _) .refl) rfl
  | templateWrite | calLenWrite => exact .accessOff h (fun _ => State.calWrite_parts (List.Subset.refl _) .refl) rfl
  | changeReq | changeCancel => exact .accessOff h (fun _ => State.writeChangeCtrl_parts (List.Subset.refl _) .refl) rfl
  | calendarTakeover => exact .off h (State.calendarTakeover_parts (List.Subset.refl _) .refl) rfl
  | notice => exact .next (State.notice_balanced h)
  | burstVerdict => exact .next (State.burstVerdict_balanced h)
  | ack => exact .next (State.ack_balanced h)
  | nack => exact .next (State.nack_balanced h)
  | ackTimeout => exact .next (State.ackTimeout_balanced h)
  | retransmitRead => exact .next (State.retransmitRead_balanced h)
  | gapRequest => exact .next (State.gapRequest_balanced h)
  | gapTimeout => exact .next (State.gapTimeout_balanced h)
  | gap => exact .next (State.gap_balanced h)
  | chipletLoss => exact .next (State.chipletLoss_balanced h)
  | snapshotReq => exact .access h fun _ => State.writeSnapCtrl_balanced
  | snapshotLatch => exact .next (State.snapshotLatch_balanced h)
  | phaseRead => exact .access h fun _ => State.writePhaseSel_balanced
  | frameReceived => exact .next (State.frameReceived_balanced h)
  | pauseExpiry => exact .off h (State.pauseExpiry_parts (List.Subset.refl _) .refl) rfl
  | commandReply => exact .off h (State.commandReply_parts (List.Subset.refl _) .refl) rfl
  | linkUp => exact .off h (State.linkComesUp_parts (List.Subset.refl _) .refl) rfl
  | trainingRetry => exact .off h (State.trainingRetry_parts (List.Subset.refl _) .refl) rfl
  | linkDown => exact .off h (State.linkDown_parts (List.Subset.refl _) .refl) rfl
  | retrain => exact .accessOff h (fun _ => State.writePortCtrl_parts (List.Subset.refl _) .refl) rfl
  | linkFaultReceived => exact .off h (State.linkFault_parts (List.Subset.refl _) .refl) rfl
  | laneRemap => exact .accessOff h (fun _ => State.writeRemap_parts (List.Subset.refl _) .refl) rfl
  | remapSwitch => exact .off h (State.remapSwitch_parts (List.Subset.refl _) .refl) rfl
  | pfcFrameSend => exact .off h (State.pfcSend_parts (List.Subset.refl _) .refl) rfl
  | pfcRefresh => exact .off h (State.pfcRefresh_parts (List.Subset.refl _) .refl) rfl
  | frameTransmitStart => exact .next (State.transmitStart_balanced h)
  | frameSent => exact .off h (State.frameSent_parts (List.Subset.refl _) .refl) rfl
  | parseDispatch => exact .off h (State.parseDispatch_parts (List.Subset.refl _) .refl) rfl
  | parsePassEnd => exact .next (State.parsePassEnd_balanced h)
  | lookup => exact .next (State.lookup_balanced h)
  | bankSwapReq => exact .accessOff h (fun _ => State.writeBankCtrl_parts (List.Subset.refl _) .refl) rfl
  | ruleBankSwap => exact .off h (State.ruleBankSwap_parts (List.Subset.refl _) .refl) rfl
  | tbwWrite =>
    unfold exec execTbwWrite
    dsimp only
    split
    · exact .off h (State.reject_parts (List.Subset.refl _) .refl) rfl
    · split
      · exact .off h (State.bump_parts (List.Subset.refl _) .refl) rfl
      · exact .off h (State.tblWrite_parts (List.Subset.refl _) .refl) rfl
  | traceArm => exact .accessOff h (fun _ => State.writeTrace_parts (List.Subset.refl _) .refl) rfl
  | ucodeSwap => exact .off h (State.ucodeSwap_parts (List.Subset.refl _) .refl) rfl
  | refill | meterWrite | meterRead => exact .accessOff h (fun _ => State.writeMeterSel_parts (List.Subset.refl _) .refl) rfl
  | meterProfileWrite => exact .accessOff h (fun _ => State.writeProfile0_parts (List.Subset.refl _) .refl) rfl
  | scrubRead => exact .next (State.scrub_balanced h)
  | pchReplace => exact .accessOff h (fun _ => State.writePchReplace_parts (List.Subset.refl _) .refl) rfl
  | pchCopyDone => exact .next (State.pchCopyDone_balanced h)
  | zeroizationDone => exact .next (State.zeroEnd_balanced h)
  | creditWithdraw => exact .next (State.creditWithdraw_balanced h)
  | creditRelease => exact .next (State.creditRelease_balanced h)
  | shaperCfgWrite => exact .accessOff h (fun _ => State.writeShaper_parts (List.Subset.refl _) .refl) rfl
  | shaperHoldWrite => exact .accessOff h (fun _ => State.writeLead_parts (List.Subset.refl _) .refl) rfl
  | gateListWrite => exact .accessOff h (fun _ => State.writeGateList_parts (List.Subset.refl _) .refl) rfl
  | gateReq | gateCancel | gateEnWrite => exact .accessOff h (fun _ => State.writeGateCtrl_parts (List.Subset.refl _) .refl) rfl
  | gateTakeover => exact .next (State.gateTakeover_balanced h)
  | gateEntryAdvance => exact .off h (State.gateAdvance_parts (List.Subset.refl _) .refl) rfl
  | tsLoad | tsStep => exact .accessOff h (fun _ => State.writeTimCmd_parts (List.Subset.refl _) .refl) rfl
  | selWrite => exact .accessOff h (fun _ => State.writeTimCtrl_parts (List.Subset.refl _) .refl) rfl
  | slewDone => exact .off h (State.slewDone_parts (List.Subset.refl _) .refl) rfl
  | timeReadLatch => exact .accessReadOff h (fun _ => State.readSecLo_parts (List.Subset.refl _) .refl) rfl
  | fifoRead => exact .accessReadOff h (fun _ => State.readFifo_parts (List.Subset.refl _) .refl) rfl
  | loupeArm | loupeStop | loupeForce => exact .accessOff h (fun _ => State.writeLoupeCtrl_parts (List.Subset.refl _) .refl) rfl
  | rdPtrWrite => exact .accessOff h (fun _ => State.writeRdPtr_parts (List.Subset.refl _) .refl) rfl
  | settleDone => exact .off h (State.settleDone_parts (List.Subset.refl _) .refl) rfl
  | prefillDone =>
    exact .off ((State.loupeFeed_parts (List.Subset.refl _) .refl).balanced h rfl)
      (State.prefillDone_parts (List.Subset.refl _) .refl) rfl
  | triggerPoint =>
    exact .off ((State.loupeFeed_parts (List.Subset.refl _) .refl).balanced h rfl)
      (State.fire_parts (List.Subset.refl _) .refl) rfl
  | recordWritten =>
    exact .off ((State.loupeFeed_parts (List.Subset.refl _) .refl).balanced h rfl)
      (State.recordWritten_parts (List.Subset.refl _) .refl) rfl
  | holdoffEnd =>
    exact .off ((State.loupeFeed_parts (List.Subset.refl _) .refl).balanced h rfl)
      (State.holdoffEnd_parts (List.Subset.refl _) .refl) rfl
  | lendLimit =>
    exact .off ((State.loupeFeed_parts (List.Subset.refl _) .refl).balanced h rfl)
      (State.lendLimit_parts (List.Subset.refl _) .refl) rfl
  | trigAssert => exact .off h (State.trigAssert_parts (List.Subset.refl _) .refl) rfl
  | trigRelease => exact .off h (State.trigRelease_parts (List.Subset.refl _) .refl) rfl
  | trigSense =>
    exact .off ((State.atPhase_parts (List.Subset.refl _) .refl).balanced h rfl)
      (State.trigSense_parts (List.Subset.refl _) .refl) rfl
  | arbitration => exact .off h (State.arbitrate_parts (List.Subset.refl _) .refl) rfl
  | switchoverStart => exact .next (State.switchoverStart_balanced h)
  | switchoverGapEnd => exact .off h (State.gapEnds_parts (List.Subset.refl _) .refl) rfl
  | controllerLoss => exact .off h (State.controllerLoss_parts (List.Subset.refl _) .refl) rfl
  | redSwitch | redIsolate | redSleep | redReturn | redTest =>
    exact .accessOff h (fun _ => State.writeRedCmd_parts (List.Subset.refl _) .refl) rfl
  | copyReceived => exact .off h (State.copyReceived_parts (List.Subset.refl _) .refl) rfl
  | copyLate => exact .off h (State.copyLate_parts (List.Subset.refl _) .refl) rfl
  | suspectClear => exact .off h (State.suspectClear_parts (List.Subset.refl _) .refl) rfl
  | bulkDone => exact .off h (State.bulkDone_parts (List.Subset.refl _) .refl) rfl
  | deltaDone => exact .off h (State.deltaDone_parts (List.Subset.refl _) .refl) rfl
  | shadowDone => exact .off h (State.shadowDone_parts (List.Subset.refl _) .refl) rfl
  | standbyEngineTest => exact .off h (State.engineTest_parts (List.Subset.refl _) .refl) rfl
  | controllerScrub => exact .off h (State.controllerScrub_parts (List.Subset.refl _) .refl) rfl
  | selftestDone => exact .off h (State.selftestDone_parts (List.Subset.refl _) .refl) rfl
  | controllerBistDone => exact .next (State.bistDone_balanced h)
  | faultReport => exact .off h (State.faultReport_parts (List.Subset.refl _) .refl) rfl
  | safeStateEntry => exact .off h (State.safeEntry_parts (List.Subset.refl _) .refl) rfl
  | faultClear => exact .accessOff h (fun _ => State.writeClear_parts (List.Subset.refl _) .refl) rfl
  | safeStateExit => exact .next (State.safeExit_balanced h)
  | sensorReading => exact .off h (State.sensorReading_parts (List.Subset.refl _) .refl) rfl
  | thresholdAssert => exact .next (State.thresholdAssert_balanced h)
  | thresholdRelease => exact .off h (State.thresholdRelease_parts (List.Subset.refl _) .refl) rfl
  | emitterThrottleStep => exact .off h (State.throttleStep_parts (List.Subset.refl _) .refl) rfl
  | throttleOffPhase => exact .off h (State.setOffPhase_parts (List.Subset.refl _) .refl) rfl
  | nvmWindowOpen => exact .off h (State.nvmOpen_parts (List.Subset.refl _) .refl) rfl
  | thermalRecordWrite => exact .off h (State.thermalWrite_parts (List.Subset.refl _) .refl) rfl
  | stageOpen | stageDone | discard | commit | restructure | abandon | overlay =>
    exact .off h (State.writeImgCtrl_parts (List.Subset.refl _) .refl) rfl
  | stageWrite => exact .off h (State.stageWrite_parts (List.Subset.refl _) .refl) rfl
  | imageVerifyDone => exact .next (State.imageVerified_balanced h)
  | commitDone =>
    exact .next (State.restartIfReady_balanced ((State.commitDone_parts (List.Subset.refl _) .refl).balanced h rfl))
  | drainEnd => exact .off h (State.drainEnd_parts (List.Subset.refl _) .refl) rfl
  | applyEnd => exact .next (State.applyEnd_balanced h)
  | restructureSwitch => exact .next (State.restructureSwitch_balanced h)
  | drainLimitExpiry => exact .off h (State.abandonDrains_parts (List.Subset.refl _) .refl) rfl
  | registerWrite => exact .next (State.busWrite_balanced h)
  | counterLowRead => exact .off h (State.readReg_parts (List.Subset.refl _) .refl) rfl
  | malformedAccess => exact .off h (State.bump_parts (List.Subset.refl _) .refl) rfl
  | pcieReset => exact .off h (State.pcieReset_parts (List.Subset.refl _) .refl) rfl
  | abevoRead | abevoWrite | abevoMailbox | abevoPoll => exact .next (State.smpFrame_balanced h)
  | boundaryScanInstruction bypassOrId =>
    cases bypassOrId
    · exact .off h (State.raiseSys_parts (List.Subset.refl _) .refl) rfl
    · exact .next h
  | jtagDebugAccess => exact .off h (State.jtagAccess_parts (List.Subset.refl _) .refl) rfl
  | mbNop | repairClear | repairRead | debugRead | keyProvision
  | keyRevoke | svnRaise | imageKeySet | zeroize | retire | auditRead =>
    exact .next (State.mailbox_balanced h)
  | fuseOperationDone => exact .next (State.fuseEnd_balanced h)
  | zeroizePin => exact .next (State.zeroizePin_balanced h)
  | auditRecordWrite => exact .off h (State.auditWrite_parts (List.Subset.refl _) .refl) rfl
  | vinRise => exact .off h (State.vinRise_parts (List.Subset.refl _) .refl) rfl
  | aonUp => exact .off h (State.aonUp_parts (List.Subset.refl _) .refl) rfl
  | pllLockHeld => exact .off h (State.pllHeld_parts (List.Subset.refl _) .refl) rfl
  | domainPowerGood => exact .next (State.powerGood_balanced h)
  | domainPowerTimeout => exact .next (State.powerTimeout_balanced h)
  | dramTrainingDone => exact .next (State.dramTrained_balanced h)
  | laserLowPowerEnd => exact .off h (State.lowPowerEnd_parts (List.Subset.refl _) .refl) rfl
  | laserNominal => exact .next (State.nominal_balanced h)
  | lockLimit => exact .off h (State.lockLimit_parts (List.Subset.refl _) .refl) rfl
  | glbRelease | quiesce | resume => exact .accessOff h (fun _ => State.writeGlbCtrl_parts (List.Subset.refl _) .refl) rfl
  | quiesceDone => exact .off h (State.quiesceEnd_parts (List.Subset.refl _) .refl) rfl
  | deviceRestart => exact .access h fun _ => State.writeRestart_balanced
  | domainRestart => exact .accessOff h (fun _ => State.writeDomainCtrl_parts (List.Subset.refl _) .refl) rfl
  | domainRestartFailed => exact .off h (State.restartFailed_parts (List.Subset.refl _) .refl) rfl
  | domainPowerLoss => exact .next (State.domainPowerLoss_balanced h)
  | vinOutOfRange => exact .off h (State.vinBad_parts (List.Subset.refl _) .refl) rfl
  | vinCollapse => exact .next (State.vinCollapse_balanced h)
  | holdupExpiry => exact .next (State.holdupExpiry_balanced h)
  | pwrEnFall => exact .next (State.pwrEnFall_balanced h)
  | pwrEnRise => exact .next h
  | pllUnlock => exact .off h (State.pllUnlock_parts (List.Subset.refl _) .refl) rfl
  | pllRelock => exact .off h (State.pllRelock_parts (List.Subset.refl _) .refl) rfl
  | crossingTransfer => exact .next (State.crossTransfer_balanced h)
  | timescaleTick => exact .off h (State.tick_parts (List.Subset.refl _) .refl) rfl
  | linkFaultEnd => exact .off h (State.linkFaultEnd_parts (List.Subset.refl _) .refl) rfl
  | autoNegotiationDone => exact .off h (State.autoNegDone_parts (List.Subset.refl _) .refl) rfl

/-- Every step keeps the ledgers of all chiplets in balance. -/
theorem step_balanced (hs : s.brt.Balanced) (hst : step s = .next t) : t.brt.Balanced := by
  unfold step at hst
  split at hst
  · cases hst
    exact hs
  · next c rest _ =>
    obtain ⟨u, hu, hb⟩ := exec_balances (i := c) (s := { s with pending := rest }) hs
    cases hu.symm.trans hst
    exact hb

/-- Settles O4: each event of a ledger keeps its identity, and every command either moves the ledgers by such events and copies,
or leaves them alone. -/
theorem ledgersBalance : Obligations.LedgersBalance := by
  unfold Obligations.LedgersBalance Kept
  intro s t hs hst
  exact BrtSt.balanced_iff.1 (step_balanced (BrtSt.balanced_iff.2 hs) hst)

end Sys2Proof.Machine

/-! SUPPORT. Snapshots of the ledgers (R250, R349) and the read of a receiver's phase entry (R225). -/

namespace Sys2Proof.Machine

open Sys2Proof

variable {s : State} {p : CmdPort} {v : Word} {t0 : Nat}

/-! ### SNAPSHOT_REQ (R250) -/

theorem State.plainWrite_snapCtrl_frame : Frame [] [Reg.BRT_SNAP_CTRL] [] s (s.plainWrite p Reg.BRT_SNAP_CTRL v) := by
  rw [State.plainWrite_row rfl rfl rfl]
  exact Frame.refl.wr (by simp)

theorem exec_snapshotReq (h : Permitted s p Reg.BRT_SNAP_CTRL 1) :
    exec (.snapshotReq p v) s = .next (s.writeSnapCtrl p (withBit v 0)) :=
  congrArg Host.Outcome.next (State.access_permitted h)

/-- A request with none pending waits from its acceptance. -/
theorem State.writeSnapCtrl_free (h : s.brt.snapReq = none) : s.writeSnapCtrl p (withBit v 0) =
    ({ s.plainWrite p Reg.BRT_SNAP_CTRL (withBit v 0) with
      brt := { s.brt with snapReq := some s.tim.dt.units } }).wrBit Reg.BRT_SNAP_CTRL 0 true := by
  have htim : (s.plainWrite p Reg.BRT_SNAP_CTRL (withBit v 0)).tim = s.tim := State.plainWrite_snapCtrl_frame.1 .tim (by decide)
  simp [State.writeSnapCtrl, bit_withBit, htim, h]

/-- A request with one pending is refused. -/
theorem State.writeSnapCtrl_pending (h : s.brt.snapReq ≠ none) : s.writeSnapCtrl p (withBit v 0) =
    ((s.plainWrite p Reg.BRT_SNAP_CTRL (withBit v 0)).wrBit Reg.BRT_SNAP_CTRL 2 true).irqIf Reg.BRT_CTRL 2 11 := by
  simp [State.writeSnapCtrl, bit_withBit, Option.isSome_iff_ne_none.2 h]

/-! ### SNAPSHOT_LATCH (R250, R349) -/

/-- Burst transport after a latch: every ledger and every credit counter, with the number of the slot. -/
def BrtSt.latched (b : BrtSt) (slot : Nat) : BrtSt :=
  { b with snap := b.led, credSnap := b.cred, snapReq := none, snapSlot := slot }

theorem State.snapshotLatch_due (h : s.brt.snapReq = some t0) (hrun : s.slt.running = true)
    (hdue : t0 + 5120 * 2 ^ 32 ≤ slotUnits s.slt.slot) : s.snapshotLatch =
    ((({ s with brt := s.brt.latched s.slt.slot }).wrBit Reg.BRT_SNAP_CTRL 0 false).wrBit
      Reg.BRT_SNAP_CTRL 1 true).irqIf Reg.BRT_CTRL 2 11 := by
  unfold State.snapshotLatch
  rw [h]
  exact if_pos (by simpa [hrun] using hdue)

theorem State.snapshotLatch_idle (h : s.brt.snapReq = none ∨ s.slt.running = false) : s.snapshotLatch = s := by
  unfold State.snapshotLatch
  split
  · rfl
  · next t0 hreq =>
    have hrun : s.slt.running = false := h.resolve_left (by simp [hreq])
    exact if_neg (by simp [hrun])

theorem State.snapshotLatch_early (h : s.brt.snapReq = some t0) (hearly : slotUnits s.slt.slot < t0 + 5120 * 2 ^ 32) :
    s.snapshotLatch = s := by
  unfold State.snapshotLatch
  rw [h]
  exact if_neg (by simpa using fun _ => hearly)

/-! ### PHASE_READ (R225) -/

theorem State.plainWrite_phaseSel_frame : Frame [] [Reg.BRT_PHASE_SEL] [] s (s.plainWrite p Reg.BRT_PHASE_SEL v) := by
  rw [State.plainWrite_row rfl rfl rfl]
  exact Frame.refl.wr (by simp)

theorem exec_phaseRead (h : Permitted s p Reg.BRT_PHASE_SEL 1) :
    exec (.phaseRead p v) s = .next (s.writePhaseSel p (withBit v 31)) :=
  congrArg Host.Outcome.next (State.access_permitted h)

theorem State.writePhaseSel_go : s.writePhaseSel p (withBit v 31) = { s.plainWrite p Reg.BRT_PHASE_SEL (withBit v 31) with
    brt := { s.brt with phaseData := (s.rx (fld v 8 0)).phaseWord (fld v 17 9) } } := by
  simp [State.writePhaseSel, State.rx, bit_withBit, fld_withBit]

/-! ### SnapshotsLatch -/

/-- Settles O29: each command by the equation of its case. -/
theorem snapshotsLatch : Obligations.SnapshotsLatch := by
  unfold Obligations.SnapshotsLatch
  refine ⟨fun s p v h hfree => ?req, fun s p v h hpending => ?refused, fun s t0 h hrun hdue => ?latch, fun s h => ?idle,
    fun s t0 h hearly => ?early, fun s p v h => ?phase⟩
  case req =>
    refine ⟨_, exec_snapshotReq h, ?_⟩
    rw [State.writeSnapCtrl_free hfree]
    exact ⟨rfl, State.wrBit_rdBit_same (by omega), Frame.wrBit ((State.plainWrite_snapCtrl_frame.mono
      (List.nil_subset _) (List.Subset.refl _) (List.nil_subset _)).step (.set_brt (by simp) .refl)) (by simp)⟩
  case refused =>
    refine ⟨_, exec_snapshotReq h, ?_⟩
    rw [State.writeSnapCtrl_pending hpending]
    refine ⟨by simp, ?_, Frame.irqIf (Frame.wrBit (State.plainWrite_snapCtrl_frame.mono (List.nil_subset _) (by simp)
      (List.nil_subset _)) (by simp)) (by simp) (by simp)⟩
    rw [State.rdBit_of_frame State.irqIf_frame (by decide), State.wrBit_rdBit_same (by omega)]
  case latch =>
    refine ⟨_, congrArg Host.Outcome.next (State.snapshotLatch_due h hrun hdue), by simp [BrtSt.latched], ?_, ?_, ?_⟩
    · rw [State.rdBit_of_frame State.irqIf_frame (by decide), State.wrBit_rdBit_other (by omega),
        State.wrBit_rdBit_same (by omega)]
    · rw [State.rdBit_of_frame State.irqIf_frame (by decide), State.wrBit_rdBit_same (by omega)]
    · exact Frame.irqIf (Frame.wrBit (Frame.wrBit (Frame.step .refl (.set_brt (by simp) .refl)) (by simp)) (by simp))
        (by simp) (by simp)
  case idle => exact congrArg Host.Outcome.next (State.snapshotLatch_idle h)
  case early => exact congrArg Host.Outcome.next (State.snapshotLatch_early h hearly)
  case phase =>
    refine ⟨_, exec_phaseRead h, ?_⟩
    rw [State.writePhaseSel_go]
    exact ⟨rfl, (State.plainWrite_phaseSel_frame.mono (List.nil_subset _) (List.Subset.refl _) (List.nil_subset _)).step
      (.set_brt (by simp) .refl)⟩

end Sys2Proof.Machine

/-! SUPPORT. Meters (R313 to R316): what a write of MTR_METER_SEL does to the selected meter, what a profile that comes into
force does to the meters that use it, and the settlement of MetersManaged. -/

namespace Sys2Proof.Machine

open Sys2Proof

variable {s t u : State} {p : CmdPort} {v w : Word} {a m o : Nat} {c : Fin 16} {x : Chip} {y z : Meter}

/-! ### Plain writes in MTR -/

theorem locate_mtrReg (ho : o < 0x20000) : locate (mtrReg c o) = some (.mtr c, o) := by
  have hc := c.isLt
  have hlow : ¬0x1040000 + c.val * 0x100000 + o < 0x1000000 := by omega
  have hhigh : 0x1040000 + c.val * 0x100000 + o < 0x2000000 := by omega
  have hchip : (0x1040000 + c.val * 0x100000 + o - 0x1000000) / 0x100000 = c := by omega
  have hoff : (0x1040000 + c.val * 0x100000 + o) % 0x20000 = o := by omega
  have hblk : (0x1040000 + c.val * 0x100000 + o) % 0x100000 / 0x20000 = 2 := by omega
  simp only [locate, mtrReg, if_neg hlow, if_pos hhigh, hchip, hoff, hblk]

/-- Where the row found has no locked field, a write changes its register only. -/
theorem State.plainWrite_frame_of_rwl (h : ∀ b o r, locate a = some (b, o) → findRow b o = some r → r.rwl = 0) :
    Frame [] [a] [] s (s.plainWrite p a v) := by
  cases hl : locate a with
  | none =>
    rw [State.plainWrite, hl]
    exact .refl
  | some bo =>
    obtain ⟨b, o⟩ := bo
    cases hr : findRow b o with
    | none =>
      rw [State.plainWrite_no_row hl hr]
      exact .refl
    | some r =>
      rw [State.plainWrite_row hl hr (h b o r hl hr)]
      exact Frame.refl.wr (List.mem_singleton_self _)

/-- The locked fields of MTR lie above the meter select and below the profiles. -/
theorem findRow_mtr_rwl {c : Nat} {r : RegRow} (ho : o = Reg.MTR_METER_SEL ∨ 0x10000 ≤ o) (h : findRow (.mtr c) o = some r) :
    r.rwl = 0 := by
  simp only [findRow, windowOff, rowsOf] at h
  have hmem := List.mem_of_find?_eq_some h
  have hhit := List.find?_some h
  obtain ⟨hoff, -, hcount⟩ : r.off ≤ o ∧ (o - r.off) % r.stride = 0 ∧ (o - r.off) / r.stride < r.count :=
    of_decide_eq_true hhit
  by_contra hrwl
  obtain ⟨hpos, hend, hsel⟩ : 0 < r.stride ∧ r.off + r.count * r.stride ≤ 0x10000 ∧
      (r.off + r.count * r.stride ≤ 0x10 ∨ 0x10 < r.off) :=
    (by decide : ∀ r ∈ rowsMtr, r.rwl ≠ 0 → 0 < r.stride ∧ r.off + r.count * r.stride ≤ 0x10000 ∧
      (r.off + r.count * r.stride ≤ 0x10 ∨ 0x10 < r.off)) r hmem hrwl
  have hlast := (Nat.div_lt_iff_lt_mul hpos).1 hcount
  simp only [Reg.MTR_METER_SEL] at ho
  omega

theorem State.plainWrite_mtr_frame (h : o = Reg.MTR_METER_SEL ∨ 0x10000 ≤ o) (ho : o < 0x20000) :
    Frame [] [mtrReg c o] [] s (s.plainWrite p (mtrReg c o) v) := by
  refine State.plainWrite_frame_of_rwl fun b o' r hl hr => ?_
  obtain ⟨rfl, rfl⟩ := Prod.mk.inj (Option.some.inj ((locate_mtrReg ho).symm.trans hl))
  exact findRow_mtr_rwl h hr

/-! ### The meters of a chiplet -/

theorem State.setChip_chip_other {c d : Nat} (h : d ≠ c) : (s.setChip c x).chip d = s.chip d := by
  simp [State.chip, State.setChip, List.getD, h.symm]

theorem Chip.setMeter_meter_same : (x.setMeter m y).meter m = y := by
  simp [Chip.meter, Chip.setMeter]

theorem Chip.setMeter_meter_other {i : Nat} (h : i ≠ m) : (x.setMeter m y).meter i = x.meter i := by
  simp [Chip.meter, Chip.setMeter, Sparse.get_set_other _ _ _ h]

theorem State.cycle_congr (h : t.tim = s.tim) : t.cycle = s.cycle := by
  rw [State.cycle, h, State.cycle]

/-- One request of MTR_METER_SEL makes the selected meter y and leaves the other meters and the profiles alone. -/
structure MeterMade (c : Fin 16) (m : Nat) (s t : State) (y : Meter) : Prop where
  made : (t.chip c).meter m = y
  others : ∀ i, i ≠ m → (t.chip c).meter i = (s.chip c).meter i
  profs : (t.chip c).profs = (s.chip c).profs
  data : (t.chip c).meterData = (s.chip c).meterData
  chips : ∀ d : Fin 16, d ≠ c → t.chip d = s.chip d
  frame : Frame [.chips] [mtrReg c Reg.MTR_METER_SEL] [] s t

theorem MeterMade.trans (h : MeterMade c m s t y) (h' : MeterMade c m t u z) : MeterMade c m s u z where
  made := h'.made
  others i hi := (h'.others i hi).trans (h.others i hi)
  profs := h'.profs.trans h.profs
  data := h'.data.trans h.data
  chips d hd := (h'.chips d hd).trans (h.chips d hd)
  frame := h.frame.trans h'.frame

theorem MeterMade.ite {b : Prop} [Decidable b] (h : MeterMade c m s t y) (h' : MeterMade c m t u z) :
    MeterMade c m s (if b then u else t) (if b then z else y) := by
  split
  · exact h.trans h'
  · exact h

/-- A meter of a chiplet replaced. -/
theorem MeterMade.setMeter : MeterMade c m s (s.setChip c ((s.chip c).setMeter m y)) y where
  made := by rw [State.setChip_chip_same c.isLt, Chip.setMeter_meter_same]
  others i hi := by rw [State.setChip_chip_same c.isLt, Chip.setMeter_meter_other hi]
  profs := by rw [State.setChip_chip_same c.isLt, Chip.setMeter]
  data := by rw [State.setChip_chip_same c.isLt, Chip.setMeter]
  chips d hd := State.setChip_chip_other (Fin.val_ne_of_ne hd)
  frame := .of_parts (State.setChip_parts (List.Subset.refl _) .refl) (by simp) (by simp)

theorem MeterMade.prof (h : MeterMade c m s t y) {q : Nat} : (t.chip c).prof q = (s.chip c).prof q := by
  rw [Chip.prof, h.profs, Chip.prof]

theorem MeterMade.cycle (h : MeterMade c m s t y) : t.cycle = s.cycle := State.cycle_congr (h.frame.1 .tim (by simp))

theorem MeterMade.dataReg (h : MeterMade c m s t y) {i j : Nat} :
    t.rdFld (mtrReg c Reg.MTR_METER_DATA) i j = s.rdFld (mtrReg c Reg.MTR_METER_DATA) i j := by
  have hne : mtrReg c Reg.MTR_METER_DATA ∉ [mtrReg c Reg.MTR_METER_SEL] := by simp [mtrReg]
  rw [State.rdFld, h.frame.2.1 _ hne, State.rdFld]

/-- The plain part of a write of MTR_METER_SEL. -/
theorem MeterMade.sel : MeterMade c m s (s.plainWrite p (mtrReg c Reg.MTR_METER_SEL) w) ((s.chip c).meter m) := by
  have hframe := State.plainWrite_mtr_frame (s := s) (p := p) (v := w) (c := c) (.inl rfl) (by decide)
  have hchip (d : Nat) := State.chip_congr (c := d) (hframe.1 .chips (by simp))
  exact ⟨by rw [hchip], fun _ _ => by rw [hchip], by rw [hchip], by rw [hchip], fun _ _ => hchip _,
    hframe.mono (by simp) (by simp) (by simp)⟩

/-- REFILL fills both buckets under the meter's profile (R314). -/
theorem MeterMade.refill (h : MeterMade c m s t y) :
    MeterMade c m t (t.refillMeter c m) (y.filled ((s.chip c).prof y.prof) s.cycle) := by
  rw [← h.prof, ← h.cycle, ← h.made]
  exact .setMeter

/-- WR gives the meter another profile, with the change to apply at its next event (R313). -/
theorem MeterMade.write (h : MeterMade c m s t y) {q : Nat} : MeterMade c m t (t.meterProfile c m q)
    { y.changed s.cycle ((s.chip c).prof y.prof) ((s.chip c).prof q) with prof := q } := by
  rw [← h.prof, ← h.prof, ← h.cycle, ← h.made]
  exact .setMeter

/-! ### A write of MTR_METER_SEL (R313, R314) -/

/-- The selected meter after REFILL, where the word asks for it. -/
def State.meterRefilled (s : State) (c : Fin 16) (w : Word) : Meter :=
  let y := (s.chip c).meter (fld w 17 0)
  if bit w 29 = true then y.filled ((s.chip c).prof y.prof) s.cycle else y

/-- The selected meter after REFILL and WR, each where the word asks for it. -/
def State.meterWritten (s : State) (c : Fin 16) (w : Word) : Meter :=
  let y := s.meterRefilled c w
  let q := s.rdFld (mtrReg c Reg.MTR_METER_DATA) 9 0
  let old := (s.chip c).prof ((s.chip c).meter (fld w 17 0)).prof
  if bit w 30 = true then { y.changed s.cycle old ((s.chip c).prof q) with prof := q } else y

/-- REFILL leaves the meter its profile. -/
theorem State.meterRefilled_prof : (s.meterRefilled c w).prof = ((s.chip c).meter (fld w 17 0)).prof := by
  unfold State.meterRefilled
  dsimp only
  split <;> rfl

/-- The state after the plain part and REFILL of a write of MTR_METER_SEL. -/
def State.refillMade (s : State) (p : CmdPort) (c : Fin 16) (w : Word) : State :=
  let s1 := s.plainWrite p (mtrReg c Reg.MTR_METER_SEL) w
  if bit w 29 then s1.refillMeter c (fld w 17 0) else s1

/-- The state after the plain part, REFILL and WR of a write of MTR_METER_SEL. -/
def State.meterSelMade (s : State) (p : CmdPort) (c : Fin 16) (w : Word) : State :=
  if bit w 30 then
    (s.refillMade p c w).meterProfile c (fld w 17 0) ((s.refillMade p c w).rdFld (mtrReg c Reg.MTR_METER_DATA) 9 0)
  else s.refillMade p c w

theorem State.writeMeterSel_eq : s.writeMeterSel p c w =
    if bit w 31 then (s.meterSelMade p c w).meterLoad c (fld w 17 0) else s.meterSelMade p c w := by
  unfold State.writeMeterSel State.meterSelMade State.refillMade
  rfl

theorem State.refillMade_made : MeterMade c (fld w 17 0) s (s.refillMade p c w) (s.meterRefilled c w) :=
  have h := MeterMade.sel (s := s) (p := p) (c := c) (w := w) (m := fld w 17 0)
  h.ite h.refill

theorem State.meterSelMade_made : MeterMade c (fld w 17 0) s (s.meterSelMade p c w) (s.meterWritten c w) := by
  have h := State.refillMade_made (s := s) (p := p) (c := c) (w := w)
  unfold State.meterSelMade State.meterWritten
  rw [h.dataReg, ← State.meterRefilled_prof]
  exact h.ite h.write

/-- The words that RD loads into DATA. -/
def Meter.words (y : Meter) : Vector Word 4 :=
  #v[BitVec.ofNat 32 y.prof, BitVec.ofNat 32 y.tok1, BitVec.ofNat 32 y.tok2, BitVec.ofNat 32 y.last]

theorem State.meterLoad_chip : (s.meterLoad c m).chip c = { s.chip c with meterData := ((s.chip c).meter m).words } :=
  (State.chip_congr State.wr_chips).trans (State.setChip_chip_same c.isLt)

theorem State.meterLoad_chip_other {d : Nat} (h : d ≠ c) : (s.meterLoad c m).chip d = s.chip d :=
  (State.chip_congr State.wr_chips).trans (State.setChip_chip_other h)

/-- DATA is no part of a meter. -/
theorem Chip.meter_meterData {d : Vector Word 4} : Chip.meter { x with meterData := d } m = x.meter m := rfl

theorem State.meterLoad_frame : Frame [.chips] [mtrReg c Reg.MTR_METER_DATA] [] s (s.meterLoad c m) :=
  Frame.wr (.of_parts (State.setChip_parts (List.Subset.refl _) .refl) (by simp) (by simp)) (List.mem_singleton_self _)

/-! ### A profile that comes into force (R313, R316) -/

/-- The profile that the words of a chiplet spell. -/
def State.heldProf (s : State) (a : Nat) : MeterProf :=
  { w0 := s.rd a, cir := (s.rd (a + 4)).toNat, eir := (s.rd (a + 8)).toNat, cbs := fld (s.rd (a + 12)) 23 0
    ebs := fld (s.rd (a + 16)) 23 0 }

/-- A meter when profile m changes: one that uses it notes a change of rates, sizes or TYPE. -/
def Meter.noted (y : Meter) (m now : Nat) (old new : MeterProf) : Meter :=
  if y.prof = m ∧ old.reshapes new then y.changed now old new else y

theorem State.applyProfile_chip : (s.applyProfile c m).chip c =
    let old := (s.chip c).prof m
    let new := s.heldProf (mtrReg c (Reg.MTR_PROFILE0 + 0x20 * m))
    { s.chip c with
      profs := Sparse.set (fun _ => {}) (s.chip c).profs m new
      meters := (s.chip c).meters.map fun y => (y.1, y.2.map fun z => z.noted m s.cycle old new)
      meter0 := (s.chip c).meter0.noted m s.cycle old new } :=
  State.setChip_chip_same c.isLt

theorem State.applyProfile_frame : Frame [.chips] [] [] s (s.applyProfile c m) :=
  .of_parts (State.setChip_parts (List.Subset.refl _) .refl) (by simp) (by simp)

theorem Sparse.get_map_option {α : Type} {f : α → α} {l : Sparse (Option α)} {i : Nat} :
    Sparse.get (fun _ => none) (l.map fun y => (y.1, y.2.map f)) i = (Sparse.get (fun _ => none) l i).map f := by
  induction l with
  | nil => rfl
  | cons y l ih =>
    simp only [List.map_cons, Sparse.get, ih]
    split <;> rfl

/-- A change of every meter, the shared one included, changes each meter. -/
theorem Chip.meter_map {f : Meter → Meter} {ps : Sparse MeterProf} {i : Nat} :
    Chip.meter { x with
      profs := ps, meters := x.meters.map fun y => (y.1, y.2.map f), meter0 := f x.meter0 } i = f (x.meter i) := by
  simp only [Chip.meter, Sparse.get_map_option]
  cases Sparse.get (fun _ => none) x.meters i <;> rfl

/-- The changes that a meter notes do not enter the tokens that it earns and is cut to. -/
theorem Meter.foldl_pend {l q : List (Nat × MeterProf × MeterProf)} :
    l.foldl (fun y q => (y.earn q.2.1 q.1).cap q.2.2) { y with pend := q } =
      { l.foldl (fun y q => (y.earn q.2.1 q.1).cap q.2.2) y with pend := q } := by
  induction l generalizing y with
  | nil => rfl
  | cons e l ih =>
    simp only [List.foldl_cons]
    rw [← ih]
    congr 1
    simp only [Meter.earn, Meter.cap]
    split <;> rfl

theorem Meter.earn_cap_pend {now : Nat} {old new : MeterProf} {q : List (Nat × MeterProf × MeterProf)} :
    (({ y with pend := q } : Meter).earn old now).cap new = { (y.earn old now).cap new with pend := q } :=
  Meter.foldl_pend (l := [(now, old, new)])

/-- R313: at its next event a meter earns under the old profile up to the change and is cut to the new sizes. -/
theorem Meter.settle_changed {now : Nat} {old new : MeterProf} :
    (y.changed now old new).settle = { ((y.settle.earn old now).cap new) with pend := [] } := by
  simp only [Meter.settle, Meter.changed, List.foldl_append, List.foldl_cons, List.foldl_nil, Meter.foldl_pend,
    Meter.earn_cap_pend]

theorem Meter.cap_le {q : MeterProf} : (y.cap q).tok1 ≤ q.cbs * 256 ∧ (y.cap q).tok2 ≤ q.ebs * 256 :=
  ⟨Nat.min_le_right _ _, Nat.min_le_right _ _⟩

/-- A meter that notes a change earns under the old profile and is cut to the new sizes at its next event (R313). -/
theorem Meter.noted_settle {now : Nat} {old new : MeterProf} (h : y.prof = m ∧ old.reshapes new = true) :
    (y.noted m now old new).settle = { ((y.settle.earn old now).cap new) with pend := [] } := by
  rw [Meter.noted, if_pos h, Meter.settle_changed]

/-- The address of word 0 of a profile. -/
abbrev profReg (c : Fin 16) (m : Fin 1024) : Nat := mtrReg c (Reg.MTR_PROFILE0 + 0x20 * m.val)

theorem State.plainWrite_profReg_frame {m : Fin 1024} :
    Frame [] [profReg c m] [] s (s.plainWrite p (profReg c m) v) :=
  State.plainWrite_mtr_frame (.inr (by simp only [Reg.MTR_PROFILE0]; omega)) (by simp only [Reg.MTR_PROFILE0]; omega)

/-- The profile that comes into force: word 0 as it is written, words 1 to 4 as they are held. -/
def State.newProf (s : State) (p : CmdPort) (c : Fin 16) (m : Fin 1024) (v : Word) : MeterProf :=
  { w0 := (s.plainWrite p (profReg c m) v).rd (profReg c m), cir := (s.rd (profReg c m + 4)).toNat
    eir := (s.rd (profReg c m + 8)).toNat, cbs := fld (s.rd (profReg c m + 12)) 23 0
    ebs := fld (s.rd (profReg c m + 16)) 23 0 }

theorem State.heldProf_plainWrite {m : Fin 1024} :
    (s.plainWrite p (profReg c m) v).heldProf (profReg c m) = s.newProf p c m v := by
  have hrd (k : Nat) (hk : 0 < k) : (s.plainWrite p (profReg c m) v).rd (profReg c m + k) = s.rd (profReg c m + k) :=
    State.plainWrite_profReg_frame.2.1 _ (by simp; omega)
  simp only [State.heldProf, State.newProf, hrd _ (by omega : 0 < 4), hrd _ (by omega : 0 < 8), hrd _ (by omega : 0 < 12),
    hrd _ (by omega : 0 < 16)]

theorem State.writeProfile0_chip {m : Fin 1024} : (s.writeProfile0 p c m v).chip c =
    let old := (s.chip c).prof m
    let new := s.newProf p c m v
    { s.chip c with
      profs := Sparse.set (fun _ => {}) (s.chip c).profs m new
      meters := (s.chip c).meters.map fun y => (y.1, y.2.map fun z => z.noted m s.cycle old new)
      meter0 := (s.chip c).meter0.noted m s.cycle old new } := by
  have hframe := State.plainWrite_profReg_frame (s := s) (p := p) (v := v) (c := c) (m := m)
  have hchip := State.chip_congr (c := c) (hframe.1 .chips (by simp))
  have hcycle := State.cycle_congr (hframe.1 .tim (by simp))
  rw [State.writeProfile0, State.applyProfile_chip, State.heldProf_plainWrite, hchip, hcycle]

theorem State.writeProfile0_meter {m : Fin 1024} {i : Nat} : ((s.writeProfile0 p c m v).chip c).meter i =
    ((s.chip c).meter i).noted m s.cycle ((s.chip c).prof m) (s.newProf p c m v) := by
  rw [State.writeProfile0_chip]
  exact Chip.meter_map

theorem State.writeProfile0_prof {m : Fin 1024} {q : Nat} : ((s.writeProfile0 p c m v).chip c).prof q =
    if q = m then s.newProf p c m v else (s.chip c).prof q := by
  rw [State.writeProfile0_chip]
  exact Sparse.get_set _ _ _ _ _

theorem State.writeProfile0_rd {m : Fin 1024} :
    (s.writeProfile0 p c m v).rd (profReg c m) = (s.plainWrite p (profReg c m) v).rd (profReg c m) :=
  State.applyProfile_frame.2.1 _ (by simp)

theorem State.writeProfile0_frame {m : Fin 1024} : Frame [.chips] [profReg c m] [] s (s.writeProfile0 p c m v) :=
  (State.plainWrite_profReg_frame.mono (by simp) (by simp) (by simp)).trans
    (State.applyProfile_frame.mono (by simp) (by simp) (by simp))

theorem State.writeProfile0_chip_other {m : Fin 1024} {d : Nat} (h : d ≠ c) :
    (s.writeProfile0 p c m v).chip d = s.chip d :=
  (State.setChip_chip_other h).trans (State.chip_congr (State.plainWrite_profReg_frame.1 .chips (by simp)))

/-! ### MetersManaged -/

/-- Settles O37: the requests of one write change the selected meter in turn, REFILL, WR, RD (assumption 72), and word 0 of a
profile maps every meter of its chiplet. -/
theorem metersManaged : Obligations.MetersManaged := by
  unfold Obligations.MetersManaged
  intro selected
  have hsel (s : State) (p : CmdPort) (c : Fin 16) (w : Word) : selected s (s.writeMeterSel p c w) c w := by
    have h := State.meterSelMade_made (s := s) (p := p) (c := c) (w := w)
    rw [State.writeMeterSel_eq]
    split
    · next hrd =>
      have hload := State.meterLoad_chip (s := s.meterSelMade p c w) (c := c) (m := fld w 17 0)
      refine ⟨?_, fun i hi => ?_, ?_, fun _ => ?_, fun hno => absurd hrd (by simp [hno]), fun d hd => ?_, ?_⟩
      · rw [hload, Chip.meter_meterData]
        exact h.made
      · rw [hload, Chip.meter_meterData]
        exact h.others i hi
      · rw [hload]
        exact h.profs
      · rw [hload]
        exact congrArg Meter.words h.made
      · exact (State.meterLoad_chip_other (Fin.val_ne_of_ne hd)).trans (h.chips d hd)
      · exact (h.frame.mono (by simp) (by simp) (by simp)).trans (State.meterLoad_frame.mono (by simp) (by simp) (by simp))
    · next hno =>
      exact ⟨h.made, h.others, h.profs, fun hrd => absurd hrd hno, fun _ => h.data, h.chips,
        h.frame.mono (by simp) (by simp) (by simp)⟩
  refine ⟨fun s p c v h => ⟨?_, ?_, ?_⟩, fun s p c m v h => ?_, fun s p c m w v h => ?_⟩
  · exact ⟨_, congrArg Host.Outcome.next (State.access_permitted h), hsel s p c _⟩
  · exact ⟨_, congrArg Host.Outcome.next (State.access_permitted h), hsel s p c _⟩
  · exact ⟨_, congrArg Host.Outcome.next (State.access_permitted h), hsel s p c _⟩
  · refine ⟨_, congrArg Host.Outcome.next (State.access_permitted h), ?_⟩
    have hnew : ((s.writeProfile0 p c m v).chip c).prof m = s.newProf p c m v :=
      State.writeProfile0_prof.trans (if_pos rfl)
    dsimp only
    rw [hnew]
    refine ⟨State.writeProfile0_rd.symm, rfl, rfl, rfl, rfl, fun q hq => State.writeProfile0_prof.trans (if_neg hq),
      fun i => ?_, fun d hd => State.writeProfile0_chip_other (Fin.val_ne_of_ne hd), State.writeProfile0_frame⟩
    rw [State.writeProfile0_meter]
    split
    · next hnotes =>
      rw [Meter.noted_settle hnotes]
      exact ⟨if_pos hnotes, rfl, Meter.cap_le⟩
    · next hnot => exact if_neg hnot
  · exact ⟨_, congrArg Host.Outcome.next (State.access_permitted h), rfl,
      State.plainWrite_mtr_frame (.inr (by simp only [Reg.MTR_PROFILE1]; omega))
        (by simp only [Reg.MTR_PROFILE1]; omega)⟩

end Sys2Proof.Machine

/-! SUPPORT. Frames received (R257, R259, R268, R269, R271, R274, R281): the checks of a frame, what a good one becomes, and the
settlement of FramesReceived. -/

namespace Sys2Proof.Machine

open Sys2Proof

variable {s : State} {a n k i q : Nat} {f : RxFrame} {r : Int}

/-! ### Counters are no input of the MAC -/

theorem State.bump_cfhMode : (s.bump a n).cfhMode k = s.cfhMode k := rfl
theorem State.bump_portCtrl : (s.bump a n).portCtrl k = s.portCtrl k := rfl
theorem State.bump_tenant : (s.bump a n).tenant k = s.tenant k := rfl
theorem State.bump_maxFrame : (s.bump a n).maxFrame k = s.maxFrame k := rfl
theorem State.bump_rawStamp {m : Nat} : (s.bump a n).rawStamp m q = s.rawStamp m q := rfl
theorem State.bump_plx {o m : Nat} : (s.bump a n).plx k o m = s.plx k o m := rfl
theorem State.bump_skew {m l : Nat} : (s.bump a n).skew k m l = s.skew k m l := rfl
theorem State.bump_inbufBytes : (s.bump a n).inbufBytes k = s.inbufBytes k := rfl
theorem State.bump_ledger : (s.bump a n).ledger k = s.ledger k := rfl
theorem State.bump_port : (s.bump a n).port k = s.port k := rfl

/-! ### The checks of a frame (R257, R259) -/

/-- The codewords of a frame counted. -/
def State.codewordsCounted (s : State) (k : Nat) (f : RxFrame) : State :=
  ((s.bump (lanReg k 0x168) f.corrected).countCorrected f.corrected).bump (lanReg k 0x170) f.uncorrected

/-- The counter of a frame that fails a check, 0 of a good frame: the checks in their order (assumption 65). -/
def State.frameFault (s : State) (k : Nat) (f : RxFrame) : Nat :=
  if f.aborted = true then 4 else if f.fcsGood = false ∨ 0 < f.uncorrected then 1
  else if f.bytes.length < 64 then 2 else if s.maxFrame k < f.bytes.length then 3 else 0

theorem State.frameReceived_down (h : s.macUp k = false) : s.frameReceived k f = s := by
  rw [State.frameReceived, h]
  rfl

theorem State.frameReceived_eq (h : s.macUp k = true) : s.frameReceived k f =
    if f.aborted = true then (s.codewordsCounted k f).lanBump k 4
    else if f.fcsGood = false ∨ 0 < f.uncorrected then (s.codewordsCounted k f).lanBump k 1
    else if f.bytes.length < 64 then (s.codewordsCounted k f).lanBump k 2
    else if s.maxFrame k < f.bytes.length then (s.codewordsCounted k f).lanBump k 3
    else (s.codewordsCounted k f).goodFrame k f := by
  have hor : (!f.fcsGood || decide (0 < f.uncorrected)) = true ↔ f.fcsGood = false ∨ 0 < f.uncorrected := by simp
  have hmax : (s.codewordsCounted k f).maxFrame k = s.maxFrame k := rfl
  rw [← hmax, State.frameReceived, if_pos h]
  simp only [← hor]
  rfl

theorem State.frameReceived_up (h : s.macUp k = true) : s.frameReceived k f =
    if s.frameFault k f = 0 then (s.codewordsCounted k f).goodFrame k f
    else (s.codewordsCounted k f).lanBump k (s.frameFault k f) := by
  rw [State.frameReceived_eq h, State.frameFault]
  by_cases habort : f.aborted = true
  · simp [habort]
  · by_cases hfcs : f.fcsGood = false ∨ 0 < f.uncorrected
    · simp [habort, hfcs]
    · by_cases hrunt : f.bytes.length < 64
      · simp [habort, hfcs, hrunt]
      · by_cases hlong : s.maxFrame k < f.bytes.length
        · simp [habort, hfcs, hrunt, hlong]
        · simp [habort, hfcs, hrunt, hlong]

/-- The checks of a good frame all pass. -/
theorem State.frameFault_good (habort : f.aborted = false) (hfcs : f.fcsGood = true) (hcw : f.uncorrected = 0)
    (hrunt : 64 ≤ f.bytes.length) (hlong : f.bytes.length ≤ s.maxFrame k) : s.frameFault k f = 0 := by
  simp [State.frameFault, habort, hfcs, hcw, hrunt.not_gt, hlong.not_gt]

/-! ### The counters of a frame (R597) -/

theorem lanReg_ne_class0 {o : Nat} : lanReg k o ≠ 0x200020 := by
  unfold lanReg
  omega

theorem lanReg_inj {o o' : Nat} : lanReg k o = lanReg k o' ↔ o = o' := Nat.add_left_cancel_iff

theorem State.codewordsCounted_corrected :
    (s.codewordsCounted k f).ctr (lanReg k 0x168) = s.ctr (lanReg k 0x168) + BitVec.ofNat 64 f.corrected := by
  rw [State.codewordsCounted, State.bump_ctr_other (by simp [lanReg_inj]), State.countCorrected,
    State.bump_ctr_other lanReg_ne_class0, State.bump_ctr_same]

theorem State.codewordsCounted_class0 :
    (s.codewordsCounted k f).ctr 0x200020 = s.ctr 0x200020 + BitVec.ofNat 64 f.corrected := by
  rw [State.codewordsCounted, State.bump_ctr_other lanReg_ne_class0.symm, State.countCorrected, State.bump_ctr_same,
    State.bump_ctr_other lanReg_ne_class0.symm]

theorem State.codewordsCounted_uncorrected :
    (s.codewordsCounted k f).ctr (lanReg k 0x170) = s.ctr (lanReg k 0x170) + BitVec.ofNat 64 f.uncorrected := by
  rw [State.codewordsCounted, State.bump_ctr_same, State.countCorrected, State.bump_ctr_other lanReg_ne_class0,
    State.bump_ctr_other (by simp [lanReg_inj])]

theorem State.codewordsCounted_frame :
    Frame [] [] [lanReg k 0x168, lanReg k 0x170, 0x200020] s (s.codewordsCounted k f) :=
  ((Frame.refl.bump (by simp)).bump (by simp)).bump (by simp)

/-- A counter of a port's window below those of codewords: its own count after the codewords of the frame. -/
theorem State.codewordsCounted_lanBump (hi : i < 13) :
    ((s.codewordsCounted k f).lanBump k i).ctr (lanReg k (0x100 + 8 * i)) = s.ctr (lanReg k (0x100 + 8 * i)) + 1 := by
  rw [State.lanBump, State.bump_ctr_same, State.codewordsCounted_frame.2.2 _ ?_]
  · rfl
  · simp only [List.mem_cons, lanReg_inj, lanReg_ne_class0, List.not_mem_nil, or_false]
    omega

/-- A good frame counted. -/
def State.goodCounted (s : State) (k : Nat) (f : RxFrame) : State := (s.codewordsCounted k f).lanBump k 0

theorem State.goodCounted_ctr : (s.goodCounted k f).ctr (lanReg k 0x100) = s.ctr (lanReg k 0x100) + 1 :=
  State.codewordsCounted_lanBump (i := 0) (by omega)

theorem State.goodCounted_frame :
    Frame [] [] [lanReg k 0x100, lanReg k 0x168, lanReg k 0x170, 0x200020] s (s.goodCounted k f) :=
  (State.codewordsCounted_frame.mono (by simp) (by simp) (by simp)).bump (by simp)

theorem State.goodCounted_cfhMode : (s.goodCounted k f).cfhMode k = s.cfhMode k := by
  simp only [State.goodCounted, State.codewordsCounted, State.countCorrected, State.lanBump, State.bump_cfhMode]

theorem State.goodCounted_portCtrl : (s.goodCounted k f).portCtrl k = s.portCtrl k := by
  simp only [State.goodCounted, State.codewordsCounted, State.countCorrected, State.lanBump, State.bump_portCtrl]

theorem State.goodCounted_tenant : (s.goodCounted k f).tenant k = s.tenant k := by
  simp only [State.goodCounted, State.codewordsCounted, State.countCorrected, State.lanBump, State.bump_tenant]

theorem State.goodCounted_inbufBytes : (s.goodCounted k f).inbufBytes k = s.inbufBytes k := by
  simp only [State.goodCounted, State.codewordsCounted, State.countCorrected, State.lanBump, State.bump_inbufBytes]

theorem State.goodCounted_port : (s.goodCounted k f).port k = s.port k := by
  simp only [State.goodCounted, State.codewordsCounted, State.countCorrected, State.lanBump, State.bump_port]

theorem State.goodCounted_nextPkt : (s.goodCounted k f).nextPkt = s.nextPkt := by
  simp only [State.goodCounted, State.codewordsCounted, State.countCorrected, State.lanBump, State.bump_nextPkt]

theorem State.goodCounted_ledger : (s.goodCounted k f).ledger i = s.ledger i := by
  simp only [State.goodCounted, State.codewordsCounted, State.countCorrected, State.lanBump, State.bump_ledger]

/-- The RX time-stamp of a frame (R274). -/
def State.rxStamp (s : State) (k : Nat) (f : RxFrame) : Int :=
  s.rawStamp f.age f.sub - s.plx k Reg.LAN_PLX_RX f.age - s.skew k f.member f.age

theorem State.goodCounted_rxStamp : (s.goodCounted k f).rxStamp k f = s.rxStamp k f := by
  simp only [State.goodCounted, State.codewordsCounted, State.countCorrected, State.lanBump, State.rxStamp,
    State.bump_rawStamp, State.bump_plx, State.bump_skew]

/-! ### Good frames without a CFH -/

/-- A good data frame that is no PTP event message is handed to parsing with its time-stamp (R274). -/
theorem State.goodFrame_data (hmode : s.cfhMode k = 0) (hmac : beAt f.bytes 12 2 ≠ 0x8808) (hptp : ptpEvent f.bytes = none) :
    (s.codewordsCounted k f).goodFrame k f = (s.goodCounted k f).handToParse k f (s.rxStamp k f) := by
  unfold State.goodFrame
  rw [← State.goodCounted, ← State.goodCounted_rxStamp]
  simp only [State.goodCounted_cfhMode, hmode, ne_eq, not_true_eq_false, false_and, if_false, if_true, hmac, hptp]
  rfl

/-- A PFC frame names the pauses of a port with PFC_RX_EN (R268), and is counted. -/
theorem State.goodFrame_pfc (hmode : s.cfhMode k = 0) (hmac : beAt f.bytes 12 2 = 0x8808) (hop : beAt f.bytes 14 2 = 0x0101)
    (hdst : beAt f.bytes 0 6 = 0x0180C2000001) : (s.codewordsCounted k f).goodFrame k f =
      if bit (s.portCtrl k) 3 then ((s.goodCounted k f).lanBump k 5).setPort k ((s.port k).pause f.bytes 14)
      else (s.goodCounted k f).lanBump k 5 := by
  have hctrl : ((s.goodCounted k f).lanBump k 5).portCtrl k = s.portCtrl k :=
    State.bump_portCtrl.trans State.goodCounted_portCtrl
  have hport : ((s.goodCounted k f).lanBump k 5).port k = s.port k := State.bump_port.trans State.goodCounted_port
  unfold State.goodFrame
  rw [← State.goodCounted]
  simp only [State.goodCounted_cfhMode, hmode, hctrl, hport, ne_eq, not_true_eq_false, false_and, if_false, if_true, hmac,
    hop, hdst, and_self]

/-! ### The parse input buffer (R244, R281) -/

/-- A good data frame of a port without CFH, as a packet. -/
def rxPacket (f : RxFrame) (k : Nat) (rx : Int) : Pkt := { bytes := f.bytes, rxPort := k, rx := rx }

/-- A frame that finds the parse input buffer full (R281). -/
def State.parseOverrun (s : State) (k : Nat) : State :=
  ((s.admitDiscard k drParseOverrun).bump (prsReg (chipOf k) 0x878) 1).irqIf (prsReg (chipOf k) Reg.PRS_CTRL) 2 (16 + chipOf k)

theorem State.handToParse_full (hroom : 32768 < s.inbufBytes k + f.bytes.length) : s.handToParse k f r =
    s.parseOverrun k := by
  unfold State.handToParse
  exact if_pos hroom

/-- A packet that enters the ledger and waits at its port. -/
def State.parseQueued (s : State) (k : Nat) (p : Pkt) : State :=
  { (s.ledgerEvent (chipOf k) .enter).setPkt s.nextPkt p with nextPkt := s.nextPkt + 1 }.setPort k
    { s.port k with inbuf := (s.port k).inbuf ++ [s.nextPkt] }

theorem State.handToParse_room (hmode : s.cfhMode k = 0) (hroom : s.inbufBytes k + f.bytes.length ≤ 32768) :
    s.handToParse k f r = s.parseQueued k (rxPacket f k r) := by
  unfold State.handToParse
  simp only [hmode, ne_eq, not_true_eq_false, false_and, if_true, if_neg hroom.not_gt]
  rfl

theorem chipOf_lt (k : Fin 512) : chipOf k < 16 := by
  unfold chipOf
  omega

theorem State.ledgerEvent_ledger_same {c : Nat} {e : LedgerEvent} (hc : c < 16) :
    (s.ledgerEvent c e).ledger c = (s.ledger c).apply e := by
  simp [State.ledger, State.ledgerEvent, List.getD, hc]

theorem State.parseQueued_pkt {p : Pkt} : (s.parseQueued k p).pkt s.nextPkt = some p :=
  Sparse.get_set_same (fun _ => none) s.pkts s.nextPkt (some p)

theorem State.parseQueued_nextPkt {p : Pkt} : (s.parseQueued k p).nextPkt = s.nextPkt + 1 := rfl

theorem State.parseQueued_port {p : Pkt} :
    (s.parseQueued k p).port k = { s.port k with inbuf := (s.port k).inbuf ++ [s.nextPkt] } := State.setPort_port_same

theorem State.parseQueued_ledger {k : Fin 512} {p : Pkt} :
    (s.parseQueued k p).ledger (chipOf k) = (s.ledger (chipOf k)).apply .enter :=
  State.ledgerEvent_ledger_same (chipOf_lt k)

theorem State.parseQueued_frame {p : Pkt} : Frame [.brt, .pkts, .nextPkt, .ports] [] [] s (s.parseQueued k p) :=
  Frame.of_parts (State.setPort_parts (by simp) (.set_nextPkt (by simp) (State.setPkt_parts (by simp)
    (State.ledgerEvent_parts (by simp) .refl)))) (by simp) (by simp)

theorem State.ledger_congr {t : State} {c : Nat} (h : t.brt = s.brt) : t.ledger c = s.ledger c := by
  rw [State.ledger, h, State.ledger]

theorem State.ledgerEvent_frame {c : Nat} {e : LedgerEvent} : Frame [.brt] [] [] s (s.ledgerEvent c e) :=
  Frame.of_parts (State.ledgerEvent_parts (List.Subset.refl _) .refl) (by simp) (by simp)

/-- A good frame that is discarded at once enters the ledger and leaves it (R244). -/
theorem State.admitDiscard_ledger {k : Fin 512} : (s.admitDiscard k a).ledger (chipOf k) =
    ((s.ledger (chipOf k)).apply .enter).apply (.discard a 1) := by
  rw [State.admitDiscard, State.countDiscard, State.ledgerEvent_ledger_same (chipOf_lt k),
    State.ledgerEvent_ledger_same (chipOf_lt k)]

theorem State.admitDiscard_frame : Frame [.brt] [] [] s (s.admitDiscard k a) :=
  State.ledgerEvent_frame.trans State.ledgerEvent_frame

/-- The counters of a parser are other counters than those of its ports. -/
theorem prsReg_ne_lanReg {o o' : Nat} (ho : o < 0x8000) (ho' : o' < 0x400) : prsReg (chipOf k) o ≠ lanReg k o' := by
  unfold prsReg lanReg chipOf
  omega

theorem prsReg_ne_class0 {c o : Nat} : prsReg c o ≠ 0x200020 := by
  unfold prsReg
  omega

/-! ### Command frames (R271, R513) -/

theorem State.goodFrame_noCommandPort (hmode : s.cfhMode k ≠ 0) (hver : (cfhOf f.bytes).ver = 1)
    (htenant : (cfhOf f.bytes).tenant = (s.tenant k).val) (htype : (cfhOf f.bytes).type = 1)
    (hport : bit (s.portCtrl k) 10 = false) : (s.codewordsCounted k f).goodFrame k f =
      ((s.goodCounted k f).lanBump k 8).audit 0x04 2 0 (BitVec.ofNat 32 k) 0 := by
  unfold State.goodFrame
  rw [← State.goodCounted]
  simp [State.goodCounted_cfhMode, State.goodCounted_tenant, State.goodCounted_portCtrl, hmode, hver, htenant, htype, hport]

/-! ### Pauses (R268) -/

/-- One priority of a PFC frame. -/
def Port.pauseOne (b : List Byte) (o : Nat) (x : Port) (q : Nat) : Port :=
  if beAt b (o + 2) 2 / 2 ^ q % 2 = 1 then
    { x with paused := Sparse.set (fun _ => 0) x.paused q (beAt b (o + 4 + 2 * q) 2) }
  else x

theorem Port.pauseOne_paused {x : Port} {b : List Byte} {o m : Nat} : Sparse.get (fun _ => 0) (x.pauseOne b o m).paused q =
    if q = m ∧ beAt b (o + 2) 2 / 2 ^ q % 2 = 1 then beAt b (o + 4 + 2 * q) 2 else Sparse.get (fun _ => 0) x.paused q := by
  unfold Port.pauseOne
  by_cases hq : q = m
  · subst hq
    split
    · next hon => simp [hon]
    · next hoff => simp [hoff]
  · have hno : ¬(q = m ∧ beAt b (o + 2) 2 / 2 ^ q % 2 = 1) := fun h => hq h.1
    rw [if_neg hno]
    split
    · exact Sparse.get_set_other _ _ _ hq
    · rfl

theorem Port.foldl_pauseOne_paused {x : Port} {b : List Byte} {o : Nat} {l : List Nat} :
    Sparse.get (fun _ => 0) (l.foldl (Port.pauseOne b o) x).paused q =
      if q ∈ l ∧ beAt b (o + 2) 2 / 2 ^ q % 2 = 1 then beAt b (o + 4 + 2 * q) 2
      else Sparse.get (fun _ => 0) x.paused q := by
  induction l generalizing x with
  | nil => simp
  | cons m l ih =>
    rw [List.foldl_cons, ih, Port.pauseOne_paused]
    grind

/-- The pauses after a PFC frame: of the priorities that it enables those that it names. -/
theorem Port.pause_paused {x : Port} {b : List Byte} {o : Nat} (hq : q < 8) :
    Sparse.get (fun _ => 0) (x.pause b o).paused q =
      if beAt b (o + 2) 2 / 2 ^ q % 2 = 1 then beAt b (o + 4 + 2 * q) 2 else Sparse.get (fun _ => 0) x.paused q := by
  have hfold : x.pause b o = (List.range 8).foldl (Port.pauseOne b o) x := rfl
  rw [hfold, Port.foldl_pauseOne_paused]
  simp [hq]

theorem State.pauseExpiry_paused : Sparse.get (fun _ => 0) ((s.pauseExpiry k q).port k).paused i =
    if i = q then 0 else Sparse.get (fun _ => 0) (s.port k).paused i := by
  unfold State.pauseExpiry
  rw [State.setPort_port_same]
  exact Sparse.get_set (fun _ => 0) (s.port k).paused q i 0

theorem State.pauseExpiry_port_other {j : Nat} (h : j ≠ k) : (s.pauseExpiry k q).port j = s.port j :=
  State.setPort_port_other h

/-! ### FramesReceived -/

theorem exec_frameReceived_good {k : Fin 512} (h : s.macUp k = true) (habort : f.aborted = false) (hfcs : f.fcsGood = true)
    (hcw : f.uncorrected = 0) (hrunt : 64 ≤ f.bytes.length) (hlong : f.bytes.length ≤ s.maxFrame k) :
    exec (.frameReceived k f) s = .next ((s.codewordsCounted k f).goodFrame k f) :=
  congrArg Host.Outcome.next ((State.frameReceived_up h).trans
    (if_pos (State.frameFault_good habort hfcs hcw hrunt hlong)))

/-- What a bad frame counts. -/
theorem State.badFrame_counted (hi : i < 13) :
    let t := (s.codewordsCounted k f).lanBump k i
    t.ctr (lanReg k (0x100 + 8 * i)) = s.ctr (lanReg k (0x100 + 8 * i)) + 1 ∧
    t.ctr (lanReg k 0x168) = s.ctr (lanReg k 0x168) + BitVec.ofNat 64 f.corrected ∧
    t.ctr (lanReg k 0x170) = s.ctr (lanReg k 0x170) + BitVec.ofNat 64 f.uncorrected ∧
    t.ctr 0x200020 = s.ctr 0x200020 + BitVec.ofNat 64 f.corrected ∧
    Frame [] [] [lanReg k (0x100 + 8 * i), lanReg k 0x168, lanReg k 0x170, 0x200020] s t := by
  have hctr (o : Nat) (ho : 0x168 ≤ o) : lanReg k o ≠ lanReg k (0x100 + 8 * i) := fun h => by
    have heq := lanReg_inj.1 h
    omega
  refine ⟨State.codewordsCounted_lanBump hi, ?_, ?_, ?_, ?_⟩
  · exact (State.bump_ctr_other (hctr _ (by omega))).trans State.codewordsCounted_corrected
  · exact (State.bump_ctr_other (hctr _ (by omega))).trans State.codewordsCounted_uncorrected
  · exact (State.bump_ctr_other lanReg_ne_class0.symm).trans State.codewordsCounted_class0
  · exact (State.codewordsCounted_frame.mono (by simp) (by simp) (by simp)).bump (by simp)

theorem State.parseOverrun_counted : (s.parseOverrun k).ctr (prsReg (chipOf k) 0x878) = s.ctr (prsReg (chipOf k) 0x878) + 1 := by
  rw [State.parseOverrun, State.irqIf_frame.2.2 _ (by simp), State.bump_ctr_same, State.admitDiscard_frame.2.2 _ (by simp)]
  rfl

theorem State.parseOverrun_ledger {k : Fin 512} : (s.parseOverrun k).ledger (chipOf k) =
    ((s.ledger (chipOf k)).apply .enter).apply (.discard drParseOverrun 1) := by
  rw [State.parseOverrun, State.ledger_congr State.irqIf_brt, State.bump_ledger]
  exact State.admitDiscard_ledger

theorem State.parseOverrun_frame :
    Frame [.cmd, .brt] [Reg.CMD_IRQ_PENDING] [prsReg (chipOf k) 0x878] s (s.parseOverrun k) :=
  ((State.admitDiscard_frame.mono (by simp) (by simp) (by simp)).bump (by simp)).irqIf (by simp) (by simp)

theorem State.goodCounted_lanBump (hi : 0 < i ∧ i < 13) :
    ((s.goodCounted k f).lanBump k i).ctr (lanReg k (0x100 + 8 * i)) = s.ctr (lanReg k (0x100 + 8 * i)) + 1 := by
  rw [State.lanBump, State.bump_ctr_same, State.goodCounted_frame.2.2 _ ?_]
  · rfl
  · simp only [List.mem_cons, lanReg_inj, lanReg_ne_class0, List.not_mem_nil, or_false]
    omega

/-- The port after a PFC frame: a port with PFC_RX_EN takes the quanta of the priorities that it enables. -/
def State.pausedBy (s : State) (k : Nat) (f : RxFrame) : Port :=
  if bit (s.portCtrl k) 3 then (s.port k).pause f.bytes 14 else s.port k

theorem State.pausedBy_paused (hq : q < 8) : Sparse.get (fun _ => 0) (s.pausedBy k f).paused q =
    if bit (s.portCtrl k) 3 = true ∧ beAt f.bytes 16 2 / 2 ^ q % 2 = 1 then beAt f.bytes (18 + 2 * q) 2
    else Sparse.get (fun _ => 0) (s.port k).paused q := by
  unfold State.pausedBy
  split
  · next hon => simp [Port.pause_paused hq, hon]
  · next hoff => simp [hoff]

/-- What a PFC frame does, told of the ports. -/
theorem State.goodFrame_pfc_ports (hmode : s.cfhMode k = 0) (hmac : beAt f.bytes 12 2 = 0x8808)
    (hop : beAt f.bytes 14 2 = 0x0101) (hdst : beAt f.bytes 0 6 = 0x0180C2000001) :
    let t := (s.codewordsCounted k f).goodFrame k f
    t.ctr (lanReg k 0x128) = s.ctr (lanReg k 0x128) + 1 ∧ t.port k = s.pausedBy k f ∧
    (∀ j, j ≠ k → t.port j = s.port j) ∧
    Frame [.ports] [] [lanReg k 0x100, lanReg k 0x128, lanReg k 0x168, lanReg k 0x170, 0x200020] s t := by
  have hctr := State.goodCounted_lanBump (s := s) (k := k) (f := f) (i := 5) (by omega)
  have hframe : Frame [.ports] [] [lanReg k 0x100, lanReg k 0x128, lanReg k 0x168, lanReg k 0x170, 0x200020] s
      ((s.goodCounted k f).lanBump k 5) := (State.goodCounted_frame.mono (by simp) (by simp) (by simp)).bump (by simp)
  have hport (j : Nat) : ((s.goodCounted k f).lanBump k 5).port j = s.port j := by
    simp only [State.goodCounted, State.codewordsCounted, State.countCorrected, State.lanBump, State.bump_port]
  rw [State.goodFrame_pfc hmode hmac hop hdst, State.pausedBy]
  split
  · exact ⟨State.setPort_ctr.trans hctr, State.setPort_port_same, fun j hj => (State.setPort_port_other hj).trans (hport j),
      hframe.step (State.setPort_parts (by simp) .refl)⟩
  · exact ⟨hctr, hport k, fun j _ => hport j, hframe⟩

/-- Settles O30: a bad frame is counted by the first check that it fails (assumption 65), a good one by what its header says. -/
theorem framesReceived : Obligations.FramesReceived := by
  unfold Obligations.FramesReceived
  refine ⟨?down, ?bad, ?plain, ?command, ?expiry⟩
  case down => exact fun s k f h => congrArg Host.Outcome.next (State.frameReceived_down h)
  case bad =>
    intro s k f i h hi hbad
    change i = s.frameFault k f at hi
    have hlt : i < 13 := by
      rw [hi, State.frameFault]
      split_ifs <;> omega
    have hexec : exec (.frameReceived k f) s = .next ((s.codewordsCounted k f).lanBump k i) := by
      subst hi
      exact congrArg Host.Outcome.next ((State.frameReceived_up h).trans (if_neg hbad))
    exact ⟨_, hexec, State.badFrame_counted hlt⟩
  case plain =>
    intro s k f h habort hfcs hcw hrunt hlong hmode
    have hexec := exec_frameReceived_good h habort hfcs hcw hrunt hlong
    have hmode' : (s.goodCounted k f).cfhMode k = 0 := State.goodCounted_cfhMode.trans hmode
    refine ⟨fun hmac hptp hroom => ?room, fun hmac hptp hroom => ?full, fun hmac hop hdst => ?pfc⟩
    case room =>
      rw [State.goodFrame_data hmode hmac hptp, State.handToParse_room hmode' (by rwa [State.goodCounted_inbufBytes])] at hexec
      refine ⟨_, hexec, (State.parseQueued_frame.2.2 _ (by simp)).trans State.goodCounted_ctr, ?_, ?_, ?_, ?_, ?_⟩
      · rw [← State.goodCounted_nextPkt (s := s) (k := k) (f := f)]
        exact State.parseQueued_pkt
      · rw [State.parseQueued_nextPkt, State.goodCounted_nextPkt]
      · rw [State.parseQueued_port, State.goodCounted_port, State.goodCounted_nextPkt]
      · rw [State.parseQueued_ledger, State.goodCounted_ledger]
      · exact (State.goodCounted_frame.mono (by simp) (by simp) (by simp)).trans
          (State.parseQueued_frame.mono (by simp) (by simp) (by simp))
    case full =>
      rw [State.goodFrame_data hmode hmac hptp, State.handToParse_full (by rwa [State.goodCounted_inbufBytes])] at hexec
      have hctr (o : Nat) (ho : o < 0x400) := prsReg_ne_lanReg (k := k) (o := 0x878) (by omega) ho
      refine ⟨_, hexec, ?_, ?_, ?_, ?_⟩
      · rw [State.parseOverrun_frame.2.2 _ (by simpa using (hctr _ (by omega)).symm), State.goodCounted_ctr]
      · rw [State.parseOverrun_ledger, State.goodCounted_ledger]
      · rw [State.parseOverrun_counted, State.goodCounted_frame.2.2]
        simp [prsReg_ne_class0, hctr]
      · exact (State.goodCounted_frame.mono (by simp) (by simp) (by simp)).trans
          (State.parseOverrun_frame.mono (by simp) (by simp) (by simp))
    case pfc =>
      obtain ⟨hctr, hport, hothers, hframe⟩ := State.goodFrame_pfc_ports hmode hmac hop hdst
      exact ⟨_, hexec, hctr, fun q hq => by rw [hport, State.pausedBy_paused hq], hothers, hframe⟩
  case command =>
    intro s k f h habort hfcs hcw hrunt hlong hmode hver htenant htype hport
    have hexec := exec_frameReceived_good h habort hfcs hcw hrunt hlong
    rw [State.goodFrame_noCommandPort hmode hver htenant htype hport] at hexec
    have hframe : Frame [] [] [lanReg k 0x100, lanReg k 0x140, lanReg k 0x168, lanReg k 0x170, 0x200020] s
        ((s.goodCounted k f).lanBump k 8) := (State.goodCounted_frame.mono (by simp) (by simp) (by simp)).bump (by simp)
    refine ⟨_, hexec, ?_, ?_, ?_⟩
    · rw [State.audit_frame.2.2 _ (by simp)]
      exact State.goodCounted_lanBump (i := 8) (by omega)
    · exact State.audit_sec_congr (hframe.1 .sec (by simp)) (hframe.1 .tim (by simp))
    · exact (hframe.mono (by simp) (by simp) (by simp)).trans (State.audit_frame.mono (by simp) (by simp) (by simp))
  case expiry =>
    intro s k q
    refine ⟨_, rfl, State.pauseExpiry_paused.trans (if_pos rfl), fun r hr => State.pauseExpiry_paused.trans (if_neg hr),
      fun j hj => State.pauseExpiry_port_other hj, ?_⟩
    exact Frame.of_parts (State.pauseExpiry_parts (List.Subset.refl _) .refl) (by simp) (by simp)

end Sys2Proof.Machine

/-! SUPPORT. Bytes in network order: what a frame reads at an offset where it was put together. -/

namespace Sys2Proof.Machine

open Sys2Proof

variable {a b c l : List Byte} {m n o q v : Nat}

theorem toLe_length : (toLe v n).length = n := by
  induction n generalizing v with
  | zero => rfl
  | succ n ih => rw [toLe, List.length_cons, ih]

theorem toBe_length : (toBe v n).length = n := by
  rw [toBe, List.length_reverse, toLe_length]

theorem leNat_toLe : leNat (toLe v n) = v % 256 ^ n := by
  induction n generalizing v with
  | zero => rw [toLe, leNat, Nat.pow_zero, Nat.mod_one]
  | succ n ih => rw [toLe, leNat, ih, BitVec.toNat_ofNat, Nat.pow_succ' (m := 256), Nat.mod_mul]

theorem beNat_reverse : beNat l.reverse = leNat l := by
  induction l with
  | nil => rfl
  | cons x l ih =>
    rw [List.reverse_cons, beNat, List.foldl_append, ← beNat, ih, leNat, List.foldl_cons, List.foldl_nil]
    omega

theorem beNat_toBe (h : v < 256 ^ n) : beNat (toBe v n) = v := by
  rw [toBe, beNat_reverse, leNat_toLe, Nat.mod_eq_of_lt h]

/-- Past a first part, a frame reads as its rest. -/
theorem beAt_append (h : a.length = m) : beAt (a ++ b) (m + o) n = beAt b o n := by
  rw [beAt, beAt, ← h, List.drop_length_add_append]

theorem beAt_prefix (h : b.length = n) : beAt (b ++ c) 0 n = beNat b := by
  simp [beAt, ← h]

/-- A number put in network order at the start of a frame is read back. -/
theorem beAt_toBe (h : v < 256 ^ n) : beAt (toBe v n ++ c) 0 n = v := by
  rw [beAt_prefix toBe_length, beNat_toBe h]

/-- A list of 16-bit numbers in network order reads as its numbers. -/
theorem beAt_flatMap {α : Type} {g : α → Nat} {xs : List α} {x : α} {i : Nat} (h : xs[i]? = some x) (hg : g x < 65536) :
    beAt ((xs.flatMap fun y => toBe (g y) 2) ++ c) (2 * i) 2 = g x := by
  induction xs generalizing i with
  | nil => cases h
  | cons y ys ih =>
    rw [List.flatMap_cons, List.append_assoc]
    cases i with
    | zero =>
      cases h
      exact beAt_toBe hg
    | succ i =>
      rw [Nat.mul_succ, Nat.add_comm, beAt_append toBe_length]
      exact ih h

theorem fcsOf_length : (fcsOf l).length = 4 := rfl

/-- The FCS takes the place of the last four bytes. -/
theorem refcs_append (h : b.length = 4) : refcs (a ++ b) = a ++ fcsOf a := by
  simp [refcs, h]

end Sys2Proof.Machine

/-! SUPPORT. Priority flow control frames (R267), replies to in-band commands (R271) and the end of a transmission (R244, R262). -/

namespace Sys2Proof.Machine

open Sys2Proof

variable {s t u : State} {k j : Nat} {x : Port} {f : List Byte} {rest : List (List Byte)} {y : TxFrame}

/-! ### The bytes of a PFC frame (R267) -/

/-- The quanta of a priority in a PFC frame that a port sends. -/
def State.quantaOf (s : State) (k q : Nat) : Nat := if (s.xoffBits k).getLsbD q then s.pfcQuanta k else 0

theorem State.pfcQuanta_lt : s.pfcQuanta k < 65536 := by
  have hfld : s.rdFld (lanReg k Reg.LAN_PORT_CFG) 31 16 < 65536 := Nat.mod_lt _ (by decide)
  rw [State.pfcQuanta]
  omega

theorem State.quantaOf_lt {q : Nat} : s.quantaOf k q < 65536 := by
  unfold State.quantaOf
  split
  · exact State.pfcQuanta_lt
  · omega

/-- The priorities that a PFC frame enables. -/
def State.pfcNamed (s : State) (k : Nat) : Nat := (s.xoffBits k ||| (s.port k).pfcSent).toNat

/-- The address of the MAC in a PFC frame: free values (assumption 15). -/
def State.pfcSource (s : State) : List Byte := toBe (s.free.1.toNat % 65536) 2 ++ toBe s.free.2.free.1.toNat 4

/-- The fields of a PFC frame, with what follows them. -/
def State.pfcFields (s : State) (k : Nat) (tail : List Byte) : List Byte :=
  toBe 0x0180C2000001 6 ++ (s.pfcSource ++ (toBe 0x8808 2 ++ (toBe 0x0101 2 ++ (toBe (s.pfcNamed k) 2 ++
    ((List.range 8).flatMap (fun q => toBe (s.quantaOf k q) 2) ++ tail)))))

theorem pfcTimes_length {g : Nat → Nat} : ((List.range 8).flatMap fun q => toBe (g q) 2).length = 16 := by
  simp [toBe_length]

theorem State.pfcSource_length : s.pfcSource.length = 6 := by
  simp [State.pfcSource, toBe_length]

theorem State.pfcFields_length {tail : List Byte} : (s.pfcFields k tail).length = 34 + tail.length := by
  simp only [State.pfcFields, List.length_append, toBe_length, pfcTimes_length, State.pfcSource_length]
  omega

/-- A PFC frame: its fields, the padding to 60 bytes, and the FCS. -/
theorem State.pfcFrame_bytes : (s.pfcFrame k).1 =
    s.pfcFields k (List.replicate 26 0 ++ fcsOf (s.pfcFields k (List.replicate 26 0))) := by
  have hbody : toBe 0x0180C2000001 6 ++ toBe (s.free.1.toNat % 65536) 2 ++ toBe s.free.2.free.1.toNat 4 ++ toBe 0x8808 2 ++
      toBe 0x0101 2 ++ toBe (s.pfcNamed k) 2 ++ (List.range 8).flatMap (fun q => toBe (s.quantaOf k q) 2) =
      s.pfcFields k [] := by
    simp only [State.pfcFields, State.pfcSource, List.append_assoc, List.append_nil]
  have htail (tail : List Byte) : s.pfcFields k [] ++ tail = s.pfcFields k tail := by
    simp only [State.pfcFields, List.append_assoc, List.nil_append]
  have hframe : (s.pfcFrame k).1 = refcs (s.pfcFields k [] ++ List.replicate (60 - (s.pfcFields k []).length) 0 ++ [0, 0, 0, 0]) := by
    rw [← hbody]
    rfl
  rw [hframe, State.pfcFields_length, refcs_append rfl, htail, ← htail (_ ++ _), ← List.append_assoc, htail]
  rfl

theorem State.pfcFields_quanta {tail : List Byte} :
    let f := s.pfcFields k tail
    beAt f 0 6 = 0x0180C2000001 ∧ beAt f 12 2 = 0x8808 ∧ beAt f 14 2 = 0x0101 ∧ beAt f 16 2 = s.pfcNamed k ∧
      ∀ q, q < 8 → beAt f (18 + 2 * q) 2 = s.quantaOf k q := by
  have hdst : (toBe 0x0180C2000001 6).length = 6 := toBe_length
  have hnamed : s.pfcNamed k < 256 ^ 2 := by
    have := (s.xoffBits k ||| (s.port k).pfcSent).isLt
    rw [State.pfcNamed]
    omega
  simp only [State.pfcFields]
  refine ⟨beAt_toBe (by decide), ?_, ?_, ?_, fun q hq => ?_⟩
  · rw [beAt_append (o := 6) hdst, beAt_append (o := 0) State.pfcSource_length, beAt_toBe (by decide)]
  · rw [beAt_append (o := 8) hdst, beAt_append (o := 2) State.pfcSource_length, beAt_append (o := 0) toBe_length,
      beAt_toBe (by decide)]
  · rw [beAt_append (o := 10) hdst, beAt_append (o := 4) State.pfcSource_length, beAt_append (o := 2) toBe_length,
      beAt_append (o := 0) toBe_length, beAt_toBe hnamed]
  · have hoff : 18 + 2 * q = 6 + (6 + (2 + (2 + (2 + 2 * q)))) := by omega
    rw [hoff, beAt_append hdst, beAt_append State.pfcSource_length, beAt_append toBe_length, beAt_append toBe_length,
      beAt_append toBe_length, beAt_flatMap (x := q) (by simp [hq]) State.quantaOf_lt]

/-! ### What a port owes (R266, R267) -/

theorem State.bundleCode_congr (h : t.regs = s.regs) : t.bundleCode = s.bundleCode :=
  funext fun k => by rw [State.bundleCode, State.rdFld, State.rd, h, State.bundleCode, State.rdFld, State.rd]

theorem State.lead_congr (h : t.regs = s.regs) : t.lead k = s.lead k := by
  rw [State.lead, State.bundleCode_congr h, State.lead]

/-- Two states that agree on what decides whether a port acts and what its sources assert. -/
structure SameSources (s t : State) : Prop where
  regs : t.regs = s.regs
  glb : t.glb = s.glb
  img : t.img = s.img
  mtx : t.mtx = s.mtx
  thm : t.thm = s.thm
  flt : t.flt = s.flt
  ready : ∀ k, (t.port k).ready = (s.port k).ready

theorem SameSources.rd (h : SameSources s t) {a : Nat} : t.rd a = s.rd a := by
  rw [State.rd, h.regs, State.rd]

theorem SameSources.lead (h : SameSources s t) : t.lead k = s.lead k := State.lead_congr h.regs

theorem SameSources.members (h : SameSources s t) : t.members k = s.members k := by
  rw [State.members, State.bundleSize, State.bundleCode_congr h.regs, State.members, State.bundleSize]

theorem SameSources.isLead (h : SameSources s t) : t.isLead k = s.isLead k := by
  rw [State.isLead, h.lead, State.isLead]

theorem SameSources.portCtrl (h : SameSources s t) : t.portCtrl k = s.portCtrl k := by
  rw [State.portCtrl, h.lead, h.rd, State.portCtrl]

theorem SameSources.portActs (h : SameSources s t) : t.portActs k = s.portActs k := by
  simp only [State.portActs, h.lead, h.portCtrl, h.ready, h.glb, State.imgEnables, h.img, State.portPowered, State.domOn]

theorem SameSources.xoffBits (h : SameSources s t) : t.xoffBits k = s.xoffBits k := by
  have hxoff (j : Nat) : t.xoff j = s.xoff j := by
    simp only [State.xoff, h.portActs, h.mtx, h.thm, h.flt, State.draining, h.glb]
  rw [State.xoffBits, h.lead, h.members, funext hxoff, State.xoffBits]

theorem SameSources.pfcTxEn (h : SameSources s t) : t.pfcTxEn k = s.pfcTxEn k := by
  rw [State.pfcTxEn, h.portCtrl, State.pfcTxEn]

theorem SameSources.of_parts {P : List Part} (h : OnlyParts P s t) (hready : ∀ k, (t.port k).ready = (s.port k).ready)
    (hP : ∀ q ∈ [Part.regs, .glb, .img, .mtx, .thm, .flt], q ∉ P) : SameSources s t where
  regs := h .regs (hP _ (by simp))
  glb := h .glb (hP _ (by simp))
  img := h .img (hP _ (by simp))
  mtx := h .mtx (hP _ (by simp))
  thm := h .thm (hP _ (by simp))
  flt := h .flt (hP _ (by simp))
  ready := hready

/-- A port replaced by one that is as ready. -/
theorem State.setPort_ready (h : x.ready = (s.port k).ready) : ((s.setPort k x).port j).ready = (s.port j).ready := by
  by_cases hj : j = k
  · rw [hj, State.setPort_port_same, h]
  · rw [State.setPort_port_other hj]

/-! ### Local Fault in the safe state (R262) -/

theorem State.startLf_frame : Frame [.ports] [] [] s (s.startLf k) :=
  .of_parts (State.startLf_parts (List.Subset.refl _) .refl) (by simp) (by simp)

theorem State.startLf_service (h : s.flt.safe = false) : s.startLf k = s := by
  simp [State.startLf, h]

/-- In the safe state Local Fault starts where no frame is in transmission and no PFC frame is owed. -/
theorem State.startLf_safe (h : s.flt.safe = true) (hlead : s.isLead k = true) (hacts : s.portActs k = true)
    (htx : (s.port k).tx = none) (howed : s.pfcOwed k = false) :
    s.startLf k = s.setPort k { s.port k with txLf := true } := by
  simp [State.startLf, h, hlead, hacts, htx, howed]

theorem State.startLf_port_other (h : j ≠ k) : (s.startLf k).port j = s.port j := by
  unfold State.startLf
  dsimp only
  split
  · exact State.setPort_port_other h
  · rfl

/-- Local Fault changes what the port sends, nothing else of it. -/
theorem State.startLf_port : (s.startLf k).port k = { s.port k with txLf := ((s.startLf k).port k).txLf } := by
  unfold State.startLf
  dsimp only
  split
  · rw [State.setPort_port_same]
  · rfl

/-! ### PFC frames sent (R267) -/

theorem State.pfcFrame_state : (s.pfcFrame k).2 = { s with freeCtr := s.freeCtr + 2 } := rfl

/-- A port that has sent its PFC frame. -/
def State.pfcShown (s : State) (k : Nat) : Port :=
  { s.port k with pfcSent := s.xoffBits k, lastFrame := (s.pfcFrame k).1 }

theorem State.sendPfc_eq : s.sendPfc k = ({ s with freeCtr := s.freeCtr + 2 }.setPort k (s.pfcShown k)).lanBump k 11 := by
  have hsame : SameSources s { s with freeCtr := s.freeCtr + 2 } := ⟨rfl, rfl, rfl, rfl, rfl, rfl, fun _ => rfl⟩
  unfold State.sendPfc
  dsimp only
  rw [State.pfcFrame_state, hsame.xoffBits]
  rfl

theorem State.sendPfc_port_other (h : j ≠ k) : (s.sendPfc k).port j = s.port j := by
  rw [State.sendPfc_eq]
  exact State.setPort_port_other h

theorem State.sendPfc_port : (s.sendPfc k).port k = s.pfcShown k := by
  rw [State.sendPfc_eq]
  exact State.setPort_port_same

theorem State.sendPfc_counted : (s.sendPfc k).ctr (lanReg k 0x158) = s.ctr (lanReg k 0x158) + 1 := by
  rw [State.sendPfc_eq, State.lanBump, State.bump_ctr_same]
  rfl

theorem State.sendPfc_frame : Frame [.freeCtr, .ports] [] [lanReg k 0x158] s (s.sendPfc k) := by
  rw [State.sendPfc_eq]
  exact Frame.bump (.of_parts (State.setPort_parts (by simp) (.set_freeCtr (by simp) .refl)) (by simp) (by simp)) (by simp)

theorem State.sendPfc_sources : SameSources s (s.sendPfc k) := by
  refine .of_parts (State.sendPfc_parts (List.Subset.refl _) .refl) (fun j => ?_) (by simp)
  by_cases hj : j = k
  · rw [hj, State.sendPfc_port, State.pfcShown]
  · rw [State.sendPfc_port_other hj]

/-- What is shown is no longer owed. -/
theorem State.sendPfc_owed : (s.sendPfc k).pfcOwed k = false := by
  rw [State.pfcOwed, State.sendPfc_port, State.sendPfc_sources.xoffBits, State.pfcShown]
  simp

/-- A MAC that may start a PFC frame sends no Local Fault, has no frame in transmission, and its port acts. -/
theorem State.pfcMayStart_iff : s.pfcMayStart k = true ↔ (s.isLead k = true ∧ s.portActs k = true ∧ (s.port k).linkUp = true) ∧
    (s.port k).tx = none ∧ (s.port k).rxLf = false ∧ (s.port k).rxRf = false ∧ (s.port k).txLf = false := by
  simp [State.pfcMayStart, State.macUp, and_assoc]

theorem State.pfcFrame_quanta :
    let f := (s.pfcFrame k).1
    f.length = 64 ∧ beAt f 0 6 = 0x0180C2000001 ∧ beAt f 12 2 = 0x8808 ∧ beAt f 14 2 = 0x0101 ∧
      beAt f 16 2 = (s.xoffBits k ||| (s.port k).pfcSent).toNat ∧
      ∀ q, q < 8 → beAt f (18 + 2 * q) 2 = if (s.xoffBits k).getLsbD q = true then s.pfcQuanta k else 0 := by
  rw [State.pfcFrame_bytes]
  refine ⟨?_, State.pfcFields_quanta⟩
  rw [State.pfcFields_length, List.length_append, List.length_replicate, fcsOf_length]

theorem State.pfcSend_starts (h : s.pfcMayStart k = true) (howed : s.pfcOwed k = true) :
    s.pfcSend k = (s.sendPfc k).startLf k := by
  simp [State.pfcSend, h, howed]

theorem State.pfcSend_none (h : s.pfcOwed k = false) : s.pfcSend k = s := by
  simp [State.pfcSend, h]

theorem State.pfcRefresh_starts (h : s.pfcMayStart k = true) (hen : s.pfcTxEn k = true) (hsent : (s.port k).pfcSent ≠ 0)
    (howed : s.pfcOwed k = false) : s.pfcRefresh k = s.sendPfc k := by
  have hne : decide ((s.port k).pfcSent ≠ 0) = true := decide_eq_true hsent
  rw [State.pfcRefresh, h, hen, howed, hne]
  rfl

theorem State.pfcRefresh_none (h : s.pfcOwed k = true ∨ (s.port k).pfcSent = 0) : s.pfcRefresh k = s := by
  unfold State.pfcRefresh
  rw [if_neg]
  obtain h | h := h <;> simp [h]

/-- Local Fault follows the PFC frame in the safe state, and only there (R262). -/
theorem State.pfcSend_txLf (h : s.pfcMayStart k = true) : (((s.sendPfc k).startLf k).port k).txLf = s.flt.safe := by
  obtain ⟨⟨hlead, hacts, -⟩, htx, -, -, hlf⟩ := State.pfcMayStart_iff.1 h
  have hflt : (s.sendPfc k).flt = s.flt := State.sendPfc_sources.flt
  cases hsafe : s.flt.safe with
  | false =>
    rw [State.startLf_service (by rw [hflt, hsafe]), State.sendPfc_port]
    exact hlf
  | true =>
    rw [State.startLf_safe (by rw [hflt, hsafe]) (State.sendPfc_sources.isLead.trans hlead)
      (State.sendPfc_sources.portActs.trans hacts) (by rw [State.sendPfc_port]; exact htx) State.sendPfc_owed,
      State.setPort_port_same]

/-- What a port shows when nothing is owed is what its sources assert. -/
theorem State.xoffBits_of_not_owed (hen : s.pfcTxEn k = true) (howed : s.pfcOwed k = false) :
    s.xoffBits k = (s.port k).pfcSent := by
  simpa [State.pfcOwed, hen] using howed

/-! ### Replies to in-band commands (R271) -/

theorem State.commandReply_sent (h : (s.port k).replies = f :: rest) (hlead : s.isLead k = true) (hmay : s.mayStart k = true)
    (howed : s.pfcOwed k = false) (hheld : s.replyHeld f = false) :
    s.commandReply k = (s.setPort k { s.port k with replies := rest, lastFrame := f }).lanBump k 12 := by
  simp [State.commandReply, h, hlead, hmay, howed, hheld]

theorem State.commandReply_none (h : (s.port k).replies = []) : s.commandReply k = s := by
  simp [State.commandReply, h]

/-! ### The end of a transmission (R244, R597) -/

theorem State.port_congr (h : t.ports = s.ports) : t.port k = s.port k := by
  rw [State.port, h, State.port]

theorem State.pkt_congr (h : t.pkts = s.pkts) : t.pkt k = s.pkt k := by
  rw [State.pkt, h, State.pkt]

theorem State.crossing_congr (h : t.xing = s.xing) : t.crossing k = s.crossing k := by
  rw [State.crossing, h, State.crossing]

theorem State.dropPkt_pkt : (s.dropPkt k).pkt k = none := (Sparse.get_erase _ _ _ _).trans (if_pos rfl)

/-- A frame sent, before Local Fault may follow it. -/
def State.frameGone (s : State) (k : Nat) (y : TxFrame) : State :=
  ((((s.setPort k { s.port k with tx := none }).lanBump k 10).freeHold y.queue y.segs).launchDelivered k 1).dropPkt y.pkt

theorem State.frameSent_eq (h : (s.port k).tx = some y) : s.frameSent k = (s.frameGone k y).startLf k := by
  unfold State.frameSent
  dsimp only
  rw [h]
  rfl

theorem State.frameSent_none (h : (s.port k).tx = none) : s.frameSent k = s := by
  unfold State.frameSent
  dsimp only
  rw [h]

theorem State.frameGone_rest : OnlyParts [.chips, .xing, .pkts] ((s.setPort k { s.port k with tx := none }).lanBump k 10)
    (s.frameGone k y) :=
  State.dropPkt_parts (by simp) (State.launchDelivered_parts (by simp) (State.freeHold_parts (by simp) .refl))

theorem State.frameGone_first : OnlyParts [.ctrs, .ports] s ((s.setPort k { s.port k with tx := none }).lanBump k 10) :=
  State.lanBump_parts (by simp) (State.setPort_parts (by simp) .refl)

theorem State.frameGone_port (j : Nat) :
    (s.frameGone k y).port j = (s.setPort k { s.port k with tx := none }).port j :=
  State.port_congr (State.frameGone_rest .ports (by simp))

theorem State.frameGone_pkt : (s.frameGone k y).pkt y.pkt = none := State.dropPkt_pkt

theorem State.frameGone_frame : Frame [.pkts, .ports, .chips, .xing] [] [lanReg k 0x150] s (s.frameGone k y) :=
  Frame.step (Frame.bump (.of_parts (State.setPort_parts (by simp) .refl) (by simp) (by simp)) (by simp))
    (State.frameGone_rest.mono (by simp)) (by simp) (by simp)

theorem State.frameGone_counted : (s.frameGone k y).ctr (lanReg k 0x150) = s.ctr (lanReg k 0x150) + 1 := by
  have hrest : Frame [.chips, .xing, .pkts] [] [] _ _ :=
    .of_parts (State.frameGone_rest (s := s) (k := k) (y := y)) (by simp) (by simp)
  rw [hrest.2.2 _ (by simp), State.lanBump, State.bump_ctr_same, State.setPort_ctr]
  rfl

theorem State.frameGone_crossing :
    (s.frameGone k y).crossing (txCrossing k) = (s.crossing (txCrossing k)).launch 1 := by
  have hfirst : OnlyParts [.ctrs, .ports, .chips] s
      (((s.setPort k { s.port k with tx := none }).lanBump k 10).freeHold y.queue y.segs) :=
    State.freeHold_parts (by simp) (State.frameGone_first.mono (by simp))
  rw [← State.crossing_congr (hfirst .xing (by simp))]
  exact Sparse.get_set_same _ _ _ _

theorem State.frameGone_sources : SameSources s (s.frameGone k y) := by
  have hparts : OnlyParts [.ctrs, .ports, .chips, .xing, .pkts] s (s.frameGone k y) :=
    (State.frameGone_first.mono (by simp)).trans (State.frameGone_rest.mono (by simp))
  refine .of_parts hparts (fun j => ?_) (by simp)
  rw [State.frameGone_port]
  exact State.setPort_ready rfl

/-- What a port that is not in transmission owes is what it owed before the end of its frame. -/
theorem State.frameGone_owed : (s.frameGone k y).pfcOwed k = s.pfcOwed k := by
  rw [State.pfcOwed, State.frameGone_sources.pfcTxEn, State.frameGone_sources.xoffBits, State.frameGone_port,
    State.setPort_port_same, State.pfcOwed]

theorem State.frameGone_port_same : (s.frameGone k y).port k = { s.port k with tx := none } :=
  (State.frameGone_port k).trans State.setPort_port_same

theorem State.frameSent_txLf (hsafe : s.flt.safe = true) (hlead : s.isLead k = true) (hacts : s.portActs k = true)
    (howed : s.pfcOwed k = false) : (((s.frameGone k y).startLf k).port k).txLf = true := by
  have hsame := State.frameGone_sources (s := s) (k := k) (y := y)
  rw [State.startLf_safe (by rw [hsame.flt, hsafe]) (hsame.isLead.trans hlead) (hsame.portActs.trans hacts)
    (by rw [State.frameGone_port_same]) (State.frameGone_owed.trans howed), State.setPort_port_same]

end Sys2Proof.Machine

/-! SUPPORT. The start of a frame's transmission (R329, R354, R355, R363), and the settlement of FramesSent. -/

namespace Sys2Proof.Machine

open Sys2Proof

variable {s t : State} {c k j l n cls fg sub m : Nat} {segs : List SegRef} {q : Pick} {p : Pkt} {reads : List SegRead}

/-! ### Egress queues -/

theorem State.queue_congr (h : t.chips = s.chips) : t.queue k cls fg = s.queue k cls fg := by
  rw [State.queue, State.chip_congr h, State.queue]

theorem State.setQueue_queue_same (hk : k < 512) {xs : List (Nat × List SegRef)} :
    (s.setQueue k cls fg xs).queue k cls fg = xs := by
  have hc : chipOf k < 16 := by
    unfold chipOf
    omega
  rw [State.queue, State.setQueue, State.setChip_chip_same hc]
  exact Sparse.get_set_same _ _ _ _

theorem Chip.setRegion_queues {x : Chip} {hold : Bool} {r : Region} : (x.setRegion hold r).queues = x.queues := by
  unfold Chip.setRegion
  split <;> rfl

theorem Chip.freeSeg_queues {x : Chip} {g : BitVec 32} : (x.freeSeg g).queues = x.queues := by
  unfold Chip.freeSeg
  dsimp only
  split
  · split
    · rw [Chip.setRegion_queues]
    · rw [Chip.setRegion_queues]
  · rfl

theorem Chip.freeSegs_queues {x : Chip} {gs : List (BitVec 32)} : (x.freeSegs gs).queues = x.queues := by
  induction gs generalizing x with
  | nil => rfl
  | cons g gs ih => exact ih.trans Chip.freeSeg_queues

theorem Chip.foldl_left_queues {x : Chip} : (segs.foldl (fun (x : Chip) g => x.left (jk k g.cls) 1) x).queues = x.queues := by
  induction segs generalizing x with
  | nil => rfl
  | cons g gs ih => exact ih

/-- Segments that leave the egress-hold region leave the queues alone. -/
theorem State.freeHold_queue (hj : j < 512) : (s.freeHold j segs).queue k cls fg = s.queue k cls fg := by
  have hc : chipOf j < 16 := by
    unfold chipOf
    omega
  by_cases hk : chipOf k = chipOf j
  · rw [State.queue, State.freeHold, hk, State.setChip_chip_same hc, Chip.freeSegs_queues, Chip.foldl_left_queues, State.queue, hk]
  · rw [State.queue, State.freeHold, State.setChip_chip_other hk, State.queue]

/-! ### Heads that no window admits (R363) -/

/-- With the gates of its bundle off, no head is discarded. -/
theorem State.checkHead_off (h : (s.port (s.lead k)).gates.on = false) : s.checkHead k cls fg = s := by
  unfold State.checkHead State.headCheck
  split
  · rfl
  · simp [h]

/-! ### What the scheduler does to a port (R355, R362) -/

/-- The ports of two states have the same gates in force and the same frame in transmission. -/
def SameTx (s t : State) : Prop := ∀ j, (t.port j).gates.on = (s.port j).gates.on ∧ (t.port j).tx = (s.port j).tx

theorem SameTx.trans {u : State} (h : SameTx s t) (h' : SameTx t u) : SameTx s u :=
  fun j => ⟨(h' j).1.trans (h j).1, (h' j).2.trans (h j).2⟩

theorem SameTx.of_ports (h : t.ports = s.ports) : SameTx s t := fun j => by
  rw [State.port_congr h]
  exact ⟨rfl, rfl⟩

theorem SameTx.setPort {x : Port} (hon : x.gates.on = (s.port l).gates.on) (htx : x.tx = (s.port l).tx) :
    SameTx s (s.setPort l x) := fun j => by
  by_cases hj : j = l
  · rw [hj, State.setPort_port_same]
    exact ⟨hon, htx⟩
  · rw [State.setPort_port_other hj]
    exact ⟨rfl, rfl⟩

theorem SameTx.bump {a : Nat} (h : SameTx s t) : SameTx s (t.bump a n) := h

theorem State.countGateWaits_tx : SameTx s (s.countGateWaits l) := by
  unfold State.countGateWaits
  dsimp only
  split
  · exact .of_ports rfl
  · refine .bump (.setPort ?_ ?_)
    · rfl
    · rfl

theorem State.countGateWaits_port_other (h : j ≠ l) : (s.countGateWaits l).port j = s.port j := by
  unfold State.countGateWaits
  dsimp only
  split
  · rfl
  · exact State.setPort_port_other h

theorem State.countGateWaits_part : OnlyParts [.ctrs, .ports] s (s.countGateWaits l) :=
  State.countGateWaits_parts (List.Subset.refl _) .refl

theorem State.loseDeficit_tx : SameTx s (s.loseDeficit k cls fg) := .setPort rfl rfl

/-- The frame picked leaves its queue, before its successor is checked. -/
theorem State.takeHead_eq : ∃ x : Port, x.gates.on = (s.port l).gates.on ∧ x.tx = (s.port l).tx ∧
    s.takeHead l q = ((s.setQueue q.head.port q.head.cls q.head.fg
      (s.queue q.head.port q.head.cls q.head.fg).tail).setPort l x).checkHead q.head.port q.head.cls q.head.fg := by
  refine ⟨_, ?_, ?_, rfl⟩
  · rfl
  · rfl

/-! ### The start of a frame (R329, R354, R355) -/

theorem State.foldl_segRead_clean (h : ∀ r ∈ reads, r.res = .clean) : reads.foldl (fun s r => s.segRead c r) s = s := by
  induction reads with
  | nil => rfl
  | cons r rs ih =>
    have hr : s.segRead c r = s := by rw [State.segRead, h r (by simp)]
    rw [List.foldl_cons, hr]
    exact ih fun x hx => h x (List.mem_cons_of_mem _ hx)

theorem State.isPoisoned_congr {g : BitVec 32} (h : t.chips = s.chips) : t.isPoisoned c g = s.isPoisoned c g := by
  rw [State.isPoisoned, State.chip_congr h, State.isPoisoned]

/-- The frame picked is discarded in its place (R329). -/
def State.pickDiscarded (s : State) (q : Pick) : State :=
  (((s.setQueue q.head.port q.head.cls q.head.fg (s.queue q.head.port q.head.cls q.head.fg).tail).loseDeficit q.head.port
    q.head.cls q.head.fg).discardEgress q.head.port q.head.pkt drDramEcc q.head.segs)

/-- Where every read is clean, the frame picked starts, or is discarded where one of its segments reads uncorrectable. -/
theorem State.transmitStart_pick (hlead : s.isLead k = true) (hmay : s.mayStart k = true) (howed : s.pfcOwed k = false)
    (hpick : (s.countGateWaits k).pick k = some q) (hreads : ∀ r ∈ reads, r.res = .clean) :
    s.transmitStart k sub m reads =
      if (q.head.segs.any fun g => (s.countGateWaits k).isPoisoned (chipOf k) g.seg) = true then
        ((s.countGateWaits k).pickDiscarded q).checkHead q.head.port q.head.cls q.head.fg
      else (s.countGateWaits k).startFrame k q sub m := by
  have hclean : (reads.filter fun r => q.head.segs.any fun g => decide (g.seg = r.seg)).foldl
      (fun s r => s.segRead (chipOf k) r) (s.countGateWaits k) = s.countGateWaits k :=
    State.foldl_segRead_clean fun r hr => hreads r (List.mem_of_mem_filter hr)
  unfold State.transmitStart
  rw [if_pos (by simp [hlead, hmay, howed])]
  dsimp only
  rw [hpick]
  dsimp only
  rw [hclean]
  rfl

theorem State.transmitStart_none (h : s.isLead k = false ∨ s.mayStart k = false ∨ s.pfcOwed k = true) :
    s.transmitStart k sub m reads = s := by
  unfold State.transmitStart
  rw [if_neg]
  obtain h | h | h := h <;> simp [h]

/-! ### A frame that starts -/

/-- A frame that is no PTP event message and keeps no CFH is sent as it is buffered, with its FCS. -/
theorem State.sentFrame_plain {tx : Int} (hcfh : p.cfhKept = false) (hptp : ptpEvent p.bytes = none) :
    s.sentFrame l p tx = (refcs p.bytes, s) := by
  unfold State.sentFrame
  simp only [hcfh, Bool.false_eq_true, if_false, hptp, Bool.false_and]
  split <;> rfl

/-- A frame put in transmission at a port, with the bytes sent. -/
def State.inTransmission (s : State) (k : Nat) (q : Pick) (f : List Byte) : State :=
  s.setPort k { s.port k with tx := some { pkt := q.head.pkt, segs := q.head.segs, queue := q.head.port }, lastFrame := f }

theorem State.startFrame_eq (h : s.pkt q.head.pkt = some p) : ∃ tx, s.startFrame k q sub m =
    ((s.takeHead k q).sentFrame k p tx).2.inTransmission k q ((s.takeHead k q).sentFrame k p tx).1 := by
  unfold State.startFrame
  dsimp only
  rw [h]
  exact ⟨_, rfl⟩

/-- With the gates of its bundle off, a frame that is picked leaves its queue and nothing follows it. -/
theorem State.takeHead_off (h : (s.port (s.lead q.head.port)).gates.on = false) : ∃ x : Port,
    s.takeHead k q = (s.setQueue q.head.port q.head.cls q.head.fg
      (s.queue q.head.port q.head.cls q.head.fg).tail).setPort k x := by
  obtain ⟨x, hon, htx, heq⟩ := State.takeHead_eq (s := s) (l := k) (q := q)
  refine ⟨x, heq.trans (State.checkHead_off ?_)⟩
  have hsame : SameTx s ((s.setQueue q.head.port q.head.cls q.head.fg
      (s.queue q.head.port q.head.cls q.head.fg).tail).setPort k x) := .trans (.of_ports rfl) (.setPort hon htx)
  exact (hsame _).1.trans h

theorem State.takeHead_off_queue (h : (s.port (s.lead q.head.port)).gates.on = false) (hport : q.head.port < 512) :
    (s.takeHead k q).queue q.head.port q.head.cls q.head.fg = (s.queue q.head.port q.head.cls q.head.fg).tail ∧
      (∀ j, j ≠ k → (s.takeHead k q).port j = s.port j) ∧ OnlyParts [.ports, .chips] s (s.takeHead k q) := by
  obtain ⟨x, heq⟩ := State.takeHead_off (k := k) h
  rw [heq]
  exact ⟨State.setQueue_queue_same hport, fun j hj => State.setPort_port_other hj,
    State.setPort_parts (by simp) (State.setQueue_parts (by simp) .refl)⟩

theorem State.sentFrame_part {tx : Int} : OnlyParts [.regs, .ctrs, .cmd, .tim] s (s.sentFrame l p tx).2 :=
  State.sentFrame_parts (List.Subset.refl _) .refl

theorem State.inTransmission_part {f : List Byte} : OnlyParts [.ports] s (s.inTransmission k q f) :=
  State.setPort_parts (by simp) .refl

theorem State.inTransmission_other {f : List Byte} {j : Nat} (hj : j ≠ k) :
    (s.inTransmission k q f).port j = s.port j := State.setPort_port_other hj

/-- What the start of a frame does: its queue, its port, and nothing of packets or burst transport. -/
theorem State.startFrame_started (hp : s.pkt q.head.pkt = some p) (hgates : (s.port (s.lead q.head.port)).gates.on = false)
    (hport : q.head.port < 512) :
    let t := s.startFrame k q sub m
    (t.port k).tx = some { pkt := q.head.pkt, segs := q.head.segs, queue := q.head.port } ∧
    (p.cfhKept = false → ptpEvent p.bytes = none → (t.port k).lastFrame = refcs p.bytes) ∧
    t.queue q.head.port q.head.cls q.head.fg = (s.queue q.head.port q.head.cls q.head.fg).tail ∧
    (∀ j, j ≠ k → t.port j = s.port j) ∧ OnlyParts [.regs, .ctrs, .cmd, .tim, .ports, .chips] s t := by
  obtain ⟨tx, heq⟩ := State.startFrame_eq (k := k) (sub := sub) (m := m) hp
  obtain ⟨hqueue, hothers, hparts⟩ := State.takeHead_off_queue (k := k) hgates hport
  have hsent := State.sentFrame_part (s := s.takeHead k q) (l := k) (p := p) (tx := tx)
  dsimp only
  rw [heq]
  refine ⟨?_, fun hcfh hptp => ?_, ?_, fun j hj => ?_, ?_⟩
  · rw [State.inTransmission, State.setPort_port_same]
  · rw [State.inTransmission, State.setPort_port_same, State.sentFrame_plain hcfh hptp]
  · rw [State.queue_congr (State.inTransmission_part .chips (by simp)), State.queue_congr (hsent .chips (by simp)), hqueue]
  · rw [State.inTransmission_other hj, State.port_congr (hsent .ports (by simp)), hothers j hj]
  · exact (hparts.mono (by simp)).trans ((hsent.mono (by simp)).trans (State.inTransmission_part.mono (by simp)))

/-! ### A frame that reads uncorrectable (R329) -/

theorem State.discardEgress_part {r : Nat} : OnlyParts [.brt, .pkts, .chips] s (s.discardEgress k n r segs) :=
  State.discardEgress_parts (List.Subset.refl _) .refl

theorem State.discardEgress_pkt {r : Nat} : (s.discardEgress k n r segs).pkt n = none := State.dropPkt_pkt

theorem State.discardEgress_ledger {r : Nat} (hk : k < 512) :
    (s.discardEgress k n r segs).ledger (chipOf k) = (s.ledger (chipOf k)).apply (.discard r 1) := by
  have hc : chipOf k < 16 := chipOf_lt ⟨k, hk⟩
  rw [State.discardEgress, State.ledger_congr State.dropPkt_brt, State.countDiscard, State.ledgerEvent_ledger_same hc,
    State.ledger_congr State.freeHold_brt]

theorem State.discardEgress_queue {r : Nat} (hj : j < 512) :
    (s.discardEgress j n r segs).queue k cls fg = s.queue k cls fg :=
  (State.queue_congr rfl).trans (State.freeHold_queue hj)

theorem State.setQueue_part {xs : List (Nat × List SegRef)} : OnlyParts [.chips] s (s.setQueue k cls fg xs) :=
  State.setQueue_parts (List.Subset.refl _) .refl

theorem State.loseDeficit_part : OnlyParts [.ports] s (s.loseDeficit k cls fg) :=
  State.loseDeficit_parts (List.Subset.refl _) .refl

theorem State.pickDiscarded_tx : SameTx s (s.pickDiscarded q) :=
  SameTx.trans (SameTx.trans (.of_ports (State.setQueue_part .ports (by simp))) State.loseDeficit_tx)
    (.of_ports (State.discardEgress_part .ports (by simp)))

theorem State.pickDiscarded_part : OnlyParts [.brt, .pkts, .ports, .chips] s (s.pickDiscarded q) :=
  State.discardEgress_parts (by simp) (State.loseDeficit_parts (by simp) (State.setQueue_parts (by simp) .refl))

/-- The packet picked leaves the device, its chiplet's ledger and its queue. -/
theorem State.pickDiscarded_gone (hport : q.head.port < 512) :
    (s.pickDiscarded q).pkt q.head.pkt = none ∧
    (s.pickDiscarded q).ledger (chipOf q.head.port) = (s.ledger (chipOf q.head.port)).apply (.discard drDramEcc 1) ∧
    (s.pickDiscarded q).queue q.head.port q.head.cls q.head.fg = (s.queue q.head.port q.head.cls q.head.fg).tail := by
  refine ⟨State.discardEgress_pkt, ?_, ?_⟩
  · rw [State.pickDiscarded, State.discardEgress_ledger hport, State.ledger_congr State.loseDeficit_brt,
      State.ledger_congr State.setQueue_brt]
  · rw [State.pickDiscarded, State.discardEgress_queue hport, State.queue_congr (State.loseDeficit_part .chips (by simp)),
      State.setQueue_queue_same hport]

/-- With the gates of its bundle off, nothing follows a frame that is discarded. -/
theorem State.pickDiscarded_checkHead (h : (s.port (s.lead q.head.port)).gates.on = false) :
    (s.pickDiscarded q).checkHead q.head.port q.head.cls q.head.fg = s.pickDiscarded q :=
  State.checkHead_off (by
    rw [State.lead_congr (State.pickDiscarded_part .regs (by simp))]
    exact (State.pickDiscarded_tx _).1.trans h)

/-! ### FramesSent -/

/-- Settles O31: each command by the equation of its case; the scheduler's pick is one step before the frame starts. -/
theorem framesSent : Obligations.FramesSent := by
  unfold Obligations.FramesSent
  intro quanta
  have hquanta (s : State) (k : Nat) : quanta (s.pfcFrame k).1 s k := State.pfcFrame_quanta
  refine ⟨?start, ?noStart, ?sent, ?noFrame, ?pfc, ?refresh, ?noPfc, ?noRefresh, ?reply, ?noReply⟩
  case start =>
    intro s k sub m reads q p hlead hmay howed hpick hpkt hport hgates hreads
    have hwait := State.countGateWaits_part (s := s) (l := k)
    have hchips : (s.countGateWaits k).chips = s.chips := hwait .chips (by simp)
    have hgates' : ((s.countGateWaits k).port ((s.countGateWaits k).lead q.head.port)).gates.on = false := by
      rw [State.lead_congr (hwait .regs (by simp))]
      exact (State.countGateWaits_tx _).1.trans hgates
    have hqueue : (s.countGateWaits k).queue q.head.port q.head.cls q.head.fg = s.queue q.head.port q.head.cls q.head.fg :=
      State.queue_congr hchips
    have hpick' := State.transmitStart_pick (sub := sub) (m := m) hlead hmay howed hpick hreads
    simp only [State.isPoisoned_congr hchips] at hpick'
    refine ⟨fun hgood => ?good, fun hbad => ?bad⟩
    case good =>
      rw [if_neg (by simpa using hgood)] at hpick'
      obtain ⟨htx, hframe, hq, hothers, hparts⟩ := State.startFrame_started (k := k) (sub := sub) (m := m)
        ((State.pkt_congr (hwait .pkts (by simp))).trans hpkt) hgates' hport
      have hall := (hwait.mono (by simp)).trans hparts
      refine ⟨_, congrArg Host.Outcome.next hpick', htx, hframe, hall .pkts (by simp), hall .brt (by simp), hq.trans ?_,
        fun j hj => (hothers j hj).trans (State.countGateWaits_port_other hj), hall⟩
      rw [hqueue]
    case bad =>
      rw [if_pos (by simpa using hbad), State.pickDiscarded_checkHead hgates'] at hpick'
      obtain ⟨hgone, hledger, hq⟩ := State.pickDiscarded_gone (s := s.countGateWaits k) hport
      refine ⟨_, congrArg Host.Outcome.next hpick', ?_, hgone, ?_, ?_, ?_⟩
      · exact (State.pickDiscarded_tx _).2.trans (State.countGateWaits_tx _).2
      · rw [hledger, State.ledger_congr State.countGateWaits_brt]
      · rw [hq, hqueue]
      · exact (hwait.mono (by simp)).trans (State.pickDiscarded_part.mono (by simp))
  case noStart => exact fun s k sub m reads h => congrArg Host.Outcome.next (State.transmitStart_none h)
  case sent =>
    intro s k x htx
    have hpkts : ((s.frameGone k x).startLf k).pkts = (s.frameGone k x).pkts := State.startLf_frame.1 .pkts (by simp)
    have hxing : ((s.frameGone k x).startLf k).xing = (s.frameGone k x).xing := State.startLf_frame.1 .xing (by simp)
    refine ⟨_, congrArg Host.Outcome.next (State.frameSent_eq htx), ?_, ?_, ?_, ?_, ?_, ?_, ?_, ?_⟩
    · rw [State.startLf_port, State.frameGone_port_same]
    · exact (State.pkt_congr hpkts).trans State.frameGone_pkt
    · exact (State.startLf_frame.2.2 _ (by simp)).trans State.frameGone_counted
    · exact (State.crossing_congr hxing).trans State.frameGone_crossing
    · intro hsafe
      rw [State.startLf_service (by rw [State.frameGone_sources.flt, hsafe]), State.frameGone_port_same]
    · exact fun hsafe hlead hacts howed => State.frameSent_txLf hsafe hlead hacts howed
    · intro j hj
      rw [State.startLf_port_other hj, State.frameGone_port, State.setPort_port_other hj]
    · exact State.frameGone_frame.trans (State.startLf_frame.mono (by simp) (by simp) (by simp))
  case noFrame => exact fun s k h => congrArg Host.Outcome.next (State.frameSent_none h)
  case pfc =>
    intro s k hmay howed
    have hport : (((s.sendPfc k).startLf k).port k).pfcSent = s.xoffBits k ∧
        (((s.sendPfc k).startLf k).port k).lastFrame = (s.pfcFrame k).1 := by
      rw [State.startLf_port, State.sendPfc_port]
      exact ⟨rfl, rfl⟩
    refine ⟨_, congrArg Host.Outcome.next (State.pfcSend_starts hmay howed), hport.1, ?_, ?_, State.pfcSend_txLf hmay, ?_, ?_⟩
    · rw [hport.2]
      exact hquanta s k
    · exact (State.startLf_frame.2.2 _ (by simp)).trans State.sendPfc_counted
    · exact fun j hj => (State.startLf_port_other hj).trans (State.sendPfc_port_other hj)
    · exact State.sendPfc_frame.trans (State.startLf_frame.mono (by simp) (by simp) (by simp))
  case refresh =>
    intro s k hmay hen hsent howed
    refine ⟨_, congrArg Host.Outcome.next (State.pfcRefresh_starts hmay hen hsent howed), ?_, ?_,
      fun j hj => State.sendPfc_port_other hj, State.sendPfc_counted, State.sendPfc_frame⟩
    · rw [State.sendPfc_port, State.pfcShown, State.xoffBits_of_not_owed hen howed]
    · rw [State.sendPfc_port]
      exact hquanta s k
  case noPfc => exact fun s k h => congrArg Host.Outcome.next (State.pfcSend_none h)
  case noRefresh => exact fun s k h => congrArg Host.Outcome.next (State.pfcRefresh_none h)
  case reply =>
    intro s k f rest hreplies hlead hmay howed hheld
    refine ⟨_, congrArg Host.Outcome.next (State.commandReply_sent hreplies hlead hmay howed hheld), ?_, fun j hj => ?_, ?_, ?_⟩
    · exact State.setPort_port_same
    · exact State.setPort_port_other hj
    · exact State.bump_ctr_same
    · exact Frame.bump (.of_parts (State.setPort_parts (List.Subset.refl _) .refl) (by simp) (by simp)) (by simp)
  case noReply => exact fun s k h => congrArg Host.Outcome.next (State.commandReply_none h)

end Sys2Proof.Machine

/-! SUPPORT. Gaps at the egress (R239 to R242): a gap declared, a gap that waits, and what a release keeps of a gap. -/

namespace Sys2Proof.Machine

open Sys2Proof

variable {s t u : State} {c i j k l n seq : Nat} {x : EgrPair} {segs : List SegRef} {m : Msg}

/-! ### The egress side of a pair -/

theorem State.egrPair_congr (h : t.brt = s.brt) : t.egrPair i j = s.egrPair i j := by
  unfold State.egrPair
  rw [h]

theorem State.setEgrPair_egrPair : (s.setEgrPair i j x).egrPair i j = x := Sparse.get_set_same _ _ _ _

theorem State.send_egrPair : (s.send m).egrPair i j = s.egrPair i j := by
  unfold State.send
  split <;> rfl

/-! ### Chiplets in operation -/

theorem State.chipAlive_congr (hglb : t.glb = s.glb) (hlost : (t.chip c).lost = (s.chip c).lost) :
    t.chipAlive c = s.chipAlive c := by
  unfold State.chipAlive State.chipOn State.domOn
  rw [hglb, hlost]

theorem Chip.freeSegs_lost {x : Chip} {gs : List (BitVec 32)} : (x.freeSegs gs).lost = x.lost := by
  have hone (y : Chip) (g : BitVec 32) : (y.freeSeg g).lost = y.lost := by
    unfold Chip.freeSeg Chip.setRegion
    dsimp only
    repeat' split
    all_goals rfl
  unfold Chip.freeSegs
  induction gs generalizing x with
  | nil => rfl
  | cons g gs ih => exact ih.trans (hone x g)

theorem Chip.foldl_left_lost {x : Chip} : (segs.foldl (fun (x : Chip) g => x.left (jk k g.cls) 1) x).lost = x.lost := by
  induction segs generalizing x with
  | nil => rfl
  | cons g gs ih => exact ih

theorem State.freeHold_lost (hj : j < 512) : ((s.freeHold j segs).chip c).lost = (s.chip c).lost := by
  have hc : chipOf j < 16 := chipOf_lt ⟨j, hj⟩
  by_cases h : c = chipOf j
  · rw [h, State.freeHold, State.setChip_chip_same hc, Chip.freeSegs_lost, Chip.foldl_left_lost]
  · rw [State.freeHold, State.setChip_chip_other h]

/-! ### A gap declared (R240, R241) -/

/-- The pair after its gap. -/
def EgrPair.afterGap (x : EgrPair) : EgrPair :=
  { x with
    e := (x.e + x.gapSeqs.length) % 65536
    learned := x.learned.filter fun p => !x.gapSeqs.contains p.1
    causes := x.causes.filter fun p => !x.gapSeqs.contains p.1
    gapped := (x.gapSeqs ++ x.gapped).take 8192
    part := []
    dropping := true }

/-- The packets of the gap's bursts, discarded or marked. -/
def State.gapDiscards (s : State) (i j : Nat) : State :=
  (s.egrPair i j).gapSeqs.foldl
    (fun u q => (u.burstPkts i j q).foldl (fun u n => u.gapPacket j ((s.egrPair i j).causeOf q) n) u) s

/-- A gap declared, before GAP leaves. -/
def State.gapEnded (s : State) (i j : Nat) : State :=
  ((s.gapDiscards i j).freeHold j (s.egrPair i j).part).setEgrPair i j (s.egrPair i j).afterGap

/-- The message of a gap. -/
def EgrPair.gapMsg (x : EgrPair) (i j : Nat) : Msg := .gap i j (x.gapSeqs.map fun q => (q, x.causeOf q))

theorem State.declareGap_eq : s.declareGap i j =
    (((s.gapEnded i j).send ((s.egrPair i j).gapMsg i j)).bump 0xE0008C 1).irqIf Reg.BRT_CTRL 1 11 := rfl

theorem State.gapDiscards_parts : OnlyParts [.brt, .pkts] s (s.gapDiscards i j) :=
  OnlyParts.foldl (fun _ _ h => OnlyParts.foldl (fun _ _ h => State.gapPacket_parts (List.Subset.refl _) h) h) .refl

theorem State.gapEnded_parts : OnlyParts [.brt, .pkts, .chips] s (s.gapEnded i j) :=
  State.setEgrPair_parts (by simp) (State.freeHold_parts (by simp) (State.gapDiscards_parts.mono (by simp)))

theorem State.gapEnded_chipAlive (hj : j < 512) : (s.gapEnded i j).chipAlive c = s.chipAlive c := by
  have hlost : ((s.gapEnded i j).chip c).lost = (((s.gapDiscards i j).freeHold j (s.egrPair i j).part).chip c).lost :=
    congrArg Chip.lost (State.chip_congr (State.setEgrPair_parts (List.Subset.refl _) .refl .chips (by simp)))
  refine State.chipAlive_congr (State.gapEnded_parts .glb (by simp)) ?_
  rw [hlost, State.freeHold_lost hj, State.chip_congr (State.gapDiscards_parts .chips (by simp))]

/-- What a gap declared shows: it is counted, it covers the SEQs from E, and GAP goes to an ingress in operation. -/
def GapDeclared (s t : State) (i j : Nat) (x : EgrPair) : Prop :=
  t.ctr 0xE0008C = s.ctr 0xE0008C + 1 ∧ (t.egrPair i j).gapped = (x.gapSeqs ++ x.gapped).take 8192 ∧
  (s.chipAlive (chipOf i) = true → s.chipAlive (chipOf j) = true → x.gapMsg i j ∈ t.brt.mesh)

theorem State.declareGap_egrPair : (s.declareGap i j).egrPair i j = (s.egrPair i j).afterGap := by
  rw [State.declareGap_eq, State.egrPair_congr State.irqIf_brt, State.egrPair_congr State.bump_brt, State.send_egrPair,
    State.gapEnded, State.setEgrPair_egrPair]

theorem State.declareGap_ctr : (s.declareGap i j).ctr 0xE0008C = s.ctr 0xE0008C + 1 := by
  have hsend : OnlyParts [.brt, .pkts, .chips] s ((s.gapEnded i j).send ((s.egrPair i j).gapMsg i j)) :=
    State.send_parts (by simp) State.gapEnded_parts
  have hctr := (Frame.of_parts hsend (as := []) (cs := []) (by simp) (by simp)).2.2 0xE0008C (by simp)
  rw [State.declareGap_eq, State.irqIf_frame.2.2 _ (by simp), State.bump_ctr_same, hctr]
  rfl

theorem State.declareGap_declared (hj : j < 512) : GapDeclared s (s.declareGap i j) i j (s.egrPair i j) := by
  refine ⟨State.declareGap_ctr, congrArg EgrPair.gapped State.declareGap_egrPair, fun hi hj' => ?_⟩
  have halive : ((s.gapEnded i j).chipAlive (chipOf i) && (s.gapEnded i j).chipAlive (chipOf j)) = true := by
    rw [State.gapEnded_chipAlive hj, State.gapEnded_chipAlive hj, hi, hj']
    rfl
  rw [State.declareGap_eq, State.irqIf_brt, State.bump_brt, State.send_mesh]
  exact List.mem_append_right _ (by simp [EgrPair.gapMsg, Msg.ends, halive])

/-! ### A gap that is due (R240) -/

theorem State.gapDueNow_declares (hmiss : (s.egrPair i j).missing seq = true)
    (hheld : (s.egrPair i j).holds (s.egrPair i j).e = false) : s.gapDueNow i j seq = s.declareGap i j := by
  simp [State.gapDueNow, hmiss, hheld]

/-- A gap that waits for the burst at E. -/
def EgrPair.awaits (x : EgrPair) (seq : Nat) : EgrPair :=
  { x with gapDue := if x.gapDue.contains seq then x.gapDue else x.gapDue ++ [seq] }

theorem EgrPair.mem_awaits : seq ∈ (x.awaits seq).gapDue := by
  unfold EgrPair.awaits
  dsimp only
  split
  · simpa using ‹x.gapDue.contains seq = true›
  · simp

theorem State.gapDueNow_waits (hmiss : (s.egrPair i j).missing seq = true)
    (hheld : (s.egrPair i j).holds (s.egrPair i j).e = true) :
    s.gapDueNow i j seq = s.setEgrPair i j ((s.egrPair i j).awaits seq) := by
  simp only [State.gapDueNow, hmiss, hheld, EgrPair.awaits, Bool.not_true, Bool.false_eq_true, if_false, if_true]

/-! ### GAP_REQUEST (R240) -/

/-- A missing SEQ makes a gap due, with the cause that the ingress gave. -/
def EgrPair.withCause (x : EgrPair) (seq : Nat) (g : GapCause) : EgrPair := { x with causes := x.causes ++ [(seq, g)] }

/-- The state in which the gap of a GAP_REQUEST is due. -/
def State.gapRequested (s : State) (i j seq : Nat) (g : GapCause) (rest : List Msg) : State :=
  (s.meshLeft rest).setEgrPair i j ((s.egrPair i j).withCause seq g)

section Request

variable {rest : List Msg} {g : GapCause}

theorem State.gapRequest_oldest (h : Oldest (fun x => ∃ a b, x = .gapReq i j a b) s.brt.mesh (.gapReq i j seq g) rest) :
    s.gapRequest i j =
      if (s.egrPair i j).missing seq then (s.gapRequested i j seq g rest).gapDueNow i j seq
      else if (s.egrPair i j).gapped.contains seq && !(s.egrPair i j).holds seq then s.meshLeft rest
      else (s.meshLeft rest).send (.ack i j seq) := by
  unfold State.gapRequest
  rw [State.recv_oldest h]
  · rfl
  · intro x
    cases x <;> simp

theorem State.gapRequested_egrPair : (s.gapRequested i j seq g rest).egrPair i j = (s.egrPair i j).withCause seq g :=
  State.setEgrPair_egrPair

theorem State.gapRequested_parts : OnlyParts [.brt] s (s.gapRequested i j seq g rest) :=
  State.setEgrPair_parts (by simp) (OnlyParts.set_brt (by simp) .refl)

/-- What happens before, and touches neither counters nor chiplets, is no part of what a gap shows. -/
theorem GapDeclared.of_brt (hbrt : OnlyParts [.brt] s t) (h : GapDeclared t u i j x) : GapDeclared s u i j x := by
  obtain ⟨hctr, hgapped, hmsg⟩ := h
  have halive (c : Nat) : t.chipAlive c = s.chipAlive c :=
    State.chipAlive_congr (hbrt .glb (by simp)) (congrArg Chip.lost (State.chip_congr (hbrt .chips (by simp))))
  have hsame := (Frame.of_parts hbrt (as := []) (cs := []) (by simp) (by simp)).2.2 0xE0008C (by simp)
  rw [halive, halive] at hmsg
  exact ⟨by rw [hctr, hsame], hgapped, hmsg⟩

/-- A GAP_REQUEST for a missing SEQ, with the burst at E not accepted. -/
theorem State.gapRequested_declares (hmiss : (s.egrPair i j).missing seq = true)
    (hheld : (s.egrPair i j).holds (s.egrPair i j).e = false) :
    (s.gapRequested i j seq g rest).gapDueNow i j seq = (s.gapRequested i j seq g rest).declareGap i j := by
  refine State.gapDueNow_declares ?_ ?_ <;> rw [State.gapRequested_egrPair]
  · exact hmiss
  · exact hheld

/-- A GAP_REQUEST for a missing SEQ, with the burst at E accepted. -/
theorem State.gapRequested_waits (hmiss : (s.egrPair i j).missing seq = true)
    (hheld : (s.egrPair i j).holds (s.egrPair i j).e = true) :
    (s.gapRequested i j seq g rest).gapDueNow i j seq =
      (s.gapRequested i j seq g rest).setEgrPair i j (((s.egrPair i j).withCause seq g).awaits seq) := by
  rw [State.gapDueNow_waits, State.gapRequested_egrPair] <;> rw [State.gapRequested_egrPair]
  · exact hmiss
  · exact hheld

end Request

/-! ### What a release keeps of a gap (R239) -/

/-- The gaps counted, the SEQs that they cover and the messages on their way stay. -/
structure GapKept (i j : Nat) (s t : State) : Prop where
  ctr : t.ctr 0xE0008C = s.ctr 0xE0008C
  gapped : (t.egrPair i j).gapped = (s.egrPair i j).gapped
  mesh : t.brt.mesh = s.brt.mesh

theorem GapKept.refl : GapKept i j s s := ⟨rfl, rfl, rfl⟩

theorem GapKept.trans (h : GapKept i j s t) (h' : GapKept i j t u) : GapKept i j s u :=
  ⟨h'.ctr.trans h.ctr, h'.gapped.trans h.gapped, h'.mesh.trans h.mesh⟩

theorem GapKept.of_frame {ps : List Part} {as cs : List Nat} (hf : Frame ps as cs s t) (hp : Part.brt ∉ .regs :: .ctrs :: ps)
    (hc : 0xE0008C ∉ cs) : GapKept i j s t :=
  have hbrt : t.brt = s.brt := hf.1 .brt hp
  ⟨hf.2.2 _ hc, congrArg EgrPair.gapped (State.egrPair_congr hbrt), by rw [hbrt]⟩

/-- An operation on packets, chiplets and ports only. -/
theorem GapKept.of_parts (h : OnlyParts [.pkts, .ports, .chips] s t) : GapKept i j s t :=
  .of_frame (Frame.of_parts h (as := []) (cs := []) (by simp) (by simp)) (by simp) (by simp)

theorem GapKept.setEgrPair (h : x.gapped = (s.egrPair i j).gapped) : GapKept i j s (s.setEgrPair i j x) :=
  ⟨rfl, (congrArg EgrPair.gapped State.setEgrPair_egrPair).trans h, rfl⟩

theorem GapKept.countDiscard {r : Nat} : GapKept i j s (s.countDiscard c r) := ⟨rfl, rfl, rfl⟩

theorem GapKept.freeHold : GapKept i j s (s.freeHold k segs) := .of_parts (State.freeHold_parts (by simp) .refl)

theorem GapKept.dropPkt : GapKept i j s (s.dropPkt n) := .of_parts (State.dropPkt_parts (by simp) .refl)

/-- The counters of egress ports lie above those of burst transport. -/
theorem quePort_ne_gaps {o : Nat} : 0xE0008C ≠ quePort k o := by
  unfold quePort
  omega

/-- A head that no window admits is discarded (R363). -/
theorem State.headDiscarded_kept {q : List (Nat × List SegRef)} {cls fg : Nat} :
    GapKept i j s (((((s.setQueue k cls fg q).loseDeficit k cls fg).discardEgress k n drOversize segs).bump
      (quePort l 0x1C0) 1).irqIf (queReg (chipOf k) Reg.QUE_CTRL) 1 (16 + chipOf k)) := by
  have hqueue : GapKept i j s ((s.setQueue k cls fg q).loseDeficit k cls fg) :=
    .of_parts (State.loseDeficit_parts (by simp) (State.setQueue_parts (by simp) .refl))
  have hdrop {v : State} : GapKept i j v (v.discardEgress k n drOversize segs) :=
    GapKept.freeHold.trans (GapKept.countDiscard.trans GapKept.dropPkt)
  have hbump {v : State} : GapKept i j v (v.bump (quePort l 0x1C0) 1) :=
    .of_frame (Frame.refl (ps := []) (as := []).bump (List.mem_singleton_self _)) (by simp) (by simpa using quePort_ne_gaps)
  exact ((hqueue.trans hdrop).trans hbump).trans (.of_frame State.irqIf_frame (by simp) (by simp))

theorem GapKept.headCheck {cls fg f : Nat} : GapKept i j s (s.headCheck k cls fg f) := by
  induction f generalizing s with
  | zero => exact .refl
  | succ f ih =>
    simp only [State.headCheck]
    split
    · exact .refl
    · split
      · exact State.headDiscarded_kept.trans ih
      · exact .refl

theorem GapKept.enqueue {cls fg : Nat} : GapKept i j s (s.enqueue k cls fg n segs) := by
  have hqueue {q : List (Nat × List SegRef)} : GapKept i j s (s.setQueue k cls fg q) :=
    .of_parts (State.setQueue_parts (by simp) .refl)
  unfold State.enqueue
  dsimp only
  split
  · exact hqueue.trans .headCheck
  · exact hqueue

/-- A segment dropped with a packet that a gap took. -/
def State.feedDrop (s : State) (j : Nat) (g : SegRef) : State :=
  match (s.freeHold j [g]).pkt g.pkt with
  | some p =>
    if g.eop && p.moved then ((s.freeHold j [g]).countDiscard (chipOf j) drGapTimeout).dropPkt g.pkt else s.freeHold j [g]
  | none => s.freeHold j [g]

/-- The segments of a whole frame join their egress queue. -/
def State.feedDone (s : State) (j : Nat) (g : SegRef) (segs : List SegRef) : State :=
  match s.pkt g.pkt with
  | some p => s.enqueue j p.cls p.fg g.pkt segs
  | none => s.freeHold j segs

/-- The packet of a segment is in the device, and no gap took it. -/
def State.keepsSeg (s : State) (g : SegRef) : Bool :=
  match s.pkt g.pkt with
  | some p => !p.gone
  | none => false

section Feed

variable {g : SegRef}

theorem State.feed_eq : s.feed i j g =
    if g.sop then
      if s.keepsSeg g then
        if g.eop then
          ((s.freeHold j (s.egrPair i j).part).setEgrPair i j
            { s.egrPair i j with part := [], dropping := false }).feedDone j g [g]
        else (s.freeHold j (s.egrPair i j).part).setEgrPair i j { s.egrPair i j with part := [g], dropping := false }
      else
        ((s.freeHold j (s.egrPair i j).part).setEgrPair i j { s.egrPair i j with part := [], dropping := true }).feedDrop j g
    else if (s.egrPair i j).dropping || !s.keepsSeg g || (s.egrPair i j).part.all (fun h => decide (h.pkt ≠ g.pkt)) then
      s.feedDrop j g
    else if g.eop then (s.setEgrPair i j { s.egrPair i j with part := [] }).feedDone j g ((s.egrPair i j).part ++ [g])
    else s.setEgrPair i j { s.egrPair i j with part := (s.egrPair i j).part ++ [g] } := rfl

theorem GapKept.feedDrop : GapKept i j s (s.feedDrop k g) := by
  unfold State.feedDrop
  split
  · split
    · exact GapKept.freeHold.trans (GapKept.countDiscard.trans .dropPkt)
    · exact .freeHold
  · exact .freeHold

theorem GapKept.feedDone : GapKept i j s (s.feedDone k g segs) := by
  unfold State.feedDone
  split
  · exact .enqueue
  · exact .freeHold

theorem GapKept.feed : GapKept i j s (s.feed i j g) := by
  have hpart {y : EgrPair} (hy : y.gapped = (s.egrPair i j).gapped) :
      GapKept i j s ((s.freeHold j (s.egrPair i j).part).setEgrPair i j y) :=
    GapKept.freeHold.trans (.setEgrPair (hy.trans GapKept.freeHold.gapped.symm))
  rw [State.feed_eq]
  split
  · split
    · split
      · exact (hpart (by rfl)).trans .feedDone
      · exact hpart rfl
    · exact (hpart (by rfl)).trans .feedDrop
  · split
    · exact .feedDrop
    · split
      · exact (GapKept.setEgrPair (by rfl)).trans .feedDone
      · exact .setEgrPair rfl

end Feed

theorem GapKept.feedAll : GapKept i j s (s.feedAll i j segs) := by
  unfold State.feedAll
  induction segs generalizing s with
  | nil => exact .refl
  | cons g gs ih => exact GapKept.feed.trans ih

theorem GapKept.release {f : Nat} : GapKept i j s (s.release i j f) := by
  induction f generalizing s with
  | zero => exact .refl
  | succ f ih =>
    simp only [State.release]
    split
    · exact .refl
    · exact (GapKept.setEgrPair (by rfl)).trans (GapKept.feedAll.trans ih)

/-- What a gap declared shows still shows after a release. -/
theorem GapDeclared.kept (h : GapDeclared s t i j x) (hk : GapKept i j t u) : GapDeclared s u i j x := by
  obtain ⟨hctr, hgapped, hmsg⟩ := h
  exact ⟨hk.ctr.trans hctr, hk.gapped.trans hgapped, fun hi hj => hk.mesh ▸ hmsg hi hj⟩

/-- Nothing leaves while the burst at E awaits its transfer boundary. -/
theorem State.releaseAll_none (h : ∀ b ∈ (s.egrPair i j).held, b.seq = (s.egrPair i j).e → b.passed = false) :
    s.releaseAll i j = s := by
  have hnone : ((s.egrPair i j).held.find? fun b => decide (b.seq = (s.egrPair i j).e) && b.passed) = none := by
    simpa using h
  simp only [State.releaseAll, State.release, hnone]

/-! ### GAP_TIMEOUT (R240, R242) -/

theorem State.gapTimeout_due {p : Nat × Nat} (h : (s.egrPair i j).learned.find?
      (fun p => (s.egrPair i j).missing p.1 && decide (p.2 + gapLimit ≤ s.gapNow)) = some p) :
    s.gapTimeout i j = s.gapAtBoundary i j p.1 ∧ (s.egrPair i j).missing p.1 = true := by
  have hp := List.find?_some h
  rw [Bool.and_eq_true] at hp
  exact ⟨by simp only [State.gapTimeout, h], hp.1⟩

theorem State.gapTimeout_none (h : ∀ p ∈ (s.egrPair i j).learned, s.gapNow < p.2 + 16000000) : s.gapTimeout i j = s := by
  have hnone : ((s.egrPair i j).learned.find?
      fun p => (s.egrPair i j).missing p.1 && decide (p.2 + gapLimit ≤ s.gapNow)) = none := by
    rw [List.find?_eq_none]
    intro p hp hdue
    have hlate : p.2 + 16000000 ≤ s.gapNow := of_decide_eq_true (Bool.and_eq_true_iff.1 hdue).2
    have := h p hp
    omega
  simp only [State.gapTimeout, hnone]

/-- A SEQ learned 20 ms before, with the burst at E not accepted. -/
theorem State.gapAtBoundary_declared (hj : j < 512) (hmiss : (s.egrPair i j).missing seq = true)
    (hheld : (s.egrPair i j).holds (s.egrPair i j).e = false) :
    GapDeclared s (s.gapAtBoundary i j seq) i j (s.egrPair i j) := by
  rw [State.gapAtBoundary, State.gapDueNow_declares hmiss hheld]
  exact (State.declareGap_declared hj).kept GapKept.release

/-- A SEQ learned 20 ms before, with the burst at E accepted and its transfer boundary not passed. -/
theorem State.gapAtBoundary_waits (hmiss : (s.egrPair i j).missing seq = true)
    (hheld : (s.egrPair i j).holds (s.egrPair i j).e = true)
    (hpassed : ∀ b ∈ (s.egrPair i j).held, b.seq = (s.egrPair i j).e → b.passed = false) :
    s.gapAtBoundary i j seq = s.setEgrPair i j ((s.egrPair i j).awaits seq) := by
  rw [State.gapAtBoundary, State.gapDueNow_waits hmiss hheld]
  refine State.releaseAll_none ?_
  rw [State.setEgrPair_egrPair]
  exact hpassed

end Sys2Proof.Machine

/-! SUPPORT. GAP at the ingress (R241): the bursts that leave, and their packets. -/

namespace Sys2Proof.Machine

open Sys2Proof

variable {s t u : State} {i j k n r seq : Nat} {c : GapCause} {b : IBurst} {qs : List (Nat × GapCause)}

/-! ### Packets that only leave -/

/-- Every packet is as before or has left the device. -/
def OnlyDrops (s t : State) : Prop := ∀ k, t.pkt k = none ∨ t.pkt k = s.pkt k

theorem OnlyDrops.refl : OnlyDrops s s := fun _ => .inr rfl

theorem OnlyDrops.of_pkts (h : t.pkts = s.pkts) : OnlyDrops s t := fun _ => .inr (State.pkt_congr h)

theorem OnlyDrops.trans (h : OnlyDrops s t) (h' : OnlyDrops t u) : OnlyDrops s u := fun k => by
  rcases h' k with hk | hk
  · exact .inl hk
  · rw [hk]
    exact h k

theorem OnlyDrops.foldl {α : Type} {f : State → α → State} {l : List α} (h : ∀ u a, OnlyDrops u (f u a)) :
    OnlyDrops s (l.foldl f s) := by
  induction l generalizing s with
  | nil => exact .refl
  | cons a l ih => exact (h s a).trans ih

/-- The device holds a packet that has not transferred. -/
def State.holdsUnmoved (s : State) (k : Nat) : Prop := ∃ p, s.pkt k = some p ∧ p.moved = false

theorem OnlyDrops.holdsUnmoved (h : OnlyDrops s t) (hk : t.holdsUnmoved k) : s.holdsUnmoved k := by
  obtain ⟨p, hp, hmoved⟩ := hk
  rcases h k with hnone | hsame
  · exact absurd (hnone.symm.trans hp) (by simp)
  · exact ⟨p, hsame ▸ hp, hmoved⟩

/-! ### A packet discarded at its ingress -/

theorem State.discardIngress_pkt : (s.discardIngress n r).pkt k = if k = n then none else s.pkt k := by
  unfold State.discardIngress
  split
  · rename_i hnone
    split
    · rename_i hk
      rw [hk, hnone]
    · rfl
  · rename_i p hp
    have hpkts {v : State} {q : Bool} {m : Nat} {y : Chip} (hv : v = s.setChip (chipOf p.ing) y) :
        ((if q then v.sendRelease (chipOf p.ing) p.eg p.cls m else v).countDiscard (chipOf p.ing) r).pkts = s.pkts := by
      have hsend : (v.sendRelease (chipOf p.ing) p.eg p.cls m).pkts = v.pkts :=
        State.sendRelease_parts (List.Subset.refl _) .refl .pkts (by simp)
      rw [State.countDiscard, State.ledgerEvent_frame.1 .pkts (by simp)]
      subst hv
      split
      · exact hsend
      · rfl
    rw [State.dropPkt, State.pkt, Sparse.get_erase, hpkts rfl]
    rfl

theorem State.discardIngress_ing : (s.discardIngress n r).brt.ing = s.brt.ing := by
  have hsend {v : State} {a e cls m : Nat} : (v.sendRelease a e cls m).brt.ing = v.brt.ing := by
    unfold State.sendRelease State.send
    split
    · rfl
    · split <;> rfl
  unfold State.discardIngress
  split
  · rfl
  · dsimp only
    rw [State.dropPkt_brt]
    split
    · exact hsend
    · rfl

/-- A packet of a gap burst is discarded, where it has not transferred. -/
def State.gapDrop (c : GapCause) (s : State) (n : Nat) : State :=
  match s.pkt n with
  | some p => if p.moved then s else s.discardIngress n c.reason
  | none => s

theorem State.gapDrop_drops : OnlyDrops s (s.gapDrop c n) := by
  unfold State.gapDrop
  split
  · split
    · exact .refl
    · intro k
      rw [State.discardIngress_pkt]
      split
      · exact .inl rfl
      · exact .inr rfl
  · exact .refl

theorem State.gapDrop_gone : ¬ (s.gapDrop c n).holdsUnmoved n := by
  unfold State.gapDrop
  rintro ⟨p, hp, hmoved⟩
  split at hp
  · rename_i y hy
    split at hp
    · rename_i hy'
      rw [hy, Option.some.injEq] at hp
      rw [hp, hmoved] at hy'
      exact absurd hy' (by simp)
    · simp [State.discardIngress_pkt] at hp
  · rename_i hnone
    exact absurd (hnone.symm.trans hp) (by simp)

theorem State.gapDrop_ing : (s.gapDrop c n).brt.ing = s.brt.ing := by
  unfold State.gapDrop
  split
  · split
    · rfl
    · exact State.discardIngress_ing
  · rfl

theorem State.foldl_gapDrop_ing {ns : List Nat} : (ns.foldl (State.gapDrop c) s).brt.ing = s.brt.ing := by
  induction ns generalizing s with
  | nil => rfl
  | cons n ns ih => exact ih.trans State.gapDrop_ing

theorem State.foldl_gapDrop_gone {ns : List Nat} (h : n ∈ ns) : ¬ (ns.foldl (State.gapDrop c) s).holdsUnmoved n := by
  induction ns generalizing s with
  | nil => cases h
  | cons m ns ih =>
    rcases List.mem_cons.1 h with rfl | h
    · exact fun hn => State.gapDrop_gone ((OnlyDrops.foldl fun _ _ => State.gapDrop_drops).holdsUnmoved hn)
    · exact ih h

/-! ### A gap burst -/

/-- The packets of a burst. -/
def IBurst.pktNums (b : IBurst) : List Nat := (b.segs.map fun g => g.pkt).dedup

theorem IBurst.mem_pktNums {g : SegRef} (h : g ∈ b.segs) : g.pkt ∈ b.pktNums :=
  List.mem_dedup.2 (List.mem_map_of_mem h)

/-- The ingress side of a pair without a burst; a packet of it no longer spans. -/
def IngPair.without (x : IngPair) (seq : Nat) (b : IBurst) : IngPair :=
  { x with
    bursts := x.bursts.filter fun y => decide (y.seq ≠ seq)
    span := match x.span with
      | some n => if b.pktNums.contains n then none else some n
      | none => none }

/-- The burst has left its pair, its segments are freed and its repair is withdrawn. -/
def State.burstFreed (s : State) (i j seq : Nat) (b : IBurst) : State :=
  ((s.setIngPair i j ((s.ingPair i j).without seq b)).freeSegs (chipOf i) (b.segs.map fun g => g.seg)).withdrawRepair i j seq

theorem State.gapBurst_eq (h : (s.ingPair i j).bursts.find? (fun b => decide (b.seq = seq)) = some b) :
    s.gapBurst i j seq c = b.pktNums.foldl (State.gapDrop c) (s.burstFreed i j seq b) := by
  simp only [State.gapBurst, h]
  rfl

theorem State.gapBurst_none (h : (s.ingPair i j).bursts.find? (fun b => decide (b.seq = seq)) = none) :
    s.gapBurst i j seq c = s := by
  simp only [State.gapBurst, h]

theorem State.ingPair_congr (h : t.brt.ing = s.brt.ing) : t.ingPair i j = s.ingPair i j := by
  unfold State.ingPair
  rw [h]

theorem State.burstFreed_ingPair : (s.burstFreed i j seq b).ingPair i j = (s.ingPair i j).without seq b := by
  rw [State.burstFreed, State.ingPair_congr (congrArg BrtSt.ing (State.withdrawRepair_brt.trans State.freeSegs_brt)),
    State.setIngPair_ingPair_same]

theorem State.gapBurst_bursts : ((s.gapBurst i j seq c).ingPair i j).bursts =
    (s.ingPair i j).bursts.filter fun y => decide (y.seq ≠ seq) := by
  cases h : (s.ingPair i j).bursts.find? (fun b => decide (b.seq = seq)) with
  | none =>
    rw [State.gapBurst_none h, eq_comm, List.filter_eq_self]
    simpa using h
  | some b =>
    rw [State.gapBurst_eq h, State.ingPair_congr State.foldl_gapDrop_ing, State.burstFreed_ingPair]
    rfl

theorem State.burstFreed_parts : OnlyParts [.slt, .brt, .chips] s (s.burstFreed i j seq b) :=
  State.withdrawRepair_parts (by simp) (State.freeSegs_parts (by simp) (State.setIngPair_parts (by simp) .refl))

theorem State.gapBurst_drops : OnlyDrops s (s.gapBurst i j seq c) := by
  cases h : (s.ingPair i j).bursts.find? (fun b => decide (b.seq = seq)) with
  | none =>
    rw [State.gapBurst_none h]
    exact .refl
  | some b =>
    rw [State.gapBurst_eq h]
    exact (OnlyDrops.of_pkts (State.burstFreed_parts .pkts (by simp))).trans (.foldl fun _ _ => State.gapDrop_drops)

theorem State.gapBurst_gone {g : SegRef} (h : (s.ingPair i j).bursts.find? (fun b => decide (b.seq = seq)) = some b)
    (hg : g ∈ b.segs) : ¬ (s.gapBurst i j seq c).holdsUnmoved g.pkt := by
  rw [State.gapBurst_eq h]
  exact State.foldl_gapDrop_gone (IBurst.mem_pktNums hg)

/-! ### The SEQs of a GAP -/

/-- The ingress takes the SEQs of a GAP. -/
def State.gapBursts (s : State) (i j : Nat) (qs : List (Nat × GapCause)) : State :=
  qs.foldl (fun s q => s.gapBurst i j q.1 q.2) s

theorem State.gapBursts_drops : OnlyDrops s (s.gapBursts i j qs) := OnlyDrops.foldl fun _ _ => State.gapBurst_drops

theorem State.gapBursts_bursts : ((s.gapBursts i j qs).ingPair i j).bursts =
    (s.ingPair i j).bursts.filter fun b => qs.all fun q => decide (q.1 ≠ b.seq) := by
  induction qs generalizing s with
  | nil => exact (List.filter_eq_self.2 fun _ _ => rfl).symm
  | cons q qs ih =>
    refine (ih (s := s.gapBurst i j q.1 q.2)).trans ?_
    rw [State.gapBurst_bursts, List.filter_filter]
    refine List.filter_congr fun b _ => ?_
    rw [List.all_cons, Bool.and_comm]
    simp only [ne_comm]

theorem State.gapBursts_gone {q : Nat × GapCause} {g : SegRef} (hq : q ∈ qs)
    (h : (s.ingPair i j).bursts.find? (fun b => decide (b.seq = q.1)) = some b) (hg : g ∈ b.segs) :
    ¬ (s.gapBursts i j qs).holdsUnmoved g.pkt := by
  induction qs generalizing s with
  | nil => cases hq
  | cons q' qs ih =>
    by_cases hseq : q'.1 = q.1
    · exact fun hn => State.gapBurst_gone (c := q'.2) (hseq ▸ h) hg (State.gapBursts_drops.holdsUnmoved hn)
    · have hq : q ∈ qs := (List.mem_cons.1 hq).resolve_left fun e => hseq (e ▸ rfl)
      refine ih (s := s.gapBurst i j q'.1 q'.2) hq ?_
      rw [State.gapBurst_bursts, List.find?_filter, ← h]
      refine congrArg (fun f => List.find? f _) (funext fun y => ?_)
      by_cases hy : y.seq = q.1
      · simp [hy, Ne.symm hseq]
      · simp [hy]

/-! ### GAP (R241) -/

theorem State.gap_oldest {rest : List Msg} (h : Oldest (fun x => ∃ a, x = .gap i j a) s.brt.mesh (.gap i j qs) rest) :
    s.gap i j = (s.meshLeft rest).gapBursts i j qs := by
  unfold State.gap
  rw [State.recv_oldest h]
  · simp only [State.gapTaken, and_self, if_true]
    rfl
  · intro x
    cases x <;> simp

/-- A packet of a gap burst that has not transferred leaves the device. -/
theorem State.gapBursts_pkt {q : Nat × GapCause} {g : SegRef} {p : Pkt} (hq : q ∈ qs)
    (h : (s.ingPair i j).bursts.find? (fun b => decide (b.seq = q.1)) = some b) (hg : g ∈ b.segs)
    (hp : s.pkt g.pkt = some p) (hmoved : p.moved = false) : (s.gapBursts i j qs).pkt g.pkt = none := by
  rcases State.gapBursts_drops (s := s) (i := i) (j := j) (qs := qs) g.pkt with hnone | hsame
  · exact hnone
  · exact absurd ⟨p, hsame.trans hp, hmoved⟩ (State.gapBursts_gone hq h hg)

end Sys2Proof.Machine

/-! SUPPORT. The loss of a chiplet (R248, R350): its ledger from the mirror, its packets and its chip; and the settlement of
GapsAndLoss. -/

namespace Sys2Proof.Machine

open Sys2Proof

variable {s t u : State} {c d e i j k n seq : Nat} {m : Msg}

/-! ### The ledgers, their mirror and its mark -/

/-- The ledgers, the mirror and MIRRORED stay. -/
structure BooksKept (s t : State) : Prop where
  led : t.brt.led = s.brt.led
  mirror : t.brt.mirror = s.brt.mirror
  mirrored : t.brt.mirrored = s.brt.mirrored

theorem BooksKept.refl : BooksKept s s := ⟨rfl, rfl, rfl⟩

theorem BooksKept.trans (h : BooksKept s t) (h' : BooksKept t u) : BooksKept s u :=
  ⟨h'.led.trans h.led, h'.mirror.trans h.mirror, h'.mirrored.trans h.mirrored⟩

theorem BooksKept.of_brt (h : t.brt = s.brt) : BooksKept s t := ⟨by rw [h], by rw [h], by rw [h]⟩

theorem BooksKept.foldl {α : Type} {f : State → α → State} {l : List α} (h : ∀ u a, BooksKept u (f u a)) :
    BooksKept s (l.foldl f s) := by
  induction l generalizing s with
  | nil => exact .refl
  | cons a l ih => exact (h s a).trans ih

theorem BooksKept.setEgrPair {x : EgrPair} : BooksKept s (s.setEgrPair i j x) := ⟨rfl, rfl, rfl⟩

theorem BooksKept.setCredits {x : Credits} : BooksKept s (s.setCredits c x) := ⟨rfl, rfl, rfl⟩

theorem BooksKept.sendRelease : BooksKept s (s.sendRelease c j k n) := by
  unfold State.sendRelease State.send
  split
  · exact .refl
  · split
    · exact ⟨rfl, rfl, rfl⟩
    · exact .refl

theorem BooksKept.withdraw : BooksKept s (s.withdraw c j k) := by
  unfold State.withdraw
  dsimp only
  split
  · exact .refl
  · exact (BooksKept.of_brt State.setChip_brt).trans (BooksKept.setCredits.trans .sendRelease)

theorem BooksKept.dropUntransferred : BooksKept s (s.dropUntransferred c k) := by
  unfold State.dropUntransferred
  dsimp only
  split
  · exact (BooksKept.foldl fun _ _ => .of_brt State.freeHold_brt).trans .setEgrPair
  · exact .refl

/-! ### The ledger of a lost chiplet (R248) -/

/-- The ledger at the mirror, with what was resident discarded. -/
def Ledger.afterLoss (l : Ledger) : Ledger := l.apply (.discard drDomainLoss l.resident)

theorem Ledger.afterLoss_resident {l : Ledger} : l.afterLoss.resident = 0 := by
  simp [Ledger.afterLoss, Ledger.apply, drDomainLoss]

section MirrorTakes

variable {c : Fin 16}

theorem State.mirrorTakes_led : (s.mirrorTakes c).brt.led = s.brt.led.setIfInBounds c s.brt.mirror[c].afterLoss := by
  simp [State.mirrorTakes, Ledger.afterLoss, List.getD]

theorem State.mirrorTakes_ledger_same : (s.mirrorTakes c).ledger c = s.brt.mirror[c].afterLoss := by
  simp [State.ledger, State.mirrorTakes_led, List.getD]

theorem State.mirrorTakes_ledger_other {d : Fin 16} (h : d ≠ c) : (s.mirrorTakes c).ledger d = s.ledger d := by
  simp [State.ledger, State.mirrorTakes_led, List.getD, Fin.val_ne_of_ne h.symm]

theorem State.mirrorTakes_mirror : (s.mirrorTakes c).brt.mirror[c] = s.brt.mirror[c].afterLoss := by
  simp [State.mirrorTakes, Ledger.afterLoss, List.getD]

theorem State.mirrorTakes_mirrored : (s.mirrorTakes c).brt.mirrored.getLsbD c = true := by
  have hbit : ∀ c : Fin 16, (BitVec.ofNat 16 (2 ^ c.val)).getLsbD c = true := by decide
  rw [State.mirrorTakes, BitVec.getLsbD_or, hbit, Bool.or_true]

end MirrorTakes

/-! ### The packets of a lost chiplet -/

theorem Sparse.mem_of_get {α : Type} {dflt : Nat → α} {xs : Sparse α} {k : Nat} (h : Sparse.get dflt xs k ≠ dflt k) :
    (k, Sparse.get dflt xs k) ∈ xs := by
  induction xs with
  | nil => exact absurd rfl h
  | cons x xs ih =>
    obtain ⟨k', v⟩ := x
    rw [Sparse.get] at h ⊢
    split
    · rename_i hk
      exact List.mem_cons.2 (.inl (by rw [hk]))
    · rename_i hk
      rw [if_neg hk] at h
      exact List.mem_cons_of_mem _ (ih h)

/-- The packets resident at a chiplet. -/
def State.pktsAt (s : State) (c : Nat) : List Nat :=
  (s.pkts.filter fun p => match p.2 with | some x => x.at c | none => false).map fun p => p.1

theorem State.mem_pktsAt {p : Pkt} (hp : s.pkt n = some p) (hat : p.at c = true) : n ∈ s.pktsAt c := by
  have hget : Sparse.get (fun _ => none) s.pkts n = some p := hp
  have hmem := Sparse.mem_of_get (dflt := fun _ => none) (xs := s.pkts) (k := n) (by simp [hget])
  rw [hget] at hmem
  exact List.mem_map.2 ⟨(n, some p), List.mem_filter.2 ⟨hmem, hat⟩, rfl⟩

theorem State.dropPkt_keeps_none (h : s.pkt n = none) : (s.dropPkt k).pkt n = none := by
  rw [State.dropPkt, State.pkt, Sparse.get_erase]
  split
  · rfl
  · exact h

theorem State.foldl_dropPkt_keeps_none {ns : List Nat} (h : s.pkt n = none) : (ns.foldl State.dropPkt s).pkt n = none := by
  induction ns generalizing s with
  | nil => exact h
  | cons k ns ih => exact ih (State.dropPkt_keeps_none h)

theorem State.foldl_dropPkt_none {ns : List Nat} (h : n ∈ ns) : (ns.foldl State.dropPkt s).pkt n = none := by
  induction ns generalizing s with
  | nil => cases h
  | cons k ns ih =>
    rcases List.mem_cons.1 h with rfl | h
    · exact State.foldl_dropPkt_keeps_none (s := s.dropPkt n) State.dropPkt_pkt
    · exact ih h

/-! ### The phases of a loss (R350) -/

/-- The ledger from the mirror, and the fault. -/
def State.lossBooked (s : State) (c : Nat) : State := (s.mirrorTakes c).raise (faultCode fbChip (512 + c)) 2

/-- The packets at the chiplet leave the device. -/
def State.lossEmptied (s : State) (c : Nat) : State :=
  ((s.lossBooked c).pktsAt c).foldl State.dropPkt (s.lossBooked c)

/-- The egress sides of its pairs free what has not transferred. -/
def State.untransferredFreed (s : State) (c : Nat) : State :=
  (s.brt.egr.map fun x => x.1).foldl (fun s k => s.dropUntransferred c k) s

/-- The pairs and bursts of the chiplet are gone. -/
def State.pairsDropped (s : State) (c : Nat) : State :=
  { s with brt := { s.brt with
    ing := s.brt.ing.filter fun x => decide (chipOf (x.1 / 512) ≠ c)
    egr := s.brt.egr.filter fun x => decide (chipOf (x.1 % 512) ≠ c)
    flights := s.brt.flights.filter fun f => decide (chipOf f.i ≠ c)
    staged := s.brt.staged.filter fun f => decide (chipOf f.i ≠ c) } }

/-- What the chiplet itself keeps. -/
def State.chipCleared (s : State) (c : Nat) : State := s.setChip c (s.chip c).afterLoss

/-- One other chiplet drops its grants and balances. -/
def State.othersStep (c : Nat) (s : State) (e : Nat) : State := (s.setChip e ((s.chip e).dropGrants c)).withdrawFor c e

/-- The other chiplets. -/
def otherChips (c : Nat) : List Nat := (List.range 16).filter fun e => decide (e ≠ c)

/-- The messages from and to the chiplet are gone. -/
def State.meshDropped (s : State) (c : Nat) : State :=
  { s with brt := { s.brt with mesh := s.brt.mesh.filter fun m => decide (m.ends.1 ≠ c ∧ m.ends.2 ≠ c) } }

/-- From the freed pairs to the end of a loss. -/
def State.lossSpread (s : State) (c : Nat) : State :=
  ((otherChips c).foldl (State.othersStep c) (((s.untransferredFreed c).pairsDropped c).chipCleared c)).meshDropped c

theorem State.chipletLoss_due (hon : s.chipOn c = false) (hlost : (s.chip c).lost = false) :
    s.chipletLoss c = (s.lossEmptied c).lossSpread c := by
  rw [State.chipletLoss, if_neg (by simp [hon, hlost])]
  rfl

theorem State.chipletLoss_none (h : s.chipOn c = true ∨ (s.chip c).lost = true) : s.chipletLoss c = s := by
  rw [State.chipletLoss, if_pos (by simpa using h)]

/-! ### What the phases leave -/

theorem State.withdraw_chip (h : d ≠ c) : (s.withdraw c j k).chip d = s.chip d := by
  unfold State.withdraw
  dsimp only
  split
  · rfl
  · rw [State.chip_congr (State.sendRelease_parts (List.Subset.refl _) .refl .chips (by simp))]
    exact State.setChip_chip_other h

theorem State.withdrawFor_chip (h : d ≠ e) : (s.withdrawFor c e).chip d = s.chip d := by
  unfold State.withdrawFor
  generalize (s.chip e).bal.filter _ = bs
  induction bs generalizing s with
  | nil => rfl
  | cons b bs ih => exact ih.trans (State.withdraw_chip h)

theorem BooksKept.withdrawFor : BooksKept s (s.withdrawFor c e) := BooksKept.foldl fun _ _ => .withdraw

theorem State.othersStep_parts : OnlyParts [.brt, .chips] s (s.othersStep c e) :=
  State.withdrawFor_parts (List.Subset.refl _) (State.setChip_parts (by simp) .refl)

theorem BooksKept.othersStep : BooksKept s (s.othersStep c e) := (BooksKept.of_brt State.setChip_brt).trans .withdrawFor

theorem State.foldl_othersStep_chip {es : List Nat} (h : ∀ e ∈ es, d ≠ e) :
    (es.foldl (State.othersStep c) s).chip d = s.chip d := by
  induction es generalizing s with
  | nil => rfl
  | cons e es ih =>
    obtain ⟨he, hes⟩ := List.forall_mem_cons.1 h
    exact (ih hes).trans ((State.withdrawFor_chip he).trans (State.setChip_chip_other he))

theorem ne_of_mem_otherChips (h : e ∈ otherChips c) : c ≠ e := by
  simp only [otherChips, List.mem_filter, decide_eq_true_eq] at h
  exact h.2.symm

/-- The spread of a loss: the chiplet keeps what it keeps, and the ledgers stay. -/
theorem State.lossSpread_chip (hc : c < 16) : ∃ x : Chip, ((s.lossSpread c).chip c) = x.afterLoss := by
  refine ⟨((s.untransferredFreed c).pairsDropped c).chip c, ?_⟩
  have hmesh {v : State} : (v.meshDropped c).chip c = v.chip c := rfl
  rw [State.lossSpread, hmesh, State.foldl_othersStep_chip fun e => ne_of_mem_otherChips, State.chipCleared,
    State.setChip_chip_same hc]

theorem BooksKept.lossSpread : BooksKept s (s.lossSpread c) := by
  have hfreed : BooksKept s (s.untransferredFreed c) := BooksKept.foldl fun _ _ => .dropUntransferred
  have hpairs {v : State} : BooksKept v (v.pairsDropped c) := ⟨rfl, rfl, rfl⟩
  have hcleared {v : State} : BooksKept v (v.chipCleared c) := .of_brt State.setChip_brt
  have hmesh {v : State} : BooksKept v (v.meshDropped c) := ⟨rfl, rfl, rfl⟩
  exact (((hfreed.trans hpairs).trans hcleared).trans (BooksKept.foldl fun _ _ => .othersStep)).trans hmesh

theorem State.lossSpread_parts : OnlyParts [.brt, .chips] s (s.lossSpread c) := by
  have hfreed : OnlyParts [.brt, .chips] s (s.untransferredFreed c) :=
    OnlyParts.foldl (fun _ _ h => State.dropUntransferred_parts (List.Subset.refl _) h) .refl
  have hcleared : OnlyParts [.brt, .chips] s (((s.untransferredFreed c).pairsDropped c).chipCleared c) :=
    State.setChip_parts (by simp) (OnlyParts.set_brt (by simp) hfreed)
  exact OnlyParts.set_brt (by simp) (OnlyParts.foldl (fun _ _ h => h.trans State.othersStep_parts) hcleared)

theorem State.lossEmptied_parts : OnlyParts [.pkts] (s.lossBooked c) (s.lossEmptied c) :=
  OnlyParts.foldl (fun _ _ h => State.dropPkt_parts (by simp) h) .refl

theorem State.lossBooked_brt : (s.lossBooked c).brt = (s.mirrorTakes c).brt := State.raise_brt

theorem State.lossBooked_pkt : (s.lossBooked c).pkt n = s.pkt n :=
  State.pkt_congr ((State.raise_parts (List.Subset.refl _) .refl .pkts (by simp)).trans rfl)

theorem State.lossEmptied_pkt {p : Pkt} (hp : s.pkt n = some p) (hat : p.at c = true) : (s.lossEmptied c).pkt n = none :=
  State.foldl_dropPkt_none (State.mem_pktsAt (State.lossBooked_pkt.trans hp) hat)

/-- The books after a loss are those of the mirror. -/
theorem State.chipletLoss_books (hon : s.chipOn c = false) (hlost : (s.chip c).lost = false) :
    BooksKept (s.mirrorTakes c) (s.chipletLoss c) := by
  rw [State.chipletLoss_due hon hlost]
  exact ((BooksKept.of_brt State.lossBooked_brt).trans (.of_brt (State.lossEmptied_parts .brt (by simp)))).trans .lossSpread

theorem State.chipletLoss_pkt {p : Pkt} (hon : s.chipOn c = false) (hlost : (s.chip c).lost = false)
    (hp : s.pkt n = some p) (hat : p.at c = true) : (s.chipletLoss c).pkt n = none := by
  rw [State.chipletLoss_due hon hlost, State.pkt_congr (State.lossSpread_parts .pkts (by simp)), State.lossEmptied_pkt hp hat]

theorem State.chipletLoss_sent (hon : s.chipOn c = false) (hlost : (s.chip c).lost = false) :
    (s.chipletLoss c).flt.sent = s.flt.sent ++
      [{ code := faultCode fbChip (512 + c), cls := 2, sec := s.tim.dt.sec, ns := s.tim.dt.ns }] := by
  have hflt : (s.chipletLoss c).flt = (s.lossBooked c).flt := by
    rw [State.chipletLoss_due hon hlost]
    exact (State.lossSpread_parts .flt (by simp)).trans (State.lossEmptied_parts .flt (by simp))
  rw [hflt, State.lossBooked, State.raise_sent (by decide)]
  rfl

/-! ### The settlement -/

/-- Settles O28: a gap is declared from E and counted, or waits for the burst at E; GAP removes exactly its bursts and drops
their packets that have not transferred; and CHIPLET_LOSS takes the ledger from the mirror (R240, R241, R242, R248, R350).
A gap of GAP_REQUEST leaves what it brings next in sequence to the next transfer boundary; GAP_TIMEOUT is taken at a boundary,
and what follows leaves with it (R239, assumption 46). -/
theorem gapsAndLoss : Obligations.GapsAndLoss := by
  unfold Obligations.GapsAndLoss
  refine ⟨?requested, ?requestWaits, ?answered, ?timeout, ?timeoutWaits, ?early, ?gap, ?loss, ?kept⟩
  case requested =>
    intro s i j seq g rest hold hmiss hheld
    refine ⟨_, congrArg Host.Outcome.next ((State.gapRequest_oldest hold).trans (if_pos hmiss)), ?_⟩
    rw [State.gapRequested_declares hmiss hheld]
    have hdeclared := GapDeclared.of_brt State.gapRequested_parts
      (State.declareGap_declared (s := s.gapRequested i j seq g rest) (i := i) j.isLt)
    have hpair := State.declareGap_egrPair (s := s.gapRequested i j seq g rest) (i := i) (j := j)
    rw [State.gapRequested_egrPair] at hdeclared hpair
    exact ⟨hdeclared, congrArg EgrPair.e hpair, (congrArg EgrPair.held hpair).trans rfl,
      State.declareGap_parts (List.Subset.refl _) (State.gapRequested_parts.mono (by simp))⟩
  case requestWaits =>
    intro s i j seq g rest hold hmiss hheld
    refine ⟨_, congrArg Host.Outcome.next ((State.gapRequest_oldest hold).trans (if_pos hmiss)), ?_⟩
    rw [State.gapRequested_waits hmiss hheld]
    dsimp only
    rw [State.setEgrPair_egrPair]
    exact ⟨rfl, EgrPair.mem_awaits, rfl, rfl,
      Frame.of_parts (State.setEgrPair_parts (by simp) State.gapRequested_parts) (by simp) (by simp)⟩
  case answered =>
    intro s i j seq g rest hold hmiss
    have heq := (State.gapRequest_oldest hold).trans (if_neg (by simp [hmiss]))
    refine ⟨_, congrArg Host.Outcome.next heq, fun hgapped hheld => ?_, fun hanswer => ?_, ?_, ?_⟩
    · rw [if_pos (by simp [hgapped, hheld])]
    · rw [if_neg (by simpa [← Bool.not_eq_true, or_iff_not_imp_left] using hanswer), State.send_mesh]
      rfl
    · split
      · rfl
      · exact State.send_egrPair
    · have hleft : OnlyParts [.brt] s (s.meshLeft rest) := OnlyParts.set_brt (by simp) .refl
      split
      · exact Frame.of_parts hleft (by simp) (by simp)
      · exact Frame.of_parts (State.send_parts (by simp) hleft) (by simp) (by simp)
  case timeout =>
    intro s i j p hdue hheld
    obtain ⟨heq, hmiss⟩ := State.gapTimeout_due hdue
    exact ⟨_, congrArg Host.Outcome.next heq, State.gapAtBoundary_declared j.isLt hmiss hheld,
      State.gapAtBoundary_parts (List.Subset.refl _) .refl⟩
  case timeoutWaits =>
    intro s i j p hdue hheld hpassed
    obtain ⟨heq, hmiss⟩ := State.gapTimeout_due hdue
    refine ⟨_, congrArg Host.Outcome.next (heq.trans (State.gapAtBoundary_waits hmiss hheld hpassed)), ?_⟩
    dsimp only
    rw [State.setEgrPair_egrPair]
    exact ⟨EgrPair.mem_awaits, rfl, rfl, Frame.of_parts (State.setEgrPair_parts (by simp) .refl) (by simp) (by simp)⟩
  case early =>
    intro s i j hlate
    exact congrArg Host.Outcome.next (State.gapTimeout_none hlate)
  case gap =>
    intro s i j qs rest hold
    refine ⟨_, rfl, ?_, fun q hq b hb g hg p hp hmoved => ?_,
      Frame.of_parts (State.gap_parts (List.Subset.refl _) .refl) (by simp) (by simp)⟩
    · rw [State.gap_oldest hold]
      exact State.gapBursts_bursts
    · rw [State.gap_oldest hold]
      exact State.gapBursts_pkt (s := s.meshLeft rest) hq hb hg hp hmoved
  case loss =>
    intro s c hon hlost
    obtain ⟨hled, hmirror, hmirrored⟩ := State.chipletLoss_books hon hlost
    have hledger (d : Fin 16) : (s.chipletLoss c).ledger d = (s.mirrorTakes c).ledger d := by
      rw [State.ledger, hled, State.ledger]
    obtain ⟨x, hchip⟩ := State.lossSpread_chip (s := s.lossEmptied c) c.isLt
    rw [← State.chipletLoss_due hon hlost] at hchip
    refine ⟨_, rfl, ?_, ?_, ?_, ?_, ?_, ?_, fun d hd => ?_, fun n p hp hat => State.chipletLoss_pkt hon hlost hp hat,
      State.chipletLoss_sent hon hlost, State.chipletLoss_parts (List.Subset.refl _) .refl⟩
    · rw [hledger, State.mirrorTakes_ledger_same, Ledger.afterLoss]
    · rw [hledger, State.mirrorTakes_ledger_same, Ledger.afterLoss_resident]
    · rw [hledger, hmirror, State.mirrorTakes_mirror, State.mirrorTakes_ledger_same]
    · rw [hmirrored, State.mirrorTakes_mirrored]
    · rw [hchip, Chip.afterLoss]
    · rw [hchip, Chip.afterLoss]
    · rw [hledger, State.mirrorTakes_ledger_other hd]
  case kept =>
    intro s c h
    exact congrArg Host.Outcome.next (State.chipletLoss_none h)

end Sys2Proof.Machine

/-! SUPPORT. The link of a port (R258, R259, R261, R262, R264, R278): what the end of training, a loss of the link, a link
fault and a write of RETRAIN do, and the settlement of LinksTrain. -/

namespace Sys2Proof.Machine

open Sys2Proof

variable {s t : State} {p : CmdPort} {v : Word} {a j k : Nat} {q l : Fin 32} {b : Bool} {x : Port}

/-! ### Training (R258) -/

theorem State.remapping_congr (h : t.chips = s.chips) : t.remapping k = s.remapping k := by
  rw [State.remapping, State.chip_congr h, State.remapping]

theorem State.setPort_wrBit {i : Nat} : (s.setPort k x).wrBit a i b = (s.wrBit a i b).setPort k x := by
  rw [State.wrBit, State.setPort_rd, State.wrBit]
  rfl

/-- Training starts where ENABLE acts on a port that trains nothing and that no remap holds off its lane. -/
theorem State.startTraining_starts (hacts : s.portActs k = true) (hremap : s.remapping k = false)
    (h : (s.port k).train = 0) : s.startTraining k = (s.wrBit (lanReg k Reg.LAN_PORT_CTRL) 5 false).setPort k
      { s.port k with train := if bit (s.portCtrl k) 1 = true then 1 else 2 } := by
  refine (if_pos ?_).trans State.setPort_wrBit
  simp [hacts, hremap, h]

theorem State.autoNegDone_trains (hlead : s.isLead k = true) (hacts : s.portActs k = true) (h : (s.port k).train = 1) :
    s.autoNegDone k = s.setPort k { s.port k with train := 2 } := by
  simp [State.autoNegDone, hlead, hacts, h]

theorem State.autoNegDone_none (h : (s.port k).train ≠ 1) : s.autoNegDone k = s := by
  simp [State.autoNegDone, h]

theorem State.trainingRetry_trains (hlead : s.isLead k = true) (hacts : s.portActs k = true) (h : (s.port k).train = 2)
    (hdown : (s.port k).linkUp = false) : s.trainingRetry k = s.setPort k { s.port k with train := 2 } := by
  simp [State.trainingRetry, hlead, hacts, h, hdown]

theorem State.trainingRetry_none (h : (s.port k).train ≠ 2) : s.trainingRetry k = s := by
  simp [State.trainingRetry, h]

/-- A port replaced by one that equals it leaves every port as it reads. -/
theorem State.setPort_port_self (h : x = s.port k) : (s.setPort k x).port j = s.port j := by
  by_cases hj : j = k
  · rw [hj, State.setPort_port_same, h]
  · exact State.setPort_port_other hj

/-! ### The link comes up (R258, R262, R264) -/

/-- A remap of the port that waits for its training ends. -/
def State.remapEnded (s : State) (k : Nat) : State :=
  match (s.chip (chipOf k)).remap with
  | some (q, _, true) =>
    if q.val = k % 32 then s.setChip (chipOf k) { s.chip (chipOf k) with remap := none } else s
  | _ => s

theorem State.remapEnded_part : OnlyParts [.chips] s (s.remapEnded k) := by
  unfold State.remapEnded
  split
  · split
    · exact State.setChip_parts (List.Subset.refl _) .refl
    · exact .refl
  · exact .refl

theorem State.remapEnded_remap (hk : chipOf k < 16) (h : (s.chip (chipOf k)).remap = some (q, l, true))
    (hq : q.val = k % 32) : ((s.remapEnded k).chip (chipOf k)).remap = none := by
  simp only [State.remapEnded, h, if_pos hq]
  rw [State.setChip_chip_same hk]

theorem State.remapEnded_none (h : ∀ q l, (s.chip (chipOf k)).remap = some (q, l, true) → q.val ≠ k % 32) :
    s.remapEnded k = s := by
  unfold State.remapEnded
  split
  · rename_i q l hremap
    exact if_neg (h q l hremap)
  · rfl

/-- A port whose training has completed. -/
def State.trained (s : State) (k : Nat) : State :=
  (s.setPort k { s.port k with linkUp := true, train := 3 }).remapEnded k

theorem State.linkComesUp_trained (hlead : s.isLead k = true) (hacts : s.portActs k = true) (h : (s.port k).train = 2) :
    s.linkComesUp k = (s.trained k).startLf k :=
  if_pos (by simp [hlead, hacts, h])

theorem State.linkComesUp_none (h : (s.port k).train ≠ 2) : s.linkComesUp k = s := by
  simp [State.linkComesUp, h]

theorem State.trained_part : OnlyParts [.ports, .chips] s (s.trained k) :=
  (OnlyParts.mono (State.setPort_parts (List.Subset.refl _) .refl) (by simp)).trans
    (State.remapEnded_part.mono (by simp))

theorem State.trained_port : (s.trained k).port j =
    if j = k then { s.port k with linkUp := true, train := 3 } else s.port j := by
  rw [State.trained, State.port_congr (State.remapEnded_part .ports (by simp))]
  split
  · rename_i hj
    rw [hj, State.setPort_port_same]
  · exact State.setPort_port_other ‹_›

theorem State.trained_port_same : (s.trained k).port k = { s.port k with linkUp := true, train := 3 } :=
  State.trained_port.trans (if_pos rfl)

theorem State.trained_sources : SameSources s (s.trained k) := by
  refine .of_parts State.trained_part (fun j => ?_) (by simp)
  rw [State.trained_port]
  split
  · rename_i hj
    rw [hj]
  · rfl

theorem SameSources.pfcOwed (h : SameSources s t) (hsent : (t.port k).pfcSent = (s.port k).pfcSent) :
    t.pfcOwed k = s.pfcOwed k := by
  rw [State.pfcOwed, h.pfcTxEn, h.xoffBits, hsent, State.pfcOwed]

/-- In the safe state a link that comes up with no frame in transmission and no PFC frame owed sends Local Fault (R262). -/
theorem State.trained_txLf (hsafe : s.flt.safe = true) (hlead : s.isLead k = true) (hacts : s.portActs k = true)
    (htx : (s.port k).tx = none) (howed : s.pfcOwed k = false) : (((s.trained k).startLf k).port k).txLf = true := by
  have hsame : SameSources s (s.trained k) := State.trained_sources
  have hsent : ((s.trained k).port k).pfcSent = (s.port k).pfcSent := by rw [State.trained_port_same]
  rw [State.startLf_safe (by rw [hsame.flt, hsafe]) (hsame.isLead.trans hlead) (hsame.portActs.trans hacts)
    (by rw [State.trained_port_same]; exact htx) ((hsame.pfcOwed hsent).trans howed), State.setPort_port_same]

/-! ### The link is lost (R259) -/

/-- A frame that the port's MAC was receiving is counted as cut short. -/
def State.cutCounted (s : State) (k : Nat) (cut : Bool) : State := if cut then s.lanBump k 4 else s

theorem State.cutCounted_ctr : (s.cutCounted k b).ctr (lanReg k 0x120) = s.ctr (lanReg k 0x120) + if b then 1 else 0 := by
  cases b
  · exact (BitVec.add_zero _).symm
  · exact State.bump_ctr_same

theorem State.cutCounted_frame : Frame [] [] [lanReg k 0x120] s (s.cutCounted k b) := by
  cases b
  · exact .refl
  · exact Frame.refl.bump (List.mem_singleton_self _)

theorem State.cutCounted_port : (s.cutCounted k b).port j = s.port j :=
  State.port_congr (State.cutCounted_frame.1 .ports (by simp))

theorem State.macUp_iff : s.macUp k = true ↔ s.isLead k = true ∧ s.portActs k = true ∧ (s.port k).linkUp = true := by
  simp [State.macUp, and_assoc]

theorem State.linkDown_up (h : s.macUp k = true) : s.linkDown k b = (s.cutCounted k b).setPort k
    ((s.port k).off (if s.remapping k = true then 0 else if bit (s.portCtrl k) 1 = true then 1 else 2)) := by
  refine (if_pos h).trans ?_
  cases b <;> rfl

theorem State.linkDown_none (h : s.macUp k = false) : s.linkDown k b = s := by
  simp [State.linkDown, h]

/-! ### Link faults (R261, R262) -/

/-- A port that receives Local Fault or Remote Fault. -/
def Port.faulted (x : Port) (isLocal : Bool) : Port :=
  { x with rxLf := isLocal || x.rxLf, rxRf := !isLocal || x.rxRf }

theorem State.linkFault_up (h : s.macUp k = true) : s.linkFault k b = (s.setPort k ((s.port k).faulted b)).startLf k := by
  refine (if_pos h).trans ?_
  cases b <;> rfl

theorem State.linkFault_none (h : s.macUp k = false) : s.linkFault k b = s := by
  simp [State.linkFault, h]

/-- No PFC frame starts into a link fault. -/
theorem State.faulted_pfcMayStart : (s.setPort k ((s.port k).faulted b)).pfcMayStart k = false := by
  cases b <;> simp [State.pfcMayStart, Port.faulted]

theorem State.setPort_sources (h : x.ready = (s.port k).ready) : SameSources s (s.setPort k x) :=
  .of_parts (State.setPort_parts (List.Subset.refl _) .refl) (fun _ => State.setPort_ready h) (by simp)

/-- In the safe state a fault received with no frame in transmission starts Local Fault: an owed PFC frame cannot go first
(R262). -/
theorem State.faulted_txLf (hsafe : s.flt.safe = true) (h : s.macUp k = true) (htx : (s.port k).tx = none) :
    (((s.setPort k ((s.port k).faulted b)).startLf k).port k).txLf = true := by
  obtain ⟨hlead, hacts, -⟩ := State.macUp_iff.1 h
  have hsame : SameSources s (s.setPort k ((s.port k).faulted b)) := State.setPort_sources rfl
  have htx' : ((s.port k).faulted b).tx = none := htx
  have hstarts : (s.setPort k ((s.port k).faulted b)).startLf k = (s.setPort k ((s.port k).faulted b)).setPort k _ :=
    if_pos (by simp [hsafe, hsame.isLead, hlead, hsame.portActs, hacts, htx', State.faulted_pfcMayStart])
  rw [hstarts, State.setPort_port_same]

theorem State.linkFaultEnd_up (h : s.macUp k = true) : s.linkFaultEnd k b =
    s.setPort k (if b then { s.port k with rxLf := false } else { s.port k with rxRf := false }) :=
  if_pos h

theorem State.linkFaultEnd_none (h : s.macUp k = false) : s.linkFaultEnd k b = s := by
  simp [State.linkFaultEnd, h]

/-! ### RETRAIN (R258, R278) -/

/-- A plain write changes its register only. -/
theorem State.plainWrite_onlyRegs : OnlyRegs [a] s (s.plainWrite p a v) := by
  intro c hc
  cases hl : locate a with
  | none => rw [State.plainWrite, hl]
  | some bo =>
    cases hr : findRow bo.1 bo.2 with
    | none => rw [State.plainWrite_no_row hl hr]
    | some r =>
      cases hd : r.discards s.img.locked (s.rd a) v with
      | false =>
        rw [State.plainWrite_kept hl hr hd]
        exact State.wr_rd_other (List.ne_of_not_mem_cons hc)
      | true =>
        obtain ⟨-, -, -, hframe⟩ := State.plainWrite_discarded (p := p) hl hr hd
        exact hframe.2.1 c hc

theorem State.wrBit_port {i : Nat} : (s.wrBit a i b).port j = s.port j := by
  rw [State.wrBit, State.port_congr State.wr_ports]

/-- The state after the plain part of a write of RETRAIN. -/
abbrev State.retrainWritten (s : State) (p : CmdPort) (k : Nat) (v : Word) : State :=
  s.plainWrite p (lanReg k Reg.LAN_PORT_CTRL) (withBit v 5)

theorem exec_retrain {k : Fin 512} (h : Permitted s p (lanReg k Reg.LAN_PORT_CTRL) 1) :
    exec (.retrain p k v) s = .next (s.writePortCtrl p k (withBit v 5)) :=
  congrArg Host.Outcome.next (State.access_permitted h)

theorem State.retrainWritten_part : OnlyParts [.regs, .ctrs, .sec] s (s.retrainWritten p k v) :=
  State.plainWrite_parts (List.Subset.refl _) .refl

theorem State.retrainWritten_port : (s.retrainWritten p k v).port j = s.port j :=
  State.port_congr (State.retrainWritten_part .ports (by simp))

/-- What the plain part of a write of RETRAIN leaves of the port. -/
theorem State.retrainWritten_kept (h : s.retrainWritten p k v = t) :
    t.port k = s.port k ∧ t.remapping k = s.remapping k := by
  subst h
  exact ⟨State.retrainWritten_port, State.remapping_congr (State.retrainWritten_part .chips (by simp))⟩

theorem State.writePortCtrl_member (h : s.isLead k = false) : s.writePortCtrl p k v = s := by
  simp [State.writePortCtrl, h]

theorem State.writePortCtrl_retrains (hw : s.retrainWritten p k v = t) (hlead : s.isLead k = true)
    (hacts : t.portActs k = true) (hremap : s.remapping k = false) (h : (s.port k).train ≠ 0) :
    s.writePortCtrl p k (withBit v 5) = (t.wrBit (lanReg k Reg.LAN_PORT_CTRL) 5 false).setPort k ((s.port k).off 2) := by
  obtain ⟨hport, hkept⟩ := State.retrainWritten_kept hw
  simp [State.writePortCtrl, hlead, hw, hacts, hkept, hremap, bit_withBit, hport, h]

theorem State.writePortCtrl_starts (hw : s.retrainWritten p k v = t) (hlead : s.isLead k = true)
    (hacts : t.portActs k = true) (hremap : s.remapping k = false) (h : (s.port k).train = 0) :
    s.writePortCtrl p k (withBit v 5) = (t.wrBit (lanReg k Reg.LAN_PORT_CTRL) 5 false).setPort k
      { s.port k with train := if bit (t.portCtrl k) 1 = true then 1 else 2 } := by
  obtain ⟨hport, hkept⟩ := State.retrainWritten_kept hw
  have hstarts := State.startTraining_starts hacts (hkept.trans hremap) (by rw [hport, h])
  rw [hport] at hstarts
  simp [State.writePortCtrl, hlead, hw, hacts, hkept, hremap, hport, h, hstarts]

theorem State.writePortCtrl_remapping (hw : s.retrainWritten p k v = t) (hlead : s.isLead k = true)
    (hacts : t.portActs k = true) (hremap : s.remapping k = true) :
    s.writePortCtrl p k (withBit v 5) = t.wrBit (lanReg k Reg.LAN_PORT_CTRL) 5 true := by
  obtain ⟨-, hkept⟩ := State.retrainWritten_kept hw
  simp [State.writePortCtrl, hlead, hw, hacts, hkept, hremap, bit_withBit]

theorem State.writePortCtrl_off (hw : s.retrainWritten p k v = t) (hlead : s.isLead k = true)
    (hacts : t.portActs k = false) :
    s.writePortCtrl p k (withBit v 5) = (t.wrBit (lanReg k Reg.LAN_PORT_CTRL) 5 true).setPort k ((s.port k).off 0) := by
  obtain ⟨hport, -⟩ := State.retrainWritten_kept hw
  simp [State.writePortCtrl, hlead, hw, hacts, bit_withBit, State.wrBit_port, hport]

/-- After a write of RETRAIN the bit reads b, and port k is x; nothing else follows but the plain write. -/
structure Retrained (s : State) (p : CmdPort) (k : Nat) (v : Word) (b : Bool) (x : Port) (t : State) : Prop where
  bit5 : t.rdBit (lanReg k Reg.LAN_PORT_CTRL) 5 = b
  port : t.port k = x
  bits : ∀ i, i < 32 → i ≠ 5 →
    t.rdBit (lanReg k Reg.LAN_PORT_CTRL) i = (s.retrainWritten p k v).rdBit (lanReg k Reg.LAN_PORT_CTRL) i
  others : ∀ j, j ≠ k → t.port j = s.port j
  ctrs : t.ctrs = (s.retrainWritten p k v).ctrs
  sec : t.sec = (s.retrainWritten p k v).sec
  regs : OnlyRegs [lanReg k Reg.LAN_PORT_CTRL] s t
  parts : OnlyParts [.regs, .ctrs, .sec, .ports] s t

theorem Retrained.wrBit : Retrained s p k v b (s.port k)
    ((s.retrainWritten p k v).wrBit (lanReg k Reg.LAN_PORT_CTRL) 5 b) where
  bit5 := State.wrBit_rdBit_same (by omega)
  port := State.wrBit_port.trans State.retrainWritten_port
  bits _ _ h5 := State.wrBit_rdBit_other h5
  others _ _ := State.wrBit_port.trans State.retrainWritten_port
  ctrs := State.wr_ctrs
  sec := State.wr_sec
  regs c hc := (State.wr_rd_other (List.ne_of_not_mem_cons hc)).trans (State.plainWrite_onlyRegs c hc)
  parts := (State.wrBit_parts (by simp) State.retrainWritten_part).mono (by simp)

theorem Retrained.setPort {y : Port} (h : Retrained s p k v b y t) : Retrained s p k v b x (t.setPort k x) where
  bit5 := h.bit5
  port := State.setPort_port_same
  bits := h.bits
  others j hj := (State.setPort_port_other hj).trans (h.others j hj)
  ctrs := h.ctrs
  sec := h.sec
  regs := h.regs
  parts := State.setPort_parts (by simp) h.parts

/-! ### LinksTrain -/

/-- Settles O32: each command by the equation of its case. Model choices it rests on: a command in a state that its rule
does not name changes nothing (assumption 3), a write of RETRAIN is the command (20), a link that goes down forgets the
priorities last shown (69), and in the safe state Local Fault starts on a link that comes up, or takes a fault that holds back
a PFC frame owed (104). -/
theorem linksTrain : Obligations.LinksTrain := by
  unfold Obligations.LinksTrain
  refine ⟨?training, ?noLinkUp, ?noAutoNeg, ?up, ?down, ?retrain⟩
  case training =>
    intro s k hlead hacts
    refine ⟨fun htrain => ?linkUp, fun htrain hdown => ?retry, fun htrain => ?autoNeg⟩
    case linkUp =>
      refine ⟨_, congrArg Host.Outcome.next (State.linkComesUp_trained hlead hacts htrain), ?_, fun hsafe => ?_,
        fun hsafe htx howed => State.trained_txLf hsafe hlead hacts htx howed, fun j hj => ?_, fun q l hremap hq => ?_,
        fun hother => ?_, ?_⟩
      · rw [State.startLf_port, State.trained_port_same]
      · rw [State.startLf_service (by rw [State.trained_sources.flt, hsafe]), State.trained_port_same]
      · rw [State.startLf_port_other hj, State.trained_port, if_neg hj]
      · rw [State.chip_congr (State.startLf_frame.1 .chips (by simp))]
        exact State.remapEnded_remap (chipOf_lt k) hremap hq
      · have hkept : s.trained k = s.setPort k _ := State.remapEnded_none hother
        rw [State.startLf_frame.1 .chips (by simp), hkept]
        rfl
      · exact (Frame.of_parts State.trained_part (by simp) (by simp)).trans
          (State.startLf_frame.mono (by simp) (by simp) (by simp))
    case retry =>
      refine ⟨_, congrArg Host.Outcome.next (State.trainingRetry_trains hlead hacts htrain hdown), ?_,
        fun j => State.setPort_port_self ?_, .of_parts (State.setPort_parts (List.Subset.refl _) .refl) (by simp) (by simp)⟩
      · rw [State.setPort_port_same]
      · rw [← htrain]
    case autoNeg =>
      exact ⟨_, congrArg Host.Outcome.next (State.autoNegDone_trains hlead hacts htrain), State.setPort_port_same,
        fun j hj => State.setPort_port_other hj,
        .of_parts (State.setPort_parts (List.Subset.refl _) .refl) (by simp) (by simp)⟩
  case noLinkUp =>
    exact fun s k h =>
      ⟨congrArg Host.Outcome.next (State.linkComesUp_none h), congrArg Host.Outcome.next (State.trainingRetry_none h)⟩
  case noAutoNeg => exact fun s k h => congrArg Host.Outcome.next (State.autoNegDone_none h)
  case up =>
    intro s k b hup
    refine ⟨?linkDown, ?fault, ?faultEnd⟩
    case linkDown =>
      refine ⟨_, congrArg Host.Outcome.next (State.linkDown_up hup), State.setPort_port_same, ?_, fun j hj => ?_,
        State.cutCounted_ctr, ?_⟩
      · rw [State.setPort_port_same, Port.off]
      · exact (State.setPort_port_other hj).trans State.cutCounted_port
      · exact (State.cutCounted_frame.mono (by simp) (by simp) (by simp)).step
          (State.setPort_parts (List.Subset.refl _) .refl)
    case fault =>
      refine ⟨_, congrArg Host.Outcome.next (State.linkFault_up hup), ?_, fun hsafe => ?_,
        fun hsafe htx => State.faulted_txLf hsafe hup htx,
        fun j hj => (State.startLf_port_other hj).trans (State.setPort_port_other hj), ?_⟩
      · rw [State.startLf_port, State.setPort_port_same, Port.faulted]
      · rw [State.startLf_service (s := s.setPort _ _) hsafe, State.setPort_port_same, Port.faulted]
      · exact (Frame.of_parts (State.setPort_parts (List.Subset.refl _) .refl) (by simp) (by simp)).trans State.startLf_frame
    case faultEnd =>
      exact ⟨_, congrArg Host.Outcome.next (State.linkFaultEnd_up hup), State.setPort_port_same,
        fun j hj => State.setPort_port_other hj,
        .of_parts (State.setPort_parts (List.Subset.refl _) .refl) (by simp) (by simp)⟩
  case down =>
    exact fun s k b hdown => ⟨congrArg Host.Outcome.next (State.linkDown_none hdown),
      congrArg Host.Outcome.next (State.linkFault_none hdown), congrArg Host.Outcome.next (State.linkFaultEnd_none hdown)⟩
  case retrain =>
    intro s p k v hperm a u only
    have retrained {b : Bool} {x : Port} {t : State} (heq : s.writePortCtrl p k (withBit v 5) = t)
        (h : Retrained s p k v b x t) : After (.retrain p k v) s fun t => t.rdBit a 5 = b ∧ t.port k = x ∧ only t :=
      ⟨t, (exec_retrain hperm).trans (congrArg Host.Outcome.next heq), h.bit5, h.port, h.bits, h.others, h.ctrs, h.sec,
        h.regs, h.parts⟩
    refine ⟨fun hmember => ?_, fun hlead hacts hremap htrain => ?_, fun hlead hacts hremap htrain => ?_,
      fun hlead hacts hremap => ?_, fun hlead hacts => ?_⟩
    · exact (exec_retrain hperm).trans (congrArg Host.Outcome.next (State.writePortCtrl_member hmember))
    · exact retrained (State.writePortCtrl_retrains rfl hlead hacts hremap htrain) Retrained.wrBit.setPort
    · exact retrained (State.writePortCtrl_starts rfl hlead hacts hremap htrain) Retrained.wrBit.setPort
    · exact retrained (State.writePortCtrl_remapping rfl hlead hacts hremap) Retrained.wrBit
    · exact retrained (State.writePortCtrl_off rfl hlead hacts) Retrained.wrBit.setPort

end Sys2Proof.Machine

/-! SUPPORT. Lane remaps (R263 to R265): which requests are refused, what an accepted one begins, the switch of the lane map,
and the settlement of LanesRemapped. -/

namespace Sys2Proof.Machine

open Sys2Proof

variable {s t : State} {p : CmdPort} {v : Word} {a i j k o : Nat} {c : Fin 16} {q l : Fin 32} {b : Bool} {x : Chip}

/-! ### LAN_REMAP_REQ is no control word of a port -/

theorem locate_lanChip (ho : o < 0x20000) : locate (lanChip c o) = some (.lan c, o) := by
  have hc := c.isLt
  have hlow : ¬0x1000000 + c.val * 0x100000 + o < 0x1000000 := by omega
  have hhigh : 0x1000000 + c.val * 0x100000 + o < 0x2000000 := by omega
  have hchip : (0x1000000 + c.val * 0x100000 + o - 0x1000000) / 0x100000 = c := by omega
  have hoff : (0x1000000 + c.val * 0x100000 + o) % 0x20000 = o := by omega
  have hblk : (0x1000000 + c.val * 0x100000 + o) % 0x100000 / 0x20000 = 0 := by omega
  simp only [locate, lanChip, if_neg hlow, if_pos hhigh, hchip, hoff, hblk]

/-- LAN_REMAP_REQ has no locked field. -/
theorem findRow_remapReq : findRow (.lan i) Reg.LAN_REMAP_REQ =
    some ⟨0x8000, 0x4, 1, 0x1f1f, 0x0, 0x70000000, 0x80000000, 0x0⟩ := by
  simp [findRow, windowOff, rowsOf, rowsLan, Reg.LAN_REMAP_REQ]

theorem State.plainWrite_remapReq_frame :
    Frame [] [lanChip c Reg.LAN_REMAP_REQ] [] s (s.plainWrite p (lanChip c Reg.LAN_REMAP_REQ) v) := by
  rw [State.plainWrite_row (locate_lanChip (by decide)) findRow_remapReq rfl]
  exact Frame.refl.wr (List.mem_singleton_self _)

/-- The port windows of a chiplet lie below its remap register. -/
theorem lanReg_ne_remapReq : lanReg j Reg.LAN_PORT_CTRL ≠ lanChip c Reg.LAN_REMAP_REQ := by
  simp only [lanReg, lanChip, Reg.LAN_PORT_CTRL, Reg.LAN_REMAP_REQ]
  omega

theorem State.imgEnables_congr (h : t.img = s.img) : t.imgEnables k = s.imgEnables k := by
  rw [State.imgEnables, h, State.imgEnables]

theorem State.laneOf_congr (h : (t.port k).lane = (s.port k).lane) : t.laneOf k = s.laneOf k := by
  rw [State.laneOf, h, State.laneOf]

section RemapReq

variable (h : Frame [] [lanChip c Reg.LAN_REMAP_REQ] [] s t)
include h

/-! What a change of LAN_REMAP_REQ alone leaves: who leads a bundle, which ports act, and which lanes are in reserve. -/

theorem State.portWord_of_remapReq : t.rd (lanReg j Reg.LAN_PORT_CTRL) = s.rd (lanReg j Reg.LAN_PORT_CTRL) :=
  h.2.1 _ (List.mem_singleton.not.2 lanReg_ne_remapReq)

theorem State.bundleCode_of_remapReq : t.bundleCode = s.bundleCode :=
  funext fun j => by rw [State.bundleCode, State.rdFld, State.portWord_of_remapReq h, State.bundleCode, State.rdFld]

theorem State.bundleSize_of_remapReq : t.bundleSize k = s.bundleSize k := by
  rw [State.bundleSize, State.bundleCode_of_remapReq h, State.bundleSize]

theorem State.lead_of_remapReq : t.lead k = s.lead k := by
  rw [State.lead, State.bundleCode_of_remapReq h, State.lead]

theorem State.port_of_remapReq : t.port k = s.port k := State.port_congr (h.1 .ports (by simp))

theorem State.portActs_of_remapReq : t.portActs k = s.portActs k := by
  have hglb : t.glb = s.glb := h.1 .glb (by simp)
  have himg (j : Nat) : t.imgEnables j = s.imgEnables j := State.imgEnables_congr (h.1 .img (by simp))
  simp only [State.portActs, State.portCtrl, State.portPowered, State.domOn, State.lead_of_remapReq h,
    State.portWord_of_remapReq h, State.port_of_remapReq h, hglb, himg]

theorem State.macUp_of_remapReq : t.macUp k = s.macUp k := by
  simp only [State.macUp, State.isLead, State.lead_of_remapReq h, State.portActs_of_remapReq h, State.port_of_remapReq h]

theorem State.chip_of_remapReq : t.chip i = s.chip i := State.chip_congr (h.1 .chips (by simp))

theorem State.isReserve_of_remapReq : t.isReserve i o = s.isReserve i o := by
  have himg (j : Nat) : t.imgEnables j = s.imgEnables j := State.imgEnables_congr (h.1 .img (by simp))
  have hlane (j : Nat) : t.laneOf j = s.laneOf j := State.laneOf_congr (by rw [State.port_of_remapReq h])
  simp only [State.isReserve, State.chip_of_remapReq h, himg, hlane]

end RemapReq

/-! ### LANE_REMAP (R264, R265) -/

theorem exec_laneRemap (h : Permitted s p (lanChip c Reg.LAN_REMAP_REQ) 4) :
    exec (.laneRemap p c v b) s = .next (s.writeRemap p c (withBit v 31) b) :=
  congrArg Host.Outcome.next (State.access_permitted h)

/-- A remap has begun: the port is off its lane, and the frame that this cut short is counted. -/
def State.remapBegun (s : State) (c k : Nat) (q l : Fin 32) (cut : Bool) : State :=
  ((s.cutCounted k (cut && s.macUp k)).setPort k ((s.port k).off 0)).setChip c
    { s.chip c with remap := some (q, l, false) }

theorem State.cutCounted_chip : (s.cutCounted k b).chip i = s.chip i :=
  State.chip_congr (State.cutCounted_frame.1 .chips (by simp))

theorem State.setPort_chip {x : Port} : (s.setPort k x).chip i = s.chip i := State.chip_congr State.setPort_chips

theorem State.remapBegun_remap : ((s.remapBegun c k q l b).chip c).remap = some (q, l, false) := by
  rw [State.remapBegun, State.setChip_chip_same c.isLt]

theorem State.remapBegun_port_same : (s.remapBegun i k q l b).port k = (s.port k).off 0 := by
  rw [State.remapBegun, State.port_congr State.setChip_ports, State.setPort_port_same]

theorem State.remapBegun_port_other (h : j ≠ k) : (s.remapBegun i k q l b).port j = s.port j := by
  rw [State.remapBegun, State.port_congr State.setChip_ports, State.setPort_port_other h, State.cutCounted_port]

theorem State.remapBegun_ctr : (s.remapBegun i k q l b).ctr (lanReg k 0x120) =
    s.ctr (lanReg k 0x120) + if b && s.macUp k then 1 else 0 := by
  rw [State.remapBegun, State.setChip_ctr, State.setPort_ctr, State.cutCounted_ctr]

theorem State.remapBegun_frame : Frame [.ports, .chips] [] [lanReg k 0x120] s (s.remapBegun i k q l b) :=
  (State.cutCounted_frame.mono (by simp) (by simp) (by simp)).step
    (State.setChip_parts (by simp) (State.setPort_parts (by simp) .refl))

/-- The refusal bits of a remap of port lp of chiplet c to lane m. -/
def State.remapRefusals (s : State) (c lp m : Nat) : List Nat :=
  (if s.isReserve c m = false then [28] else []) ++ (if s.bundleSize (32 * c + lp) ≠ 1 then [29] else []) ++
  if (s.chip c).remap ≠ none then [30] else []

theorem State.writeRemap_begins (hw : s.plainWrite p (lanChip c Reg.LAN_REMAP_REQ) (withBit v 31) = t)
    (hres : t.isReserve c (fld v 12 8) = true) (hsize : t.bundleSize (32 * c.val + fld v 4 0) = 1)
    (hnone : (t.chip c).remap = none) : s.writeRemap p c (withBit v 31) b =
      t.remapBegun c (32 * c.val + fld v 4 0) (Fin.ofNat 32 (fld v 4 0)) (Fin.ofNat 32 (fld v 12 8)) b := by
  have hcut : (if (b && t.macUp (32 * c.val + fld v 4 0)) = true then t.lanBump (32 * c.val + fld v 4 0) 4 else t) =
      t.cutCounted (32 * c.val + fld v 4 0) (b && t.macUp (32 * c.val + fld v 4 0)) := rfl
  unfold State.writeRemap
  simp only [hw, bit_withBit, fld_withBit, hres, hsize, hnone, hcut, State.setPort_chip, State.cutCounted_chip,
    State.cutCounted_port, Nat.reduceLT, Nat.reduceLeDiff, or_true]
  rfl

theorem State.writeRemap_refused (hw : s.plainWrite p (lanChip c Reg.LAN_REMAP_REQ) (withBit v 31) = t)
    (h : t.isReserve c (fld v 12 8) = false ∨ t.bundleSize (32 * c.val + fld v 4 0) ≠ 1 ∨ (t.chip c).remap ≠ none) :
    s.writeRemap p c (withBit v 31) b = (t.remapRefusals c (fld v 4 0) (fld v 12 8)).foldl
      (fun t i => t.wrBit (lanChip c Reg.LAN_REMAP_REQ) i true) t := by
  have single {d : Prop} [Decidable d] {u : State} {i : Nat} :
      (if d then [i] else []).foldl (fun t i => t.wrBit (lanChip c Reg.LAN_REMAP_REQ) i true) u =
        if d then u.wrBit (lanChip c Reg.LAN_REMAP_REQ) i true else u := by
    split <;> rfl
  unfold State.writeRemap
  simp only [hw, bit_withBit, fld_withBit, Nat.reduceLT, Nat.reduceLeDiff, or_true, Bool.not_true, Bool.false_eq_true,
    if_false]
  rw [if_pos (by simpa [Option.isSome_iff_ne_none, or_assoc] using h), State.remapRefusals, List.foldl_append,
    List.foldl_append, single, single, single]
  simp [Option.isSome_iff_ne_none]

/-! ### REMAP_SWITCH (R264) -/

/-- The lane map has switched: the port has lane l, the lane that it had has failed, and the remap waits for the training of
a port whose ENABLE acts. -/
def State.laneSwitched (s : State) (c k : Nat) (q l : Fin 32) : State :=
  (s.setPort k { s.port k with lane := if l.val = k % 32 then none else some l }).setChip c
    { s.chip c with
      laneFailed := (s.chip c).laneFailed ||| BitVec.ofNat 32 (2 ^ s.laneOf k)
      remap := if s.portActs k then some (q, l, true) else none }

theorem State.remapSwitch_switches (h : (s.chip c).remap = some (q, l, false)) : s.remapSwitch c =
    if s.portActs (32 * c.val + q.val) then
      (s.laneSwitched c (32 * c.val + q.val) q l).startTraining (32 * c.val + q.val)
    else s.laneSwitched c (32 * c.val + q.val) q l := by
  have hacts := (State.setPort_sources (s := s) (k := 32 * c.val + q.val)
    (x := { s.port (32 * c.val + q.val) with lane := if l.val = (32 * c.val + q.val) % 32 then none else some l })
    rfl).portActs (k := 32 * c.val + q.val)
  unfold State.remapSwitch
  simp only [h, hacts]
  rfl

theorem State.remapSwitch_none (h : ∀ q l, (s.chip c).remap ≠ some (q, l, false)) : s.remapSwitch c = s := by
  unfold State.remapSwitch
  dsimp only
  split
  · exact absurd ‹_› (h _ _)
  · rfl

theorem State.laneSwitched_part : OnlyParts [.ports, .chips] s (s.laneSwitched i k q l) :=
  State.setChip_parts (by simp) (State.setPort_parts (by simp) .refl)

theorem State.laneSwitched_port :
    (s.laneSwitched i k q l).port k = { s.port k with lane := if l.val = k % 32 then none else some l } :=
  State.setPort_port_same

theorem State.laneSwitched_sources : SameSources s (s.laneSwitched i k q l) :=
  .of_parts State.laneSwitched_part (fun j => State.setPort_ready (j := j) rfl) (by simp)

theorem State.laneSwitched_remap :
    ((s.laneSwitched c k q l).chip c).remap = if s.portActs k then some (q, l, true) else none := by
  rw [State.laneSwitched, State.setChip_chip_same c.isLt]

/-- While the port waits for training on its new lane, the remap does not hold it off its lane. -/
theorem State.laneSwitched_remapping (hc : chipOf k = c) (hacts : s.portActs k = true) :
    (s.laneSwitched c k q l).remapping k = false := by
  rw [State.remapping, hc, State.laneSwitched_remap, if_pos hacts]

/-- The lane that carries a port has a number below 32. -/
theorem State.laneOf_lt : s.laneOf k < 32 := by
  unfold State.laneOf
  split
  · exact Fin.isLt _
  · exact Nat.mod_lt _ (by decide)

theorem State.startTraining_frame : Frame [.ports] [lanReg k Reg.LAN_PORT_CTRL] [] s (s.startTraining k) := by
  unfold State.startTraining
  dsimp only
  split
  · exact (Frame.refl.step (State.setPort_parts (List.Subset.refl _) .refl)).wrBit (List.mem_singleton_self _)
  · exact .refl

theorem State.startTraining_port_other (h : j ≠ k) : (s.startTraining k).port j = s.port j := by
  unfold State.startTraining
  dsimp only
  split
  · exact State.wrBit_port.trans (State.setPort_port_other h)
  · rfl

theorem State.startTraining_lane : ((s.startTraining k).port k).lane = (s.port k).lane := by
  unfold State.startTraining
  dsimp only
  split
  · rw [State.wrBit_port, State.setPort_port_same]
  · rfl

/-- Port q of chiplet c has gone from its lane, which has failed, to lane l; nothing else has changed but how the port
trains. -/
structure LaneSwitched (s : State) (c : Fin 16) (q l : Fin 32) (t : State) : Prop where
  lane : t.laneOf (32 * c.val + q.val) = l
  failed : (t.chip c).laneFailed.getLsbD (s.laneOf (32 * c.val + q.val)) = true
  lanes : ∀ i, i ≠ s.laneOf (32 * c.val + q.val) → (t.chip c).laneFailed.getLsbD i = (s.chip c).laneFailed.getLsbD i
  ports : ∀ j, j ≠ 32 * c.val + q.val → t.port j = s.port j
  chips : ∀ d : Fin 16, d ≠ c → t.chip d = s.chip d
  frame : Frame [.ports, .chips] [lanReg (32 * c.val + q.val) Reg.LAN_PORT_CTRL] [] s t

theorem State.laneSwitched_switched : LaneSwitched s c q l (s.laneSwitched c (32 * c.val + q.val) q l) where
  lane := by
    unfold State.laneOf
    rw [State.laneSwitched_port]
    split
    · rename_i m hlane
      dsimp only at hlane
      split at hlane
      · cases hlane
      · rw [Option.some.inj hlane]
    · rename_i hlane
      dsimp only at hlane
      split at hlane
      · rename_i h
        exact h.symm
      · cases hlane
  failed := by
    rw [State.laneSwitched, State.setChip_chip_same c.isLt]
    rw [BitVec.getLsbD_or, getLsbD_ofNat_two_pow]
    simp [State.laneOf_lt]
  lanes i hi := by
    rw [State.laneSwitched, State.setChip_chip_same c.isLt]
    rw [BitVec.getLsbD_or, getLsbD_ofNat_two_pow]
    simp [hi.symm]
  ports j hj := State.setPort_port_other hj
  chips d hd := by
    rw [State.laneSwitched, State.setChip_chip_other (Fin.val_ne_of_ne hd), State.setPort_chip]
  frame := .of_parts State.laneSwitched_part (by simp) (by simp)

theorem LaneSwitched.startTraining (h : LaneSwitched s c q l t) :
    LaneSwitched s c q l (t.startTraining (32 * c.val + q.val)) := by
  have hchip (i : Nat) : (t.startTraining (32 * c.val + q.val)).chip i = t.chip i :=
    State.chip_congr (State.startTraining_frame.1 .chips (by simp))
  exact {
    lane := (State.laneOf_congr State.startTraining_lane).trans h.lane
    failed := by rw [hchip, h.failed]
    lanes := fun i hi => by rw [hchip, h.lanes i hi]
    ports := fun j hj => (State.startTraining_port_other hj).trans (h.ports j hj)
    chips := fun d hd => (hchip d).trans (h.chips d hd)
    frame := h.frame.trans (State.startTraining_frame.mono (by simp) (by simp) (by simp)) }

/-! ### LanesRemapped -/

/-- Settles O33: a request by the conditions of R265, read past the write of LAN_REMAP_REQ; the switch by what the new lane
map gives the port, and then by its training. Model choices it rests on: a write of GO is the command (assumption 20), a switch
that nothing waits for changes nothing (3), and the remap of a port that does not act ends with its switch (69). -/
theorem lanesRemapped : Obligations.LanesRemapped := by
  unfold Obligations.LanesRemapped
  refine ⟨?request, ?switch, ?noSwitch⟩
  case request =>
    intro s p c v cut hperm a k
    have hframe : Frame [] [a] [] s (s.plainWrite p a (withBit v 31)) := State.plainWrite_remapReq_frame
    generalize hw : s.plainWrite p a (withBit v 31) = u at hframe
    have hres := State.isReserve_of_remapReq hframe (i := c) (o := fld v 12 8)
    have hsize := State.bundleSize_of_remapReq hframe (k := k)
    have hchip := State.chip_of_remapReq hframe (i := c)
    refine ⟨fun hreserve hsingle hnone => ?begins, fun hrefused => ?refused⟩
    case begins =>
      refine ⟨_, (exec_laneRemap hperm).trans (congrArg Host.Outcome.next (State.writeRemap_begins hw (hres.trans hreserve)
        (hsize.trans hsingle) (by rw [hchip, hnone]))), ?_, ?_, fun j hj => ?_, ?_, ?_⟩
      · exact State.remapBegun_remap
      · rw [State.remapBegun_port_same, State.port_of_remapReq hframe]
      · rw [State.remapBegun_port_other hj, State.port_of_remapReq hframe]
      · rw [State.remapBegun_ctr, State.macUp_of_remapReq hframe, hframe.2.2 _ (by simp)]
      · exact (hframe.mono (by simp) (List.Subset.refl _) (by simp)).trans
          (State.remapBegun_frame.mono (List.Subset.refl _) (by simp) (List.Subset.refl _))
    case refused =>
      rw [← hres, ← hsize, ← hchip] at hrefused
      refine ⟨_, (exec_laneRemap hperm).trans (congrArg Host.Outcome.next (State.writeRemap_refused hw hrefused)),
        fun hreserve => ?_, fun hbundle => ?_, fun hbusy => ?_, hframe.trans foldl_wrBit_frame⟩
      · exact foldl_wrBit_rdBit (.inl (List.mem_append_left _ (List.mem_append_left _
          (mem_ite_singleton (hres.trans hreserve))))) (by omega)
      · exact foldl_wrBit_rdBit (.inl (List.mem_append_left _ (List.mem_append_right _
          (mem_ite_singleton (by rwa [← hsize] at hbundle))))) (by omega)
      · exact foldl_wrBit_rdBit (.inl (List.mem_append_right _ (mem_ite_singleton (by rwa [← hchip] at hbusy)))) (by omega)
  case switch =>
    intro s c q l hremap
    have hchip : chipOf (32 * c.val + q.val) = c := by
      unfold chipOf
      omega
    have hsame : SameSources s (s.laneSwitched c (32 * c.val + q.val) q l) := State.laneSwitched_sources
    have hswitched : LaneSwitched s c q l (s.laneSwitched c (32 * c.val + q.val) q l) := State.laneSwitched_switched
    have hmap := State.laneSwitched_remap (s := s) (c := c) (k := 32 * c.val + q.val) (q := q) (l := l)
    have heq := State.remapSwitch_switches hremap
    cases hacts : s.portActs (32 * c.val + q.val) with
    | true =>
      rw [hacts, if_pos rfl] at heq hmap
      obtain ⟨hlane, hfailed, hlanes, hports, hchips, hframe⟩ := hswitched.startTraining
      refine ⟨_, congrArg Host.Outcome.next heq, hlane, hfailed, hlanes, ?_, hports, hchips, hframe⟩
      rw [if_pos hacts, State.chip_congr (State.startTraining_frame.1 .chips (by simp))]
      refine ⟨hmap, fun htrain => ?_⟩
      rw [State.startTraining_starts (hsame.portActs.trans hacts) (State.laneSwitched_remapping hchip hacts)
        (by rw [State.laneSwitched_port]; exact htrain), State.setPort_port_same, hsame.portCtrl]
    | false =>
      rw [hacts, if_neg Bool.false_ne_true] at heq hmap
      obtain ⟨hlane, hfailed, hlanes, hports, hchips, hframe⟩ := hswitched
      refine ⟨_, congrArg Host.Outcome.next heq, hlane, hfailed, hlanes, ?_, hports, hchips, hframe⟩
      rw [if_neg (by simp [hacts])]
      exact ⟨hmap, by rw [State.laneSwitched_port]⟩
  case noSwitch => exact fun s c h => congrArg Host.Outcome.next (State.remapSwitch_none h)

end Sys2Proof.Machine

/-! SUPPORT. The table region and PRS: where a register of PRS lies and which row it has, the bytes of a word stored in the
table region (R301, R506), the arming of the trace (R296), and the settlement of TablesWritten. -/

namespace Sys2Proof.Machine

open Sys2Proof

variable {s t : State} {p : CmdPort} {v : Word} {a i o u : Nat} {c : Fin 16} {off : BitVec 25}

/-! ### Registers of PRS -/

/-- The chiplet, the block and the offset that the number of a register of a chiplet gives. -/
theorem chipReg_digits {b : Nat} (ha : a = 0x1000000 + c.val * 0x100000 + b * 0x20000 + o) (ho : o < 0x20000) (hb : b < 8) :
    ¬a < 0x1000000 ∧ a < 0x2000000 ∧ (a - 0x1000000) / 0x100000 = c ∧ a % 0x20000 = o ∧ a % 0x100000 / 0x20000 = b := by
  have hc := c.isLt
  refine ⟨?_, ?_, ?_, ?_, ?_⟩ <;> omega

theorem locate_prsReg (ho : o < 0x20000) : locate (prsReg c o) = some (.prs c, o) := by
  obtain ⟨hlow, hhigh, hchip, hoff, hblk⟩ := chipReg_digits (c := c) (a := prsReg c o) (b := 1) (by simp only [prsReg]; omega) ho
    (by omega)
  simp only [locate, if_neg hlow, if_pos hhigh, hchip, hoff, hblk]

theorem prsReg_inj {n o' : Nat} : prsReg n o = prsReg n o' ↔ o = o' := Nat.add_left_cancel_iff

/-- The row of PRS_TRACE_SEL. -/
abbrev traceSelRow : RegRow := ⟨0x340, 0x4, 1, 0x1f, 0x0, 0x0, 0x80000000, 0x0⟩

theorem findRow_traceSel : findRow (.prs i) Reg.PRS_TRACE_SEL = some traceSelRow := by
  simp [findRow, windowOff, rowsOf, rowsPrs, Reg.PRS_TRACE_SEL]

theorem State.plainWrite_traceSel : s.plainWrite p (prsReg c Reg.PRS_TRACE_SEL) v =
    s.wr (prsReg c Reg.PRS_TRACE_SEL) (traceSelRow.next s.img.locked (s.rd (prsReg c Reg.PRS_TRACE_SEL)) v) :=
  State.plainWrite_row (locate_prsReg (by decide)) findRow_traceSel rfl

/-- The port that the trace is armed for takes the bits written. -/
theorem traceSelRow_next_getLsbD {locked : Bool} {old : Word} (hi : i < 5) :
    (traceSelRow.next locked old v).getLsbD i = v.getLsbD i := by
  cases locked <;> interval_cases i <;> simp [RegRow.next]

/-! ### TBW_WRITE (R301, R500, R506, R518) -/

theorem State.tblStore_chip : (s.tblStore c a v).chip c = { s.chip c with
    tbl := [0, 1, 2, 3].foldl (fun m i => Sparse.set (fun _ => (0 : Byte)) m (a + i) (byteOf v i)) (s.chip c).tbl
    tblPoisoned := (s.chip c).tblPoisoned.filter fun u => decide (u ≠ a / 64) } :=
  State.setChip_chip_same c.isLt

theorem State.tblStore_byte (hi : i < 4) (ha : a + i < 4294967296) :
    (s.tblStore c a v).tblByte c (a + i) = byteOf v i := by
  rw [State.tblByte, if_pos ha, State.tblStore_chip]
  interval_cases i <;> simp [Sparse.get_set]

theorem State.tblStore_byte_other (h : u < a ∨ a + 4 ≤ u) : (s.tblStore c a v).tblByte c u = s.tblByte c u := by
  have hne (i : Nat) (hi : i < 4) : u ≠ a + i := by omega
  rw [State.tblByte, State.tblStore_chip]
  simp only [List.foldl_cons, List.foldl_nil, Sparse.get_set_other _ _ _ (hne 0 (by omega)),
    Sparse.get_set_other _ _ _ (hne 1 (by omega)), Sparse.get_set_other _ _ _ (hne 2 (by omega)),
    Sparse.get_set_other _ _ _ (hne 3 (by omega))]
  rfl

theorem State.tblStore_poisoned :
    u ∈ ((s.tblStore c a v).chip c).tblPoisoned ↔ u ∈ (s.chip c).tblPoisoned ∧ u ≠ a / 64 := by
  rw [State.tblStore_chip]
  simp

theorem State.tblStore_frame : Frame [.chips] [] [] s (s.tblStore c a v) :=
  .of_parts (State.setChip_parts (List.Subset.refl _) .refl) (by simp) (by simp)

/-- A word of the table window is aligned in the table region. -/
theorem State.tblAddr_aligned {n : Nat} : s.tblAddr c (n - n % 4) % 4 = 0 := by
  rw [State.tblAddr]
  omega

theorem State.tblWrite_open {n : Nat} (ha : s.tblAddr c (n - n % 4) < 4294967296)
    (h : s.tblOpen c (s.tblAddr c (n - n % 4) / 64) = true) :
    s.tblWrite c n v = s.tblStore c (s.tblAddr c (n - n % 4)) v := by
  simp [State.tblWrite, Nat.not_le_of_lt ha, h]

theorem State.tblWrite_in_use {n : Nat} (ha : s.tblAddr c (n - n % 4) < 4294967296)
    (h : s.tblOpen c (s.tblAddr c (n - n % 4) / 64) = false) :
    s.tblWrite c n v = s.wrBit (prsReg c Reg.PRS_BANK_CTRL) 12 true := by
  simp [State.tblWrite, Nat.not_le_of_lt ha, h]

theorem State.tblWrite_beyond {n : Nat} (ha : 4294967296 ≤ s.tblAddr c (n - n % 4)) : s.tblWrite c n v = s := by
  simp [State.tblWrite, ha]

theorem exec_tbwWrite (hallowed : s.allowed p 1 = true) (hon : s.chipOn c = true) :
    exec (.tbwWrite p c off v) s = .next (s.tblWrite c off.toNat v) := by
  have h : exec (.tbwWrite p c off v) s = execTbwWrite p c off v s := rfl
  rw [h, execTbwWrite]
  simp [hallowed, hon]

theorem exec_tbwWrite_denied (hallowed : s.allowed p 1 = false) : exec (.tbwWrite p c off v) s =
    .next (s.reject p 1 0x01 (BitVec.ofNat 32 (0x10000000 + 0x2000000 * c.val + off.toNat))) := by
  have h : exec (.tbwWrite p c off v) s = execTbwWrite p c off v s := rfl
  rw [h, execTbwWrite]
  simp [hallowed]

theorem exec_tbwWrite_off (hallowed : s.allowed p 1 = true) (hoff : s.chipOn c = false) :
    exec (.tbwWrite p c off v) s = .next (s.bump 0x100094 1) := by
  have h : exec (.tbwWrite p c off v) s = execTbwWrite p c off v s := rfl
  rw [h, execTbwWrite]
  simp [hallowed, hoff]

/-! ### TRACE_ARM (R296) -/

theorem exec_traceArm (h : Permitted s p (prsReg c Reg.PRS_TRACE_SEL) 1) : exec (.traceArm p c v) s =
    .next (((s.plainWrite p (prsReg c Reg.PRS_TRACE_SEL) (withBit v 31)).setChip c { s.chip c with trace := true }).wrBit
      (prsReg c Reg.PRS_TRACE_SEL) 31 true) := by
  have harm : s.writeTrace p c (withBit v 31) =
      ((s.plainWrite p (prsReg c Reg.PRS_TRACE_SEL) (withBit v 31)).setChip c
        { (s.plainWrite p (prsReg c Reg.PRS_TRACE_SEL) (withBit v 31)).chip c with trace := true }).wrBit
        (prsReg c Reg.PRS_TRACE_SEL) 31 true := if_pos (bit_withBit (by omega))
  have hchip : (s.plainWrite p (prsReg c Reg.PRS_TRACE_SEL) (withBit v 31)).chip c = s.chip c := by
    rw [State.plainWrite_traceSel]
    exact State.chip_congr State.wr_chips
  rw [← hchip, ← harm]
  exact congrArg Host.Outcome.next (State.access_permitted h)

/-! ### TablesWritten -/

/-- Settles O36: a write of the table window by its three answers, the bytes of one that is stored by the four keys that it
sets, and the arming of the trace read past the write of PRS_TRACE_SEL. Model choices it rests on: a write of ARM is the command
(assumption 20), a write beyond the table region has no effect (5), a write clears the poison of its unit (73). -/
theorem tablesWritten : Obligations.TablesWritten := by
  unfold Obligations.TablesWritten
  refine ⟨?inside, ?beyond, ?denied, ?unpowered, ?trace⟩
  case inside =>
    intro s p c off v hallowed hon a ha
    refine ⟨fun hopen => ?stored, fun hclosed => ?refused⟩
    case stored =>
      have haligned : a % 4 = 0 := State.tblAddr_aligned
      refine ⟨_, (exec_tbwWrite hallowed hon).trans (congrArg Host.Outcome.next (State.tblWrite_open ha hopen)),
        fun i hi => State.tblStore_byte hi (by omega), fun x hx => State.tblStore_byte_other hx, ?_,
        fun u => State.tblStore_poisoned, fun d hd => State.setChip_chip_other (Fin.val_ne_of_ne hd),
        State.tblStore_frame⟩
      rw [State.tblStore_chip]
    case refused =>
      exact ⟨_, (exec_tbwWrite hallowed hon).trans (congrArg Host.Outcome.next (State.tblWrite_in_use ha hclosed)),
        State.wrBit_rdBit_same (by omega), Frame.refl.wrBit (List.mem_singleton_self _)⟩
  case beyond =>
    exact fun s p c off v hallowed hon hbeyond =>
      (exec_tbwWrite hallowed hon).trans (congrArg Host.Outcome.next (State.tblWrite_beyond hbeyond))
  case denied =>
    intro s p c off v hallowed
    obtain ⟨hctr, -, htarget, -, hframe⟩ := State.reject_rejected (s := s) (p := p) (cls := 1) (ev := 0x01)
      (target := BitVec.ofNat 32 (0x10000000 + 0x2000000 * c.val + off.toNat))
    exact ⟨_, exec_tbwWrite_denied hallowed, hctr, hframe.1 .chips (by simp), htarget, hframe⟩
  case unpowered =>
    exact fun s p c off v hallowed hoff => ⟨_, exec_tbwWrite_off hallowed hoff, State.bump_ctr_same,
      Frame.refl.bump (List.mem_singleton_self _)⟩
  case trace =>
    intro s p c v hperm
    refine ⟨_, exec_traceArm hperm, (State.chip_congr State.wr_chips).trans (State.setChip_chip_same c.isLt),
      State.wrBit_rdBit_same (by omega), ?_, fun d hd => ?_, ?_⟩
    · rw [State.rdFld, State.wrBit, State.wr_rd_same, State.setChip_rd, State.plainWrite_traceSel, State.wr_rd_same]
      refine fld_congr (by omega) fun i _ hi => ?_
      rw [getLsbD_setBit_other (by omega), traceSelRow_next_getLsbD (by omega), withBit, getLsbD_setBit_other (by omega)]
    · refine (State.chip_congr State.wr_chips).trans ((State.setChip_chip_other (Fin.val_ne_of_ne hd)).trans ?_)
      rw [State.plainWrite_traceSel]
      exact State.chip_congr State.wr_chips
    · rw [State.plainWrite_traceSel]
      exact ((Frame.refl.wr (List.mem_singleton_self _)).step (State.setChip_parts (by simp) .refl)).wrBit
        (List.mem_singleton_self _)

end Sys2Proof.Machine

/-! SUPPORT. The stack of a chiplet (R294, R330 to R338): the operations that keep its segments in use, its poison, its channel
map, its spares and its retired pages; an uncorrectable segment, a table unit, a replacement; and the settlement of
StackMaintained. -/

namespace Sys2Proof.Machine

open Sys2Proof

variable {s t u : State} {p : CmdPort} {v : Word} {a i k n o : Nat} {c : Fin 16} {g : BitVec 32} {x y z : Chip}

/-! ### BUF_PCH_REPLACE -/

theorem locate_bufReg (ho : o < 0x20000) : locate (bufReg c o) = some (.buf c, o) := by
  obtain ⟨hlow, hhigh, hchip, hoff, hblk⟩ := chipReg_digits (c := c) (a := bufReg c o) (b := 3) (by simp only [bufReg]; omega) ho
    (by omega)
  simp only [locate, if_neg hlow, if_pos hhigh, hchip, hoff, hblk]

theorem findRow_pchReplace : findRow (.buf i) Reg.BUF_PCH_REPLACE =
    some ⟨0x200, 0x4, 1, 0x1f, 0x0, 0x60000000, 0x80000000, 0x0⟩ := by
  simp [findRow, windowOff, rowsOf, rowsBuf, Reg.BUF_PCH_REPLACE]

theorem State.plainWrite_pchReplace_frame :
    Frame [] [bufReg c Reg.BUF_PCH_REPLACE] [] s (s.plainWrite p (bufReg c Reg.BUF_PCH_REPLACE) v) := by
  rw [State.plainWrite_row (locate_bufReg (by decide)) findRow_pchReplace rfl]
  exact Frame.refl.wr (List.mem_singleton_self _)

theorem bufReg_ne_irqPending : bufReg n o ≠ Reg.CMD_IRQ_PENDING := by
  simp only [bufReg, Reg.CMD_IRQ_PENDING]
  omega

theorem bufReg_ne_class0 : bufReg n o ≠ 0x200020 := by
  simp only [bufReg]
  omega

theorem bufReg_inj {o' : Nat} : bufReg n o = bufReg n o' ↔ o = o' := Nat.add_left_cancel_iff

/-! ### What the reads of a stack keep -/

/-- A chiplet keeps its segments in use, its channel map and its spares, and every poisoned segment and retired page that it
has. -/
structure Chip.StackKept (x y : Chip) : Prop where
  used : ∀ hold, (y.region hold).used = (x.region hold).used
  poisoned : ∀ g, x.poisoned.contains g = true → y.poisoned.contains g = true
  retired : ∀ hold ch idx, x.retired hold ch idx = true → y.retired hold ch idx = true
  pchMap : y.pchMap = x.pchMap
  spares : y.spares = x.spares

theorem Chip.StackKept.refl : Chip.StackKept x x := ⟨fun _ => rfl, fun _ h => h, fun _ _ _ h => h, rfl, rfl⟩

theorem Chip.StackKept.trans (h : Chip.StackKept x y) (h' : Chip.StackKept y z) : Chip.StackKept x z where
  used hold := (h'.used hold).trans (h.used hold)
  poisoned g hg := h'.poisoned g (h.poisoned g hg)
  retired hold ch idx hr := h'.retired hold ch idx (h.retired hold ch idx hr)
  pchMap := h'.pchMap.trans h.pchMap
  spares := h'.spares.trans h.spares

theorem Chip.withPoison_kept : Chip.StackKept x (x.withPoison g) where
  used hold := by cases hold <;> rfl
  poisoned g' hg' := by
    unfold Chip.withPoison
    dsimp only
    split
    · exact hg'
    · simp_all
  retired _ _ _ h := h
  pchMap := rfl
  spares := rfl

/-- The page of a segment as a chiplet retires it: recorded while the repair map has room, else until start-up. -/
def Chip.pageOf (x : Chip) (g : BitVec 32) : Page where
  region := if segHold g then 1 else 0
  channel := segChan g
  index := segIdx g / 8
  recorded := decide (x.pagesRecorded < 8192)
  past := !decide (x.pagesRecorded < 8192)

/-- A chiplet with the page of a segment retired (R332). -/
def Chip.pageRetired (x : Chip) (g : BitVec 32) : Chip :=
  { x.dropFree (segHold g) (segChan g) (segIdx g) with
    pages := x.pages ++ [x.pageOf g]
    retireFull := x.retireFull || !decide (x.pagesRecorded < 8192) }

theorem Chip.pageRetired_retired : (x.pageRetired g).retired (segHold g) (segChan g) (segIdx g) = true := by
  have hpage : (x.pageOf g).region.val = b2n (segHold g) ∧ (x.pageOf g).channel = segChan g ∧
      (x.pageOf g).index = segIdx g / 8 := by
    unfold Chip.pageOf
    cases segHold g <;> exact ⟨rfl, rfl, rfl⟩
  exact List.any_eq_true.2 ⟨x.pageOf g, List.mem_append_right _ (List.mem_singleton_self _), decide_eq_true hpage⟩

theorem Chip.pageRetired_kept : Chip.StackKept x (x.pageRetired g) where
  used hold := by
    rw [← Chip.dropFree_used (x := x) (hold := hold) (h := segHold g) (k := segChan g) (n := segIdx g)]
    cases hold <;> rfl
  poisoned g' hg' := by
    have hsame : (x.pageRetired g).poisoned = x.poisoned := by
      unfold Chip.pageRetired Chip.dropFree Chip.setRegion
      cases segHold g <;> rfl
    rwa [hsame]
  retired hold ch idx h := by
    simp only [Chip.retired, Chip.pageRetired, List.any_append, Bool.or_eq_true] at h ⊢
    exact .inl h
  pchMap := by
    unfold Chip.pageRetired Chip.dropFree Chip.setRegion
    cases segHold g <;> rfl
  spares := by
    unfold Chip.pageRetired Chip.dropFree Chip.setRegion
    cases segHold g <;> rfl

/-- An operation keeps the stack of chiplet c, and every register and counter but those of its reads and interrupts; every
fault report sent stays. -/
structure StackKept (c : Fin 16) (s t : State) : Prop where
  chip : Chip.StackKept (s.chip c) (t.chip c)
  sent : s.flt.sent <+: t.flt.sent
  frame : Frame [.cmd, .flt, .brt, .chips] [Reg.CMD_IRQ_PENDING] [bufReg c 0x808, bufReg c 0x810] s t

theorem StackKept.refl : StackKept c s s := ⟨.refl, List.prefix_rfl, .refl⟩

theorem StackKept.trans (h : StackKept c s t) (h' : StackKept c t u) : StackKept c s u :=
  ⟨h.chip.trans h'.chip, h.sent.trans h'.sent, h.frame.trans h'.frame⟩

theorem StackKept.foldl {α : Type} {f : State → α → State} {l : List α} (hf : ∀ u b, StackKept c u (f u b)) :
    StackKept c s (l.foldl f s) := by
  induction l generalizing s with
  | nil => exact .refl
  | cons b l ih => exact (hf s b).trans ih

/-- An operation that touches neither the chiplets nor the reports sent. -/
theorem StackKept.of_chips (hchips : t.chips = s.chips) (hflt : t.flt = s.flt)
    (h : Frame [.cmd, .flt, .brt, .chips] [Reg.CMD_IRQ_PENDING] [bufReg c 0x808, bufReg c 0x810] s t) : StackKept c s t where
  chip := by
    rw [State.chip_congr hchips]
    exact .refl
  sent := by rw [hflt]
  frame := h

theorem StackKept.setChip (h : Chip.StackKept (s.chip c) x) : StackKept c s (s.setChip c x) where
  chip := by rwa [State.setChip_chip_same c.isLt]
  sent := List.prefix_rfl
  frame := .of_parts (State.setChip_parts (by simp) .refl) (by simp) (by simp)

theorem StackKept.irqIf {j m : Nat} : StackKept c s (s.irqIf a j m) :=
  .of_chips (State.irqIf_frame.1 .chips (by simp)) (State.irqIf_frame.1 .flt (by simp))
    (State.irqIf_frame.mono (by simp) (by simp) (by simp))

theorem StackKept.raise {code : BitVec 16} {cls : Fin 4} (h : cls ≠ 0) : StackKept c s (s.raise code cls) where
  chip := by
    rw [State.chip_congr (State.raise_parts (P := [.ctrs, .flt]) (by simp) .refl .chips (by simp))]
    exact .refl
  sent := by
    rw [State.raise_sent h]
    exact List.prefix_append _ _
  frame := Frame.refl.raise (by simp) h

theorem StackKept.startReplace {l : Fin 32} : StackKept c s (s.startReplace c l n) :=
  StackKept.trans (t := s.setChip c { s.chip c with move := some { channel := l, spare := n } })
    (.setChip ⟨fun hold => by cases hold <;> rfl, fun _ h => h, fun _ _ _ h => h, rfl, rfl⟩) .irqIf

theorem StackKept.autoReplace : StackKept c s (s.autoReplace c k) := by
  unfold State.autoReplace
  dsimp only
  split
  · split
    · exact .refl
    · exact .setChip ⟨fun hold => by cases hold <;> rfl, fun _ h => h, fun _ _ _ h => h, rfl, rfl⟩
  · split
    · exact .raise (by decide)
    · exact .startReplace

/-! ### A page retired (R332) -/

/-- The state with the page of a segment retired and counted. -/
def State.pageCounted (s : State) (c : Nat) (g : BitVec 32) : State :=
  (s.setChip c ((s.chip c).pageRetired g)).bump (bufReg c 0x810) 1

theorem StackKept.pageCounted : StackKept c s (s.pageCounted c g) :=
  (StackKept.setChip Chip.pageRetired_kept).trans
    (.of_chips State.bump_chips State.bump_flt (Frame.refl.bump (by simp)))

/-- A page is retired once: then it is counted, and what follows keeps the stack. -/
theorem State.retirePage_counted : ((s.chip c).retired (segHold g) (segChan g) (segIdx g) = true ∧ s.retirePage c g = s) ∨
    StackKept c (s.pageCounted c g) (s.retirePage c g) := by
  unfold State.retirePage
  extract_lets x hold l idx room z y s1 s2
  have hcounted : s1 = s.pageCounted c g := rfl
  have hraised : StackKept c (s.pageCounted c g) s2 := by
    rw [← hcounted]
    obtain h | h : s2 = s1 ∨ s2 = s1.raise (stackCode c) 2 := ite_eq_or_eq _ _ _
    · rw [h]
      exact .refl
    · rw [h]
      exact .raise (by decide)
  split
  · exact .inl ⟨‹_›, rfl⟩
  · refine .inr ?_
    split
    · exact hraised.trans .autoReplace
    · exact hraised

theorem StackKept.retirePage : StackKept c s (s.retirePage c g) := by
  obtain ⟨-, heq⟩ | h := State.retirePage_counted (s := s) (c := c) (g := g)
  · rw [heq]
    exact .refl
  · exact StackKept.pageCounted.trans h

theorem State.retirePage_retired :
    ((s.retirePage c g).chip c).retired (segHold g) (segChan g) (segIdx g) = true := by
  obtain ⟨h, heq⟩ | h := State.retirePage_counted (s := s) (c := c) (g := g)
  · rwa [heq]
  · refine h.chip.retired _ _ _ ?_
    have hchip : (s.pageCounted c g).chip c = (s.chip c).pageRetired g := State.setChip_chip_same c.isLt
    rw [hchip]
    exact Chip.pageRetired_retired

/-! ### An uncorrectable segment (R331) -/

/-- What an uncorrectable segment does once its page is retired: one in use is poisoned, and in the packet region the bursts
that await retransmission with it ask for a gap. -/
def State.segLost (s : State) (c : Nat) (g : BitVec 32) : State :=
  let s3 := s.setChip c ((s.chip c).withPoison g)
  if ((s.chip c).region (segHold g)).used.contains g then
    if segHold g then s3 else s3.askGaps (s3.failedWith c g)
  else s

theorem State.uncorrectable_eq : s.uncorrectable n g = (s.pageLost n g).segLost n g := rfl

theorem State.segLost_frame : Frame [.brt, .chips] [] [] s (s.segLost n g) := by
  have poison : Frame [.brt, .chips] [] [] s (s.setChip n ((s.chip n).withPoison g)) :=
    .of_parts (State.setChip_parts (by simp) .refl) (by simp) (by simp)
  unfold State.segLost
  dsimp only
  split
  · split
    · exact poison
    · exact poison.step (State.askGaps_parts.mono (by simp))
  · exact .refl

theorem StackKept.segLost : StackKept c s (s.segLost c g) := by
  have poison : StackKept c s (s.setChip c ((s.chip c).withPoison g)) := .setChip Chip.withPoison_kept
  unfold State.segLost
  dsimp only
  split
  · split
    · exact poison
    · exact poison.trans (.of_chips (State.askGaps_parts .chips (by simp)) (State.askGaps_parts .flt (by simp))
        (.of_parts (State.askGaps_parts.mono (by simp)) (by simp) (by simp)))
  · exact .refl

theorem State.segLost_poisoned (h : g ∈ ((s.chip c).region (segHold g)).used) : (s.segLost c g).isPoisoned c g = true := by
  have poisoned {l : List (Nat × Nat × Nat)} : ((s.setChip c ((s.chip c).withPoison g)).askGaps l).isPoisoned c g = true := by
    rw [State.isPoisoned, State.chip_congr (State.askGaps_parts .chips (by simp)), State.setChip_chip_same c.isLt]
    exact Chip.withPoison_poisoned
  rw [State.segLost, if_pos (by simpa using h)]
  split
  · exact poisoned (l := [])
  · exact poisoned

/-- The read of an uncorrectable segment, counted and reported. -/
abbrev State.segReported (s : State) (c : Nat) : State :=
  ((s.bump (bufReg c 0x808) 1).irqIf (bufReg c Reg.BUF_CTRL) 1 (chipVec c)).raise (stackCode c) 1

theorem StackKept.segReported : StackKept c (s.bump (bufReg c 0x808) 1) (s.segReported c) :=
  StackKept.irqIf.trans (.raise (by decide))

theorem State.segReported_sent : (s.segReported c).flt.sent = s.flt.sent ++
    [{ code := stackCode c, cls := 1, sec := s.tim.dt.sec, ns := s.tim.dt.ns }] := by
  have hirq := State.irqIf_frame (s := s.bump (bufReg c 0x808) 1) (a := bufReg c Reg.BUF_CTRL) (i := 1) (n := chipVec c)
  have htim : ((s.bump (bufReg c 0x808) 1).irqIf (bufReg c Reg.BUF_CTRL) 1 (chipVec c)).tim = s.tim :=
    hirq.1 .tim (by simp)
  have hflt : ((s.bump (bufReg c 0x808) 1).irqIf (bufReg c Reg.BUF_CTRL) 1 (chipVec c)).flt = s.flt :=
    hirq.1 .flt (by simp)
  rw [State.raise_sent (by decide), htim, hflt]

/-- After its report an uncorrectable read keeps the stack. -/
theorem StackKept.uncorrectable_reported : StackKept c (s.segReported c) (s.uncorrectable c g) :=
  StackKept.retirePage.trans .segLost

theorem StackKept.uncorrectable : StackKept c s (s.uncorrectable c g) :=
  ((StackKept.of_chips State.bump_chips State.bump_flt (Frame.refl.bump (by simp))).trans .segReported).trans
    .uncorrectable_reported

theorem State.uncorrectable_poisoned (h : g ∈ ((s.chip c).region (segHold g)).used) :
    (s.uncorrectable c g).isPoisoned c g = true := by
  rw [State.uncorrectable_eq]
  refine State.segLost_poisoned ?_
  rwa [State.pageLost_used c.isLt]

theorem State.uncorrectable_retired :
    ((s.uncorrectable c g).chip c).retired (segHold g) (segChan g) (segIdx g) = true := by
  rw [State.uncorrectable_eq]
  exact StackKept.segLost.chip.retired _ _ _ State.retirePage_retired

/-- Past the read that is counted, an uncorrectable segment counts retired pages only. -/
theorem State.uncorrectable_ctr : (s.uncorrectable c g).ctr (bufReg c 0x808) = s.ctr (bufReg c 0x808) + 1 := by
  have hlost : (s.pageLost c g).ctr (bufReg c 0x808) = (s.bump (bufReg c 0x808) 1).ctr (bufReg c 0x808) :=
    State.pageLost_frame.2.2 _ (by simp [bufReg_inj])
  rw [State.uncorrectable_eq, State.segLost_frame.2.2 _ (by simp), hlost]
  exact State.bump_ctr_same

/-! ### A corrected segment (R330) -/

theorem State.correctedRead_class0 : (s.correctedRead n g).ctr 0x200020 = s.ctr 0x200020 + 1 := by
  have set {x : Chip} : (((s.bump (bufReg n 0x800) 1).bump 0x200020 1).setChip n x).ctr 0x200020 =
      s.ctr 0x200020 + 1 := by
    rw [State.setChip_ctr, State.bump_ctr_same, State.bump_ctr_other bufReg_ne_class0.symm]
    rfl
  have hclass {u : State} : u.raise (stackCode n) 0 = u.bump 0x200020 1 := if_pos rfl
  unfold State.correctedRead
  simp only [hclass]
  split
  · exact (State.autoReplace_frame.2.2 _ (by simp)).trans set
  · exact set

theorem State.correctedRead_ctr : (s.correctedRead n g).ctr (bufReg n 0x800) = s.ctr (bufReg n 0x800) + 1 :=
  (State.correctedRead_frame.2.2 _ (List.mem_singleton.not.2 bufReg_ne_class0)).trans State.bump_ctr_same

/-! ### Table units (R294, R336) -/

theorem State.spoilUnit_mem : k ∈ ((s.spoilUnit c n).chip c).tblPoisoned ↔ k = n ∨ k ∈ (s.chip c).tblPoisoned := by
  unfold State.spoilUnit
  dsimp only
  split
  · rename_i h
    rw [List.contains_iff_mem] at h
    exact ⟨.inr, fun hk => hk.elim (fun e => e ▸ h) id⟩
  · rw [State.setChip_chip_same c.isLt]
    simp [or_comm]

theorem State.tblFault_mem (h : n ∈ (s.chip i).tblPoisoned) : s.tblFault i n = s.raise (faultCode fbChip i) 1 :=
  if_pos (List.contains_iff_mem.2 h)

theorem State.tblFault_not_mem (h : n ∉ (s.chip i).tblPoisoned) : s.tblFault i n = s :=
  if_neg (fun hc => h (List.contains_iff_mem.1 hc))

theorem State.tblFault_frame : Frame [.flt] [] [] s (s.tblFault i n) := by
  unfold State.tblFault
  split
  · exact Frame.refl.raise (by simp) (by decide)
  · exact .refl

theorem State.tblFault_chip : (s.tblFault i n).chip k = s.chip k := State.chip_congr (State.tblFault_frame.1 .chips (by simp))

/-- The read of a table unit by the scrub: one that reads uncorrectable is marked, and one that is marked raises its fault. -/
def State.unitScrubbed (s : State) (c n : Nat) (r : EccResult) : State :=
  (if r = .uncorrectable then s.spoilUnit c n else s).tblFault c n

theorem State.scrub_table {m : BitVec 26} {r : EccResult} (hon : s.chipOn n = true) (hup : (s.chip n).stackUp = true)
    (hscrub : s.rdBit (bufReg n Reg.BUF_CTRL) 0 = true) : s.scrub n (.table m) r =
      if m = 67108863 then (s.unitScrubbed n m.toNat r).bump (bufReg n 0x818) 1 else s.unitScrubbed n m.toNat r := by
  have hread : (if r = .uncorrectable ∧ !(s.chip n).tblPoisoned.contains m.toNat then
      (s.setChip n { s.chip n with tblPoisoned := (s.chip n).tblPoisoned ++ [m.toNat] }).tblFault n m.toNat
      else s.tblFault n m.toNat) = s.unitScrubbed n m.toNat r := by
    unfold State.unitScrubbed State.spoilUnit
    by_cases hr : r = .uncorrectable <;> by_cases hm : m.toNat ∈ (s.chip n).tblPoisoned <;> simp [hr, hm]
  rw [State.scrub, if_pos (by simp [hon, hup, hscrub])]
  dsimp only
  rw [hread]

theorem exec_scrubRead_table {m : BitVec 26} {r : EccResult} (hon : s.chipOn c = true) (hup : (s.chip c).stackUp = true)
    (hscrub : s.rdBit (bufReg c Reg.BUF_CTRL) 0 = true) : exec (.scrubRead c (.table m) r) s = .next
      (if m = 67108863 then (s.unitScrubbed c m.toNat r).bump (bufReg c 0x818) 1 else s.unitScrubbed c m.toNat r) :=
  congrArg Host.Outcome.next (State.scrub_table hon hup hscrub)

/-- What the read of a table unit by the scrub does to the marks of its chiplet and to the reports sent. -/
structure UnitScrubbed (c : Fin 16) (n : Nat) (r : EccResult) (s t : State) : Prop where
  marked : r = .uncorrectable → n ∈ (t.chip c).tblPoisoned
  others : ∀ u, u ≠ n → (u ∈ (t.chip c).tblPoisoned ↔ u ∈ (s.chip c).tblPoisoned)
  fault : n ∈ (t.chip c).tblPoisoned → t.flt.sent = s.flt.sent ++
    [{ code := faultCode fbChip c, cls := 1, sec := s.tim.dt.sec, ns := s.tim.dt.ns }]
  silent : n ∉ (t.chip c).tblPoisoned → t.flt = s.flt
  frame : Frame [.flt, .chips] [] [] s t

/-- A unit that is marked raises its fault, one that is not does nothing. -/
theorem UnitScrubbed.tblFault {r : EccResult} (hmarked : r = .uncorrectable → n ∈ (s.chip c).tblPoisoned) :
    UnitScrubbed c n r s (s.tblFault c n) where
  marked hr := by rw [State.tblFault_chip]; exact hmarked hr
  others u _ := by rw [State.tblFault_chip]
  fault hmem := by
    rw [State.tblFault_chip] at hmem
    rw [State.tblFault_mem hmem, State.raise_sent (by decide)]
  silent hmem := by
    rw [State.tblFault_chip] at hmem
    rw [State.tblFault_not_mem hmem]
  frame := State.tblFault_frame.mono (by simp) (List.Subset.refl _) (List.Subset.refl _)

theorem State.unitScrubbed_scrubbed {r : EccResult} : UnitScrubbed c n r s (s.unitScrubbed c n r) := by
  unfold State.unitScrubbed
  split
  · have hspoil : OnlyParts [.chips] s (s.spoilUnit c n) := State.spoilUnit_parts (List.Subset.refl _) .refl
    obtain ⟨hmarked, hothers, hfault, hsilent, hframe⟩ :=
      UnitScrubbed.tblFault (s := s.spoilUnit c n) (c := c) (r := r) fun _ => State.spoilUnit_mem.2 (.inl rfl)
    have hflt : (s.spoilUnit c n).flt = s.flt := hspoil .flt (by simp)
    have htim : (s.spoilUnit c n).tim = s.tim := hspoil .tim (by simp)
    rw [hflt, htim] at hfault
    exact {
      marked := hmarked
      others := fun u hu => (hothers u hu).trans (State.spoilUnit_mem.trans (or_iff_right hu))
      fault := hfault
      silent := fun h => (hsilent h).trans hflt
      frame := (Frame.of_parts (hspoil.mono (by simp)) (by simp) (by simp)).trans hframe }
  · rename_i hr
    exact .tblFault fun h => absurd h hr

/-! ### Replacement of a pseudo-channel (R334, R335, R338) -/

theorem exec_pchReplace (h : Permitted s p (bufReg c Reg.BUF_PCH_REPLACE) 4) :
    exec (.pchReplace p c v) s = .next (s.writePchReplace p c (withBit v 31)) :=
  congrArg Host.Outcome.next (State.access_permitted h)

/-- A replacement of a channel by a spare has started, and GO of its request reads 1. -/
def State.pchStarted (s : State) (p : CmdPort) (c : Nat) (v : Word) (sp : Nat) : State :=
  ((s.plainWrite p (bufReg c Reg.BUF_PCH_REPLACE) (withBit v 31)).startReplace c (Fin.ofNat 32 (fld v 4 0)) sp).wrBit
    (bufReg c Reg.BUF_PCH_REPLACE) 31 true

/-- A request of a replacement has been refused, with every refusal bit of the chiplet. -/
def State.pchRefused (s : State) (p : CmdPort) (c : Nat) (v : Word) : State :=
  ((s.chip c).pchRefusals.foldl (fun t b => t.wrBit (bufReg c Reg.BUF_PCH_REPLACE) b true)
    (s.plainWrite p (bufReg c Reg.BUF_PCH_REPLACE) (withBit v 31))).irqIf (bufReg c Reg.BUF_CTRL) 2 (chipVec c)

/-- The write of BUF_PCH_REPLACE itself leaves the chiplets alone. -/
theorem State.plainWrite_pchReplace_chip : (s.plainWrite p (bufReg c Reg.BUF_PCH_REPLACE) v).chip i = s.chip i :=
  State.chip_congr (State.plainWrite_pchReplace_frame.1 .chips (by simp))

theorem State.writePchReplace_starts {sp : Nat} {rest : List Nat} (hmove : (s.chip c).move = none)
    (hspare : (s.chip c).spares = sp :: rest) : s.writePchReplace p c (withBit v 31) = s.pchStarted p c v sp := by
  have hnone : (s.chip c).pchRefusals = [] := by simp [Chip.pchRefusals, hmove, hspare]
  rw [State.writePchReplace, if_pos (bit_withBit (by omega)), State.plainWrite_pchReplace_chip, hnone, hspare,
    fld_withBit (by omega) (by omega), State.pchStarted]

theorem State.writePchReplace_refused (h : (s.chip c).pchRefusals ≠ []) :
    s.writePchReplace p c (withBit v 31) = s.pchRefused p c v := by
  rw [State.writePchReplace, if_pos (bit_withBit (by omega)), State.plainWrite_pchReplace_chip]
  split
  · exact absurd ‹_› h
  · rfl

theorem State.startReplace_irq {l : Fin 32} : Frame [.cmd] [Reg.CMD_IRQ_PENDING] []
    (s.setChip i { s.chip i with move := some { channel := l, spare := n } }) (s.startReplace i l n) := State.irqIf_frame

theorem State.pchStarted_chip {sp : Nat} : (s.pchStarted p c v sp).chip c =
    { s.chip c with move := some { channel := Fin.ofNat 32 (fld v 4 0), spare := sp } } := by
  refine (State.chip_congr State.wr_chips).trans ((State.chip_congr (State.startReplace_irq.1 .chips (by simp))).trans ?_)
  rw [State.setChip_chip_same c.isLt, State.plainWrite_pchReplace_chip]

theorem State.pchStarted_chip_other {sp : Nat} {d : Fin 16} (h : d ≠ c) : (s.pchStarted p c v sp).chip d = s.chip d := by
  refine (State.chip_congr State.wr_chips).trans ((State.chip_congr (State.startReplace_irq.1 .chips (by simp))).trans ?_)
  rw [State.setChip_chip_other (Fin.val_ne_of_ne h), State.plainWrite_pchReplace_chip]

theorem State.pchStarted_frame {sp : Nat} : Frame [.cmd, .chips] [bufReg c Reg.BUF_PCH_REPLACE, Reg.CMD_IRQ_PENDING] [] s
    (s.pchStarted p c v sp) := by
  have hwrite := (State.plainWrite_pchReplace_frame (s := s) (p := p) (c := c) (v := withBit v 31)).mono
    (ps' := [.cmd, .chips]) (as' := [bufReg c Reg.BUF_PCH_REPLACE, Reg.CMD_IRQ_PENDING]) (cs' := []) (by simp) (by simp)
    (by simp)
  exact ((hwrite.step (State.setChip_parts (by simp) .refl)).irqIf (by simp) (by simp)).wrBit (by simp)

theorem State.pchRefused_rdBit (h : i ∈ (s.chip c).pchRefusals) (hi : i < 32) :
    (s.pchRefused p c v).rdBit (bufReg c Reg.BUF_PCH_REPLACE) i = true :=
  (State.rdBit_of_frame State.irqIf_frame (List.mem_singleton.not.2 bufReg_ne_irqPending)).trans
    (foldl_wrBit_rdBit (.inl h) hi)

theorem State.pchRefused_frame :
    Frame [.cmd] [bufReg c Reg.BUF_PCH_REPLACE, Reg.CMD_IRQ_PENDING] [] s (s.pchRefused p c v) :=
  ((State.plainWrite_pchReplace_frame.trans foldl_wrBit_frame).mono (by simp) (by simp) (by simp)).irqIf (by simp) (by simp)

theorem Chip.mem_pchRefusals_busy (h : x.move ≠ none) : 29 ∈ x.pchRefusals :=
  List.mem_append_left _ (mem_ite_singleton (Option.isSome_iff_ne_none.2 h))

theorem Chip.mem_pchRefusals_none (h : x.spares = []) : 30 ∈ x.pchRefusals :=
  List.mem_append_right _ (mem_ite_singleton (List.isEmpty_iff.2 h))

/-- A chiplet whose channel map has switched to the spare of a replacement, which is used up. -/
def Chip.pchSwitched (x : Chip) (m : PchMove) : Chip :=
  { x with
    move := none
    pchMap := Sparse.set id x.pchMap m.channel.val m.spare
    spares := x.spares.filter fun p => decide (p ≠ m.spare) }

/-- The switch of the channel map, counted. -/
def State.pchCounted (s : State) (c : Nat) (m : PchMove) : State :=
  (s.setChip c ((s.chip c).pchSwitched m)).bump (bufReg c 0x820) 1

/-- The switch of the channel map: GO of its request reads 0, and its interrupt is raised. -/
def State.pchSwitched (s : State) (c : Nat) (m : PchMove) : State :=
  ((s.pchCounted c m).wrBit (bufReg c Reg.BUF_PCH_REPLACE) 31 false).irqIf (bufReg c Reg.BUF_CTRL) 2 (chipVec c)

theorem State.pchSwitched_irq {m : PchMove} : Frame [.cmd] [Reg.CMD_IRQ_PENDING] []
    ((s.pchCounted c m).wrBit (bufReg c Reg.BUF_PCH_REPLACE) 31 false) (s.pchSwitched c m) := State.irqIf_frame

theorem State.pchSwitched_chip {m : PchMove} : (s.pchSwitched c m).chip c = (s.chip c).pchSwitched m := by
  have hcounted : (s.pchCounted c m).chip c = (s.chip c).pchSwitched m :=
    (State.chip_congr State.bump_chips).trans (State.setChip_chip_same c.isLt)
  have hwritten : ((s.pchCounted c m).wrBit (bufReg c Reg.BUF_PCH_REPLACE) 31 false).chips = (s.pchCounted c m).chips :=
    State.wr_chips
  rw [State.chip_congr (State.pchSwitched_irq.1 .chips (by simp)), State.chip_congr hwritten, hcounted]

theorem State.pchSwitched_frame {m : PchMove} : Frame [.cmd, .chips] [bufReg c Reg.BUF_PCH_REPLACE, Reg.CMD_IRQ_PENDING]
    [bufReg c 0x820] s (s.pchSwitched c m) :=
  (((Frame.refl.step (State.setChip_parts (by simp) .refl)).bump (by simp)).wrBit (by simp)).irqIf (by simp) (by simp)

theorem State.pchSwitched_ctr {m : PchMove} : (s.pchSwitched c m).ctr (bufReg c 0x820) = s.ctr (bufReg c 0x820) + 1 := by
  rw [State.pchSwitched_irq.2.2 _ (by simp), State.wrBit, State.wr_ctr, State.pchCounted, State.bump_ctr_same,
    State.setChip_ctr]
  rfl

theorem State.pchSwitched_go {m : PchMove} : (s.pchSwitched c m).rdBit (bufReg c Reg.BUF_PCH_REPLACE) 31 = false :=
  (State.rdBit_of_frame State.pchSwitched_irq (List.mem_singleton.not.2 bufReg_ne_irqPending)).trans
    (State.wrBit_rdBit_same (by omega))

/-- The segments of a list read uncorrectable during a copy. -/
abbrev State.segsLost (s : State) (c : Nat) (bad : List (BitVec 32)) : State := bad.foldl (fun s g => s.uncorrectable c g) s

/-- The triggers that waited act. -/
def State.waitersAct (s : State) (c : Nat) : State :=
  (s.chip c).waitPch.foldl (fun s l => s.autoReplace c l) (s.setChip c { s.chip c with waitPch := [] })

theorem State.pchCopyDone_moved {m : PchMove} {bad : List (BitVec 32)} (h : (s.chip c).move = some m) :
    s.pchCopyDone c bad = ((s.pchSwitched c m).segsLost c bad).waitersAct c := by
  rw [State.pchCopyDone, h]
  rfl

theorem State.pchCopyDone_none {bad : List (BitVec 32)} (h : (s.chip c).move = none) : s.pchCopyDone c bad = s := by
  rw [State.pchCopyDone, h]

theorem StackKept.segsLost {bad : List (BitVec 32)} : StackKept c s (s.segsLost c bad) := .foldl fun _ _ => .uncorrectable

theorem StackKept.waitersAct : StackKept c s (s.waitersAct c) :=
  StackKept.trans (t := s.setChip c { s.chip c with waitPch := [] })
    (.setChip ⟨fun hold => by cases hold <;> rfl, fun _ h => h, fun _ _ _ h => h, rfl, rfl⟩)
    (.foldl fun _ _ => .autoReplace)

/-- Every segment in use that read uncorrectable is poisoned. -/
theorem State.segsLost_poisoned {bad : List (BitVec 32)} (hg : g ∈ bad)
    (hused : g ∈ ((s.chip c).region (segHold g)).used) : (s.segsLost c bad).isPoisoned c g = true := by
  induction bad generalizing s with
  | nil => exact absurd hg (by simp)
  | cons b bad ih =>
    obtain rfl | hmem := List.mem_cons.1 hg
    · exact (StackKept.segsLost (bad := bad)).chip.poisoned _ (State.uncorrectable_poisoned hused)
    · refine ih (s := s.uncorrectable c b) hmem ?_
      rwa [StackKept.uncorrectable.chip.used]

/-! ### StackMaintained -/

/-- Settles O38: the reads of the scrub by their results, a replacement by its refusals, and the end of a copy as the switch of
the map and what keeps the stack after it. Model choices it rests on: a write of GO is the command (assumption 20), a command
with nothing to act on changes nothing (3), a pass of the scrub ends with the last table unit (57), a corrected scrub counts
as class C (142). -/
theorem stackMaintained : Obligations.StackMaintained := by
  unfold Obligations.StackMaintained
  refine ⟨?scrub, ?off, ?replace, ?copied, ?idle⟩
  case scrub =>
    intro s c hon hup hscrub
    have hseg {g : BitVec 32} {r : EccResult} :
        exec (.scrubRead c (.segment g) r) s = .next (s.segRead c { seg := g, res := r }) :=
      congrArg Host.Outcome.next (if_pos (by simp [hon, hup, hscrub]))
    refine ⟨fun g => hseg, fun g => ⟨_, hseg, ?corrected⟩, fun g => ⟨_, hseg, ?uncorrectable⟩, fun n r => ?table⟩
    case corrected =>
      exact ⟨State.correctedRead_ctr, State.correctedRead_class0,
        (Frame.refl.bump (by simp)).trans (State.correctedRead_frame.mono (by simp) (by simp) (by simp))⟩
    case uncorrectable =>
      obtain ⟨more, hmore⟩ := (StackKept.uncorrectable_reported (s := s) (c := c) (g := g)).sent
      refine ⟨State.uncorrectable_ctr, State.uncorrectable_retired, State.uncorrectable_poisoned, ⟨more, ?_⟩,
        StackKept.uncorrectable.frame⟩
      rw [State.segRead, ← hmore, State.segReported_sent, List.append_assoc, List.singleton_append]
    case table =>
      obtain ⟨hmarked, hothers, hfault, hsilent, hframe⟩ := State.unitScrubbed_scrubbed (s := s) (c := c) (n := n.toNat) (r := r)
      have hctr : (s.unitScrubbed c n.toNat r).ctr (bufReg c 0x818) = s.ctr (bufReg c 0x818) := hframe.2.2 _ (by simp)
      have hscrubbed := exec_scrubRead_table (m := n) (r := r) hon hup hscrub
      by_cases hlast : n = 67108863
      · rw [if_pos hlast] at hscrubbed ⊢
        refine ⟨_, hscrubbed, ?_⟩
        dsimp only
        rw [State.chip_congr State.bump_chips, State.bump_flt, State.bump_ctr_same, hctr]
        exact ⟨hmarked, hothers, hfault, hsilent, rfl, (hframe.mono (by simp) (by simp) (by simp)).bump (by simp)⟩
      · rw [if_neg hlast] at hscrubbed ⊢
        exact ⟨_, hscrubbed, hmarked, hothers, hfault, hsilent, hctr.trans (BitVec.add_zero _).symm,
          hframe.mono (by simp) (by simp) (by simp)⟩
  case off =>
    intro s c x r h
    refine congrArg Host.Outcome.next (if_neg ?_)
    obtain h | h | h := h <;> simp [h]
  case replace =>
    intro s p c v hperm a
    refine ⟨fun sp rest hmove hspare => ?starts, fun hrefused => ?refused⟩
    case starts =>
      refine ⟨_, (exec_pchReplace hperm).trans (congrArg Host.Outcome.next (State.writePchReplace_starts hmove hspare)),
        State.wrBit_rdBit_same (by omega), ?_, fun d hd => ?_, ?_⟩
      · exact State.pchStarted_chip
      · exact State.pchStarted_chip_other hd
      · exact State.pchStarted_frame
    case refused =>
      refine ⟨_, (exec_pchReplace hperm).trans (congrArg Host.Outcome.next (State.writePchReplace_refused ?_)),
        fun hbusy => State.pchRefused_rdBit (Chip.mem_pchRefusals_busy hbusy) (by omega),
        fun hnone => State.pchRefused_rdBit (Chip.mem_pchRefusals_none hnone) (by omega), State.pchRefused_frame⟩
      exact hrefused.elim (fun h => List.ne_nil_of_mem (Chip.mem_pchRefusals_busy h))
        fun h => List.ne_nil_of_mem (Chip.mem_pchRefusals_none h)
  case copied =>
    intro s c bad m hmove
    have hswitched := State.pchSwitched_frame (s := s) (c := c) (m := m)
    have hlost : StackKept c (s.pchSwitched c m) ((s.pchSwitched c m).segsLost c bad) := .segsLost
    have hkept := hlost.trans StackKept.waitersAct
    have hmap : (((s.pchSwitched c m).segsLost c bad).waitersAct c |>.chip c).pchMap =
        Sparse.set id (s.chip c).pchMap m.channel.val m.spare := by
      rw [hkept.chip.pchMap, State.pchSwitched_chip, Chip.pchSwitched]
    refine ⟨_, congrArg Host.Outcome.next (State.pchCopyDone_moved hmove), ?_, ?_, fun l hl => ?_, ?_, ?_,
      fun g hg hused => ?_, ?_⟩
    · rw [Chip.phys, hmap, Sparse.get_set_same]
    · rw [hkept.chip.spares, State.pchSwitched_chip]
      simp [Chip.pchSwitched]
    · rw [Chip.phys, hmap, Sparse.get_set_other _ _ _ hl, Chip.phys]
    · exact (hkept.frame.2.2 _ (by simp [bufReg_inj])).trans State.pchSwitched_ctr
    · exact (State.rdBit_of_frame hkept.frame (List.mem_singleton.not.2 bufReg_ne_irqPending)).trans State.pchSwitched_go
    · refine StackKept.waitersAct.chip.poisoned g (State.segsLost_poisoned hg ?_)
      rw [State.pchSwitched_chip]
      revert hused
      cases segHold g <;> exact id
    · exact (hswitched.mono (by simp) (by simp) (by simp)).trans (hkept.frame.mono (by simp) (by simp) (by simp))
  case idle => exact fun s c bad h => congrArg Host.Outcome.next (State.pchCopyDone_none h)

end Sys2Proof.Machine

/-! SUPPORT. Rule banks and microcode banks (R292, R299, R300, R490): what the header of a bank reads, the refusals of a swap
request, the swap of the banks, and the settlement of BanksSwap. -/

namespace Sys2Proof.Machine

open Sys2Proof

variable {s t : State} {p : CmdPort} {v : Word} {b i n o : Nat} {c : Fin 16} {h : BankHdr} {x : Chip}

/-! ### PRS_BANK_CTRL -/

theorem findRow_bankCtrl : findRow (.prs i) Reg.PRS_BANK_CTRL = some ⟨0x10, 0x4, 1, 0x2, 0x0, 0x1f00, 0x1, 0x2⟩ := by
  simp [findRow, windowOff, rowsOf, rowsPrs, Reg.PRS_BANK_CTRL]

theorem State.plainWrite_bankCtrl_frame :
    Frame [] [prsReg c Reg.PRS_BANK_CTRL] [] s (s.plainWrite p (prsReg c Reg.PRS_BANK_CTRL) v) := by
  rw [State.plainWrite_row (locate_prsReg (by decide)) findRow_bankCtrl rfl]
  exact Frame.refl.wr (List.mem_singleton_self _)

theorem prsReg_ne_irqPending : prsReg n o ≠ Reg.CMD_IRQ_PENDING := by
  simp only [prsReg, Reg.CMD_IRQ_PENDING]
  omega

/-! ### The header of a bank (R292, R294) -/

theorem State.hdrUnit_congr (h : t.rd (prsReg n (Reg.PRS_BANK_HDR + 4 * b)) = s.rd (prsReg n (Reg.PRS_BANK_HDR + 4 * b))) :
    t.hdrUnit n b = s.hdrUnit n b := by
  rw [State.hdrUnit, State.rdFld, h, State.hdrUnit, State.rdFld]

theorem State.headerAt_congr (hchip : t.chip n = s.chip n) (hunit : t.hdrUnit n b = s.hdrUnit n b) :
    t.headerAt n b = s.headerAt n b := by
  simp only [State.headerAt, State.tblWord, State.tblByte, hchip, hunit]

theorem State.slotNow_congr (hslt : t.slt = s.slt) (htim : t.tim = s.tim) : t.slotNow = s.slotNow := by
  rw [State.slotNow, State.nowNs, hslt, htim, State.slotNow, State.nowNs]

theorem State.prsSwapAt_of_frame {ps : List Part} {as cs : List Nat} (hframe : Frame ps as cs s t)
    (hlow : prsReg n Reg.PRS_SWAP_AT ∉ as := by simp) (hhigh : prsReg n (Reg.PRS_SWAP_AT + 4) ∉ as := by simp) :
    t.prsSwapAt n = s.prsSwapAt n := by
  rw [State.prsSwapAt, hframe.2.1 _ hlow, hframe.2.1 _ hhigh, State.prsSwapAt]

section BankCtrl

variable (hframe : Frame [] [prsReg c Reg.PRS_BANK_CTRL] [] s t)
include hframe

/-! What a change of PRS_BANK_CTRL alone leaves: the headers, the slot named and the slot in progress. -/

theorem State.chip_of_bankCtrl : t.chip i = s.chip i := State.chip_congr (hframe.1 .chips (by simp))

theorem State.hdrUnit_of_bankCtrl : t.hdrUnit c b = s.hdrUnit c b :=
  State.hdrUnit_congr (hframe.2.1 _ (by
    simp only [List.mem_singleton, prsReg_inj, Reg.PRS_BANK_HDR, Reg.PRS_BANK_CTRL]
    omega))

theorem State.headerAt_of_bankCtrl : t.headerAt c b = s.headerAt c b :=
  State.headerAt_congr (State.chip_of_bankCtrl hframe) (State.hdrUnit_of_bankCtrl hframe)

theorem State.slotNow_of_bankCtrl : t.slotNow = s.slotNow :=
  State.slotNow_congr (hframe.1 .slt (by simp)) (hframe.1 .tim (by simp))

theorem State.prsSwapAt_of_bankCtrl : t.prsSwapAt c = s.prsSwapAt c :=
  State.prsSwapAt_of_frame hframe (by simp [prsReg_inj]) (by simp [prsReg_inj, Reg.PRS_SWAP_AT, Reg.PRS_BANK_CTRL])

end BankCtrl

theorem State.readHeader_good (hgood : (s.chip n).tblPoisoned.contains (s.hdrUnit n b) = false) :
    s.readHeader n b = (s.headerAt n b, s) := if_neg (ne_true_of_eq_false hgood)

/-- A header that reads uncorrectable: its words are free values, and it raises the fault of its chiplet. -/
theorem State.readHeader_bad (hbad : (s.chip n).tblPoisoned.contains (s.hdrUnit n b) = true) : (s.readHeader n b).2 =
    { s with freeCtr := s.freeCtr + 7 }.raise (faultCode fbChip n) 1 := by
  have hmem : s.hdrUnit n b ∈ (({ s with freeCtr := s.freeCtr + 7 } : State).chip n).tblPoisoned :=
    List.contains_iff_mem.1 hbad
  rw [State.readHeader, if_pos hbad]
  exact State.tblFault_mem hmem

theorem State.readHeader_raised (hbad : (s.chip n).tblPoisoned.contains (s.hdrUnit n b) = true) :
    (s.readHeader n b).2.flt.sent = s.flt.sent ++
      [{ code := faultCode fbChip n, cls := 1, sec := s.tim.dt.sec, ns := s.tim.dt.ns }] := by
  rw [State.readHeader_bad hbad, State.raise_sent (by decide)]

theorem State.readHeader_frame : Frame [.freeCtr, .flt] [] [] s (s.readHeader n b).2 := by
  unfold State.readHeader
  split
  · have hdrawn : Frame [.freeCtr, .flt] [] [] s { s with freeCtr := s.freeCtr + 7 } :=
      Frame.refl.step (.set_freeCtr (by simp) .refl)
    exact hdrawn.trans (State.tblFault_frame.mono (by simp) (List.Subset.refl _) (List.Subset.refl _))
  · exact .refl

theorem State.readHeader_chip : (s.readHeader n b).2.chip i = s.chip i :=
  State.chip_congr (State.readHeader_frame.1 .chips (by simp))

theorem State.readHeader_sent : s.flt.sent <+: (s.readHeader n b).2.flt.sent := by
  by_cases hbad : (s.chip n).tblPoisoned.contains (s.hdrUnit n b) = true
  · rw [State.readHeader_bad hbad, State.raise_sent (by decide)]
    exact List.prefix_append _ _
  · rw [State.readHeader_good (eq_false_of_ne_true hbad)]

/-! ### The swap of the rule banks (R300) -/

/-- The other bank is active under a header, EPOCH names the swap, and the lines of banks that are idle are invalid. -/
def Chip.bankSwapped (x : Chip) (h : BankHdr) : Chip :=
  { x.dropIdleLines with
    active := 1 - x.active, epoch := x.epoch + 1, swap := none
    hdr0 := if 1 - x.active = 0 then h else x.hdr0, hdr1 := if 1 - x.active = 0 then x.hdr1 else h }.dropIdleLines

theorem Chip.bankSwapped_hdr_new : (x.bankSwapped h).hdr (1 - x.active) = h := by
  simp only [Chip.hdr, Chip.bankSwapped, Chip.dropIdleLines]
  split <;> rfl

theorem Chip.bankSwapped_hdr_old : (x.bankSwapped h).hdr x.active = x.hdr x.active := by
  have hactive : x.active = 0 ∨ x.active = 1 := by omega
  obtain hactive | hactive := hactive <;> simp [Chip.hdr, Chip.bankSwapped, Chip.dropIdleLines, hactive]

/-- The banks of a chiplet have swapped, the header in the table region in force. -/
def State.bankSwapMade (s : State) (c : Nat) (h : BankHdr) : State :=
  ((s.setChip c ((s.chip c).bankSwapped h)).wrBit (prsReg c Reg.PRS_BANK_CTRL) 0 false).irqIf (prsReg c Reg.PRS_CTRL) 0
    (16 + c)

theorem State.bankSwap_eq : s.bankSwap n =
    (s.readHeader n (1 - (s.chip n).active).val).2.bankSwapMade n (s.readHeader n (1 - (s.chip n).active).val).1 := by
  unfold State.bankSwap State.bankSwapMade Chip.bankSwapped
  dsimp only
  rw [State.readHeader_chip]

theorem State.bankSwapMade_irq : Frame [.cmd] [Reg.CMD_IRQ_PENDING] []
    ((s.setChip n ((s.chip n).bankSwapped h)).wrBit (prsReg n Reg.PRS_BANK_CTRL) 0 false) (s.bankSwapMade n h) :=
  State.irqIf_frame

theorem State.bankSwapMade_frame :
    Frame [.cmd, .chips] [prsReg n Reg.PRS_BANK_CTRL, Reg.CMD_IRQ_PENDING] [] s (s.bankSwapMade n h) :=
  ((Frame.refl.step (State.setChip_parts (by simp) .refl)).wrBit (by simp)).irqIf (by simp) (by simp)

theorem State.bankSwapMade_chip : (s.bankSwapMade c h).chip c = (s.chip c).bankSwapped h :=
  (State.chip_congr (State.bankSwapMade_irq.1 .chips (by simp))).trans
    ((State.chip_congr State.wr_chips).trans (State.setChip_chip_same c.isLt))

theorem State.bankSwapMade_chip_other {d : Fin 16} (hd : d ≠ c) : (s.bankSwapMade c h).chip d = s.chip d :=
  (State.chip_congr (State.bankSwapMade_irq.1 .chips (by simp))).trans
    ((State.chip_congr State.wr_chips).trans (State.setChip_chip_other (Fin.val_ne_of_ne hd)))

theorem State.bankSwapMade_pending : (s.bankSwapMade n h).rdBit (prsReg n Reg.PRS_BANK_CTRL) 0 = false :=
  (State.rdBit_of_frame State.bankSwapMade_irq (List.mem_singleton.not.2 prsReg_ne_irqPending)).trans
    (State.wrBit_rdBit_same (by omega))

/-- The rule banks of chiplet c have swapped, under the header that the table region holds. -/
structure BankSwapped (c : Fin 16) (s t : State) : Prop where
  active : (t.chip c).active = 1 - (s.chip c).active
  epoch : (t.chip c).epoch = (s.chip c).epoch + 1
  swap : (t.chip c).swap = none
  new : (t.chip c).hdr (1 - (s.chip c).active) = s.headerAt c (1 - (s.chip c).active).val
  old : (t.chip c).hdr (s.chip c).active = (s.chip c).hdr (s.chip c).active
  pinned : (t.chip c).pinned = (s.chip c).pinned
  pending : t.rdBit (prsReg c Reg.PRS_BANK_CTRL) 0 = false
  others : ∀ d : Fin 16, d ≠ c → t.chip d = s.chip d
  frame : Frame [.cmd, .chips] [prsReg c Reg.PRS_BANK_CTRL, Reg.CMD_IRQ_PENDING] [] s t

theorem State.bankSwap_swapped
    (hgood : (s.chip c).tblPoisoned.contains (s.hdrUnit c (1 - (s.chip c).active).val) = false) :
    BankSwapped c s (s.bankSwap c) := by
  have heq : s.bankSwap c = s.bankSwapMade c (s.headerAt c (1 - (s.chip c).active).val) := by
    rw [State.bankSwap_eq, State.readHeader_good hgood]
  rw [heq]
  refine ⟨?_, ?_, ?_, ?_, ?_, ?_, State.bankSwapMade_pending, fun d hd => State.bankSwapMade_chip_other hd,
    State.bankSwapMade_frame⟩ <;> rw [State.bankSwapMade_chip]
  · rfl
  · rfl
  · rfl
  · exact Chip.bankSwapped_hdr_new
  · exact Chip.bankSwapped_hdr_old
  · rfl

/-- A change of PRS_BANK_CTRL before the swap leaves what the swap does. -/
theorem BankSwapped.of_bankCtrl {u : State} (hframe : Frame [] [prsReg c Reg.PRS_BANK_CTRL] [] s u)
    (hswap : BankSwapped c u t) : BankSwapped c s t := by
  obtain ⟨hactive, hepoch, hnone, hnew, hold, hpinned, hpending, hothers, hkept⟩ := hswap
  simp only [State.chip_of_bankCtrl hframe, State.headerAt_of_bankCtrl hframe] at hactive hepoch hnew hold hpinned hothers
  exact ⟨hactive, hepoch, hnone, hnew, hold, hpinned, hpending, hothers,
    (hframe.mono (by simp) (by simp) (by simp)).trans hkept⟩

/-- An operation on the banks of chiplet c: it leaves the other chiplets alone, and every report sent stays. -/
structure BanksTouched (c : Fin 16) (s t : State) : Prop where
  others : ∀ d : Fin 16, d ≠ c → t.chip d = s.chip d
  sent : s.flt.sent <+: t.flt.sent
  frame : Frame [.freeCtr, .cmd, .flt, .chips] [prsReg c Reg.PRS_BANK_CTRL, Reg.CMD_IRQ_PENDING] [] s t

/-- An operation that leaves the reports alone. -/
theorem BanksTouched.of_frame (hothers : ∀ d : Fin 16, d ≠ c → t.chip d = s.chip d)
    (hframe : Frame [.cmd, .chips] [prsReg c Reg.PRS_BANK_CTRL, Reg.CMD_IRQ_PENDING] [] s t) : BanksTouched c s t :=
  ⟨hothers, by rw [hframe.1 .flt (by simp)], hframe.mono (by simp) (List.Subset.refl _) (List.Subset.refl _)⟩

theorem BanksTouched.bankSwap : BanksTouched c s (s.bankSwap c) := by
  rw [State.bankSwap_eq]
  generalize (s.readHeader c (1 - (s.chip c).active).val).1 = h
  have hread := State.readHeader_frame (s := s) (n := c) (b := (1 - (s.chip c).active).val)
  refine ⟨fun d hd => (State.bankSwapMade_chip_other hd).trans State.readHeader_chip, ?_,
    (hread.mono (by simp) (by simp) (by simp)).trans (State.bankSwapMade_frame.mono (by simp) (by simp) (by simp))⟩
  rw [State.bankSwapMade_frame.1 .flt (by simp)]
  exact State.readHeader_sent

/-! ### A swap request (R299) -/

/-- The request names a slot less than 3 ahead. -/
def State.swapLate (s : State) (c : Nat) (v : Word) : Prop := bit v 1 = true ∧ s.prsSwapAt c ≤ s.slotNow + 2

/-- The refusal bits of a swap request whose idle bank reads a header: EMPTY, PENDING, PINNED and LATE. -/
def State.bankSwapRefusals (s : State) (c : Nat) (h : BankHdr) (v : Word) : List Nat :=
  (if !h.valid then [8] else []) ++ (if (s.chip c).swap.isSome then [9] else []) ++
  (if decide (0 < (s.chip c).pins (1 - (s.chip c).active).val) then [10] else []) ++
  (if bit v 1 && decide (s.prsSwapAt c ≤ s.slotNow + 2) then [11] else [])

theorem State.bankSwapRefusals_nil : s.bankSwapRefusals n h v = [] ↔
    (!h.valid || (s.chip n).swap.isSome || decide (0 < (s.chip n).pins (1 - (s.chip n).active).val) ||
      bit v 1 && decide (s.prsSwapAt n ≤ s.slotNow + 2)) = false := by
  rw [State.bankSwapRefusals]
  simp only [List.append_eq_nil_iff, Bool.or_eq_false_iff, ite_eq_right_iff, List.cons_ne_nil, imp_false,
    Bool.not_eq_true]

theorem State.bankSwapRefusals_empty (hv : h.valid = false) : 8 ∈ s.bankSwapRefusals n h v :=
  List.mem_append_left _ (List.mem_append_left _ (List.mem_append_left _ (mem_ite_singleton (by rw [hv]; rfl))))

theorem State.bankSwapRefusals_pending (hp : (s.chip n).swap ≠ none) : 9 ∈ s.bankSwapRefusals n h v :=
  List.mem_append_left _ (List.mem_append_left _ (List.mem_append_right _
    (mem_ite_singleton (Option.isSome_iff_ne_none.2 hp))))

theorem State.bankSwapRefusals_pinned (hp : 0 < (s.chip n).pins (1 - (s.chip n).active).val) :
    10 ∈ s.bankSwapRefusals n h v :=
  List.mem_append_left _ (List.mem_append_right _ (mem_ite_singleton (decide_eq_true hp)))

theorem State.bankSwapRefusals_late (hl : s.swapLate n v) : 11 ∈ s.bankSwapRefusals n h v :=
  List.mem_append_right _ (mem_ite_singleton (Bool.and_eq_true_iff.2 ⟨hl.1, decide_eq_true hl.2⟩))

theorem State.bankSwapRefusals_none (hv : ¬h.valid = false) (hs : (s.chip n).swap = none)
    (hp : ¬0 < (s.chip n).pins (1 - (s.chip n).active).val) (hl : ¬s.swapLate n v) : s.bankSwapRefusals n h v = [] := by
  have hlate : (bit v 1 && decide (s.prsSwapAt n ≤ s.slotNow + 2)) = false :=
    eq_false_of_ne_true fun hb => hl ((Bool.and_eq_true_iff.1 hb).imp_right of_decide_eq_true)
  rw [State.bankSwapRefusals_nil, hlate, hs, decide_eq_false hp, eq_true_of_ne_false hv]
  rfl

/-- A swap request is refused with every refusal bit that applies. -/
def State.swapRefused (s : State) (c : Nat) (h : BankHdr) (v : Word) : State :=
  ((s.bankSwapRefusals c h v).foldl (fun t i => t.wrBit (prsReg c Reg.PRS_BANK_CTRL) i true) s).irqIf (prsReg c Reg.PRS_CTRL) 0
    (16 + c)

/-- A swap is pending for the slot named. -/
def State.swapPending (s : State) (c : Nat) : State :=
  (s.setChip c { s.chip c with swap := some (some (s.prsSwapAt c)) }).wrBit (prsReg c Reg.PRS_BANK_CTRL) 0 true

/-- The answer to a swap request whose idle bank reads a header. -/
def State.swapAnswered (s : State) (c : Nat) (h : BankHdr) (v : Word) : State :=
  if s.bankSwapRefusals c h v = [] then if bit v 1 then s.swapPending c else s.bankSwap c else s.swapRefused c h v

theorem exec_bankSwapReq (hperm : Permitted s p (prsReg c Reg.PRS_BANK_CTRL) 1) :
    exec (.bankSwapReq p c v) s = .next (s.writeBankCtrl p c (withBit v 0)) :=
  congrArg Host.Outcome.next (State.access_permitted hperm)

theorem State.writeBankCtrl_request (hw : s.plainWrite p (prsReg c Reg.PRS_BANK_CTRL) (withBit v 0) = t) :
    s.writeBankCtrl p c (withBit v 0) = (t.readHeader c (1 - (t.chip c).active).val).2.swapAnswered c
      (t.readHeader c (1 - (t.chip c).active).val).1 (withBit v 0) := by
  have single {d : Prop} [Decidable d] {u : State} {i : Nat} :
      (if d then [i] else []).foldl (fun t i => t.wrBit (prsReg c Reg.PRS_BANK_CTRL) i true) u =
        if d then u.wrBit (prsReg c Reg.PRS_BANK_CTRL) i true else u := by
    split <;> rfl
  have hreq : (!bit (withBit v 0) 0) = false := by rw [bit_withBit (by omega), Bool.not_true]
  unfold State.writeBankCtrl
  simp only [hw, hreq, Bool.false_eq_true, if_false]
  generalize (t.readHeader c (1 - (t.chip c).active).val).1 = h
  generalize (t.readHeader c (1 - (t.chip c).active).val).2 = u
  unfold State.swapAnswered
  by_cases hnone : u.bankSwapRefusals c h (withBit v 0) = []
  · rw [if_pos hnone, State.bankSwapRefusals_nil.1 hnone, if_neg Bool.false_ne_true, State.swapPending]
  · rw [if_neg hnone, if_pos (Bool.not_eq_false _ ▸ State.bankSwapRefusals_nil.not.1 hnone), State.swapRefused,
      State.bankSwapRefusals, List.foldl_append, List.foldl_append, List.foldl_append, single, single, single, single]

theorem State.swapRefused_irq : Frame [.cmd] [Reg.CMD_IRQ_PENDING] []
    ((s.bankSwapRefusals n h v).foldl (fun t i => t.wrBit (prsReg n Reg.PRS_BANK_CTRL) i true) s) (s.swapRefused n h v) :=
  State.irqIf_frame

theorem State.swapRefused_rdBit (hi : i ∈ s.bankSwapRefusals n h v) (hlt : i < 32) :
    (s.swapRefused n h v).rdBit (prsReg n Reg.PRS_BANK_CTRL) i = true :=
  (State.rdBit_of_frame State.swapRefused_irq (List.mem_singleton.not.2 prsReg_ne_irqPending)).trans
    (foldl_wrBit_rdBit (.inl hi) hlt)

theorem State.swapRefused_frame :
    Frame [.cmd] [prsReg n Reg.PRS_BANK_CTRL, Reg.CMD_IRQ_PENDING] [] s (s.swapRefused n h v) :=
  (foldl_wrBit_frame.mono (by simp) (by simp) (by simp)).trans
    (State.swapRefused_irq.mono (by simp) (by simp) (by simp))

theorem State.swapAnswered_refused (hi : i ∈ s.bankSwapRefusals n h v) : s.swapAnswered n h v = s.swapRefused n h v :=
  if_neg (List.ne_nil_of_mem hi)

theorem State.swapPending_chip :
    (s.swapPending c).chip c = { s.chip c with swap := some (some (s.prsSwapAt c)) } :=
  (State.chip_congr State.wr_chips).trans (State.setChip_chip_same c.isLt)

theorem State.swapPending_chip_other {d : Fin 16} (hd : d ≠ c) : (s.swapPending c).chip d = s.chip d :=
  (State.chip_congr State.wr_chips).trans (State.setChip_chip_other (Fin.val_ne_of_ne hd))

theorem State.swapPending_frame :
    Frame [.cmd, .chips] [prsReg n Reg.PRS_BANK_CTRL, Reg.CMD_IRQ_PENDING] [] s (s.swapPending n) :=
  (Frame.refl.step (State.setChip_parts (by simp) .refl)).wrBit (by simp)

theorem BanksTouched.swapAnswered : BanksTouched c s (s.swapAnswered c h v) := by
  unfold State.swapAnswered
  split
  · split
    · exact .of_frame (fun d hd => State.swapPending_chip_other hd) State.swapPending_frame
    · exact .bankSwap
  · exact .of_frame (fun d _ => State.chip_congr (State.swapRefused_frame.1 .chips (by simp)))
      (State.swapRefused_frame.mono (by simp) (by simp) (by simp))

/-! ### Swaps that wait for their slot (R300, R490) -/

theorem State.ruleBankSwap_due (hswap : (s.chip c).swap = some (some n)) (hdue : n ≤ s.slotNow) (hon : s.chipOn c = true) :
    s.ruleBankSwap c = s.bankSwap c := by
  rw [State.ruleBankSwap, hswap]
  exact if_pos ⟨hdue, hon⟩

theorem State.ruleBankSwap_waits (hswap : (s.chip c).swap = none ∨ ∃ n, (s.chip c).swap = some (some n) ∧ s.slotNow < n) :
    s.ruleBankSwap c = s := by
  obtain hnone | ⟨n, hat, hearly⟩ := hswap
  · rw [State.ruleBankSwap, hnone]
  · rw [State.ruleBankSwap, hat]
    exact if_neg fun hdue => absurd hdue.1 (Nat.not_le_of_lt hearly)

theorem State.ucodeSwap_due (hswap : (s.chip c).ucSwap = some n) (hdue : n ≤ s.slotNow) (hon : s.chipOn c = true) :
    s.ucodeSwap c = s.setChip c { s.chip c with ucActive := 1 - (s.chip c).ucActive, ucSwap := none } := by
  rw [State.ucodeSwap, hswap]
  exact if_pos ⟨hdue, hon⟩

theorem State.ucodeSwap_waits (hswap : (s.chip c).ucSwap = none ∨ ∃ n, (s.chip c).ucSwap = some n ∧ s.slotNow < n) :
    s.ucodeSwap c = s := by
  obtain hnone | ⟨n, hat, hearly⟩ := hswap
  · rw [State.ucodeSwap, hnone]
  · rw [State.ucodeSwap, hat]
    exact if_neg fun hdue => absurd hdue.1 (Nat.not_le_of_lt hearly)

/-! ### BanksSwap -/

/-- Settles O35: a request is answered by its refusal bits, read past the write of PRS_BANK_CTRL and past the read of the idle
bank's header; the swap by what its chiplet becomes. Model choices it rests on: a write of SWAP is the command (assumption 20),
a swap that is not due changes nothing (3), the words of a header that reads uncorrectable are free values (15). -/
theorem banksSwap : Obligations.BanksSwap := by
  unfold Obligations.BanksSwap
  refine ⟨?request, ?rule, ?noRule, ?ucode, ?noUcode⟩
  case request =>
    intro s p c v hperm a b empty pinned late bad only
    have hframe : Frame [] [a] [] s (s.plainWrite p a (withBit v 0)) := State.plainWrite_bankCtrl_frame
    generalize hw : s.plainWrite p a (withBit v 0) = u at hframe
    have hreq := (exec_bankSwapReq (v := v) hperm).trans (congrArg Host.Outcome.next (State.writeBankCtrl_request hw))
    have hchip {i : Nat} : u.chip i = s.chip i := State.chip_of_bankCtrl hframe
    have hlate {t : State} (hat : t.prsSwapAt c = s.prsSwapAt c) (hnow : t.slotNow = s.slotNow) :
        t.swapLate c (withBit v 0) ↔ late := by
      rw [State.swapLate, bit_withBit_other (by omega), hat, hnow]
    have hlate_u := hlate (State.prsSwapAt_of_bankCtrl hframe) (State.slotNow_of_bankCtrl hframe)
    rw [hchip] at hreq
    have hgood (hbad : bad = false) : exec (.bankSwapReq p c v) s =
        .next (u.swapAnswered c (s.headerAt c b.val) (withBit v 0)) := by
      rw [hreq, State.readHeader_good (by rwa [hchip, State.hdrUnit_of_bankCtrl hframe]), State.headerAt_of_bankCtrl hframe]
    have haccepted (hempty : ¬empty) (hswap : (s.chip c).swap = none) (hpin : ¬pinned) (hl : ¬late) :
        u.bankSwapRefusals c (s.headerAt c b.val) (withBit v 0) = [] :=
      State.bankSwapRefusals_none hempty (by rwa [hchip]) (by rwa [hchip]) (hlate_u.not.2 hl)
    refine ⟨fun hbad hempty hswap hpin hl hat => ?named, fun hbad hempty hswap hpin hnow => ?atOnce,
      fun hbad hrefused => ?refused, fun hbad => ?unreadable⟩
    case named =>
      have hpending : u.swapAnswered c (s.headerAt c b.val) (withBit v 0) = u.swapPending c := by
        rw [State.swapAnswered, if_pos (haccepted hempty hswap hpin hl), if_pos ((bit_withBit_other (by omega)).trans hat)]
      refine ⟨_, (hgood hbad).trans (congrArg Host.Outcome.next hpending), ?_, State.wrBit_rdBit_same (by omega),
        fun d hd => (State.swapPending_chip_other hd).trans hchip,
        (hframe.mono (by simp) (by simp) (by simp)).trans State.swapPending_frame⟩
      rw [State.swapPending_chip, hchip, State.prsSwapAt_of_bankCtrl hframe]
    case atOnce =>
      have hswapped : u.swapAnswered c (s.headerAt c b.val) (withBit v 0) = u.bankSwap c := by
        rw [State.swapAnswered, if_pos (haccepted hempty hswap hpin fun hl => Bool.false_ne_true (hnow.symm.trans hl.1)),
          if_neg (by rw [bit_withBit_other (by omega), hnow]; decide)]
      obtain ⟨hactive, hepoch, hnone, hnew, hold, hpinned, hpending, hothers, hkept⟩ :=
        (State.bankSwap_swapped (s := u) (c := c) (by rwa [hchip, State.hdrUnit_of_bankCtrl hframe])).of_bankCtrl hframe
      exact ⟨_, (hgood hbad).trans (congrArg Host.Outcome.next hswapped),
        ⟨hactive, hepoch, hnone, hnew, hold, hpinned, hpending⟩, hothers, hkept⟩
    case refused =>
      have hempty_bit (he : empty) : 8 ∈ u.bankSwapRefusals c (s.headerAt c b.val) (withBit v 0) :=
        State.bankSwapRefusals_empty he
      have hpending_bit (hs : (s.chip c).swap ≠ none) : 9 ∈ u.bankSwapRefusals c (s.headerAt c b.val) (withBit v 0) :=
        State.bankSwapRefusals_pending (by rwa [hchip])
      have hpinned_bit (hp : pinned) : 10 ∈ u.bankSwapRefusals c (s.headerAt c b.val) (withBit v 0) :=
        State.bankSwapRefusals_pinned (by rwa [hchip])
      have hlate_bit (hl : late) : 11 ∈ u.bankSwapRefusals c (s.headerAt c b.val) (withBit v 0) :=
        State.bankSwapRefusals_late (hlate_u.2 hl)
      have hanswer : u.swapAnswered c (s.headerAt c b.val) (withBit v 0) =
          u.swapRefused c (s.headerAt c b.val) (withBit v 0) := by
        obtain he | hs | hp | hl := hrefused
        · exact State.swapAnswered_refused (hempty_bit he)
        · exact State.swapAnswered_refused (hpending_bit hs)
        · exact State.swapAnswered_refused (hpinned_bit hp)
        · exact State.swapAnswered_refused (hlate_bit hl)
      have hkept := (hframe.mono (ps' := [.cmd]) (as' := [a, Reg.CMD_IRQ_PENDING]) (cs' := []) (by simp) (by simp)
        (by simp)).trans (State.swapRefused_frame (s := u) (n := c) (h := s.headerAt c b.val) (v := withBit v 0))
      exact ⟨_, (hgood hbad).trans (congrArg Host.Outcome.next hanswer),
        fun he => State.swapRefused_rdBit (hempty_bit he) (by omega),
        fun hs => State.swapRefused_rdBit (hpending_bit hs) (by omega),
        fun hp => State.swapRefused_rdBit (hpinned_bit hp) (by omega),
        fun hl => State.swapRefused_rdBit (hlate_bit hl) (by omega), hkept.1 .chips (by simp),
        fun d _ => State.chip_congr (hkept.1 .chips (by simp)), hkept.mono (by simp) (by simp) (by simp)⟩
    case unreadable =>
      have hbad_u : (u.chip c).tblPoisoned.contains (u.hdrUnit c b.val) = true := by
        rwa [hchip, State.hdrUnit_of_bankCtrl hframe]
      have hraised := State.readHeader_raised hbad_u
      have hread := State.readHeader_frame (s := u) (n := c) (b := b.val)
      generalize u.readHeader c b.val = q at hreq hraised hread
      have hchip_q {i : Nat} : q.2.chip i = s.chip i := (State.chip_congr (hread.1 .chips (by simp))).trans hchip
      have hlate_q := hlate ((State.prsSwapAt_of_frame hread).trans (State.prsSwapAt_of_bankCtrl hframe))
        ((State.slotNow_congr (hread.1 .slt (by simp)) (hread.1 .tim (by simp))).trans (State.slotNow_of_bankCtrl hframe))
      obtain ⟨hothers, ⟨more, hmore⟩, hkept⟩ := BanksTouched.swapAnswered (c := c) (s := q.2) (h := q.1) (v := withBit v 0)
      have hflag {i : Nat} (hi : i ∈ q.2.bankSwapRefusals c q.1 (withBit v 0)) (hlt : i < 32) :
          (q.2.swapAnswered c q.1 (withBit v 0)).rdBit a i = true := by
        rw [State.swapAnswered_refused hi]
        exact State.swapRefused_rdBit hi hlt
      refine ⟨_, hreq, ⟨more, ?_⟩, fun hs => hflag (State.bankSwapRefusals_pending (by rwa [hchip_q])) (by omega),
        fun hp => hflag (State.bankSwapRefusals_pinned (by rwa [hchip_q])) (by omega),
        fun hl => hflag (State.bankSwapRefusals_late (hlate_q.2 hl)) (by omega),
        fun d hd => (hothers d hd).trans hchip_q, ?_⟩
      · have hflt : u.flt = s.flt := hframe.1 .flt (by simp)
        have htim : u.tim = s.tim := hframe.1 .tim (by simp)
        rw [← hmore, hraised, hflt, htim, List.append_assoc, List.singleton_append]
      · exact ((hframe.mono (by simp) (by simp) (by simp)).trans (hread.mono (by simp) (by simp) (by simp))).trans hkept
  case rule =>
    intro s c n hswap hdue hon hgood
    obtain ⟨hactive, hepoch, hnone, hnew, hold, hpinned, hpending, hothers, hframe⟩ := State.bankSwap_swapped hgood
    exact ⟨_, congrArg Host.Outcome.next (State.ruleBankSwap_due hswap hdue hon),
      ⟨hactive, hepoch, hnone, hnew, hold, hpinned, hpending⟩, hothers, hframe⟩
  case noRule => exact fun s c hswap => congrArg Host.Outcome.next (State.ruleBankSwap_waits hswap)
  case ucode =>
    exact fun s c n hswap hdue hon => ⟨_, congrArg Host.Outcome.next (State.ucodeSwap_due hswap hdue hon),
      State.setChip_chip_same c.isLt, fun d hd => State.setChip_chip_other (Fin.val_ne_of_ne hd),
      .of_parts (State.setChip_parts (List.Subset.refl _) .refl) (by simp) (by simp)⟩
  case noUcode => exact fun s c hswap => congrArg Host.Outcome.next (State.ucodeSwap_waits hswap)

end Sys2Proof.Machine

/-! SUPPORT. What classification keeps of a chiplet's queues of passes and lookups (R282, R283, R288, R302): a packet read after
another, results whose turn has not come, the pins, and the discard of a packet. -/

namespace Sys2Proof.Machine

open Sys2Proof

variable {s t u : State} {a i k m n r : Nat} {c : Fin 16} {p : Pkt} {x : Chip}

/-! ### Packets -/

theorem State.setPkt_pkt_same : (s.setPkt n p).pkt n = some p := Sparse.get_set_same _ s.pkts n (some p)

theorem State.setPkt_pkt_other (h : m ≠ n) : (s.setPkt n p).pkt m = s.pkt m := Sparse.get_set_other _ s.pkts (some p) h

theorem State.dropPkt_pkt_other (h : m ≠ n) : (s.dropPkt n).pkt m = s.pkt m :=
  (Sparse.get_erase _ s.pkts n m).trans (if_neg h)

theorem State.heldResult_congr (h : t.pkt n = s.pkt n) : t.heldResult n = s.heldResult n := by
  rw [State.heldResult, h, State.heldResult]

theorem State.heldResult_of_pkt (h : s.pkt n = some p) : s.heldResult n = p.exc := by
  rw [State.heldResult, h, Option.bind_some]

theorem State.heldResult_of_none (h : s.pkt n = none) : s.heldResult n = none := by
  rw [State.heldResult, h, Option.bind_none]

/-- Where no packet that waits holds a result, none is given (R289, R302). -/
theorem State.drainResults_none (h : ∀ m ∈ (s.chip i).lookups, s.heldResult m = none) : s.drainResults i = s := by
  have hnone : (s.chip i).lookups.find? (fun n => (s.heldResult n).isSome && !s.behind i n) = none :=
    List.find?_eq_none.2 fun m hm => by simp [h m hm]
  rw [State.drainResults, State.giveResults]
  dsimp only
  rw [hnone]

/-! ### Passes and lookups of a chiplet -/

/-- The packets of the parse engines, those that wait for a second pass, and those whose lookup waits. -/
def Chip.passes (x : Chip) : Sparse (Option Nat) × List Nat × List Nat := (x.engines, x.recirc, x.lookups)

theorem Chip.passes_pinned {l : Vector Nat 2} : Chip.passes { x with pinned := l } = x.passes := rfl

theorem Chip.passes_ucPinned {l : Vector Nat 2} : Chip.passes { x with ucPinned := l } = x.passes := rfl

theorem Chip.passes_cache {l : List (Fin 2 × Nat × Bool)} : Chip.passes { x with cache := l } = x.passes := rfl

theorem Chip.engine_congr {y : Chip} (h : y.engines = x.engines) : y.engine i = x.engine i := by
  rw [Chip.engine, h, Chip.engine]

theorem Chip.setEngine_engine_same {o : Option Nat} : (x.setEngine i o).engine i = o := Sparse.get_set_same _ x.engines i o

theorem Chip.setEngine_engine_other {o : Option Nat} (h : k ≠ i) : (x.setEngine i o).engine k = x.engine k :=
  Sparse.get_set_other _ x.engines o h

theorem State.passes_congr (h : t.chips = s.chips) : (t.chip i).passes = (s.chip i).passes := by
  rw [State.chip_congr h]

theorem State.setChip_passes (h : x.passes = (s.chip c).passes) : ((s.setChip c x).chip c).passes = (s.chip c).passes := by
  rw [State.setChip_chip_same c.isLt, h]

/-! ### The pins of a packet (R283, R297, R306) -/

theorem State.unpin_frame :
    Frame [.chips] [] [prsReg i (0x800 + 8 * 17), prsReg i (0x800 + 8 * 19)] s (s.unpin i p) := by
  have released {u : State} {x : Chip} :
      Frame [.chips] [] [prsReg i (0x800 + 8 * 17), prsReg i (0x800 + 8 * 19)] u (u.setChip i x) :=
    .of_parts (State.setChip_parts (List.Subset.refl _) .refl) (by simp) (by simp)
  have hbank (b : Fin 2) : prsReg i (0x800 + 8 * (17 + 2 * b.val)) ∈
      [prsReg i (0x800 + 8 * 17), prsReg i (0x800 + 8 * 19)] := by
    obtain rfl | rfl : b = 0 ∨ b = 1 := by omega
    · simp
    · simp
  unfold State.unpin
  cases p.bank with
  | none =>
    cases p.ucode with
    | none => exact .refl
    | some b => exact released
  | some b =>
    cases p.ucode with
    | none => exact released.bump (hbank b)
    | some b' => exact (released.bump (hbank b)).trans released

theorem State.unpin_passes : ((s.unpin c p).chip c).passes = (s.chip c).passes := by
  have bank {a k : Nat} {l : Vector Nat 2} :
      (((s.setChip c { s.chip c with pinned := l }).bump a k).chip c).passes = (s.chip c).passes :=
    (State.passes_congr State.bump_chips).trans (State.setChip_passes Chip.passes_pinned)
  have ucode {u : State} {l : Vector Nat 2} :
      ((u.setChip c { u.chip c with ucPinned := l }).chip c).passes = (u.chip c).passes :=
    State.setChip_passes Chip.passes_ucPinned
  unfold State.unpin
  cases p.bank with
  | none =>
    cases p.ucode with
    | none => rfl
    | some b => exact ucode
  | some b =>
    cases p.ucode with
    | none => exact bank
    | some b' => exact ucode.trans bank

/-! ### A packet discarded by classification (R244, R288, R306) -/

theorem State.countDiscard_ledger_same : (s.countDiscard c r).ledger c = (s.ledger c).apply (.discard r 1) :=
  State.ledgerEvent_ledger_same c.isLt

theorem State.clsDrop_pkt : (s.clsDrop i n r p).pkt n = none := State.dropPkt_pkt

theorem State.clsDrop_pkt_other (h : m ≠ n) : (s.clsDrop i n r p).pkt m = s.pkt m := by
  have hpkts : ((s.unpin i p).countDiscard i r).pkts = s.pkts :=
    State.countDiscard_parts (P := [.brt, .chips, .ctrs]) (by simp) (State.unpin_parts (by simp) .refl) .pkts (by simp)
  exact (State.dropPkt_pkt_other h).trans (State.pkt_congr hpkts)

theorem State.clsDrop_ledger : (s.clsDrop c n r p).ledger c = (s.ledger c).apply (.discard r 1) := by
  rw [State.clsDrop, State.ledger_congr State.dropPkt_brt, State.countDiscard_ledger_same,
    State.ledger_congr State.unpin_brt]

theorem State.clsDrop_frame :
    Frame [.brt, .pkts, .chips] [] [prsReg i (0x800 + 8 * 17), prsReg i (0x800 + 8 * 19)] s (s.clsDrop i n r p) :=
  ((State.unpin_frame.mono (by simp) (List.Subset.refl _) (List.Subset.refl _)).step
    (State.countDiscard_parts (by simp) .refl)).step (State.dropPkt_parts (by simp) .refl)

theorem State.clsDrop_passes : ((s.clsDrop c n r p).chip c).passes = (s.chip c).passes := by
  have hchips : (s.clsDrop c n r p).chips = (s.unpin c p).chips :=
    State.dropPkt_parts (P := [.pkts, .brt]) (by simp) (State.countDiscard_parts (by simp) .refl) .chips (by simp)
  exact (State.passes_congr hchips).trans State.unpin_passes

/-! ### Exceptions counted (R289) -/

theorem State.excCount_frame :
    Frame [.cmd] [Reg.CMD_IRQ_PENDING] [prsReg i (0x828 + 8 * k)] s (s.excCount i k) := by
  have counted : Frame [.cmd] [Reg.CMD_IRQ_PENDING] [prsReg i (0x828 + 8 * k)] s (s.bump (prsReg i (0x828 + 8 * k)) 1) :=
    Frame.refl.bump (List.mem_singleton_self _)
  unfold State.excCount
  dsimp only
  split
  · exact counted.irqIf (by simp) (by simp)
  · exact counted

theorem State.excCount_counted : (s.excCount i k).ctr (prsReg i (0x828 + 8 * k)) = s.ctr (prsReg i (0x828 + 8 * k)) + 1 := by
  unfold State.excCount
  dsimp only
  split
  · exact (State.irqIf_frame.2.2 _ (by simp)).trans State.bump_ctr_same
  · exact State.bump_ctr_same

theorem State.excAction_congr {j : Nat} (h : ∀ o, t.rd (prsReg i o) = s.rd (prsReg i o)) : t.excAction i j = s.excAction i j := by
  unfold State.excAction State.rdFld
  rw [h]

/-- Interrupts aside, no register of the parser changes. -/
theorem State.prsReg_rd_of_frame {ps : List Part} {cs : List Nat} {o : Nat} (h : Frame ps [Reg.CMD_IRQ_PENDING] cs s t) :
    t.rd (prsReg i o) = s.rd (prsReg i o) := h.2.1 _ (List.mem_singleton.not.2 prsReg_ne_irqPending)

end Sys2Proof.Machine

/-! SUPPORT. Parse engines (R280 to R285, R288, R289): the packet that an engine takes, and the end of its pass. -/

namespace Sys2Proof.Machine

open Sys2Proof

variable {s t : State} {e i lp m n : Nat} {rest : List Nat} {c : Fin 16} {p : Pkt} {x : Chip} {r : Pass}

/-! ### PARSE_DISPATCH (R282, R283) -/

/-- A chiplet whose active microcode bank has one more packet pinned. -/
def Chip.ucodePinned (x : Chip) : Chip :=
  { x with ucPinned := x.ucPinned.set x.ucActive (x.ucPinned[x.ucActive] + 1) }

theorem Chip.ucodePinned_count : x.ucodePinned.ucPinned[x.ucActive] = x.ucPinned[x.ucActive] + 1 :=
  Vector.getElem_set_self x.ucActive.isLt

theorem State.pinUcode_eq (h : s.pkt n = some p) :
    s.pinUcode i n = (s.setChip i (s.chip i).ucodePinned).setPkt n { p with ucode := some (s.chip i).ucActive } := by
  have hpkt : (s.setChip i (s.chip i).ucodePinned).pkt n = some p := h
  unfold State.pinUcode State.modPkt
  dsimp only
  unfold Chip.ucodePinned at hpkt
  rw [hpkt]
  rfl

/-- Engine e of a chiplet has taken a recirculated packet (R282). -/
def State.recircTaken (s : State) (c e n : Nat) (rest : List Nat) : State :=
  (s.setChip c ({ s.chip c with recirc := rest }.setEngine e (some n))).bump (prsReg c 0x808) 1

/-- Engine e of a chiplet has taken the next packet of a port, which is not pinned yet (R282). -/
def State.inputTaken (s : State) (c e lp n : Nat) (rest : List Nat) : State :=
  ((s.setPort (32 * c + lp) { s.port (32 * c + lp) with inbuf := rest }).setChip c ((s.chip c).setEngine e (some n))).bump
    (prsReg c 0x800) 1

theorem State.parseDispatch_recirc (hon : s.chipOn i = true) (hfree : (s.chip i).engine e = none)
    (hrecirc : (s.chip i).recirc = n :: rest) : s.parseDispatch i e lp = s.recircTaken i e n rest := by
  unfold State.parseDispatch
  dsimp only
  rw [if_neg (by simp [hon, hfree]), hrecirc]
  rfl

theorem State.parseDispatch_input (hon : s.chipOn i = true) (hfree : (s.chip i).engine e = none)
    (hrecirc : (s.chip i).recirc = []) (happly : s.img.phase ≠ .apply) (hswitch : s.img.phase ≠ .switching)
    (hinput : (s.port (32 * i + lp)).inbuf = n :: rest) :
    s.parseDispatch i e lp = (s.inputTaken i e lp n rest).pinUcode i n := by
  unfold State.parseDispatch
  dsimp only
  rw [if_neg (by simp [hon, hfree]), hrecirc]
  dsimp only
  rw [if_neg (by simp [happly, hswitch]), hinput]
  rfl

theorem State.parseDispatch_none (h : s.chipOn i = false ∨ (s.chip i).engine e ≠ none ∨
    ((s.chip i).recirc = [] ∧ (s.port (32 * i + lp)).inbuf = [])) : s.parseDispatch i e lp = s := by
  unfold State.parseDispatch
  dsimp only
  split
  · rfl
  · rename_i hready
    obtain hoff | htaken | ⟨hrecirc, hinput⟩ := h
    · exact absurd (by simp [hoff]) hready
    · exact absurd (by simp [Option.isSome_iff_ne_none, htaken]) hready
    · rw [hrecirc, hinput]
      exact ite_self s

theorem State.recircTaken_chip : (s.recircTaken c e n rest).chip c = { s.chip c with recirc := rest }.setEngine e (some n) :=
  (State.chip_congr State.bump_chips).trans (State.setChip_chip_same c.isLt)

theorem State.inputTaken_chip : (s.inputTaken c e lp n rest).chip c = (s.chip c).setEngine e (some n) :=
  (State.chip_congr State.bump_chips).trans (State.setChip_chip_same c.isLt)

/-- The pin on the active microcode bank of the packet that an engine has taken (R283). -/
theorem State.inputTaken_pinned (hpkt : s.pkt n = some p) : (s.inputTaken c e lp n rest).pinUcode c n =
    ((s.inputTaken c e lp n rest).setChip c ((s.chip c).setEngine e (some n)).ucodePinned).setPkt n
      { p with ucode := some (s.chip c).ucActive } := by
  have hkept : (s.inputTaken c e lp n rest).pkt n = some p := hpkt
  rw [State.pinUcode_eq hkept, State.inputTaken_chip]
  rfl

theorem Chip.ucodePinned_engine : x.ucodePinned.engine i = x.engine i := rfl

theorem State.inputTaken_port : (s.inputTaken i e lp n rest).port (32 * i + lp) =
    { s.port (32 * i + lp) with inbuf := rest } := State.setPort_port_same

theorem State.inputTaken_port_other (h : m ≠ 32 * i + lp) : (s.inputTaken i e lp n rest).port m = s.port m :=
  State.setPort_port_other h

theorem State.inputTaken_ctr : (s.inputTaken i e lp n rest).ctr (prsReg i 0x800) = s.ctr (prsReg i 0x800) + 1 :=
  State.bump_ctr_same

theorem State.inputTaken_frame : Frame [.pkts, .ports, .chips] [] [prsReg i 0x800] s (s.inputTaken i e lp n rest) :=
  (Frame.refl.step (State.setChip_parts (by simp) (State.setPort_parts (by simp) .refl))).bump (List.mem_singleton_self _)

/-! ### PARSE_PASS_END (R283 to R285, R288, R289) -/

/-- The pass of a packet, under the microcode bank that it is pinned to. -/
def State.passRun (s : State) (c : Nat) (p : Pkt) : Pass :=
  Pass.run (if p.ucode = some 1 then (s.chip c).uc1 else (s.chip c).uc0) p.frame (p.frame.length - 4) 64
    { key := s.withMeta p (List.replicate 64 0) }

/-- A packet with the flags that a pass raised. -/
def Pkt.flagged (p : Pkt) (r : Pass) : Pkt := { p with fParse := p.fParse || r.limit.isSome, fLen := p.fLen || r.len }

/-- A packet with the flags and the key that its pass yields. -/
def State.passed (s : State) (p : Pkt) (r : Pass) : Pkt := { p.flagged r with key := s.withMeta (p.flagged r) r.key }

/-- A length contradiction counts with this pass: its own, or one that came with the packet (R285). -/
def Pkt.lenRaised (p : Pkt) (r : Pass) : Bool := r.len || (decide (p.pass = 0) && p.fLen)

/-- An engine is free, and its packet has what its pass yielded. -/
def State.passStored (s : State) (c e n : Nat) (p : Pkt) (r : Pass) : State :=
  (s.setChip c ((s.chip c).setEngine e none)).setPkt n (s.passed p r)

/-- The limit that a pass met is counted under its cause (R284). -/
def State.limitCounted (s : State) (c : Nat) : Option LimitCause → State
  | some l => (s.excCount c 0).bump (prsReg c l.off) 1
  | none => s

/-- What a pass raised is counted (R284, R285, R289). -/
def State.passCounted (s : State) (c : Nat) (l : Option LimitCause) (len : Bool) : State :=
  if len then (s.limitCounted c l).excCount c 1 else s.limitCounted c l

theorem State.parsePassEnd_ends (hengine : (s.chip i).engine e = some n) (hpkt : s.pkt n = some p)
    (hrun : s.passRun i p = r) : s.parsePassEnd i e =
      (((s.passStored i e n p r).passCounted i r.limit (p.lenRaised r)).resolveParse i n
        ((if r.limit.isSome then [0] else []) ++ (if p.lenRaised r then [1] else [])) (s.passed p r)).drainResults i := by
  have hkept : (s.setChip i ((s.chip i).setEngine e none)).pkt n = some p := hpkt
  unfold State.parsePassEnd
  dsimp only
  rw [hengine]
  dsimp only
  rw [hkept]
  subst hrun
  rfl

theorem State.parsePassEnd_none (h : (s.chip i).engine e = none) : s.parsePassEnd i e = s := by
  unfold State.parsePassEnd
  dsimp only
  rw [h]

theorem State.passStored_chip : (s.passStored c e n p r).chip c = (s.chip c).setEngine e none :=
  (State.chip_congr State.setPkt_chips).trans (State.setChip_chip_same c.isLt)

theorem State.passStored_pkt : (s.passStored i e n p r).pkt n = some (s.passed p r) := State.setPkt_pkt_same

theorem State.passStored_pkt_other (h : m ≠ n) : (s.passStored i e n p r).pkt m = s.pkt m := State.setPkt_pkt_other h

theorem State.passStored_frame : Frame [.pkts, .chips] [] [] s (s.passStored i e n p r) :=
  .of_parts (State.setPkt_parts (by simp) (State.setChip_parts (by simp) .refl)) (by simp) (by simp)

/-- Of the packets that wait, those that held no result hold none after a pass of a packet that holds none. -/
theorem State.passStored_held (hexc : p.exc = none) (h : s.heldResult m = none) :
    (s.passStored i e n p r).heldResult m = none := by
  by_cases hm : m = n
  · rw [hm, State.heldResult_of_pkt State.passStored_pkt]
    exact hexc
  · rw [State.heldResult_congr (State.passStored_pkt_other hm), h]

/-- A pass without an exception queues its lookup (R288). -/
def State.lookupQueued (s : State) (c n : Nat) : State :=
  s.setChip c { s.chip c with lookups := (s.chip c).lookups ++ [n] }

theorem State.lookupQueued_chip :
    (s.lookupQueued c n).chip c = { s.chip c with lookups := (s.chip c).lookups ++ [n] } :=
  State.setChip_chip_same c.isLt

theorem State.lookupQueued_pkt : (s.lookupQueued i n).pkt m = s.pkt m := rfl

theorem State.parsePassEnd_clean (hengine : (s.chip c).engine e = some n) (hpkt : s.pkt n = some p) (hexc : p.exc = none)
    (hheld : ∀ m ∈ (s.chip c).lookups, s.heldResult m = none) (hrun : s.passRun c p = r)
    (hlimit : r.limit = none) (hlen : p.lenRaised r = false) : s.parsePassEnd c e = (s.passStored c e n p r).lookupQueued c n := by
  have hqueued : (s.passStored c e n p r).resolveParse c n [] (s.passed p r) = (s.passStored c e n p r).lookupQueued c n := rfl
  rw [State.parsePassEnd_ends hengine hpkt hrun, hlimit, hlen]
  simp only [State.passCounted, State.limitCounted, Option.isSome_none, Bool.false_eq_true, if_false, List.append_nil, hqueued]
  refine State.drainResults_none fun m hm => ?_
  rw [State.lookupQueued_chip, State.passStored_chip] at hm
  refine (State.heldResult_congr (s := s.passStored c e n p r) rfl).trans (State.passStored_held hexc ?_)
  obtain hm | hm := List.mem_append.1 hm
  · exact hheld m hm
  · rw [List.mem_singleton.1 hm, State.heldResult_of_pkt hpkt, hexc]

/-- The counters of the causes of a limit lie above those of the exceptions. -/
theorem LimitCause.off_bounds {l : LimitCause} : 0x858 ≤ l.off ∧ l.off ≤ 0x870 := by
  cases l <;> decide

theorem State.limitCounted_frame {l : LimitCause} : Frame [.cmd] [Reg.CMD_IRQ_PENDING]
    [prsReg i 0x828, prsReg i l.off] s (s.limitCounted i (some l)) :=
  (State.excCount_frame.mono (List.Subset.refl _) (List.Subset.refl _) (by simp)).bump (by simp)

theorem State.limitCounted_ctr {l : LimitCause} :
    (s.limitCounted i (some l)).ctr (prsReg i 0x828) = s.ctr (prsReg i 0x828) + 1 := by
  have hne : prsReg i 0x828 ≠ prsReg i l.off := by
    rw [ne_eq, prsReg_inj]
    have hbounds := l.off_bounds
    omega
  exact (State.bump_ctr_other hne).trans State.excCount_counted

theorem State.limitCounted_cause {l : LimitCause} :
    (s.limitCounted i (some l)).ctr (prsReg i l.off) = s.ctr (prsReg i l.off) + 1 := by
  have hne : prsReg i l.off ∉ [prsReg i (0x828 + 8 * 0)] := by
    rw [List.mem_singleton, prsReg_inj]
    have hbounds := l.off_bounds
    omega
  exact State.bump_ctr_same.trans (congrArg (· + 1) (State.excCount_frame.2.2 _ hne))

theorem State.passCounted_limit {o : Option LimitCause} {b : Bool} : Frame [.cmd] [Reg.CMD_IRQ_PENDING] [prsReg i 0x830]
    (s.limitCounted i o) (s.passCounted i o b) := by
  unfold State.passCounted
  split
  · exact State.excCount_frame
  · exact .refl

theorem State.passCounted_frame {l : LimitCause} {b : Bool} : Frame [.cmd] [Reg.CMD_IRQ_PENDING]
    [prsReg i 0x828, prsReg i l.off, prsReg i 0x830] s (s.passCounted i (some l) b) :=
  (State.limitCounted_frame.mono (by simp) (by simp) (by simp)).trans
    (State.passCounted_limit.mono (by simp) (by simp) (by simp))

/-- Of the exceptions that a pass raised the first with the action discard takes the packet (R289). -/
theorem State.resolveParse_discards {l : List Nat} (h : s.excAction i 0 = 0) :
    s.resolveParse i n (0 :: l) p = s.clsDrop i n drParseLimit p := by
  have hfirst : (0 :: l).find? (fun x => decide (s.excAction i x = 0)) = some 0 :=
    List.find?_cons_of_pos (decide_eq_true h)
  rw [State.resolveParse, hfirst]

/-- The state in which a packet whose pass met a limit has left. -/
def State.limitDropped (s : State) (c e n : Nat) (l : LimitCause) (p : Pkt) (r : Pass) : State :=
  ((s.passStored c e n p r).passCounted c (some l) (p.lenRaised r)).clsDrop c n drParseLimit (s.passed p r)

/-- What is counted before a packet leaves whose pass met a limit, with its engine free. -/
theorem State.passCounted_stored {l : LimitCause} {b : Bool} : Frame [.cmd, .pkts, .chips] [Reg.CMD_IRQ_PENDING]
    [prsReg i 0x828, prsReg i l.off, prsReg i 0x830] s ((s.passStored i e n p r).passCounted i (some l) b) :=
  (State.passStored_frame.mono (by simp) (by simp) (by simp)).trans
    (State.passCounted_frame.mono (by simp) (by simp) (by simp))

theorem State.limitDropped_passes {l : LimitCause} :
    ((s.limitDropped c e n l p r).chip c).passes = ((s.chip c).setEngine e none).passes := by
  rw [State.limitDropped, State.clsDrop_passes, State.passes_congr (State.passCounted_frame.1 .chips (by simp)),
    State.passStored_chip]

theorem State.limitDropped_ledger {l : LimitCause} :
    (s.limitDropped c e n l p r).ledger c = (s.ledger c).apply (.discard drParseLimit 1) := by
  rw [State.limitDropped, State.clsDrop_ledger, State.ledger_congr (State.passCounted_stored.1 .brt (by simp))]

theorem State.limitDropped_ctr {l : LimitCause} :
    (s.limitDropped i e n l p r).ctr (prsReg i 0x828) = s.ctr (prsReg i 0x828) + 1 := by
  rw [State.limitDropped, State.clsDrop_frame.2.2 _ (by simp [prsReg_inj]),
    State.passCounted_limit.2.2 _ (by simp [prsReg_inj]), State.limitCounted_ctr,
    State.passStored_frame.2.2 _ (by simp)]

theorem State.limitDropped_cause {l : LimitCause} :
    (s.limitDropped i e n l p r).ctr (prsReg i l.off) = s.ctr (prsReg i l.off) + 1 := by
  have hbounds := l.off_bounds
  have hpins : prsReg i l.off ∉ [prsReg i (0x800 + 8 * 17), prsReg i (0x800 + 8 * 19)] := by
    simp only [List.mem_cons, prsReg_inj, List.not_mem_nil, or_false]
    omega
  have hlen : prsReg i l.off ∉ [prsReg i 0x830] := by
    rw [List.mem_singleton, prsReg_inj]
    omega
  rw [State.limitDropped, State.clsDrop_frame.2.2 _ hpins, State.passCounted_limit.2.2 _ hlen, State.limitCounted_cause,
    State.passStored_frame.2.2 _ (by simp)]

theorem State.parsePassEnd_limit {l : LimitCause} (hengine : (s.chip c).engine e = some n) (hpkt : s.pkt n = some p)
    (hheld : ∀ m ∈ (s.chip c).lookups, s.heldResult m = none) (hrun : s.passRun c p = r)
    (hlimit : r.limit = some l)
    (haction : s.excAction c 0 = 0) : s.parsePassEnd c e = s.limitDropped c e n l p r := by
  have hstored : Frame [.cmd, .pkts, .chips] [Reg.CMD_IRQ_PENDING] [prsReg c 0x828, prsReg c l.off, prsReg c 0x830] s
      ((s.passStored c e n p r).passCounted c (some l) (p.lenRaised r)) := State.passCounted_stored
  have hdiscard := (State.excAction_congr (j := 0) fun o => State.prsReg_rd_of_frame hstored (i := c) (o := o)).trans haction
  rw [State.parsePassEnd_ends hengine hpkt hrun, hlimit, Option.isSome_some, if_pos rfl, List.singleton_append,
    State.resolveParse_discards hdiscard]
  refine State.drainResults_none fun m hm => ?_
  have hlookups : ((s.limitDropped c e n l p r).chip c).lookups = (s.chip c).lookups :=
    congrArg (fun y => y.2.2) State.limitDropped_passes
  have hm' : m ∈ (s.chip c).lookups := hlookups ▸ hm
  by_cases hmn : m = n
  · rw [hmn]
    exact State.heldResult_of_none State.clsDrop_pkt
  · have hkept : ((s.passStored c e n p r).passCounted c (some l) (p.lenRaised r)).pkt m = s.pkt m :=
      (State.pkt_congr (State.passCounted_frame.1 .pkts (by simp))).trans (State.passStored_pkt_other hmn)
    rw [State.heldResult_congr ((State.clsDrop_pkt_other hmn).trans hkept), hheld m hm']

end Sys2Proof.Machine

/-! SUPPORT. Lookups (R293 to R297, R302): what the walk of a rule bank leaves alone, what each end of it does to the packet, and
the settlement of PacketsClassified. -/

namespace Sys2Proof.Machine

open Sys2Proof

variable {s t u : State} {e i k m n r v : Nat} {c : Fin 16} {b : Fin 2} {ecc : List Nat} {key : List Byte} {h : BankHdr}
  {p p' : Pkt} {w w' : Walk} {x : Chip} {w13 w14 : Word}

/-! ### The walk of a rule bank (R293 to R295) -/

/-- A walk at chiplet c leaves its passes and lookups alone, and every counter but those of visits and misses. -/
structure Walked (c : Fin 16) (s t : State) : Prop where
  passes : (t.chip c).passes = (s.chip c).passes
  frame : Frame [.flt, .chips] [] [prsReg c 0x818, prsReg c 0x820] s t

theorem Walked.refl : Walked c s s := ⟨rfl, .refl⟩

theorem Walked.trans (hst : Walked c s t) (htu : Walked c t u) : Walked c s u :=
  ⟨htu.passes.trans hst.passes, hst.frame.trans htu.frame⟩

theorem Walked.setChip (hx : x.passes = (s.chip c).passes) : Walked c s (s.setChip c x) :=
  ⟨State.setChip_passes hx, .of_parts (State.setChip_parts (by simp) .refl) (by simp) (by simp)⟩

theorem Walked.bump (hm : prsReg c m ∈ [prsReg c 0x818, prsReg c 0x820]) : Walked c s (s.bump (prsReg c m) k) :=
  ⟨State.passes_congr State.bump_chips, Frame.refl.bump hm⟩

theorem Walked.spoilUnit : Walked c s (s.spoilUnit c n) := by
  unfold State.spoilUnit
  dsimp only
  split
  · exact .refl
  · exact .setChip rfl

theorem Walked.tblFault : Walked c s (s.tblFault c n) :=
  ⟨State.passes_congr (State.tblFault_frame.1 .chips (by simp)),
    State.tblFault_frame.mono (by simp) (List.Subset.refl _) (by simp)⟩

theorem Chip.visit_passes {pin : Bool} : (x.visit b n pin).2.passes = x.passes := by
  unfold Chip.visit
  split
  · rfl
  · dsimp only
    generalize (if x.cache.length < cacheLines then x.cache else evictLine x.cache) = l
    split
    · exact Chip.passes_cache
    · rfl

theorem Walk.read_walked {pin : Bool} : Walked c w.s (w.read c b ecc n pin).2.s := by
  have visited : Walked c w.s ((w.s.setChip c ((w.s.chip c).visit b n pin).2).bump (prsReg c 0x818) 1) :=
    (Walked.setChip Chip.visit_passes).trans (.bump (by simp))
  have missed : Walked c w.s (if ((w.s.chip c).visit b n pin).1 then
      (w.s.setChip c ((w.s.chip c).visit b n pin).2).bump (prsReg c 0x818) 1
      else ((w.s.setChip c ((w.s.chip c).visit b n pin).2).bump (prsReg c 0x818) 1).bump (prsReg c 0x820) 1) := by
    split
    · exact visited
    · exact visited.trans (.bump (by simp))
  unfold Walk.read
  dsimp only
  split
  · exact ((missed.trans (.setChip Chip.passes_cache)).trans .spoilUnit).trans .tblFault
  · exact missed

theorem Walk.leaf_walked : Walked c w.s (Walk.leaf c b ecc h key k n i w).2.s := by
  induction n generalizing i w with
  | zero => exact .refl
  | succ n ih =>
    simp only [Walk.leaf]
    split
    · exact .refl
    · split
      · exact Walk.read_walked
      · split
        · exact Walk.read_walked
        · exact Walk.read_walked.trans ih

theorem Walk.tree_walked : Walked c w.s (Walk.tree c b ecc h key n i w).2.s := by
  induction n generalizing i w with
  | zero => exact .refl
  | succ n ih =>
    simp only [Walk.tree]
    repeat' split
    · exact .refl
    · exact Walk.read_walked
    · exact Walk.read_walked
    · exact Walk.read_walked
    · exact Walk.read_walked.trans ih
    · exact Walk.read_walked.trans Walk.leaf_walked
    · exact Walk.read_walked

/-! ### A lookup that is made (R293, R297, R302) -/

/-- The lookup of packet n at chiplet c has been made from s: the packet is p now and holds no result; the other packets, those
that wait for a pass, and the ledgers are as before. -/
structure LookedUp (c : Fin 16) (n : Nat) (p : Pkt) (s t : State) : Prop where
  pkt : t.pkt n = some p
  others : ∀ m, m ≠ n → t.pkt m = s.pkt m
  recirc : (t.chip c).recirc = (s.chip c).recirc
  lookups : (t.chip c).lookups = (s.chip c).lookups.erase n
  counted : t.ctr (prsReg c 0x810) = s.ctr (prsReg c 0x810) + 1
  brt : t.brt = s.brt

/-- An operation that leaves packets, passes and the count of lookups alone. -/
theorem LookedUp.step {ps : List Part} {as cs : List Nat} (hmade : LookedUp c n p s t) (hframe : Frame ps as cs t u)
    (hpasses : (u.chip c).passes = (t.chip c).passes) (hpkts : Part.pkts ∉ ps := by simp) (hbrt : Part.brt ∉ ps := by simp)
    (hctr : prsReg c 0x810 ∉ cs := by simp [prsReg_inj]) : LookedUp c n p s u where
  pkt := (State.pkt_congr (hframe.1 .pkts (by simp [hpkts]))).trans hmade.pkt
  others m hm := (State.pkt_congr (hframe.1 .pkts (by simp [hpkts]))).trans (hmade.others m hm)
  recirc := (congrArg (fun y => y.2.1) hpasses).trans hmade.recirc
  lookups := (congrArg (fun y => y.2.2) hpasses).trans hmade.lookups
  counted := (hframe.2.2 _ hctr).trans hmade.counted
  brt := (hframe.1 .brt (by simp [hbrt])).trans hmade.brt

/-- The lookup that is made leaves those that wait. -/
def State.lookupTaken (s : State) (c n : Nat) : State :=
  s.setChip c { (s.chip c).dropIdleLines with lookups := (s.chip c).lookups.erase n }

/-- The walk of the lookup of packet n: from the root of the bank that it is pinned to. -/
def State.lookupWalk (s : State) (c n : Nat) (ecc : List Nat) (p : Pkt) : Found × Walk :=
  let q := (s.lookupTaken c n).pinBank c n p
  let h := (q.1.chip c).hdr (q.2.bank.getD 0)
  Walk.tree c (q.2.bank.getD 0) ecc h q.2.key 25 h.root { s := q.1.bump (prsReg c 0x810) 1, v := 0 }

/-- A packet pinned to a rule bank: to its own, else to the one that is active. -/
def Pkt.pinned (p : Pkt) (b : Fin 2) : Pkt := { p with bank := some (p.bank.getD b) }

theorem State.pinBank_pkt : (s.pinBank i n p).2 = p.pinned (s.chip i).active := by
  unfold State.pinBank Pkt.pinned
  cases hbank : p.bank with
  | none => rfl
  | some b =>
    cases p
    cases hbank
    rfl

theorem State.pinBank_frame : Frame [.pkts, .chips] [] [prsReg i 0x880, prsReg i 0x890] s (s.pinBank i n p).1 := by
  unfold State.pinBank
  cases p.bank with
  | some b => exact .refl
  | none =>
    have hcounter : prsReg i (0x880 + 16 * (s.chip i).active.val) ∈ [prsReg i 0x880, prsReg i 0x890] := by
      obtain hactive | hactive : (s.chip i).active = 0 ∨ (s.chip i).active = 1 := by omega
      · simp [hactive]
      · simp [hactive]
    exact ((Frame.refl.step (State.setChip_parts (by simp) .refl)).bump hcounter).step (State.setPkt_parts (by simp) .refl)

theorem State.pinBank_passes : (((s.pinBank c n p).1).chip c).passes = (s.chip c).passes := by
  unfold State.pinBank
  cases p.bank with
  | some b => rfl
  | none => exact (State.passes_congr (State.setPkt_chips.trans State.bump_chips)).trans (State.setChip_passes rfl)

theorem State.pinBank_pkt_same (hpkt : s.pkt n = some p) : (s.pinBank i n p).1.pkt n = some (s.pinBank i n p).2 := by
  unfold State.pinBank
  cases p.bank with
  | some b => exact hpkt
  | none => exact State.setPkt_pkt_same

theorem State.pinBank_pkt_other (hm : m ≠ n) : (s.pinBank i n p).1.pkt m = s.pkt m := by
  unfold State.pinBank
  cases p.bank with
  | some b => rfl
  | none => exact State.setPkt_pkt_other hm

/-- The walk of a lookup has made it. -/
theorem State.lookupWalk_made (hpkt : s.pkt n = some p) :
    LookedUp c n ((s.lookupTaken c n).pinBank c n p).2 s (s.lookupWalk c n ecc p).2.s := by
  have htaken : (s.lookupTaken c n).chip c = { (s.chip c).dropIdleLines with lookups := (s.chip c).lookups.erase n } :=
    State.setChip_chip_same c.isLt
  have hpasses : ((((s.lookupTaken c n).pinBank c n p).1.bump (prsReg c 0x810) 1).chip c).passes =
      ((s.lookupTaken c n).chip c).passes := (State.passes_congr State.bump_chips).trans State.pinBank_passes
  rw [htaken] at hpasses
  have hpinned : LookedUp c n ((s.lookupTaken c n).pinBank c n p).2 s
      (((s.lookupTaken c n).pinBank c n p).1.bump (prsReg c 0x810) 1) := {
    pkt := State.pinBank_pkt_same hpkt
    others := fun m hm => State.pinBank_pkt_other hm
    recirc := congrArg (fun y => y.2.1) hpasses
    lookups := congrArg (fun y => y.2.2) hpasses
    counted := State.bump_ctr_same.trans (congrArg (· + 1) (State.pinBank_frame.2.2 _ (by simp [prsReg_inj])))
    brt := State.pinBank_frame.1 .brt (by simp) }
  have hwalked : Walked c (((s.lookupTaken c n).pinBank c n p).1.bump (prsReg c 0x810) 1) (s.lookupWalk c n ecc p).2.s :=
    Walk.tree_walked (w := { s := ((s.lookupTaken c n).pinBank c n p).1.bump (prsReg c 0x810) 1, v := 0 })
  exact hpinned.step hwalked.frame hwalked.passes

/-- A walk changes no register. -/
theorem State.lookupWalk_rd : (s.lookupWalk c n ecc p).2.s.rd m = s.rd m := by
  have hwalked : Walked c (((s.lookupTaken c n).pinBank c n p).1.bump (prsReg c 0x810) 1) (s.lookupWalk c n ecc p).2.s :=
    Walk.tree_walked (w := { s := ((s.lookupTaken c n).pinBank c n p).1.bump (prsReg c 0x810) 1, v := 0 })
  exact (hwalked.frame.2.1 _ (by simp)).trans (State.pinBank_frame.2.1 _ (by simp))

/-! ### The trace (R296) -/

theorem State.traceLookup_exc : s.traceLookup i p b (.exc k) v = s := by
  unfold State.traceLookup
  exact ite_self s

theorem State.traceLookup_frame {f : Found} :
    Frame [.chips] [prsReg i Reg.PRS_TRACE_SEL] [] s (s.traceLookup i p b f v) := by
  have put {x : Chip} : Frame [.chips] [prsReg i Reg.PRS_TRACE_SEL] [] s
      ((s.setChip i x).wrBit (prsReg i Reg.PRS_TRACE_SEL) 31 false) :=
    (Frame.refl.step (State.setChip_parts (by simp) .refl)).wrBit (List.mem_singleton_self _)
  unfold State.traceLookup
  dsimp only
  split
  · cases f with
    | rule j tag w13 w14 => exact put
    | dflt => exact put
    | exc j => exact .refl
  · exact .refl

theorem State.traceLookup_passes {f : Found} : ((s.traceLookup c p b f v).chip c).passes = (s.chip c).passes := by
  have put {x : Chip} (hx : x.passes = (s.chip c).passes) :
      (((s.setChip c x).wrBit (prsReg c Reg.PRS_TRACE_SEL) 31 false).chip c).passes = (s.chip c).passes :=
    (State.passes_congr State.wr_chips).trans (State.setChip_passes hx)
  unfold State.traceLookup
  dsimp only
  split
  · cases f with
    | rule j tag w13 w14 => exact put rfl
    | dflt => exact put rfl
    | exc j => rfl
  · rfl

theorem LookedUp.traceLookup {f : Found} (hmade : LookedUp c n p s t) :
    LookedUp c n p s (t.traceLookup c p' b f v) :=
  hmade.step State.traceLookup_frame State.traceLookup_passes

theorem LookedUp.excCount (hmade : LookedUp c n p s t) : LookedUp c n p s (t.excCount c k) :=
  hmade.step State.excCount_frame (State.passes_congr (State.excCount_frame.1 .chips (by simp)))
    (hctr := by
      rw [List.mem_singleton, prsReg_inj]
      omega)

/-! ### Results (R288, R290, R297) -/

/-- A packet that leaves classification with a reason once its lookup was made. -/
structure LookupDropped (c : Fin 16) (n r : Nat) (s t : State) : Prop where
  gone : t.pkt n = none
  ledger : t.ledger c = (s.ledger c).apply (.discard r 1)
  counted : t.ctr (prsReg c 0x810) = s.ctr (prsReg c 0x810) + 1
  lookups : (t.chip c).lookups = (s.chip c).lookups.erase n
  idle : t.drainResults c = t

/-- No packet that waits holds a result, where the one just looked up holds none. -/
theorem drainResults_of_lookup (hlookups : (t.chip c).lookups = (s.chip c).lookups.erase n)
    (hothers : ∀ m, m ≠ n → t.pkt m = s.pkt m) (hnone : t.heldResult n = none)
    (hheld : ∀ m ∈ (s.chip c).lookups, s.heldResult m = none) : t.drainResults c = t := by
  refine State.drainResults_none fun m hm => ?_
  by_cases hmn : m = n
  · rw [hmn, hnone]
  · rw [State.heldResult_congr (hothers m hmn), hheld m (List.mem_of_mem_erase (hlookups ▸ hm))]

theorem LookedUp.clsDrop (hmade : LookedUp c n p s t) (hheld : ∀ m ∈ (s.chip c).lookups, s.heldResult m = none) :
    LookupDropped c n r s (t.clsDrop c n r p') := by
  have hlookups : ((t.clsDrop c n r p').chip c).lookups = (s.chip c).lookups.erase n :=
    (congrArg (fun y => y.2.2) State.clsDrop_passes).trans hmade.lookups
  exact {
    gone := State.clsDrop_pkt
    ledger := by rw [State.clsDrop_ledger, State.ledger_congr hmade.brt]
    counted := (State.clsDrop_frame.2.2 _ (by simp [prsReg_inj])).trans hmade.counted
    lookups := hlookups
    idle := drainResults_of_lookup hlookups (fun m hm => (State.clsDrop_pkt_other hm).trans (hmade.others m hm))
      (State.heldResult_of_none State.clsDrop_pkt) hheld }

theorem State.applyResult_discards {bad : Bool} (haction : fld w14 5 4 = 1) :
    s.applyResult i n bad w13 w14 p = s.clsDrop i n drRuleDiscard p := by
  unfold State.applyResult
  rw [haction]
  rfl

/-- A packet waits for its second pass, with the context of its rule (R297). -/
def State.recirculated (s : State) (c n : Nat) (w14 : Word) (p : Pkt) : State :=
  (s.setPkt n { p with pass := 1, ctx := fld w14 21 6 }).setChip c { s.chip c with recirc := (s.chip c).recirc ++ [n] }

theorem State.applyResult_recirculates {bad : Bool} (haction : fld w14 5 4 = 2) (hpass : p.pass = 0) :
    s.applyResult i n bad w13 w14 p = s.recirculated i n w14 p := by
  unfold State.applyResult
  rw [haction]
  exact if_pos hpass

theorem State.exception_discards {bad : Bool} (haction : s.excAction i k = 0) :
    s.exception i n bad k p = (s.excCount i k).clsDrop i n (8 + k) p := by
  have hkept : (s.excCount i k).excAction i k = 0 :=
    (State.excAction_congr fun o => State.prsReg_rd_of_frame State.excCount_frame (o := o)).trans haction
  unfold State.exception
  dsimp only
  rw [hkept]
  rfl

/-! ### LOOKUP (R293) -/

/-- What the end of a walk does to its packet: the result of the rule or of the default, or the exception. -/
def State.foundApplied (s : State) (c n : Nat) (bad : Bool) (h : BankHdr) (p : Pkt) : Found → State
  | .rule _ _ w13 w14 => s.applyResult c n bad w13 w14 p
  | .dflt => s.applyResult c n bad h.def0 h.def1 p
  | .exc x => s.exception c n bad x p

/-- The header of the bank that a lookup walks. -/
abbrev State.lookupHdr (s : State) (c n : Nat) (p : Pkt) : BankHdr :=
  (((s.lookupTaken c n).pinBank c n p).1.chip c).hdr (((s.lookupTaken c n).pinBank c n p).2.bank.getD 0)

/-- The state with the walk of a lookup made and traced. -/
def State.lookupTraced (s : State) (c n : Nat) (ecc : List Nat) (p : Pkt) : State :=
  (s.lookupWalk c n ecc p).2.s.traceLookup c ((s.lookupTaken c n).pinBank c n p).2
    (((s.lookupTaken c n).pinBank c n p).2.bank.getD 0) (s.lookupWalk c n ecc p).1 (s.lookupWalk c n ecc p).2.v

theorem State.lookup_made (hnext : s.nextLookup i = some n) (hpkt : s.pkt n = some p) : s.lookup i ecc =
    ((s.lookupTraced i n ecc p).foundApplied i n (ecc.contains 24) (s.lookupHdr i n p)
      ((s.lookupTaken i n).pinBank i n p).2 (s.lookupWalk i n ecc p).1).drainResults i := by
  have hkept : (s.setChip i { (s.chip i).dropIdleLines with lookups := (s.chip i).lookups.erase n }).pkt n = some p := hpkt
  unfold State.lookup
  dsimp only
  rw [hnext]
  dsimp only
  rw [hkept]
  dsimp only
  unfold State.foundApplied
  congr 1

theorem State.lookup_none (hnext : s.nextLookup i = none) : s.lookup i ecc = s := by
  unfold State.lookup
  dsimp only
  rw [hnext]

theorem State.lookupTraced_made (hpkt : s.pkt n = some p) :
    LookedUp c n ((s.lookupTaken c n).pinBank c n p).2 s (s.lookupTraced c n ecc p) :=
  (State.lookupWalk_made hpkt).traceLookup

/-- Where a walk ends in an exception, nothing is traced, and no action of an exception entry has changed. -/
theorem State.lookupTraced_excAction (hfound : (s.lookupWalk c n ecc p).1 = .exc k) :
    (s.lookupTraced c n ecc p).excAction c k = s.excAction c k := by
  have htraced : s.lookupTraced c n ecc p = (s.lookupWalk c n ecc p).2.s := by
    rw [State.lookupTraced, hfound, State.traceLookup_exc]
  rw [htraced]
  exact State.excAction_congr fun o => State.lookupWalk_rd

/-- Where the end of a walk discards the packet, the lookup has dropped it. -/
theorem State.lookup_drops (hnext : s.nextLookup c = some n) (hpkt : s.pkt n = some p)
    (hheld : ∀ m ∈ (s.chip c).lookups, s.heldResult m = none) (hmade : LookedUp c n p' s u)
    (happlied : (s.lookupTraced c n ecc p).foundApplied c n (ecc.contains 24) (s.lookupHdr c n p)
      ((s.lookupTaken c n).pinBank c n p).2 (s.lookupWalk c n ecc p).1 = u.clsDrop c n r p') :
    LookupDropped c n r s (s.lookup c ecc) := by
  have hdropped : LookupDropped c n r s (u.clsDrop c n r p') := hmade.clsDrop hheld
  rw [State.lookup_made hnext hpkt, happlied, hdropped.idle]
  exact hdropped

theorem State.recirculated_pkt : (s.recirculated i n w14 p).pkt n = some { p with pass := 1, ctx := fld w14 21 6 } :=
  State.setPkt_pkt_same

theorem State.recirculated_pkt_other (hm : m ≠ n) : (s.recirculated i n w14 p).pkt m = s.pkt m := State.setPkt_pkt_other hm

theorem State.recirculated_ctr : (s.recirculated i n w14 p).ctr m = s.ctr m := rfl

theorem State.recirculated_chip :
    (s.recirculated c n w14 p).chip c = { s.chip c with recirc := (s.chip c).recirc ++ [n] } :=
  State.setChip_chip_same c.isLt

/-- A packet that waits for its second pass, its lookup made: no result of another is due. -/
theorem LookedUp.recirculated_idle (hmade : LookedUp c n p s t) (hexc : p.exc = none)
    (hheld : ∀ m ∈ (s.chip c).lookups, s.heldResult m = none) :
    (t.recirculated c n w14 p).drainResults c = t.recirculated c n w14 p := by
  refine drainResults_of_lookup ?_ (fun m hm => (State.recirculated_pkt_other hm).trans (hmade.others m hm)) ?_ hheld
  · rw [State.recirculated_chip]
    exact hmade.lookups
  · rw [State.heldResult_of_pkt State.recirculated_pkt]
    exact hexc

/-- A packet pinned to a bank keeps its pass and its held result. -/
theorem State.pinBank_kept : (s.pinBank i n p).2.pass = p.pass ∧ (s.pinBank i n p).2.exc = p.exc := by
  rw [State.pinBank_pkt]
  exact ⟨rfl, rfl⟩

/-- The packet whose lookup is next waits, and where no packet that waits holds a result it holds none. -/
theorem State.nextLookup_unheld (hnext : s.nextLookup c = some n) (hpkt : s.pkt n = some p)
    (hheld : ∀ m ∈ (s.chip c).lookups, s.heldResult m = none) : p.exc = none := by
  rw [← State.heldResult_of_pkt hpkt]
  exact hheld n (List.mem_of_find?_eq_some hnext)

theorem State.lookup_discards_by_rule {tag : Word} (hnext : s.nextLookup c = some n) (hpkt : s.pkt n = some p)
    (hheld : ∀ m ∈ (s.chip c).lookups, s.heldResult m = none) (hfound : (s.lookupWalk c n ecc p).1 = .rule i tag w13 w14)
    (haction : fld w14 5 4 = 1) : LookupDropped c n drRuleDiscard s (s.lookup c ecc) := by
  refine State.lookup_drops hnext hpkt hheld (State.lookupTraced_made (ecc := ecc) hpkt) ?_
  rw [hfound, State.foundApplied, State.applyResult_discards haction]

theorem State.lookup_discards_by_default (hnext : s.nextLookup c = some n) (hpkt : s.pkt n = some p)
    (hheld : ∀ m ∈ (s.chip c).lookups, s.heldResult m = none) (hfound : (s.lookupWalk c n ecc p).1 = .dflt)
    (haction : fld (s.lookupHdr c n p).def1 5 4 = 1) : LookupDropped c n drRuleDiscard s (s.lookup c ecc) := by
  refine State.lookup_drops hnext hpkt hheld (State.lookupTraced_made (ecc := ecc) hpkt) ?_
  rw [hfound, State.foundApplied, State.applyResult_discards haction]

theorem State.lookup_discards_by_exception (hnext : s.nextLookup c = some n) (hpkt : s.pkt n = some p)
    (hheld : ∀ m ∈ (s.chip c).lookups, s.heldResult m = none) (hfound : (s.lookupWalk c n ecc p).1 = .exc k)
    (haction : s.excAction c k = 0) : LookupDropped c n (8 + k) s (s.lookup c ecc) := by
  refine State.lookup_drops hnext hpkt hheld ((State.lookupTraced_made (ecc := ecc) hpkt).excCount (k := k)) ?_
  rw [hfound, State.foundApplied, State.exception_discards ((State.lookupTraced_excAction hfound).trans haction)]

theorem State.lookup_recirculates {tag : Word} (hnext : s.nextLookup c = some n) (hpkt : s.pkt n = some p)
    (hheld : ∀ m ∈ (s.chip c).lookups, s.heldResult m = none) (hfound : (s.lookupWalk c n ecc p).1 = .rule i tag w13 w14)
    (haction : fld w14 5 4 = 2) (hpass : p.pass = 0) : s.lookup c ecc =
      (s.lookupTraced c n ecc p).recirculated c n w14 ((s.lookupTaken c n).pinBank c n p).2 := by
  obtain ⟨hkept, hresult⟩ := State.pinBank_kept (s := s.lookupTaken c n) (i := c) (n := n) (p := p)
  rw [State.lookup_made hnext hpkt, hfound, State.foundApplied, State.applyResult_recirculates haction (hkept.trans hpass)]
  exact (State.lookupTraced_made hpkt).recirculated_idle (hresult.trans (State.nextLookup_unheld hnext hpkt hheld)) hheld

/-! ### PacketsClassified -/

/-- An engine that has ended its pass is free, and the others are as before. -/
theorem Chip.engines_freed {y : Chip} (h : y.engines = (x.setEngine e none).engines) :
    y.engine e = none ∧ ∀ f, f ≠ e → y.engine f = x.engine f :=
  ⟨(Chip.engine_congr h).trans Chip.setEngine_engine_same,
    fun _ hf => (Chip.engine_congr h).trans (Chip.setEngine_engine_other hf)⟩

/-- Settles O34: a dispatch by the packet that is taken, the end of a pass by what it raised, and a lookup as the walk that is
made, what its end does to the packet, and the results that are then due, of which there are none. Model choices it rests on:
a command with nothing to act on changes nothing (assumption 3), a frame leaves the parse input buffer when an engine takes it
(70), the armed trace captures the next lookup of its port (73). -/
theorem packetsClassified : Obligations.PacketsClassified := by
  unfold Obligations.PacketsClassified
  refine ⟨?dispatch, ?noDispatch, ?passEnd, ?noPass, ?lookup, ?noLookup⟩
  case dispatch =>
    intro s c e lp hon hfree
    refine ⟨fun n rest hrecirc => ?second, fun n rest p hrecirc happly hswitch hinput hpkt => ?first⟩
    case second =>
      refine ⟨_, congrArg Host.Outcome.next (State.parseDispatch_recirc hon hfree hrecirc), ?_, ?_, fun f hf => ?_,
        State.bump_ctr_same, (Frame.refl.step (State.setChip_parts (by simp) .refl)).bump (List.mem_singleton_self _)⟩
      · rw [State.recircTaken_chip, Chip.setEngine]
      · rw [State.recircTaken_chip, Chip.setEngine_engine_same]
      · rw [State.recircTaken_chip, Chip.setEngine_engine_other hf]
        rfl
    case first =>
      have hpinned := State.inputTaken_pinned (c := c) (e := e) (lp := lp) (rest := rest) hpkt
      have hchip : ((s.inputTaken c e lp n rest).pinUcode c n).chip c = ((s.chip c).setEngine e (some n)).ucodePinned := by
        rw [hpinned, State.chip_congr State.setPkt_chips, State.setChip_chip_same c.isLt]
      have hports : ((s.inputTaken c e lp n rest).pinUcode c n).ports = (s.inputTaken c e lp n rest).ports := by
        rw [hpinned, State.setPkt_ports, State.setChip_ports]
      refine ⟨_, congrArg Host.Outcome.next (State.parseDispatch_input hon hfree hrecirc happly hswitch hinput), ?_, ?_, ?_,
        ?_, ?_, fun j hj => ?_, ?_⟩
      · rw [State.port_congr hports, State.inputTaken_port]
      · rw [hchip, Chip.ucodePinned_engine, Chip.setEngine_engine_same]
      · rw [hpinned, State.setPkt_pkt_same]
      · rw [hchip]
        exact Chip.ucodePinned_count
      · rw [hpinned, State.setPkt_ctr, State.setChip_ctr, State.inputTaken_ctr]
      · rw [State.port_congr hports, State.inputTaken_port_other hj]
      · exact State.inputTaken_frame.step (State.pinUcode_parts (by simp) .refl)
  case noDispatch => exact fun s c e lp h => congrArg Host.Outcome.next (State.parseDispatch_none h)
  case passEnd =>
    intro s c e n p hengine hpkt hexc hheld r p1 freed
    have hrun : s.passRun c p = r := rfl
    clear_value r
    refine ⟨fun hlimit hlen => ?clean, fun l hlimit haction => ?limit⟩
    case clean =>
      have hchip : ((s.passStored c e n p r).lookupQueued c n).chip c =
          { (s.chip c).setEngine e none with lookups := (s.chip c).lookups ++ [n] } := by
        rw [State.lookupQueued_chip, State.passStored_chip, Chip.setEngine]
      refine ⟨_, congrArg Host.Outcome.next (State.parsePassEnd_clean hengine hpkt hexc hheld hrun hlimit hlen),
        Chip.engines_freed (by rw [hchip]), State.lookupQueued_pkt.trans State.passStored_pkt, ?_,
        State.passStored_frame.step (State.setChip_parts (by simp) .refl)⟩
      rw [hchip, Chip.setEngine]
    case limit =>
      have hpasses := State.limitDropped_passes (s := s) (c := c) (e := e) (n := n) (l := l) (p := p) (r := r)
      refine ⟨_, congrArg Host.Outcome.next (State.parsePassEnd_limit hengine hpkt hheld hrun hlimit haction),
        Chip.engines_freed (congrArg (fun y => y.1) hpasses), State.limitDropped_ctr, State.limitDropped_cause,
        State.clsDrop_pkt, State.limitDropped_ledger, congrArg (fun y => y.2.2) hpasses, ?_⟩
      exact (State.passCounted_stored.1.mono (by simp)).trans (State.clsDrop_frame.1.mono (by simp))
  case noPass => exact fun s c e h => congrArg Host.Outcome.next (State.parsePassEnd_none h)
  case lookup =>
    intro s c ecc n p hnext hpkt hheld q h w made dropped
    have hwalk : s.lookupWalk c n ecc p = w := rfl
    have hhdr : s.lookupHdr c n p = h := rfl
    have hpin : (s.lookupTaken c n).pinBank c n p = q := rfl
    clear_value w h q
    have hparts : OnlyParts [.freeCtr, .regs, .ctrs, .cmd, .flt, .brt, .pkts, .chips] s (s.lookup c ecc) :=
      State.lookup_parts (List.Subset.refl _) .refl
    have drops {r : Nat} (hdrop : LookupDropped c n r s (s.lookup c ecc)) :
        After (.lookup c ecc) s fun t => dropped t r :=
      ⟨_, rfl, hdrop.gone, hdrop.ledger, hdrop.counted, hdrop.lookups, hparts⟩
    refine ⟨fun i tag w13 w14 hfound => ⟨fun haction => ?discards, fun haction hpass => ?recirculates⟩,
      fun hfound haction => ?default, fun x hfound haction => ?exception⟩
    case discards => exact drops (State.lookup_discards_by_rule hnext hpkt hheld (hwalk ▸ hfound) haction)
    case recirculates =>
      have hlookup := State.lookup_recirculates hnext hpkt hheld (hwalk ▸ hfound) haction hpass
      have hmade : LookedUp c n q.2 s (s.lookupTraced c n ecc p) := hpin ▸ State.lookupTraced_made hpkt
      rw [hpin] at hlookup
      refine ⟨_, congrArg Host.Outcome.next hlookup, State.recirculated_pkt, ?_,
        State.recirculated_ctr.trans hmade.counted, ?_, ?_⟩
      · rw [State.recirculated_chip, hmade.recirc]
      · rw [State.recirculated_chip, hmade.lookups]
      · rw [← hlookup]
        exact hparts
    case default => exact drops (State.lookup_discards_by_default hnext hpkt hheld (hwalk ▸ hfound) (hhdr ▸ haction))
    case exception => exact drops (State.lookup_discards_by_exception hnext hpkt hheld (hwalk ▸ hfound) haction)
  case noLookup => exact fun s c ecc h => congrArg Host.Outcome.next (State.lookup_none h)

end Sys2Proof.Machine

/-! SUPPORT. The mailbox (R510 to R512, R515): its data words and fields, what it shows when a request was answered
or waits, and how a security operation at a free mailbox is taken, executed and settled. -/

namespace Sys2Proof.Machine

open Sys2Proof

variable {s t u : State} {o : MbOwner} {w : List Word} {op st : Nat} {x : Word}

/-! ### The words of the mailbox (R515) -/

/-- A field that is replaced reads as what it was replaced with. -/
theorem fld_setFld_same {hi lo n : Nat} (hlo : lo ≤ hi) (hhi : hi < 32) (hn : n < 2 ^ (hi - lo + 1)) :
    fld (setFld x hi lo n) hi lo = n := by
  refine Nat.eq_of_testBit_eq fun j => ?_
  simp only [fld, setFld, Nat.testBit_mod_two_pow, Nat.testBit_div_two_pow, BitVec.testBit_toNat, BitVec.getLsbD_or,
    BitVec.getLsbD_and, BitVec.getLsbD_not, BitVec.getLsbD_ofNat, Nat.testBit_mul_two_pow, Nat.testBit_two_pow_sub_one]
  by_cases hj : j < hi - lo + 1
  · have hin : j + lo < 32 := by omega
    simp [hj, hin]
  · simp [hj, Nat.testBit_lt_two_pow (lt_of_lt_of_le hn (Nat.pow_le_pow_right (by omega) (not_lt.1 hj)))]

/-- The registers of CMD_MB_DATA. -/
def mbDataRegs : List Nat := (List.range 64).map fun i => Reg.CMD_MB_DATA + 4 * i

theorem mbData_mem {i : Nat} (hi : i < 64) : Reg.CMD_MB_DATA + 4 * i ∈ mbDataRegs :=
  List.mem_map.2 ⟨i, List.mem_range.2 hi, rfl⟩

theorem ctrl_not_mbData : Reg.CMD_MB_CTRL ∉ mbDataRegs := by decide

/-- Words stored at listed registers only. -/
theorem foldl_wr_frame {α : Type} {f : α → Nat} {g : α → Word} {as : List Nat} {l : List α}
    (h : ∀ z ∈ l, f z ∈ as) : Frame [] as [] s (l.foldl (fun s z => s.wr (f z) (g z)) s) := by
  induction l generalizing s with
  | nil => exact .refl
  | cons z l ih =>
    exact (Frame.refl.wr (h z (List.mem_cons_self ..))).trans (ih fun q hq => h q (List.mem_cons_of_mem _ hq))

theorem State.putMbData_frame : Frame [] mbDataRegs [] s (s.putMbData w) := by
  refine foldl_wr_frame fun z hz => mbData_mem ?_
  obtain ⟨i, hi, rfl⟩ := List.getElem_of_mem hz
  rw [List.length_take] at hi
  simp only [List.getElem_take, List.getElem_zipIdx]
  omega

/-- Words stored one after another read back, and every other word stays. -/
theorem foldl_wr_zipIdx_rd {b k i : Nat} : ((w.zipIdx k).foldl (fun s z => s.wr (b + 4 * z.2) z.1) s).rd (b + 4 * i) =
    if k ≤ i ∧ i < k + w.length then w.getD (i - k) 0 else s.rd (b + 4 * i) := by
  induction w generalizing s k with
  | nil => rw [if_neg (by simp)]; rfl
  | cons z l ih =>
    rw [List.zipIdx_cons, List.foldl_cons, ih, State.wr_rd, List.length_cons]
    rcases lt_trichotomy i k with hlt | rfl | hgt
    · rw [if_neg (by omega), if_neg (by omega), if_neg (by omega)]
    · rw [if_neg (by omega), if_pos rfl, if_pos (by omega), Nat.sub_self, List.getD_cons_zero]
    · by_cases hin : i < k + 1 + l.length
      · rw [if_pos (by omega), if_pos (by omega), show i - k = i - (k + 1) + 1 by omega, List.getD_cons_succ]
      · rw [if_neg (by omega), if_neg (by omega), if_neg (by omega)]

theorem State.putMbData_rd {i : Nat} (hw : w.length ≤ 64) (hi : i < w.length) :
    (s.putMbData w).rd (Reg.CMD_MB_DATA + 4 * i) = w.getD i 0 := by
  unfold State.putMbData
  rw [List.take_of_length_le (by simpa using hw), foldl_wr_zipIdx_rd, if_pos (by omega), Nat.sub_zero]

/-- The word that asks for a request: opcode, length and perhaps GO. -/
theorem fld_request (hop : op < 256) {n : Nat} (hn : n ≤ 64) :
    fld (BitVec.ofNat 32 (op + 256 * n)) 7 0 = op ∧ fld (BitVec.ofNat 32 (op + 256 * n)) 14 8 = n := by
  simp only [fld, BitVec.toNat_ofNat]
  omega

/-! ### A mailbox and its answers (R510 to R512, R515) -/

/-- A mailbox is free for a request of class 3. -/
def MbReady (s : State) (o : MbOwner) : Prop :=
  s.allowed o.port 3 = true ∧
  match o with
  | .pcie => s.mbBusy = false
  | .smp => s.cmd.smp.busy = false ∧ s.glb.state ≠ .aon

/-- A mailbox shows an answer. -/
def MbAnswered (t : State) (o : MbOwner) (st : Nat) (ws : List Word) : Prop :=
  match o with
  | .pcie =>
    t.rdFld Reg.CMD_MB_CTRL 19 16 = st ∧ t.rdBit Reg.CMD_MB_CTRL 21 = true ∧ t.rdBit Reg.CMD_MB_CTRL 31 = false ∧
    ∀ i, i < ws.length → t.rd (Reg.CMD_MB_DATA + 4 * i) = ws.getD i 0
  | .smp =>
    (∃ a : Abv, t.cmd.smp.answer = a.response st (wordBytes ws)) ∧ t.cmd.smp.resp = t.cmd.smp.answer ∧
    t.cmd.smp.busy = false

/-- A mailbox waits for its request to complete. -/
def MbWaits (t : State) (o : MbOwner) : Prop :=
  match o with
  | .pcie => t.rdBit Reg.CMD_MB_CTRL 31 = true ∧ t.rdFld Reg.CMD_MB_CTRL 19 16 = stPending
  | .smp => t.cmd.smp.busy = true

theorem State.mbAnswer_parts_mb {ws : List Word} : OnlyParts [.regs, .cmd] s (s.mbAnswer st ws) :=
  State.mbAnswer_parts (List.Subset.refl _) .refl

theorem State.mbAnswer_answered {ws : List Word} (hst : st < 16) (hws : ws.length ≤ 64) :
    MbAnswered (s.mbAnswer st ws) .pcie st ws := by
  have hctrl : (s.mbAnswer st ws).rd Reg.CMD_MB_CTRL =
      setBit (setBit (setFld ((s.putMbData ws).rd Reg.CMD_MB_CTRL) 19 16 st) 21 true) 31 false :=
    (State.irqIf_frame.2.1 _ (by decide)).trans State.wr_rd_same
  refine ⟨?status, ?done, ?go, fun i hi => ?words⟩
  case status =>
    rw [State.rdFld, hctrl, fld_congr (by omega) fun j _ hj => (getLsbD_setBit_other (by omega)).trans
      (getLsbD_setBit_other (by omega)), fld_setFld_same (by omega) (by omega) hst]
  case done => rw [State.rdBit, bit, hctrl, getLsbD_setBit_other (by omega), getLsbD_setBit_same (by omega)]
  case go => rw [State.rdBit, bit, hctrl, getLsbD_setBit_same (by omega)]
  case words =>
    have hirq : Reg.CMD_MB_DATA + 4 * i ∉ [Reg.CMD_IRQ_PENDING] := by
      simp only [List.mem_singleton, Reg.CMD_MB_DATA, Reg.CMD_IRQ_PENDING]
      omega
    have hne : Reg.CMD_MB_DATA + 4 * i ≠ Reg.CMD_MB_CTRL := by
      simp only [ne_eq, Reg.CMD_MB_DATA, Reg.CMD_MB_CTRL]
      omega
    calc (s.mbAnswer st ws).rd (Reg.CMD_MB_DATA + 4 * i)
        = (s.putMbData ws).rd (Reg.CMD_MB_DATA + 4 * i) :=
          (State.irqIf_frame.2.1 _ hirq).trans (State.wr_rd_other hne)
      _ = ws.getD i 0 := State.putMbData_rd hws hi

theorem State.smpEnd_answered {b : Abv} {ws : List Word} :
    MbAnswered (s.smpEnd (b.response st (wordBytes ws))) .smp st ws := ⟨⟨b, rfl⟩, rfl, rfl⟩

theorem State.answerTo_answered {ws : List Word} (hst : st < 16) (hws : ws.length ≤ 64) :
    MbAnswered (s.answerTo o st ws) o st ws := by
  cases o with
  | pcie => exact State.mbAnswer_answered hst hws
  | smp => exact State.smpEnd_answered

/-- A mailbox waits on while its control register and the state of the command ports stay. -/
theorem MbWaits.keeps (h : MbWaits s o) (hr : t.rd Reg.CMD_MB_CTRL = s.rd Reg.CMD_MB_CTRL) (hc : t.cmd = s.cmd) :
    MbWaits t o := by
  cases o with
  | pcie => exact ⟨(congrArg (bit · 31) hr).trans h.1, (congrArg (fld · 19 16) hr).trans h.2⟩
  | smp => exact (congrArg (fun c : CmdSt => c.smp.busy) hc).trans h

/-! ### The execution of a request (R515) -/

/-- A request is taken: its mailbox waits, and all but the registers and the command ports is as before. -/
structure MbTaken (s u : State) (o : MbOwner) : Prop where
  waits : MbWaits u o
  rows : u.cmd.rows = s.cmd.rows
  parts : OnlyParts [.regs, .cmd] s u

/-- What an execution leaves at its mailbox: the wait goes on, or the answer shows. -/
def MbSettled (o : MbOwner) (r : State × MbRes) (t : State) : Prop :=
  match r.2 with
  | .wait => t = r.1
  | .done st ws => st < 16 → ws.length ≤ 64 → MbAnswered t o st ws ∧ OnlyParts [.regs, .cmd] r.1 t

/-- The state after an execution whose answer, if there is one yet, is given by a function of its status and words. -/
def State.replied (r : State × MbRes) (f : State → Nat → List Word → State) : State :=
  match r.2 with
  | .wait => r.1
  | .done st ws => f r.1 st ws

theorem State.replied_settled {r : State × MbRes} {f : State → Nat → List Word → State}
    (h : ∀ st ws, st < 16 → ws.length ≤ 64 →
      MbAnswered (f r.1 st ws) o st ws ∧ OnlyParts [.regs, .cmd] r.1 (f r.1 st ws)) :
    MbSettled o r (State.replied r f) := by
  obtain ⟨t, _ | ⟨st, ws⟩⟩ := r
  · exact rfl
  · exact h st ws

/-- A security operation of a port that holds class 3 is executed. -/
theorem State.mbRun_security {n : Nat} (hallow : s.allowed o.port 3 = true) (hlo : 0x10 ≤ op) (hhi : op < 0x20)
    (hn : n ≤ 64) : s.mbRun o op n w = s.mbSecurity o op w := by
  have hclass : mbClass op = some 3 := by
    rw [mbClass, if_neg (by omega), if_pos ⟨hlo, hhi⟩]
  unfold State.mbRun
  rw [hclass]
  simp only [hallow, Bool.not_true, Bool.false_eq_true, if_false]
  rw [if_neg (by omega), if_neg (by omega), if_neg (by omega), if_neg (by omega), if_neg (by omega)]

/-- A taken request leaves the authorization of its port. -/
theorem MbTaken.allowed (h : MbTaken s u o) {p : CmdPort} {c : Nat} : u.allowed p c = s.allowed p c := by
  have hsec : u.sec = s.sec := h.parts .sec (by decide)
  rw [State.allowed, h.rows, hsec, State.allowed]

/-- The registers of the PCIe mailbox after GO: the request, its words, and STATUS PENDING. -/
def State.mbOpened (s : State) (v : Word) : State :=
  let s1 := s.wr Reg.CMD_MB_CTRL (setBit (setFld (s.rd Reg.CMD_MB_CTRL &&& ~~~(v &&& 0x300000)) 14 0 v.toNat) 31 true)
  s1.wr Reg.CMD_MB_CTRL (setFld (s1.rd Reg.CMD_MB_CTRL) 19 16 stPending)

theorem State.mbOpened_waits : MbWaits (s.mbOpened x) .pcie := by
  refine ⟨?_, ?_⟩
  · rw [State.rdBit, bit, State.mbOpened, State.wr_rd_same, getLsbD_setFld_other (by omega) (by omega), State.wr_rd_same,
      getLsbD_setBit_same (by omega)]
  · rw [State.rdFld, State.mbOpened, State.wr_rd_same, fld_setFld_same (by omega) (by omega) (by decide)]

theorem State.mbOpened_frame : Frame [] [Reg.CMD_MB_CTRL] [] s (s.mbOpened x) :=
  (Frame.refl.wr (by simp)).wr (by simp)

/-- GO executes the request that the data registers hold. -/
theorem State.mbGo_settled {n : Nat} (hop : fld x 7 0 = op) (hn : fld x 14 8 = n) (hw : w.length = n) (hle : n ≤ 64)
    (hdata : ∀ i, i < n → s.rd (Reg.CMD_MB_DATA + 4 * i) = w.getD i 0) :
    MbSettled .pcie ((s.mbOpened x).mbRun .pcie op n w) (s.mbGo x) := by
  have hwords : ((List.range (min 64 n)).map fun i => s.rd (Reg.CMD_MB_DATA + 4 * i)) = w := by
    refine List.ext_getElem (by simp; omega) fun i hi hi' => ?_
    rw [List.getElem_map, List.getElem_range, hdata i (by omega), List.getD_eq_getElem]
  have hgo : s.mbGo x = State.replied ((s.mbOpened x).mbRun .pcie op n w) State.mbAnswer := by
    rw [State.mbGo, hop, hn, hwords]
    rfl
  rw [hgo]
  exact State.replied_settled fun st ws hst hws => ⟨State.mbAnswer_answered hst hws, State.mbAnswer_parts_mb⟩

theorem State.mailbox_pcie (h : s.mbBusy = false) : s.mailbox .pcie op w =
    (s.putMbData w).mbGo (withBit (BitVec.ofNat 32 (op + 256 * w.length)) 31) := by
  have hbusy : (s.putMbData w).mbBusy = false := (State.rdBit_of_frame State.putMbData_frame ctrl_not_mbData).trans h
  have hgo : bit (withBit (BitVec.ofNat 32 (op + 256 * w.length)) 31) 31 = true := bit_withBit (by omega)
  unfold State.mailbox State.writeMailbox
  simp only [h, hbusy, Bool.false_eq_true, if_false, ne_eq, not_true_eq_false, true_and]
  exact if_pos hgo

/-- The MAILBOX frame that carries a request of SMP, with the next SEQ. -/
def State.smpRequest (s : State) (w : List Word) : Abv :=
  { magic := 0xAB, op := 3, len := 4 * (w.length + 1), space := 0, addr := 0
    seq := match s.cmd.smp.seq with
      | some q => (q + 1).toNat
      | none => 0 }

theorem State.mailbox_smp (hbusy : s.cmd.smp.busy = false) (haon : s.glb.state ≠ .aon) : s.mailbox .smp op w =
    s.smpMailbox (s.smpRequest w) (BitVec.ofNat 32 (op + 256 * w.length) :: w) := by
  unfold State.mailbox
  simp only [hbusy, Bool.false_eq_true, if_false]
  exact if_neg haon

/-- A MAILBOX frame executes the request that it carries. -/
theorem State.smpMailbox_settled {b : Abv} {n : Nat} (hop : fld x 7 0 = op) (hn : fld x 14 8 = n) (hw : w.length = n) :
    MbSettled .smp ((s.smpBegin b).mbRun .smp op n w) (s.smpMailbox b (x :: w)) := by
  have hrun : s.smpMailbox b (x :: w) = State.replied ((s.smpBegin b).mbRun .smp op n w)
      fun t st ws => t.smpEnd (b.response st (wordBytes ws)) := by
    simp only [State.smpMailbox, List.isEmpty_cons, Bool.false_eq_true, if_false, List.getD_cons_zero, hop, hn,
      List.drop_succ_cons, List.drop_zero, List.take_of_length_le hw.le]
    rfl
  rw [hrun]
  exact State.replied_settled fun st ws _ _ => ⟨State.smpEnd_answered, State.smpEnd_parts (by simp) .refl⟩

/-- A security operation at a free mailbox is taken, executed, and settled. -/
theorem State.mailbox_security (h : MbReady s o) (hlo : 0x10 ≤ op) (hhi : op < 0x20) (hw : w.length ≤ 64) :
    ∃ u, MbTaken s u o ∧ MbSettled o (u.mbSecurity o op w) (s.mailbox o.port op w) := by
  obtain ⟨hallow, hfree⟩ := h
  obtain ⟨hop, hlen⟩ := fld_request (op := op) (n := w.length) (by omega) hw
  cases o with
  | pcie =>
    have htaken : MbTaken s ((s.putMbData w).mbOpened (withBit (BitVec.ofNat 32 (op + 256 * w.length)) 31)) .pcie :=
      ⟨State.mbOpened_waits, congrArg CmdSt.rows (State.putMbData_frame.1 .cmd (by decide)),
        State.wr_parts (by simp) (State.wr_parts (by simp) (State.putMbData_parts (by simp) .refl))⟩
    have hsettled := State.mbGo_settled (s := s.putMbData w)
      ((fld_withBit (i := 31) (by omega) (by omega)).trans hop) ((fld_withBit (by omega) (by omega)).trans hlen) rfl hw
      fun i hi => State.putMbData_rd hw hi
    rw [State.mbRun_security (o := .pcie) (htaken.allowed.trans hallow) hlo hhi hw,
      ← State.mailbox_pcie hfree] at hsettled
    exact ⟨_, htaken, hsettled⟩
  | smp =>
    have htaken : MbTaken s (s.smpBegin (s.smpRequest w)) .smp := ⟨rfl, rfl, State.smpBegin_parts (by simp) .refl⟩
    have hsettled := State.smpMailbox_settled (s := s) (b := s.smpRequest w) hop hlen rfl
    rw [State.mbRun_security (o := .smp) (htaken.allowed.trans hallow) hlo hhi hw,
      ← State.mailbox_smp hfree.1 hfree.2] at hsettled
    exact ⟨_, htaken, hsettled⟩

end Sys2Proof.Machine

/-! SUPPORT. The security operations (R522 to R529, R542): the two ways in which they end at their mailbox, and when each is
refused or starts its fuse operation. -/

namespace Sys2Proof.Machine

open Sys2Proof

variable {s t u : State} {o : MbOwner} {w l : List Word} {op st v : Nat} {x : Word} {i : Fin 4} {f : FuseOp}

/-- A state that differs in its registers and the command ports. -/
theorem State.eq_of_regs_cmd (h : OnlyParts [.regs, .cmd] s u) : u = { s with regs := u.regs, cmd := u.cmd } := by
  cases u
  simp only [State.mk.injEq, true_and]
  refine ⟨h .pending ?_, h .freeCtr ?_, h .ctrs ?_, h .highLatch ?_, h .sec ?_, h .flt ?_, h .thm ?_, h .glb ?_, h .img ?_,
    h .tim ?_, h .loopA ?_, h .loopB ?_, h .loopS ?_, h .drv ?_, h .adc ?_, h .mtx ?_, h .cal ?_, h .red ?_, h .acq ?_,
    h .slt ?_, h .brt ?_, h .pkts ?_, h .nextPkt ?_, h .ports ?_, h .chips ?_, h .xing ?_⟩ <;> decide

/-! ### The ends of a security operation at its mailbox (R531, R542) -/

/-- A security operation ends at once: its mailbox answers, and it is audited. -/
def OpEnds (s t : State) (o : MbOwner) (op st v : Nat) : Prop :=
  MbAnswered t o st [] ∧ t.sec = (s.auditOp o op st v).sec ∧ OnlyParts [.regs, .cmd, .sec] s t

/-- A fuse operation starts, and its mailbox waits. -/
def FuseStarts (s t : State) (o : MbOwner) (f : FuseOp) : Prop :=
  MbWaits t o ∧ t.sec = { s.sec with fuse := some (f, o) } ∧ OnlyParts [.regs, .cmd, .sec] s t

/-- No fuse operation can start (R531). -/
def Shut (s : State) : Prop := s.thm.nvmOk = false ∨ s.sec.fuse ≠ none ∨ s.sec.retirePending ≠ none

theorem State.fuseShut_iff : s.fuseShut = true ↔ Shut s := by
  simp [State.fuseShut, Shut, Option.isSome_iff_ne_none, or_assoc]

theorem State.fuseShut_false (h : ¬ Shut s) : s.fuseShut = false :=
  Bool.eq_false_iff.2 fun hs => h (State.fuseShut_iff.1 hs)

/-- A security operation that ends where it is executed ends at its mailbox. -/
theorem State.mailbox_ends (h : MbReady s o) (hrun : ∀ r c, State.mbSecurity { s with regs := r, cmd := c } o op w =
      State.opEnds { s with regs := r, cmd := c } o op st v) (hlo : 0x10 ≤ op := by omega) (hhi : op < 0x20 := by omega)
    (hw : w.length ≤ 64 := by simp) (hst : st < 16 := by decide) : OpEnds s (s.mailbox o.port op w) o op st v := by
  obtain ⟨u, htaken, hsettled⟩ := State.mailbox_security h hlo hhi hw
  have hends : u.mbSecurity o op w = u.opEnds o op st v := by
    rw [State.eq_of_regs_cmd htaken.parts]
    exact hrun _ _
  rw [hends] at hsettled
  obtain ⟨hanswer, hparts⟩ := hsettled hst (Nat.zero_le _)
  refine ⟨hanswer, ?_, ?_⟩
  · calc (s.mailbox o.port op w).sec
        = (u.auditOp o op st v).sec := hparts .sec (by decide)
      _ = (s.auditOp o op st v).sec :=
          State.audit_sec_congr (htaken.parts .sec (by decide)) (htaken.parts .tim (by decide))
  · exact (State.auditOp_parts (by simp) (htaken.parts.mono (by simp))).trans (hparts.mono (by simp))

/-- A fuse operation that starts where it is executed waits at its mailbox. -/
theorem State.mailbox_starts (h : MbReady s o) (hrun : ∀ r c, State.mbSecurity { s with regs := r, cmd := c } o op w =
      State.startFuse { s with regs := r, cmd := c } o f) (hlo : 0x10 ≤ op := by omega) (hhi : op < 0x20 := by omega)
    (hw : w.length ≤ 64 := by simp) : FuseStarts s (s.mailbox o.port op w) o f := by
  obtain ⟨u, htaken, hsettled⟩ := State.mailbox_security h hlo hhi hw
  have hstarts : u.mbSecurity o op w = u.startFuse o f := by
    rw [State.eq_of_regs_cmd htaken.parts]
    exact hrun _ _
  rw [hstarts] at hsettled
  have hsec : u.sec = s.sec := htaken.parts .sec (by decide)
  have hstarted : s.mailbox o.port op w = { u with sec := { u.sec with fuse := some (f, o) } } := hsettled
  rw [hstarted]
  exact ⟨htaken.waits.keeps rfl rfl, by rw [hsec], .set_sec (by simp) (htaken.parts.mono (by simp))⟩

/-! ### What each security operation does (R522 to R529, R542) -/

/-- In RETIRED every security operation but AUDIT_READ is refused. -/
theorem State.mbSecurity_retired (h : s.sec.lifecycle = .retired) (hop : op < 0x16) :
    s.mbSecurity o op w = s.opEnds o op stRefused 0 := by
  unfold State.mbSecurity
  rw [if_neg (by omega), if_neg (by omega), if_pos h]

theorem State.mbSecurity_provision (h : s.sec.lifecycle ≠ .retired) : s.mbSecurity o 0x10 w = s.mbProvision o w :=
  if_neg h

theorem State.mbSecurity_revoke (h : s.sec.lifecycle ≠ .retired) : s.mbSecurity o 0x11 w = s.mbRevoke o w := if_neg h

theorem State.mbSecurity_svn (h : s.sec.lifecycle ≠ .retired) : s.mbSecurity o 0x12 w = s.mbSvn o w := if_neg h

theorem State.mbSecurity_imageKey (h : s.sec.lifecycle ≠ .retired) : s.mbSecurity o 0x13 w = s.mbImageKey o w :=
  if_neg h

theorem State.mbSecurity_zeroize (h : s.sec.lifecycle ≠ .retired) : s.mbSecurity o 0x14 w = s.mbZeroize o := if_neg h

theorem State.mbSecurity_retire (h : s.sec.lifecycle ≠ .retired) : s.mbSecurity o 0x15 w = s.mbRetire o w := if_neg h

theorem slotArg_some (h : x.toNat = i.val) : slotArg x = some i := by
  rw [slotArg, dif_pos (by omega), Option.some_inj]
  exact Fin.ext h

theorem slotArg_none (h : 4 ≤ x.toNat) : slotArg x = none := dif_neg (by omega)

/-- The words of a KEY_PROVISION request: the hash, then the slot. -/
def keyWords (l : List Word) (x : Word) : List Word := (List.range 12).map (reqWord l) ++ [x]

theorem keyWords_slot : reqWord (keyWords l x) 12 = x := by
  simp [reqWord, keyWords, List.getD]

theorem keyWords_hash : reqVec (keyWords l x) 12 = Vector.ofFn fun k : Fin 12 => l.getD k.val 0 := by
  refine Vector.ext fun k hk => ?_
  simp [reqVec, reqWord, keyWords, List.getD, List.getElem?_append]

@[simp] theorem keyWords_length : (keyWords l x).length = 13 := by simp [keyWords]

theorem State.mbProvision_badArg (h : 4 ≤ x.toNat) :
    s.mbProvision o (keyWords l x) = s.opEnds o 0x10 stBadArg x.toNat := by
  rw [State.mbProvision, keyWords_slot, slotArg_none h]

theorem State.mbProvision_refused (hslot : x.toNat = i.val) (h : Shut s ∨ s.sec.slots[i].programmed = true ∨
    s.sec.slots[i].revoked = true) : s.mbProvision o (keyWords l x) = s.opEnds o 0x10 stRefused i := by
  rw [State.mbProvision, keyWords_slot, slotArg_some hslot, hslot]
  exact if_pos (by simpa [State.fuseShut_iff, or_assoc] using h)

theorem State.mbProvision_starts (hslot : x.toNat = i.val) (h : ¬(Shut s ∨ s.sec.slots[i].programmed = true ∨
    s.sec.slots[i].revoked = true)) : s.mbProvision o (keyWords l x) =
      s.startFuse o (.provision i (Vector.ofFn fun k : Fin 12 => l.getD k.val 0)) := by
  rw [State.mbProvision, keyWords_slot, slotArg_some hslot, keyWords_hash]
  exact if_neg (by simpa [State.fuseShut_iff, or_assoc] using h)

theorem State.mbRevoke_badArg (h : 4 ≤ x.toNat) : s.mbRevoke o [x] = s.opEnds o 0x11 stBadArg x.toNat := by
  rw [State.mbRevoke, reqWord, List.getD_cons_zero, slotArg_none h]

theorem State.mbRevoke_refused (hslot : x.toNat = i.val) (h : Shut s ∨ s.slotLeft i = false) :
    s.mbRevoke o [x] = s.opEnds o 0x11 stRefused i := by
  rw [State.mbRevoke, reqWord, List.getD_cons_zero, slotArg_some hslot, hslot]
  exact if_pos (by simpa [State.fuseShut_iff] using h)

theorem State.mbRevoke_starts (hslot : x.toNat = i.val) (h : ¬ Shut s) (hleft : s.slotLeft i = true) :
    s.mbRevoke o [x] = s.startFuse o (.revoke i) := by
  rw [State.mbRevoke, reqWord, List.getD_cons_zero, slotArg_some hslot]
  exact if_neg (by simp [State.fuseShut_false h, hleft])

theorem State.mbSvn_refused (h : Shut s ∨ x.toNat ≤ s.sec.minSvn.toNat ∨ 255 < x.toNat ∨ s.bootedSvn = none ∨
    ∃ b, s.bootedSvn = some b ∧ b < x.toNat) : s.mbSvn o [x] = s.opEnds o 0x12 stRefused x.toNat := by
  have hbooted : (s.bootedSvn.all fun b => decide (b < x.toNat)) = true ↔
      s.bootedSvn = none ∨ ∃ b, s.bootedSvn = some b ∧ b < x.toNat := by
    cases s.bootedSvn <;> simp
  rw [State.mbSvn, reqWord, List.getD_cons_zero]
  exact if_pos (by simpa only [Bool.or_eq_true, State.fuseShut_iff, hbooted, decide_eq_true_eq, or_assoc] using h)

theorem State.mbSvn_starts {b : Nat} (h : ¬ Shut s) (hfloor : s.sec.minSvn.toNat < x.toNat) (hmax : x.toNat ≤ 255)
    (hbooted : s.bootedSvn = some b) (hb : x.toNat ≤ b) :
    s.mbSvn o [x] = s.startFuse o (.svn (BitVec.ofNat 8 x.toNat)) := by
  rw [State.mbSvn, reqWord, List.getD_cons_zero]
  exact if_neg (by simp [State.fuseShut_false h, hbooted, hfloor, hmax, hb])

/-- The words of an IMAGE_KEY_SET request. -/
def imageKeyWords (l : List Word) : List Word := (List.range 8).map (reqWord l)

@[simp] theorem imageKeyWords_length : (imageKeyWords l).length = 8 := by simp [imageKeyWords]

theorem imageKeyWords_key : reqVec (imageKeyWords l) 8 = Vector.ofFn fun k : Fin 8 => l.getD k.val 0 := by
  refine Vector.ext fun k hk => ?_
  simp [reqVec, reqWord, imageKeyWords, List.getD]

theorem State.mbImageKey_refused (h : Shut s ∨ s.sec.imageKey ≠ .absent) :
    s.mbImageKey o w = s.opEnds o 0x13 stRefused 0 :=
  if_pos (by simpa [State.fuseShut_iff] using h)

theorem State.mbImageKey_starts (h : ¬ Shut s) (hkey : s.sec.imageKey = .absent) : s.mbImageKey o (imageKeyWords l) =
    s.startFuse o (.imageKey (Vector.ofFn fun k : Fin 8 => l.getD k.val 0)) := by
  rw [State.mbImageKey, imageKeyWords_key]
  exact if_neg (by simp [State.fuseShut_false h, hkey])

theorem State.mbRetire_badArg (h : x ≠ 0xC1E00D1E) : s.mbRetire o [x] = s.opEnds o 0x15 stBadArg 0 := if_pos h

theorem State.mbRetire_refused (h : Shut s) : s.mbRetire o [0xC1E00D1E] = s.opEnds o 0x15 stRefused 0 := by
  rw [State.mbRetire, if_neg (by simp [reqWord]), if_pos (State.fuseShut_iff.2 h)]

theorem State.mbRetire_triggers (h : ¬ Shut s) : s.mbRetire o [0xC1E00D1E] =
    ({ s.trigger .retire (portNum o.port) 3 0x15 with
      sec := { (s.trigger .retire (portNum o.port) 3 0x15).sec with retirePending := some o } }, .wait) := by
  rw [State.mbRetire, if_neg (by simp [reqWord]), if_neg (by simp [State.fuseShut_false h])]

end Sys2Proof.Machine

/-! SUPPORT. Zeroization (R337, R536 to R538): what it clears at once, what its trigger does before training and while one
is under way, and what an audited event leaves of the security state. -/

namespace Sys2Proof.Machine

open Sys2Proof

variable {s t u d : State} {cause : ZeroCause} {c : Instr} {ps : List Part} {a k n cls : Nat} {x : Word}

/-! ### What a zeroization clears (R337, R536) -/

/-- The packets that are resident at each chiplet are discarded. -/
def State.residentsGone (s : State) : State :=
  (List.range 16).foldl (fun s c => s.ledgerEvent c (.discard drZeroize (s.ledger c).resident)) s

/-- A zeroization discards what an entry of the packet memory holds. -/
def State.zeroEntry (s : State) (x : Nat × Option Pkt) : State :=
  match x.2 with
  | some p => s.zeroPkt p
  | none => s

/-- The losses of a zeroization: the egress-hold regions, the packets' pins and credits, and every ledger's residents. -/
def State.lossesBooked (s : State) : State :=
  (s.emptyHolds.pkts.foldl State.zeroEntry s.emptyHolds).residentsGone

/-- CMD_MB_DATA is cleared. -/
def State.mbDataCleared (s : State) : State :=
  (List.range 64).foldl (fun s w => s.wr (Reg.CMD_MB_DATA + 4 * w) 0) s

theorem State.ledgerEvent_ledger_other {d : Nat} {e : LedgerEvent} (h : d ≠ k) :
    (s.ledgerEvent k e).ledger d = s.ledger d := by
  simp [State.ledger, State.ledgerEvent, List.getD, Ne.symm h]

theorem foldl_ledgerEvent_resident {l : List Nat} (hk : k < 16) (h : k ∈ l ∨ (s.ledger k).resident = 0) :
    ((l.foldl (fun s c => s.ledgerEvent c (.discard drZeroize (s.ledger c).resident)) s).ledger k).resident = 0 := by
  induction l generalizing s with
  | nil => simpa using h
  | cons d l ih =>
    refine ih ?_
    by_cases hd : k = d
    · subst hd
      refine .inr ?_
      rw [State.ledgerEvent_ledger_same hk, Ledger.apply_discard (by decide)]
      exact BitVec.sub_self _
    · rw [State.ledgerEvent_ledger_other hd]
      exact h.imp_left fun hmem => (List.mem_cons.1 hmem).resolve_left hd

theorem State.residentsGone_resident (hk : k < 16) : (s.residentsGone.ledger k).resident = 0 :=
  foldl_ledgerEvent_resident hk (.inl (List.mem_range.2 hk))

theorem State.residentsGone_parts : OnlyParts [.brt] s s.residentsGone :=
  .foldl (fun _ _ h => State.ledgerEvent_parts (by simp) h) .refl

theorem State.zeroEntry_parts {x : Nat × Option Pkt} (h : OnlyParts [.ctrs, .brt, .chips] s t) :
    OnlyParts [.ctrs, .brt, .chips] s (t.zeroEntry x) := by
  obtain ⟨n, _ | p⟩ := x
  · exact h
  · exact State.zeroPkt_parts (by simp) h

theorem State.lossesBooked_parts : OnlyParts [.ctrs, .brt, .chips] s s.lossesBooked :=
  (OnlyParts.foldl (fun _ _ => State.zeroEntry_parts) (State.emptyHolds_parts (by simp) .refl)).trans
    (State.residentsGone_parts.mono (by simp))

theorem State.mbDataCleared_frame : Frame [] mbDataRegs [] s s.mbDataCleared :=
  foldl_wr_frame fun _ hz => mbData_mem (List.mem_range.1 hz)

theorem State.mbDataCleared_parts : OnlyParts [.regs] s s.mbDataCleared :=
  .foldl (fun _ _ h => State.wr_parts (by simp) h) .refl

/-- What a zeroization clears once its losses are booked. -/
def State.zeroCleared (s : State) (cause : ZeroCause) : State :=
  { s with
    pkts := []
    chips := Vector.ofFn fun c => (s.chips[c]).zeroed (s.chipOn c.val) (2 * s.tim.ticks)
    ports := Sparse.mapVals (fun _ => {}) (fun x => { x with inbuf := [], tx := none, replies := [], lastFrame := [] })
      s.ports
    brt := { s.brt with
      ing := Sparse.mapVals (fun _ => {}) (fun x => { x with bursts := [], span := none }) s.brt.ing
      egr := Sparse.mapVals (fun _ => {}) (fun x => { x with held := [], notices := [], part := [] }) s.brt.egr
      mesh := s.brt.mesh.filter Msg.isRelease, staged := [], flights := [] }
    sec := { s.sec with volKey := none, keyShut := true, zeroizing := some cause, zeroHeld := none }
    img := { s.img.cleared .empty none with
      commitBusy := false, commitWait := false
      verifying := match s.img.verifying with | some (.slot i) => some (.slot i) | _ => none } }

theorem State.zeroize_eq : s.zeroize cause = (s.raiseSys 1).lossesBooked.mbDataCleared.zeroCleared cause := by
  unfold State.zeroize State.mbDataCleared State.lossesBooked State.residentsGone
  delta State.zeroEntry
  dsimp only
  generalize (List.foldl _ _ (List.range 64)) = z
  rfl

theorem State.rd_congr (h : t.regs = s.regs) : t.rd a = s.rd a := by
  rw [State.rd, h, State.rd]

/-- The losses of a zeroization are booked and CMD_MB_DATA is cleared in d. -/
structure ZeroBooked (s d : State) : Prop where
  resident : ∀ c, c < 16 → (d.ledger c).resident = 0
  regs : OnlyRegs mbDataRegs s d
  parts : OnlyParts [.regs, .ctrs, .brt, .chips] (s.raiseSys 1) d

theorem State.mbDataCleared_booked : ZeroBooked s (s.raiseSys 1).lossesBooked.mbDataCleared := by
  have hcleared := State.mbDataCleared_frame (s := (s.raiseSys 1).lossesBooked)
  have hsys : (s.raiseSys 1).regs = s.regs := State.raiseSys_parts (List.Subset.refl _) .refl .regs (by decide)
  refine ⟨fun c hc => ?_, fun a ha => ?_, ?_⟩
  · rw [State.ledger_congr (hcleared.1 .brt (by decide))]
    exact State.residentsGone_resident hc
  · exact (hcleared.2.1 a ha).trans (State.rd_congr ((State.lossesBooked_parts .regs (by decide)).trans hsys))
  · exact (State.lossesBooked_parts.mono (by simp)).trans (State.mbDataCleared_parts.mono (by simp))

/-- A zeroization books its losses, and then clears. -/
theorem State.zeroize_booked : ∃ d, ZeroBooked s d ∧ s.zeroize cause = d.zeroCleared cause :=
  ⟨_, State.mbDataCleared_booked, State.zeroize_eq⟩

/-- A zeroization clears CMD_MB_DATA and no other register. -/
theorem State.zeroize_regs : OnlyRegs mbDataRegs s (s.zeroize cause) := by
  obtain ⟨d, hbooked, heq⟩ := State.zeroize_booked (s := s) (cause := cause)
  rw [heq]
  exact hbooked.regs

/-- What a zeroization of a cause has cleared in t, with the chiplets that have power in s. -/
structure Cleared (cause : ZeroCause) (s t : State) : Prop where
  zeroizing : t.sec.zeroizing = some cause
  volKey : t.sec.volKey = none
  keyShut : t.sec.keyShut = true
  pkts : t.pkts = []
  buf : t.img.buf = []
  stage : t.img.stage = .empty
  commit : t.img.commitBusy = false
  fault : faultCode fbSys 1 ∈ t.flt.signals
  resident : ∀ c, c < 16 → (t.ledger c).resident = 0
  mesh : ∀ m ∈ t.brt.mesh, m.isRelease = true
  chips : ∀ c : Fin 16, (t.chip c).zeroBusy = s.chipOn c ∧ (t.chip c).packet = {} ∧ (t.chip c).tbl = []

theorem State.chip_ofFn {f : Fin 16 → Chip} (h : t.chips = Vector.ofFn f) (c : Fin 16) : t.chip c = f c := by
  simp [State.chip, h, List.getD]

theorem State.chipOn_congr (h : t.glb = s.glb) : t.chipOn k = s.chipOn k :=
  congrArg (fun g : GlbSt => g.pg.getLsbD (coreDomain k)) h

theorem State.zeroize_cleared : Cleared cause s (s.zeroize cause) := by
  obtain ⟨d, hbooked, heq⟩ := State.zeroize_booked (s := s) (cause := cause)
  have hflt : d.flt = (s.raiseSys 1).flt := hbooked.parts .flt (by decide)
  have hsys : (s.raiseSys 1).glb = s.glb := State.raiseSys_parts (List.Subset.refl _) .refl .glb (by decide)
  have hglb : d.glb = s.glb := (hbooked.parts .glb (by decide)).trans hsys
  rw [heq]
  refine ⟨rfl, rfl, rfl, rfl, rfl, rfl, rfl, ?fault, hbooked.resident, fun m hm => (List.mem_filter.1 hm).2,
    fun c => ?chips⟩
  case fault =>
    have hmem : faultCode fbSys 1 ∈ (s.raiseSys 1).flt.signals := List.mem_append_right _ (List.mem_singleton_self _)
    exact hflt ▸ hmem
  case chips =>
    rw [State.chip_ofFn (t := d.zeroCleared cause) rfl, ← State.chipOn_congr hglb]
    exact ⟨rfl, rfl, rfl⟩

/-- What is cleared stays cleared while only registers, command ports and the wait of a RETIRE change. -/
theorem Cleared.keeps {r : Option MbOwner} (h : Cleared cause s u) (hsec : t.sec = { u.sec with retirePending := r })
    (hparts : OnlyParts [.regs, .cmd, .sec] u t) : Cleared cause s t := by
  have hpkts : t.pkts = u.pkts := hparts .pkts (by decide)
  have himg : t.img = u.img := hparts .img (by decide)
  have hflt : t.flt = u.flt := hparts .flt (by decide)
  have hbrt : t.brt = u.brt := hparts .brt (by decide)
  refine ⟨hsec ▸ h.zeroizing, hsec ▸ h.volKey, hsec ▸ h.keyShut, hpkts ▸ h.pkts, himg ▸ h.buf, himg ▸ h.stage,
    himg ▸ h.commit, hflt ▸ h.fault, fun c hc => ?_, hbrt ▸ h.mesh, fun c => ?_⟩
  · rw [State.ledger_congr hbrt]
    exact h.resident c hc
  · rw [State.chip_congr (hparts .chips (by decide))]
    exact h.chips c

/-- What is cleared depends on the state before by the chiplets that have power alone. -/
theorem Cleared.of_chipOn (h : Cleared cause u t) (hon : ∀ c, u.chipOn c = s.chipOn c) : Cleared cause s t :=
  { h with chips := fun c => hon c ▸ h.chips c }

/-! ### The security state behind the audit log (R539 to R541) -/

/-- The security state without its audit log. -/
def SecSt.unlogged (x : SecSt) : SecSt := { x with sram := [], ring := [], nextSeq := 0, lost := 0, lostNew := 0 }

/-- What is no part of the audit log is decided by the state without it. -/
theorem SecSt.congr_unlogged {α : Type} {f : SecSt → α} {y z : SecSt} (hf : ∀ q : SecSt, f q.unlogged = f q)
    (h : y.unlogged = z.unlogged) : f y = f z := by
  rw [← hf y, h, hf z]

theorem State.auditPut_unlogged {code port : Nat} {detail : Word} :
    (s.auditPut code port cls x detail).sec.unlogged = s.sec.unlogged := by
  unfold State.auditPut
  split <;> rfl

theorem SecSt.auditRepeat_unlogged {y z : SecSt} {now : Clock} {code port : Nat}
    (h : y.auditRepeat now code port cls x = some z) : z.unlogged = y.unlogged := by
  unfold SecSt.auditRepeat at h
  split at h
  · split at h
    · split at h
      · cases h
        rfl
      · cases h
    · split at h
      · cases h
        rfl
      · cases h
    · cases h
  · cases h

/-- An audited event changes the audit log alone. -/
theorem State.audit_unlogged {code port : Nat} {detail : Word} :
    (s.audit code port cls x detail).sec.unlogged = s.sec.unlogged := by
  rw [State.audit_sec]
  cases hrepeat : s.sec.auditRepeat s.tim.dt code port cls x with
  | some z => exact SecSt.auditRepeat_unlogged hrepeat
  | none =>
    rw [Option.getD_none, State.auditNew]
    split
    · exact State.auditPut_unlogged
    · exact State.auditPut_unlogged.trans (State.auditPut_unlogged (s := s))

/-! ### Triggers of zeroization (R536, R538) -/

/-- A trigger is audited (R542). -/
def State.triggerNoted (s : State) (cause : ZeroCause) (n cls : Nat) (x : Word) : State :=
  s.audit 0x25 n cls x (BitVec.ofNat 32 cause.code)

theorem State.triggerNoted_frame : Frame [.sec] [] [] s (s.triggerNoted cause n cls x) := State.audit_frame

theorem State.triggerNoted_parts : OnlyParts [.sec] s (s.triggerNoted cause n cls x) :=
  State.audit_parts (List.Subset.refl _) .refl

theorem State.triggerNoted_zeroizing : (s.triggerNoted cause n cls x).sec.zeroizing = s.sec.zeroizing :=
  SecSt.congr_unlogged (f := SecSt.zeroizing) (fun _ => rfl) State.audit_unlogged

theorem State.triggerNoted_zeroHeld : (s.triggerNoted cause n cls x).sec.zeroHeld = s.sec.zeroHeld :=
  SecSt.congr_unlogged (f := SecSt.zeroHeld) (fun _ => rfl) State.audit_unlogged

/-- A trigger joins a zeroization in progress. -/
theorem State.trigger_joins (h : s.sec.zeroizing ≠ none) :
    (s.trigger cause n cls x).sec.zeroizing = s.sec.zeroizing ∧ (s.trigger cause n cls x).sec.zeroHeld = s.sec.zeroHeld ∧
    OnlyParts [.sec] s (s.trigger cause n cls x) := by
  have hjoins : s.trigger cause n cls x = s.triggerNoted cause n cls x := if_pos (Option.isSome_iff_ne_none.2 h)
  rw [hjoins]
  exact ⟨State.triggerNoted_zeroizing, State.triggerNoted_zeroHeld, State.triggerNoted_parts⟩

/-- A trigger before training is held; a later one does not replace it. -/
theorem State.trigger_waits (h : s.sec.zeroizing = none) (hbefore : s.beforeTraining = true) :
    (s.trigger cause n cls x).sec.zeroizing = none ∧
    (s.trigger cause n cls x).sec.zeroHeld = some (s.sec.zeroHeld.getD cause) ∧
    OnlyParts [.sec] s (s.trigger cause n cls x) := by
  have hheld : s.trigger cause n cls x = { s.triggerNoted cause n cls x with
      sec := { (s.triggerNoted cause n cls x).sec with
        zeroHeld := (s.triggerNoted cause n cls x).sec.zeroHeld.orElse fun _ => some cause } } := by
    rw [State.trigger, if_neg (by simp [h]), if_pos hbefore]
    rfl
  rw [hheld]
  refine ⟨State.triggerNoted_zeroizing.trans h, ?_, .set_sec (by simp) State.triggerNoted_parts⟩
  dsimp only
  rw [State.triggerNoted_zeroHeld]
  cases s.sec.zeroHeld <;> rfl

theorem State.trigger_performed (h : s.sec.zeroizing = none) (hbefore : s.beforeTraining = false) :
    s.trigger cause n cls x = (s.triggerNoted cause n cls x).zeroize cause := by
  rw [State.trigger, if_neg (by simp [h]), if_neg (by simp [hbefore])]
  rfl

/-- Any other trigger is performed at once. -/
theorem State.trigger_cleared (h : s.sec.zeroizing = none) (hbefore : s.beforeTraining = false) :
    Cleared cause s (s.trigger cause n cls x) := by
  have hglb : (s.triggerNoted cause n cls x).glb = s.glb := State.triggerNoted_parts .glb (by decide)
  rw [State.trigger_performed h hbefore]
  exact State.zeroize_cleared.of_chipOn fun _ => State.chipOn_congr hglb

/-- A trigger leaves every register alone but CMD_MB_DATA. -/
theorem State.trigger_regs : OnlyRegs mbDataRegs s (s.trigger cause n cls x) := by
  intro a ha
  have hnoted : (s.triggerNoted cause n cls x).rd a = s.rd a := State.triggerNoted_frame.2.1 a (by simp)
  unfold State.trigger
  dsimp only
  split
  · exact hnoted
  · split
    · exact hnoted
    · exact (State.zeroize_regs a ha).trans hnoted

/-- What a trigger of zeroization does, after a command before which a zeroization is under way, held, or neither. -/
def Triggers (c : Instr) (s : State) (cause : ZeroCause) (ps : List Part) (more : State → Prop) : Prop :=
  (s.sec.zeroizing = none → s.beforeTraining = false → After c s fun t =>
    t.sec.zeroizing = some cause ∧ t.sec.volKey = none ∧ t.sec.keyShut = true ∧ t.pkts = [] ∧ t.img.buf = [] ∧
    t.img.stage = .empty ∧ t.img.commitBusy = false ∧ faultCode fbSys 1 ∈ t.flt.signals ∧
    (∀ c, c < 16 → (t.ledger c).resident = 0) ∧ (∀ m ∈ t.brt.mesh, m.isRelease = true) ∧
    (∀ c : Fin 16, (t.chip c).zeroBusy = s.chipOn c ∧ (t.chip c).packet = {} ∧ (t.chip c).tbl = []) ∧
    OnlyParts ([.ctrs, .sec, .flt, .img, .brt, .pkts, .ports, .chips] ++ ps) s t ∧ more t) ∧
  (s.sec.zeroizing = none → s.beforeTraining = true → After c s fun t =>
    t.sec.zeroizing = none ∧ t.sec.zeroHeld = some (s.sec.zeroHeld.getD cause) ∧ OnlyParts (.sec :: ps) s t ∧ more t) ∧
  (s.sec.zeroizing ≠ none → After c s fun t =>
    t.sec.zeroizing = s.sec.zeroizing ∧ t.sec.zeroHeld = s.sec.zeroHeld ∧ OnlyParts (.sec :: ps) s t ∧ more t)

/-- A command triggers a zeroization where it does so in a state u that it leads to, and then changes only registers, command
ports and the wait of a RETIRE. -/
theorem triggers_of_trigger {more : State → Prop} {r : Option MbOwner} (hexec : exec c s = .next t)
    (hbefore : u.beforeTraining = s.beforeTraining) (hon : ∀ k, u.chipOn k = s.chipOn k) (hpre : OnlyParts ps s u)
    (hnosec : Part.sec ∉ ps) (hregs : Part.regs ∈ ps)
    (hsec : t.sec = { (u.trigger cause n cls x).sec with retirePending := r })
    (hpost : OnlyParts [.regs, .cmd, .sec] (u.trigger cause n cls x) t)
    (hps : OnlyParts (.sec :: ps) (u.trigger cause n cls x) t) (hmore : more t) : Triggers c s cause ps more := by
  have husec : u.sec = s.sec := hpre .sec hnosec
  generalize hv : u.trigger cause n cls x = v at hsec hpost hps
  refine ⟨fun hnone hlate => ?performed, fun hnone hearly => ?held, fun hrunning => ?joins⟩
  case performed =>
    have hcleared : Cleared cause u v := by
      rw [← hv]
      exact State.trigger_cleared (husec ▸ hnone) (hbefore.trans hlate)
    have hparts : OnlyParts ([.ctrs, .sec, .flt, .img, .brt, .pkts, .ports, .chips] ++ ps) u v := by
      rw [← hv]
      exact State.trigger_parts (List.cons_subset.2 ⟨List.mem_append_right _ hregs, List.subset_append_left _ _⟩) .refl
    have hkept : Cleared cause s t := (hcleared.keeps hsec hpost).of_chipOn hon
    have hafter := hps.mono (Q := [.ctrs, .sec, .flt, .img, .brt, .pkts, .ports, .chips] ++ ps)
      (List.cons_subset.2 ⟨by simp, List.subset_append_right _ _⟩)
    exact ⟨t, hexec, hkept.zeroizing, hkept.volKey, hkept.keyShut, hkept.pkts, hkept.buf, hkept.stage, hkept.commit,
      hkept.fault, hkept.resident, hkept.mesh, hkept.chips,
      ((hpre.mono (List.subset_append_right _ _)).trans hparts).trans hafter, hmore⟩
  case held =>
    obtain ⟨hzeroizing, hheld, hparts⟩ : v.sec.zeroizing = none ∧ v.sec.zeroHeld = some (u.sec.zeroHeld.getD cause) ∧
        OnlyParts [.sec] u v := hv ▸ State.trigger_waits (husec ▸ hnone) (hbefore.trans hearly)
    refine ⟨t, hexec, ?_, ?_, ((hpre.mono (by simp)).trans (hparts.mono (by simp))).trans hps, hmore⟩
    · rw [hsec]
      exact hzeroizing
    · rw [hsec, ← husec]
      exact hheld
  case joins =>
    obtain ⟨hzeroizing, hheld, hparts⟩ : v.sec.zeroizing = u.sec.zeroizing ∧ v.sec.zeroHeld = u.sec.zeroHeld ∧
        OnlyParts [.sec] u v := hv ▸ State.trigger_joins (husec ▸ hrunning)
    refine ⟨t, hexec, ?_, ?_, ((hpre.mono (by simp)).trans (hparts.mono (by simp))).trans hps, hmore⟩
    · rw [hsec, ← husec]
      exact hzeroizing
    · rw [hsec, ← husec]
      exact hheld

end Sys2Proof.Machine

/-! SUPPORT. The commands that trigger a zeroization, the ends of fuse operations (R531) and of a zeroization (R337), the
way of the audit log to the NVM (R540), and the settlement of SecurityOperates. -/

namespace Sys2Proof.Machine

open Sys2Proof

variable {s t u d : State} {o : MbOwner} {cause : ZeroCause} {f : FuseOp} {i : Fin 4} {b : BitVec 4} {failed : BitVec 16}
  {n : Nat} {x : Word} {ws : List Word}

theorem State.beforeTraining_congr (h : t.glb = s.glb) : t.beforeTraining = s.beforeTraining := by
  rw [State.beforeTraining, h, State.beforeTraining]

theorem State.trigger_parts_all {cls : Nat} :
    OnlyParts [.regs, .ctrs, .sec, .flt, .img, .brt, .pkts, .ports, .chips] s (s.trigger cause n cls x) :=
  State.trigger_parts (List.Subset.refl _) .refl

/-- A trigger of zeroization by a command at a free mailbox, which then changes registers, command ports and the wait of a
RETIRE. -/
theorem triggers_at_mailbox {c : Instr} {cls : Nat} {more : State → Prop} {r : Option MbOwner} (htaken : MbTaken s u o)
    (hexec : exec c s = .next t) (hsec : t.sec = { (u.trigger cause n cls x).sec with retirePending := r })
    (hpost : OnlyParts [.regs, .cmd, .sec] (u.trigger cause n cls x) t) (hmore : more t) :
    Triggers c s cause [.regs, .cmd] more := by
  have hglb : u.glb = s.glb := htaken.parts .glb (by decide)
  exact triggers_of_trigger hexec (State.beforeTraining_congr hglb) (fun _ => State.chipOn_congr hglb) htaken.parts
    (by decide) (by decide) hsec hpost (hpost.mono (by simp)) hmore

theorem zeroize_triggers (hready : MbReady s o) (hlive : s.sec.lifecycle ≠ .retired) :
    Triggers (.zeroize o.port) s .command [.regs, .cmd] fun t => MbAnswered t o stOk [] := by
  obtain ⟨u, htaken, hsettled⟩ := State.mailbox_security (op := 0x14) (w := []) hready (by omega) (by omega) (by simp)
  have hsec : u.sec = s.sec := htaken.parts .sec (by decide)
  rw [State.mbSecurity_zeroize (hsec ▸ hlive)] at hsettled
  obtain ⟨hanswer, hparts⟩ := hsettled (by decide) (by decide)
  exact triggers_at_mailbox htaken rfl (hparts .sec (by decide)) (hparts.mono (by simp)) hanswer

theorem retire_triggers (hready : MbReady s o) (hlive : s.sec.lifecycle ≠ .retired) (hshut : ¬ Shut s) :
    Triggers (.retire o.port 0xC1E00D1E) s .retire [.regs, .cmd] fun t =>
      MbWaits t o ∧ t.sec.retirePending = some o := by
  obtain ⟨u, htaken, hsettled⟩ :=
    State.mailbox_security (op := 0x15) (w := [0xC1E00D1E]) hready (by omega) (by omega) (by simp)
  have hrun : u.mbSecurity o 0x15 [0xC1E00D1E] =
      ({ u.trigger .retire (portNum o.port) 3 0x15 with
        sec := { (u.trigger .retire (portNum o.port) 3 0x15).sec with retirePending := some o } }, .wait) := by
    rw [State.eq_of_regs_cmd htaken.parts]
    exact Eq.trans (State.mbSecurity_retire hlive) (State.mbRetire_triggers hshut)
  rw [hrun] at hsettled
  have hend : s.mailbox o.port 0x15 [0xC1E00D1E] = { u.trigger .retire (portNum o.port) 3 0x15 with
        sec := { (u.trigger .retire (portNum o.port) 3 0x15).sec with retirePending := some o } } := hsettled
  have hwaits : MbWaits (u.trigger .retire (portNum o.port) 3 0x15) o :=
    htaken.waits.keeps (State.trigger_regs _ ctrl_not_mbData) (State.trigger_parts_all .cmd (by decide))
  exact triggers_at_mailbox htaken (congrArg Host.Outcome.next hend) rfl (.set_sec (by simp) .refl)
    ⟨hwaits.keeps rfl rfl, rfl⟩

/-! ### ZEROIZE_PIN (R536, R612) -/

/-- The level of ZEROIZE_N as a row of the pin shows it. -/
def State.pinMoved (s : State) (n : Nat) : State := { s with glb := { s.glb with zeroizeN := decide (n = 0) } }

theorem zeroizePin_triggers (hn : 450 ≤ n) (hen : s.sec.zpinEn = true) :
    Triggers (.zeroizePin n) s .pin [.regs, .glb] fun t => t.glb = { s.glb with zeroizeN := false } := by
  have hpin : s.zeroizePin n = (s.pinMoved n).trigger .pin 0 0 0 := if_pos ⟨hn, hen⟩
  have hlow : decide (n = 0) = false := decide_eq_false (by omega)
  refine triggers_of_trigger (u := s.pinMoved n) (congrArg Host.Outcome.next hpin) rfl (fun _ => rfl)
    (.set_glb (by simp) .refl) (by decide) (by decide) rfl .refl .refl ?_
  calc ((s.pinMoved n).trigger .pin 0 0 0).glb
      = (s.pinMoved n).glb := State.trigger_parts_all .glb (by decide)
    _ = { s.glb with zeroizeN := false } := by rw [State.pinMoved, hlow]

theorem zeroizePin_level (h : n < 450 ∨ s.sec.zpinEn = false) : After (.zeroizePin n) s fun t =>
    t.glb = { s.glb with zeroizeN := decide (n = 0) } ∧ Frame [.glb] [] [] s t := by
  have hpin : s.zeroizePin n = s.pinMoved n := if_neg fun hboth => by
    obtain hlt | hoff := h
    · omega
    · simp [hoff] at hboth
  exact ⟨_, congrArg Host.Outcome.next hpin, rfl, .of_parts (.set_glb (by simp) .refl) (by decide) (by decide)⟩

/-! ### HALTED -/

theorem State.halt_halted (hs : s.glb.state = .halted) : s.halt b = s := if_pos hs

theorem State.halt_enters (hs : s.glb.state ≠ .halted) : s.halt b =
    { (s.setGState .halted).stopPrism with glb := { (s.setGState .halted).stopPrism.glb with haltCause := b } } := if_neg hs

theorem State.setGState_glb {g : GState} : (s.setGState g).glb = { s.glb with prev := s.glb.state, state := g } :=
  State.irqIf_frame.1 .glb (by decide)

theorem State.stopPrism_frame : Frame [.tim, .slt, .brt] [] [] s s.stopPrism :=
  .of_parts (State.stopPrism_parts (List.Subset.refl _) .refl) (by decide) (by decide)

theorem State.halt_frame : Frame [.cmd, .glb, .tim, .slt, .brt] [Reg.CMD_IRQ_PENDING] [] s (s.halt b) := by
  by_cases hs : s.glb.state = .halted
  · rw [State.halt_halted hs]
    exact .refl
  · rw [State.halt_enters hs]
    exact ((State.setGState_frame.mono (by simp) (List.Subset.refl _) (by simp)).trans
      (State.stopPrism_frame.mono (by simp) (by simp) (by simp))).step (.set_glb (by simp) .refl)

theorem State.halt_state : (s.halt b).glb.state = .halted := by
  by_cases hs : s.glb.state = .halted
  · rw [State.halt_halted hs, hs]
  · rw [State.halt_enters hs]
    exact (congrArg GlbSt.state (State.stopPrism_frame.1 .glb (by decide))).trans State.setGState_state

theorem State.halt_restart : (s.halt b).glb.restart = s.glb.restart := by
  by_cases hs : s.glb.state = .halted
  · rw [State.halt_halted hs]
  · rw [State.halt_enters hs]
    exact (congrArg GlbSt.restart (State.stopPrism_frame.1 .glb (by decide))).trans (by rw [State.setGState_glb])

/-- The entry to HALTED names its cause and stops Prism. -/
theorem State.halt_stops (hs : s.glb.state ≠ .halted) : (s.halt b).glb.haltCause = b ∧ (s.halt b).slt.running = false ∧
    (s.halt b).slt.start = none ∧ (s.halt b).tim.mode = .follow := by
  rw [State.halt_enters hs]
  exact ⟨rfl, rfl, rfl, rfl⟩

theorem State.restartIfReady_idle (hr : s.glb.restart ≠ .waiting) : s.restartIfReady = s := if_neg fun hboth => hr hboth.1

/-! ### FUSE_OPERATION_DONE (R531) -/

/-- A fuse operation that leaves d behind ends: its mailbox answers, and the audit log has it. -/
structure FuseEnded (d t : State) (o : MbOwner) (ws : List Word) : Prop where
  answered : MbAnswered t o stOk ws
  unlogged : t.sec.unlogged = { d.sec with fuse := none }.unlogged
  parts : OnlyParts [.regs, .cmd, .sec] d t

theorem State.fuseEnd_ended {op k : Nat} (hfuse : s.sec.fuse = some (f, o)) (hdone : s.fuseDone f = (d, op, k, ws))
    (hr : d.glb.restart ≠ .waiting) (hws : ws.length ≤ 64) :
    After .fuseOperationDone s fun t => FuseEnded d t o ws := by
  let e : State := { d with sec := { d.sec with fuse := none } }
  have haudit : OnlyParts [.sec] e (e.auditOp o op stOk k) := State.auditOp_parts (List.Subset.refl _) .refl
  have hanswer : OnlyParts [.regs, .cmd] (e.auditOp o op stOk k) ((e.auditOp o op stOk k).answerTo o stOk ws) :=
    State.answerTo_parts (List.Subset.refl _) .refl
  have hparts : OnlyParts [.regs, .cmd, .sec] d ((e.auditOp o op stOk k).answerTo o stOk ws) :=
    (OnlyParts.set_sec (by simp) .refl).trans ((haudit.mono (by simp)).trans (hanswer.mono (by simp)))
  have hend : s.fuseEnd = (e.auditOp o op stOk k).answerTo o stOk ws := by
    unfold State.fuseEnd
    rw [hfuse]
    dsimp only
    rw [hdone]
    refine State.restartIfReady_idle fun hw => hr ?_
    exact (congrArg GlbSt.restart (hparts .glb (by decide))).symm.trans hw
  refine ⟨_, congrArg Host.Outcome.next hend, State.answerTo_answered (by decide) hws, ?_, hparts⟩
  rw [hanswer .sec (by decide)]
  exact State.audit_unlogged

theorem FuseEnded.sec {α : Type} (hend : FuseEnded d t o ws) {g : SecSt → α} (hg : ∀ q : SecSt, g q.unlogged = g q) :
    g t.sec = g { d.sec with fuse := none } := SecSt.congr_unlogged hg hend.unlogged

/-- A key slot that is replaced, and the others. -/
theorem slots_set {y : Vector KeySlot 4} {z : KeySlot} :
    (y.set i z)[i] = z ∧ ∀ k : Fin 4, k ≠ i → (y.set i z)[k] = y[k] :=
  ⟨Vector.getElem_set_self i.isLt, fun k hk => Vector.getElem_set_ne i.isLt k.isLt fun hik => hk (Fin.ext hik.symm)⟩

theorem fuseOperationDone_idle (hnone : s.sec.fuse = none) : Leaves .fuseOperationDone s :=
  congrArg Host.Outcome.next (by rw [State.fuseEnd, hnone])

theorem provision_done {y : Vector Word 12} (hr : s.glb.restart ≠ .waiting)
    (hfuse : s.sec.fuse = some (.provision i y, o)) :
    After .fuseOperationDone s fun t =>
      (t.sec.fuse = none ∧ MbAnswered t o stOk []) ∧ t.sec.slots[i].programmed = true ∧ t.sec.slots[i].hash = y ∧
      (∀ k, k ≠ i → t.sec.slots[k] = s.sec.slots[k]) ∧ OnlyParts [.regs, .cmd, .sec] s t := by
  obtain ⟨t, hexec, hend⟩ := State.fuseEnd_ended hfuse rfl hr (by decide)
  have hslots : t.sec.slots = s.sec.slots.set i { s.sec.slots[i] with hash := y, programmed := true } :=
    hend.sec (g := SecSt.slots) fun _ => rfl
  refine ⟨t, hexec, ⟨hend.sec (g := SecSt.fuse) fun _ => rfl, hend.answered⟩, ?_, ?_, ?_,
    (OnlyParts.set_sec (by simp) .refl).trans hend.parts⟩
  · rw [hslots, slots_set.1]
  · rw [hslots, slots_set.1]
  · rw [hslots]
    exact slots_set.2

theorem revoke_done (hr : s.glb.restart ≠ .waiting) (hfuse : s.sec.fuse = some (.revoke i, o)) :
    After .fuseOperationDone s fun t =>
      (t.sec.fuse = none ∧ MbAnswered t o stOk []) ∧ t.sec.slots[i].revoked = true ∧
      (∀ k, k ≠ i → t.sec.slots[k] = s.sec.slots[k]) ∧ OnlyParts [.regs, .cmd, .sec] s t := by
  obtain ⟨t, hexec, hend⟩ := State.fuseEnd_ended hfuse rfl hr (by decide)
  have hslots : t.sec.slots = s.sec.slots.set i { s.sec.slots[i] with revoked := true } :=
    hend.sec (g := SecSt.slots) fun _ => rfl
  refine ⟨t, hexec, ⟨hend.sec (g := SecSt.fuse) fun _ => rfl, hend.answered⟩, ?_, ?_,
    (OnlyParts.set_sec (by simp) .refl).trans hend.parts⟩
  · rw [hslots, slots_set.1]
  · rw [hslots]
    exact slots_set.2

theorem svn_done {y : BitVec 8} (hr : s.glb.restart ≠ .waiting) (hfuse : s.sec.fuse = some (.svn y, o)) :
    After .fuseOperationDone s fun t =>
      (t.sec.fuse = none ∧ MbAnswered t o stOk []) ∧ t.sec.minSvn = y ∧ t.sec.slots = s.sec.slots ∧
      OnlyParts [.regs, .cmd, .sec] s t := by
  obtain ⟨t, hexec, hend⟩ := State.fuseEnd_ended hfuse rfl hr (by decide)
  exact ⟨t, hexec, ⟨hend.sec (g := SecSt.fuse) fun _ => rfl, hend.answered⟩, hend.sec (g := SecSt.minSvn) fun _ => rfl,
    hend.sec (g := SecSt.slots) fun _ => rfl, (OnlyParts.set_sec (by simp) .refl).trans hend.parts⟩

theorem imageKey_done {y : Vector Word 8} (hr : s.glb.restart ≠ .waiting) (hfuse : s.sec.fuse = some (.imageKey y, o)) :
    After .fuseOperationDone s fun t =>
      (t.sec.fuse = none ∧ MbAnswered t o stOk [Config.keyCheck y.toList]) ∧ t.sec.imageKey = .present y ∧
      t.sec.volKey = (if s.sec.keyShut then s.sec.volKey else some y) ∧ t.sec.slots = s.sec.slots ∧
      OnlyParts [.regs, .cmd, .sec] s t := by
  obtain ⟨t, hexec, hend⟩ := State.fuseEnd_ended hfuse rfl hr (Nat.one_le_ofNat)
  exact ⟨t, hexec, ⟨hend.sec (g := SecSt.fuse) fun _ => rfl, hend.answered⟩, hend.sec (g := SecSt.imageKey) fun _ => rfl,
    hend.sec (g := SecSt.volKey) fun _ => rfl, hend.sec (g := SecSt.slots) fun _ => rfl,
    (OnlyParts.set_sec (by simp) .refl).trans hend.parts⟩

/-- The fuses after a RETIRE (R523). -/
def State.retired (s : State) : State :=
  { s with sec := { s.sec with
      lifecycle := .retired, imageKey := .destroyed, volKey := none
      slots := s.sec.slots.map fun k => { k with revoked := true } } }

theorem retire_done (hr : s.glb.restart ≠ .waiting) (hfuse : s.sec.fuse = some (.retire, o)) :
    After .fuseOperationDone s fun t =>
      (t.sec.fuse = none ∧ MbAnswered t o stOk []) ∧ t.sec.lifecycle = .retired ∧ t.sec.imageKey = .destroyed ∧
      t.sec.volKey = none ∧ t.glb.state = .halted ∧ (∀ k : Fin 4, t.sec.slots[k].revoked = true) ∧
      (s.glb.state ≠ .halted → t.glb.haltCause = 4 ∧ t.slt.running = false) ∧
      OnlyParts [.regs, .cmd, .sec, .glb, .tim, .slt, .brt] s t := by
  have hhalt : OnlyParts [.regs, .cmd, .glb, .tim, .slt, .brt] s.retired (s.retired.halt 4) :=
    State.halt_parts (List.Subset.refl _) .refl
  have hsec : (s.retired.halt 4).sec = s.retired.sec := hhalt .sec (by decide)
  have hr' : (s.retired.halt 4).glb.restart ≠ .waiting := fun hw =>
    hr (Eq.trans (State.halt_restart (s := s.retired)).symm hw)
  obtain ⟨t, hexec, hend⟩ := State.fuseEnd_ended hfuse rfl hr' (by decide)
  have hglb : t.glb = (s.retired.halt 4).glb := hend.parts .glb (by decide)
  have hslots : t.sec.slots = s.sec.slots.map fun k => { k with revoked := true } :=
    (hend.sec (g := SecSt.slots) fun _ => rfl).trans (congrArg SecSt.slots hsec)
  refine ⟨t, hexec, ⟨hend.sec (g := SecSt.fuse) fun _ => rfl, hend.answered⟩,
    (hend.sec (g := SecSt.lifecycle) fun _ => rfl).trans (congrArg SecSt.lifecycle hsec),
    (hend.sec (g := SecSt.imageKey) fun _ => rfl).trans (congrArg SecSt.imageKey hsec),
    (hend.sec (g := SecSt.volKey) fun _ => rfl).trans (congrArg SecSt.volKey hsec),
    (congrArg GlbSt.state hglb).trans State.halt_state, fun k => ?_, fun hs => ?_, ?_⟩
  · rw [hslots, Fin.getElem_fin, Vector.getElem_map]
  · obtain ⟨hcause, hrunning, -, -⟩ := State.halt_stops (s := s.retired) (b := 4) hs
    exact ⟨(congrArg GlbSt.haltCause hglb).trans hcause,
      (congrArg (fun y : SltSt => y.running) (hend.parts .slt (by decide))).trans hrunning⟩
  · exact (OnlyParts.set_sec (by simp) .refl).trans ((hhalt.mono (by simp)).trans (hend.parts.mono (by simp)))

/-! ### ZEROIZATION_DONE (R337, R538) -/

/-- The writing of a zeroization has ended at every chiplet; the fuse steps of a RETIRE that waited for it start (R523). -/
def State.zeroWritten (s : State) (failed : BitVec 16) : State :=
  { s with
    chips := Vector.ofFn fun c => (s.chips[c]).zeroEnd (failed.getLsbD c.val)
    sec := { s.sec with
      zeroizing := none, retirePending := none
      fuse := match s.sec.retirePending with | some o => some (.retire, o) | none => s.sec.fuse } }

/-- The stacks that could not be written are audited. -/
def State.zeroNoted (s : State) (failed : BitVec 16) : State :=
  if failed = 0 then s.zeroWritten failed else (s.zeroWritten failed).audit 0x26 0 0 0 (failed.setWidth 32)

theorem State.zeroNoted_parts : OnlyParts [.sec] (s.zeroWritten failed) (s.zeroNoted failed) := by
  unfold State.zeroNoted
  split
  · exact .refl
  · exact State.audit_parts (by simp) .refl

theorem State.zeroNoted_unlogged : (s.zeroNoted failed).sec.unlogged = (s.zeroWritten failed).sec.unlogged := by
  unfold State.zeroNoted
  split
  · rfl
  · exact State.audit_unlogged

/-- HALT_CAUSE at the end of a zeroization: 4 for that of a RETIRE. -/
def zeroHaltCause (s : State) (cause : ZeroCause) : BitVec 4 :=
  if cause = .retire ∨ s.sec.retirePending ≠ none then 4 else 3

/-- What the end of a zeroization leaves. -/
structure ZeroEnded (s t : State) (failed : BitVec 16) (cause : ZeroCause) : Prop where
  zeroizing : t.sec.zeroizing = none
  retirePending : t.sec.retirePending = none
  state : t.glb.state = .halted
  chips : ∀ c : Fin 16, t.chip c =
    { s.chip c with zeroBusy := false, zeroDone := !failed.getLsbD c, zeroIncomplete := failed.getLsbD c }
  stops : s.glb.state ≠ .halted → t.glb.haltCause = zeroHaltCause s cause ∧ t.slt.running = false ∧
    t.slt.start = none ∧ t.tim.mode = .follow
  frame : Frame [.cmd, .sec, .glb, .tim, .slt, .brt, .chips] [Reg.CMD_IRQ_PENDING] [] s t

theorem State.zeroEnd_halts (hz : s.sec.zeroizing = some cause) (hr : s.glb.restart ≠ .waiting) :
    s.zeroEnd failed = (s.zeroNoted failed).halt (zeroHaltCause s cause) := by
  have hglb : (s.zeroNoted failed).glb = s.glb := State.zeroNoted_parts .glb (by decide)
  have hcause : (if cause = .retire || s.sec.retirePending.isSome then 4 else 3 : BitVec 4) = zeroHaltCause s cause := by
    simp [zeroHaltCause, Option.isSome_iff_ne_none]
  unfold State.zeroEnd
  rw [hz]
  dsimp only
  rw [hcause]
  exact State.restartIfReady_idle fun hw => hr ((congrArg GlbSt.restart hglb).symm.trans (State.halt_restart.symm.trans hw))

theorem zeroizationDone_idle (hnone : s.sec.zeroizing = none) : Leaves (.zeroizationDone failed) s :=
  congrArg Host.Outcome.next (by rw [State.zeroEnd, hnone])

theorem State.chip_eq (c : Fin 16) : s.chip c = s.chips[c] := by
  simp [State.chip, List.getD]

theorem State.zeroEnd_ended (hz : s.sec.zeroizing = some cause) (hr : s.glb.restart ≠ .waiting) :
    ZeroEnded s (s.zeroEnd failed) failed cause := by
  rw [State.zeroEnd_halts hz hr]
  have hnoted := State.zeroNoted_parts (s := s) (failed := failed)
  have hhalt := State.halt_frame (s := s.zeroNoted failed) (b := zeroHaltCause s cause)
  have hsec : ((s.zeroNoted failed).halt (zeroHaltCause s cause)).sec = (s.zeroNoted failed).sec := hhalt.1 .sec (by decide)
  have hglb : (s.zeroNoted failed).glb = s.glb := hnoted .glb (by decide)
  refine ⟨?_, ?_, State.halt_state, fun c => ?_, fun hs => State.halt_stops (hglb ▸ hs), ?_⟩
  · rw [hsec]
    exact SecSt.congr_unlogged (f := SecSt.zeroizing) (fun _ => rfl) State.zeroNoted_unlogged
  · rw [hsec]
    exact SecSt.congr_unlogged (f := SecSt.retirePending) (fun _ => rfl) State.zeroNoted_unlogged
  · rw [State.chip_congr ((hhalt.1 .chips (by decide)).trans (hnoted .chips (by decide))),
      State.chip_ofFn (t := s.zeroWritten failed) rfl, State.chip_eq, Chip.zeroEnd]
  · have hwritten : OnlyParts [.sec, .chips] s (s.zeroNoted failed) :=
      (OnlyParts.set_sec_chips (by simp) (by simp) .refl).trans (hnoted.mono (by simp))
    exact (Frame.of_parts (hwritten.mono (by simp)) (by decide) (by decide)).trans
      (hhalt.mono (by simp) (List.Subset.refl _) (by simp))

/-- The fuse operation in progress at the end of a zeroization: that of a RETIRE that waited, or the one before. -/
theorem State.zeroEnd_fuse (hz : s.sec.zeroizing = some cause) (hr : s.glb.restart ≠ .waiting) :
    (s.zeroEnd failed).sec.fuse = match s.sec.retirePending with | some o => some (.retire, o) | none => s.sec.fuse := by
  rw [State.zeroEnd_halts hz hr]
  have hsec := (State.halt_frame (s := s.zeroNoted failed) (b := zeroHaltCause s cause)).1 .sec (by decide)
  exact (congrArg SecSt.fuse hsec).trans (SecSt.congr_unlogged (f := SecSt.fuse) (fun _ => rfl) State.zeroNoted_unlogged)

/-! ### AUDIT_RECORD_WRITE (R540) -/

theorem auditRecordWrite_moves {r : AuditRec} {rest : List AuditRec} (hsram : s.sec.sram = r :: rest)
    (hnvm : s.thm.nvmOk = true) :
    After .auditRecordWrite s fun t =>
      t.sec = { s.sec with
        sram := rest
        ring := if s.sec.ring.length < 16384 then s.sec.ring ++ [r] else s.sec.ring.drop 1 ++ [r]
        overwritten := if s.sec.ring.length < 16384 then s.sec.overwritten else s.sec.overwritten + 1 } ∧
      Frame [.sec] [] [] s t := by
  refine ⟨_, rfl, ?_, .of_parts (State.auditWrite_parts (by simp) .refl) (by decide) (by decide)⟩
  unfold State.auditWrite
  rw [hsram]
  simp only [hnvm, Bool.not_true, Bool.false_eq_true, if_false]
  by_cases hroom : s.sec.ring.length < 16384
  · simp only [hroom, if_true]
  · simp only [hroom, if_false]

theorem auditRecordWrite_idle (hs : s.sec.sram = [] ∨ s.thm.nvmOk = false) : Leaves .auditRecordWrite s := by
  refine congrArg Host.Outcome.next ?_
  unfold State.auditWrite
  cases hsram : s.sec.sram with
  | nil => rfl
  | cons r rest =>
    have hnvm : s.thm.nvmOk = false := hs.resolve_left (by simp [hsram])
    simp [hnvm]

/-! ### SecurityOperates -/

/-- Settles O57: each operation at a free mailbox is taken, executed and settled, and so ends, starts its fuse operation or
triggers a zeroization as its branch does; the end of a fuse operation, of a zeroization and of an audit record are read from
what they leave. Model choices it rests on: a row that is not due changes nothing (assumption 3), requests over SMP are
carried in a MAILBOX frame (22), SVN_RAISE compares with the image that booted (26), what IMAGE_KEY_SET, RETIRE and ZEROIZE
answer (27), HALT_CAUSE 4 after a RETIRE's zeroization and what a zeroization clears (86), a zeroization held during start-up
(90), the audit of a ZEROIZE refused in RETIRED (103), a fuse operation asked for while one runs (141). -/
theorem securityOperates : Obligations.SecurityOperates := by
  unfold Obligations.SecurityOperates
  refine ⟨fun s o l w hready hretired => ?retired,
    fun s o l w hready hlive => ⟨fun i hslot => ?slot, fun hbad => ?badSlot,
      fun b hopen hfloor hmax hbooted hb => ?svnStarts, fun hrefused => ?svnRefused, fun hopen hkey => ?keyStarts,
      fun hrefused => ?keyRefused, zeroize_triggers hready hlive, retire_triggers hready hlive, fun hmagic => ?badMagic,
      fun hmagic hshut => ?retireRefused⟩,
    fun s => fuseOperationDone_idle,
    fun s o hr => ⟨fun _ _ => provision_done hr, fun _ => revoke_done hr, fun _ => svn_done hr, fun _ => imageKey_done hr,
      retire_done hr⟩,
    fun s n => ⟨zeroizePin_triggers, zeroizePin_level⟩,
    fun s failed => zeroizationDone_idle,
    fun s failed cause hz hr => ?zeroEnded,
    fun s r rest => auditRecordWrite_moves, fun s => auditRecordWrite_idle⟩
  case retired =>
    have refused {op : Nat} {ws : List Word} (hlo : 0x10 ≤ op) (hhi : op < 0x16) (hw : ws.length ≤ 64) :
        OpEnds s (s.mailbox o.port op ws) o op stRefused 0 :=
      State.mailbox_ends hready (fun _ _ => State.mbSecurity_retired hretired hhi) hlo (by omega) hw
    exact ⟨⟨_, rfl, refused (by omega) (by omega) (by simp)⟩, ⟨_, rfl, refused (by omega) (by omega) (by simp)⟩,
      ⟨_, rfl, refused (by omega) (by omega) (by simp)⟩, ⟨_, rfl, refused (by omega) (by omega) (by simp)⟩,
      ⟨_, rfl, refused (by omega) (by omega) (by simp)⟩, ⟨_, rfl, refused (by omega) (by omega) (by simp)⟩⟩
  case slot =>
    refine ⟨fun hfree => ⟨_, rfl, ?_⟩, fun hused => ⟨_, rfl, ?_⟩, fun hopen hleft => ⟨_, rfl, ?_⟩,
      fun hrefused => ⟨_, rfl, ?_⟩⟩
    · exact State.mailbox_starts hready fun _ _ =>
        Eq.trans (State.mbSecurity_provision hlive) (State.mbProvision_starts hslot hfree)
    · exact State.mailbox_ends hready fun _ _ =>
        Eq.trans (State.mbSecurity_provision hlive) (State.mbProvision_refused hslot hused)
    · exact State.mailbox_starts hready fun _ _ =>
        Eq.trans (State.mbSecurity_revoke hlive) (State.mbRevoke_starts hslot hopen hleft)
    · exact State.mailbox_ends hready fun _ _ =>
        Eq.trans (State.mbSecurity_revoke hlive) (State.mbRevoke_refused hslot hrefused)
  case badSlot =>
    refine ⟨⟨_, rfl, ?_⟩, ⟨_, rfl, ?_⟩⟩
    · exact State.mailbox_ends hready fun _ _ =>
        Eq.trans (State.mbSecurity_provision hlive) (State.mbProvision_badArg hbad)
    · exact State.mailbox_ends hready fun _ _ =>
        Eq.trans (State.mbSecurity_revoke hlive) (State.mbRevoke_badArg hbad)
  case svnStarts =>
    exact ⟨_, rfl, State.mailbox_starts hready fun _ _ =>
      Eq.trans (State.mbSecurity_svn hlive) (State.mbSvn_starts hopen hfloor hmax hbooted hb)⟩
  case svnRefused =>
    exact ⟨_, rfl, State.mailbox_ends hready fun _ _ =>
      Eq.trans (State.mbSecurity_svn hlive) (State.mbSvn_refused hrefused)⟩
  case keyStarts =>
    exact ⟨_, rfl, State.mailbox_starts hready fun _ _ =>
      Eq.trans (State.mbSecurity_imageKey hlive) (State.mbImageKey_starts hopen hkey)⟩
  case keyRefused =>
    exact ⟨_, rfl, State.mailbox_ends hready fun _ _ =>
      Eq.trans (State.mbSecurity_imageKey hlive) (State.mbImageKey_refused hrefused)⟩
  case badMagic =>
    exact ⟨_, rfl, State.mailbox_ends hready fun _ _ =>
      Eq.trans (State.mbSecurity_retire hlive) (State.mbRetire_badArg hmagic)⟩
  case retireRefused =>
    subst hmagic
    exact ⟨_, rfl, State.mailbox_ends hready fun _ _ =>
      Eq.trans (State.mbSecurity_retire hlive) (State.mbRetire_refused hshut)⟩
  case zeroEnded =>
    have hfuse := State.zeroEnd_fuse (failed := failed) hz hr
    obtain ⟨hzeroizing, hretire, hstate, hchips, hstops, hframe⟩ :=
      State.zeroEnd_ended (failed := failed) hz hr
    refine ⟨fun o hpending => ⟨_, rfl, ⟨hzeroizing, hretire, hstate, hchips, hstops, hframe⟩, ?_⟩,
      fun hpending => ⟨_, rfl, ⟨hzeroizing, hretire, hstate, hchips, hstops, hframe⟩, ?_⟩⟩
    · rw [hfuse, hpending]
    · rw [hfuse, hpending]

end Sys2Proof.Machine

/-! SUPPORT. Gates (R359 to R362): what a write of a gate list and the parts of a write of QUE_GATE_CTRL do, what the check of the
heads at a takeover keeps, and the settlement of GatesChange. -/

namespace Sys2Proof.Machine

open Sys2Proof

variable {s t u : State} {p : CmdPort} {v w : Word} {a i j k l n o : Nat}

/-! ### Registers of QUE -/

theorem locate_queReg {c : Fin 16} (ho : o < 0x20000) : locate (queReg c o) = some (.que c, o) := by
  obtain ⟨hlow, hhigh, hchip, hoff, hblk⟩ := chipReg_digits (c := c) (a := queReg c o) (b := 4)
    (by simp only [queReg]; omega) ho (by omega)
  simp only [locate, if_neg hlow, if_pos hhigh, hchip, hoff, hblk]

/-- No register of QUE has a locked field. -/
theorem findRow_que_rwl {r : RegRow} (h : findRow (.que i) o = some r) : r.rwl = 0 := by
  simp only [findRow, rowsOf] at h
  exact (by decide : ∀ r ∈ rowsQue, r.rwl = 0) r (List.mem_of_find?_eq_some h)

theorem State.plainWrite_que_frame {k : Fin 512} (ho : o < 0x20000) (ha : a = queReg (chipOf k) o) :
    Frame [] [a] [] s (s.plainWrite p a v) := by
  refine State.plainWrite_frame_of_rwl fun b o' r hl hr => ?_
  have hque := locate_queReg (c := ⟨chipOf k, chipOf_lt k⟩) ho
  obtain ⟨rfl, rfl⟩ := Prod.mk.inj (Option.some.inj (hque.symm.trans (ha ▸ hl)))
  exact findRow_que_rwl hr

/-- A register of a port's window is one of its chiplet. -/
theorem quePort_eq : quePort k o = queReg (chipOf k) (0x1000 + k % 32 * 0x200 + o) := by
  simp only [quePort, queReg, chipOf]
  omega

theorem State.plainWrite_quePort_frame {k : Fin 512} (ho : o < 0x200) :
    Frame [] [quePort k o] [] s (s.plainWrite p (quePort k o) v) :=
  State.plainWrite_que_frame (by omega) quePort_eq

theorem quePort_ne_irqPending : quePort k o ≠ Reg.CMD_IRQ_PENDING := by
  simp only [quePort, Reg.CMD_IRQ_PENDING]
  omega

theorem quePort_inj {o' : Nat} : quePort k o = quePort k o' ↔ o = o' := Nat.add_left_cancel_iff

/-! ### Gate lists (R359) -/

/-- The register of an entry of area x of port k's gate list, or of the length of the area. -/
def gateListReg (k : Fin 512) (x : Fin 2) : Option (Fin 256) → Nat
  | some i => queReg (chipOf k) (Reg.QUE_GATE_LIST + 0x800 * (k.val % 32) + 0x400 * x.val + 4 * i.val)
  | none => quePort k (Reg.QUE_GATE_LEN + 4 * x.val)

section List

variable {k : Fin 512} {x : Fin 2} {e : Option (Fin 256)}

theorem exec_gateListWrite (h : Permitted s p (gateListReg k x e) 1) :
    exec (.gateListWrite p k x e v) s = .next (s.writeGateList p k x (gateListReg k x e) v) := by
  cases e with
  | none => exact congrArg Host.Outcome.next (State.access_permitted h)
  | some i => exact congrArg Host.Outcome.next (State.access_permitted h)

theorem State.plainWrite_gateListReg_frame :
    Frame [] [gateListReg k x e] [] s (s.plainWrite p (gateListReg k x e) v) := by
  cases e with
  | none => exact State.plainWrite_quePort_frame (by simp only [Reg.QUE_GATE_LEN]; omega)
  | some i => exact State.plainWrite_que_frame (by simp only [Reg.QUE_GATE_LIST]; omega) rfl

end List

theorem State.writeGateList_member (h : s.isLead k = false) : s.writeGateList p k j a v = s := if_pos (by simp [h])

theorem State.writeGateList_taken {x : Fin 2} (hlead : s.isLead k = true) (harea : x ≠ (s.port k).gates.oper)
    (hnone : (s.port k).gates.pending = none) : s.writeGateList p k x a v = s.plainWrite p a v := by
  simp [State.writeGateList, hlead, hnone, Fin.val_inj, harea]

theorem State.writeGateList_refused {x : Fin 2} (hlead : s.isLead k = true)
    (h : x = (s.port k).gates.oper ∨ (s.port k).gates.pending ≠ none) :
    s.writeGateList p k x a v = s.wrBit (quePort k Reg.QUE_GATE_CTRL) 11 true := by
  have hbusy : ¬((decide (x.val ≠ (s.port k).gates.oper.val) && (s.port k).gates.pending.isNone) = true) := by
    simpa [Fin.val_inj, or_iff_not_imp_left] using h
  unfold State.writeGateList
  rw [if_neg (by simp [hlead]), if_neg hbusy]

/-! ### Withdrawal and enable (R360, R361) -/

theorem filter_const_true {α : Type} {x : Option α} : x.filter (fun _ => true) = x := by
  cases x with
  | none => rfl
  | some y => exact Option.filter_some_pos rfl

/-- The gates of port k stay or lose something: they stay on where on holds, and a pending change for T stays where keep T holds.
One that is dropped sets CANCELLED and shows no more. -/
structure GatesCut (k : Nat) (on : Bool) (keep : Nat → Bool) (s t : State) : Prop where
  gates : (t.port k).gates =
    { (s.port k).gates with on := (s.port k).gates.on && on, pending := (s.port k).gates.pending.filter keep }
  dropped : (s.port k).gates.pending ≠ none → (s.port k).gates.pending.filter keep = none →
    t.rdBit (quePort k Reg.QUE_GATE_CTRL) 10 = true ∧ t.rdBit (quePort k Reg.QUE_GATE_CTRL) 1 = false
  idle : (s.port k).gates.pending = none → t.rd (quePort k Reg.QUE_GATE_CTRL) = s.rd (quePort k Reg.QUE_GATE_CTRL)
  others : ∀ j, j ≠ k → t.port j = s.port j
  frame : Frame [.ports] [quePort k Reg.QUE_GATE_CTRL] [] s t

theorem GatesCut.refl : GatesCut k true (fun _ => true) s s where
  gates := by rw [Bool.and_true, filter_const_true]
  dropped hsome hnone := absurd (filter_const_true.symm.trans hnone) hsome
  idle _ := rfl
  others _ _ := rfl
  frame := .refl

theorem GatesCut.trans {on on' : Bool} {keep keep' : Nat → Bool} (h : GatesCut k on keep s t) (h' : GatesCut k on' keep' t u) :
    GatesCut k (on && on') (fun n => keep n && keep' n) s u := by
  have hpending : (t.port k).gates.pending = (s.port k).gates.pending.filter keep := congrArg Gates.pending h.gates
  refine ⟨?_, fun hsome hnone => ?_, fun hnone => ?_, fun j hj => (h'.others j hj).trans (h.others j hj),
    h.frame.trans h'.frame⟩
  · rw [h'.gates, h.gates, Option.filter_filter, Bool.and_assoc]
  · by_cases hgone : (t.port k).gates.pending = none
    · have hkept := h'.idle hgone
      have hflags := h.dropped hsome (hpending.symm.trans hgone)
      unfold State.rdBit at hflags ⊢
      rwa [hkept]
    · exact h'.dropped hgone (by rw [hpending, Option.filter_filter, hnone])
  · exact (h'.idle (by rw [hpending, hnone]; rfl)).trans (h.idle hnone)

/-- A pending change is dropped. -/
theorem GatesCut.dropGateChange : GatesCut k true (fun _ => false) s (s.dropGateChange k) := by
  unfold State.dropGateChange
  dsimp only
  by_cases hsome : (s.port k).gates.pending.isSome = true
  · rw [if_pos hsome]
    refine ⟨?_, fun _ _ => ⟨State.wrBit_rdBit_same (by omega), ?_⟩, fun hnone => ?_, fun j hj => ?_, ?_⟩
    · rw [State.wrBit_port, State.wrBit_port, State.setPort_port_same]
      simp
    · exact (State.wrBit_rdBit_other (by omega)).trans (State.wrBit_rdBit_same (by omega))
    · simp [hnone] at hsome
    · rw [State.wrBit_port, State.wrBit_port, State.setPort_port_other hj]
    · exact ((Frame.refl.step (State.setPort_parts (by simp) .refl)).wrBit (by simp)).wrBit (by simp)
  · have hnone : (s.port k).gates.pending = none := by simpa using hsome
    rw [if_neg hsome]
    refine ⟨?_, fun hpend => absurd hnone hpend, fun _ => rfl, fun _ _ => rfl, .refl⟩
    rw [Bool.and_true, hnone, Option.filter_none, ← hnone]

/-- A CANCEL drops the change where its T is ahead. -/
theorem GatesCut.gateCancel :
    GatesCut k true (fun n => !decide (s.tim.dt.units < n * 4294967296)) s (s.gateCancel k) := by
  have hkeep {keep keep' : Nat → Bool} {x : State} (h : GatesCut k true keep s x)
      (heq : (s.port k).gates.pending.filter keep = (s.port k).gates.pending.filter keep') : GatesCut k true keep' s x :=
    ⟨heq ▸ h.gates, heq ▸ h.dropped, h.idle, h.others, h.frame⟩
  unfold State.gateCancel
  cases hpend : (s.port k).gates.pending with
  | none => exact hkeep .refl (by rw [hpend, Option.filter_none, Option.filter_none])
  | some n =>
    dsimp only
    by_cases hearly : s.tim.dt.units < n * 4294967296
    · rw [if_pos hearly]
      exact hkeep .dropGateChange (by rw [hpend, Option.filter_some_neg rfl, Option.filter_some_neg (by simp [hearly])])
    · rw [if_neg hearly]
      exact hkeep .refl (by rw [hpend, Option.filter_some_pos rfl, Option.filter_some_pos (by simp [hearly])])

/-- The gates are switched off: every gate is open. -/
theorem GatesCut.off : GatesCut k false (fun _ => true) s
    (s.setPort k { s.port k with gates := { (s.port k).gates with on := false } }) where
  gates := by rw [State.setPort_port_same, Bool.and_false, filter_const_true]
  dropped hsome hnone := absurd (filter_const_true.symm.trans hnone) hsome
  idle _ := rfl
  others _ hj := State.setPort_port_other hj
  frame := .of_parts (State.setPort_parts (by simp) .refl) (by decide) (by decide)

/-- CANCEL and then GATE_EN of a word, before its REQ. -/
def State.gatesCut (s : State) (k : Nat) (w : Word) : State :=
  let s2 := if bit w 2 then s.gateCancel k else s
  if bit w 0 then s2
  else (s2.dropGateChange k).setPort k
    { (s2.dropGateChange k).port k with gates := { ((s2.dropGateChange k).port k).gates with on := false } }

/-- What a word without REQ leaves of a pending change for T (R360, R361). -/
def State.keepsChange (s : State) (w : Word) (n : Nat) : Bool :=
  bit w 0 && !(bit w 2 && decide (s.tim.dt.units < n * 4294967296))

theorem State.gatesCut_cut : GatesCut k (bit w 0) (s.keepsChange w) s (s.gatesCut k w) := by
  have hcancel : GatesCut k true (fun n => !(bit w 2 && decide (s.tim.dt.units < n * 4294967296))) s
      (if bit w 2 then s.gateCancel k else s) := by
    cases bit w 2 with
    | true => simpa only [Bool.true_and, if_true] using GatesCut.gateCancel
    | false => simpa only [Bool.false_and, Bool.not_false, Bool.false_eq_true, if_false] using GatesCut.refl
  unfold State.gatesCut State.keepsChange
  cases bit w 0 with
  | true => simpa only [Bool.true_and, if_true] using hcancel
  | false => simpa only [Bool.false_and, Bool.and_false, Bool.true_and, Bool.false_eq_true, if_false] using
      hcancel.trans (GatesCut.dropGateChange.trans .off)

/-! ### REQ (R360) -/

/-- The device time that a gate change request names, in ns. -/
abbrev State.gateAt (s : State) (k : Nat) : Nat :=
  s.atTime (quePort k Reg.QUE_GATE_AT_SEC_LO) (quePort k Reg.QUE_GATE_AT_SEC_HI) (quePort k Reg.QUE_GATE_AT_NS)

/-- The named time is less than 10 us ahead. -/
abbrev State.gateLate (s : State) (k : Nat) : Prop :=
  (s.gateAt k : Int) * 4294967296 - s.tim.dt.units < 10000 * 4294967296

/-- The refusal bits of a gate change request. -/
def State.gateRefusals (s : State) (k : Nat) : List Nat :=
  (if (s.port k).gates.pending.isSome then [8] else []) ++ if s.gateLate k then [9] else []

theorem State.mem_gateRefusals_pending (h : (s.port k).gates.pending ≠ none) : 8 ∈ s.gateRefusals k :=
  List.mem_append_left _ (mem_ite_singleton (Option.isSome_iff_ne_none.2 h))

theorem State.mem_gateRefusals_late (h : s.gateLate k) : 9 ∈ s.gateRefusals k :=
  List.mem_append_right _ (mem_ite_singleton h)

theorem State.gateRequest_accepted (hnone : (s.port k).gates.pending = none) (hahead : ¬s.gateLate k) :
    s.gateRequest k = (s.setPort k { s.port k with gates := { (s.port k).gates with pending := some (s.gateAt k) } }).wrBit
      (quePort k Reg.QUE_GATE_CTRL) 1 true :=
  if_neg (by simpa [hnone] using hahead)

/-- A request that breaks a condition sets the bit of each. -/
theorem State.gateRequest_refused (h : (s.port k).gates.pending ≠ none ∨ s.gateLate k) : s.gateRequest k =
    ((s.gateRefusals k).foldl (fun t b => t.wrBit (quePort k Reg.QUE_GATE_CTRL) b true) s).irqIf
      (queReg (chipOf k) Reg.QUE_CTRL) 0 (16 + chipOf k) := by
  have single {c : Prop} [Decidable c] {u : State} {b : Nat} :
      (if c then [b] else []).foldl (fun t b => t.wrBit (quePort k Reg.QUE_GATE_CTRL) b true) u =
        if c then u.wrBit (quePort k Reg.QUE_GATE_CTRL) b true else u := by
    split <;> rfl
  refine (if_pos ?_).trans ?_
  · simpa [Option.isSome_iff_ne_none] using h
  · rw [State.gateRefusals, List.foldl_append, single, single]
    simp only [decide_eq_true_eq]

theorem State.gateRequest_refused_frame (h : (s.port k).gates.pending ≠ none ∨ s.gateLate k) :
    Frame [.cmd] [quePort k Reg.QUE_GATE_CTRL, Reg.CMD_IRQ_PENDING] [] s (s.gateRequest k) := by
  rw [State.gateRequest_refused h]
  exact (foldl_wrBit_frame.mono (by simp) (by simp) (by simp)).trans (State.irqIf_frame.mono (by simp) (by simp) (by simp))

/-- The bits that apply are set, and the bits that are set stay. -/
theorem State.gateRequest_refused_bit (h : (s.port k).gates.pending ≠ none ∨ s.gateLate k)
    (hi : i ∈ s.gateRefusals k ∨ s.rdBit (quePort k Reg.QUE_GATE_CTRL) i = true) (hlt : i < 32) :
    (s.gateRequest k).rdBit (quePort k Reg.QUE_GATE_CTRL) i = true := by
  rw [State.gateRequest_refused h,
    State.rdBit_of_frame State.irqIf_frame (List.mem_singleton.not.2 quePort_ne_irqPending)]
  exact foldl_wrBit_rdBit hi hlt

/-! ### QUE_GATE_CTRL (R360, R361, R628) -/

theorem exec_gateCtrl {k : Fin 512} (h : Permitted s p (quePort k Reg.QUE_GATE_CTRL) 1) :
    exec (.gateReq p k v) s = .next (s.writeGateCtrl p k (withBit v 1)) ∧
    exec (.gateCancel p k v) s = .next (s.writeGateCtrl p k (withBit v 2)) ∧
    exec (.gateEnWrite p k v) s = .next (s.writeGateCtrl p k v) :=
  ⟨congrArg Host.Outcome.next (State.access_permitted h), congrArg Host.Outcome.next (State.access_permitted h),
    congrArg Host.Outcome.next (State.access_permitted h)⟩

theorem State.writeGateCtrl_member (h : s.isLead k = false) : s.writeGateCtrl p k w = s := if_pos (by simp [h])

theorem State.writeGateCtrl_lead (h : s.isLead k = true) (hw : s.plainWrite p (quePort k Reg.QUE_GATE_CTRL) w = u) :
    s.writeGateCtrl p k w = if bit w 1 then (u.gatesCut k w).gateRequest k else u.gatesCut k w := by
  subst hw
  exact if_neg (by simp [h])

/-- The gates of port k after a write of QUE_GATE_CTRL that leaves of a pending change what keep says, with the change that is
pending then. -/
structure GatesWritten (k : Nat) (on : Bool) (keep : Nat → Bool) (pending : Option Nat) (s t : State) : Prop where
  gates : (t.port k).gates = { (s.port k).gates with on := (s.port k).gates.on && on, pending := pending }
  cancelled : (s.port k).gates.pending ≠ none → (s.port k).gates.pending.filter keep = none →
    t.rdBit (quePort k Reg.QUE_GATE_CTRL) 10 = true
  others : ∀ j, j ≠ k → t.port j = s.port j
  frame : Frame [.cmd, .ports] [quePort k Reg.QUE_GATE_CTRL, Reg.CMD_IRQ_PENDING] [] s t

section Written

variable {on : Bool} {keep : Nat → Bool} {pending : Option Nat}

/-- The plain part of the write comes before what the word cuts. -/
theorem GatesCut.of_written (hframe : Frame [] [quePort k Reg.QUE_GATE_CTRL] [] s u) (h : GatesCut k on keep u t) :
    GatesWritten k on keep ((s.port k).gates.pending.filter keep) s t := by
  have hport (j : Nat) : u.port j = s.port j := State.port_congr (hframe.1 .ports (by simp))
  obtain ⟨hgates, hdropped, -, hothers, hkept⟩ := h
  rw [hport] at hgates hdropped
  exact ⟨hgates, fun hsome hnone => (hdropped hsome hnone).1, fun j hj => (hothers j hj).trans (hport j),
    (hframe.mono (by simp) (by simp) (by simp)).trans (hkept.mono (by simp) (by simp) (by simp))⟩

theorem GatesWritten.pending_eq (h : GatesWritten k on keep pending s t) : (t.port k).gates.pending = pending :=
  congrArg Gates.pending h.gates

theorem GatesWritten.gateAt (h : GatesWritten k on keep pending s t) : t.gateAt k = s.gateAt k := by
  have hat {o : Nat} (ho : o ≠ Reg.QUE_GATE_CTRL) : t.rd (quePort k o) = s.rd (quePort k o) :=
    h.frame.2.1 _ (by simpa [quePort_ne_irqPending, quePort_inj] using ho)
  simp only [State.gateAt, State.atTime, State.rdFld, hat (o := Reg.QUE_GATE_AT_SEC_LO) (by decide),
    hat (o := Reg.QUE_GATE_AT_SEC_HI) (by decide), hat (o := Reg.QUE_GATE_AT_NS) (by decide)]

theorem GatesWritten.gateLate (h : GatesWritten k on keep pending s t) : t.gateLate k ↔ s.gateLate k := by
  have htim : t.tim = s.tim := h.frame.1 .tim (by simp)
  rw [State.gateLate, h.gateAt, htim]

theorem GatesWritten.accepted (h : GatesWritten k on keep none s t) (hahead : ¬s.gateLate k) :
    GatesWritten k on keep (some (s.gateAt k)) s (t.gateRequest k) ∧
    (t.gateRequest k).rdBit (quePort k Reg.QUE_GATE_CTRL) 1 = true := by
  rw [State.gateRequest_accepted h.pending_eq (h.gateLate.not.2 hahead), h.gateAt]
  refine ⟨⟨?_, fun hsome hnone => ?_, fun j hj => ?_, ?_⟩, State.wrBit_rdBit_same (by omega)⟩
  · rw [State.wrBit_port, State.setPort_port_same, h.gates]
  · exact (State.wrBit_rdBit_other (by omega)).trans (h.cancelled hsome hnone)
  · rw [State.wrBit_port, State.setPort_port_other hj, h.others j hj]
  · exact (h.frame.step (State.setPort_parts (by simp) .refl)).wrBit (by simp)

theorem GatesWritten.refused (h : GatesWritten k on keep pending s t) (hrefused : pending ≠ none ∨ s.gateLate k) :
    GatesWritten k on keep pending s (t.gateRequest k) ∧
    (pending ≠ none → (t.gateRequest k).rdBit (quePort k Reg.QUE_GATE_CTRL) 8 = true) ∧
    (s.gateLate k → (t.gateRequest k).rdBit (quePort k Reg.QUE_GATE_CTRL) 9 = true) := by
  have hrefused_t : (t.port k).gates.pending ≠ none ∨ t.gateLate k := by rwa [h.pending_eq, h.gateLate]
  have hframe := State.gateRequest_refused_frame hrefused_t
  have hport (j : Nat) : (t.gateRequest k).port j = t.port j := State.port_congr (hframe.1 .ports (by simp))
  refine ⟨⟨?_, fun hsome hnone => ?_, fun j hj => ?_, h.frame.trans (hframe.mono (by simp) (by simp) (by simp))⟩,
    fun hsome => ?_, fun hlate => ?_⟩
  · rw [hport, h.gates]
  · exact State.gateRequest_refused_bit hrefused_t (.inr (h.cancelled hsome hnone)) (by omega)
  · rw [hport, h.others j hj]
  · exact State.gateRequest_refused_bit hrefused_t (.inl (State.mem_gateRefusals_pending (by rwa [h.pending_eq]))) (by omega)
  · exact State.gateRequest_refused_bit hrefused_t (.inl (State.mem_gateRefusals_late (h.gateLate.2 hlate))) (by omega)

end Written

/-! ### GATE_TAKEOVER (R360, R361, R363) -/

/-- What a check of heads keeps: ports but for their deficits, and every register but the pending interrupts. -/
structure HeadsChecked (s t : State) : Prop where
  ports : ∀ j, t.port j = { s.port j with qDef := (t.port j).qDef, clsDef := (t.port j).clsDef }
  regs : OnlyRegs [Reg.CMD_IRQ_PENDING] s t

theorem HeadsChecked.gates (h : HeadsChecked s t) (j : Nat) : (t.port j).gates = (s.port j).gates := by rw [h.ports j]

theorem HeadsChecked.refl : HeadsChecked s s := ⟨fun _ => rfl, fun _ _ => rfl⟩

theorem HeadsChecked.trans (h : HeadsChecked s t) (h' : HeadsChecked t u) : HeadsChecked s u :=
  ⟨fun j => (h'.ports j).trans (by rw [h.ports j]), fun b hb => (h'.regs b hb).trans (h.regs b hb)⟩

theorem HeadsChecked.foldl {α : Type} {f : State → α → State} {xs : List α} (h : ∀ u x, HeadsChecked u (f u x)) :
    HeadsChecked s (xs.foldl f s) := by
  induction xs generalizing s with
  | nil => exact .refl
  | cons x xs ih => exact (h s x).trans ih

/-- An operation on packets, chiplets, burst transport and interrupts. -/
theorem HeadsChecked.of_frame {cs : List Nat}
    (h : Frame [.cmd, .brt, .pkts, .chips] [Reg.CMD_IRQ_PENDING] cs s t) : HeadsChecked s t :=
  ⟨fun j => by rw [State.port_congr (h.1 .ports (by simp))], h.2.1⟩

theorem State.loseDeficit_eq {cls fg : Nat} : ∃ q d, s.loseDeficit k cls fg =
    s.setPort (s.lead k) { s.port (s.lead k) with qDef := q, clsDef := d } := ⟨_, _, rfl⟩

theorem HeadsChecked.loseDeficit {cls fg : Nat} : HeadsChecked s (s.loseDeficit k cls fg) := by
  obtain ⟨q, d, heq⟩ := State.loseDeficit_eq (s := s) (k := k) (cls := cls) (fg := fg)
  rw [heq]
  refine ⟨fun j => ?_, fun _ _ => State.setPort_rd⟩
  by_cases hj : j = s.lead k
  · rw [hj, State.setPort_port_same]
  · rw [State.setPort_port_other hj]

/-- A head that no window admits is discarded. -/
theorem HeadsChecked.headDiscarded {q : List (Nat × List SegRef)} {segs : List SegRef} {cls fg : Nat} :
    HeadsChecked s (((((s.setQueue k cls fg q).loseDeficit k cls fg).discardEgress k n drOversize segs).bump
      (quePort l 0x1C0) 1).irqIf (queReg (chipOf k) Reg.QUE_CTRL) 1 (16 + chipOf k)) := by
  have hqueue : HeadsChecked s (s.setQueue k cls fg q) :=
    .of_frame (cs := []) (.of_parts (State.setQueue_parts (by simp) .refl) (by simp) (by simp))
  have hdiscard {v : State} : HeadsChecked v (((v.discardEgress k n drOversize segs).bump (quePort l 0x1C0) 1).irqIf
      (queReg (chipOf k) Reg.QUE_CTRL) 1 (16 + chipOf k)) :=
    .of_frame (((Frame.refl.step (State.discardEgress_parts (by simp) .refl)).bump (List.mem_singleton_self _)).irqIf (by simp)
      (by simp))
  exact hqueue.trans (HeadsChecked.loseDeficit.trans hdiscard)

theorem HeadsChecked.headCheck {cls fg f : Nat} : HeadsChecked s (s.headCheck k cls fg f) := by
  induction f generalizing s with
  | zero => exact .refl
  | succ f ih =>
    simp only [State.headCheck]
    split
    · exact .refl
    · split
      · exact HeadsChecked.headDiscarded.trans ih
      · exact .refl

theorem HeadsChecked.checkHeads : HeadsChecked s (s.checkHeads l) :=
  .foldl fun _ _ => .foldl fun _ _ => .foldl fun _ _ => .headCheck

/-- The gates after a takeover at T: the other area is operational from its entry 0, under GATE_EN as it stands. -/
def Gates.takenOver (g : Gates) (on : Bool) (n : Nat) : Gates :=
  { g with on := on, oper := g.oper + 1, entry := 0, since := n, pending := none }

/-- The gates are taken over, before the heads are checked. -/
def State.gatesTaken (s : State) (k n : Nat) : State :=
  ((s.setPort k { s.port k with
    gates := (s.port k).gates.takenOver (s.rdBit (quePort k Reg.QUE_GATE_CTRL) 0) n }).wrBit
      (quePort k Reg.QUE_GATE_CTRL) 1 false).irqIf (queReg (chipOf k) Reg.QUE_CTRL) 0 (16 + chipOf k)

theorem State.gateTakeover_due (hpend : (s.port k).gates.pending = some n) (hdue : n * 4294967296 ≤ s.tim.dt.units) :
    s.gateTakeover k = (s.gatesTaken k n).checkHeads k := by
  rw [State.gateTakeover, hpend]
  exact if_pos hdue

theorem State.gateTakeover_waits (h : ∀ n, (s.port k).gates.pending = some n → s.tim.dt.units < n * 4294967296) :
    s.gateTakeover k = s := by
  unfold State.gateTakeover
  cases hpend : (s.port k).gates.pending with
  | none => simp only [hpend]
  | some n =>
    simp only [hpend]
    exact if_neg (Nat.not_le.2 (h n hpend))

theorem State.gatesTaken_irq : Frame [.cmd] [Reg.CMD_IRQ_PENDING] []
    ((s.setPort k { s.port k with
      gates := (s.port k).gates.takenOver (s.rdBit (quePort k Reg.QUE_GATE_CTRL) 0) n }).wrBit
        (quePort k Reg.QUE_GATE_CTRL) 1 false) (s.gatesTaken k n) :=
  State.irqIf_frame

theorem State.gatesTaken_gates : ((s.gatesTaken k n).port k).gates =
    (s.port k).gates.takenOver (s.rdBit (quePort k Reg.QUE_GATE_CTRL) 0) n := by
  rw [State.port_congr (State.gatesTaken_irq.1 .ports (by simp)), State.wrBit_port, State.setPort_port_same]

theorem State.gatesTaken_port_other (hj : j ≠ k) : (s.gatesTaken k n).port j = s.port j := by
  rw [State.port_congr (State.gatesTaken_irq.1 .ports (by simp)), State.wrBit_port, State.setPort_port_other hj]

theorem State.gatesTaken_pending : (s.gatesTaken k n).rdBit (quePort k Reg.QUE_GATE_CTRL) 1 = false :=
  (State.rdBit_of_frame State.gatesTaken_irq (List.mem_singleton.not.2 quePort_ne_irqPending)).trans
    (State.wrBit_rdBit_same (by omega))

/-! ### GATE_ENTRY_ADVANCE (R362) -/

/-- The end of the interval in force, in ns. -/
abbrev State.gateStop (s : State) (k : Nat) : Nat :=
  (s.port k).gates.since + s.gateInterval k (s.port k).gates.oper (s.port k).gates.entry

theorem State.gateAdvance_due (hon : (s.port k).gates.on = true) (hdue : s.gateStop k * 4294967296 ≤ s.tim.dt.units) :
    s.gateAdvance k = s.setPort k { s.port k with gates := { (s.port k).gates with
      entry := ((s.port k).gates.entry + 1) % s.gateLen k (s.port k).gates.oper, since := s.gateStop k } } :=
  if_pos (by simp [hon, hdue])

theorem State.gateAdvance_waits (h : (s.port k).gates.on = false ∨ s.tim.dt.units < s.gateStop k * 4294967296) :
    s.gateAdvance k = s := by
  refine if_neg fun hdue => ?_
  obtain ⟨hon, hstop⟩ := Bool.and_eq_true_iff.1 hdue
  obtain hoff | hearly := h
  · exact Bool.false_ne_true (hoff.symm.trans hon)
  · exact absurd (of_decide_eq_true hstop) (Nat.not_le.2 hearly)

/-! ### GatesChange -/

/-- Settles O40: a write of QUE_GATE_CTRL by what its CANCEL and its GATE_EN leave of the gates and then by its REQ, read past the
plain part of the write; a list write by its area; a takeover by the gates taken over, which the check of the heads keeps.
Model choices it rests on: a write of a request bit is the command (assumption 20), a row that is not due changes nothing (3). -/
theorem gatesChange : Obligations.GatesChange := by
  unfold Obligations.GatesChange
  intro wrote
  have hwrote {s : State} {p : CmdPort} {k : Fin 512} {i : Instr} {w : Word}
      (hexec : exec i s = .next (s.writeGateCtrl p k w)) (hlead : s.isLead k = true) : wrote i s k w := by
    have hframe : Frame [] [quePort k Reg.QUE_GATE_CTRL] [] s (s.plainWrite p (quePort k Reg.QUE_GATE_CTRL) w) :=
      State.plainWrite_quePort_frame (by decide)
    generalize hw : s.plainWrite p (quePort k Reg.QUE_GATE_CTRL) w = u at hframe
    have hcut := State.gatesCut_cut (s := u) (k := k) (w := w)
    have hkeep : u.keepsChange w = s.keepsChange w := by
      unfold State.keepsChange
      rw [hframe.1 .tim (by simp)]
    have hport : u.port k = s.port k := State.port_congr (hframe.1 .ports (by simp))
    rw [State.writeGateCtrl_lead hlead hw] at hexec
    rw [hkeep] at hcut
    have hwritten := hcut.of_written hframe
    refine ⟨fun hreq hold hahead => ?accepted, fun hreq hrefused => ?refused, fun hreq => ?noReq⟩
    case accepted =>
      rw [if_pos hreq] at hexec
      obtain ⟨⟨hgates, hcancelled, hothers, hkept⟩, hbit⟩ := (hold ▸ hwritten).accepted hahead
      exact ⟨_, hexec, ⟨hgates, hcancelled, hothers, hkept⟩, hbit⟩
    case refused =>
      rw [if_pos hreq] at hexec
      obtain ⟨⟨hgates, hcancelled, hothers, hkept⟩, hbusy, hlate⟩ := hwritten.refused hrefused
      exact ⟨_, hexec, ⟨hgates, hcancelled, hothers, hkept⟩, hbusy, hlate⟩
    case noReq =>
      rw [if_neg (by simp [hreq])] at hexec
      obtain ⟨hgates, hcancelled, hothers, hkept⟩ := hwritten
      exact ⟨_, hexec, ⟨hgates, hcancelled, hothers, hkept⟩,
        fun hsome hnone => (hcut.dropped (by rwa [hport]) (by rwa [hport])).2⟩
  refine ⟨?ctrl, ?list, ?takeover, ?noTakeover, ?advance⟩
  case ctrl =>
    intro s p k v hperm
    obtain ⟨hreq, hcancel, hen⟩ := exec_gateCtrl (v := v) hperm
    refine ⟨fun hlead => ⟨hwrote hreq hlead, hwrote hcancel hlead, hwrote hen hlead⟩, fun hmember => ?_⟩
    have hsame {w : Word} : s.writeGateCtrl p k w = s := State.writeGateCtrl_member hmember
    exact ⟨hreq.trans (congrArg _ hsame), hcancel.trans (congrArg _ hsame), hen.trans (congrArg _ hsame)⟩
  case list =>
    intro s p k x e v a ha hperm
    obtain rfl : a = gateListReg k x e := ha.trans (by cases e <;> rfl)
    have hexec := exec_gateListWrite (v := v) hperm
    exact ⟨fun hlead harea hnone => ⟨_,
        hexec.trans (congrArg Host.Outcome.next (State.writeGateList_taken hlead harea hnone)), rfl,
        State.plainWrite_gateListReg_frame⟩,
      fun hlead hrefused => ⟨_, hexec.trans (congrArg Host.Outcome.next (State.writeGateList_refused hlead hrefused)),
        State.wrBit_rdBit_same (by omega), Frame.refl.wrBit (List.mem_singleton_self _)⟩,
      fun hmember => hexec.trans (congrArg Host.Outcome.next (State.writeGateList_member hmember))⟩
  case takeover =>
    intro s k n hpend hdue
    have hchecked := HeadsChecked.checkHeads (s := s.gatesTaken k n) (l := k)
    have hgates := (hchecked.gates k).trans State.gatesTaken_gates
    have hctrl := hchecked.regs (quePort k Reg.QUE_GATE_CTRL) (List.mem_singleton.not.2 quePort_ne_irqPending)
    have heq := State.gateTakeover_due hpend hdue
    exact ⟨_, congrArg Host.Outcome.next heq, hgates, (congrArg (bit · 1) hctrl).trans State.gatesTaken_pending,
      fun j hj => (hchecked.ports j).trans (by rw [State.gatesTaken_port_other hj]),
      heq ▸ State.gateTakeover_parts (List.Subset.refl _) .refl⟩
  case noTakeover => exact fun s k h => congrArg Host.Outcome.next (State.gateTakeover_waits h)
  case advance =>
    intro s k
    exact ⟨fun hon hdue => ⟨_, congrArg Host.Outcome.next (State.gateAdvance_due hon hdue), State.setPort_port_same,
      fun j hj => State.setPort_port_other hj, .of_parts (State.setPort_parts (by simp) .refl) (by decide) (by decide)⟩,
      fun h => congrArg Host.Outcome.next (State.gateAdvance_waits h)⟩

end Sys2Proof.Machine
